-- ==== Sys2Proof/Word.lean ====
section
/-! DEFINITION. The word and the byte of the register space. -/
namespace Sys2Proof

/-- A register word: every register is 32 bits wide (R4). -/
abbrev Word := BitVec 32

/-- One byte of a frame or of a bus transaction. -/
abbrev Byte := BitVec 8

end Sys2Proof
end

