-- ==== Sys2Proof/Syntax.lean ====
section
/-! DEFINITION. The commands of the block and the types of their operands. -/
namespace Sys2Proof

/-- The masters of the register space: PCIe, SPI-A, SPI-B, I2C and the field firmware (R105). -/
inductive Master where
  | m0 | m1 | m2 | m3 | m4
  deriving DecidableEq, Repr

/-- The number of a master. -/
def Master.num : Master → Nat
  | .m0 => 0 | .m1 => 1 | .m2 => 2 | .m3 => 3 | .m4 => 4

/-- What a channel detector of the clock fabric measures beyond its threshold (R68). -/
inductive HsKind where
  | ratio | volt | temp
  deriving DecidableEq, Repr

/-- What one background calibration window finds on one channel (R147): the corrections it works towards, the image
level it leaves, and whether the input power was below −40 dBFS. -/
structure CalObs where
  offset : Int
  gain : Int
  skew : Int
  image : BitVec 8
  low : Bool
  deriving DecidableEq, Repr

/-- What a JTAG instruction asks for (R386). -/
inductive JtagAct where
  | halt (core : Fin 4) | resume (core : Fin 4) | step (core : Fin 4) | access (core : Fin 4) | boundaryScan (on : Bool)
  /-- Memory of the application cores by byte address: a word read or written. -/
  | memRead (a : Fin 3145728) | memWrite (a : Fin 3145728) (v : Word)
  /-- INTEST, internal scan, the instructions that are always available, and the nonce in SEC_CHAL. -/
  | intest (on : Bool) | scan (on : Bool) | bypass | idcode | sample | secChal (ftm : Bool)
  deriving DecidableEq, Repr

/-- One bin's spectra of an analysis frame, in 10^−15 of full scale: powers of reference, receive and residual, and the cross-spectra of
receive and residual with the reference, real and imaginary part (R220). -/
structure BinEst where
  bin : Fin 512
  ref : Nat
  rx : Nat
  res : Nat
  xrx : Int × Int
  xres : Int × Int
  deriving DecidableEq, Repr

/-- The measurements of a loop at a period start, in Q3.28, none where a measurement is not valid (R236, R237). -/
structure LoopObs where
  loop : Fin 544
  y0 : Option Int
  y1 : Option Int
  deriving DecidableEq, Repr


/-- The commands of the block: one constructor for each row of the opcode table, in the table's order. A command that is
a write by a master carries the master and the word written; one that is an instant of the part's own engines carries
the object it happens to; one that brings a measurement, a frame or a verdict from outside carries it. -/
inductive Instr where
  /-- AON_POWER_ON_RESET (R52). -/
  | aonPowerOnReset (belowLatch : Bool)
  /-- CHIP_POWER_ON_RESET (R52). -/
  | chipPowerOnReset (rail : Fin 4)
  /-- CHIP_POR_RELEASE (R53). -/
  | chipPorRelease
  /-- PIN_RESET (R52). -/
  | pinReset
  /-- PIN_RESET_RELEASE (R53). -/
  | pinResetRelease
  /-- FAULT_RESET_RELEASE (R53). -/
  | faultResetRelease
  /-- PFAIL_WARN (R76). -/
  | pfailWarn
  /-- POWER_FAIL_RESET_START (R76). -/
  | powerFailResetStart
  /-- POWER_FAIL_RESET_RELEASE (R77). -/
  | powerFailResetRelease
  /-- NVM_LOAD_DONE (R57), with what the array's check bits found: a clean array finds nothing. -/
  | nvmLoadDone (ce : Nat := 0) (ue : List (Fin 9) := [])
  /-- BLOCK_RESET_START (R55). -/
  | blockResetStart (m : Master) (p : Fin 128)
  /-- BLOCK_RESET_END (R447). -/
  | blockResetEnd (p : Fin 128)
  /-- OWN_SOFT_RESET (R450). -/
  | ownSoftReset (m : Master)
  /-- SUPPLY_RAIL_LOW (R445). -/
  | supplyRailLow (r : Fin 11)
  /-- SUPPLY_RAIL_PRESENT (R445). -/
  | supplyRailPresent (r : Fin 11)
  /-- REFCLK_FAULT (R60). -/
  | refclkFault (lost : Bool) (dev : BitVec 16)
  /-- REFCLK_RETURN (R60). -/
  | refclkReturn (dev : BitVec 16)
  /-- PLL_ENABLE (R61). -/
  | pllEnable (m : Master) (p : Fin 7) (v : Word)
  /-- PLL_LOCKED (R61). -/
  | pllLocked (p : Fin 7)
  /-- PLL_UNLOCK (R62). -/
  | pllUnlock (p : Fin 7)
  /-- ISLAND_CLOCK_WRITE (R64). -/
  | islandClockWrite (m : Master) (n : Fin 48) (v : Word)
  /-- HANDSHAKE_DETECTOR_TRIP (R68). -/
  | handshakeDetectorTrip (kind : HsKind)
  /-- HS_PARITY (R68). -/
  | hsParity (slot : Fin 512 := 0)
  /-- RAIL_RISE_CONFIRMED (R72). -/
  | railRiseConfirmed (k : Fin 4)
  /-- VRM_TIMEOUT (R74). -/
  | vrmTimeout (k : Fin 4)
  /-- PROFILE_REQUEST (R22). -/
  | profileRequest (m : Master) (v : Word)
  /-- PROFILE_COMMIT (R24). -/
  | profileCommit
  /-- PROFILE_CROSSFADE_END (R25). -/
  | profileCrossfadeEnd (i : Fin 512)
  /-- PROFILE_DONE (R24). -/
  | profileDone
  /-- CHANNEL_POWER_UP_DONE (R19) of channel c of chiplet n: 0 to 3 receive, 4 to 7 transmit, 8 and 9 observe. -/
  | channelPowerUpDone (n : Fin 8) (c : Fin 10)
  /-- POWER_STATE_REQUEST (R86). -/
  | powerStateRequest (m : Master) (v : Word)
  /-- LEAVING_RUN_RAMP_START (R86). -/
  | leavingRunRampStart
  /-- QUIET_ENTERED (R86). -/
  | quietEntered
  /-- STANDBY_GATING (R86). -/
  | standbyGating
  /-- PAD_LATCH_CLOSE (R40). -/
  | padLatchClose
  /-- STANDBY_ENTERED (R86). -/
  | standbyEntered
  /-- SLEEP_FLUSH_CUT (R89). -/
  | sleepFlushCut
  /-- SLEEP_ISOLATION (R86). -/
  | sleepIsolation
  /-- POWER_TRANSITION_ABORT (R89). -/
  | powerTransitionAbort (code : BitVec 8)
  /-- STANDBY_EXIT_CAL_DONE (R87). -/
  | standbyExitCalDone
  /-- POWER_EXIT_BOUNDARY (R87). -/
  | powerExitBoundary
  /-- I2C_WAKE_MATCH (R44). -/
  | i2cWakeMatch (addr : BitVec 7 := 0x58)
  /-- WAKE_RESET_RELEASE (R93). -/
  | wakeResetRelease
  /-- PAD_RELEASE (R95). -/
  | padRelease (m : Master) (v : Word)
  /-- OWN_CLAIM (R116). -/
  | ownClaim (m : Master) (v : Word)
  /-- ELECTION_END (R116). -/
  | electionEnd
  /-- OWN_RELEASE (R122). -/
  | ownRelease (m : Master) (v : Word)
  /-- OWN_BEAT (R119). -/
  | ownBeat (m : Master) (v : Word)
  /-- BEAT_MAX_WRITE (R119). -/
  | beatMaxWrite (m : Master) (v : Word)
  /-- OWNERSHIP_LAPSE (R120). -/
  | ownershipLapse
  /-- HANDOVER_START (R123). -/
  | handoverStart (m : Master) (v : Word)
  /-- HANDOVER_ACCEPT (R123). -/
  | handoverAccept (m : Master) (v : Word)
  /-- HANDOVER_TIMEOUT (R123). -/
  | handoverTimeout
  /-- RF_STOP_SET (R128). -/
  | rfStopSet (m : Master) (v : Word)
  /-- RF_STOP_CLEAR (R128). -/
  | rfStopClear (m : Master) (v : Word)
  /-- REGISTER_WRITE (R7). -/
  | registerWrite (m : Master) (a : BitVec 19) (be : BitVec 4) (v : Word)
  /-- RC_REGISTER_READ (R7). -/
  | rcRegisterRead (m : Master) (a : BitVec 19) (be : BitVec 4)
  /-- SNAPSHOT_PUBLISH (R103). -/
  | snapshotPublish (p : Fin 128)
  /-- PCIE_BAR0_TLP (R106). -/
  | pcieBar0Tlp (a : BitVec 19) (first : BitVec 4) (last : BitVec 4) (write : Bool) (n : Nat) (data : List Word)
  /-- PCIE_BAR2_ACCESS (R107). -/
  | pcieBar2Access (a : BitVec 25) (first : BitVec 4) (last : BitVec 4) (write : Bool) (n : Nat) (data : List Word)
  /-- PCIE_ENDPOINT_RESET (R108). -/
  | pcieEndpointReset
  /-- PCIE_RETRAIN (R109). -/
  | pcieRetrain (m : Master) (v : Word)
  /-- PCIE_LINK_STATE_CHANGE (R109). -/
  | pcieLinkStateChange (ltssm : BitVec 4) (speed : BitVec 4) (width : BitVec 8) (perst : Bool)
  /-- SPI_WRITE (R110). -/
  | spiWrite (port : Fin 2) (a : BitVec 24) (data : List Word)
  /-- SPI_READ (R110). -/
  | spiRead (port : Fin 2) (a : BitVec 24) (n : Nat)
  /-- SPI_STATUS (R112). -/
  | spiStatus (port : Fin 2)
  /-- SPI_RESERVED_OPCODE (R110). -/
  | spiReservedOpcode (port : Fin 2) (op : BitVec 8)
  /-- SPI_WORD_CUT (R111). -/
  | spiWordCut (port : Fin 2) (a : BitVec 24)
  /-- I2C_WRITE_TRANSFER (R113). -/
  | i2cWriteTransfer (a : BitVec 24) (data : List Word) (cut : Bool)
  /-- I2C_READ_TRANSFER (R113). -/
  | i2cReadTransfer (n : Nat)
  /-- I2C_SCL_TIMEOUT (R113). -/
  | i2cSclTimeout (cut : Bool)
  /-- DSA_CHANGE_APPLY (R133). -/
  | dsaChangeApply (n : Fin 8)
  /-- SYNTH_ENABLE (R141). -/
  | synthEnable (m : Master) (n : Fin 8) (v : Word)
  /-- SYNTH_PLAN_CHANGE (R142). -/
  | synthPlanChange (m : Master) (n : Fin 8) (v : Word)
  /-- SYNTH_RECAL (R142). -/
  | synthRecal (m : Master) (n : Fin 8) (v : Word)
  /-- SYNTH_DISABLE (R142). -/
  | synthDisable (m : Master) (n : Fin 8) (v : Word)
  /-- SYNTH_DRAIN_DONE (R141). -/
  | synthDrainDone (n : Fin 8)
  /-- SYNTH_BAND_DONE (R141). -/
  | synthBandDone (n : Fin 8)
  /-- SYNTH_AMPL_DONE (R141). -/
  | synthAmplDone (n : Fin 8)
  /-- SYNTH_LOCK_ACQUIRED (R141). -/
  | synthLockAcquired (n : Fin 8)
  /-- SYNTH_SETTLE_DONE (R141). -/
  | synthSettleDone (n : Fin 8)
  /-- SYNTH_ALIGNED (R141). -/
  | synthAligned (n : Fin 8)
  /-- CONVCAL_DONE (R141). -/
  | convcalDone (n : Fin 8)
  /-- CHANNEL_CHANGE_RESUME (R141). -/
  | channelChangeResume (n : Fin 8)
  /-- SYNTH_STEP_TIMEOUT (R143). -/
  | synthStepTimeout (n : Fin 8)
  /-- SYNTH_UNLOCK (R144). -/
  | synthUnlock (n : Fin 8)
  /-- BG_CAL_WINDOW_END (R147). -/
  | bgCalWindowEnd (n : Fin 8) (obs : List CalObs)
  /-- OBS_DWELL_ADVANCE (R150). -/
  | obsDwellAdvance (n : Fin 8) (r : Fin 2)
  /-- OBS_PLAN_COMMIT (R151). -/
  | obsPlanCommit (m : Master) (n : Fin 8) (v : Word)
  /-- OBS_PLAN_LIVE (R151). -/
  | obsPlanLive (n : Fin 8)
  /-- SLOT_ENABLE (R166). -/
  | slotEnable (m : Master) (i : Fin 512) (v : Word)
  /-- SLOT_HISTORY_FILLED (R167). -/
  | slotHistoryFilled (i : Fin 512)
  /-- SLOT_START (R167). -/
  | slotStart (i : Fin 512)
  /-- SLOT_RAMP_COMPLETE (R167). -/
  | slotRampComplete (i : Fin 512)
  /-- SLOT_DISABLE (R174). -/
  | slotDisable (m : Master) (i : Fin 512) (v : Word)
  /-- SLOT_RAMP_DOWN_BEGIN (R174). -/
  | slotRampDownBegin (i : Fin 512)
  /-- SLOT_DRAIN_START (R174). -/
  | slotDrainStart (i : Fin 512)
  /-- SLOT_DRAIN_END (R174). -/
  | slotDrainEnd (i : Fin 512)
  /-- SLOT_DRAIN_LATE (R174). -/
  | slotDrainLate (i : Fin 512)
  /-- SLOT_COMMIT_REQUEST (R169). -/
  | slotCommitRequest (m : Master) (i : Fin 512) (v : Word)
  /-- COMMIT_POINT (R168). -/
  | commitPoint (i : Fin 512)
  /-- CROSSFADE_END (R171). -/
  | crossfadeEnd (i : Fin 512)
  /-- HOLD_REASON_ARISES (R173). -/
  | holdReasonArises (i : Fin 512) (bit : Fin 8)
  /-- HOLD_CLEARED (R173). -/
  | holdCleared (i : Fin 512) (bit : Fin 8)
  /-- SLOT_RESUME (R173). -/
  | slotResume (i : Fin 512)
  /-- FIR_DATA_ACCESS (R176). -/
  | firDataAccess (m : Master) (n : Fin 8) (write : Bool) (v : Word)
  /-- EXPORT_WRITE (R177). -/
  | exportWrite (m : Master) (i : Fin 512) (v : Word)
  /-- EXPORT_CHANGE_APPLY (R178). -/
  | exportChangeApply (i : Fin 512)
  /-- EXPORT_FRAME_SEND (R178). -/
  | exportFrameSend (i : Fin 512) (fits : Bool)
  /-- LANE_BLOCK_LOCK_LOSS (R181). -/
  | laneBlockLockLoss (l : Fin 16)
  /-- PTP_LOAD_NOW (R182). -/
  | ptpLoadNow (m : Master) (v : Word)
  /-- PTP_LOAD_PPS (R182). -/
  | ptpLoadPps (m : Master) (v : Word)
  /-- PTP_STEP (R182). -/
  | ptpStep (m : Master) (v : Word)
  /-- PTP_BEAT (R182). -/
  | ptpBeat (m : Master) (v : Word)
  /-- PTP_VALID_EXPIRY (R182). -/
  | ptpValidExpiry
  /-- PPS_IN_EDGE (R182). -/
  | ppsInEdge
  /-- PTP_TIME_READ (R182). -/
  | ptpTimeRead (m : Master)
  /-- PTP_FRAME_RECEIVE (R183). -/
  | ptpFrameReceive (l : Fin 16) (data : List Byte)
  /-- RXQ_DATA_READ (R183). -/
  | rxqDataRead (m : Master)
  /-- RXQ_POP (R183). -/
  | rxqPop (m : Master) (v : Word)
  /-- TXQ_DATA_WRITE (R183). -/
  | txqDataWrite (m : Master) (v : Word)
  /-- TXQ_SEND (R183). -/
  | txqSend (m : Master) (v : Word)
  /-- TXQ_FRAME_SENT (R183). -/
  | txqFrameSent
  /-- CASCADE_FRAME_RECEIVE (R187). -/
  | cascadeFrameReceive (l : Fin 16) (data : List Byte)
  /-- CAN_RESIZE_REQUEST (R198). -/
  | canResizeRequest (m : Master) (i : Fin 512) (v : Word)
  /-- CAN_MODE_WRITE (R190). -/
  | canModeWrite (m : Master) (i : Fin 512) (v : Word)
  /-- EXTENT_RETURN_DONE (R196). -/
  | extentReturnDone (i : Fin 512)
  /-- POOL_DATA_ACCESS (R195). -/
  | poolDataAccess (m : Master) (write : Bool) (v : Word)
  /-- POOL_ECC_ERROR (R196). -/
  | poolEccError (e : BitVec 21) (double : Bool)
  /-- XT_DATA_ACCESS (R193). -/
  | xtDataAccess (m : Master) (write : Bool) (v : Word)
  /-- DESC_DATA_READ (R201). -/
  | descDataRead (m : Master) (k : Fin 16)
  /-- CLOVER_PERIOD_START (R238). -/
  | cloverPeriodStart (obs : List LoopObs)
  /-- CLOVER_WRITE_PHASE (R238). -/
  | cloverWritePhase
  /-- COMPAT_LOOP_COMPLETE (R239), on the lane that serves the loop. -/
  | compatLoopComplete (l : Fin 544) (lane : Fin 4)
  /-- ENGINE_JOB_START (R203). -/
  | engineJobStart (e : Fin 256) (bad : Bool)
  /-- JOB_STEAL (R204). -/
  | jobSteal (e : Fin 256) (bad : Bool)
  /-- STEAL_RETRY_EXPIRY (R204). -/
  | stealRetryExpiry (e : Fin 256) (bad : Bool)
  /-- JOB_COMPLETE (R206). -/
  | jobComplete (e : Fin 256) (post live : Int) (iphys : Option Int := none)
  /-- JOB_TIMEOUT (R208). -/
  | jobTimeout (e : Fin 256)
  /-- CLUSTER_HANDOFF_DONE (R207). -/
  | clusterHandoffDone (k : Fin 16)
  /-- DIVERGENCE_WINDOW (R211). -/
  | divergenceWindow (i : Fin 512) (excess : Int)
  /-- WARM_LOAD_DONE (R214). -/
  | warmLoadDone (i : Fin 512)
  /-- SNAPSHOT_SAVE (R215). -/
  | snapshotSave (m : Master) (v : Word)
  /-- SNAPSHOT_AUTO (R215). -/
  | snapshotAuto
  /-- SNAPSHOT_SAVE_DONE (R215). -/
  | snapshotSaveDone (ok : Bool)
  /-- ANALYSIS_FRAME_COMPLETE (R220). -/
  | analysisFrameComplete (i : Fin 512) (invalid : Bool) (est : List BinEst) (wait : Fin 9831 := 0)
  /-- OSC_MUTE_END (R287). -/
  | oscMuteEnd (i : Fin 512)
  /-- LOOP_MODE_WRITE (R241). -/
  | loopModeWrite (m : Master) (v : Word)
  /-- MAT_DATA_ACCESS (R244). -/
  | matDataAccess (m : Master) (write : Bool) (v : Word)
  /-- MAT_COMMIT (R245). -/
  | matCommit (m : Master) (v : Word)
  /-- TIMING_MODE_WRITE (R240). -/
  | timingModeWrite (m : Master) (v : Word)
  /-- INJECTION_START (R246). -/
  | injectionStart (m : Master) (v : Word)
  /-- INJECTION_END (R246). -/
  | injectionEnd
  /-- LOOP_CAPTURE_ARM (R247). -/
  | loopCaptureArm (m : Master) (v : Word)
  /-- LOOP_CAPTURE_TRIGGER (R247). -/
  | loopCaptureTrigger
  /-- IQ_CAPTURE_ARM (R248). -/
  | iqCaptureArm (m : Master) (v : Word)
  /-- IQ_CAPTURE_TRIGGER (R248). -/
  | iqCaptureTrigger
  /-- LCAP_DATA_READ (R247). -/
  | lcapDataRead (m : Master)
  /-- IQ_DATA_READ (R248). -/
  | iqDataRead (m : Master)
  /-- BIN_DATA_READ (R250). -/
  | binDataRead (m : Master) (second : Bool)
  /-- OBS_SUM_READ (R250). -/
  | obsSumRead (m : Master)
  /-- SUB_DATA_ACCESS (R251). -/
  | subDataAccess (m : Master) (write : Bool) (v : Word)
  /-- PROT_UNLATCH (R287). -/
  | protUnlatch (m : Master) (v : Word)
  /-- SEQ_EVENT (R257). -/
  | seqEvent (k : Fin 4) (entry : Fin 1024)
  /-- SEQ_DATA_ACCESS (R256). -/
  | seqDataAccess (m : Master) (k : Fin 4) (second : Bool) (write : Bool) (v : Word)
  /-- SEQ_RUN (R261). -/
  | seqRun (m : Master) (k : Fin 4) (v : Word)
  /-- SEQ_START (R261). -/
  | seqStart (k : Fin 4)
  /-- SEQ_STOP (R261). -/
  | seqStop (m : Master) (k : Fin 4) (v : Word)
  /-- SEQ_COMMIT (R262). -/
  | seqCommit (m : Master) (k : Fin 4) (v : Word)
  /-- SEQ_TABLE_LIVE (R262). -/
  | seqTableLive (k : Fin 4)
  /-- RFFE_CMD_ACCESS (R263). -/
  | rffeCmdAccess (m : Master) (k : Fin 4) (second : Bool) (write : Bool) (v : Word)
  /-- RFFE_FRAME_START (R264). -/
  | rffeFrameStart (b : Fin 8)
  /-- RFFE_FRAME_DONE (R264). -/
  | rffeFrameDone (b : Fin 8)
  /-- RFFE_READ (R265). -/
  | rffeRead (m : Master) (k : Fin 4) (v : Word)
  /-- RFFE_READ_DONE (R265). -/
  | rffeReadDone (k : Fin 4) (data : Byte) (parityError : Bool)
  /-- TB_CTL_WRITE (R266). -/
  | tbCtlWrite (m : Master) (v : Word)
  /-- TIMEBASE_EPOCH (R266). -/
  | timebaseEpoch (offset : Nat)
  /-- TIMEBASE_SECOND (R266). -/
  | timebaseSecond (pps : Int)
  /-- PAT_EDGE_ACCESS (R267). -/
  | patEdgeAccess (m : Master) (write : Bool) (v : Word)
  /-- PATTERN_COMMIT (R268). -/
  | patternCommit (m : Master) (v : Word)
  /-- PATTERN_LIVE (R268). -/
  | patternLive (p : Fin 16)
  /-- SYNC_BURST_FOUND (R269). -/
  | syncBurstFound (p : Fin 16) (err : Int) (cell : Fin 1024)
  /-- SYNC_BURST_MISS (R269). -/
  | syncBurstMiss (p : Fin 16)
  /-- SWITCHING_INSTANT (R274). -/
  | switchingInstant (p : Fin 16) (edge : Fin 16)
  /-- DIV_CFG_WRITE (R277). -/
  | divCfgWrite (m : Master) (d : Fin 8) (v : Word)
  /-- DIVERSITY_DECISION (R278). -/
  | diversityDecision (d : Fin 8) (diff : Int)
  /-- DIVERSITY_SWITCH_UL (R278). -/
  | diversitySwitchUl (d : Fin 8)
  /-- DIVERSITY_SWITCH_DL (R278). -/
  | diversitySwitchDl (d : Fin 8)
  /-- PWT_DATA_ACCESS (R280). -/
  | pwtDataAccess (m : Master) (prof : Bool) (write : Bool) (v : Word)
  /-- PWT_COMMIT (R280). -/
  | pwtCommit (m : Master) (v : Word)
  /-- PWT_TABLE_LIVE (R280). -/
  | pwtTableLive (p : Fin 32)
  /-- PWT_STEP (R282). -/
  | pwtStep (p : Fin 32)
  /-- PWT_PORT_CFG_WRITE (R312). -/
  | pwtPortCfgWrite (m : Master) (p : Fin 32) (v : Word)
  /-- TXEN_WRITE (R283). -/
  | txenWrite (m : Master) (v : Word)
  /-- TXEN_PENDING_APPLY (R283). -/
  | txenPendingApply (p : Fin 32)
  /-- TXEN_PENDING_TIMEOUT (R283). -/
  | txenPendingTimeout (p : Fin 32)
  /-- POWER_WINDOW_END (R289). -/
  | powerWindowEnd (p : Fin 32) (r : Fin 64) (powers : List (Nat × Int))
  /-- PCLAMP_DECAY (R290). -/
  | pclampDecay (i : Fin 512)
  /-- NOISE_ESTIMATE_UPDATE (R291), at the frame boundary that comes after `later` others. -/
  | noiseEstimateUpdate (i : Fin 512) (later : Nat)
  /-- NOISE_RED_DECAY (R292). -/
  | noiseRedDecay (i : Fin 512)
  /-- MASK_SEGMENT (R293). -/
  | maskSegment (p : Fin 32) (zone : Bool) (bins : List (Nat × Int))
  /-- MASK_MUTE_END (R294). -/
  | maskMuteEnd (i : Fin 512)
  /-- LOCK_COPY_COMPARE (R298). -/
  | lockCopyCompare (upsets : List (Nat × Nat))
  /-- REGL_CHECK (R303). -/
  | reglCheck
  /-- REGL_WRITE (R303). -/
  | reglWrite
  /-- BIAS_SLEW_TICK (R308). -/
  | biasSlewTick (c : Fin 64)
  /-- BIAS_SPAN_SWITCH (R309). -/
  | biasSpanSwitch (c : Fin 64)
  /-- BIAS_VAL_WRITE (R310). -/
  | biasValWrite (m : Master) (c : Fin 64) (v : Word)
  /-- BIAS_GEN_WRITE (R311). -/
  | biasGenWrite (m : Master) (c : Fin 64) (gen : Bool) (v : Word)
  /-- BIAS_RESUME (R314). -/
  | biasResume (m : Master) (i : Fin 2) (v : Word)
  /-- BIAS_SUPPLY_LOW (R317). -/
  | biasSupplyLow
  /-- BIAS_SUPPLY_PRESENT (R317). -/
  | biasSupplyPresent
  /-- MONITOR_CONVERSION (R322). -/
  | monitorConversion (core : Fin 2) (value : BitVec 16)
  /-- MONITOR_MODE_WRITE (R321). -/
  | monitorModeWrite (m : Master) (v : Word)
  /-- MON_QUEUE_READ (R323). -/
  | monQueueRead (m : Master)
  /-- MON_QUEUE_FLUSH (R323). -/
  | monQueueFlush (m : Master) (v : Word)
  /-- SENSOR_CONVERSION (R326). -/
  | sensorConversion (i : Fin 72) (value : Int)
  /-- GRACE_EXPIRY (R329). -/
  | graceExpiry
  /-- ENFORCEMENT_RISE (R330). -/
  | enforcementRise
  /-- ENFORCEMENT_FALL (R330). -/
  | enforcementFall
  /-- THERMAL_HOLD_END (R332). -/
  | thermalHoldEnd
  /-- FAULT_SOURCE_FIRE (R344). -/
  | faultSourceFire (p : Fin 128) (b : Fin 32) (begins : Bool)
  /-- SHADOW_END (R351). -/
  | shadowEnd (p : Fin 128)
  /-- SRC_CFG_WRITE (R343). -/
  | srcCfgWrite (m : Master) (v : Word)
  /-- INJ_KEY_WRITE (R352). -/
  | injKeyWrite (m : Master) (v : Word)
  /-- INJ_CLOSE (R352). -/
  | injClose (m : Master) (v : Word)
  /-- ERR_FORCE_WRITE (R353). -/
  | errForceWrite (m : Master) (p : Fin 128) (v : Word)
  /-- IRQ_FORCE_WRITE (R353). -/
  | irqForceWrite (m : Master) (p : Fin 128) (v : Word)
  /-- TANSY_BOOT (R363). -/
  | tansyBoot
  /-- QSPI_IMAGE_VERIFIED (R365). -/
  | qspiImageVerified (image : List Word)
  /-- BOOT_DONE_NO_FW (R366). -/
  | bootDoneNoFw
  /-- MBX_CMD_WRITE (R370). -/
  | mbxCmdWrite (m : Master) (v : Word)
  /-- MBX_DATA_WRITE (R370). -/
  | mbxDataWrite (m : Master) (v : Word)
  /-- MBX_DATA_READ (R370). -/
  | mbxDataRead (m : Master)
  /-- KEYPKG (R376). -/
  | keypkg
  /-- FW_LOAD (R368). -/
  | fwLoad
  /-- CHALLENGE (R371). -/
  | challenge
  /-- DBG_UNLOCK (R387). -/
  | dbgUnlock
  /-- FTM_AUTH (R389). -/
  | ftmAuth
  /-- SET_MIN_SVN (R369). -/
  | setMinSvn
  /-- JTAG_RESPONSE (R387). -/
  | jtagResponse (ftm : Bool) (resp : List Word)
  /-- TAMPER_ALARM (R380). -/
  | tamperAlarm (src : Fin 6) (begins : Bool)
  /-- SLEEP_TAMPER (R382). -/
  | sleepTamper (src : Fin 6)
  /-- KEY_REGION_ZEROIZE (R380). -/
  | keyRegionZeroize
  /-- ALARM_LVL_WRITE (R378). -/
  | alarmLvlWrite (m : Master) (v : Word)
  /-- WATCHDOG_EXPIRY (R385). -/
  | watchdogExpiry (c : Fin 4)
  /-- WDOG_KICK (R385). -/
  | wdogKick (m : Master) (v : Word)
  /-- MPU_VIOLATION (R385). -/
  | mpuViolation (c : Fin 4) (write : Bool) (exec : Bool) (a : Word)
  /-- CAL_DATA_ACCESS (R400). -/
  | calDataAccess (m : Master) (write : Bool) (v : Word)
  /-- CAL_COMMIT (R400). -/
  | calCommit (m : Master) (v : Word)
  /-- CAL_REVERT (R400). -/
  | calRevert (m : Master) (v : Word)
  /-- BPT_SAVE (R402). -/
  | bptSave (m : Master) (v : Word)
  /-- HDR_COMMIT (R403). -/
  | hdrCommit (m : Master) (v : Word)
  /-- NVM_WRITE_DONE (R396). -/
  | nvmWriteDone (ok : Bool)
  /-- COUNTER_WRITE (R404). -/
  | counterWrite
  /-- EVENT_DIRECT_WRITE (R411). -/
  | eventDirectWrite
  /-- EVT_FLUSH_COMMAND (R413). -/
  | evtFlushCommand (m : Master) (v : Word)
  /-- EVENT_AGE_LIMIT (R413). -/
  | eventAgeLimit
  /-- EVENT_FLUSH_DONE (R413). -/
  | eventFlushDone
  /-- EVENT_RETRY (R414). -/
  | eventRetry
  /-- EVENT_LOG_SCAN_DONE (R410), with what the array's check bits found, as in NVM_LOAD_DONE: positions with an uncorrectable error. -/
  | eventLogScanDone (ce : Nat := 0) (ue : List (Fin 33792) := [])
  /-- EVENT_CURSOR_WRITE (R419). -/
  | eventCursorWrite (m : Master) (v : Word)
  /-- EVENT_WINDOW_READY (R419), likewise for the record read (R421). -/
  | eventWindowReady (ce : Nat := 0) (ue : Bool := false)
  /-- TOKEN_REFILL (R415). -/
  | tokenRefill (code : BitVec 16)
  /-- LANE_BLOCK_LOCK_GAINED (R181). -/
  | laneBlockLockGained (l : Fin 16) (remote : Bool := false)
  /-- EXT_REF_STREAM_LOSS (R187). -/
  | extRefStreamLoss (k : Fin 16)
  /-- CONFIG_SPACE_ACCESS (R109). -/
  | configSpaceAccess (cor : Bool) (bits : Word)
  /-- JTAG_DEBUG_ACCESS (R386). -/
  | jtagDebugAccess (act : JtagAct)
  /-- NVM_WORD_GROUP_DONE (R344). -/
  | nvmWordGroupDone
  /-- SLEEP_RAIL_FALL (R452). -/
  | sleepRailFall (rail : Fin 4)
  /-- WAKE_RAIL_RISE (R93). -/
  | wakeRailRise (rail : Fin 4)
  deriving DecidableEq, Repr

end Sys2Proof
end

