-- ==== Sys2Proof/Config.lean ====
section
/-! DEFINITION. What the spec leaves open: free values and the functions of which it gives no algorithm. None has a body,
so nothing can be proved of a particular value. -/
namespace Sys2Proof.Config

/-- A value that the spec does not state, one for each number of the counter State.fresh. (DESIGN CHOICE: log 8) -/
opaque free : Nat → Nat

/-- The verdict of an ECDSA signature check: public key, message words, signature words (R372, R374). (DESIGN CHOICE: log 7) -/
opaque sigOk : List Nat → List Nat → List Nat → Bool

/-- The words of a SHA-2 digest of a message (R372). (DESIGN CHOICE: log 7) -/
opaque digest : List Nat → List Nat

/-- The bytes that AES-256-GCM yields under a key, with IV, tag, additional data and ciphertext, or none where the tag does not match
(R365, R375). (DESIGN CHOICE: log 7) -/
opaque unwrap : List Nat → List Nat → List Nat → List Nat → List Nat → Option (List Nat)

/-- The counter-mode KDF with HMAC-SHA-384: device secret, label, EPOCH (R374). (DESIGN CHOICE: log 7) -/
opaque kdf : Nat → List Nat → Nat → List Nat

/-- The labels of the wrapping key and of the transport key (R374). (DESIGN CHOICE: log 7) -/
opaque labelKw : List Nat
opaque labelKt : List Nat

/-- The word that the TAP's IDCODE instruction shifts out (R386). (DESIGN CHOICE: log 7) -/
opaque idcode : Nat

/-- The default matrix set of a loop in ROM, but for its output limits: word of a slot loop, and 160 further of an ALC loop (R236,
R451). (DESIGN CHOICE: log 8) -/
opaque rom : Nat → Nat

/-- A product or quotient that is not exact is rounded up (R235). (DESIGN CHOICE: log 8) -/
opaque roundUp : Int → Int → Bool

/-- The samples that the receive converters give, and that an observation receiver takes on a channel's coupler: channel, and number of the
sample, as a fraction of full scale (R160, R186). (DESIGN CHOICE: log 75) -/
opaque adc : Nat → Int → Rat
opaque coupler : Nat → Int → Rat

/-- The error of an NCO's word at a plan and a centre, in 0.0001 Hz about the middle of its bound (R161). (DESIGN CHOICE: log 75) -/
opaque ncoErr : Nat → Nat → Nat

/-- Taps of the half-band filters, of the resampler's phases, and of a notch: live length and bin (R160, R228). (DESIGN CHOICE: log 75) -/
opaque halfBand : List Rat
opaque phaseTaps : Nat → List Rat
opaque notchKernel : Nat → Nat → List Rat

/-- How far a notch attenuates a bin: live length and distance in bins; the spec bounds it (R228). (DESIGN CHOICE: log 75) -/
opaque notchLoss : Nat → Nat → Nat

/-- The scale and the delay in samples of an OBS_ALIGN result, by its number (R186). (DESIGN CHOICE: log 75) -/
opaque alignScale : Nat → Rat × Rat
opaque alignDelay : Nat → Int

/-- Taps that the shaping solver fits to a target, by bin in 0.01 dB, for a length; and those of the low-pass that a slot starts with: length,
tap (R167, R170, R224). The words are the low 32 bits. (DESIGN CHOICE: log 40) -/
opaque fit : List (Nat × Int) → Nat → Nat → Nat
opaque lowPass : Nat → Nat → Nat

/-- Which of a slot's used aggressors gives a capture's reference (R248). (DESIGN CHOICE: log 46) -/
opaque pointAgg : Nat → Nat

end Sys2Proof.Config
end

