-- ==== Sys2Proof/Machine/Bits.lean ====
section
/-! DEFINITION. Bit fields, two's complement fields, checksums and sparse tables: the arithmetic that every block uses. -/
namespace Sys2Proof.Machine

/-- Bits `lo + w - 1 : lo` of a number. -/
def bits (v lo w : Nat) : Nat := v / 2 ^ lo % 2 ^ w

/-- Bit `i` of a number. -/
def tbit (v i : Nat) : Bool := v / 2 ^ i % 2 == 1

/-- A number with bit `i` set. -/
def setBit (v i : Nat) : Nat := if tbit v i then v else v + 2 ^ i

/-- A number with bit `i` clear. -/
def clrBit (v i : Nat) : Nat := if tbit v i then v - 2 ^ i else v

/-- A number with bit `i` set to `b`. -/
def putBit (v i : Nat) (b : Bool) : Nat := if b then setBit v i else clrBit v i

/-- A two's complement field of width `w`, read as an integer. -/
def sext (w v : Nat) : Int :=
  if v % 2 ^ w < 2 ^ (w - 1) then (v % 2 ^ w : Nat) else ((v % 2 ^ w : Nat) : Int) - (2 ^ w : Nat)

/-- An integer as a two's complement field of width `w`. -/
def toField (w : Nat) (z : Int) : Nat := (z % ((2 ^ w : Nat) : Int)).toNat

/-- An integer held between two bounds. -/
def clampInt (lo hi z : Int) : Int := if z < lo then lo else if hi < z then hi else z

/-- A counter field of width `w` counts by `n` and saturates. -/
def satAdd (w v n : Nat) : Nat := min (v + n) (2 ^ w - 1)

/-- The least multiple of `g` that is at least `t`. -/
def ceilTo (g t : Nat) : Nat := (t + g - 1) / g * g

/-- The `n` bytes of a number, least significant first. -/
def leBytes : Nat → Nat → List Nat
  | 0, _ => []
  | n + 1, v => v % 256 :: leBytes n (v / 256)

/-- The number that a list of bytes spells, least significant first. -/
def ofLeBytes : List Nat → Nat
  | [] => 0
  | b :: t => b % 256 + 256 * ofLeBytes t

/-- One bit of the reflected CRC-32 of IEEE 802.3. -/
def crc32Bit (c : Nat) : Nat := if c % 2 = 1 then (c / 2) ^^^ 0xEDB88320 else c / 2

/-- One byte of the CRC-32. -/
def crc32Byte (c b : Nat) : Nat :=
  (crc32Bit ∘ crc32Bit ∘ crc32Bit ∘ crc32Bit ∘ crc32Bit ∘ crc32Bit ∘ crc32Bit ∘ crc32Bit) (c ^^^ (b % 256))

/-- The CRC-32 of IEEE 802.3 of a list of bytes, computed as the Ethernet FCS (R407). -/
def crc32 (bs : List Nat) : Nat := (bs.foldl crc32Byte 0xFFFFFFFF) ^^^ 0xFFFFFFFF

/-- A sparse table: entries by rising key, none equal to what an unlisted key reads as. -/
abbrev Tab (α : Type) := List (Nat × α)

/-- What a table holds at a key; `d` where the key is not listed. -/
def Tab.get {α : Type} (d : α) : Tab α → Nat → α
  | [], _ => d
  | e :: t, k => if e.1 = k then e.2 else Tab.get d t k

/-- A table without a key. -/
def Tab.del {α : Type} (t : Tab α) (k : Nat) : Tab α := t.filter fun e => e.1 != k

/-- A table with an entry put before the first greater key. -/
def Tab.ins {α : Type} : Tab α → Nat → α → Tab α
  | [], k, v => [(k, v)]
  | e :: t, k, v => if k < e.1 then (k, v) :: e :: t else e :: Tab.ins t k v

/-- A table with a key set to a value, in canonical form: setting the value of an unlisted key removes the entry. -/
def Tab.set {α : Type} [DecidableEq α] (d : α) (t : Tab α) (k : Nat) (v : α) : Tab α :=
  if v = d then t.del k else (t.del k).ins k v

/-- A table with the value of one key changed. -/
def Tab.upd {α : Type} [DecidableEq α] (d : α) (t : Tab α) (k : Nat) (f : α → α) : Tab α :=
  t.set d k (f (t.get d k))

/-- The canonical form: keys strictly rising, no entry equal to the value of an unlisted key. -/
def Tab.wf {α : Type} [DecidableEq α] (d : α) : Tab α → Bool
  | [] => true
  | [e] => e.2 != d
  | e :: f :: t => e.2 != d && e.1 < f.1 && Tab.wf d (f :: t)

/-- A canonical set of numbers: strictly rising. -/
def NSet.add (l : List Nat) (k : Nat) : List Nat :=
  match l with
  | [] => [k]
  | h :: t => if k < h then k :: h :: t else if k = h then h :: t else h :: NSet.add t k

/-- A set of numbers without one of them. -/
def NSet.rem (l : List Nat) (k : Nat) : List Nat := l.filter fun x => x != k

end Sys2Proof.Machine
end

