-- ==== Sys2Proof/Machine/Sources.lean ====
section
/-! DEFINITION. The page map and the interrupt and error sources (20_page_map.md R441 to R443). -/
namespace Sys2Proof.Machine

/-- One source of a page: kind, default class, minimum class, default reactions, declared dependencies and marks (R443). -/
structure Src where
  impl : Bool
  cond : Bool
  cls : Nat
  minc : Nat
  irq : Bool
  trap : Bool
  brst : Bool
  crst : Bool
  errn : Bool
  bsafe : Bool
  dep0 : Option Nat
  dep1 : Option Nat
  fixed : Bool
  sec : Bool
  pins : Bool
  deriving DecidableEq, Repr

/-- A bit of a page that carries no source. -/
def Src.none : Src := ⟨false, false, 0, 0, false, false, false, false, false, false, .none, .none, false, false, false⟩

/-- A source from its row of the table: condition or event, class, minimum class, and the letters of its reaction set. -/
def Src.row (cond : Bool) (cls minc : Nat) (i t c e : Bool) (dep : Option Nat) (fixed sec pins : Bool) : Src :=
  ⟨true, cond, cls, minc, i, t, false, c, e, false, dep, .none, fixed, sec, pins⟩

/-- Sources of page IDN: RF_STOP_CHG, PROF_DONE, PROF_REFUSED. -/
def srcsIDN : List Src := [
  .row false 0 0 true false false false .none false false true,
  .row false 0 0 true false false false .none false false true,
  .row false 0 0 true false false false .none false false true]

/-- Sources of page OWN: OWN_CHANGED, LAPSED, CLAIM_REFUSED, HANDOVER_FAIL, NONOWNER_WR. -/
def srcsOWN : List Src := [
  .row false 0 0 true false false false .none false false true,
  .row false 0 0 true false false false .none false false true,
  .row false 0 0 true false false false .none false false false,
  .row false 0 0 true false false false .none false false false,
  .row false 0 0 false false false false .none false false false]

/-- Sources of page PWR: PFAIL_WARN, PWR_DONE, PWR_REFUSED, VRM_TIMEOUT, SUPPLY_LOW. -/
def srcsPWR : List Src := [
  .row false 0 0 true false false false .none false false true,
  .row false 0 0 true false false false .none false false false,
  .row false 0 0 true false false false .none false false false,
  .row false 1 1 true false false false .none false false false,
  .row true 2 1 true false false true .none false false false]

/-- Sources of page CLK: REFCLK_FAULT, PLL_UNLOCK, HS_RATIO, HS_VOLT, HS_TEMP, HS_PARITY. -/
def srcsCLK : List Src := [
  .row true 2 2 true false false true .none false false false,
  .row false 2 1 true false false true .none false false false,
  .row true 1 1 true false false false .none false false false,
  .row true 2 1 true false false true .none false false false,
  .row true 2 1 true false false true .none false false false,
  .row false 3 3 false false true true .none false false false]

/-- Sources of page FLT: ACCESS_SIZE, ACCESS_VALUE, ACCESS_OFF. -/
def srcsFLT : List Src := [
  .row false 0 0 false false false false .none false false false,
  .row false 0 0 false false false false .none false false false,
  .row false 0 0 false false false false .none false false false]

/-- Sources of page EVT: EVT_DROP, EVT_LOST. -/
def srcsEVT : List Src := [
  .row false 1 0 true false false false .none false false false,
  .row false 1 0 true false false false .none false false false]

/-- Sources of page NVM: WR_DONE, WR_REFUSED, NVM_UE, CAL_LOST. -/
def srcsNVM : List Src := [
  .row false 0 0 true false false false .none false false false,
  .row false 0 0 true false false false .none false false false,
  .row false 2 1 true false false true .none false false false,
  .row false 2 2 true false false true .none false false false]

/-- Sources of page SEC: MESH, GLITCH, CLOCK, TEMP_AON, DEBUG, KEY_INT, BOOT_FAIL, MBX_DONE, MBX_REFUSED, LVL_REFUSED. -/
def srcsSEC : List Src := [
  .row true 2 0 true true false true .none false true false,
  .row false 2 0 true true false true .none false true false,
  .row true 1 0 true false false false .none false true false,
  .row true 2 0 true true false true .none false true false,
  .row false 2 0 true true false true .none false true false,
  .row false 2 0 true true false true .none false true false,
  .row false 1 0 true false false false .none false false true,
  .row false 0 0 true false false false .none false false false,
  .row false 0 0 false false false false .none false false false,
  .row false 0 0 true false false false .none false false false]

/-- Sources of page THM: THM_WARN, THM_REQ, THM_ENF, SENSOR_FAIL, THM_TRIP. -/
def srcsTHM : List Src := [
  .row true 0 0 true false false false .none false false false,
  .row true 0 0 true false false false .none false false true,
  .row false 1 1 true false false false .none false false false,
  .row false 2 2 true false false true .none false false false,
  .row false 3 3 false false true true .none true false false]

/-- Sources of page MON: Q_OVF, Q_THR, Q_UNDER. -/
def srcsMON : List Src := [
  .row false 1 0 true false false false .none false false false,
  .row true 0 0 true false false false .none false false false,
  .row false 0 0 false false false false .none false false false]

/-- Sources of page BIA0, BIA1: RB_WINDOW, SUPPLY_LOST, BIAS_BUSY, BIAS_BOUND. -/
def srcsBIA : List Src := [
  .row false 2 1 true false false true (some 0x0A) false false false,
  .row true 2 1 true false false true .none false false false,
  .row false 0 0 false false false false .none false false false,
  .row false 0 0 false false false false .none false false false]

/-- Sources of page SYN: CHG_DONE, CHG_REFUSED, SYNTH_UNLOCK, SYNTH_FAIL. -/
def srcsSYN : List Src := [
  .row false 0 0 true false false false .none false false false,
  .row false 0 0 true false false false .none false false false,
  .row false 2 1 true false false true .none false false false,
  .row false 2 1 true false false true .none false false false]

/-- Sources of page TDD: SYNC_ACQ, SYNC_LOST, TB_DRIFT, TB_REFUSED, PAT_REFUSED. -/
def srcsTDD : List Src := [
  .row false 0 0 true false false false .none false false false,
  .row false 1 1 true false false false .none false false true,
  .row false 1 0 true false false false .none false false false,
  .row false 0 0 false false false false .none false false false,
  .row false 0 0 true false false false .none false false false]

/-- Sources of page REGL: REGL_REFUSED, LOCK_RESULT. -/
def srcsREGL : List Src := [
  .row false 0 0 true false false false .none false false false,
  .row false 0 0 true false false false .none false false false]

/-- Sources of page CNV0 to CNV7: CH_BUSY, CAL_DRIFT, OBS_REFUSED. -/
def srcsCNV : List Src := [
  .row false 0 0 false false false false .none false false false,
  .row false 0 0 true false false false .none false false false,
  .row false 0 0 true false false false .none false false false]

/-- Sources of page FWD0 to FWD7: ENABLE_REFUSED, COMMIT_REFUSED, CFG_LOCKED, SHADOW_LOCKED, FIR_SRC, LANE_FULL, DRAIN_LATE, TX_SAT. -/
def srcsFWD : List Src := [
  .row false 0 0 true false false false .none false false false,
  .row false 0 0 true false false false .none false false false,
  .row false 0 0 false false false false .none false false false,
  .row false 0 0 false false false false .none false false false,
  .row false 0 0 false false false false .none false false false,
  .row false 0 0 true false false false .none false false false,
  .row false 1 1 true false false false .none false false false,
  .row false 0 0 false false false false .none false false false]

/-- Sources of page CAN: RESIZE_DONE, RESIZE_REFUSED, DIVERGE, POOL_CE, POOL_UE, POOL_WR, REACH_IDLE, EXTREF_LATE, SNAP_DONE, SNAP_FAIL. -/
def srcsCAN : List Src := [
  .row false 0 0 true false false false .none false false false,
  .row false 0 0 true false false false .none false false false,
  .row false 1 0 true false false false .none false false false,
  .row false 0 0 true false false false .none false false false,
  .row false 2 2 true false false true .none false false false,
  .row false 0 0 false false false false .none false false false,
  .row false 0 0 false false false false .none false false false,
  .row false 1 0 true false false false (some 0x2B) false false false,
  .row false 0 0 true false false false .none false false false,
  .row false 1 0 true false false false .none false false false]

/-- Sources of page CLV: LOOP_MISS, XFER_REFUSED, COEF_REFUSED. -/
def srcsCLV : List Src := [
  .row false 1 0 true false false false (some 0x21) false false false,
  .row false 0 0 true false false false .none false false false,
  .row false 0 0 true false false false .none false false false]

/-- Sources of page GOV: CLAMP, CLAMP_BROAD, OSC_MUTE, OSC_LATCH, PWR_CLAMP, NOISE_RED, MASK_MUTE, DUTY_MUTE, BAND_FAULT, PERMIT_CHG, GATE_FAIL. -/
def srcsGOV : List Src := [
  .row false 0 0 true false false false .none false false false,
  .row false 1 0 true false false false .none false false false,
  .row false 1 1 true false false false .none false false false,
  .row false 2 1 true false false true .none false false false,
  .row false 1 1 true false false false .none false false false,
  .row false 1 1 true false false false .none false false false,
  .row false 1 1 true false false false .none false false false,
  .row false 1 1 true false false false .none false false false,
  .row false 2 2 true false false true .none false false false,
  .row false 0 0 true false false false .none false false true,
  .row false 4 4 false true true true .none true false false]

/-- Sources of page CAP: INJ_DONE, LCAP_DONE, IQ_DONE. -/
def srcsCAP : List Src := [
  .row false 0 0 true false false false .none false false false,
  .row false 0 0 true false false false .none false false false,
  .row false 0 0 true false false false .none false false false]

/-- Sources of page FEC0 to FEC3: SEQ_REFUSED, SEQ_CLASH, RFFE_LATE, RFFE_PARITY. -/
def srcsFEC : List Src := [
  .row false 0 0 true false false false .none false false false,
  .row false 0 0 true false false false .none false false false,
  .row false 1 0 true false false false .none false false false,
  .row false 1 0 true false false false .none false false false]

/-- Sources of page DIV: DIV_SWITCH, DIV_REFUSED. -/
def srcsDIV : List Src := [
  .row false 0 0 true false false false .none false false false,
  .row false 0 0 false false false false .none false false false]

/-- Sources of page PWT: TXEN_REFUSED, PWT_LOCKED. -/
def srcsPWT : List Src := [
  .row false 1 0 true false false false .none false false false,
  .row false 0 0 false false false false .none false false false]

/-- Sources of page LNK: LANE_FAIL, FRAME_DROP, PTP_FAULT. -/
def srcsLNK : List Src := [
  .row false 1 1 true false false false .none false false false,
  .row false 0 0 true false false false .none false false false,
  .row true 1 0 true false false false .none false false false]

/-- Sources of page PCI: LINK_DOWN, AER_ERR. -/
def srcsPCI : List Src := [
  .row true 1 0 true false false false .none false false false,
  .row false 1 1 true false false false .none false false false]

/-- Sources of page HSI: I2C_TIMEOUT. -/
def srcsHSI : List Src := [
  .row false 0 0 true false false false .none false false false]

/-- Sources of page APC: MPU_FAULT, WDOG. -/
def srcsAPC : List Src := [
  .row false 1 1 true false false false .none false false false,
  .row false 2 1 true false false true .none false false false]

/-- Sources of page YCL0 to YCL15: HANDOFF_DONE, DESC_CHECK, JOB_TIMEOUT. -/
def srcsYCL : List Src := [
  .row false 0 0 true false false false .none false false false,
  .row false 1 0 true false false false (some 0x20) false false false,
  .row false 1 0 true false false false (some 0x20) false false false]

/-- Sources of page SLP00 to SLP3F: ENABLED, OFF, COMMIT_DONE, HELD, INVALID, PROT_MUTE. -/
def srcsSLP (p : Nat) : List Src := [
  .row false 0 0 false false false false .none false false false,
  .row false 0 0 false false false false .none false false false,
  .row false 0 0 false false false false .none false false false,
  .row true 0 0 false false false false .none false false false,
  { Src.row false 1 0 false false false false .none false false false with dep0 := some (0x10 + (p - 0x40) / 8), dep1 := some (0x18 + (p - 0x40) / 8) },
  .row true 1 1 true false false false .none false false false]

/-- The sources of page `p`, by bit number. -/
def pageSrcs (p : Nat) : List Src :=
  if p = 0x0 then srcsIDN
  else if p = 0x1 then srcsOWN
  else if p = 0x2 then srcsPWR
  else if p = 0x3 then srcsCLK
  else if p = 0x4 then srcsFLT
  else if p = 0x6 then srcsEVT
  else if p = 0x7 then srcsNVM
  else if p = 0x8 then srcsSEC
  else if p = 0x9 then srcsTHM
  else if p = 0xa then srcsMON
  else if 0xb ≤ p ∧ p ≤ 0xc then srcsBIA
  else if p = 0xd then srcsSYN
  else if p = 0xe then srcsTDD
  else if p = 0xf then srcsREGL
  else if 0x10 ≤ p ∧ p ≤ 0x17 then srcsCNV
  else if 0x18 ≤ p ∧ p ≤ 0x1f then srcsFWD
  else if p = 0x20 then srcsCAN
  else if p = 0x22 then srcsCLV
  else if p = 0x23 then srcsGOV
  else if p = 0x24 then srcsCAP
  else if 0x25 ≤ p ∧ p ≤ 0x28 then srcsFEC
  else if p = 0x29 then srcsDIV
  else if p = 0x2a then srcsPWT
  else if p = 0x2b then srcsLNK
  else if p = 0x2c then srcsPCI
  else if p = 0x2d then srcsHSI
  else if p = 0x2e then srcsAPC
  else if 0x30 ≤ p ∧ p ≤ 0x3f then srcsYCL
  else if 0x40 ≤ p ∧ p ≤ 0x7f then srcsSLP p
  else []

/-- The source with key `32 * page + bit`. -/
def srcOf (k : Nat) : Src := (pageSrcs (k / 32)).getD (k % 32) Src.none

/-- The key of source `b` of page `p`. -/
def srcKey (p b : Nat) : Nat := 32 * p + b

/-- The reset value of a page's IRQ_EN: a 1 for each source whose default reactions hold the interrupt (R442). -/
def irqEnReset (p : Nat) : Nat :=
  ((pageSrcs p).zipIdx.map fun x => if x.1.irq then 2 ^ x.2 else 0).sum

/-- True of the pages that the part implements: all of 0x00 to 0x7F but 0x2F (R97, R98). -/
def pageImpl (p : Nat) : Bool := p < 128 && p != 0x2F

/-- The island that serves a page (R97). -/
def pageIsland (p : Nat) : Nat :=
  if p = 0x06 then 46
  else if p = 0x07 ∨ p = 0x0F then 5
  else if p = 0x08 then 4
  else if p = 0x0A ∨ p = 0x0B ∨ p = 0x0C then 43
  else if p = 0x0E ∨ (0x25 ≤ p ∧ p ≤ 0x2A) then 44
  else if 0x10 ≤ p ∧ p ≤ 0x17 then 35 + (p - 0x10)
  else if 0x18 ≤ p ∧ p ≤ 0x1F then 11 + (p - 0x18)
  else if p = 0x20 then 7
  else if p = 0x21 ∨ p = 0x23 ∨ p = 0x24 then 45
  else if p = 0x22 then 6
  else if p = 0x2B then 3
  else if p = 0x2C then 2
  else if 0x30 ≤ p ∧ p ≤ 0x3F then 19 + (p - 0x30)
  else if 0x40 ≤ p ∧ p ≤ 0x7F then 11 + (p - 0x40) / 8
  else 1

/-- PAGE_ID.BLOCK_TYPE of a page (R441). -/
def pageType (p : Nat) : Nat :=
  if p ≤ 0x0B then p + 1
  else if p = 0x0C then 0x0C
  else if p ≤ 0x0F then p
  else if p ≤ 0x17 then 0x10
  else if p ≤ 0x1F then 0x11
  else if p ≤ 0x24 then p - 0x0E
  else if p ≤ 0x28 then 0x17
  else if p ≤ 0x2E then p - 0x11
  else if p ≤ 0x2F then 0
  else if p ≤ 0x3F then 0x1E
  else 0x1F

/-- PAGE_ID.INSTANCE of a page (R441). -/
def pageInstance (p : Nat) : Nat :=
  if p = 0x0C then 1
  else if 0x10 ≤ p ∧ p ≤ 0x17 then p - 0x10
  else if 0x18 ≤ p ∧ p ≤ 0x1F then p - 0x18
  else if 0x25 ≤ p ∧ p ≤ 0x28 then p - 0x25
  else if 0x30 ≤ p ∧ p ≤ 0x3F then p - 0x30
  else if 0x40 ≤ p then p - 0x40
  else 0

/-- The reset value of a page's PAGE_CTL (R441). -/
def pageCtlReset (p : Nat) : Nat :=
  if p ≤ 0x0D ∨ p = 0x0F ∨ (0x2B ≤ p ∧ p ≤ 0x2E) then 5 else 0

/-- The islands whose clock runs from the release of a chip reset (R57, R442). -/
def startsClocked (n : Nat) : Bool := n == 0 || n == 1 || n == 4 || n == 5 || n == 43 || n == 46 || n == 47

/-- The bit of the 64-bit status word that carries the line of page `p` (R346). -/
def statusBit (p : Nat) : Nat :=
  if p ≤ 0x2E then p else if p = 0x3F then 47 else if p ≤ 0x3E then p - 0x30 + 48 else 63

abbrev IDN.src.RF_STOP_CHG : Nat := 0
abbrev IDN.src.PROF_DONE : Nat := 1
abbrev IDN.src.PROF_REFUSED : Nat := 2
abbrev OWN.src.OWN_CHANGED : Nat := 0
abbrev OWN.src.LAPSED : Nat := 1
abbrev OWN.src.CLAIM_REFUSED : Nat := 2
abbrev OWN.src.HANDOVER_FAIL : Nat := 3
abbrev OWN.src.NONOWNER_WR : Nat := 4
abbrev PWR.src.PFAIL_WARN : Nat := 0
abbrev PWR.src.PWR_DONE : Nat := 1
abbrev PWR.src.PWR_REFUSED : Nat := 2
abbrev PWR.src.VRM_TIMEOUT : Nat := 3
abbrev PWR.src.SUPPLY_LOW : Nat := 4
abbrev CLK.src.REFCLK_FAULT : Nat := 0
abbrev CLK.src.PLL_UNLOCK : Nat := 1
abbrev CLK.src.HS_RATIO : Nat := 2
abbrev CLK.src.HS_VOLT : Nat := 3
abbrev CLK.src.HS_TEMP : Nat := 4
abbrev CLK.src.HS_PARITY : Nat := 5
abbrev FLT.src.ACCESS_SIZE : Nat := 0
abbrev FLT.src.ACCESS_VALUE : Nat := 1
abbrev FLT.src.ACCESS_OFF : Nat := 2
abbrev EVT.src.EVT_DROP : Nat := 0
abbrev EVT.src.EVT_LOST : Nat := 1
abbrev NVM.src.WR_DONE : Nat := 0
abbrev NVM.src.WR_REFUSED : Nat := 1
abbrev NVM.src.NVM_UE : Nat := 2
abbrev NVM.src.CAL_LOST : Nat := 3
abbrev SEC.src.MESH : Nat := 0
abbrev SEC.src.GLITCH : Nat := 1
abbrev SEC.src.CLOCK : Nat := 2
abbrev SEC.src.TEMP_AON : Nat := 3
abbrev SEC.src.DEBUG : Nat := 4
abbrev SEC.src.KEY_INT : Nat := 5
abbrev SEC.src.BOOT_FAIL : Nat := 6
abbrev SEC.src.MBX_DONE : Nat := 7
abbrev SEC.src.MBX_REFUSED : Nat := 8
abbrev SEC.src.LVL_REFUSED : Nat := 9
abbrev THM.src.THM_WARN : Nat := 0
abbrev THM.src.THM_REQ : Nat := 1
abbrev THM.src.THM_ENF : Nat := 2
abbrev THM.src.SENSOR_FAIL : Nat := 3
abbrev THM.src.THM_TRIP : Nat := 4
abbrev MON.src.Q_OVF : Nat := 0
abbrev MON.src.Q_THR : Nat := 1
abbrev MON.src.Q_UNDER : Nat := 2
abbrev BIA.src.RB_WINDOW : Nat := 0
abbrev BIA.src.SUPPLY_LOST : Nat := 1
abbrev BIA.src.BIAS_BUSY : Nat := 2
abbrev BIA.src.BIAS_BOUND : Nat := 3
abbrev SYN.src.CHG_DONE : Nat := 0
abbrev SYN.src.CHG_REFUSED : Nat := 1
abbrev SYN.src.SYNTH_UNLOCK : Nat := 2
abbrev SYN.src.SYNTH_FAIL : Nat := 3
abbrev TDD.src.SYNC_ACQ : Nat := 0
abbrev TDD.src.SYNC_LOST : Nat := 1
abbrev TDD.src.TB_DRIFT : Nat := 2
abbrev TDD.src.TB_REFUSED : Nat := 3
abbrev TDD.src.PAT_REFUSED : Nat := 4
abbrev REGL.src.REGL_REFUSED : Nat := 0
abbrev REGL.src.LOCK_RESULT : Nat := 1
abbrev CNV.src.CH_BUSY : Nat := 0
abbrev CNV.src.CAL_DRIFT : Nat := 1
abbrev CNV.src.OBS_REFUSED : Nat := 2
abbrev FWD.src.ENABLE_REFUSED : Nat := 0
abbrev FWD.src.COMMIT_REFUSED : Nat := 1
abbrev FWD.src.CFG_LOCKED : Nat := 2
abbrev FWD.src.SHADOW_LOCKED : Nat := 3
abbrev FWD.src.FIR_SRC : Nat := 4
abbrev FWD.src.LANE_FULL : Nat := 5
abbrev FWD.src.DRAIN_LATE : Nat := 6
abbrev FWD.src.TX_SAT : Nat := 7
abbrev CAN.src.RESIZE_DONE : Nat := 0
abbrev CAN.src.RESIZE_REFUSED : Nat := 1
abbrev CAN.src.DIVERGE : Nat := 2
abbrev CAN.src.POOL_CE : Nat := 3
abbrev CAN.src.POOL_UE : Nat := 4
abbrev CAN.src.POOL_WR : Nat := 5
abbrev CAN.src.REACH_IDLE : Nat := 6
abbrev CAN.src.EXTREF_LATE : Nat := 7
abbrev CAN.src.SNAP_DONE : Nat := 8
abbrev CAN.src.SNAP_FAIL : Nat := 9
abbrev CLV.src.LOOP_MISS : Nat := 0
abbrev CLV.src.XFER_REFUSED : Nat := 1
abbrev CLV.src.COEF_REFUSED : Nat := 2
abbrev GOV.src.CLAMP : Nat := 0
abbrev GOV.src.CLAMP_BROAD : Nat := 1
abbrev GOV.src.OSC_MUTE : Nat := 2
abbrev GOV.src.OSC_LATCH : Nat := 3
abbrev GOV.src.PWR_CLAMP : Nat := 4
abbrev GOV.src.NOISE_RED : Nat := 5
abbrev GOV.src.MASK_MUTE : Nat := 6
abbrev GOV.src.DUTY_MUTE : Nat := 7
abbrev GOV.src.BAND_FAULT : Nat := 8
abbrev GOV.src.PERMIT_CHG : Nat := 9
abbrev GOV.src.GATE_FAIL : Nat := 10
abbrev CAP.src.INJ_DONE : Nat := 0
abbrev CAP.src.LCAP_DONE : Nat := 1
abbrev CAP.src.IQ_DONE : Nat := 2
abbrev FEC.src.SEQ_REFUSED : Nat := 0
abbrev FEC.src.SEQ_CLASH : Nat := 1
abbrev FEC.src.RFFE_LATE : Nat := 2
abbrev FEC.src.RFFE_PARITY : Nat := 3
abbrev DIV.src.DIV_SWITCH : Nat := 0
abbrev DIV.src.DIV_REFUSED : Nat := 1
abbrev PWT.src.TXEN_REFUSED : Nat := 0
abbrev PWT.src.PWT_LOCKED : Nat := 1
abbrev LNK.src.LANE_FAIL : Nat := 0
abbrev LNK.src.FRAME_DROP : Nat := 1
abbrev LNK.src.PTP_FAULT : Nat := 2
abbrev PCI.src.LINK_DOWN : Nat := 0
abbrev PCI.src.AER_ERR : Nat := 1
abbrev HSI.src.I2C_TIMEOUT : Nat := 0
abbrev APC.src.MPU_FAULT : Nat := 0
abbrev APC.src.WDOG : Nat := 1
abbrev YCL.src.HANDOFF_DONE : Nat := 0
abbrev YCL.src.DESC_CHECK : Nat := 1
abbrev YCL.src.JOB_TIMEOUT : Nat := 2
abbrev SLP.src.ENABLED : Nat := 0
abbrev SLP.src.OFF : Nat := 1
abbrev SLP.src.COMMIT_DONE : Nat := 2
abbrev SLP.src.HELD : Nat := 3
abbrev SLP.src.INVALID : Nat := 4
abbrev SLP.src.PROT_MUTE : Nat := 5

end Sys2Proof.Machine
end

