-- ==== Sys2Proof/Machine/Regs.lean ====
section
/-! DEFINITION. The register map: every field of every register of every page, with its place, width, access code, reset
value and listed values. Names are the manual's, PAGE.REGISTER.FIELD; an argument is the index of the page or register
(k, n: page instance; j: register index; s: slot; p: page or pattern; l: loop; c: event code).
Registers that are seen through a window of another register (loops, patterns, slot summaries, sources, routes, rate
limits) have a storage address of their own for each object, above the register space. -/
namespace Sys2Proof.Machine

/-- The access codes of R7. -/
inductive Acc where
  | ro | rw | w1c | w1s | wo | rwl | rc
  deriving DecidableEq, Repr

/-- One field: byte address of its register, lowest bit, width, reset value, access code and listed values as closed
intervals (the empty list lists every value, R6). -/
structure Fld where
  addr : Nat
  lo : Nat
  w : Nat
  rst : Nat
  acc : Acc
  ok : List (Nat × Nat)

/-- The key under which a field is stored. -/
def Fld.key (f : Fld) : Nat := 32 * f.addr + f.lo

/-- A field that a write may change. -/
def Fld.writable (f : Fld) : Bool := f.acc == .rw || f.acc == .wo || f.acc == .rwl

/-- A value that the field's description lists (R6). -/
def Fld.legal (f : Fld) (v : Nat) : Bool := f.ok.isEmpty || f.ok.any fun r => r.1 ≤ v && v ≤ r.2

/-- A row of a page: first offset, number of registers, stride, and the fields of the register with an index. -/
structure RegRow where
  off : Nat
  n : Nat
  stride : Nat
  flds : Nat → List Fld

/-- The registers of a row hold an offset: the index, if any. -/
def RegRow.idx (r : RegRow) (o : Nat) : Option Nat :=
  if r.off ≤ o ∧ (o - r.off) % r.stride = 0 ∧ (o - r.off) / r.stride < r.n then some ((o - r.off) / r.stride) else none

/-- One entry of an observation dwell plan. -/
structure ObsEnt where
  valid : Bool
  zone : Nat
  cpl : Nat
  dwell : Nat
  deriving DecidableEq, Repr

/-- The default dwell plan of a chiplet: entry `j % 8` of receiver `j / 8`; the entries that are not valid name zone 1 and coupler 0 (R153).
(DESIGN CHOICE: log 38) -/
def obsDefault (_n j : Nat) : ObsEnt :=
  if j % 8 < 4 then ⟨true, j % 2, 2 * (j / 8) + j % 8 / 2, 25⟩ else ⟨false, 0, 0, 25⟩

/-- The island of a thermal sensor (R325). -/
def sensorIsland (i : Nat) : Nat :=
  if i < 16 then 19 + i
  else if i < 20 then 7 + (i - 16)
  else if i < 28 then 11 + (i - 20)
  else if i < 30 then 45
  else if i < 36 then i - 29
  else if i < 38 then 43 + (i - 36)
  else if i < 40 then 46 + (i - 38)
  else 35 + (i - 40) / 4

/-- The stored tamper levels of a part that has never had a key package: ERASE for MESH and KEY_INT, LOCK for GLITCH, TEMP_AON and DEBUG, LOG for CLOCK
(R377, R378). (DESIGN CHOICE: log 4) -/
def alarmLvlFactory : Nat := 0xE9B

/-- The delegation mask of a part as shipped, word `d` (R127): PWR, CLK, EVT, THM, MON, SYN, CNV0 to CNV7, LNK, APC,
YCL0 to YCL15. -/
def delegFactory (d : Nat) : Nat :=
  if d = 0 then 0x00FF264C else if d = 1 then 0xFFFF4800 else 0

/-- The code of a source record (R417). -/
def sourceCode (p b : Nat) : Nat := 0x1000 + 32 * p + b

/-- The event codes that are assigned (R417). -/
def codeListed (c : Nat) : Bool :=
  (1 ≤ c && c ≤ 3) || (0x1000 ≤ c && c < 0x2000 && (srcOf (c - 0x1000)).impl)

/-- The sources whose records are privileged by their page or name (R411). -/
def privSource (p b : Nat) : Bool :=
  p == 0x02 || p == 0x23 || (p == 0x00 && b == IDN.src.RF_STOP_CHG) || (p == 0x0E && b == TDD.src.SYNC_LOST)
    || (p == 0x2A && b == PWT.src.TXEN_REFUSED)

/-- A code that is privileged by default: at the source's default class (R416). -/
def codePriv (c : Nat) : Bool :=
  c == 1 || c == 3 || (0x1000 ≤ c && (privSource ((c - 0x1000) / 32) (c % 32) || 2 ≤ (srcOf (c - 0x1000)).cls))

/-- Depth and refill time of a code's token bucket at chip reset (R416). -/
def rlDefault (c : Nat) : Nat × Nat :=
  if codeListed c then (if codePriv c then (32, 10) else (8, 100)) else (0, 0)

/-- The address of a slot's block (R155). -/
def slotBase (s : Nat) : Nat := 0x40000 + 0x1000 * (s / 8) + 0x100 + 0x40 * (s % 8)

/-! IDN.PROFILE (R20) -/
def IDN.PROFILE.REFUSE : Fld := ⟨0x50, 24, 4, 0, .ro, []⟩
def IDN.PROFILE.OFFENDER : Fld := ⟨0x50, 12, 9, 0, .ro, []⟩
def IDN.PROFILE.PENDING : Fld := ⟨0x50, 8, 1, 0, .ro, []⟩
def IDN.PROFILE.ACTIVE : Fld := ⟨0x50, 4, 2, 1, .ro, []⟩
def IDN.PROFILE.REQ : Fld := ⟨0x50, 0, 2, 1, .rw, []⟩
/-! PWR.RESET_CAUSE (R56) -/
def PWR.RESET_CAUSE.FAULT_PAGE : Fld := ⟨0x2110, 16, 8, 0, .ro, []⟩
def PWR.RESET_CAUSE.PFAIL : Fld := ⟨0x2110, 6, 1, 0, .w1c, []⟩
def PWR.RESET_CAUSE.WAKE : Fld := ⟨0x2110, 5, 1, 0, .w1c, []⟩
def PWR.RESET_CAUSE.FAULT : Fld := ⟨0x2110, 4, 1, 0, .w1c, []⟩
def PWR.RESET_CAUSE.PIN : Fld := ⟨0x2110, 3, 1, 0, .w1c, []⟩
def PWR.RESET_CAUSE.CHIP_POR : Fld := ⟨0x2110, 2, 1, 0, .w1c, []⟩
def PWR.RESET_CAUSE.AON_POR : Fld := ⟨0x2110, 1, 1, 1, .w1c, []⟩
def PWR.RESET_CAUSE.TERMINAL : Fld := ⟨0x2110, 0, 1, 0, .ro, []⟩
/-! CLK.OSC_STAT (R59) -/
def CLK.OSC_STAT.TRIMMED : Fld := ⟨0x3040, 31, 1, 0, .ro, []⟩
def CLK.OSC_STAT.REF_OK : Fld := ⟨0x3040, 30, 1, 0, .ro, []⟩
def CLK.OSC_STAT.LOST_SEEN : Fld := ⟨0x3040, 29, 1, 0, .w1c, []⟩
def CLK.OSC_STAT.OFF_SEEN : Fld := ⟨0x3040, 28, 1, 0, .w1c, []⟩
def CLK.OSC_STAT.DEV : Fld := ⟨0x3040, 0, 16, 0, .ro, []⟩
/-! CLK.PLL_CTL (R61) -/
def CLK.PLL_CTL.LOCK (j : Nat) : Fld := ⟨0x3080 + 4 * j, 31, 1, 0, .ro, []⟩
def CLK.PLL_CTL.UNLOCK_SEEN (j : Nat) : Fld := ⟨0x3080 + 4 * j, 30, 1, 0, .w1c, []⟩
def CLK.PLL_CTL.EN (j : Nat) : Fld := ⟨0x3080 + 4 * j, 0, 1, 0, .rw, []⟩
/-! CLK.ISL_CLK (R63) -/
def CLK.ISL_CLK.ON (j : Nat) : Fld := ⟨0x3100 + 4 * j, 31, 1, (startsClocked j).toNat, .ro, []⟩
def CLK.ISL_CLK.SRC_NOW (j : Nat) : Fld := ⟨0x3100 + 4 * j, 29, 2, 0, .ro, []⟩
def CLK.ISL_CLK.REFUSE (j : Nat) : Fld := ⟨0x3100 + 4 * j, 20, 4, 0, .ro, []⟩
def CLK.ISL_CLK.DIV_APPLIED (j : Nat) : Fld := ⟨0x3100 + 4 * j, 16, 4, (if 19 ≤ j ∧ j ≤ 34 then 1 else 0), .ro, []⟩
def CLK.ISL_CLK.DIV_REQ (j : Nat) : Fld := ⟨0x3100 + 4 * j, 8, 4, 0, .rw, [(0, 6)]⟩
def CLK.ISL_CLK.SRC (j : Nat) : Fld := ⟨0x3100 + 4 * j, 0, 2, 0, .rw, [(0, 2)]⟩
/-! PWR.ENG_RAIL (R71) -/
def PWR.ENG_RAIL.VCONF (j : Nat) : Fld := ⟨0x2100 + 4 * j, 31, 1, 0, .ro, []⟩
def PWR.ENG_RAIL.REFUSE (j : Nat) : Fld := ⟨0x2100 + 4 * j, 24, 4, 0, .ro, []⟩
def PWR.ENG_RAIL.VCONFIRMED (j : Nat) : Fld := ⟨0x2100 + 4 * j, 12, 8, 0, .ro, []⟩
def PWR.ENG_RAIL.VTARGET (j : Nat) : Fld := ⟨0x2100 + 4 * j, 0, 8, 0x1e, .ro, []⟩
/-! PWR.PWR_CMD (R83) -/
def PWR.PWR_CMD.STATE : Fld := ⟨0x2040, 8, 2, 0, .ro, []⟩
def PWR.PWR_CMD.BUSY : Fld := ⟨0x2040, 4, 1, 0, .ro, []⟩
def PWR.PWR_CMD.REQ : Fld := ⟨0x2040, 0, 2, 0, .rw, []⟩
/-! PWR.REFUSE_CNT (R83) -/
def PWR.REFUSE_CNT.COUNT : Fld := ⟨0x2044, 0, 16, 0, .rc, []⟩
/-! PWR.REFUSER (R83) -/
def PWR.REFUSER.ABORT : Fld := ⟨0x2048, 12, 1, 0, .ro, []⟩
def PWR.REFUSER.REQ_STATE : Fld := ⟨0x2048, 8, 2, 0, .ro, []⟩
def PWR.REFUSER.CODE : Fld := ⟨0x2048, 0, 8, 0, .ro, []⟩
/-! PWR.WAKE_CAUSE (R94) -/
def PWR.WAKE_CAUSE.SLEEP_SEC : Fld := ⟨0x204c, 16, 16, 0, .ro, []⟩
def PWR.WAKE_CAUSE.FROM_STATE : Fld := ⟨0x204c, 8, 2, 0, .ro, []⟩
def PWR.WAKE_CAUSE.FLUSH_CUT : Fld := ⟨0x204c, 3, 1, 0, .w1c, []⟩
def PWR.WAKE_CAUSE.RUN_REQ : Fld := ⟨0x204c, 2, 1, 0, .w1c, []⟩
def PWR.WAKE_CAUSE.REPLAY : Fld := ⟨0x204c, 1, 1, 0, .w1c, []⟩
def PWR.WAKE_CAUSE.MATCH : Fld := ⟨0x204c, 0, 1, 0, .w1c, []⟩
/-! PWR.PAD_RELEASE (R95) -/
def PWR.PAD_RELEASE.FE_HELD : Fld := ⟨0x2050, 31, 1, 0, .ro, []⟩
def PWR.PAD_RELEASE.BIAS_HELD : Fld := ⟨0x2050, 30, 1, 0, .ro, []⟩
def PWR.PAD_RELEASE.KEY : Fld := ⟨0x2050, 8, 8, 0, .wo, [(0xa5, 0xa5)]⟩
def PWR.PAD_RELEASE.RELEASE : Fld := ⟨0x2050, 0, 1, 0, .wo, []⟩
/-! HDR.PAGE_ID (R99) -/
def HDR.PAGE_ID.INSTANCE (p : Nat) : Fld := ⟨0 + 0x1000 * p, 16, 8, (pageInstance p), .ro, []⟩
def HDR.PAGE_ID.BLOCK_TYPE (p : Nat) : Fld := ⟨0 + 0x1000 * p, 8, 8, (pageType p), .ro, []⟩
def HDR.PAGE_ID.PAGE (p : Nat) : Fld := ⟨0 + 0x1000 * p, 0, 8, p, .ro, []⟩
/-! HDR.PAGE_REV (R99) -/
def HDR.PAGE_REV.MAJOR (p : Nat) : Fld := ⟨4 + 0x1000 * p, 8, 8, 1, .ro, []⟩
def HDR.PAGE_REV.MINOR (p : Nat) : Fld := ⟨4 + 0x1000 * p, 0, 8, 0, .ro, []⟩
/-! HDR.PAGE_CTL (R99) -/
def HDR.PAGE_CTL.CLK_REQ (p : Nat) : Fld := ⟨8 + 0x1000 * p, 2, 1, (pageCtlReset p / 4), .rw, []⟩
def HDR.PAGE_CTL.SOFT_RESET (p : Nat) : Fld := ⟨8 + 0x1000 * p, 1, 1, 0, .w1s, []⟩
def HDR.PAGE_CTL.EN (p : Nat) : Fld := ⟨8 + 0x1000 * p, 0, 1, (pageCtlReset p % 2), .rw, []⟩
/-! HDR.PAGE_STAT (R99) -/
def HDR.PAGE_STAT.ISLAND (p : Nat) : Fld := ⟨0xc + 0x1000 * p, 8, 6, (pageIsland p), .ro, []⟩
def HDR.PAGE_STAT.RESET_ACTIVE (p : Nat) : Fld := ⟨0xc + 0x1000 * p, 3, 1, 0, .ro, []⟩
def HDR.PAGE_STAT.BUSY (p : Nat) : Fld := ⟨0xc + 0x1000 * p, 2, 1, 0, .ro, []⟩
def HDR.PAGE_STAT.PWR_ON (p : Nat) : Fld := ⟨0xc + 0x1000 * p, 1, 1, 1, .ro, []⟩
def HDR.PAGE_STAT.CLK_ON (p : Nat) : Fld := ⟨0xc + 0x1000 * p, 0, 1, 0, .ro, []⟩
/-! HDR.ERR_FIRST (R99) -/
def HDR.ERR_FIRST.VALID (p : Nat) : Fld := ⟨0x1c + 0x1000 * p, 31, 1, 0, .ro, []⟩
def HDR.ERR_FIRST.BIT (p : Nat) : Fld := ⟨0x1c + 0x1000 * p, 0, 5, 0, .ro, []⟩
/-! HDR.SNAP_SEQ (R99) -/
def HDR.SNAP_SEQ.SEQ (p : Nat) : Fld := ⟨0x2c + 0x1000 * p, 0, 32, 0, .ro, []⟩
/-! PCI.LINK_STAT (R109) -/
def PCI.LINK_STAT.UP : Fld := ⟨0x2c040, 31, 1, 0, .ro, []⟩
def PCI.LINK_STAT.PERST : Fld := ⟨0x2c040, 30, 1, 0, .ro, []⟩
def PCI.LINK_STAT.SPEED : Fld := ⟨0x2c040, 20, 4, 0, .ro, []⟩
def PCI.LINK_STAT.WIDTH : Fld := ⟨0x2c040, 8, 8, 0, .ro, []⟩
def PCI.LINK_STAT.LTSSM : Fld := ⟨0x2c040, 0, 4, 0, .ro, []⟩
/-! PCI.LINK_CTL (R109) -/
def PCI.LINK_CTL.RETRAIN : Fld := ⟨0x2c044, 2, 1, 0, .wo, []⟩
def PCI.LINK_CTL.MAX_SPEED : Fld := ⟨0x2c044, 0, 2, 3, .rw, []⟩
/-! PCI.IDS (R109) -/
def PCI.IDS.DEVICE : Fld := ⟨0x2c048, 16, 16, 0x8512, .ro, []⟩
def PCI.IDS.VENDOR : Fld := ⟨0x2c048, 0, 16, 0, .ro, []⟩
/-! PCI.AER_UNCOR (R109) -/
def PCI.AER_UNCOR.STATUS : Fld := ⟨0x2c04c, 0, 32, 0, .w1c, []⟩
/-! PCI.AER_COR (R109) -/
def PCI.AER_COR.STATUS : Fld := ⟨0x2c050, 0, 32, 0, .w1c, []⟩
/-! PCI.CNT (R109) -/
def PCI.CNT.DOWN : Fld := ⟨0x2c054, 16, 16, 0, .rc, []⟩
def PCI.CNT.RECOVERY : Fld := ⟨0x2c054, 0, 16, 0, .rc, []⟩
/-! HSI.SPI_STAT (R114) -/
def HSI.SPI_STAT.CUT (j : Nat) : Fld := ⟨0x2d040 + 4 * j, 16, 16, 0, .rc, []⟩
def HSI.SPI_STAT.OPCODE (j : Nat) : Fld := ⟨0x2d040 + 4 * j, 0, 16, 0, .rc, []⟩
/-! HSI.I2C_STAT (R114) -/
def HSI.I2C_STAT.TIMEOUT : Fld := ⟨0x2d048, 16, 16, 0, .rc, []⟩
def HSI.I2C_STAT.PARTIAL : Fld := ⟨0x2d048, 0, 16, 0, .rc, []⟩
/-! HSI.I2C_ADDR (R114) -/
def HSI.I2C_ADDR.ADDR : Fld := ⟨0x2d04c, 0, 7, 0x58, .ro, []⟩
/-! OWN.OWN_CLAIM (R115) -/
def OWN.OWN_CLAIM.RELEASE : Fld := ⟨0x1040, 16, 1, 0, .wo, []⟩
def OWN.OWN_CLAIM.NONCE : Fld := ⟨0x1040, 0, 16, 0, .wo, [(1, 0xffff)]⟩
/-! OWN.OWN_STAT (R115) -/
def OWN.OWN_STAT.STATE : Fld := ⟨0x1044, 30, 2, 0, .ro, []⟩
def OWN.OWN_STAT.OWNER : Fld := ⟨0x1044, 24, 3, 7, .ro, []⟩
def OWN.OWN_STAT.EPOCH : Fld := ⟨0x1044, 16, 8, 0, .ro, []⟩
def OWN.OWN_STAT.NONCE : Fld := ⟨0x1044, 0, 16, 0, .ro, []⟩
/-! OWN.OWN_BEAT (R115) -/
def OWN.OWN_BEAT.NONCE : Fld := ⟨0x1048, 0, 16, 0, .wo, [(1, 0xffff)]⟩
/-! OWN.BEAT_MAX (R115) -/
def OWN.BEAT_MAX.LEFT : Fld := ⟨0x104c, 16, 16, 0, .ro, []⟩
def OWN.BEAT_MAX.MS : Fld := ⟨0x104c, 0, 16, 0x1f4, .rw, [(0xa, 0xea60)]⟩
/-! OWN.HANDOVER (R115) -/
def OWN.HANDOVER.RESULT : Fld := ⟨0x1050, 16, 3, 0, .ro, []⟩
def OWN.HANDOVER.TARGET : Fld := ⟨0x1050, 0, 3, 7, .rw, [(0, 3), (7, 7)]⟩
/-! OWN.ACCEPT (R115) -/
def OWN.ACCEPT.NONCE : Fld := ⟨0x1054, 0, 16, 0, .wo, [(1, 0xffff)]⟩
/-! OWN.DROP_CNT (R115) -/
def OWN.DROP_CNT.LAST_PAGE (j : Nat) : Fld := ⟨0x1070 + 4 * j, 16, 8, 0, .ro, []⟩
def OWN.DROP_CNT.COUNT (j : Nat) : Fld := ⟨0x1070 + 4 * j, 0, 16, 0, .rc, []⟩
/-! IDN.RF_STOP (R128) -/
def IDN.RF_STOP.SETTER : Fld := ⟨0x48, 16, 3, 7, .ro, []⟩
def IDN.RF_STOP.CLEAR : Fld := ⟨0x48, 9, 1, 0, .wo, []⟩
def IDN.RF_STOP.SET : Fld := ⟨0x48, 8, 1, 0, .wo, []⟩
def IDN.RF_STOP.STOP : Fld := ⟨0x48, 0, 1, 0, .ro, []⟩
/-! IRQ.PIN_CTL (R130) -/
def IRQ.PIN_CTL.PEND (j : Nat) : Fld := ⟨0x5040 + 4 * j, 31, 1, 0, .ro, []⟩
def IRQ.PIN_CTL.MASK (j : Nat) : Fld := ⟨0x5040 + 4 * j, 0, 1, 0, .rw, []⟩
/-! SYN.SYN_CTL (R138) -/
def SYN.SYN_CTL.REFUSE (j : Nat) : Fld := ⟨0xd040 + 4 * j, 28, 4, 0, .ro, []⟩
def SYN.SYN_CTL.RECAL (j : Nat) : Fld := ⟨0xd040 + 4 * j, 8, 1, 0, .wo, []⟩
def SYN.SYN_CTL.PLAN (j : Nat) : Fld := ⟨0xd040 + 4 * j, 4, 2, 1, .rw, [(0, 2)]⟩
def SYN.SYN_CTL.EN (j : Nat) : Fld := ⟨0xd040 + 4 * j, 0, 1, 0, .rw, []⟩
/-! SYN.SYN_STAT (R138) -/
def SYN.SYN_STAT.READY (j : Nat) : Fld := ⟨0xd060 + 4 * j, 31, 1, 0, .ro, []⟩
def SYN.SYN_STAT.LOCK (j : Nat) : Fld := ⟨0xd060 + 4 * j, 30, 1, 0, .ro, []⟩
def SYN.SYN_STAT.CONV_RDY (j : Nat) : Fld := ⟨0xd060 + 4 * j, 29, 1, 0, .ro, []⟩
def SYN.SYN_STAT.BUSY (j : Nat) : Fld := ⟨0xd060 + 4 * j, 28, 1, 0, .ro, []⟩
def SYN.SYN_STAT.PEND (j : Nat) : Fld := ⟨0xd060 + 4 * j, 27, 1, 0, .ro, []⟩
def SYN.SYN_STAT.UNLOCK_SEEN (j : Nat) : Fld := ⟨0xd060 + 4 * j, 26, 1, 0, .w1c, []⟩
def SYN.SYN_STAT.STEP (j : Nat) : Fld := ⟨0xd060 + 4 * j, 20, 4, 0, .ro, []⟩
def SYN.SYN_STAT.CHG_CNT (j : Nat) : Fld := ⟨0xd060 + 4 * j, 8, 8, 0, .ro, []⟩
def SYN.SYN_STAT.PLAN_NOW (j : Nat) : Fld := ⟨0xd060 + 4 * j, 4, 2, 1, .ro, []⟩
/-! CNV.RX_CFG (R154) -/
def CNV.RX_CFG.PWR (n : Nat) (j : Nat) : Fld := ⟨0x10040 + 0x1000 * n + 4 * j, 31, 1, 1, .ro, []⟩
def CNV.RX_CFG.DSA (n : Nat) (j : Nat) : Fld := ⟨0x10040 + 0x1000 * n + 4 * j, 8, 5, 0, .rw, [(0, 0x1b)]⟩
def CNV.RX_CFG.ROLE (n : Nat) (j : Nat) : Fld := ⟨0x10040 + 0x1000 * n + 4 * j, 1, 1, 0, .rw, []⟩
/-! CNV.TX_CFG (R154) -/
def CNV.TX_CFG.PWR (n : Nat) (j : Nat) : Fld := ⟨0x10050 + 0x1000 * n + 4 * j, 31, 1, 1, .ro, []⟩
def CNV.TX_CFG.FS (n : Nat) (j : Nat) : Fld := ⟨0x10050 + 0x1000 * n + 4 * j, 8, 2, 0, .rw, []⟩
def CNV.TX_CFG.ROLE (n : Nat) (j : Nat) : Fld := ⟨0x10050 + 0x1000 * n + 4 * j, 1, 1, 0, .rw, []⟩
/-! CNV.CAL_CTL (R154) -/
def CNV.CAL_CTL.BG_EN (n : Nat) : Fld := ⟨0x10060 + 0x1000 * n, 0, 4, 0xf, .rw, []⟩
/-! CNV.CAL_STAT (R154) -/
def CNV.CAL_STAT.DRIFT (n : Nat) : Fld := ⟨0x10064 + 0x1000 * n, 16, 4, 0, .w1c, []⟩
def CNV.CAL_STAT.CONV (n : Nat) : Fld := ⟨0x10064 + 0x1000 * n, 12, 4, 0, .ro, []⟩
def CNV.CAL_STAT.HOLD (n : Nat) : Fld := ⟨0x10064 + 0x1000 * n, 8, 4, 0, .ro, []⟩
def CNV.CAL_STAT.FG_DONE (n : Nat) : Fld := ⟨0x10064 + 0x1000 * n, 0, 4, 0, .ro, []⟩
/-! CNV.CAL_IMG (R154) -/
def CNV.CAL_IMG.IMG_3 (n : Nat) : Fld := ⟨0x10068 + 0x1000 * n, 24, 8, 0, .ro, []⟩
def CNV.CAL_IMG.IMG_2 (n : Nat) : Fld := ⟨0x10068 + 0x1000 * n, 16, 8, 0, .ro, []⟩
def CNV.CAL_IMG.IMG_1 (n : Nat) : Fld := ⟨0x10068 + 0x1000 * n, 8, 8, 0, .ro, []⟩
def CNV.CAL_IMG.IMG_0 (n : Nat) : Fld := ⟨0x10068 + 0x1000 * n, 0, 8, 0, .ro, []⟩
/-! CNV.ILV (R154) -/
def CNV.ILV.SKEW (n : Nat) (j : Nat) : Fld := ⟨0x10070 + 0x1000 * n + 4 * j, 20, 10, 0, .ro, []⟩
def CNV.ILV.GAIN (n : Nat) (j : Nat) : Fld := ⟨0x10070 + 0x1000 * n + 4 * j, 10, 10, 0, .ro, []⟩
def CNV.ILV.OFFSET (n : Nat) (j : Nat) : Fld := ⟨0x10070 + 0x1000 * n + 4 * j, 0, 10, 0, .ro, []⟩
/-! CNV.OBS_ENT (R154) -/
def CNV.OBS_ENT.VALID (n : Nat) (j : Nat) : Fld := ⟨0x10080 + 0x1000 * n + 4 * j, 31, 1, (obsDefault n j).valid.toNat, .rw, []⟩
def CNV.OBS_ENT.ZONE (n : Nat) (j : Nat) : Fld := ⟨0x10080 + 0x1000 * n + 4 * j, 12, 1, (obsDefault n j).zone, .rw, []⟩
def CNV.OBS_ENT.CPL (n : Nat) (j : Nat) : Fld := ⟨0x10080 + 0x1000 * n + 4 * j, 8, 2, (obsDefault n j).cpl, .rw, []⟩
def CNV.OBS_ENT.DWELL (n : Nat) (j : Nat) : Fld := ⟨0x10080 + 0x1000 * n + 4 * j, 0, 8, 0x19, .rw, [(2, 0xc8)]⟩
/-! CNV.OBS_CTL (R154) -/
def CNV.OBS_CTL.PENDING (n : Nat) : Fld := ⟨0x100c0 + 0x1000 * n, 31, 1, 0, .ro, []⟩
def CNV.OBS_CTL.REFUSE (n : Nat) : Fld := ⟨0x100c0 + 0x1000 * n, 24, 4, 0, .ro, []⟩
def CNV.OBS_CTL.OFFENDER (n : Nat) : Fld := ⟨0x100c0 + 0x1000 * n, 12, 9, 0, .ro, []⟩
def CNV.OBS_CTL.COMMIT (n : Nat) : Fld := ⟨0x100c0 + 0x1000 * n, 0, 1, 0, .wo, []⟩
/-! CNV.OBS_STAT (R154) -/
def CNV.OBS_STAT.ENT_1 (n : Nat) : Fld := ⟨0x100c4 + 0x1000 * n, 12, 3, 0, .ro, []⟩
def CNV.OBS_STAT.ENT_0 (n : Nat) : Fld := ⟨0x100c4 + 0x1000 * n, 8, 3, 0, .ro, []⟩
def CNV.OBS_STAT.ACT_1 (n : Nat) : Fld := ⟨0x100c4 + 0x1000 * n, 1, 1, 0, .ro, []⟩
def CNV.OBS_STAT.ACT_0 (n : Nat) : Fld := ⟨0x100c4 + 0x1000 * n, 0, 1, 0, .ro, []⟩
/-! SLP.SLOT_CTL (R156) -/
def SLP.SLOT_CTL.COMMIT (s : Nat) : Fld := ⟨slotBase s + 0, 8, 1, 0, .wo, []⟩
def SLP.SLOT_CTL.EN (s : Nat) : Fld := ⟨slotBase s + 0, 0, 1, 0, .rw, []⟩
/-! SLP.SLOT_STAT (R156) -/
def SLP.SLOT_STAT.RESULT (s : Nat) : Fld := ⟨slotBase s + 4, 28, 4, 0, .ro, []⟩
def SLP.SLOT_STAT.CREFUSE (s : Nat) : Fld := ⟨slotBase s + 4, 25, 3, 0, .ro, []⟩
def SLP.SLOT_STAT.COMMIT_PEND (s : Nat) : Fld := ⟨slotBase s + 4, 24, 1, 0, .ro, []⟩
def SLP.SLOT_STAT.STATE (s : Nat) : Fld := ⟨slotBase s + 4, 20, 4, 0, .ro, []⟩
def SLP.SLOT_STAT.HOLD (s : Nat) : Fld := ⟨slotBase s + 4, 12, 8, 0, .ro, []⟩
def SLP.SLOT_STAT.HIST_VALID (s : Nat) : Fld := ⟨slotBase s + 4, 11, 1, 0, .ro, []⟩
def SLP.SLOT_STAT.DIR (s : Nat) : Fld := ⟨slotBase s + 4, 10, 1, 0, .ro, []⟩
def SLP.SLOT_STAT.DIRTY (s : Nat) : Fld := ⟨slotBase s + 4, 9, 1, 0, .ro, []⟩
/-! SLP.SLOT_CFG (R158) -/
def SLP.SLOT_CFG.RX (s : Nat) : Fld := ⟨slotBase s + 8, 28, 2, 0, .rw, []⟩
def SLP.SLOT_CFG.RATE (s : Nat) : Fld := ⟨slotBase s + 8, 24, 3, 4, .rw, [(0, 6)]⟩
def SLP.SLOT_CFG.MA_STAGES (s : Nat) : Fld := ⟨slotBase s + 8, 20, 2, 1, .rw, [(0, 2)]⟩
def SLP.SLOT_CFG.TDD (s : Nat) : Fld := ⟨slotBase s + 8, 16, 4, 0, .rw, []⟩
/-! SLP.SLOT_TX (R158) -/
def SLP.SLOT_TX.VALID3 (s : Nat) : Fld := ⟨slotBase s + 0xc, 31, 1, 0, .rw, []⟩
def SLP.SLOT_TX.TX3 (s : Nat) : Fld := ⟨slotBase s + 0xc, 24, 5, 0, .rw, []⟩
def SLP.SLOT_TX.VALID2 (s : Nat) : Fld := ⟨slotBase s + 0xc, 23, 1, 0, .rw, []⟩
def SLP.SLOT_TX.TX2 (s : Nat) : Fld := ⟨slotBase s + 0xc, 16, 5, 0, .rw, []⟩
def SLP.SLOT_TX.VALID1 (s : Nat) : Fld := ⟨slotBase s + 0xc, 15, 1, 0, .rw, []⟩
def SLP.SLOT_TX.TX1 (s : Nat) : Fld := ⟨slotBase s + 0xc, 8, 5, 0, .rw, []⟩
def SLP.SLOT_TX.VALID0 (s : Nat) : Fld := ⟨slotBase s + 0xc, 7, 1, 0, .rw, []⟩
def SLP.SLOT_TX.TX0 (s : Nat) : Fld := ⟨slotBase s + 0xc, 0, 5, 0, .rw, []⟩
/-! SLP.RX_CENTRE (R158) -/
def SLP.RX_CENTRE.FREQ (s : Nat) : Fld := ⟨slotBase s + 0x10, 0, 32, 0xbebc200, .rw, [(0xbebc200, 0xd693a400)]⟩
/-! SLP.TX_CENTRE (R158) -/
def SLP.TX_CENTRE.FREQ (s : Nat) : Fld := ⟨slotBase s + 0x14, 0, 32, 0xbebc200, .rw, [(0xbebc200, 0xd693a400)]⟩
/-! SLP.GAIN (R159) -/
def SLP.GAIN.TARGET (s : Nat) : Fld := ⟨slotBase s + 0x18, 0, 12, 0x9c0, .rw, [(0, 0x4b0), (0x9c0, 0xfff)]⟩
/-! SLP.GAIN_STAT (R159) -/
def SLP.GAIN_STAT.LIMIT (s : Nat) : Fld := ⟨slotBase s + 0x1c, 28, 4, 0, .ro, []⟩
def SLP.GAIN_STAT.BACKOFF (s : Nat) : Fld := ⟨slotBase s + 0x1c, 27, 1, 0, .ro, []⟩
def SLP.GAIN_STAT.APPLIED (s : Nat) : Fld := ⟨slotBase s + 0x1c, 0, 12, 0x800, .ro, []⟩
/-! SLP.FIR_CTL (R159) -/
def SLP.FIR_CTL.SRC (s : Nat) : Fld := ⟨slotBase s + 0x20, 31, 1, 0, .rw, []⟩
def SLP.FIR_CTL.LEN (s : Nat) : Fld := ⟨slotBase s + 0x20, 0, 9, 0x40, .rw, [(0x10, 0x100)]⟩
/-! SLP.EXPORT (R159) -/
def SLP.EXPORT.EN (s : Nat) : Fld := ⟨slotBase s + 0x24, 31, 1, 0, .rw, []⟩
def SLP.EXPORT.POINT (s : Nat) : Fld := ⟨slotBase s + 0x24, 29, 2, 0, .rw, [(0, 2)]⟩
def SLP.EXPORT.FMT (s : Nat) : Fld := ⟨slotBase s + 0x24, 28, 1, 0, .rw, []⟩
def SLP.EXPORT.LANE (s : Nat) : Fld := ⟨slotBase s + 0x24, 24, 4, 0, .rw, []⟩
/-! SLP.LAT_STAT (R159) -/
def SLP.LAT_STAT.FIR_LIVE (s : Nat) : Fld := ⟨slotBase s + 0x34, 16, 9, 0, .ro, []⟩
def SLP.LAT_STAT.BAL (s : Nat) : Fld := ⟨slotBase s + 0x34, 0, 16, 0, .ro, []⟩
/-! SLP.SLOT_CNT (R159) -/
def SLP.SLOT_CNT.COMMITS (s : Nat) : Fld := ⟨slotBase s + 0x38, 16, 16, 0, .ro, []⟩
def SLP.SLOT_CNT.INVALID (s : Nat) : Fld := ⟨slotBase s + 0x38, 0, 16, 0, .rc, []⟩
/-! FWD.RATE_SUM (R165) -/
def FWD.RATE_SUM.PART (n : Nat) : Fld := ⟨0x18040 + 0x1000 * n, 16, 12, 0, .ro, []⟩
def FWD.RATE_SUM.GROUP (n : Nat) : Fld := ⟨0x18040 + 0x1000 * n, 0, 9, 0, .ro, []⟩
/-! FWD.FIR_SEL (R176) -/
def FWD.FIR_SEL.SLOT (n : Nat) : Fld := ⟨0x18044 + 0x1000 * n, 16, 6, 0, .rw, []⟩
def FWD.FIR_SEL.TAP (n : Nat) : Fld := ⟨0x18044 + 0x1000 * n, 0, 8, 0, .rw, []⟩
/-! FWD.FIR_DATA (R176) -/
def FWD.FIR_DATA.I (n : Nat) : Fld := ⟨0x18048 + 0x1000 * n, 16, 16, 0, .rw, []⟩
def FWD.FIR_DATA.Q (n : Nat) : Fld := ⟨0x18048 + 0x1000 * n, 0, 16, 0, .rw, []⟩
/-! FWD.NOTE_SLOT (R176) -/
def FWD.NOTE_SLOT.SLOT (n : Nat) : Fld := ⟨0x1804c + 0x1000 * n, 0, 9, 0, .ro, []⟩
/-! FWD.TX_SAT (R176) -/
def FWD.TX_SAT.COUNT (n : Nat) (j : Nat) : Fld := ⟨0x18050 + 0x1000 * n + 4 * j, 0, 16, 0, .rc, []⟩
/-! LNK.LANE_CTL (R181) -/
def LNK.LANE_CTL.EN (j : Nat) : Fld := ⟨0x2b100 + 0x20 * j, 31, 1, 0, .rw, []⟩
def LNK.LANE_CTL.RX_EN (j : Nat) : Fld := ⟨0x2b100 + 0x20 * j, 30, 1, 0, .rw, []⟩
def LNK.LANE_CTL.ETYPE (j : Nat) : Fld := ⟨0x2b100 + 0x20 * j, 0, 16, 0x88b5, .rw, [(0x600, 0x88f6), (0x88f8, 0xffff)]⟩
/-! LNK.LANE_STAT (R181) -/
def LNK.LANE_STAT.UP (j : Nat) : Fld := ⟨0x2b104 + 0x20 * j, 31, 1, 0, .ro, []⟩
def LNK.LANE_STAT.LFAULT (j : Nat) : Fld := ⟨0x2b104 + 0x20 * j, 30, 1, 0, .ro, []⟩
def LNK.LANE_STAT.RFAULT (j : Nat) : Fld := ⟨0x2b104 + 0x20 * j, 29, 1, 0, .ro, []⟩
def LNK.LANE_STAT.LOAD (j : Nat) : Fld := ⟨0x2b104 + 0x20 * j, 0, 9, 0, .ro, []⟩
/-! LNK.DST_LO (R181) -/
def LNK.DST_LO.ADDR (j : Nat) : Fld := ⟨0x2b108 + 0x20 * j, 0, 32, 0, .rw, []⟩
/-! LNK.DST_HI (R181) -/
def LNK.DST_HI.ADDR (j : Nat) : Fld := ⟨0x2b10c + 0x20 * j, 0, 16, 0, .rw, []⟩
/-! LNK.SRC_LO (R181) -/
def LNK.SRC_LO.ADDR (j : Nat) : Fld := ⟨0x2b110 + 0x20 * j, 0, 32, 0, .rw, []⟩
/-! LNK.SRC_HI (R181) -/
def LNK.SRC_HI.ADDR (j : Nat) : Fld := ⟨0x2b114 + 0x20 * j, 0, 16, 0, .rw, []⟩
/-! LNK.TX_CNT (R181) -/
def LNK.TX_CNT.DISCARDED (j : Nat) : Fld := ⟨0x2b118 + 0x20 * j, 16, 16, 0, .rc, []⟩
def LNK.TX_CNT.SENT (j : Nat) : Fld := ⟨0x2b118 + 0x20 * j, 0, 16, 0, .ro, []⟩
/-! LNK.RX_CNT (R181) -/
def LNK.RX_CNT.LATE (j : Nat) : Fld := ⟨0x2b11c + 0x20 * j, 16, 16, 0, .rc, []⟩
def LNK.RX_CNT.BAD (j : Nat) : Fld := ⟨0x2b11c + 0x20 * j, 0, 16, 0, .rc, []⟩
/-! LNK.PTP_CTL (R182) -/
def LNK.PTP_CTL.SET : Fld := ⟨0x2b040, 31, 1, 0, .ro, []⟩
def LNK.PTP_CTL.VALID : Fld := ⟨0x2b040, 30, 1, 0, .ro, []⟩
def LNK.PTP_CTL.LPEND : Fld := ⟨0x2b040, 29, 1, 0, .ro, []⟩
def LNK.PTP_CTL.BEAT : Fld := ⟨0x2b040, 3, 1, 0, .wo, []⟩
def LNK.PTP_CTL.STEP : Fld := ⟨0x2b040, 2, 1, 0, .wo, []⟩
def LNK.PTP_CTL.LOAD_PPS : Fld := ⟨0x2b040, 1, 1, 0, .wo, []⟩
def LNK.PTP_CTL.LOAD_NOW : Fld := ⟨0x2b040, 0, 1, 0, .wo, []⟩
/-! LNK.PTP_LD_SEC_HI (R182) -/
def LNK.PTP_LD_SEC_HI.SEC : Fld := ⟨0x2b044, 0, 16, 0, .rw, []⟩
/-! LNK.PTP_LD_SEC_LO (R182) -/
def LNK.PTP_LD_SEC_LO.SEC : Fld := ⟨0x2b048, 0, 32, 0, .rw, []⟩
/-! LNK.PTP_LD_NS (R182) -/
def LNK.PTP_LD_NS.NS : Fld := ⟨0x2b04c, 0, 30, 0, .rw, [(0, 0x3b9ac9ff)]⟩
/-! LNK.PTP_STEP (R182) -/
def LNK.PTP_STEP.NS : Fld := ⟨0x2b050, 0, 32, 0, .rw, [(0, 0x1dcd6500), (0xe2329b00, 0xffffffff)]⟩
/-! LNK.PTP_RATE (R182) -/
def LNK.PTP_RATE.ADJ : Fld := ⟨0x2b054, 0, 32, 0, .rw, [(0, 0x5f5e100), (0xfa0a1f00, 0xffffffff)]⟩
/-! LNK.TIME_SEC_HI (R182) -/
def LNK.TIME_SEC_HI.SEC : Fld := ⟨0x2b058, 0, 16, 0, .ro, []⟩
/-! LNK.TIME_SEC_LO (R182) -/
def LNK.TIME_SEC_LO.SEC : Fld := ⟨0x2b05c, 0, 32, 0, .ro, []⟩
/-! LNK.TIME_NS (R182) -/
def LNK.TIME_NS.NS : Fld := ⟨0x2b060, 0, 30, 0, .ro, []⟩
/-! LNK.PPS_SEC_HI (R182) -/
def LNK.PPS_SEC_HI.SEC : Fld := ⟨0x2b064, 0, 16, 0, .ro, []⟩
/-! LNK.PPS_SEC_LO (R182) -/
def LNK.PPS_SEC_LO.SEC : Fld := ⟨0x2b068, 0, 32, 0, .ro, []⟩
/-! LNK.PPS_NS (R182) -/
def LNK.PPS_NS.NS : Fld := ⟨0x2b06c, 0, 30, 0, .ro, []⟩
/-! LNK.RXQ_STAT (R183) -/
def LNK.RXQ_STAT.VALID : Fld := ⟨0x2b070, 31, 1, 0, .ro, []⟩
def LNK.RXQ_STAT.LANE : Fld := ⟨0x2b070, 27, 4, 0, .ro, []⟩
def LNK.RXQ_STAT.DROP : Fld := ⟨0x2b070, 16, 8, 0, .rc, []⟩
def LNK.RXQ_STAT.LEVEL : Fld := ⟨0x2b070, 8, 5, 0, .ro, []⟩
def LNK.RXQ_STAT.LEN : Fld := ⟨0x2b070, 0, 8, 0, .ro, []⟩
/-! LNK.RXQ_TS_SEC_HI (R183) -/
def LNK.RXQ_TS_SEC_HI.SEC : Fld := ⟨0x2b074, 0, 16, 0, .ro, []⟩
/-! LNK.RXQ_TS_SEC_LO (R183) -/
def LNK.RXQ_TS_SEC_LO.SEC : Fld := ⟨0x2b078, 0, 32, 0, .ro, []⟩
/-! LNK.RXQ_TS_NS (R183) -/
def LNK.RXQ_TS_NS.NS : Fld := ⟨0x2b07c, 0, 30, 0, .ro, []⟩
/-! LNK.RXQ_DATA (R183) -/
def LNK.RXQ_DATA.DATA : Fld := ⟨0x2b080, 0, 32, 0, .ro, []⟩
/-! LNK.RXQ_POP (R183) -/
def LNK.RXQ_POP.POP : Fld := ⟨0x2b084, 0, 1, 0, .wo, []⟩
/-! LNK.TXQ_CTL (R183) -/
def LNK.TXQ_CTL.BUSY : Fld := ⟨0x2b088, 31, 1, 0, .ro, []⟩
def LNK.TXQ_CTL.LANE : Fld := ⟨0x2b088, 16, 4, 0, .rw, []⟩
def LNK.TXQ_CTL.GO : Fld := ⟨0x2b088, 8, 1, 0, .wo, []⟩
def LNK.TXQ_CTL.LEN : Fld := ⟨0x2b088, 0, 8, 0xe, .rw, [(0xe, 0x80)]⟩
/-! LNK.TXQ_DATA (R183) -/
def LNK.TXQ_DATA.DATA : Fld := ⟨0x2b08c, 0, 32, 0, .wo, []⟩
/-! LNK.TXQ_TS_SEC_HI (R183) -/
def LNK.TXQ_TS_SEC_HI.SEC : Fld := ⟨0x2b090, 0, 16, 0, .ro, []⟩
/-! LNK.TXQ_TS_SEC_LO (R183) -/
def LNK.TXQ_TS_SEC_LO.SEC : Fld := ⟨0x2b094, 0, 32, 0, .ro, []⟩
/-! LNK.TXQ_TS_NS (R183) -/
def LNK.TXQ_TS_NS.NS : Fld := ⟨0x2b098, 0, 30, 0, .ro, []⟩
/-! SLP.CAN_REACH (R188) -/
def SLP.CAN_REACH.INDEX0 (s : Nat) : Fld := ⟨slotBase s + 0x2c, 0, 5, 0, .rw, []⟩
def SLP.CAN_REACH.OBS0 (s : Nat) : Fld := ⟨slotBase s + 0x2c, 5, 1, 0, .rw, []⟩
def SLP.CAN_REACH.KIND0 (s : Nat) : Fld := ⟨slotBase s + 0x2c, 6, 2, 0, .rw, [(0, 2)]⟩
def SLP.CAN_REACH.INDEX1 (s : Nat) : Fld := ⟨slotBase s + 0x2c, 8, 5, 0, .rw, []⟩
def SLP.CAN_REACH.OBS1 (s : Nat) : Fld := ⟨slotBase s + 0x2c, 13, 1, 0, .rw, []⟩
def SLP.CAN_REACH.KIND1 (s : Nat) : Fld := ⟨slotBase s + 0x2c, 14, 2, 0, .rw, [(0, 2)]⟩
def SLP.CAN_REACH.INDEX2 (s : Nat) : Fld := ⟨slotBase s + 0x2c, 16, 5, 0, .rw, []⟩
def SLP.CAN_REACH.OBS2 (s : Nat) : Fld := ⟨slotBase s + 0x2c, 21, 1, 0, .rw, []⟩
def SLP.CAN_REACH.KIND2 (s : Nat) : Fld := ⟨slotBase s + 0x2c, 22, 2, 0, .rw, [(0, 2)]⟩
def SLP.CAN_REACH.INDEX3 (s : Nat) : Fld := ⟨slotBase s + 0x2c, 24, 5, 0, .rw, []⟩
def SLP.CAN_REACH.OBS3 (s : Nat) : Fld := ⟨slotBase s + 0x2c, 29, 1, 0, .rw, []⟩
def SLP.CAN_REACH.KIND3 (s : Nat) : Fld := ⟨slotBase s + 0x2c, 30, 2, 0, .rw, [(0, 2)]⟩
/-! SLP.CAN_CFG (R190) -/
def SLP.CAN_CFG.MODE (s : Nat) : Fld := ⟨slotBase s + 0x28, 30, 2, 1, .rw, []⟩
def SLP.CAN_CFG.ALT (s : Nat) : Fld := ⟨slotBase s + 0x28, 29, 1, 0, .rw, []⟩
def SLP.CAN_CFG.WARM (s : Nat) : Fld := ⟨slotBase s + 0x28, 28, 1, 1, .rw, []⟩
def SLP.CAN_CFG.EXT3 (s : Nat) : Fld := ⟨slotBase s + 0x28, 21, 7, 0, .rw, [(0, 0x40)]⟩
def SLP.CAN_CFG.EXT2 (s : Nat) : Fld := ⟨slotBase s + 0x28, 14, 7, 0, .rw, [(0, 0x40)]⟩
def SLP.CAN_CFG.EXT1 (s : Nat) : Fld := ⟨slotBase s + 0x28, 7, 7, 0, .rw, [(0, 0x40)]⟩
def SLP.CAN_CFG.EXT0 (s : Nat) : Fld := ⟨slotBase s + 0x28, 0, 7, 2, .rw, [(0, 0x40)]⟩
/-! CAN.BUDGET (R216) -/
def CAN.BUDGET.THERM : Fld := ⟨0x20040, 31, 1, 0, .ro, []⟩
def CAN.BUDGET.CAP : Fld := ⟨0x20040, 16, 14, 0x2000, .ro, []⟩
def CAN.BUDGET.USED : Fld := ⟨0x20040, 0, 14, 0, .ro, []⟩
/-! CAN.POOL (R216) -/
def CAN.POOL.FREE : Fld := ⟨0x20044, 16, 16, 0x8000, .ro, []⟩
def CAN.POOL.PARKED : Fld := ⟨0x20044, 0, 16, 0, .ro, []⟩
/-! CAN.RESIZE (R216) -/
def CAN.RESIZE.PENDING : Fld := ⟨0x20048, 31, 1, 0, .ro, []⟩
def CAN.RESIZE.RESULT : Fld := ⟨0x20048, 24, 4, 0, .ro, []⟩
def CAN.RESIZE.SLOT : Fld := ⟨0x20048, 0, 9, 0, .ro, []⟩
/-! CAN.CADENCE (R216) -/
def CAN.CADENCE.U0 : Fld := ⟨0x2004c, 24, 8, 0x64, .rw, [(1, 0xff)]⟩
def CAN.CADENCE.U1 : Fld := ⟨0x2004c, 16, 8, 0xa, .rw, [(1, 0xff)]⟩
def CAN.CADENCE.U2 : Fld := ⟨0x2004c, 8, 8, 2, .rw, [(1, 0xff)]⟩
def CAN.CADENCE.U3 : Fld := ⟨0x2004c, 0, 8, 1, .rw, [(1, 0xff)]⟩
/-! CAN.ADAPT_CFG (R216) -/
def CAN.ADAPT_CFG.COV_WIN : Fld := ⟨0x20050, 24, 4, 8, .rw, [(4, 0xc)]⟩
def CAN.ADAPT_CFG.LEAK : Fld := ⟨0x20050, 16, 8, 0, .rw, []⟩
def CAN.ADAPT_CFG.MU : Fld := ⟨0x20050, 8, 8, 0x40, .rw, [(1, 0xff)]⟩
def CAN.ADAPT_CFG.DIV_DB : Fld := ⟨0x20050, 0, 4, 1, .rw, [(1, 8)]⟩
/-! CAN.STEAL_CFG (R216) -/
def CAN.STEAL_CFG.RETRY : Fld := ⟨0x20054, 8, 8, 0xa, .rw, [(1, 0xff)]⟩
def CAN.STEAL_CFG.RING_EN : Fld := ⟨0x20054, 1, 1, 1, .rw, []⟩
def CAN.STEAL_CFG.URGENT_PEEK : Fld := ⟨0x20054, 0, 1, 1, .rw, []⟩
/-! CAN.JOB_CNT_0 (R216) -/
def CAN.JOB_CNT_0.STALE : Fld := ⟨0x20058, 16, 16, 0, .rc, []⟩
def CAN.JOB_CNT_0.DISCARDED : Fld := ⟨0x20058, 0, 16, 0, .rc, []⟩
/-! CAN.JOB_CNT_1 (R216) -/
def CAN.JOB_CNT_1.TIMEOUT : Fld := ⟨0x2005c, 16, 16, 0, .rc, []⟩
def CAN.JOB_CNT_1.FULL : Fld := ⟨0x2005c, 0, 16, 0, .rc, []⟩
/-! CAN.JOB_CNT_2 (R216) -/
def CAN.JOB_CNT_2.SKIPPED : Fld := ⟨0x20084, 16, 16, 0, .rc, []⟩
def CAN.JOB_CNT_2.REJECTED : Fld := ⟨0x20084, 0, 16, 0, .rc, []⟩
/-! CAN.XT_SEL (R216) -/
def CAN.XT_SEL.SLOT : Fld := ⟨0x20060, 16, 9, 0, .rw, []⟩
def CAN.XT_SEL.INDEX : Fld := ⟨0x20060, 0, 7, 0, .rw, []⟩
/-! CAN.XT_DATA (R216) -/
def CAN.XT_DATA.VALID : Fld := ⟨0x20064, 31, 1, 0, .ro, []⟩
def CAN.XT_DATA.ALT : Fld := ⟨0x20064, 30, 1, 0, .ro, []⟩
def CAN.XT_DATA.AGG : Fld := ⟨0x20064, 28, 2, 0, .ro, []⟩
def CAN.XT_DATA.PART : Fld := ⟨0x20064, 22, 6, 0, .ro, []⟩
def CAN.XT_DATA.SHIFT : Fld := ⟨0x20064, 18, 4, 0, .rw, []⟩
def CAN.XT_DATA.PARK : Fld := ⟨0x20064, 15, 1, 0, .ro, []⟩
def CAN.XT_DATA.EXTENT : Fld := ⟨0x20064, 0, 15, 0, .ro, []⟩
/-! CAN.SLOT_INFO (R216) -/
def CAN.SLOT_INFO.WARM (s : Nat) : Fld := ⟨0x120000 + 0x80 * s + 8, 31, 1, 0, .ro, []⟩
def CAN.SLOT_INFO.WARM_PEND (s : Nat) : Fld := ⟨0x120000 + 0x80 * s + 8, 30, 1, 0, .ro, []⟩
def CAN.SLOT_INFO.DIVERGED (s : Nat) : Fld := ⟨0x120000 + 0x80 * s + 8, 29, 1, 0, .ro, []⟩
def CAN.SLOT_INFO.ALT_ACTIVE (s : Nat) : Fld := ⟨0x120000 + 0x80 * s + 8, 28, 1, 0, .ro, []⟩
def CAN.SLOT_INFO.DEPTH (s : Nat) : Fld := ⟨0x120000 + 0x80 * s + 8, 12, 8, 0, .ro, []⟩
/-! CAN.POOL_ADDR (R216) -/
def CAN.POOL_ADDR.BANK : Fld := ⟨0x20070, 31, 1, 0, .rw, []⟩
def CAN.POOL_ADDR.ENTRY : Fld := ⟨0x20070, 0, 21, 0, .rw, []⟩
/-! CAN.POOL_DATA (R216) -/
def CAN.POOL_DATA.I : Fld := ⟨0x20074, 16, 16, 0, .rw, []⟩
def CAN.POOL_DATA.Q : Fld := ⟨0x20074, 0, 16, 0, .rw, []⟩
/-! CAN.SNAP_CTL (R216) -/
def CAN.SNAP_CTL.AUTO : Fld := ⟨0x2007c, 8, 8, 0xa, .rw, []⟩
def CAN.SNAP_CTL.SAVE : Fld := ⟨0x2007c, 0, 1, 0, .wo, []⟩
/-! CAN.SNAP_STAT (R216) -/
def CAN.SNAP_STAT.BUSY : Fld := ⟨0x20080, 31, 1, 0, .ro, []⟩
def CAN.SNAP_STAT.VALID : Fld := ⟨0x20080, 30, 1, 0, .ro, []⟩
def CAN.SNAP_STAT.RESULT : Fld := ⟨0x20080, 28, 2, 0, .ro, []⟩
def CAN.SNAP_STAT.SLOTS : Fld := ⟨0x20080, 16, 10, 0, .ro, []⟩
def CAN.SNAP_STAT.AGE : Fld := ⟨0x20080, 0, 16, 0, .ro, []⟩
/-! CAN.POOL_ERR (R216) -/
def CAN.POOL_ERR.RETIRED : Fld := ⟨0x20088, 8, 8, 0, .ro, []⟩
def CAN.POOL_ERR.CE_CNT : Fld := ⟨0x20088, 0, 8, 0, .rc, []⟩
/-! CAN.EXT_REF (R216) -/
def CAN.EXT_REF.EN (j : Nat) : Fld := ⟨0x200c0 + 4 * j, 31, 1, 0, .rw, []⟩
def CAN.EXT_REF.LIVE (j : Nat) : Fld := ⟨0x200c0 + 4 * j, 30, 1, 0, .ro, []⟩
def CAN.EXT_REF.LANE (j : Nat) : Fld := ⟨0x200c0 + 4 * j, 24, 4, 0, .rw, []⟩
def CAN.EXT_REF.SLOT (j : Nat) : Fld := ⟨0x200c0 + 4 * j, 0, 9, 0, .rw, []⟩
/-! YCL.ENG_STAT (R217) -/
def YCL.ENG_STAT.STATE (k : Nat) : Fld := ⟨0x30040 + 0x1000 * k, 30, 2, 3, .ro, []⟩
def YCL.ENG_STAT.BUSY (k : Nat) : Fld := ⟨0x30040 + 0x1000 * k, 0, 16, 0, .ro, []⟩
/-! YCL.STEAL_CNT (R217) -/
def YCL.STEAL_CNT.RING (k : Nat) : Fld := ⟨0x30044 + 0x1000 * k, 16, 16, 0, .rc, []⟩
def YCL.STEAL_CNT.LOCAL (k : Nat) : Fld := ⟨0x30044 + 0x1000 * k, 0, 16, 0, .rc, []⟩
/-! YCL.JOB_DONE (R217) -/
def YCL.JOB_DONE.COUNT (k : Nat) : Fld := ⟨0x30048 + 0x1000 * k, 0, 32, 0, .ro, []⟩
/-! YCL.DESC_SEL (R217) -/
def YCL.DESC_SEL.ENG (k : Nat) : Fld := ⟨0x3004c + 0x1000 * k, 10, 4, 0, .rw, []⟩
def YCL.DESC_SEL.ENTRY (k : Nat) : Fld := ⟨0x3004c + 0x1000 * k, 4, 6, 0, .rw, []⟩
def YCL.DESC_SEL.WORD (k : Nat) : Fld := ⟨0x3004c + 0x1000 * k, 0, 4, 0, .rw, []⟩
/-! YCL.DESC_DATA (R217) -/
def YCL.DESC_DATA.DATA (k : Nat) : Fld := ⟨0x30050 + 0x1000 * k, 0, 32, 0, .ro, []⟩
/-! YCL.DEQ (R217) -/
def YCL.DEQ.BACKGROUND (k : Nat) (j : Nat) : Fld := ⟨0x30080 + 0x1000 * k + 4 * j, 24, 7, 0, .ro, []⟩
def YCL.DEQ.ROUTINE (k : Nat) (j : Nat) : Fld := ⟨0x30080 + 0x1000 * k + 4 * j, 16, 7, 0, .ro, []⟩
def YCL.DEQ.URGENT (k : Nat) (j : Nat) : Fld := ⟨0x30080 + 0x1000 * k + 4 * j, 8, 7, 0, .ro, []⟩
def YCL.DEQ.DEPTH (k : Nat) (j : Nat) : Fld := ⟨0x30080 + 0x1000 * k + 4 * j, 0, 7, 0, .ro, []⟩
/-! OBS.BIN_SEL (R250) -/
def OBS.BIN_SEL.SLOT : Fld := ⟨0x21040, 16, 9, 0, .rw, []⟩
def OBS.BIN_SEL.BIN : Fld := ⟨0x21040, 0, 9, 0, .rw, []⟩
/-! OBS.BIN_DATA0 (R250) -/
def OBS.BIN_DATA0.LG : Fld := ⟨0x21044, 16, 16, 0, .ro, []⟩
def OBS.BIN_DATA0.IEFF : Fld := ⟨0x21044, 0, 16, 0, .ro, []⟩
/-! OBS.BIN_DATA1 (R250) -/
def OBS.BIN_DATA1.IPHYS : Fld := ⟨0x21048, 16, 16, 0, .ro, []⟩
def OBS.BIN_DATA1.COH : Fld := ⟨0x21048, 8, 8, 0, .ro, []⟩
def OBS.BIN_DATA1.VALID : Fld := ⟨0x21048, 7, 1, 0, .ro, []⟩
def OBS.BIN_DATA1.NOTCHED : Fld := ⟨0x21048, 6, 1, 0, .ro, []⟩
def OBS.BIN_DATA1.STEP : Fld := ⟨0x21048, 4, 2, 0, .ro, []⟩
/-! OBS.EST_CFG (R250) -/
def OBS.EST_CFG.AVG : Fld := ⟨0x2104c, 0, 4, 3, .rw, [(0, 6)]⟩
/-! OBS.SUM0 (R250) -/
def OBS.SUM0.WORST_LG (s : Nat) : Fld := ⟨0x120000 + 0x80 * s + 0xc, 16, 16, 0, .ro, []⟩
def OBS.SUM0.WORST_BIN (s : Nat) : Fld := ⟨0x120000 + 0x80 * s + 0xc, 0, 9, 0, .ro, []⟩
/-! OBS.SUM1 (R250) -/
def OBS.SUM1.IPHYS_MIN (s : Nat) : Fld := ⟨0x120000 + 0x80 * s + 0x10, 16, 16, 0, .ro, []⟩
def OBS.SUM1.HIST (s : Nat) : Fld := ⟨0x120000 + 0x80 * s + 0x10, 15, 1, 0, .ro, []⟩
def OBS.SUM1.VALID_BINS (s : Nat) : Fld := ⟨0x120000 + 0x80 * s + 0x10, 0, 10, 0, .ro, []⟩
/-! GOV.MARGIN (R251) -/
def GOV.MARGIN.M : Fld := ⟨0x23040, 0, 8, 0x1e, .rw, [(0xc, 0x3c)]⟩
/-! GOV.CLAMP_CFG (R251) -/
def GOV.CLAMP_CFG.HOLD : Fld := ⟨0x23044, 8, 8, 0xa, .rw, [(1, 0xff)]⟩
/-! GOV.COLD_CFG (R251) -/
def GOV.COLD_CFG.ISO_ASSUME : Fld := ⟨0x23048, 0, 8, 0x1e, .rw, [(0, 0x78)]⟩
/-! GOV.RECOVER (R251) -/
def GOV.RECOVER.MS : Fld := ⟨0x2304c, 0, 16, 0x64, .rw, [(1, 0x2710)]⟩
/-! GOV.SUB_SEL (R251) -/
def GOV.SUB_SEL.SLOT : Fld := ⟨0x23050, 16, 9, 0, .rw, []⟩
def GOV.SUB_SEL.BIN : Fld := ⟨0x23050, 0, 9, 0, .rw, []⟩
/-! GOV.SUB_DATA (R251) -/
def GOV.SUB_DATA.OWNER : Fld := ⟨0x23054, 16, 12, 0, .rw, [(0, 0), (0x9c0, 0xfff)]⟩
def GOV.SUB_DATA.CUT : Fld := ⟨0x23054, 0, 12, 0, .ro, []⟩
/-! GOV.SLOT_GOV (R251) -/
def GOV.SLOT_GOV.COLD (s : Nat) : Fld := ⟨0x120000 + 0x80 * s, 31, 1, 0, .ro, []⟩
def GOV.SLOT_GOV.WARMR (s : Nat) : Fld := ⟨0x120000 + 0x80 * s, 30, 1, 0, .ro, []⟩
def GOV.SLOT_GOV.URG (s : Nat) : Fld := ⟨0x120000 + 0x80 * s, 28, 2, 0, .ro, []⟩
def GOV.SLOT_GOV.NOTCHES (s : Nat) : Fld := ⟨0x120000 + 0x80 * s, 24, 4, 0, .ro, []⟩
def GOV.SLOT_GOV.BROAD (s : Nat) : Fld := ⟨0x120000 + 0x80 * s, 23, 1, 0, .ro, []⟩
def GOV.SLOT_GOV.CAP (s : Nat) : Fld := ⟨0x120000 + 0x80 * s, 0, 12, 0, .ro, []⟩
/-! GOV.CLAMP_CNT (R251) -/
def GOV.CLAMP_CNT.BROAD : Fld := ⟨0x2305c, 16, 16, 0, .rc, []⟩
def GOV.CLAMP_CNT.NOTCH : Fld := ⟨0x2305c, 0, 16, 0, .rc, []⟩
/-! SLP.GOV_CFG (R252) -/
def SLP.GOV_CFG.URG_MIN (s : Nat) : Fld := ⟨slotBase s + 0x30, 28, 2, 0, .rw, []⟩
def SLP.GOV_CFG.MARGIN_ADD (s : Nat) : Fld := ⟨slotBase s + 0x30, 16, 8, 0, .rw, [(0, 0x30)]⟩
def SLP.GOV_CFG.EXT_EN (s : Nat) : Fld := ⟨slotBase s + 0x30, 0, 1, 1, .rw, []⟩
/-! CLV.TIMING (R253) -/
def CLV.TIMING.PEND : Fld := ⟨0x22040, 31, 1, 0, .ro, []⟩
def CLV.TIMING.NOW : Fld := ⟨0x22040, 8, 1, 0, .ro, []⟩
def CLV.TIMING.MODE : Fld := ⟨0x22040, 0, 1, 0, .rw, []⟩
/-! CLV.PERIOD (R253) -/
def CLV.PERIOD.COUNT : Fld := ⟨0x22044, 0, 32, 0, .ro, []⟩
/-! CLV.LOOP_SEL (R253) -/
def CLV.LOOP_SEL.LOOP : Fld := ⟨0x22048, 0, 10, 0, .rw, [(0, 0x21f)]⟩
/-! CLV.LOOP_CTL (R253) -/
def CLV.LOOP_CTL.DEADLINE (l : Nat) : Fld := ⟨0x100000 + 0x40 * l, 16, 8, 0x4b, .rw, [(0xa, 0x63)]⟩
def CLV.LOOP_CTL.MAT_COMMIT (l : Nat) : Fld := ⟨0x100000 + 0x40 * l, 8, 1, 0, .wo, []⟩
def CLV.LOOP_CTL.MODE (l : Nat) : Fld := ⟨0x100000 + 0x40 * l, 0, 1, 1, .rw, []⟩
/-! CLV.LOOP_STAT (R253) -/
def CLV.LOOP_STAT.MAT_PEND (l : Nat) : Fld := ⟨0x100000 + 0x40 * l + 4, 16, 1, 0, .ro, []⟩
def CLV.LOOP_STAT.TREF (l : Nat) : Fld := ⟨0x100000 + 0x40 * l + 4, 8, 3, 0, .ro, []⟩
def CLV.LOOP_STAT.CREF (l : Nat) : Fld := ⟨0x100000 + 0x40 * l + 4, 5, 1, 0, .w1c, []⟩
def CLV.LOOP_STAT.MISS (l : Nat) : Fld := ⟨0x100000 + 0x40 * l + 4, 4, 1, 0, .w1c, []⟩
def CLV.LOOP_STAT.HELD (l : Nat) : Fld := ⟨0x100000 + 0x40 * l + 4, 3, 1, 0, .ro, []⟩
def CLV.LOOP_STAT.SAT (l : Nat) : Fld := ⟨0x100000 + 0x40 * l + 4, 2, 1, 0, .ro, []⟩
def CLV.LOOP_STAT.OBSV (l : Nat) : Fld := ⟨0x100000 + 0x40 * l + 4, 1, 1, 0, .ro, []⟩
def CLV.LOOP_STAT.MODE_NOW (l : Nat) : Fld := ⟨0x100000 + 0x40 * l + 4, 0, 1, 1, .ro, []⟩
/-! CLV.LOOP_MAN0 (R253) -/
def CLV.LOOP_MAN0.VALUE (l : Nat) : Fld := ⟨0x100000 + 0x40 * l + 8, 0, 32, 0, .rw, []⟩
/-! CLV.LOOP_MAN1 (R253) -/
def CLV.LOOP_MAN1.VALUE (l : Nat) : Fld := ⟨0x100000 + 0x40 * l + 0xc, 0, 32, 0, .rw, []⟩
/-! CLV.LOOP_OUT0 (R253) -/
def CLV.LOOP_OUT0.VALUE (l : Nat) : Fld := ⟨0x100000 + 0x40 * l + 0x10, 0, 32, 0, .ro, []⟩
/-! CLV.LOOP_OUT1 (R253) -/
def CLV.LOOP_OUT1.VALUE (l : Nat) : Fld := ⟨0x100000 + 0x40 * l + 0x14, 0, 32, 0, .ro, []⟩
/-! CLV.LOOP_REF0 (R253) -/
def CLV.LOOP_REF0.VALUE (l : Nat) : Fld := ⟨0x100000 + 0x40 * l + 0x18, 0, 32, 0, .rw, []⟩
/-! CLV.LOOP_REF1 (R253) -/
def CLV.LOOP_REF1.VALUE (l : Nat) : Fld := ⟨0x100000 + 0x40 * l + 0x1c, 0, 32, 0, .rw, []⟩
/-! CLV.MAT_ADDR (R253) -/
def CLV.MAT_ADDR.BANK : Fld := ⟨0x2206c, 31, 1, 0, .rw, []⟩
def CLV.MAT_ADDR.WORD : Fld := ⟨0x2206c, 0, 8, 0, .rw, [(0, 0x9f)]⟩
/-! CLV.MAT_DATA (R253) -/
def CLV.MAT_DATA.VALUE : Fld := ⟨0x22070, 0, 32, 0, .rw, []⟩
/-! CLV.MISS (R253) -/
def CLV.MISS.MISS (j : Nat) : Fld := ⟨0x22080 + 4 * j, 0, 32, 0, .w1c, []⟩
/-! CAP.INJ_CTL (R254) -/
def CAP.INJ_CTL.ACTIVE : Fld := ⟨0x24040, 31, 1, 0, .ro, []⟩
def CAP.INJ_CTL.LOOP : Fld := ⟨0x24040, 16, 10, 0, .rw, [(0, 0x21f)]⟩
def CAP.INJ_CTL.POINT : Fld := ⟨0x24040, 12, 2, 0, .rw, []⟩
def CAP.INJ_CTL.WAVE : Fld := ⟨0x24040, 8, 3, 0, .rw, [(0, 4)]⟩
def CAP.INJ_CTL.EN : Fld := ⟨0x24040, 0, 1, 0, .rw, []⟩
/-! CAP.INJ_AMP (R254) -/
def CAP.INJ_AMP.AMP : Fld := ⟨0x24044, 0, 11, 0, .rw, [(0, 0x4b0)]⟩
/-! CAP.INJ_TIME (R254) -/
def CAP.INJ_TIME.LEN : Fld := ⟨0x24048, 16, 16, 0, .rw, []⟩
def CAP.INJ_TIME.CHIP : Fld := ⟨0x24048, 0, 8, 1, .rw, [(1, 0xff)]⟩
/-! CAP.INJ_FREQ (R254) -/
def CAP.INJ_FREQ.F1 : Fld := ⟨0x2404c, 16, 16, 0, .rw, [(0, 0x7fff)]⟩
def CAP.INJ_FREQ.F0 : Fld := ⟨0x2404c, 0, 16, 0, .rw, [(0, 0x7fff)]⟩
/-! CAP.LCAP_CTL (R254) -/
def CAP.LCAP_CTL.DONE : Fld := ⟨0x24050, 31, 1, 0, .ro, []⟩
def CAP.LCAP_CTL.ARMED : Fld := ⟨0x24050, 30, 1, 0, .ro, []⟩
def CAP.LCAP_CTL.NSIG : Fld := ⟨0x24050, 28, 2, 2, .rw, [(0, 2)]⟩
def CAP.LCAP_CTL.TRIG : Fld := ⟨0x24050, 24, 4, 0, .rw, [(0, 4)]⟩
def CAP.LCAP_CTL.PRE : Fld := ⟨0x24050, 10, 14, 0, .rw, []⟩
def CAP.LCAP_CTL.ARM : Fld := ⟨0x24050, 0, 1, 0, .wo, []⟩
/-! CAP.LCAP_LOOP (R254) -/
def CAP.LCAP_LOOP.LOOP : Fld := ⟨0x24054, 0, 10, 0, .rw, [(0, 0x21f)]⟩
/-! CAP.LCAP_SIG (R254) -/
def CAP.LCAP_SIG.SIG0 : Fld := ⟨0x24058, 0, 5, 8, .rw, [(0, 0xf)]⟩
def CAP.LCAP_SIG.SIG1 : Fld := ⟨0x24058, 8, 5, 0xc, .rw, [(0, 0xf)]⟩
def CAP.LCAP_SIG.SIG2 : Fld := ⟨0x24058, 16, 5, 0xb, .rw, [(0, 0xf)]⟩
def CAP.LCAP_SIG.SIG3 : Fld := ⟨0x24058, 24, 5, 0xd, .rw, [(0, 0xf)]⟩
/-! CAP.LCAP_ADDR (R254) -/
def CAP.LCAP_ADDR.WORD : Fld := ⟨0x2405c, 0, 14, 0, .rw, []⟩
/-! CAP.LCAP_DATA (R254) -/
def CAP.LCAP_DATA.VALUE : Fld := ⟨0x24060, 0, 32, 0, .ro, []⟩
/-! CAP.LCAP_STAT (R254) -/
def CAP.LCAP_STAT.PERIOD : Fld := ⟨0x24064, 0, 32, 0, .ro, []⟩
/-! CAP.IQ_CTL (R254) -/
def CAP.IQ_CTL.DONE : Fld := ⟨0x24070, 31, 1, 0, .ro, []⟩
def CAP.IQ_CTL.ARMED : Fld := ⟨0x24070, 30, 1, 0, .ro, []⟩
def CAP.IQ_CTL.TWO : Fld := ⟨0x24070, 29, 1, 0, .rw, []⟩
def CAP.IQ_CTL.TRIG : Fld := ⟨0x24070, 25, 4, 0, .rw, [(0, 0), (2, 2), (5, 5)]⟩
def CAP.IQ_CTL.POINTA : Fld := ⟨0x24070, 23, 2, 1, .rw, []⟩
def CAP.IQ_CTL.POINTB : Fld := ⟨0x24070, 21, 2, 3, .rw, []⟩
def CAP.IQ_CTL.PRE : Fld := ⟨0x24070, 17, 4, 0, .rw, []⟩
def CAP.IQ_CTL.SLOT : Fld := ⟨0x24070, 8, 9, 0, .rw, []⟩
def CAP.IQ_CTL.ARM : Fld := ⟨0x24070, 0, 1, 0, .wo, []⟩
/-! CAP.IQ_STAT (R254) -/
def CAP.IQ_STAT.START : Fld := ⟨0x24074, 0, 21, 0, .ro, []⟩
/-! CAP.IQ_TIME_S (R254) -/
def CAP.IQ_TIME_S.VALUE : Fld := ⟨0x24078, 0, 32, 0, .ro, []⟩
/-! CAP.IQ_TIME_NS (R254) -/
def CAP.IQ_TIME_NS.VALUE : Fld := ⟨0x2407c, 0, 32, 0, .ro, []⟩
/-! CAP.IQ_ADDR (R254) -/
def CAP.IQ_ADDR.WORD : Fld := ⟨0x24080, 0, 21, 0, .rw, []⟩
/-! CAP.IQ_DATA (R254) -/
def CAP.IQ_DATA.VALUE : Fld := ⟨0x24084, 0, 32, 0, .ro, []⟩
/-! FEC.SEQ_CTL (R255) -/
def FEC.SEQ_CTL.RUNNING (k : Nat) : Fld := ⟨0x25040 + 0x1000 * k, 31, 1, 0, .ro, []⟩
def FEC.SEQ_CTL.PEND (k : Nat) : Fld := ⟨0x25040 + 0x1000 * k, 30, 1, 0, .ro, []⟩
def FEC.SEQ_CTL.REFUSE (k : Nat) : Fld := ⟨0x25040 + 0x1000 * k, 24, 4, 0, .ro, []⟩
def FEC.SEQ_CTL.COMMIT (k : Nat) : Fld := ⟨0x25040 + 0x1000 * k, 8, 1, 0, .wo, []⟩
def FEC.SEQ_CTL.RUN (k : Nat) : Fld := ⟨0x25040 + 0x1000 * k, 0, 1, 0, .rw, []⟩
/-! FEC.SEQ_SEL (R255) -/
def FEC.SEQ_SEL.BANK (k : Nat) : Fld := ⟨0x25044 + 0x1000 * k, 31, 1, 0, .rw, []⟩
def FEC.SEQ_SEL.ENTRY (k : Nat) : Fld := ⟨0x25044 + 0x1000 * k, 0, 10, 0, .rw, []⟩
/-! FEC.RFFE_CMD_SEL (R255) -/
def FEC.RFFE_CMD_SEL.BANK (k : Nat) : Fld := ⟨0x25084 + 0x1000 * k, 31, 1, 0, .rw, []⟩
def FEC.RFFE_CMD_SEL.INDEX (k : Nat) : Fld := ⟨0x25084 + 0x1000 * k, 0, 8, 0, .rw, []⟩
/-! FEC.DRV_EN (R255) -/
def FEC.DRV_EN.EN (k : Nat) : Fld := ⟨0x25050 + 0x1000 * k, 0, 32, 0, .rw, []⟩
/-! FEC.IDLE (R255) -/
def FEC.IDLE.LEVEL (k : Nat) : Fld := ⟨0x25054 + 0x1000 * k, 0, 32, 0, .rw, []⟩
/-! FEC.LEVEL (R255) -/
def FEC.LEVEL.NOW (k : Nat) : Fld := ⟨0x25058 + 0x1000 * k, 0, 32, 0, .ro, []⟩
/-! FEC.SEQ_CNT (R255) -/
def FEC.SEQ_CNT.LATE (k : Nat) : Fld := ⟨0x2505c + 0x1000 * k, 16, 16, 0, .rc, []⟩
def FEC.SEQ_CNT.CLASH (k : Nat) : Fld := ⟨0x2505c + 0x1000 * k, 0, 16, 0, .rc, []⟩
/-! FEC.LINE_GATE (R260) -/
def FEC.LINE_GATE.TX0 (k : Nat) (j : Nat) : Fld := ⟨0x25060 + 0x1000 * k + 4 * j, 0, 5, 0, .rw, []⟩
def FEC.LINE_GATE.EN0 (k : Nat) (j : Nat) : Fld := ⟨0x25060 + 0x1000 * k + 4 * j, 7, 1, 0, .rw, []⟩
def FEC.LINE_GATE.TX1 (k : Nat) (j : Nat) : Fld := ⟨0x25060 + 0x1000 * k + 4 * j, 8, 5, 0, .rw, []⟩
def FEC.LINE_GATE.EN1 (k : Nat) (j : Nat) : Fld := ⟨0x25060 + 0x1000 * k + 4 * j, 15, 1, 0, .rw, []⟩
def FEC.LINE_GATE.TX2 (k : Nat) (j : Nat) : Fld := ⟨0x25060 + 0x1000 * k + 4 * j, 16, 5, 0, .rw, []⟩
def FEC.LINE_GATE.EN2 (k : Nat) (j : Nat) : Fld := ⟨0x25060 + 0x1000 * k + 4 * j, 23, 1, 0, .rw, []⟩
def FEC.LINE_GATE.TX3 (k : Nat) (j : Nat) : Fld := ⟨0x25060 + 0x1000 * k + 4 * j, 24, 5, 0, .rw, []⟩
def FEC.LINE_GATE.EN3 (k : Nat) (j : Nat) : Fld := ⟨0x25060 + 0x1000 * k + 4 * j, 31, 1, 0, .rw, []⟩
/-! FEC.RFFE_CFG (R263) -/
def FEC.RFFE_CFG.EN1 (k : Nat) : Fld := ⟨0x25080 + 0x1000 * k, 15, 1, 0, .rw, []⟩
def FEC.RFFE_CFG.RATE1 (k : Nat) : Fld := ⟨0x25080 + 0x1000 * k, 8, 2, 1, .rw, [(0, 2)]⟩
def FEC.RFFE_CFG.EN0 (k : Nat) : Fld := ⟨0x25080 + 0x1000 * k, 7, 1, 0, .rw, []⟩
def FEC.RFFE_CFG.RATE0 (k : Nat) : Fld := ⟨0x25080 + 0x1000 * k, 0, 2, 1, .rw, [(0, 2)]⟩
/-! FEC.RFFE_CMD0 (R263) -/
def FEC.RFFE_CMD0.VALID (k : Nat) : Fld := ⟨0x25088 + 0x1000 * k, 31, 1, 0, .rw, []⟩
def FEC.RFFE_CMD0.BUS (k : Nat) : Fld := ⟨0x25088 + 0x1000 * k, 30, 1, 0, .rw, []⟩
def FEC.RFFE_CMD0.TYPE (k : Nat) : Fld := ⟨0x25088 + 0x1000 * k, 28, 2, 0, .rw, [(0, 2)]⟩
def FEC.RFFE_CMD0.USID (k : Nat) : Fld := ⟨0x25088 + 0x1000 * k, 24, 4, 0, .rw, []⟩
def FEC.RFFE_CMD0.ADDR (k : Nat) : Fld := ⟨0x25088 + 0x1000 * k, 16, 8, 0, .rw, []⟩
def FEC.RFFE_CMD0.LEN (k : Nat) : Fld := ⟨0x25088 + 0x1000 * k, 12, 2, 0, .rw, []⟩
/-! FEC.RFFE_CMD1 (R263) -/
def FEC.RFFE_CMD1.DATA (k : Nat) : Fld := ⟨0x2508c + 0x1000 * k, 0, 32, 0, .rw, []⟩
/-! FEC.RFFE_RD (R265) -/
def FEC.RFFE_RD.BUSY (k : Nat) : Fld := ⟨0x25090 + 0x1000 * k, 31, 1, 0, .ro, []⟩
def FEC.RFFE_RD.PERR (k : Nat) : Fld := ⟨0x25090 + 0x1000 * k, 30, 1, 0, .ro, []⟩
def FEC.RFFE_RD.BUS (k : Nat) : Fld := ⟨0x25090 + 0x1000 * k, 29, 1, 0, .rw, []⟩
def FEC.RFFE_RD.EXT (k : Nat) : Fld := ⟨0x25090 + 0x1000 * k, 28, 1, 0, .rw, []⟩
def FEC.RFFE_RD.USID (k : Nat) : Fld := ⟨0x25090 + 0x1000 * k, 24, 4, 0, .rw, [(1, 0xf)]⟩
def FEC.RFFE_RD.ADDR (k : Nat) : Fld := ⟨0x25090 + 0x1000 * k, 16, 8, 0, .rw, []⟩
def FEC.RFFE_RD.GO (k : Nat) : Fld := ⟨0x25090 + 0x1000 * k, 8, 1, 0, .wo, []⟩
def FEC.RFFE_RD.DATA (k : Nat) : Fld := ⟨0x25090 + 0x1000 * k, 0, 8, 0, .ro, []⟩
/-! TDD.TB_CTL (R265) -/
def TDD.TB_CTL.LOCKED : Fld := ⟨0xe040, 31, 1, 0, .ro, []⟩
def TDD.TB_CTL.REFUSE : Fld := ⟨0xe040, 24, 4, 0, .ro, []⟩
def TDD.TB_CTL.PAT : Fld := ⟨0xe040, 4, 4, 0, .rw, []⟩
def TDD.TB_CTL.SRC : Fld := ⟨0xe040, 0, 2, 0, .rw, []⟩
/-! TDD.PAT_SEL (R267) -/
def TDD.PAT_SEL.EDGE : Fld := ⟨0xe048, 8, 4, 0, .rw, []⟩
def TDD.PAT_SEL.PAT : Fld := ⟨0xe048, 0, 4, 1, .rw, [(1, 0xf)]⟩
/-! TDD.PAT_CFG (R267) -/
def TDD.PAT_CFG.VALID (p : Nat) : Fld := ⟨0x110000 + 0x200 * p, 31, 1, 0, .rw, []⟩
def TDD.PAT_CFG.REQ_SYNC (p : Nat) : Fld := ⟨0x110000 + 0x200 * p, 30, 1, 0, .rw, []⟩
def TDD.PAT_CFG.SRC (p : Nat) : Fld := ⟨0x110000 + 0x200 * p, 28, 2, 0, .rw, [(0, 1)]⟩
def TDD.PAT_CFG.PERIOD (p : Nat) : Fld := ⟨0x110000 + 0x200 * p, 24, 4, 7, .rw, [(0, 7)]⟩
def TDD.PAT_CFG.PHASE (p : Nat) : Fld := ⟨0x110000 + 0x200 * p, 0, 24, 0, .rw, []⟩
/-! TDD.PAT_EDGE (R267) -/
def TDD.PAT_EDGE.VALID : Fld := ⟨0xe050, 31, 1, 0, .rw, []⟩
def TDD.PAT_EDGE.DIR : Fld := ⟨0xe050, 30, 1, 0, .rw, []⟩
def TDD.PAT_EDGE.OFFSET : Fld := ⟨0xe050, 0, 24, 0, .rw, []⟩
/-! TDD.PAT_CTL (R267) -/
def TDD.PAT_CTL.PEND (p : Nat) : Fld := ⟨0x110000 + 0x200 * p + 0xc, 31, 1, 0, .ro, []⟩
def TDD.PAT_CTL.REFUSE (p : Nat) : Fld := ⟨0x110000 + 0x200 * p + 0xc, 24, 4, 0, .ro, []⟩
def TDD.PAT_CTL.COMMIT (p : Nat) : Fld := ⟨0x110000 + 0x200 * p + 0xc, 0, 1, 0, .wo, []⟩
/-! TDD.SYNC_CFG (R268) -/
def TDD.SYNC_CFG.KIND (p : Nat) : Fld := ⟨0x110000 + 0x200 * p + 4, 30, 2, 0, .rw, [(0, 1)]⟩
def TDD.SYNC_CFG.SCS (p : Nat) : Fld := ⟨0x110000 + 0x200 * p + 4, 28, 2, 1, .rw, [(0, 1)]⟩
def TDD.SYNC_CFG.SSB_PER (p : Nat) : Fld := ⟨0x110000 + 0x200 * p + 4, 25, 3, 2, .rw, [(0, 5)]⟩
def TDD.SYNC_CFG.PIN (p : Nat) : Fld := ⟨0x110000 + 0x200 * p + 4, 24, 1, 0, .rw, []⟩
def TDD.SYNC_CFG.MISS_MAX (p : Nat) : Fld := ⟨0x110000 + 0x200 * p + 4, 20, 4, 5, .rw, [(1, 0xf)]⟩
def TDD.SYNC_CFG.CELL_ID (p : Nat) : Fld := ⟨0x110000 + 0x200 * p + 4, 10, 10, 0, .rw, []⟩
def TDD.SYNC_CFG.SYNC_SLOT (p : Nat) : Fld := ⟨0x110000 + 0x200 * p + 4, 0, 9, 0, .rw, []⟩
/-! TDD.SYNC_FREQ (R268) -/
def TDD.SYNC_FREQ.FREQ (p : Nat) : Fld := ⟨0x110000 + 0x200 * p + 8, 0, 32, 0xbebc200, .rw, [(0xbebc200, 0xd693a400)]⟩
/-! TDD.SYNC_STAT (R268) -/
def TDD.SYNC_STAT.STATE (p : Nat) : Fld := ⟨0x110000 + 0x200 * p + 0x10, 30, 2, 0, .ro, []⟩
def TDD.SYNC_STAT.MISSES (p : Nat) : Fld := ⟨0x110000 + 0x200 * p + 0x10, 26, 4, 0, .ro, []⟩
def TDD.SYNC_STAT.CELL (p : Nat) : Fld := ⟨0x110000 + 0x200 * p + 0x10, 16, 10, 0, .ro, []⟩
def TDD.SYNC_STAT.ERR (p : Nat) : Fld := ⟨0x110000 + 0x200 * p + 0x10, 0, 16, 0, .ro, []⟩
/-! DIV.CFG (R276) -/
def DIV.CFG.EN (j : Nat) : Fld := ⟨0x29040 + 4 * j, 31, 1, 0, .rw, []⟩
def DIV.CFG.PAT (j : Nat) : Fld := ⟨0x29040 + 4 * j, 24, 4, 0, .rw, []⟩
def DIV.CFG.LINE (j : Nat) : Fld := ⟨0x29040 + 4 * j, 15, 7, 0, .rw, []⟩
def DIV.CFG.TXD (j : Nat) : Fld := ⟨0x29040 + 4 * j, 10, 5, 0, .rw, []⟩
def DIV.CFG.RXB (j : Nat) : Fld := ⟨0x29040 + 4 * j, 5, 5, 0, .rw, []⟩
def DIV.CFG.RXA (j : Nat) : Fld := ⟨0x29040 + 4 * j, 0, 5, 0, .rw, []⟩
/-! DIV.POLICY (R276) -/
def DIV.POLICY.SW_TICK : Fld := ⟨0x29060, 20, 12, 0x190, .rw, [(0, 0x74b)]⟩
def DIV.POLICY.HYST : Fld := ⟨0x29060, 12, 8, 0xf, .rw, []⟩
def DIV.POLICY.HOLD : Fld := ⟨0x29060, 8, 4, 4, .rw, [(1, 0xf)]⟩
def DIV.POLICY.AVG : Fld := ⟨0x29060, 4, 4, 0, .rw, [(0, 4)]⟩
/-! DIV.STAT (R276) -/
def DIV.STAT.ACTIVE (j : Nat) : Fld := ⟨0x29080 + 4 * j, 31, 1, 0, .ro, []⟩
def DIV.STAT.PEND (j : Nat) : Fld := ⟨0x29080 + 4 * j, 30, 1, 0, .ro, []⟩
def DIV.STAT.DIFF (j : Nat) : Fld := ⟨0x29080 + 4 * j, 8, 8, 0, .ro, []⟩
def DIV.STAT.SWITCHES (j : Nat) : Fld := ⟨0x29080 + 4 * j, 0, 8, 0, .ro, []⟩
/-! PWT.SEL (R280) -/
def PWT.SEL.BANK : Fld := ⟨0x2a040, 31, 1, 0, .rw, []⟩
def PWT.SEL.PORT : Fld := ⟨0x2a040, 16, 5, 0, .rw, []⟩
def PWT.SEL.INDEX : Fld := ⟨0x2a040, 0, 8, 0, .rw, []⟩
/-! PWT.DATA (R280) -/
def PWT.DATA.BIAS : Fld := ⟨0x2a044, 28, 4, 0, .rw, []⟩
def PWT.DATA.ATT : Fld := ⟨0x2a044, 20, 8, 0, .rw, []⟩
def PWT.DATA.DGAIN : Fld := ⟨0x2a044, 0, 12, 0, .rw, [(0, 0), (0x9c0, 0xfff)]⟩
/-! PWT.COMMIT (R280) -/
def PWT.COMMIT.PORTS : Fld := ⟨0x2a048, 0, 32, 0, .wo, []⟩
/-! PWT.PEND (R280) -/
def PWT.PEND.PORTS : Fld := ⟨0x2a04c, 0, 32, 0, .ro, []⟩
/-! PWT.PROF_SEL (R280) -/
def PWT.PROF_SEL.PORT : Fld := ⟨0x2a050, 16, 5, 0, .rw, []⟩
def PWT.PROF_SEL.PROF : Fld := ⟨0x2a050, 0, 4, 0, .rw, []⟩
/-! PWT.PROF_DATA (R280) -/
def PWT.PROF_DATA.CODE : Fld := ⟨0x2a054, 0, 16, 0, .rw, []⟩
/-! PWT.TXEN (R280) -/
def PWT.TXEN.REQ : Fld := ⟨0x2a058, 0, 32, 0, .rw, []⟩
/-! PWT.TXON (R280) -/
def PWT.TXON.ON : Fld := ⟨0x2a05c, 0, 32, 0, .ro, []⟩
/-! PWT.TXPEND (R280) -/
def PWT.TXPEND.PEND : Fld := ⟨0x2a060, 0, 32, 0, .ro, []⟩
/-! PWT.TXREFUSED (R280) -/
def PWT.TXREFUSED.SNR : Fld := ⟨0x2a064, 0, 32, 0, .w1c, []⟩
/-! PWT.PORT_CFG (R280) -/
def PWT.PORT_CFG.BIAS_EN (j : Nat) : Fld := ⟨0x2a100 + 4 * j, 30, 1, 0, .rw, []⟩
def PWT.PORT_CFG.BIAS_CH (j : Nat) : Fld := ⟨0x2a100 + 4 * j, 24, 6, 0, .rw, []⟩
def PWT.PORT_CFG.ATT_EN (j : Nat) : Fld := ⟨0x2a100 + 4 * j, 23, 1, 0, .rw, []⟩
def PWT.PORT_CFG.ATT_PAGE (j : Nat) : Fld := ⟨0x2a100 + 4 * j, 18, 2, 0, .rw, []⟩
def PWT.PORT_CFG.SCS (j : Nat) : Fld := ⟨0x2a100 + 4 * j, 16, 2, 0, .rw, [(0, 2)]⟩
def PWT.PORT_CFG.ATT_CMD (j : Nat) : Fld := ⟨0x2a100 + 4 * j, 8, 8, 0, .rw, []⟩
def PWT.PORT_CFG.GRID (j : Nat) : Fld := ⟨0x2a100 + 4 * j, 0, 4, 0, .rw, []⟩
/-! PWT.PORT_STAT (R280) -/
def PWT.PORT_STAT.INDEX (j : Nat) : Fld := ⟨0x2a180 + 4 * j, 0, 8, 0, .ro, []⟩
/-! REGL.STATE (R305) -/
def REGL.STATE.STATE : Fld := ⟨0xf040, 30, 2, 0, .ro, []⟩
def REGL.STATE.WRES : Fld := ⟨0xf040, 24, 4, 0, .ro, []⟩
def REGL.STATE.NRANGES : Fld := ⟨0xf040, 16, 8, 0, .ro, []⟩
def REGL.STATE.FORMAT : Fld := ⟨0xf040, 0, 16, 0, .ro, []⟩
/-! REGL.LOCK_ID (R305) -/
def REGL.LOCK_ID.ID : Fld := ⟨0xf044, 0, 32, 0, .ro, []⟩
/-! REGL.EMIS (R305) -/
def REGL.EMIS.IN : Fld := ⟨0xf048, 16, 16, 0, .ro, []⟩
def REGL.EMIS.OUT : Fld := ⟨0xf048, 0, 16, 0, .ro, []⟩
/-! REGL.REFUSE (R305) -/
def REGL.REFUSE.CAUSE : Fld := ⟨0xf050, 28, 4, 0, .ro, []⟩
def REGL.REFUSE.KIND : Fld := ⟨0xf050, 27, 1, 0, .ro, []⟩
def REGL.REFUSE.SLOT : Fld := ⟨0xf050, 16, 9, 0, .ro, []⟩
def REGL.REFUSE.RANGE : Fld := ⟨0xf050, 0, 6, 0x3f, .ro, []⟩
/-! REGL.RANGE_0 (R305) -/
def REGL.RANGE_0.DIR (j : Nat) : Fld := ⟨0xf400 + 0x10 * j, 24, 2, 0, .ro, []⟩
def REGL.RANGE_0.F_LO (j : Nat) : Fld := ⟨0xf400 + 0x10 * j, 0, 24, 0, .ro, []⟩
/-! REGL.RANGE_1 (R305) -/
def REGL.RANGE_1.REQ_SYNC (j : Nat) : Fld := ⟨0xf404 + 0x10 * j, 24, 1, 0, .ro, []⟩
def REGL.RANGE_1.F_HI (j : Nat) : Fld := ⟨0xf404 + 0x10 * j, 0, 24, 0, .ro, []⟩
/-! REGL.RANGE_2 (R305) -/
def REGL.RANGE_2.P_MAX (j : Nat) : Fld := ⟨0xf408 + 0x10 * j, 16, 16, 0, .ro, []⟩
def REGL.RANGE_2.G_MAX (j : Nat) : Fld := ⟨0xf408 + 0x10 * j, 0, 16, 0, .ro, []⟩
/-! REGL.RANGE_3 (R305) -/
def REGL.RANGE_3.NOISE (j : Nat) : Fld := ⟨0xf40c + 0x10 * j, 16, 16, 0, .ro, []⟩
def REGL.RANGE_3.DUTY_DL (j : Nat) : Fld := ⟨0xf40c + 0x10 * j, 8, 8, 0, .ro, []⟩
def REGL.RANGE_3.DUTY_UL (j : Nat) : Fld := ⟨0xf40c + 0x10 * j, 0, 8, 0, .ro, []⟩
/-! REGL.RX_GAIN (R305) -/
def REGL.RX_GAIN.G_RX_MAX (j : Nat) : Fld := ⟨0xf800 + 4 * j, 0, 16, 0, .ro, []⟩
/-! REGL.TX_GAIN (R305) -/
def REGL.TX_GAIN.CPL_OFS (j : Nat) : Fld := ⟨0xf880 + 4 * j, 16, 16, 0, .ro, []⟩
def REGL.TX_GAIN.G_TX_MAX (j : Nat) : Fld := ⟨0xf880 + 4 * j, 0, 16, 0, .ro, []⟩
/-! GOV.PROT_CFG (R306) -/
def GOV.PROT_CFG.OSC_HOLD : Fld := ⟨0x23060, 16, 8, 0x64, .rw, [(1, 0xff)]⟩
def GOV.PROT_CFG.MASK_HOLD : Fld := ⟨0x23060, 8, 8, 0x64, .rw, [(1, 0xff)]⟩
/-! GOV.PROT_SEL (R306) -/
def GOV.PROT_SEL.SLOT : Fld := ⟨0x23064, 0, 9, 0, .rw, []⟩
/-! GOV.PROT_STAT (R306) -/
def GOV.PROT_STAT.LATCHED (s : Nat) : Fld := ⟨0x120000 + 0x80 * s + 4, 31, 1, 0, .ro, []⟩
def GOV.PROT_STAT.OSC (s : Nat) : Fld := ⟨0x120000 + 0x80 * s + 4, 30, 1, 0, .ro, []⟩
def GOV.PROT_STAT.MASK (s : Nat) : Fld := ⟨0x120000 + 0x80 * s + 4, 29, 1, 0, .ro, []⟩
def GOV.PROT_STAT.DUTY (s : Nat) : Fld := ⟨0x120000 + 0x80 * s + 4, 28, 1, 0, .ro, []⟩
def GOV.PROT_STAT.BAND (s : Nat) : Fld := ⟨0x120000 + 0x80 * s + 4, 27, 1, 0, .ro, []⟩
def GOV.PROT_STAT.MUTES (s : Nat) : Fld := ⟨0x120000 + 0x80 * s + 4, 20, 4, 0, .ro, []⟩
def GOV.PROT_STAT.PCLAMP (s : Nat) : Fld := ⟨0x120000 + 0x80 * s + 4, 8, 8, 0, .ro, []⟩
def GOV.PROT_STAT.NRED (s : Nat) : Fld := ⟨0x120000 + 0x80 * s + 4, 0, 8, 0, .ro, []⟩
/-! GOV.PROT_CTL (R306) -/
def GOV.PROT_CTL.UNLATCH : Fld := ⟨0x2306c, 0, 1, 0, .wo, []⟩
/-! GOV.PERMIT (R306) -/
def GOV.PERMIT.PERMIT : Fld := ⟨0x23070, 31, 1, 0, .ro, []⟩
def GOV.PERMIT.CAUSE : Fld := ⟨0x23070, 0, 4, 1, .ro, []⟩
/-! GOV.MASK_NOTE (R306) -/
def GOV.MASK_NOTE.TX : Fld := ⟨0x23074, 27, 5, 0, .ro, []⟩
def GOV.MASK_NOTE.ZONE : Fld := ⟨0x23074, 26, 1, 0, .ro, []⟩
def GOV.MASK_NOTE.MHZ : Fld := ⟨0x23074, 0, 13, 0, .ro, []⟩
/-! BIA.SAFE_MASK (R319) -/
def BIA.SAFE_MASK.MASK (i : Nat) : Fld := ⟨0xb040 + 0x1000 * i, 0, 32, 0xffffffff, .rw, []⟩
/-! BIA.SAFE_STAT (R319) -/
def BIA.SAFE_STAT.SAFE (i : Nat) : Fld := ⟨0xb044 + 0x1000 * i, 0, 32, 0, .ro, []⟩
/-! BIA.RESUME (R319) -/
def BIA.RESUME.RESUME (i : Nat) : Fld := ⟨0xb048 + 0x1000 * i, 0, 32, 0, .wo, []⟩
/-! BIA.RB_STAT (R319) -/
def BIA.RB_STAT.FAULT (i : Nat) : Fld := ⟨0xb04c + 0x1000 * i, 0, 32, 0, .w1c, []⟩
/-! BIA.NOTE_CH (R319) -/
def BIA.NOTE_CH.CH (i : Nat) : Fld := ⟨0xb050 + 0x1000 * i, 0, 6, 0, .ro, []⟩
/-! BIA.SUPPLY (R319) -/
def BIA.SUPPLY.LOW (i : Nat) : Fld := ⟨0xb054 + 0x1000 * i, 0, 1, 0, .ro, []⟩
/-! BIA.CFG (R319) -/
def BIA.CFG.GEN (i : Nat) (j : Nat) : Fld := ⟨0xb100 + 0x1000 * i + 0x20 * j, 28, 2, 0, .rw, []⟩
def BIA.CFG.RB_EN (i : Nat) (j : Nat) : Fld := ⟨0xb100 + 0x1000 * i + 0x20 * j, 27, 1, 1, .rw, []⟩
def BIA.CFG.RB_ACT (i : Nat) (j : Nat) : Fld := ⟨0xb100 + 0x1000 * i + 0x20 * j, 26, 1, 0, .rw, []⟩
def BIA.CFG.STEP (i : Nat) (j : Nat) : Fld := ⟨0xb100 + 0x1000 * i + 0x20 * j, 12, 12, 0x3f, .rw, []⟩
def BIA.CFG.RATE (i : Nat) (j : Nat) : Fld := ⟨0xb100 + 0x1000 * i + 0x20 * j, 0, 10, 0xa, .rw, [(1, 0x3e8)]⟩
/-! BIA.VAL (R319) -/
def BIA.VAL.SPAN (i : Nat) (j : Nat) : Fld := ⟨0xb104 + 0x1000 * i + 0x20 * j, 16, 2, 3, .rw, []⟩
def BIA.VAL.CODE (i : Nat) (j : Nat) : Fld := ⟨0xb104 + 0x1000 * i + 0x20 * j, 0, 16, 0x8000, .rw, []⟩
/-! BIA.STAT (R319) -/
def BIA.STAT.SPAN_NOW (i : Nat) (j : Nat) : Fld := ⟨0xb108 + 0x1000 * i + 0x20 * j, 30, 2, 3, .ro, []⟩
def BIA.STAT.BOUND (i : Nat) (j : Nat) : Fld := ⟨0xb108 + 0x1000 * i + 0x20 * j, 26, 1, 0, .ro, []⟩
def BIA.STAT.STATE (i : Nat) (j : Nat) : Fld := ⟨0xb108 + 0x1000 * i + 0x20 * j, 20, 4, 7, .ro, []⟩
def BIA.STAT.CODE_NOW (i : Nat) (j : Nat) : Fld := ⟨0xb108 + 0x1000 * i + 0x20 * j, 0, 16, 0, .ro, []⟩
/-! BIA.GEN (R319) -/
def BIA.GEN.HI (i : Nat) (j : Nat) : Fld := ⟨0xb10c + 0x1000 * i + 0x20 * j, 16, 16, 0xffff, .rw, []⟩
def BIA.GEN.LO (i : Nat) (j : Nat) : Fld := ⟨0xb10c + 0x1000 * i + 0x20 * j, 0, 16, 0, .rw, []⟩
/-! BIA.WIN (R319) -/
def BIA.WIN.CNT (i : Nat) (j : Nat) : Fld := ⟨0xb110 + 0x1000 * i + 0x20 * j, 16, 8, 4, .rw, [(1, 0xff)]⟩
def BIA.WIN.TOL (i : Nat) (j : Nat) : Fld := ⟨0xb110 + 0x1000 * i + 0x20 * j, 0, 10, 0x32, .rw, [(0xa, 0x3e8)]⟩
/-! BIA.RB (R319) -/
def BIA.RB.MV (i : Nat) (j : Nat) : Fld := ⟨0xb114 + 0x1000 * i + 0x20 * j, 16, 16, 0, .ro, []⟩
def BIA.RB.CODE (i : Nat) (j : Nat) : Fld := ⟨0xb114 + 0x1000 * i + 0x20 * j, 0, 16, 0, .ro, []⟩
/-! MON.CTL (R324) -/
def MON.CTL.ALIGN : Fld := ⟨0xa040, 16, 1, 0, .rw, []⟩
def MON.CTL.PAIR_IN : Fld := ⟨0xa040, 8, 6, 0, .rw, [(0, 0x2f)]⟩
def MON.CTL.MODE : Fld := ⟨0xa040, 0, 2, 0, .rw, [(0, 2)]⟩
/-! MON.SEQ_EN_LO (R324) -/
def MON.SEQ_EN_LO.EN : Fld := ⟨0xa044, 0, 32, 0xffffffff, .rw, []⟩
/-! MON.SEQ_EN_HI (R324) -/
def MON.SEQ_EN_HI.EN_LOW : Fld := ⟨0xa048, 0, 16, 0xffff, .rw, []⟩
def MON.SEQ_EN_HI.EN_FIXED : Fld := ⟨0xa048, 16, 8, 0xff, .ro, []⟩
def MON.SEQ_EN_HI.EN_HIGH : Fld := ⟨0xa048, 24, 8, 0xff, .rw, []⟩
/-! MON.DIFF (R324) -/
def MON.DIFF.PAIR : Fld := ⟨0xa04c, 0, 24, 0, .rw, []⟩
/-! MON.Q_EN_LO (R324) -/
def MON.Q_EN_LO.EN : Fld := ⟨0xa050, 0, 32, 0, .rw, []⟩
/-! MON.Q_EN_HI (R324) -/
def MON.Q_EN_HI.EN_LOW : Fld := ⟨0xa054, 0, 16, 0, .rw, []⟩
def MON.Q_EN_HI.EN_HIGH : Fld := ⟨0xa054, 24, 8, 0, .rw, []⟩
/-! MON.Q_STAT (R324) -/
def MON.Q_STAT.EMPTY : Fld := ⟨0xa058, 31, 1, 1, .ro, []⟩
def MON.Q_STAT.LEVEL : Fld := ⟨0xa058, 16, 11, 0, .ro, []⟩
def MON.Q_STAT.OVF : Fld := ⟨0xa058, 0, 16, 0, .rc, []⟩
/-! MON.Q_DATA (R324) -/
def MON.Q_DATA.ENTRY : Fld := ⟨0xa05c, 0, 32, 0, .ro, []⟩
/-! MON.Q_CTL (R324) -/
def MON.Q_CTL.FLUSH : Fld := ⟨0xa060, 16, 1, 0, .wo, []⟩
def MON.Q_CTL.THR : Fld := ⟨0xa060, 0, 11, 0x200, .rw, [(0, 0x400)]⟩
/-! MON.LAST (R324) -/
def MON.LAST.ENTRY (j : Nat) : Fld := ⟨0xa100 + 4 * j, 0, 32, 0, .ro, []⟩
/-! THM.STAT (R338) -/
def THM.STAT.WARN : Fld := ⟨0x9040, 31, 1, 0, .ro, []⟩
def THM.STAT.ENF : Fld := ⟨0x9040, 30, 1, 0, .ro, []⟩
def THM.STAT.NVM_OK : Fld := ⟨0x9040, 29, 1, 0, .ro, []⟩
def THM.STAT.HOLD : Fld := ⟨0x9040, 28, 1, 0, .ro, []⟩
def THM.STAT.LEVEL : Fld := ⟨0x9040, 0, 4, 0, .ro, []⟩
/-! THM.REQ (R338) -/
def THM.REQ.REQ : Fld := ⟨0x9044, 31, 1, 0, .ro, []⟩
def THM.REQ.GRACE_LEFT : Fld := ⟨0x9044, 0, 16, 0, .ro, []⟩
/-! THM.CTL (R338) -/
def THM.CTL.GRACE : Fld := ⟨0x9048, 0, 16, 0x1f4, .rw, [(0, 0x2710)]⟩
/-! THM.HOT (R338) -/
def THM.HOT.SENSOR : Fld := ⟨0x904c, 16, 7, 0, .ro, []⟩
def THM.HOT.TEMP : Fld := ⟨0x904c, 0, 12, 0, .ro, []⟩
/-! THM.FAIL (R338) -/
def THM.FAIL.FAIL (j : Nat) : Fld := ⟨0x9050 + 4 * j, 0, 32, 0, .ro, []⟩
/-! THM.TEMP (R338) -/
def THM.TEMP.VALID (j : Nat) : Fld := ⟨0x9100 + 4 * j, 31, 1, 0, .ro, []⟩
def THM.TEMP.FAILED (j : Nat) : Fld := ⟨0x9100 + 4 * j, 30, 1, 0, .ro, []⟩
def THM.TEMP.CAUSE (j : Nat) : Fld := ⟨0x9100 + 4 * j, 28, 2, 0, .ro, []⟩
def THM.TEMP.ISLAND (j : Nat) : Fld := ⟨0x9100 + 4 * j, 22, 6, (sensorIsland j), .ro, []⟩
def THM.TEMP.TEMP (j : Nat) : Fld := ⟨0x9100 + 4 * j, 0, 12, 0, .ro, []⟩
/-! FLT.BLOCK_STAT_LO (R358) -/
def FLT.BLOCK_STAT_LO.LINES : Fld := ⟨0x4040, 0, 32, 0, .ro, []⟩
/-! FLT.BLOCK_STAT_HI (R358) -/
def FLT.BLOCK_STAT_HI.LINES : Fld := ⟨0x4044, 0, 32, 0, .ro, []⟩
/-! FLT.SLOT_STAT_LO (R358) -/
def FLT.SLOT_STAT_LO.LINES : Fld := ⟨0x4048, 0, 32, 0, .ro, []⟩
/-! FLT.SLOT_STAT_HI (R358) -/
def FLT.SLOT_STAT_HI.LINES : Fld := ⟨0x404c, 0, 32, 0, .ro, []⟩
/-! FLT.FIRST (R358) -/
def FLT.FIRST.VALID : Fld := ⟨0x4050, 31, 1, 0, .ro, []⟩
def FLT.FIRST.PAGE : Fld := ⟨0x4050, 0, 7, 0, .ro, []⟩
/-! FLT.SRC_SEL (R358) -/
def FLT.SRC_SEL.PAGE : Fld := ⟨0x4054, 8, 7, 0, .rw, []⟩
def FLT.SRC_SEL.BIT : Fld := ⟨0x4054, 0, 5, 0, .rw, []⟩
/-! FLT.SRC_CFG (R358) -/
def FLT.SRC_CFG.IMPL (k : Nat) : Fld := ⟨0x150000 + 4 * k, 31, 1, (srcOf k).impl.toNat, .ro, []⟩
def FLT.SRC_CFG.FIXED (k : Nat) : Fld := ⟨0x150000 + 4 * k, 30, 1, (srcOf k).fixed.toNat, .ro, []⟩
def FLT.SRC_CFG.SEC (k : Nat) : Fld := ⟨0x150000 + 4 * k, 29, 1, (srcOf k).sec.toNat, .ro, []⟩
def FLT.SRC_CFG.KIND (k : Nat) : Fld := ⟨0x150000 + 4 * k, 28, 1, (srcOf k).cond.toNat, .ro, []⟩
def FLT.SRC_CFG.MINCLASS (k : Nat) : Fld := ⟨0x150000 + 4 * k, 24, 3, (srcOf k).minc, .ro, []⟩
def FLT.SRC_CFG.CLASS (k : Nat) : Fld := ⟨0x150000 + 4 * k, 20, 3, (srcOf k).cls, .rw, [(0, 4)]⟩
def FLT.SRC_CFG.BSAFE (k : Nat) : Fld := ⟨0x150000 + 4 * k, 15, 1, (srcOf k).bsafe.toNat, .rw, []⟩
def FLT.SRC_CFG.ERRN (k : Nat) : Fld := ⟨0x150000 + 4 * k, 14, 1, (srcOf k).errn.toNat, .rw, []⟩
def FLT.SRC_CFG.CRST (k : Nat) : Fld := ⟨0x150000 + 4 * k, 13, 1, (srcOf k).crst.toNat, .rw, []⟩
def FLT.SRC_CFG.BRST (k : Nat) : Fld := ⟨0x150000 + 4 * k, 12, 1, (srcOf k).brst.toNat, .rw, []⟩
def FLT.SRC_CFG.TRAP (k : Nat) : Fld := ⟨0x150000 + 4 * k, 11, 1, (srcOf k).trap.toNat, .rw, []⟩
def FLT.SRC_CFG.IRQ (k : Nat) : Fld := ⟨0x150000 + 4 * k, 10, 1, 0, .ro, []⟩
/-! FLT.SRC_DEP (R358) -/
def FLT.SRC_DEP.DEP1_V : Fld := ⟨0x405c, 31, 1, 0, .ro, []⟩
def FLT.SRC_DEP.DEP1 : Fld := ⟨0x405c, 24, 7, 0, .ro, []⟩
def FLT.SRC_DEP.DEP0_V : Fld := ⟨0x405c, 23, 1, 0, .ro, []⟩
def FLT.SRC_DEP.DEP0 : Fld := ⟨0x405c, 16, 7, 0, .ro, []⟩
/-! FLT.INJ_KEY (R358) -/
def FLT.INJ_KEY.KEY : Fld := ⟨0x4060, 0, 16, 0, .wo, []⟩
/-! FLT.INJ (R358) -/
def FLT.INJ.EN : Fld := ⟨0x4064, 31, 1, 0, .ro, []⟩
def FLT.INJ.FTM : Fld := ⟨0x4064, 30, 1, 0, .ro, []⟩
def FLT.INJ.DENIED : Fld := ⟨0x4064, 8, 8, 0, .rc, []⟩
def FLT.INJ.CLOSE : Fld := ⟨0x4064, 0, 1, 0, .wo, []⟩
/-! FLT.SHADOW (R358) -/
def FLT.SHADOW.COUNT : Fld := ⟨0x4068, 0, 16, 0, .rc, []⟩
/-! FLT.ACCESS_NOTE (R358) -/
def FLT.ACCESS_NOTE.MASTER : Fld := ⟨0x406c, 29, 3, 0, .ro, []⟩
def FLT.ACCESS_NOTE.CAUSE : Fld := ⟨0x406c, 27, 2, 0, .ro, []⟩
def FLT.ACCESS_NOTE.PAGE : Fld := ⟨0x406c, 12, 7, 0, .ro, []⟩
def FLT.ACCESS_NOTE.OFFSET : Fld := ⟨0x406c, 0, 12, 0, .ro, []⟩
/-! FLT.TERM (R358) -/
def FLT.TERM.SET : Fld := ⟨0x4070, 31, 1, 0, .ro, []⟩
def FLT.TERM.FORCED : Fld := ⟨0x4070, 30, 1, 0, .ro, []⟩
def FLT.TERM.PAGE : Fld := ⟨0x4070, 8, 7, 0, .ro, []⟩
def FLT.TERM.BIT : Fld := ⟨0x4070, 0, 5, 0, .ro, []⟩
/-! IRQ.ROUTE_SEL (R359) -/
def IRQ.ROUTE_SEL.PAGE : Fld := ⟨0x5050, 8, 7, 0, .rw, []⟩
def IRQ.ROUTE_SEL.BIT : Fld := ⟨0x5050, 0, 5, 0, .rw, []⟩
/-! IRQ.ROUTE (R359) -/
def IRQ.ROUTE.M4 (k : Nat) : Fld := ⟨0x160000 + 4 * k, 4, 1, 1, .rw, []⟩
def IRQ.ROUTE.PINS (k : Nat) : Fld := ⟨0x160000 + 4 * k, 0, 4, (if (srcOf k).pins then 15 else 0), .rw, []⟩
/-! IRQ.PEND_LO (R359) -/
def IRQ.PEND_LO.PAGES (j : Nat) : Fld := ⟨0x5060 + 8 * j, 0, 32, 0, .ro, []⟩
/-! IRQ.PEND_HI (R359) -/
def IRQ.PEND_HI.PAGES (j : Nat) : Fld := ⟨0x5064 + 8 * j, 0, 32, 0, .ro, []⟩
/-! APC.CORE_STAT (R385) -/
def APC.CORE_STAT.WDR : Fld := ⟨0x2e040, 8, 4, 0, .w1c, []⟩
def APC.CORE_STAT.HALTED : Fld := ⟨0x2e040, 4, 4, 0, .ro, []⟩
def APC.CORE_STAT.RUN : Fld := ⟨0x2e040, 0, 4, 0, .ro, []⟩
/-! APC.PIN_CTL (R385) -/
def APC.PIN_CTL.PEND : Fld := ⟨0x2e044, 31, 1, 0, .ro, []⟩
def APC.PIN_CTL.MASK : Fld := ⟨0x2e044, 0, 1, 0, .rw, []⟩
/-! APC.WDOG (R385) -/
def APC.WDOG.EN (j : Nat) : Fld := ⟨0x2e048 + 4 * j, 31, 1, 0, .rwl, []⟩
def APC.WDOG.RST (j : Nat) : Fld := ⟨0x2e048 + 4 * j, 30, 1, 0, .rw, []⟩
def APC.WDOG.MS (j : Nat) : Fld := ⟨0x2e048 + 4 * j, 0, 16, 0x3e8, .rw, [(1, 0xea60)]⟩
/-! APC.WDOG_KICK (R385) -/
def APC.WDOG_KICK.KEY : Fld := ⟨0x2e058, 8, 8, 0, .wo, [(0x5a, 0x5a)]⟩
def APC.WDOG_KICK.CORES : Fld := ⟨0x2e058, 0, 4, 0, .wo, []⟩
/-! APC.MPU_NOTE (R385) -/
def APC.MPU_NOTE.VALID : Fld := ⟨0x2e05c, 31, 1, 0, .w1c, []⟩
def APC.MPU_NOTE.WRITE : Fld := ⟨0x2e05c, 30, 1, 0, .ro, []⟩
def APC.MPU_NOTE.EXEC : Fld := ⟨0x2e05c, 29, 1, 0, .ro, []⟩
def APC.MPU_NOTE.CORE : Fld := ⟨0x2e05c, 24, 2, 0, .ro, []⟩
/-! APC.MPU_ADDR (R385) -/
def APC.MPU_ADDR.ADDR : Fld := ⟨0x2e060, 0, 32, 0, .ro, []⟩
/-! SEC.STATE (R391) -/
def SEC.STATE.PROV : Fld := ⟨0x8040, 31, 1, 0, .ro, []⟩
def SEC.STATE.PROV_DEAD : Fld := ⟨0x8040, 30, 1, 0, .ro, []⟩
def SEC.STATE.EPOCH : Fld := ⟨0x8040, 24, 6, 0, .ro, []⟩
def SEC.STATE.LOCK : Fld := ⟨0x8040, 23, 1, 0, .ro, []⟩
def SEC.STATE.ERASED : Fld := ⟨0x8040, 22, 1, 0, .ro, []⟩
def SEC.STATE.FTM : Fld := ⟨0x8040, 21, 1, 0, .ro, []⟩
def SEC.STATE.SCOPE : Fld := ⟨0x8040, 18, 3, 0, .ro, []⟩
def SEC.STATE.SLOTS : Fld := ⟨0x8040, 0, 16, 0, .ro, []⟩
/-! SEC.BOOT_STAT (R391) -/
def SEC.BOOT_STAT.DONE : Fld := ⟨0x8044, 31, 1, 0, .ro, []⟩
def SEC.BOOT_STAT.CORES : Fld := ⟨0x8044, 30, 1, 0, .ro, []⟩
def SEC.BOOT_STAT.COPY : Fld := ⟨0x8044, 28, 2, 0, .ro, []⟩
def SEC.BOOT_STAT.RESULT : Fld := ⟨0x8044, 24, 4, 0, .ro, []⟩
def SEC.BOOT_STAT.SVN : Fld := ⟨0x8044, 0, 16, 0, .ro, []⟩
/-! SEC.ALARM_STAT (R391) -/
def SEC.ALARM_STAT.SLEEP : Fld := ⟨0x8048, 8, 1, 0, .w1c, []⟩
def SEC.ALARM_STAT.SRC : Fld := ⟨0x8048, 0, 6, 0, .w1c, []⟩
/-! SEC.ALARM_LVL (R391) -/
def SEC.ALARM_LVL.LVL : Fld := ⟨0x804c, 0, 12, alarmLvlFactory, .rw, []⟩
/-! SEC.MBX_CMD (R391) -/
def SEC.MBX_CMD.CMD : Fld := ⟨0x8050, 24, 8, 0, .wo, []⟩
def SEC.MBX_CMD.LEN : Fld := ⟨0x8050, 0, 24, 0, .wo, []⟩
/-! SEC.MBX_STAT (R391) -/
def SEC.MBX_STAT.BUSY : Fld := ⟨0x8054, 31, 1, 0, .ro, []⟩
def SEC.MBX_STAT.DATA_WAIT : Fld := ⟨0x8054, 30, 1, 0, .ro, []⟩
def SEC.MBX_STAT.LAST : Fld := ⟨0x8054, 16, 8, 0, .ro, []⟩
def SEC.MBX_STAT.RESULT : Fld := ⟨0x8054, 8, 8, 0, .ro, []⟩
def SEC.MBX_STAT.OUT : Fld := ⟨0x8054, 0, 8, 0, .ro, []⟩
/-! SEC.MBX_ARG (R391) -/
def SEC.MBX_ARG.ARG : Fld := ⟨0x8058, 0, 32, 0, .rw, []⟩
/-! SEC.MBX_DATA (R391) -/
def SEC.MBX_DATA.DATA : Fld := ⟨0x805c, 0, 32, 0, .rw, []⟩
/-! SEC.UID_LO (R391) -/
def SEC.UID_LO.UID : Fld := ⟨0x8060, 0, 32, 0, .ro, []⟩
/-! SEC.UID_HI (R391) -/
def SEC.UID_HI.UID : Fld := ⟨0x8064, 0, 32, 0, .ro, []⟩
/-! SEC.DBG (R391) -/
def SEC.DBG.FAILS : Fld := ⟨0x8068, 16, 2, 0, .ro, []⟩
/-! SEC.TRAP_NOTE (R391) -/
def SEC.TRAP_NOTE.VALID : Fld := ⟨0x806c, 31, 1, 0, .ro, []⟩
def SEC.TRAP_NOTE.PAGE : Fld := ⟨0x806c, 8, 7, 0, .ro, []⟩
def SEC.TRAP_NOTE.BIT : Fld := ⟨0x806c, 0, 5, 0, .ro, []⟩
/-! SEC.TRAP_CFG (R391) -/
def SEC.TRAP_CFG.HALT : Fld := ⟨0x8070, 0, 1, 0, .rw, []⟩
/-! SEC.KEY_INFO (R391) -/
def SEC.KEY_INFO.TYPE (j : Nat) : Fld := ⟨0x8080 + 8 * j, 28, 4, 0, .ro, []⟩
/-! SEC.KEY_ID (R391) -/
def SEC.KEY_ID.ID (j : Nat) : Fld := ⟨0x8084 + 8 * j, 0, 32, 0, .ro, []⟩
/-! NVM.STAT (R406) -/
def NVM.STAT.BUSY : Fld := ⟨0x7040, 31, 1, 0, .ro, []⟩
def NVM.STAT.WINDOW : Fld := ⟨0x7040, 30, 1, 0, .ro, []⟩
def NVM.STAT.REGION : Fld := ⟨0x7040, 0, 4, 0, .ro, []⟩
/-! NVM.RESULT (R406) -/
def NVM.RESULT.CAUSE : Fld := ⟨0x7044, 28, 4, 0, .ro, []⟩
def NVM.RESULT.REGION : Fld := ⟨0x7044, 24, 4, 0, .ro, []⟩
/-! NVM.ECC (R406) -/
def NVM.ECC.UE_CNT : Fld := ⟨0x7048, 16, 16, 0, .rc, []⟩
def NVM.ECC.CE_CNT : Fld := ⟨0x7048, 0, 16, 0, .rc, []⟩
/-! NVM.CAL_SEL (R406) -/
def NVM.CAL_SEL.INDEX : Fld := ⟨0x7050, 0, 11, 0, .rw, []⟩
/-! NVM.CAL_DATA (R406) -/
def NVM.CAL_DATA.VALUE : Fld := ⟨0x7054, 0, 32, 0, .rw, []⟩
/-! NVM.CAL_ORIGIN (R406) -/
def NVM.CAL_ORIGIN.ORIGIN : Fld := ⟨0x7058, 0, 32, 0, .ro, []⟩
/-! NVM.CAL_CTL (R406) -/
def NVM.CAL_CTL.PEND : Fld := ⟨0x705c, 31, 1, 0, .ro, []⟩
def NVM.CAL_CTL.DIRTY : Fld := ⟨0x705c, 30, 1, 0, .ro, []⟩
def NVM.CAL_CTL.KEY : Fld := ⟨0x705c, 8, 8, 0, .wo, [(0xc5, 0xc5)]⟩
def NVM.CAL_CTL.CHECK_EN : Fld := ⟨0x705c, 2, 1, 0, .rw, []⟩
def NVM.CAL_CTL.REVERT : Fld := ⟨0x705c, 1, 1, 0, .wo, []⟩
def NVM.CAL_CTL.WRITE : Fld := ⟨0x705c, 0, 1, 0, .wo, []⟩
/-! NVM.CAL_CRC (R406) -/
def NVM.CAL_CRC.CRC : Fld := ⟨0x7060, 0, 32, 0, .ro, []⟩
/-! NVM.CAL_CRC_EXP (R406) -/
def NVM.CAL_CRC_EXP.CRC : Fld := ⟨0x7064, 0, 32, 0, .rw, []⟩
/-! NVM.BPT_CTL (R406) -/
def NVM.BPT_CTL.PEND : Fld := ⟨0x7070, 31, 1, 0, .ro, []⟩
def NVM.BPT_CTL.KEY : Fld := ⟨0x7070, 8, 8, 0, .wo, [(0xc5, 0xc5)]⟩
def NVM.BPT_CTL.SAVE : Fld := ⟨0x7070, 0, 1, 0, .wo, []⟩
/-! NVM.HDR_CTL (R406) -/
def NVM.HDR_CTL.PEND : Fld := ⟨0x7074, 31, 1, 0, .ro, []⟩
def NVM.HDR_CTL.KEY : Fld := ⟨0x7074, 8, 8, 0, .wo, [(0xc5, 0xc5)]⟩
def NVM.HDR_CTL.COPY : Fld := ⟨0x7074, 4, 1, 0, .rw, []⟩
def NVM.HDR_CTL.WRITE : Fld := ⟨0x7074, 0, 1, 0, .wo, []⟩
/-! NVM.HDR_DELEG (R406) -/
def NVM.HDR_DELEG.MASK (j : Nat) : Fld := ⟨0x7078 + 4 * j, 0, 32, (delegFactory j), .rw, []⟩
/-! NVM.HDR_SVN (R406) -/
def NVM.HDR_SVN.MIN_SVN : Fld := ⟨0x7088, 0, 16, 0, .ro, []⟩
/-! NVM.OP_SEC_LO (R406) -/
def NVM.OP_SEC_LO.SEC : Fld := ⟨0x7090, 0, 32, 0, .ro, []⟩
/-! NVM.OP_SEC_HI (R406) -/
def NVM.OP_SEC_HI.SEC : Fld := ⟨0x7094, 0, 4, 0, .ro, []⟩
/-! NVM.PCYC (R406) -/
def NVM.PCYC.COUNT : Fld := ⟨0x7098, 0, 24, 0, .ro, []⟩
/-! EVT.CTL (R422) -/
def EVT.CTL.FLUSH : Fld := ⟨0x6040, 0, 1, 0, .wo, []⟩
/-! EVT.LAST (R422) -/
def EVT.LAST.SEQ : Fld := ⟨0x6044, 0, 32, 0xffffffff, .ro, []⟩
/-! EVT.OLDEST (R422) -/
def EVT.OLDEST.SEQ : Fld := ⟨0x6048, 0, 32, 0xffffffff, .ro, []⟩
/-! EVT.PERM (R422) -/
def EVT.PERM.COUNT : Fld := ⟨0x604c, 0, 11, 0, .ro, []⟩
/-! EVT.BUF (R422) -/
def EVT.BUF.FLUSHING : Fld := ⟨0x6050, 31, 1, 0, .ro, []⟩
def EVT.BUF.SCAN : Fld := ⟨0x6050, 30, 1, 0, .ro, []⟩
def EVT.BUF.PRIV : Fld := ⟨0x6050, 16, 9, 0, .ro, []⟩
def EVT.BUF.LEVEL : Fld := ⟨0x6050, 0, 9, 0, .ro, []⟩
/-! EVT.LOSS (R422) -/
def EVT.LOSS.LOST : Fld := ⟨0x6054, 16, 16, 0, .rc, []⟩
def EVT.LOSS.DROPPED : Fld := ⟨0x6054, 0, 16, 0, .rc, []⟩
/-! EVT.CURSOR (R422) -/
def EVT.CURSOR.SEQ : Fld := ⟨0x6058, 0, 32, 0, .rw, []⟩
/-! EVT.WIN_STAT (R422) -/
def EVT.WIN_STAT.READY : Fld := ⟨0x605c, 31, 1, 0, .ro, []⟩
def EVT.WIN_STAT.SRC : Fld := ⟨0x605c, 29, 2, 0, .ro, []⟩
def EVT.WIN_STAT.MATCH : Fld := ⟨0x605c, 28, 1, 0, .ro, []⟩
def EVT.WIN_STAT.CRC_OK : Fld := ⟨0x605c, 27, 1, 0, .ro, []⟩
def EVT.WIN_STAT.LOADS : Fld := ⟨0x605c, 0, 8, 0, .ro, []⟩
/-! EVT.RL_SEL (R422) -/
def EVT.RL_SEL.CODE : Fld := ⟨0x6060, 0, 16, 1, .rw, []⟩
/-! EVT.RL_CFG (R422) -/
def EVT.RL_CFG.DEPTH (c : Nat) : Fld := ⟨0x200000 + 8 * c, 16, 8, (rlDefault c).1, .rw, []⟩
def EVT.RL_CFG.REFILL (c : Nat) : Fld := ⟨0x200000 + 8 * c, 0, 16, (rlDefault c).2, .rw, [(1, 0xffff)]⟩
/-! EVT.RL_STAT (R422) -/
def EVT.RL_STAT.TOKENS (c : Nat) : Fld := ⟨0x200000 + 8 * c + 4, 24, 8, (rlDefault c).1, .ro, []⟩
def EVT.RL_STAT.PENDING (c : Nat) : Fld := ⟨0x200000 + 8 * c + 4, 0, 16, 0, .ro, []⟩
/-! EVT.WIN (R422) -/
def EVT.WIN.DATA (j : Nat) : Fld := ⟨0x6080 + 4 * j, 0, 32, 0, .ro, []⟩
/-! IDN.DEVICE_ID (R128 (address), R1 (value)) -/
def IDN.DEVICE_ID.ID : Fld := ⟨0x40, 0, 32, 0x8512, .ro, []⟩
/-! IDN.SI_REV (R128 (address), R1 (value)) -/
def IDN.SI_REV.REV : Fld := ⟨0x44, 0, 32, 0xb1, .ro, []⟩
/-! OWN.DELEGATE (R127) -/
def OWN.DELEGATE.MASK (j : Nat) : Fld := ⟨0x1060 + 4 * j, 0, 32, (delegFactory j), .rw, []⟩
/-! CAN.NOTE_SLOT (R216) -/
def CAN.NOTE_SLOT.SLOT : Fld := ⟨0x2006c, 0, 9, 0, .ro, []⟩
/-! CAN.SITE_ID (R216) -/
def CAN.SITE_ID.ID : Fld := ⟨0x20078, 0, 32, 0, .rw, []⟩
/-! TDD.TB_OFFSET (R265) -/
def TDD.TB_OFFSET.NS : Fld := ⟨0xe044, 0, 32, 0, .ro, []⟩
/-! FEC.SEQ_DATA0 (R256) -/
def FEC.SEQ_DATA0.WORD (k : Nat) : Fld := ⟨0x25048 + 0x1000 * k, 0, 32, 0, .rw, []⟩
/-! FEC.SEQ_DATA1 (R256) -/
def FEC.SEQ_DATA1.WORD (k : Nat) : Fld := ⟨0x2504c + 0x1000 * k, 0, 32, 0, .rw, []⟩
/-! HDR.ERR_STAT (R99) -/
def HDR.ERR_STAT.BITS (p : Nat) : Fld := ⟨0x10 + 0x1000 * p, 0, 32, 0, .w1c, []⟩
/-! HDR.ERR_MASK (R99) -/
def HDR.ERR_MASK.BITS (p : Nat) : Fld := ⟨0x14 + 0x1000 * p, 0, 32, 0, .rw, []⟩
/-! HDR.ERR_FORCE (R99) -/
def HDR.ERR_FORCE.BITS (p : Nat) : Fld := ⟨0x18 + 0x1000 * p, 0, 32, 0, .wo, []⟩
/-! HDR.IRQ_STAT (R99) -/
def HDR.IRQ_STAT.BITS (p : Nat) : Fld := ⟨0x20 + 0x1000 * p, 0, 32, 0, .w1c, []⟩
/-! HDR.IRQ_EN (R99) -/
def HDR.IRQ_EN.BITS (p : Nat) : Fld := ⟨0x24 + 0x1000 * p, 0, 32, (irqEnReset p), .rw, []⟩
/-! HDR.IRQ_FORCE (R99) -/
def HDR.IRQ_FORCE.BITS (p : Nat) : Fld := ⟨0x28 + 0x1000 * p, 0, 32, 0, .wo, []⟩

/-- The rows of page IDN: offset, count, stride, fields. -/
def IDN.rows : List RegRow := [
  ⟨0x50, 1, 1, fun _ => [IDN.PROFILE.REFUSE, IDN.PROFILE.OFFENDER, IDN.PROFILE.PENDING, IDN.PROFILE.ACTIVE, IDN.PROFILE.REQ]⟩,
  ⟨0x48, 1, 1, fun _ => [IDN.RF_STOP.SETTER, IDN.RF_STOP.CLEAR, IDN.RF_STOP.SET, IDN.RF_STOP.STOP]⟩,
  ⟨0x40, 1, 1, fun _ => [IDN.DEVICE_ID.ID]⟩,
  ⟨0x44, 1, 1, fun _ => [IDN.SI_REV.REV]⟩]
/-- The rows of page PWR: offset, count, stride, fields. -/
def PWR.rows : List RegRow := [
  ⟨0x110, 1, 1, fun _ => [PWR.RESET_CAUSE.FAULT_PAGE, PWR.RESET_CAUSE.PFAIL, PWR.RESET_CAUSE.WAKE, PWR.RESET_CAUSE.FAULT, PWR.RESET_CAUSE.PIN, PWR.RESET_CAUSE.CHIP_POR, PWR.RESET_CAUSE.AON_POR, PWR.RESET_CAUSE.TERMINAL]⟩,
  ⟨0x100, 4, 4, fun j => [PWR.ENG_RAIL.VCONF j, PWR.ENG_RAIL.REFUSE j, PWR.ENG_RAIL.VCONFIRMED j, PWR.ENG_RAIL.VTARGET j]⟩,
  ⟨0x40, 1, 1, fun _ => [PWR.PWR_CMD.STATE, PWR.PWR_CMD.BUSY, PWR.PWR_CMD.REQ]⟩,
  ⟨0x44, 1, 1, fun _ => [PWR.REFUSE_CNT.COUNT]⟩,
  ⟨0x48, 1, 1, fun _ => [PWR.REFUSER.ABORT, PWR.REFUSER.REQ_STATE, PWR.REFUSER.CODE]⟩,
  ⟨0x4c, 1, 1, fun _ => [PWR.WAKE_CAUSE.SLEEP_SEC, PWR.WAKE_CAUSE.FROM_STATE, PWR.WAKE_CAUSE.FLUSH_CUT, PWR.WAKE_CAUSE.RUN_REQ, PWR.WAKE_CAUSE.REPLAY, PWR.WAKE_CAUSE.MATCH]⟩,
  ⟨0x50, 1, 1, fun _ => [PWR.PAD_RELEASE.FE_HELD, PWR.PAD_RELEASE.BIAS_HELD, PWR.PAD_RELEASE.KEY, PWR.PAD_RELEASE.RELEASE]⟩]
/-- The rows of page CLK: offset, count, stride, fields. -/
def CLK.rows : List RegRow := [
  ⟨0x40, 1, 1, fun _ => [CLK.OSC_STAT.TRIMMED, CLK.OSC_STAT.REF_OK, CLK.OSC_STAT.LOST_SEEN, CLK.OSC_STAT.OFF_SEEN, CLK.OSC_STAT.DEV]⟩,
  ⟨0x80, 7, 4, fun j => [CLK.PLL_CTL.LOCK j, CLK.PLL_CTL.UNLOCK_SEEN j, CLK.PLL_CTL.EN j]⟩,
  ⟨0x100, 48, 4, fun j => [CLK.ISL_CLK.ON j, CLK.ISL_CLK.SRC_NOW j, CLK.ISL_CLK.REFUSE j, CLK.ISL_CLK.DIV_APPLIED j, CLK.ISL_CLK.DIV_REQ j, CLK.ISL_CLK.SRC j]⟩]
/-- The rows of page HDR: offset, count, stride, fields. -/
def HDR.rows (p : Nat) : List RegRow := [
  ⟨0, 1, 1, fun _ => [HDR.PAGE_ID.INSTANCE p, HDR.PAGE_ID.BLOCK_TYPE p, HDR.PAGE_ID.PAGE p]⟩,
  ⟨4, 1, 1, fun _ => [HDR.PAGE_REV.MAJOR p, HDR.PAGE_REV.MINOR p]⟩,
  ⟨8, 1, 1, fun _ => [HDR.PAGE_CTL.CLK_REQ p, HDR.PAGE_CTL.SOFT_RESET p, HDR.PAGE_CTL.EN p]⟩,
  ⟨0xc, 1, 1, fun _ => [HDR.PAGE_STAT.ISLAND p, HDR.PAGE_STAT.RESET_ACTIVE p, HDR.PAGE_STAT.BUSY p, HDR.PAGE_STAT.PWR_ON p, HDR.PAGE_STAT.CLK_ON p]⟩,
  ⟨0x1c, 1, 1, fun _ => [HDR.ERR_FIRST.VALID p, HDR.ERR_FIRST.BIT p]⟩,
  ⟨0x2c, 1, 1, fun _ => [HDR.SNAP_SEQ.SEQ p]⟩,
  ⟨0x10, 1, 1, fun _ => [HDR.ERR_STAT.BITS p]⟩,
  ⟨0x14, 1, 1, fun _ => [HDR.ERR_MASK.BITS p]⟩,
  ⟨0x18, 1, 1, fun _ => [HDR.ERR_FORCE.BITS p]⟩,
  ⟨0x20, 1, 1, fun _ => [HDR.IRQ_STAT.BITS p]⟩,
  ⟨0x24, 1, 1, fun _ => [HDR.IRQ_EN.BITS p]⟩,
  ⟨0x28, 1, 1, fun _ => [HDR.IRQ_FORCE.BITS p]⟩]
/-- The rows of page PCI: offset, count, stride, fields. -/
def PCI.rows : List RegRow := [
  ⟨0x40, 1, 1, fun _ => [PCI.LINK_STAT.UP, PCI.LINK_STAT.PERST, PCI.LINK_STAT.SPEED, PCI.LINK_STAT.WIDTH, PCI.LINK_STAT.LTSSM]⟩,
  ⟨0x44, 1, 1, fun _ => [PCI.LINK_CTL.RETRAIN, PCI.LINK_CTL.MAX_SPEED]⟩,
  ⟨0x48, 1, 1, fun _ => [PCI.IDS.DEVICE, PCI.IDS.VENDOR]⟩,
  ⟨0x4c, 1, 1, fun _ => [PCI.AER_UNCOR.STATUS]⟩,
  ⟨0x50, 1, 1, fun _ => [PCI.AER_COR.STATUS]⟩,
  ⟨0x54, 1, 1, fun _ => [PCI.CNT.DOWN, PCI.CNT.RECOVERY]⟩]
/-- The rows of page HSI: offset, count, stride, fields. -/
def HSI.rows : List RegRow := [
  ⟨0x40, 2, 4, fun j => [HSI.SPI_STAT.CUT j, HSI.SPI_STAT.OPCODE j]⟩,
  ⟨0x48, 1, 1, fun _ => [HSI.I2C_STAT.TIMEOUT, HSI.I2C_STAT.PARTIAL]⟩,
  ⟨0x4c, 1, 1, fun _ => [HSI.I2C_ADDR.ADDR]⟩]
/-- The rows of page OWN: offset, count, stride, fields. -/
def OWN.rows : List RegRow := [
  ⟨0x40, 1, 1, fun _ => [OWN.OWN_CLAIM.RELEASE, OWN.OWN_CLAIM.NONCE]⟩,
  ⟨0x44, 1, 1, fun _ => [OWN.OWN_STAT.STATE, OWN.OWN_STAT.OWNER, OWN.OWN_STAT.EPOCH, OWN.OWN_STAT.NONCE]⟩,
  ⟨0x48, 1, 1, fun _ => [OWN.OWN_BEAT.NONCE]⟩,
  ⟨0x4c, 1, 1, fun _ => [OWN.BEAT_MAX.LEFT, OWN.BEAT_MAX.MS]⟩,
  ⟨0x50, 1, 1, fun _ => [OWN.HANDOVER.RESULT, OWN.HANDOVER.TARGET]⟩,
  ⟨0x54, 1, 1, fun _ => [OWN.ACCEPT.NONCE]⟩,
  ⟨0x70, 5, 4, fun j => [OWN.DROP_CNT.LAST_PAGE j, OWN.DROP_CNT.COUNT j]⟩,
  ⟨0x60, 4, 4, fun j => [OWN.DELEGATE.MASK j]⟩]
/-- The rows of page IRQ: offset, count, stride, fields. -/
def IRQ.rows : List RegRow := [
  ⟨0x40, 4, 4, fun j => [IRQ.PIN_CTL.PEND j, IRQ.PIN_CTL.MASK j]⟩,
  ⟨0x50, 1, 1, fun _ => [IRQ.ROUTE_SEL.PAGE, IRQ.ROUTE_SEL.BIT]⟩,
  ⟨0x60, 4, 8, fun j => [IRQ.PEND_LO.PAGES j]⟩,
  ⟨0x64, 4, 8, fun j => [IRQ.PEND_HI.PAGES j]⟩]
/-- The rows of page SYN: offset, count, stride, fields. -/
def SYN.rows : List RegRow := [
  ⟨0x40, 8, 4, fun j => [SYN.SYN_CTL.REFUSE j, SYN.SYN_CTL.RECAL j, SYN.SYN_CTL.PLAN j, SYN.SYN_CTL.EN j]⟩,
  ⟨0x60, 8, 4, fun j => [SYN.SYN_STAT.READY j, SYN.SYN_STAT.LOCK j, SYN.SYN_STAT.CONV_RDY j, SYN.SYN_STAT.BUSY j, SYN.SYN_STAT.PEND j, SYN.SYN_STAT.UNLOCK_SEEN j, SYN.SYN_STAT.STEP j, SYN.SYN_STAT.CHG_CNT j, SYN.SYN_STAT.PLAN_NOW j]⟩]
/-- The rows of page CNV: offset, count, stride, fields. -/
def CNV.rows (n : Nat) : List RegRow := [
  ⟨0x40, 4, 4, fun j => [CNV.RX_CFG.PWR n j, CNV.RX_CFG.DSA n j, CNV.RX_CFG.ROLE n j]⟩,
  ⟨0x50, 4, 4, fun j => [CNV.TX_CFG.PWR n j, CNV.TX_CFG.FS n j, CNV.TX_CFG.ROLE n j]⟩,
  ⟨0x60, 1, 1, fun _ => [CNV.CAL_CTL.BG_EN n]⟩,
  ⟨0x64, 1, 1, fun _ => [CNV.CAL_STAT.DRIFT n, CNV.CAL_STAT.CONV n, CNV.CAL_STAT.HOLD n, CNV.CAL_STAT.FG_DONE n]⟩,
  ⟨0x68, 1, 1, fun _ => [CNV.CAL_IMG.IMG_3 n, CNV.CAL_IMG.IMG_2 n, CNV.CAL_IMG.IMG_1 n, CNV.CAL_IMG.IMG_0 n]⟩,
  ⟨0x70, 4, 4, fun j => [CNV.ILV.SKEW n j, CNV.ILV.GAIN n j, CNV.ILV.OFFSET n j]⟩,
  ⟨0x80, 16, 4, fun j => [CNV.OBS_ENT.VALID n j, CNV.OBS_ENT.ZONE n j, CNV.OBS_ENT.CPL n j, CNV.OBS_ENT.DWELL n j]⟩,
  ⟨0xc0, 1, 1, fun _ => [CNV.OBS_CTL.PENDING n, CNV.OBS_CTL.REFUSE n, CNV.OBS_CTL.OFFENDER n, CNV.OBS_CTL.COMMIT n]⟩,
  ⟨0xc4, 1, 1, fun _ => [CNV.OBS_STAT.ENT_1 n, CNV.OBS_STAT.ENT_0 n, CNV.OBS_STAT.ACT_1 n, CNV.OBS_STAT.ACT_0 n]⟩]
/-- The rows of page SLP: offset, count, stride, fields. -/
def SLP.rows (s : Nat) : List RegRow := [
  ⟨0, 1, 1, fun _ => [SLP.SLOT_CTL.COMMIT s, SLP.SLOT_CTL.EN s]⟩,
  ⟨4, 1, 1, fun _ => [SLP.SLOT_STAT.RESULT s, SLP.SLOT_STAT.CREFUSE s, SLP.SLOT_STAT.COMMIT_PEND s, SLP.SLOT_STAT.STATE s, SLP.SLOT_STAT.HOLD s, SLP.SLOT_STAT.HIST_VALID s, SLP.SLOT_STAT.DIR s, SLP.SLOT_STAT.DIRTY s]⟩,
  ⟨8, 1, 1, fun _ => [SLP.SLOT_CFG.RX s, SLP.SLOT_CFG.RATE s, SLP.SLOT_CFG.MA_STAGES s, SLP.SLOT_CFG.TDD s]⟩,
  ⟨0xc, 1, 1, fun _ => [SLP.SLOT_TX.VALID3 s, SLP.SLOT_TX.TX3 s, SLP.SLOT_TX.VALID2 s, SLP.SLOT_TX.TX2 s, SLP.SLOT_TX.VALID1 s, SLP.SLOT_TX.TX1 s, SLP.SLOT_TX.VALID0 s, SLP.SLOT_TX.TX0 s]⟩,
  ⟨0x10, 1, 1, fun _ => [SLP.RX_CENTRE.FREQ s]⟩,
  ⟨0x14, 1, 1, fun _ => [SLP.TX_CENTRE.FREQ s]⟩,
  ⟨0x18, 1, 1, fun _ => [SLP.GAIN.TARGET s]⟩,
  ⟨0x1c, 1, 1, fun _ => [SLP.GAIN_STAT.LIMIT s, SLP.GAIN_STAT.BACKOFF s, SLP.GAIN_STAT.APPLIED s]⟩,
  ⟨0x20, 1, 1, fun _ => [SLP.FIR_CTL.SRC s, SLP.FIR_CTL.LEN s]⟩,
  ⟨0x24, 1, 1, fun _ => [SLP.EXPORT.EN s, SLP.EXPORT.POINT s, SLP.EXPORT.FMT s, SLP.EXPORT.LANE s]⟩,
  ⟨0x34, 1, 1, fun _ => [SLP.LAT_STAT.FIR_LIVE s, SLP.LAT_STAT.BAL s]⟩,
  ⟨0x38, 1, 1, fun _ => [SLP.SLOT_CNT.COMMITS s, SLP.SLOT_CNT.INVALID s]⟩,
  ⟨0x2c, 1, 1, fun _ => [SLP.CAN_REACH.INDEX0 s, SLP.CAN_REACH.OBS0 s, SLP.CAN_REACH.KIND0 s, SLP.CAN_REACH.INDEX1 s, SLP.CAN_REACH.OBS1 s, SLP.CAN_REACH.KIND1 s, SLP.CAN_REACH.INDEX2 s, SLP.CAN_REACH.OBS2 s, SLP.CAN_REACH.KIND2 s, SLP.CAN_REACH.INDEX3 s, SLP.CAN_REACH.OBS3 s, SLP.CAN_REACH.KIND3 s]⟩,
  ⟨0x28, 1, 1, fun _ => [SLP.CAN_CFG.MODE s, SLP.CAN_CFG.ALT s, SLP.CAN_CFG.WARM s, SLP.CAN_CFG.EXT3 s, SLP.CAN_CFG.EXT2 s, SLP.CAN_CFG.EXT1 s, SLP.CAN_CFG.EXT0 s]⟩,
  ⟨0x30, 1, 1, fun _ => [SLP.GOV_CFG.URG_MIN s, SLP.GOV_CFG.MARGIN_ADD s, SLP.GOV_CFG.EXT_EN s]⟩]
/-- The rows of page FWD: offset, count, stride, fields. -/
def FWD.rows (n : Nat) : List RegRow := [
  ⟨0x40, 1, 1, fun _ => [FWD.RATE_SUM.PART n, FWD.RATE_SUM.GROUP n]⟩,
  ⟨0x44, 1, 1, fun _ => [FWD.FIR_SEL.SLOT n, FWD.FIR_SEL.TAP n]⟩,
  ⟨0x48, 1, 1, fun _ => [FWD.FIR_DATA.I n, FWD.FIR_DATA.Q n]⟩,
  ⟨0x4c, 1, 1, fun _ => [FWD.NOTE_SLOT.SLOT n]⟩,
  ⟨0x50, 4, 4, fun j => [FWD.TX_SAT.COUNT n j]⟩]
/-- The rows of page LNK: offset, count, stride, fields. -/
def LNK.rows : List RegRow := [
  ⟨0x100, 16, 32, fun j => [LNK.LANE_CTL.EN j, LNK.LANE_CTL.RX_EN j, LNK.LANE_CTL.ETYPE j]⟩,
  ⟨0x104, 16, 32, fun j => [LNK.LANE_STAT.UP j, LNK.LANE_STAT.LFAULT j, LNK.LANE_STAT.RFAULT j, LNK.LANE_STAT.LOAD j]⟩,
  ⟨0x108, 16, 32, fun j => [LNK.DST_LO.ADDR j]⟩,
  ⟨0x10c, 16, 32, fun j => [LNK.DST_HI.ADDR j]⟩,
  ⟨0x110, 16, 32, fun j => [LNK.SRC_LO.ADDR j]⟩,
  ⟨0x114, 16, 32, fun j => [LNK.SRC_HI.ADDR j]⟩,
  ⟨0x118, 16, 32, fun j => [LNK.TX_CNT.DISCARDED j, LNK.TX_CNT.SENT j]⟩,
  ⟨0x11c, 16, 32, fun j => [LNK.RX_CNT.LATE j, LNK.RX_CNT.BAD j]⟩,
  ⟨0x40, 1, 1, fun _ => [LNK.PTP_CTL.SET, LNK.PTP_CTL.VALID, LNK.PTP_CTL.LPEND, LNK.PTP_CTL.BEAT, LNK.PTP_CTL.STEP, LNK.PTP_CTL.LOAD_PPS, LNK.PTP_CTL.LOAD_NOW]⟩,
  ⟨0x44, 1, 1, fun _ => [LNK.PTP_LD_SEC_HI.SEC]⟩,
  ⟨0x48, 1, 1, fun _ => [LNK.PTP_LD_SEC_LO.SEC]⟩,
  ⟨0x4c, 1, 1, fun _ => [LNK.PTP_LD_NS.NS]⟩,
  ⟨0x50, 1, 1, fun _ => [LNK.PTP_STEP.NS]⟩,
  ⟨0x54, 1, 1, fun _ => [LNK.PTP_RATE.ADJ]⟩,
  ⟨0x58, 1, 1, fun _ => [LNK.TIME_SEC_HI.SEC]⟩,
  ⟨0x5c, 1, 1, fun _ => [LNK.TIME_SEC_LO.SEC]⟩,
  ⟨0x60, 1, 1, fun _ => [LNK.TIME_NS.NS]⟩,
  ⟨0x64, 1, 1, fun _ => [LNK.PPS_SEC_HI.SEC]⟩,
  ⟨0x68, 1, 1, fun _ => [LNK.PPS_SEC_LO.SEC]⟩,
  ⟨0x6c, 1, 1, fun _ => [LNK.PPS_NS.NS]⟩,
  ⟨0x70, 1, 1, fun _ => [LNK.RXQ_STAT.VALID, LNK.RXQ_STAT.LANE, LNK.RXQ_STAT.DROP, LNK.RXQ_STAT.LEVEL, LNK.RXQ_STAT.LEN]⟩,
  ⟨0x74, 1, 1, fun _ => [LNK.RXQ_TS_SEC_HI.SEC]⟩,
  ⟨0x78, 1, 1, fun _ => [LNK.RXQ_TS_SEC_LO.SEC]⟩,
  ⟨0x7c, 1, 1, fun _ => [LNK.RXQ_TS_NS.NS]⟩,
  ⟨0x80, 1, 1, fun _ => [LNK.RXQ_DATA.DATA]⟩,
  ⟨0x84, 1, 1, fun _ => [LNK.RXQ_POP.POP]⟩,
  ⟨0x88, 1, 1, fun _ => [LNK.TXQ_CTL.BUSY, LNK.TXQ_CTL.LANE, LNK.TXQ_CTL.GO, LNK.TXQ_CTL.LEN]⟩,
  ⟨0x8c, 1, 1, fun _ => [LNK.TXQ_DATA.DATA]⟩,
  ⟨0x90, 1, 1, fun _ => [LNK.TXQ_TS_SEC_HI.SEC]⟩,
  ⟨0x94, 1, 1, fun _ => [LNK.TXQ_TS_SEC_LO.SEC]⟩,
  ⟨0x98, 1, 1, fun _ => [LNK.TXQ_TS_NS.NS]⟩]
/-- The rows of page CAN: offset, count, stride, fields. -/
def CAN.rows : List RegRow := [
  ⟨0x40, 1, 1, fun _ => [CAN.BUDGET.THERM, CAN.BUDGET.CAP, CAN.BUDGET.USED]⟩,
  ⟨0x44, 1, 1, fun _ => [CAN.POOL.FREE, CAN.POOL.PARKED]⟩,
  ⟨0x48, 1, 1, fun _ => [CAN.RESIZE.PENDING, CAN.RESIZE.RESULT, CAN.RESIZE.SLOT]⟩,
  ⟨0x4c, 1, 1, fun _ => [CAN.CADENCE.U0, CAN.CADENCE.U1, CAN.CADENCE.U2, CAN.CADENCE.U3]⟩,
  ⟨0x50, 1, 1, fun _ => [CAN.ADAPT_CFG.COV_WIN, CAN.ADAPT_CFG.LEAK, CAN.ADAPT_CFG.MU, CAN.ADAPT_CFG.DIV_DB]⟩,
  ⟨0x54, 1, 1, fun _ => [CAN.STEAL_CFG.RETRY, CAN.STEAL_CFG.RING_EN, CAN.STEAL_CFG.URGENT_PEEK]⟩,
  ⟨0x58, 1, 1, fun _ => [CAN.JOB_CNT_0.STALE, CAN.JOB_CNT_0.DISCARDED]⟩,
  ⟨0x5c, 1, 1, fun _ => [CAN.JOB_CNT_1.TIMEOUT, CAN.JOB_CNT_1.FULL]⟩,
  ⟨0x84, 1, 1, fun _ => [CAN.JOB_CNT_2.SKIPPED, CAN.JOB_CNT_2.REJECTED]⟩,
  ⟨0x60, 1, 1, fun _ => [CAN.XT_SEL.SLOT, CAN.XT_SEL.INDEX]⟩,
  ⟨0x64, 1, 1, fun _ => [CAN.XT_DATA.VALID, CAN.XT_DATA.ALT, CAN.XT_DATA.AGG, CAN.XT_DATA.PART, CAN.XT_DATA.SHIFT, CAN.XT_DATA.PARK, CAN.XT_DATA.EXTENT]⟩,
  ⟨0x70, 1, 1, fun _ => [CAN.POOL_ADDR.BANK, CAN.POOL_ADDR.ENTRY]⟩,
  ⟨0x74, 1, 1, fun _ => [CAN.POOL_DATA.I, CAN.POOL_DATA.Q]⟩,
  ⟨0x7c, 1, 1, fun _ => [CAN.SNAP_CTL.AUTO, CAN.SNAP_CTL.SAVE]⟩,
  ⟨0x80, 1, 1, fun _ => [CAN.SNAP_STAT.BUSY, CAN.SNAP_STAT.VALID, CAN.SNAP_STAT.RESULT, CAN.SNAP_STAT.SLOTS, CAN.SNAP_STAT.AGE]⟩,
  ⟨0x88, 1, 1, fun _ => [CAN.POOL_ERR.RETIRED, CAN.POOL_ERR.CE_CNT]⟩,
  ⟨0xc0, 16, 4, fun j => [CAN.EXT_REF.EN j, CAN.EXT_REF.LIVE j, CAN.EXT_REF.LANE j, CAN.EXT_REF.SLOT j]⟩,
  ⟨0x6c, 1, 1, fun _ => [CAN.NOTE_SLOT.SLOT]⟩,
  ⟨0x78, 1, 1, fun _ => [CAN.SITE_ID.ID]⟩]
/-- The rows of page YCL: offset, count, stride, fields. -/
def YCL.rows (k : Nat) : List RegRow := [
  ⟨0x40, 1, 1, fun _ => [YCL.ENG_STAT.STATE k, YCL.ENG_STAT.BUSY k]⟩,
  ⟨0x44, 1, 1, fun _ => [YCL.STEAL_CNT.RING k, YCL.STEAL_CNT.LOCAL k]⟩,
  ⟨0x48, 1, 1, fun _ => [YCL.JOB_DONE.COUNT k]⟩,
  ⟨0x4c, 1, 1, fun _ => [YCL.DESC_SEL.ENG k, YCL.DESC_SEL.ENTRY k, YCL.DESC_SEL.WORD k]⟩,
  ⟨0x50, 1, 1, fun _ => [YCL.DESC_DATA.DATA k]⟩,
  ⟨0x80, 16, 4, fun j => [YCL.DEQ.BACKGROUND k j, YCL.DEQ.ROUTINE k j, YCL.DEQ.URGENT k j, YCL.DEQ.DEPTH k j]⟩]
/-- The rows of page OBS: offset, count, stride, fields. -/
def OBS.rows : List RegRow := [
  ⟨0x40, 1, 1, fun _ => [OBS.BIN_SEL.SLOT, OBS.BIN_SEL.BIN]⟩,
  ⟨0x44, 1, 1, fun _ => [OBS.BIN_DATA0.LG, OBS.BIN_DATA0.IEFF]⟩,
  ⟨0x48, 1, 1, fun _ => [OBS.BIN_DATA1.IPHYS, OBS.BIN_DATA1.COH, OBS.BIN_DATA1.VALID, OBS.BIN_DATA1.NOTCHED, OBS.BIN_DATA1.STEP]⟩,
  ⟨0x4c, 1, 1, fun _ => [OBS.EST_CFG.AVG]⟩]
/-- The rows of page GOV: offset, count, stride, fields. -/
def GOV.rows : List RegRow := [
  ⟨0x40, 1, 1, fun _ => [GOV.MARGIN.M]⟩,
  ⟨0x44, 1, 1, fun _ => [GOV.CLAMP_CFG.HOLD]⟩,
  ⟨0x48, 1, 1, fun _ => [GOV.COLD_CFG.ISO_ASSUME]⟩,
  ⟨0x4c, 1, 1, fun _ => [GOV.RECOVER.MS]⟩,
  ⟨0x50, 1, 1, fun _ => [GOV.SUB_SEL.SLOT, GOV.SUB_SEL.BIN]⟩,
  ⟨0x54, 1, 1, fun _ => [GOV.SUB_DATA.OWNER, GOV.SUB_DATA.CUT]⟩,
  ⟨0x5c, 1, 1, fun _ => [GOV.CLAMP_CNT.BROAD, GOV.CLAMP_CNT.NOTCH]⟩,
  ⟨0x60, 1, 1, fun _ => [GOV.PROT_CFG.OSC_HOLD, GOV.PROT_CFG.MASK_HOLD]⟩,
  ⟨0x64, 1, 1, fun _ => [GOV.PROT_SEL.SLOT]⟩,
  ⟨0x6c, 1, 1, fun _ => [GOV.PROT_CTL.UNLATCH]⟩,
  ⟨0x70, 1, 1, fun _ => [GOV.PERMIT.PERMIT, GOV.PERMIT.CAUSE]⟩,
  ⟨0x74, 1, 1, fun _ => [GOV.MASK_NOTE.TX, GOV.MASK_NOTE.ZONE, GOV.MASK_NOTE.MHZ]⟩]
/-- The rows of page CLV: offset, count, stride, fields. -/
def CLV.rows : List RegRow := [
  ⟨0x40, 1, 1, fun _ => [CLV.TIMING.PEND, CLV.TIMING.NOW, CLV.TIMING.MODE]⟩,
  ⟨0x44, 1, 1, fun _ => [CLV.PERIOD.COUNT]⟩,
  ⟨0x48, 1, 1, fun _ => [CLV.LOOP_SEL.LOOP]⟩,
  ⟨0x6c, 1, 1, fun _ => [CLV.MAT_ADDR.BANK, CLV.MAT_ADDR.WORD]⟩,
  ⟨0x70, 1, 1, fun _ => [CLV.MAT_DATA.VALUE]⟩,
  ⟨0x80, 17, 4, fun j => [CLV.MISS.MISS j]⟩]
/-- The rows of page CAP: offset, count, stride, fields. -/
def CAP.rows : List RegRow := [
  ⟨0x40, 1, 1, fun _ => [CAP.INJ_CTL.ACTIVE, CAP.INJ_CTL.LOOP, CAP.INJ_CTL.POINT, CAP.INJ_CTL.WAVE, CAP.INJ_CTL.EN]⟩,
  ⟨0x44, 1, 1, fun _ => [CAP.INJ_AMP.AMP]⟩,
  ⟨0x48, 1, 1, fun _ => [CAP.INJ_TIME.LEN, CAP.INJ_TIME.CHIP]⟩,
  ⟨0x4c, 1, 1, fun _ => [CAP.INJ_FREQ.F1, CAP.INJ_FREQ.F0]⟩,
  ⟨0x50, 1, 1, fun _ => [CAP.LCAP_CTL.DONE, CAP.LCAP_CTL.ARMED, CAP.LCAP_CTL.NSIG, CAP.LCAP_CTL.TRIG, CAP.LCAP_CTL.PRE, CAP.LCAP_CTL.ARM]⟩,
  ⟨0x54, 1, 1, fun _ => [CAP.LCAP_LOOP.LOOP]⟩,
  ⟨0x58, 1, 1, fun _ => [CAP.LCAP_SIG.SIG0, CAP.LCAP_SIG.SIG1, CAP.LCAP_SIG.SIG2, CAP.LCAP_SIG.SIG3]⟩,
  ⟨0x5c, 1, 1, fun _ => [CAP.LCAP_ADDR.WORD]⟩,
  ⟨0x60, 1, 1, fun _ => [CAP.LCAP_DATA.VALUE]⟩,
  ⟨0x64, 1, 1, fun _ => [CAP.LCAP_STAT.PERIOD]⟩,
  ⟨0x70, 1, 1, fun _ => [CAP.IQ_CTL.DONE, CAP.IQ_CTL.ARMED, CAP.IQ_CTL.TWO, CAP.IQ_CTL.TRIG, CAP.IQ_CTL.POINTA, CAP.IQ_CTL.POINTB, CAP.IQ_CTL.PRE, CAP.IQ_CTL.SLOT, CAP.IQ_CTL.ARM]⟩,
  ⟨0x74, 1, 1, fun _ => [CAP.IQ_STAT.START]⟩,
  ⟨0x78, 1, 1, fun _ => [CAP.IQ_TIME_S.VALUE]⟩,
  ⟨0x7c, 1, 1, fun _ => [CAP.IQ_TIME_NS.VALUE]⟩,
  ⟨0x80, 1, 1, fun _ => [CAP.IQ_ADDR.WORD]⟩,
  ⟨0x84, 1, 1, fun _ => [CAP.IQ_DATA.VALUE]⟩]
/-- The rows of page FEC: offset, count, stride, fields. -/
def FEC.rows (k : Nat) : List RegRow := [
  ⟨0x40, 1, 1, fun _ => [FEC.SEQ_CTL.RUNNING k, FEC.SEQ_CTL.PEND k, FEC.SEQ_CTL.REFUSE k, FEC.SEQ_CTL.COMMIT k, FEC.SEQ_CTL.RUN k]⟩,
  ⟨0x44, 1, 1, fun _ => [FEC.SEQ_SEL.BANK k, FEC.SEQ_SEL.ENTRY k]⟩,
  ⟨0x84, 1, 1, fun _ => [FEC.RFFE_CMD_SEL.BANK k, FEC.RFFE_CMD_SEL.INDEX k]⟩,
  ⟨0x50, 1, 1, fun _ => [FEC.DRV_EN.EN k]⟩,
  ⟨0x54, 1, 1, fun _ => [FEC.IDLE.LEVEL k]⟩,
  ⟨0x58, 1, 1, fun _ => [FEC.LEVEL.NOW k]⟩,
  ⟨0x5c, 1, 1, fun _ => [FEC.SEQ_CNT.LATE k, FEC.SEQ_CNT.CLASH k]⟩,
  ⟨0x60, 8, 4, fun j => [FEC.LINE_GATE.TX0 k j, FEC.LINE_GATE.EN0 k j, FEC.LINE_GATE.TX1 k j, FEC.LINE_GATE.EN1 k j, FEC.LINE_GATE.TX2 k j, FEC.LINE_GATE.EN2 k j, FEC.LINE_GATE.TX3 k j, FEC.LINE_GATE.EN3 k j]⟩,
  ⟨0x80, 1, 1, fun _ => [FEC.RFFE_CFG.EN1 k, FEC.RFFE_CFG.RATE1 k, FEC.RFFE_CFG.EN0 k, FEC.RFFE_CFG.RATE0 k]⟩,
  ⟨0x88, 1, 1, fun _ => [FEC.RFFE_CMD0.VALID k, FEC.RFFE_CMD0.BUS k, FEC.RFFE_CMD0.TYPE k, FEC.RFFE_CMD0.USID k, FEC.RFFE_CMD0.ADDR k, FEC.RFFE_CMD0.LEN k]⟩,
  ⟨0x8c, 1, 1, fun _ => [FEC.RFFE_CMD1.DATA k]⟩,
  ⟨0x90, 1, 1, fun _ => [FEC.RFFE_RD.BUSY k, FEC.RFFE_RD.PERR k, FEC.RFFE_RD.BUS k, FEC.RFFE_RD.EXT k, FEC.RFFE_RD.USID k, FEC.RFFE_RD.ADDR k, FEC.RFFE_RD.GO k, FEC.RFFE_RD.DATA k]⟩,
  ⟨0x48, 1, 1, fun _ => [FEC.SEQ_DATA0.WORD k]⟩,
  ⟨0x4c, 1, 1, fun _ => [FEC.SEQ_DATA1.WORD k]⟩]
/-- The rows of page TDD: offset, count, stride, fields. -/
def TDD.rows : List RegRow := [
  ⟨0x40, 1, 1, fun _ => [TDD.TB_CTL.LOCKED, TDD.TB_CTL.REFUSE, TDD.TB_CTL.PAT, TDD.TB_CTL.SRC]⟩,
  ⟨0x48, 1, 1, fun _ => [TDD.PAT_SEL.EDGE, TDD.PAT_SEL.PAT]⟩,
  ⟨0x50, 1, 1, fun _ => [TDD.PAT_EDGE.VALID, TDD.PAT_EDGE.DIR, TDD.PAT_EDGE.OFFSET]⟩,
  ⟨0x44, 1, 1, fun _ => [TDD.TB_OFFSET.NS]⟩]
/-- The rows of page DIV: offset, count, stride, fields. -/
def DIV.rows : List RegRow := [
  ⟨0x40, 8, 4, fun j => [DIV.CFG.EN j, DIV.CFG.PAT j, DIV.CFG.LINE j, DIV.CFG.TXD j, DIV.CFG.RXB j, DIV.CFG.RXA j]⟩,
  ⟨0x60, 1, 1, fun _ => [DIV.POLICY.SW_TICK, DIV.POLICY.HYST, DIV.POLICY.HOLD, DIV.POLICY.AVG]⟩,
  ⟨0x80, 8, 4, fun j => [DIV.STAT.ACTIVE j, DIV.STAT.PEND j, DIV.STAT.DIFF j, DIV.STAT.SWITCHES j]⟩]
/-- The rows of page PWT: offset, count, stride, fields. -/
def PWT.rows : List RegRow := [
  ⟨0x40, 1, 1, fun _ => [PWT.SEL.BANK, PWT.SEL.PORT, PWT.SEL.INDEX]⟩,
  ⟨0x44, 1, 1, fun _ => [PWT.DATA.BIAS, PWT.DATA.ATT, PWT.DATA.DGAIN]⟩,
  ⟨0x48, 1, 1, fun _ => [PWT.COMMIT.PORTS]⟩,
  ⟨0x4c, 1, 1, fun _ => [PWT.PEND.PORTS]⟩,
  ⟨0x50, 1, 1, fun _ => [PWT.PROF_SEL.PORT, PWT.PROF_SEL.PROF]⟩,
  ⟨0x54, 1, 1, fun _ => [PWT.PROF_DATA.CODE]⟩,
  ⟨0x58, 1, 1, fun _ => [PWT.TXEN.REQ]⟩,
  ⟨0x5c, 1, 1, fun _ => [PWT.TXON.ON]⟩,
  ⟨0x60, 1, 1, fun _ => [PWT.TXPEND.PEND]⟩,
  ⟨0x64, 1, 1, fun _ => [PWT.TXREFUSED.SNR]⟩,
  ⟨0x100, 32, 4, fun j => [PWT.PORT_CFG.BIAS_EN j, PWT.PORT_CFG.BIAS_CH j, PWT.PORT_CFG.ATT_EN j, PWT.PORT_CFG.ATT_PAGE j, PWT.PORT_CFG.SCS j, PWT.PORT_CFG.ATT_CMD j, PWT.PORT_CFG.GRID j]⟩,
  ⟨0x180, 32, 4, fun j => [PWT.PORT_STAT.INDEX j]⟩]
/-- The rows of page REGL: offset, count, stride, fields. -/
def REGL.rows : List RegRow := [
  ⟨0x40, 1, 1, fun _ => [REGL.STATE.STATE, REGL.STATE.WRES, REGL.STATE.NRANGES, REGL.STATE.FORMAT]⟩,
  ⟨0x44, 1, 1, fun _ => [REGL.LOCK_ID.ID]⟩,
  ⟨0x48, 1, 1, fun _ => [REGL.EMIS.IN, REGL.EMIS.OUT]⟩,
  ⟨0x50, 1, 1, fun _ => [REGL.REFUSE.CAUSE, REGL.REFUSE.KIND, REGL.REFUSE.SLOT, REGL.REFUSE.RANGE]⟩,
  ⟨0x400, 64, 16, fun j => [REGL.RANGE_0.DIR j, REGL.RANGE_0.F_LO j]⟩,
  ⟨0x404, 64, 16, fun j => [REGL.RANGE_1.REQ_SYNC j, REGL.RANGE_1.F_HI j]⟩,
  ⟨0x408, 64, 16, fun j => [REGL.RANGE_2.P_MAX j, REGL.RANGE_2.G_MAX j]⟩,
  ⟨0x40c, 64, 16, fun j => [REGL.RANGE_3.NOISE j, REGL.RANGE_3.DUTY_DL j, REGL.RANGE_3.DUTY_UL j]⟩,
  ⟨0x800, 32, 4, fun j => [REGL.RX_GAIN.G_RX_MAX j]⟩,
  ⟨0x880, 32, 4, fun j => [REGL.TX_GAIN.CPL_OFS j, REGL.TX_GAIN.G_TX_MAX j]⟩]
/-- The rows of page BIA: offset, count, stride, fields. -/
def BIA.rows (i : Nat) : List RegRow := [
  ⟨0x40, 1, 1, fun _ => [BIA.SAFE_MASK.MASK i]⟩,
  ⟨0x44, 1, 1, fun _ => [BIA.SAFE_STAT.SAFE i]⟩,
  ⟨0x48, 1, 1, fun _ => [BIA.RESUME.RESUME i]⟩,
  ⟨0x4c, 1, 1, fun _ => [BIA.RB_STAT.FAULT i]⟩,
  ⟨0x50, 1, 1, fun _ => [BIA.NOTE_CH.CH i]⟩,
  ⟨0x54, 1, 1, fun _ => [BIA.SUPPLY.LOW i]⟩,
  ⟨0x100, 32, 32, fun j => [BIA.CFG.GEN i j, BIA.CFG.RB_EN i j, BIA.CFG.RB_ACT i j, BIA.CFG.STEP i j, BIA.CFG.RATE i j]⟩,
  ⟨0x104, 32, 32, fun j => [BIA.VAL.SPAN i j, BIA.VAL.CODE i j]⟩,
  ⟨0x108, 32, 32, fun j => [BIA.STAT.SPAN_NOW i j, BIA.STAT.BOUND i j, BIA.STAT.STATE i j, BIA.STAT.CODE_NOW i j]⟩,
  ⟨0x10c, 32, 32, fun j => [BIA.GEN.HI i j, BIA.GEN.LO i j]⟩,
  ⟨0x110, 32, 32, fun j => [BIA.WIN.CNT i j, BIA.WIN.TOL i j]⟩,
  ⟨0x114, 32, 32, fun j => [BIA.RB.MV i j, BIA.RB.CODE i j]⟩]
/-- The rows of page MON: offset, count, stride, fields. -/
def MON.rows : List RegRow := [
  ⟨0x40, 1, 1, fun _ => [MON.CTL.ALIGN, MON.CTL.PAIR_IN, MON.CTL.MODE]⟩,
  ⟨0x44, 1, 1, fun _ => [MON.SEQ_EN_LO.EN]⟩,
  ⟨0x48, 1, 1, fun _ => [MON.SEQ_EN_HI.EN_LOW, MON.SEQ_EN_HI.EN_FIXED, MON.SEQ_EN_HI.EN_HIGH]⟩,
  ⟨0x4c, 1, 1, fun _ => [MON.DIFF.PAIR]⟩,
  ⟨0x50, 1, 1, fun _ => [MON.Q_EN_LO.EN]⟩,
  ⟨0x54, 1, 1, fun _ => [MON.Q_EN_HI.EN_LOW, MON.Q_EN_HI.EN_HIGH]⟩,
  ⟨0x58, 1, 1, fun _ => [MON.Q_STAT.EMPTY, MON.Q_STAT.LEVEL, MON.Q_STAT.OVF]⟩,
  ⟨0x5c, 1, 1, fun _ => [MON.Q_DATA.ENTRY]⟩,
  ⟨0x60, 1, 1, fun _ => [MON.Q_CTL.FLUSH, MON.Q_CTL.THR]⟩,
  ⟨0x100, 64, 4, fun j => [MON.LAST.ENTRY j]⟩]
/-- The rows of page THM: offset, count, stride, fields. -/
def THM.rows : List RegRow := [
  ⟨0x40, 1, 1, fun _ => [THM.STAT.WARN, THM.STAT.ENF, THM.STAT.NVM_OK, THM.STAT.HOLD, THM.STAT.LEVEL]⟩,
  ⟨0x44, 1, 1, fun _ => [THM.REQ.REQ, THM.REQ.GRACE_LEFT]⟩,
  ⟨0x48, 1, 1, fun _ => [THM.CTL.GRACE]⟩,
  ⟨0x4c, 1, 1, fun _ => [THM.HOT.SENSOR, THM.HOT.TEMP]⟩,
  ⟨0x50, 3, 4, fun j => [THM.FAIL.FAIL j]⟩,
  ⟨0x100, 72, 4, fun j => [THM.TEMP.VALID j, THM.TEMP.FAILED j, THM.TEMP.CAUSE j, THM.TEMP.ISLAND j, THM.TEMP.TEMP j]⟩]
/-- The rows of page FLT: offset, count, stride, fields. -/
def FLT.rows : List RegRow := [
  ⟨0x40, 1, 1, fun _ => [FLT.BLOCK_STAT_LO.LINES]⟩,
  ⟨0x44, 1, 1, fun _ => [FLT.BLOCK_STAT_HI.LINES]⟩,
  ⟨0x48, 1, 1, fun _ => [FLT.SLOT_STAT_LO.LINES]⟩,
  ⟨0x4c, 1, 1, fun _ => [FLT.SLOT_STAT_HI.LINES]⟩,
  ⟨0x50, 1, 1, fun _ => [FLT.FIRST.VALID, FLT.FIRST.PAGE]⟩,
  ⟨0x54, 1, 1, fun _ => [FLT.SRC_SEL.PAGE, FLT.SRC_SEL.BIT]⟩,
  ⟨0x5c, 1, 1, fun _ => [FLT.SRC_DEP.DEP1_V, FLT.SRC_DEP.DEP1, FLT.SRC_DEP.DEP0_V, FLT.SRC_DEP.DEP0]⟩,
  ⟨0x60, 1, 1, fun _ => [FLT.INJ_KEY.KEY]⟩,
  ⟨0x64, 1, 1, fun _ => [FLT.INJ.EN, FLT.INJ.FTM, FLT.INJ.DENIED, FLT.INJ.CLOSE]⟩,
  ⟨0x68, 1, 1, fun _ => [FLT.SHADOW.COUNT]⟩,
  ⟨0x6c, 1, 1, fun _ => [FLT.ACCESS_NOTE.MASTER, FLT.ACCESS_NOTE.CAUSE, FLT.ACCESS_NOTE.PAGE, FLT.ACCESS_NOTE.OFFSET]⟩,
  ⟨0x70, 1, 1, fun _ => [FLT.TERM.SET, FLT.TERM.FORCED, FLT.TERM.PAGE, FLT.TERM.BIT]⟩]
/-- The rows of page APC: offset, count, stride, fields. -/
def APC.rows : List RegRow := [
  ⟨0x40, 1, 1, fun _ => [APC.CORE_STAT.WDR, APC.CORE_STAT.HALTED, APC.CORE_STAT.RUN]⟩,
  ⟨0x44, 1, 1, fun _ => [APC.PIN_CTL.PEND, APC.PIN_CTL.MASK]⟩,
  ⟨0x48, 4, 4, fun j => [APC.WDOG.EN j, APC.WDOG.RST j, APC.WDOG.MS j]⟩,
  ⟨0x58, 1, 1, fun _ => [APC.WDOG_KICK.KEY, APC.WDOG_KICK.CORES]⟩,
  ⟨0x5c, 1, 1, fun _ => [APC.MPU_NOTE.VALID, APC.MPU_NOTE.WRITE, APC.MPU_NOTE.EXEC, APC.MPU_NOTE.CORE]⟩,
  ⟨0x60, 1, 1, fun _ => [APC.MPU_ADDR.ADDR]⟩]
/-- The rows of page SEC: offset, count, stride, fields. -/
def SEC.rows : List RegRow := [
  ⟨0x40, 1, 1, fun _ => [SEC.STATE.PROV, SEC.STATE.PROV_DEAD, SEC.STATE.EPOCH, SEC.STATE.LOCK, SEC.STATE.ERASED, SEC.STATE.FTM, SEC.STATE.SCOPE, SEC.STATE.SLOTS]⟩,
  ⟨0x44, 1, 1, fun _ => [SEC.BOOT_STAT.DONE, SEC.BOOT_STAT.CORES, SEC.BOOT_STAT.COPY, SEC.BOOT_STAT.RESULT, SEC.BOOT_STAT.SVN]⟩,
  ⟨0x48, 1, 1, fun _ => [SEC.ALARM_STAT.SLEEP, SEC.ALARM_STAT.SRC]⟩,
  ⟨0x4c, 1, 1, fun _ => [SEC.ALARM_LVL.LVL]⟩,
  ⟨0x50, 1, 1, fun _ => [SEC.MBX_CMD.CMD, SEC.MBX_CMD.LEN]⟩,
  ⟨0x54, 1, 1, fun _ => [SEC.MBX_STAT.BUSY, SEC.MBX_STAT.DATA_WAIT, SEC.MBX_STAT.LAST, SEC.MBX_STAT.RESULT, SEC.MBX_STAT.OUT]⟩,
  ⟨0x58, 1, 1, fun _ => [SEC.MBX_ARG.ARG]⟩,
  ⟨0x5c, 1, 1, fun _ => [SEC.MBX_DATA.DATA]⟩,
  ⟨0x60, 1, 1, fun _ => [SEC.UID_LO.UID]⟩,
  ⟨0x64, 1, 1, fun _ => [SEC.UID_HI.UID]⟩,
  ⟨0x68, 1, 1, fun _ => [SEC.DBG.FAILS]⟩,
  ⟨0x6c, 1, 1, fun _ => [SEC.TRAP_NOTE.VALID, SEC.TRAP_NOTE.PAGE, SEC.TRAP_NOTE.BIT]⟩,
  ⟨0x70, 1, 1, fun _ => [SEC.TRAP_CFG.HALT]⟩,
  ⟨0x80, 16, 8, fun j => [SEC.KEY_INFO.TYPE j]⟩,
  ⟨0x84, 16, 8, fun j => [SEC.KEY_ID.ID j]⟩]
/-- The rows of page NVM: offset, count, stride, fields. -/
def NVM.rows : List RegRow := [
  ⟨0x40, 1, 1, fun _ => [NVM.STAT.BUSY, NVM.STAT.WINDOW, NVM.STAT.REGION]⟩,
  ⟨0x44, 1, 1, fun _ => [NVM.RESULT.CAUSE, NVM.RESULT.REGION]⟩,
  ⟨0x48, 1, 1, fun _ => [NVM.ECC.UE_CNT, NVM.ECC.CE_CNT]⟩,
  ⟨0x50, 1, 1, fun _ => [NVM.CAL_SEL.INDEX]⟩,
  ⟨0x54, 1, 1, fun _ => [NVM.CAL_DATA.VALUE]⟩,
  ⟨0x58, 1, 1, fun _ => [NVM.CAL_ORIGIN.ORIGIN]⟩,
  ⟨0x5c, 1, 1, fun _ => [NVM.CAL_CTL.PEND, NVM.CAL_CTL.DIRTY, NVM.CAL_CTL.KEY, NVM.CAL_CTL.CHECK_EN, NVM.CAL_CTL.REVERT, NVM.CAL_CTL.WRITE]⟩,
  ⟨0x60, 1, 1, fun _ => [NVM.CAL_CRC.CRC]⟩,
  ⟨0x64, 1, 1, fun _ => [NVM.CAL_CRC_EXP.CRC]⟩,
  ⟨0x70, 1, 1, fun _ => [NVM.BPT_CTL.PEND, NVM.BPT_CTL.KEY, NVM.BPT_CTL.SAVE]⟩,
  ⟨0x74, 1, 1, fun _ => [NVM.HDR_CTL.PEND, NVM.HDR_CTL.KEY, NVM.HDR_CTL.COPY, NVM.HDR_CTL.WRITE]⟩,
  ⟨0x78, 4, 4, fun j => [NVM.HDR_DELEG.MASK j]⟩,
  ⟨0x88, 1, 1, fun _ => [NVM.HDR_SVN.MIN_SVN]⟩,
  ⟨0x90, 1, 1, fun _ => [NVM.OP_SEC_LO.SEC]⟩,
  ⟨0x94, 1, 1, fun _ => [NVM.OP_SEC_HI.SEC]⟩,
  ⟨0x98, 1, 1, fun _ => [NVM.PCYC.COUNT]⟩]
/-- The rows of page EVT: offset, count, stride, fields. -/
def EVT.rows : List RegRow := [
  ⟨0x40, 1, 1, fun _ => [EVT.CTL.FLUSH]⟩,
  ⟨0x44, 1, 1, fun _ => [EVT.LAST.SEQ]⟩,
  ⟨0x48, 1, 1, fun _ => [EVT.OLDEST.SEQ]⟩,
  ⟨0x4c, 1, 1, fun _ => [EVT.PERM.COUNT]⟩,
  ⟨0x50, 1, 1, fun _ => [EVT.BUF.FLUSHING, EVT.BUF.SCAN, EVT.BUF.PRIV, EVT.BUF.LEVEL]⟩,
  ⟨0x54, 1, 1, fun _ => [EVT.LOSS.LOST, EVT.LOSS.DROPPED]⟩,
  ⟨0x58, 1, 1, fun _ => [EVT.CURSOR.SEQ]⟩,
  ⟨0x5c, 1, 1, fun _ => [EVT.WIN_STAT.READY, EVT.WIN_STAT.SRC, EVT.WIN_STAT.MATCH, EVT.WIN_STAT.CRC_OK, EVT.WIN_STAT.LOADS]⟩,
  ⟨0x60, 1, 1, fun _ => [EVT.RL_SEL.CODE]⟩,
  ⟨0x80, 16, 4, fun j => [EVT.WIN.DATA j]⟩]

/-- The rows of the window registers, at their storage addresses. -/
def windowRows : List RegRow := [
  ⟨0x120000 + 8, 512, 0x80, fun s => [CAN.SLOT_INFO.WARM s, CAN.SLOT_INFO.WARM_PEND s, CAN.SLOT_INFO.DIVERGED s, CAN.SLOT_INFO.ALT_ACTIVE s, CAN.SLOT_INFO.DEPTH s]⟩,
  ⟨0x120000 + 0xc, 512, 0x80, fun s => [OBS.SUM0.WORST_LG s, OBS.SUM0.WORST_BIN s]⟩,
  ⟨0x120000 + 0x10, 512, 0x80, fun s => [OBS.SUM1.IPHYS_MIN s, OBS.SUM1.HIST s, OBS.SUM1.VALID_BINS s]⟩,
  ⟨0x120000, 512, 0x80, fun s => [GOV.SLOT_GOV.COLD s, GOV.SLOT_GOV.WARMR s, GOV.SLOT_GOV.URG s, GOV.SLOT_GOV.NOTCHES s, GOV.SLOT_GOV.BROAD s, GOV.SLOT_GOV.CAP s]⟩,
  ⟨0x100000, 544, 0x40, fun l => [CLV.LOOP_CTL.DEADLINE l, CLV.LOOP_CTL.MAT_COMMIT l, CLV.LOOP_CTL.MODE l]⟩,
  ⟨0x100000 + 4, 544, 0x40, fun l => [CLV.LOOP_STAT.MAT_PEND l, CLV.LOOP_STAT.TREF l, CLV.LOOP_STAT.CREF l, CLV.LOOP_STAT.MISS l, CLV.LOOP_STAT.HELD l, CLV.LOOP_STAT.SAT l, CLV.LOOP_STAT.OBSV l, CLV.LOOP_STAT.MODE_NOW l]⟩,
  ⟨0x100000 + 8, 544, 0x40, fun l => [CLV.LOOP_MAN0.VALUE l]⟩,
  ⟨0x100000 + 0xc, 544, 0x40, fun l => [CLV.LOOP_MAN1.VALUE l]⟩,
  ⟨0x100000 + 0x10, 544, 0x40, fun l => [CLV.LOOP_OUT0.VALUE l]⟩,
  ⟨0x100000 + 0x14, 544, 0x40, fun l => [CLV.LOOP_OUT1.VALUE l]⟩,
  ⟨0x100000 + 0x18, 544, 0x40, fun l => [CLV.LOOP_REF0.VALUE l]⟩,
  ⟨0x100000 + 0x1c, 544, 0x40, fun l => [CLV.LOOP_REF1.VALUE l]⟩,
  ⟨0x110000, 16, 0x200, fun p => [TDD.PAT_CFG.VALID p, TDD.PAT_CFG.REQ_SYNC p, TDD.PAT_CFG.SRC p, TDD.PAT_CFG.PERIOD p, TDD.PAT_CFG.PHASE p]⟩,
  ⟨0x110000 + 0xc, 16, 0x200, fun p => [TDD.PAT_CTL.PEND p, TDD.PAT_CTL.REFUSE p, TDD.PAT_CTL.COMMIT p]⟩,
  ⟨0x110000 + 4, 16, 0x200, fun p => [TDD.SYNC_CFG.KIND p, TDD.SYNC_CFG.SCS p, TDD.SYNC_CFG.SSB_PER p, TDD.SYNC_CFG.PIN p, TDD.SYNC_CFG.MISS_MAX p, TDD.SYNC_CFG.CELL_ID p, TDD.SYNC_CFG.SYNC_SLOT p]⟩,
  ⟨0x110000 + 8, 16, 0x200, fun p => [TDD.SYNC_FREQ.FREQ p]⟩,
  ⟨0x110000 + 0x10, 16, 0x200, fun p => [TDD.SYNC_STAT.STATE p, TDD.SYNC_STAT.MISSES p, TDD.SYNC_STAT.CELL p, TDD.SYNC_STAT.ERR p]⟩,
  ⟨0x120000 + 4, 512, 0x80, fun s => [GOV.PROT_STAT.LATCHED s, GOV.PROT_STAT.OSC s, GOV.PROT_STAT.MASK s, GOV.PROT_STAT.DUTY s, GOV.PROT_STAT.BAND s, GOV.PROT_STAT.MUTES s, GOV.PROT_STAT.PCLAMP s, GOV.PROT_STAT.NRED s]⟩,
  ⟨0x150000, 4096, 4, fun k => [FLT.SRC_CFG.IMPL k, FLT.SRC_CFG.FIXED k, FLT.SRC_CFG.SEC k, FLT.SRC_CFG.KIND k, FLT.SRC_CFG.MINCLASS k, FLT.SRC_CFG.CLASS k, FLT.SRC_CFG.BSAFE k, FLT.SRC_CFG.ERRN k, FLT.SRC_CFG.CRST k, FLT.SRC_CFG.BRST k, FLT.SRC_CFG.TRAP k, FLT.SRC_CFG.IRQ k]⟩,
  ⟨0x160000, 4096, 4, fun k => [IRQ.ROUTE.M4 k, IRQ.ROUTE.PINS k]⟩,
  ⟨0x200000, 65536, 8, fun c => [EVT.RL_CFG.DEPTH c, EVT.RL_CFG.REFILL c]⟩,
  ⟨0x200000 + 4, 65536, 8, fun c => [EVT.RL_STAT.TOKENS c, EVT.RL_STAT.PENDING c]⟩]

/-- The rows of page `p`, header included. -/
def pageRows (p : Nat) : List RegRow :=
  HDR.rows p ++ (
    if p = 0x0 then IDN.rows
    else if p = 0x1 then OWN.rows
    else if p = 0x2 then PWR.rows
    else if p = 0x3 then CLK.rows
    else if p = 0x4 then FLT.rows
    else if p = 0x5 then IRQ.rows
    else if p = 0x6 then EVT.rows
    else if p = 0x7 then NVM.rows
    else if p = 0x8 then SEC.rows
    else if p = 0x9 then THM.rows
    else if p = 0xa then MON.rows
    else if 0xb ≤ p ∧ p < 0xd then BIA.rows (p - 0xb)
    else if p = 0xd then SYN.rows
    else if p = 0xe then TDD.rows
    else if p = 0xf then REGL.rows
    else if 0x10 ≤ p ∧ p < 0x18 then CNV.rows (p - 0x10)
    else if 0x18 ≤ p ∧ p < 0x20 then FWD.rows (p - 0x18)
    else if p = 0x20 then CAN.rows
    else if p = 0x21 then OBS.rows
    else if p = 0x22 then CLV.rows
    else if p = 0x23 then GOV.rows
    else if p = 0x24 then CAP.rows
    else if 0x25 ≤ p ∧ p < 0x29 then FEC.rows (p - 0x25)
    else if p = 0x29 then DIV.rows
    else if p = 0x2a then PWT.rows
    else if p = 0x2b then LNK.rows
    else if p = 0x2c then PCI.rows
    else if p = 0x2d then HSI.rows
    else if p = 0x2e then APC.rows
    else if 0x30 ≤ p ∧ p < 0x40 then YCL.rows (p - 0x30)
    else [])

/-- The first row that holds an offset gives the fields there. -/
def rowFields : List RegRow → Nat → Option (List Fld)
  | [], _ => none
  | r :: t, o => match r.idx o with
    | some i => some (r.flds i)
    | none => rowFields t o

/-- The fields of the register at a storage address; `none` at a reserved offset. -/
def regFields (a : Nat) : Option (List Fld) :=
  if a < 0x80000 then
    let p := a / 0x1000
    if p = 0x2F then none
    else if 0x40 ≤ p then
      let o := a % 0x1000
      if 0x100 ≤ o ∧ o < 0x300 then rowFields (SLP.rows (8 * (p - 0x40) + (o - 0x100) / 0x40)) (o % 0x40)
      else rowFields (HDR.rows p) o
    else rowFields (pageRows p) (a % 0x1000)
  else rowFields windowRows a

end Sys2Proof.Machine
end

