-- ==== Sys2Proof/Machine/State.lean ====
section
/-! DEFINITION. The state of the block as plain data, and its value right after reset. -/
namespace Sys2Proof.Machine
open Sys2Proof

/-- No fault stops this block: an error is a notice, a status bit, a reaction or a record, and the block goes on (R340,
R344). The type has no constructor, so no command ends in a fault. -/
inductive Fault where
  deriving DecidableEq, Repr

/-- Why a command has no meaning. -/
inductive Refusal where
  /-- The command is not modelled yet; raised by an arm of exec, by mnemonic. Safe. -/
  | notModelled (mnemonic : String)
  deriving DecidableEq, Repr

/-- The board's wiring and the levels it drives: straps (R35), RESET_N and PFAIL_N, and what is present. (DESIGN CHOICE: log 5) -/
structure Board where
  bootSrc : Nat := 0
  mprio : Nat := 0
  biasSafe : Nat := 0
  i2cAddr : Nat := 0
  testMode : Bool := false
  resetN : Bool := true
  pfailN : Bool := true
  /-- REFCLK has edges, and its last measured deviation from 245.76 MHz, 16 bits, 0.01 % per LSB (R58). -/
  refclk : Bool := true
  refDev : Nat := 0
  /-- Monitored rails below their threshold, as bits: VDD_CORE, VIO18, VIO33, VNVM18 (R52). -/
  railsLow : Nat := 0
  /-- Supervised rails that are low, as bits: VDD_ENG0 to 3, VCNV09, VCNV12, VCNV18, VSD09, VSD12, VBIAS_P, VBIAS_N (R445). -/
  supLow : Nat := 0
  /-- The level of PERST_N. -/
  perstN : Bool := true
  deriving DecidableEq, Repr

/-- Straps as sampled at the last reset release (R34). (DESIGN CHOICE: log 5) -/
structure Straps where
  bootSrc : Nat := 0
  mprio : Nat := 0
  biasSafe : Nat := 0
  i2cAddr : Nat := 0
  testMode : Bool := false
  deriving DecidableEq, Repr

/-- The phase of the power-fail sequence (R76). -/
inductive PfPhase where
  | idle | running | held
  deriving DecidableEq, Repr

/-- Resets in force and the start sequence (R52 to R57, R77, R93). -/
structure Rst where
  aon : Bool := false
  por : Bool := false
  pin : Bool := false
  fault : Bool := false
  pfail : Bool := false
  wake : Bool := false
  /-- The NVM load of the start sequence has ended (R57). -/
  loaded : Bool := false
  /-- A fault chip reset waits for an NVM word group (R344). -/
  faultWaits : Bool := false
  /-- Page of the source whose chip reset waits. -/
  waitPage : Nat := 0
  pf : PfPhase := .idle
  /-- A chip reset came in the middle of the power-fail sequence and waits for its end (R446, R336). -/
  pinInPf : Bool := false
  /-- Instants at which the power-on, pin, fault and power-fail resets in force began (R53, R77). -/
  porAt : Nat := 0
  pinAt : Nat := 0
  faultAt : Nat := 0
  pfailAt : Nat := 0
  deriving DecidableEq, Repr

/-- A power-state transition (R86, R87). -/
structure PwrTr where
  origin : Nat := 0
  target : Nat := 0
  at_ : Nat := 0
  phase : Nat := 0
  deriving DecidableEq, Repr

/-- I00, which every reset but the AON power-on reset keeps. -/
structure Aon where
  /-- Operating seconds at the instant `opFrom` (R404). -/
  opBase : Nat := 0
  /-- The instant from which it counts on, and whether the counters have still to be loaded (R404). -/
  opFrom : Nat := 0
  loadDue : Bool := true
  /-- A chip power-on reset has still to be counted (R404). -/
  pcycDue : Bool := true
  /-- FE_CTL and bias hold latches closed (R40, R92). -/
  padsHeld : Bool := false
  /-- Held levels of the FE_CTL lines: bit, or none for high impedance. -/
  feHeld : Tab Nat := []
  /-- Held bias codes by channel, with their span. -/
  biasHeld : Tab Nat := []
  /-- In SLEEP a rail that the board must keep has left its range: the FE_CTL levels, or the held bias outputs, are lost until a power-on
  reset (R43). -/
  feLost : Bool := false
  biasLost : Bool := false
  /-- Likewise VIO33: no I²C address wakes the part (R43). -/
  i2cLost : Bool := false
  /-- I2C_SDA was driven low for the acknowledge of the last address byte in SLEEP or in a SLEEP entry (R44, R91). -/
  wakeAck : Bool := false
  /-- The instant of that acknowledge. -/
  ackAt : Nat := 0
  /-- Wake events latched during SLEEP entry (R91): bit 0 REPLAY, bit 1 RUN_REQ. -/
  wakeLatch : Nat := 0
  /-- The part is in SLEEP (R86). -/
  asleep : Bool := false
  sleepAt : Nat := 0
  flushCut : Bool := false
  fromState : Nat := 0
  /-- A wake runs, and the instant from which t_WAKE counts (R93). -/
  waking : Bool := false
  wakeAt : Nat := 0
  /-- A tamper alarm latched in SLEEP (R382), by source bit. -/
  sleepAlarm : Nat := 0
  /-- Tamper sources whose condition holds, and GLITCH where it came in a chip reset (R377). -/
  tamperOn : Nat := 0
  /-- The chip reset in progress was raised by THM_TRIP (R335). -/
  trip : Bool := false
  deriving DecidableEq, Repr

/-- One engine rail's arbiter (R72 to R74). -/
structure Rail where
  rising : Bool := true
  /-- The start-up confirmation of R72 has still to come; its 5 ms have passed. -/
  startup : Bool := true
  late : Bool := false
  /-- A commanded rise runs, from voltage `prev` and since `at_`. -/
  raised : Bool := false
  prev : Nat := 0x1E
  at_ : Nat := 0
  deriving DecidableEq, Repr

/-- The profile sequencer (R22 to R28). -/
structure Prof where
  target : Nat := 1
  /-- 0 idle; 1 raising; 2 waiting for the commit; 3 lowering after the commit; 4 aborting. -/
  phase : Nat := 0
  /-- Engine rails whose rise is still to be confirmed, as bits. -/
  rails : Nat := 0
  /-- The last step before the commit ended at this instant. -/
  ready : Nat := 0
  /-- Instant of the accepted write, and whether the raising steps, which run from 20 µs after it, have begun (R24). -/
  at_ : Nat := 0
  begun : Bool := false
  deriving DecidableEq, Repr

/-- The election, the heartbeat and a handover offer (R116 to R124). -/
structure Own where
  /-- Nonces of the claims gathered in the window, by master; 0 where none. -/
  claims : Tab Nat := []
  windowAt : Nat := 0
  beatAt : Nat := 0
  offerAt : Nat := 0
  deriving DecidableEq, Repr

/-- Host ports: SPI status byte, I2C address (R112, R113), link (R109). -/
structure Ports where
  /-- Outcome of each master's last write: bit 0 DROPPED, bit 1 OFF, bit 2 VALUE. -/
  lastWr : Tab Nat := []
  i2cSet : Nat := 0
  deriving DecidableEq, Repr

/-- An event record (R407), as fields; `sect` numbers are as the record's table gives. -/
structure Rec where
  /-- Sequence number, once assigned. -/
  seq : Option Nat := none
  opSec : Nat := 0
  tick : Nat := 0
  pcyc : Nat := 0
  forced : Bool := false
  conseq : Bool := false
  flushed : Bool := false
  loss : Bool := false
  code : Nat := 0
  master : Nat := 7
  slot : Option Nat := none
  suppr : Nat := 0
  cls : Nat := 0xFF
  epoch : Nat := 0
  ptSec : Nat := 0
  ptNs : Nat := 0
  payload : List Nat := []
  priv : Bool := false
  /-- Stored with a word group of two bits in error: not valid (R397, R421). -/
  bad : Bool := false
  deriving DecidableEq, Repr

/-- The event recorder (R407 to R422). -/
structure Evt where
  /-- Records in the volatile buffer, oldest first. -/
  buf : List Rec := []
  /-- The two areas, by position: 0 to 1,023 permanent, then 32,768 circulating. -/
  store : Tab (Option Rec) := []
  /-- The log scan of R410 still has to end. -/
  scanDue : Bool := true
  flushing : Bool := false
  /-- Instants up to which the token buckets are counted, by code (R415). -/
  refillAt : Tab Nat := []
  /-- A record was dropped since the last one that was numbered (R412). -/
  lossFlag : Bool := false
  /-- The window is being latched (R419). -/
  latching : Bool := false
  deriving DecidableEq, Repr

/-- Teasel's own state (R340 to R354). -/
structure Flt where
  /-- Condition sources whose condition holds, by key. -/
  conds : List Nat := []
  /-- Pages in block reset or within 10 µs after one: the instant at which the shadow ends, 0 while the reset runs. -/
  shadows : Tab (Option Nat) := []
  /-- First injection key word taken at this instant. -/
  keyAt : Option Nat := none
  deriving DecidableEq, Repr

/-- The live copy of a slot's shadow registers (R156). -/
structure Live where
  rxCentre : Nat := 0x0BEBC200
  txCentre : Nat := 0x0BEBC200
  firSrc : Nat := 0
  firLen : Nat := 64
  deriving DecidableEq, Repr

/-- An extent that the leak estimate uses (R184, R193): aggressor, partition, SHIFT, and the entries that are not zero, by number. -/
structure LeakXt where
  agg : Nat := 0
  part : Nat := 0
  shift : Nat := 0
  words : List (Nat × Nat) := []
  deriving DecidableEq, Repr

/-- A slot's set before a commit, which its crossfade blends out (R171): live descriptor, live taps by number, the cuts that they carry,
and the extents of the leak estimate. -/
structure OldSet where
  live : Live := {}
  fir : List (Nat × Nat) := []
  cut : List (Nat × Int) := []
  leak : List LeakXt := []
  deriving DecidableEq, Repr

/-- What a slot holds beyond its registers (R163 to R175). -/
structure Slot where
  /-- Output weight in 64ths of full amplitude before the ramps named next, and the instants of the first samples of a ramp-up and of a
  ramp to zero (R167, R173, R174). -/
  weight : Nat := 0
  upAt : Option Nat := none
  downAt : Option Nat := none
  /-- A ramp-up is armed for the next boundary (R173). -/
  resume : Bool := false
  /-- The slot starts or resumes under the cap of R88: applied gain at muting, in 0.05 dB; none for a cold start. -/
  muteGain : Option Int := none
  /-- Instants of the accepted enable, commit and disable. -/
  acceptAt : Nat := 0
  commitAt : Nat := 0
  offAt : Nat := 0
  /-- A disable came during the checks (R174). -/
  offInCheck : Bool := false
  /-- The enable checks that run: RESULT to be reported, the master that asked, cause and range of a regulatory refusal, and the
  extents reserved for a request that will be refused (R166). -/
  checkRes : Nat := 0
  checkBy : Nat := 7
  checkRegl : Nat × Nat := (0, 0)
  reserve : Nat := 0
  /-- A crossfade runs (R171), and it is that of the accepted slot commit; a profile crossfade runs (R25). -/
  xfade : Bool := false
  xcommit : Bool := false
  xfadeProf : Bool := false
  /-- The enable waits for a converter channel to power up (R19). -/
  waitsUp : Bool := false
  /-- A solver result waits in the result buffer (R170). -/
  result : Bool := false
  /-- Block reset of the group or page covers the slot (R447). -/
  inReset : Bool := false
  /-- End of the drain in progress, where it is known (R174), and of the crossfade in progress (R25, R171). -/
  endAt : Option Nat := none
  xEnd : Nat := 0
  /-- The slot's input is invalid, and its samples are counted up to this instant (R69). -/
  badAt : Option Nat := none
  /-- The set that the commit's crossfade blends out (R171). -/
  old : Option OldSet := none
  /-- Amplitude, in units of 10^−25, from which the change of applied gain in progress ramps, and the instant of its first sample (R172). -/
  gainFrom : Nat := 0
  gainAt : Nat := 0
  /-- Digital gain, in 0.05 dB, that makes up for changes of the input's attenuator since the enable (R133). -/
  dsaGain : Int := 0
  /-- Until an instant, the last at which the weight left its ramps, the output had these: weight, ramp-up and ramp-down, and the applied
  gain, in 0.05 dB (R172, R179). -/
  wasTill : Nat := 0
  wasRamp : Nat × Option Nat × Option Nat := (0, none, none)
  wasGain : Int := -2048
  deriving DecidableEq, Repr

/-- A published group of words and what waits to be published with it (R103). -/
structure Snap where
  lastAt : Option Nat := none
  deriving DecidableEq, Repr

/-- A bias channel beyond its registers (R307 to R318). -/
structure BiasCh where
  /-- Stored power-up VAL, CFG and WIN words (R313); as shipped until a load (R402). -/
  valP : Nat := 0x38000
  cfgP : Nat := 0x0803F00A
  winP : Nat := 0x40032
  /-- Span the channel moves to, and the phase of a range change: 0 none; 1 moving to the crossover voltage; 2 holding;
  3 moving to the target (R309). -/
  spanTo : Nat := 3
  range : Nat := 0
  /-- The generator moves up; the sawtooth returns at the next interval; the noise register (R311). -/
  up : Bool := true
  saw : Bool := false
  lfsr : Nat := 1
  /-- Consecutive counted read-backs outside the window, and the instant of the last change of CODE_NOW (R316). -/
  miss : Nat := 0
  changedAt : Nat := 0
  /-- The output has reached the crossover voltage at this instant, and is held for its switch (R309). -/
  heldAt : Nat := 0
  /-- A bias-safe reaction came while HELD (R315). -/
  safeDue : Bool := false
  /-- A waveform stopped when the channel was bound, until CFG is written again (R312). -/
  stopped : Bool := false
  /-- The instant at which the last interval of RATE ended, and STEP and RATE of the interval in progress where CFG has been written in it
  (R308, R318). -/
  tickAt : Nat := 0
  hold : Option (Nat × Nat) := none
  deriving DecidableEq, Repr

/-- The monitor converter beyond its registers (R320 to R323). -/
structure Mon where
  /-- Mode in force on core 0 and on core 1, pass counts and next inputs of the two cores. -/
  mode : Nat := 0
  mode1 : Nat := 0
  pass : Tab Nat := []
  next : Tab Nat := []
  /-- Results queued, oldest first. -/
  queue : List Nat := []
  /-- Next channel of each bias group's multiplexer (R316). -/
  mux : Tab Nat := []
  /-- Results of PAIR mode since the last pass count, by core (R322). -/
  pair : Tab Nat := []
  /-- Instant of each core's last conversion (R321). -/
  convAt : Tab Nat := []
  deriving DecidableEq, Repr

/-- The one-time-programmable memory (R360, R380). -/
structure Otp where
  uidLo : Nat := 0
  uidHi : Nat := 0
  epoch : Nat := 0
  provDead : Bool := false
  /-- Root public key, bytes, and the device secret (R365, R374). -/
  rootKey : List Nat := []
  secret : Nat := 0
  deriving DecidableEq, Repr

/-- A key slot (R375): its type, 0 for EMPTY, its identifier and its contents. -/
structure KeySlot where
  typ : Nat := 0
  id : Nat := 0
  body : List Nat := []
  /-- In the key region: the wrapping key under which the slot is wrapped (R374). -/
  kw : List Nat := []
  deriving DecidableEq, Repr

/-- A slot's entry of a coupling snapshot (R405): key fields, SHIFT of the aggressors, and 24-bit coefficients in list order. -/
structure SnapSlot where
  slot : Nat := 0
  rx : Nat := 0
  rate : Nat := 0
  rxc : Nat := 0
  tx : Nat := 0
  reach : Nat := 0
  cfg : Nat := 0
  shift : List Nat := []
  altActive : Bool := false
  coeff : List Nat := []
  deriving DecidableEq, Repr

/-- A coupling snapshot (R405). -/
structure SnapRec where
  site : Nat := 0
  opSec : Nat := 0
  slots : List SnapSlot := []
  deriving DecidableEq, Repr

/-- A region write that is queued or running (R396): its region, by the region table's code, and what it commits. -/
structure NvmReq where
  region : Nat := 0
  /-- Words: the staged calibration set, the bias power-up table, or boot header and counter words by number. -/
  data : Tab Nat := []
  /-- Bytes of a lock image. -/
  bytes : List Nat := []
  /-- Key slots and stored alarm levels. -/
  keys : Tab KeySlot := []
  level : Nat := 0
  /-- The key package has ALARMS set (R375). -/
  alarms : Bool := false
  snap : Option SnapRec := none
  /-- Tansy asked for it (R376, R369, R303). -/
  tansy : Bool := false
  deriving DecidableEq, Repr

/-- What a record of a region of two copies holds; the fields of other regions stay at their defaults (R392, R395). -/
structure NvmImage where
  copy : Nat := 0
  minSvn : Nat := 0
  deleg : Tab Nat := []
  cal : Tab Nat := []
  calUser : List Nat := []
  bpt : Tab Nat := []
  opSec : Nat := 0
  pcyc : Nat := 0
  keys : Tab KeySlot := []
  alarmLvl : Nat := 0xE9B
  snap : Option SnapRec := none
  deriving DecidableEq, Repr

/-- The non-volatile store (R392 to R406) and the NVM controller's queue. -/
structure Nvm where
  /-- Boot header: preferred copy, MIN_SVN and, by word, the delegation mask where it differs from the shipped one (R403). -/
  copy : Nat := 0
  minSvn : Nat := 0
  deleg : Tab Nat := []
  /-- Calibration set, and the entries of origin USER (R398, R399). -/
  cal : Tab Nat := []
  calUser : List Nat := []
  /-- Bias power-up table: words 0 to 3 of channel c at 4 c, where they differ from the shipped table (R402). -/
  bpt : Tab Nat := []
  /-- Operating-time and power-cycle counters as stored (R404). -/
  opSec : Nat := 0
  pcyc : Nat := 0
  /-- The 360 s boundary of operating time last met (R404). -/
  opAt : Nat := 0
  /-- Regulatory lock image, bytes; empty while the region is blank (R301). -/
  lock : List Nat := []
  /-- Key region: slots, and the stored alarm levels (R375, R378). -/
  keys : Tab KeySlot := []
  alarmLvl : Nat := 0xE9B
  /-- The key region has still to be overwritten with zeros (R380). -/
  zeroDue : Bool := false
  /-- Per region of two copies: the generation of its valid record, counted from the shipped one, and the valid record of the other copy
  (R395, R397). -/
  gen : Tab Nat := []
  old : Tab (Option NvmImage) := []
  /-- Requests in order, the first of them running; at most four wait (R396). -/
  queue : List NvmReq := []
  /-- Staged calibration set in I05 (R400). -/
  staged : Tab Nat := []
  /-- The calibration set that the part runs on (R401), and whether the stored one is valid (R397). -/
  calLive : Tab Nat := []
  calBad : Bool := false
  /-- The coupling snapshot of highest generation (R405). -/
  snap : Option SnapRec := none
  deriving DecidableEq, Repr

/-- One extent of a slot's list, in list order: group, aggressor, partition, extent number (R194, R199). -/
structure Xt where
  alt : Bool := false
  agg : Nat := 0
  part : Nat := 0
  ext : Nat := 0
  park : Bool := false
  deriving DecidableEq, Repr

/-- A job descriptor (R201). -/
structure Job where
  typ : Nat := 0
  cls : Nat := 0
  prof : Nat := 0
  cov : Bool := false
  cold : Bool := false
  alt : Bool := false
  slot : Nat := 0
  sgen : Nat := 0
  pgen : Nat := 0
  seq : Nat := 0
  issue : Nat := 0
  block : Nat := 0
  nblk : Nat := 0
  exts : Nat := 0
  first : Nat := 0
  stateAt : Nat := 0
  resultAt : Nat := 0
  p0 : Nat := 0
  p1 : Nat := 0
  p2 : Nat := 0
  p3 : Nat := 0
  steals : Nat := 0
  deriving DecidableEq, Repr

/-- A job that an engine holds, and the instant at which it started (R206, R208). -/
structure Run where
  job : Job := {}
  at_ : Nat := 0
  deriving DecidableEq, Repr

/-- A slot's canceller beyond its registers (R184 to R215). -/
structure CanSlot where
  /-- MODE in force (R190). -/
  mode : Nat := 1
  /-- Extent counts and ALT of the layout in force (R190, R198). -/
  lay : List Nat := []
  layAlt : Bool := false
  xts : List Xt := []
  /-- Extents taken for a growth that waits to be applied, and the instant of the resize's acceptance (R198). -/
  add : List Xt := []
  resizeAt : Option Nat := none
  /-- The resize was applied at a commit point and waits for the end of its crossfade. -/
  resized : Bool := false
  /-- SHIFT of each aggressor, of the shadow set and of the live one (R193). -/
  shift : List Nat := [0, 0, 0, 0]
  shiftLive : List Nat := [0, 0, 0, 0]
  /-- The bank bit (R194): the physical bank that is live. -/
  bank : Bool := false
  /-- Slot generation (R201). -/
  sgen : Nat := 0
  /-- Period of the last ADAPT issue (R202). -/
  lastAdapt : Option Nat := none
  /-- An ADAPT result waits for its commit since this instant (R206). -/
  adaptAt : Option Nat := none
  /-- The snapshot entry of a warm load, from the enable to its commit; the load ended at this instant and waits for its commit (R214). -/
  warm : Option SnapSlot := none
  warmAt : Option Nat := none
  /-- Blocks over which the references' covariance has been tracked (R209). -/
  covBlocks : Nat := 0
  /-- Consecutive divergent windows (R211), and a zeroed shadow that waits for its commit. -/
  divWin : Nat := 0
  zeroDue : Bool := false
  /-- The other group has been active (R192), and an exchange of groups waits for its commit point. -/
  altSeen : Bool := false
  swapDue : Bool := false
  /-- Extents to be parked or unparked at the next commit point (R199). -/
  parkDue : List Nat := []
  unparkDue : List Nat := []
  deriving DecidableEq, Repr

/-- The canceller pool, the deques and the engines (R193 to R208). -/
structure Can where
  /-- Entries of the two physical banks: bank b's entry i at 2,097,152 b + i. -/
  pool : Tab Nat := []
  /-- Extents with a double-bit error, and of these the ones already retired (R196). -/
  bad : List Nat := []
  retired : List Nat := []
  /-- Extents that are being zeroed, by slot (R196). -/
  zeroing : Tab (List Nat) := []
  /-- Queued jobs by global engine, the oldest (top) first (R203). -/
  deques : Tab (List Job) := []
  /-- Jobs that engines hold. -/
  run : Tab (Option Run) := []
  /-- Until when an engine waits after a failed steal (R204). -/
  retry : Tab Nat := []
  /-- Sequence numbers of the held ADAPT jobs that an exit from STANDBY to QUIET freed (R87). -/
  freed : List Nat := []
  /-- Launcher sequence number and profile generation (R201). -/
  seq : Nat := 0
  pgen : Nat := 0
  /-- Count of the common timebase's periods, and the start of the last one counted (R201). -/
  period : Nat := 0
  periodAt : Nat := 0
  /-- Jobs to be issued at the next period: 8 × slot + type, ISOLATION as type 5 (R200, R203). -/
  due : List Nat := []
  /-- Clusters that are disabled or throttled, and those of them whose hand-off is due (R207). -/
  clOff : List Nat := List.range 16
  handDue : List Nat := []
  /-- Partitions parked or to be parked, as slot, aggressor and partition, the latest first (R199). -/
  parkLog : List (Nat × Nat × Nat) := []
  /-- Slots whose warm load waits or runs, in order of acceptance (R214). -/
  warmQ : List Nat := []
  /-- OBS_ALIGN results exist since the last channel change, by transmit channel; and the number of the latest result (R186). -/
  aligned : List Nat := []
  alignRes : Tab Nat := []
  /-- Instant of the last OBS_ALIGN round and of the last automatic snapshot (R200, R215). -/
  alignAt : Nat := 0
  autoAt : Nat := 0
  deriving DecidableEq, Repr

/-- A pattern in its live form (R267, R268): the words of PAT_CFG, SYNC_CFG and SYNC_FREQ, and the sixteen edge words. -/
structure PatLive where
  cfg : Nat := 0x07000000
  sync : Nat := 0x14500000
  freq : Nat := 0x0BEBC200
  edges : List Nat := []
  deriving DecidableEq, Repr

/-- A pattern's running state (R268 to R271). -/
structure Pat where
  live : PatLive := {}
  /-- It has timing, and a period start (R270, R272). -/
  timing : Bool := false
  start : Nat := 0
  /-- Correction that applies at a period start, and that period start (R269). -/
  step : Int := 0
  stepAt : Nat := 0
  /-- Consecutive agreeing bursts (R269). -/
  good : Nat := 0
  /-- Place of an expected burst after `start`, and the expected instant of the last one (R257, R269). -/
  burstOff : Nat := 0
  burstAt : Nat := 0
  /-- Instant of the accepted commit. -/
  acceptAt : Nat := 0
  /-- Direction that the last switching instant began, 0 none, 1 downlink, 2 uplink, and that instant (R274). -/
  dir : Nat := 0
  dirAt : Nat := 0
  deriving DecidableEq, Repr

/-- An RFFE frame that waits or runs: its instant, page and entry, and its two command words (R263, R264). -/
structure Frame where
  inst : Nat := 0
  page : Nat := 0
  entry : Nat := 0
  w0 : Nat := 0
  w1 : Nat := 0
  deriving DecidableEq, Repr

/-- An RFFE bus (R263 to R265). -/
structure Bus where
  queue : List Frame := []
  cur : Option Frame := none
  /-- The frame in progress ends at this instant. -/
  endAt : Nat := 0
  /-- A read waits for the bus, or runs on it. -/
  readWait : Bool := false
  readRun : Bool := false
  /-- Instant at which EN was set. -/
  enAt : Nat := 0
  deriving DecidableEq, Repr

/-- A scheduled event: its entry and the entry's first word, its command's words, and its tick before the profile latency (R257, R262). -/
structure Sched where
  entry : Nat := 0
  w0 : Nat := 0
  c0 : Nat := 0
  c1 : Nat := 0
  base : Int := 0
  deriving DecidableEq, Repr

/-- A FECk page's sequencer (R255 to R262). -/
structure Fec where
  /-- RUN waits for a boundary, or for the pads or the power state. -/
  startDue : Bool := false
  /-- Instant of the write of RUN, or of the release it waited for. -/
  startAt : Nat := 0
  commitAt : Nat := 0
  /-- Boundary from which the live table's references count. -/
  liveAt : Nat := 0
  /-- Per entry of the live table, the instant from which references have still to be served (R257). -/
  served : Tab Nat := []
  /-- Events that stand from a table that has been replaced (R262). -/
  sched : List Sched := []
  deriving DecidableEq, Repr

/-- A diversity port (R276 to R279). -/
structure DivSt where
  /-- Bursts since the last switch, and the filtered difference in 1/160 dB. -/
  bursts : Nat := 0
  filt : Int := 0
  /-- A switch was decided at this instant; it is past S1. -/
  decAt : Nat := 0
  pastS1 : Bool := false
  s1At : Nat := 0
  /-- The last burst that was measured, as its expected instant plus 1, and the instant at which the switch line has still to change
  (R278). -/
  seen : Nat := 0
  lineAt : Option Nat := none
  deriving DecidableEq, Repr

/-- The timebase's epoch (R266). -/
structure Tb where
  epochDue : Bool := false
  /-- Instant of the boundary that starts a second, once an epoch is set. -/
  epoch : Option Nat := none
  measuredAt : Nat := 0
  /-- Place of the common frame boundaries: an instant at which one lies, modulo 1 ms. -/
  frame : Nat := 0
  deriving DecidableEq, Repr

/-- Tansy: boot, mailbox, key store and debug (R363 to R390). -/
structure Tansy where
  /-- Instant of the last release of a chip reset. -/
  startAt : Nat := 0
  /-- The boot of R363 has read OTP and the key region, and SEC.STATE is valid. -/
  booted : Bool := false
  /-- QSPI copy whose image is read and verified: 0 none, 1 A, 2 B; and whether it is the second copy tried (R363, R367). -/
  reading : Nat := 0
  second : Bool := false
  /-- Words of the mailbox command: how many are expected, and those written, the latest first (R370). -/
  need : Nat := 0
  words : List Nat := []
  /-- The command waits for its NVM write; what the write is to install (R376). -/
  writing : Bool := false
  /-- Output words left (R370). -/
  outq : List Nat := []
  /-- Key slots as unwrapped into the key store (R373, R374). -/
  keys : Tab KeySlot := []
  /-- Nonces of the latest challenges: debug, factory test (R387). -/
  nonceDbg : Option (List Nat) := none
  nonceFtm : Option (List Nat) := none
  /-- Application-core memory: bytes of the verified payload, and ENTRY (R365). -/
  mem : List Nat := []
  entry : Nat := 0
  /-- The pad-driving boundary-scan instructions drive the pads (R386). -/
  bscan : Bool := false
  /-- INTEST is in force, and internal scan (R386). -/
  intest : Bool := false
  scan : Bool := false
  /-- Last start or kick of each core's watchdog (R385). -/
  kickAt : Tab Nat := []
  deriving DecidableEq, Repr

/-- One bin's averages and the estimate formed from them (R218, R220): mean powers of reference, receive and residual, and cross-spectra of
receive and residual with the reference, in 10^−15 of full scale; loop gain, effective and physical isolation in 0.01 dB, coherence in
1/65,536, and whether the averaged reference power is at least −100 dBFS. -/
structure Bin where
  ref : Nat := 0
  rx : Nat := 0
  res : Nat := 0
  xrx : Int × Int := (0, 0)
  xres : Int × Int := (0, 0)
  lg : Int := 0
  ieff : Int := 0
  iphys : Int := 0
  coh : Nat := 0
  refOk : Bool := false
  deriving DecidableEq, Repr

/-- A bin under a clamp (R228, R230): the loop gain of the estimate that triggered it, in 0.01 dB, less the responses of the channel FIR and
the clamps in it; and the instant of the last trigger. -/
structure Notch where
  bin : Nat := 0
  lam : Int := 0
  at_ : Nat := 0
  /-- Instant at which the notch came into force, and the one at which its release began (R228, R230). -/
  from_ : Nat := 0
  goneAt : Option Nat := none
  deriving DecidableEq, Repr

/-- A slot's governor and protections beyond their registers (R218 to R233, R284 to R294). -/
structure Gov where
  /-- Consecutive frames since the last restart, and frames still to be averaged at weight 1/2 (R221). -/
  frames : Nat := 0
  reseed : Nat := 0
  est : Tab Bin := []
  /-- Frames since the first clamp came into force, and the estimates formed wholly from them (R286). -/
  afterN : Nat := 0
  after : Tab Bin := []
  /-- Owner sub-band gains as written, and governor cuts in 0.01 dB: as set, as carried by the last SYNTH issued, and as
  carried by the live channel FIR (R224). -/
  owner : Tab Nat := []
  cut : Tab Int := []
  cutIssued : Tab Int := []
  cutLive : Tab Int := []
  /-- Target of the last SYNTH issued, and of the solver result that waits, by bin in 0.01 dB (R224). -/
  target : Tab Int := []
  targetRes : Tab Int := []
  /-- End of the last frame, before which no other begins (R220). -/
  frameEnd : Nat := 0
  /-- Instant of the last frame that entered the averages (R275). -/
  lastFrame : Option Nat := none
  /-- Frames of the last 4 ms, each with its bins' output powers, and the boundary of the last noise estimate (R291). -/
  noise : List (Nat × List (Nat × Nat)) := []
  noiseAt : Nat := 0
  /-- Cuts of the solver result that waits, and the instant of the last SYNTH issue (R170, R200). -/
  cutRes : Tab Int := []
  lastSynth : Option Nat := none
  ownerNew : Bool := false
  /-- A SYNTH is wanted (R224, R230), and since when the cuts were last reduced. -/
  synthDue : Bool := false
  redAt : Nat := 0
  /-- When each bin's cut was last deepened: its recovery counts from there (R224). -/
  cutAt : Tab Nat := []
  /-- Adaptation step of each bin (R226). -/
  step : Tab Nat := []
  /-- Clamps: notches, broadband attenuation in 0.01 dB with the bins it covers, the first clamp's and the last trigger's
  instants, and the frame count at which the first came into force (R228 to R230, R286). -/
  notches : List Notch := []
  broad : Option Int := none
  broadBins : List Notch := []
  /-- The broadband clamp's attenuation before the change in progress in 0.01 dB, and the instant of that change (R229). -/
  broadFrom : Int := 0
  broadAt : Nat := 0
  /-- Notches that fade out (R228, R230). -/
  fading : List Notch := []
  firstAt : Option Nat := none
  lastAt : Nat := 0
  clean : Nat := 0
  /-- Cold-start cap in 0.05 dB; measured I_phys in 0.01 dB; the first OBSERVE-REDUCE replaces I_phys (R231). -/
  cap : Option Int := none
  iso : Option Int := none
  isoDue : Bool := false
  /-- Periods since the cap was last set or judged, whether the conditions of R232 held in them, and the last count of
  valid bins. -/
  capN : Nat := 0
  capOk : Bool := true
  capValid : Nat := 0
  /-- Power clamp and noise reduction in 0.01 dB, and the instants of the last trip or fall (R289 to R292). -/
  pclamp : Nat := 0
  pAt : Nat := 0
  /-- The instant of the last trip, and the power clamp in force at it (R289). -/
  tripAt : Option Nat := none
  tripBase : Nat := 0
  nred : Nat := 0
  nAt : Nat := 0
  /-- The last window in which a sum of the slot was not 1 dB below its limit, and the last estimate that was not 1 dB below the
  ceiling (R290, R292). -/
  pLow : Option Nat := none
  nLow : Option Nat := none
  /-- Ends of the OSC and MASK mutes, and operating instants of the mutes of the last 60 s (R287, R294). -/
  oscEnd : Nat := 0
  maskEnd : Nat := 0
  mutes : List Nat := []
  deriving DecidableEq, Repr

/-- What a loop has worked out in a period and has still to write: outputs, states, integrator, and whether an output is at its limit
(R235). -/
structure LoopNext where
  u0 : Int := 0
  u1 : Int := 0
  xh : List Int := []
  z : Int := 0
  sat : Bool := false
  deriving DecidableEq, Repr

/-- A Clover loop beyond its registers (R234 to R245). -/
structure Loop where
  /-- Observer states and integrator, Q3.28. -/
  xh : List Int := []
  z : Int := 0
  /-- Consecutive periods with y0 valid (R237). -/
  good : Nat := 0
  /-- Measurements of this period, and whether the loop runs and is still to complete in it (R238, R239). -/
  y0 : Option Int := none
  y1 : Option Int := none
  due : Bool := false
  nxt : Option LoopNext := none
  /-- Instant of a mode write that waits for its period (R241). -/
  modeAt : Option Nat := none
  deriving DecidableEq, Repr

/-- Clover, injection and captures beyond their registers (R238 to R248). -/
structure Clv where
  /-- Start of the present period, and whether its write phase has still to come. -/
  start : Nat := 0
  writeDue : Bool := false
  /-- Injection: it waits for a period start; periods injected; value of this period; PRBS register. -/
  injDue : Bool := false
  injN : Nat := 0
  inj : Int := 0
  lfsr : Nat := 0
  /-- Loop capture: its memory by word, next word, periods stored, and the periods that remain once triggered. -/
  lcap : Tab Nat := []
  lcapPos : Nat := 0
  lcapN : Nat := 0
  lcapLeft : Option Nat := none
  /-- The loop capture's trigger has come since it was armed (R247). -/
  lcapHit : Bool := false
  /-- Loops in the order in which the lanes take them in a period of compatibility timing (R239). -/
  order : List Nat := []
  /-- I/Q capture: number of the capture whose samples the buffer holds, 0 before the first, with its slot, points and first sample; armed
  since; triggered. -/
  iqId : Nat := 0
  iqSlot : Nat := 0
  iqA : Nat := 0
  iqB : Option Nat := none
  iqFirst : Nat := 0
  iqAt : Nat := 0
  iqTrig : Option Nat := none
  /-- The time of the oldest sample, until it is published: seconds and nanoseconds. -/
  iqTime : Nat × Nat := (0, 0)
  /-- OBS.SUM1 as the last read of OBS.SUM0 latched it (R250). -/
  sum1 : Nat := 0
  deriving DecidableEq, Repr

/-- A received IEEE 1588 frame (R183). -/
structure RxFrame where
  lane : Nat := 0
  sec : Nat := 0
  ns : Nat := 0
  data : List Nat := []
  deriving DecidableEq, Repr

/-- The IEEE 1588 time and the frame queues (R182, R183). -/
structure Lnk where
  /-- I03 runs; the time at instant `at_`, in 1/(3,072 × 10^12) ns. -/
  on : Bool := false
  num : Int := 0
  at_ : Nat := 0
  beatAt : Nat := 0
  rxq : List RxFrame := []
  rxPos : Nat := 0
  /-- The time at the last rising edge of PPS_IN, until it is published: seconds and nanoseconds. -/
  pps : Nat × Nat := (0, 0)
  /-- Bytes in the transmit buffer. -/
  tx : List Nat := []
  /-- Lane and length that a GO took for the frame being sent (R183). -/
  txGo : Nat × Nat := (0, 0)
  /-- Bytes of the last queue frame that each lane sent, its FCS among them (R183). -/
  txSent : Tab (List Nat) := []
  /-- Bytes of the last export frame that each lane sent (R179). -/
  sent : Tab (List Nat) := []
  deriving DecidableEq, Repr

/-- A slot's export (R177, R178): the EXPORT word in force, the one that waits for a boundary since an instant, frame count
and a gap before the next frame; and the number of the working-rate sample that the frame being filled begins with. -/
structure Exp where
  live : Nat := 0
  first : Nat := 0
  changeAt : Option Nat := none
  seq : Nat := 0
  gap : Bool := false
  /-- A sample of the frame being filled was marked invalid (R179). -/
  bad : Bool := false
  deriving DecidableEq, Repr

/-- A converter chiplet beyond its registers (R133, R141, R147, R148, R154). -/
structure Cnv where
  /-- Fields were loaded since the last chip reset (R154). -/
  loaded : Bool := false
  /-- DSA in force, by local channel (R133). -/
  dsa : Tab Nat := []
  /-- Instant of the accepted change or of the present step; an automatic retry runs (R141, R144). -/
  at_ : Nat := 0
  retry : Bool := false
  /-- A change completed and its slots wait for the resume boundary (R141). -/
  resume : Bool := false
  /-- Windows in a row at or below −80 dBc, and the sensor reading at the last correction, by local channel (R147, R148). -/
  conv : Tab Nat := []
  ref : Tab (Option Int) := []
  /-- Instant of the accepted plan commit, and starts of the present dwells, by receiver (R150, R151). -/
  planAt : Nat := 0
  dwellAt : Tab Nat := []
  deriving DecidableEq, Repr

/-- The thermal supervisor beyond its registers (R325 to R333). -/
structure Thm where
  /-- End of the grace time, plus 1, while it runs; instants at which enforcement began and E last changed; and since when the
  hottest reading has stayed at or below 97 °C (R329, R330). -/
  graceAt : Nat := 0
  enfAt : Nat := 0
  eAt : Nat := 0
  coolAt : Option Nat := none
  /-- Per failed sensor whose failure still holds E: E at the failure, and since when its substitute has stayed at or below 97 °C
  (R332). -/
  holds : Tab (Option (Nat × Option Nat)) := []
  /-- Per sensor: the last valid reading; the instants of its conversions since its code last changed, and its readings as they changed,
  each newest first (R326). -/
  last : Tab (Option Int) := []
  same : Tab (List Nat) := []
  moves : Tab (List (Nat × Int)) := []
  /-- Instant of the last measurement of the HS_TEMP detector (R68). -/
  hsAt : Nat := 0
  /-- Instant of each sensor's last conversion (R326). -/
  convAt : Tab Nat := []
  deriving DecidableEq, Repr

/-- Everything the spec gives the machine. -/
structure State where
  /-- Commands that wait, first in, first out. -/
  pending : List Instr := []
  /-- The clock of the model, in ticks of 1/983.04 MHz since the AON power-on. -/
  now : Nat := 0
  /-- How many free values have been used (the model's own). -/
  fresh : Nat := 0
  /-- Words that the last read returned to its master (the model's own). -/
  out : List Word := []
  /-- Every register field that differs from its reset value, by Fld.key. -/
  reg : Tab Nat := []
  /-- Wiring and levels from the board. -/
  board : Board := {}
  /-- Straps as sampled. -/
  straps : Straps := {}
  /-- Resets and the start sequence. -/
  rst : Rst := {}
  /-- I00. -/
  aon : Aon := {}
  /-- Engine rail arbiters. -/
  rails : Tab Rail := []
  /-- Islands whose clock waits for a new request (R445). -/
  needReq : List Nat := []
  /-- Profile sequencer. -/
  prof : Prof := {}
  /-- Converter channels powered down: RX c as c, TX c as 32 + c, observation receiver OB k as 64 + k (R19). -/
  chanDown : List Nat := []
  /-- Converter channels powering up (R19). -/
  chanUp : List Nat := []
  /-- Power-state transition in progress. -/
  tr : Option PwrTr := none
  /-- Election, heartbeat, handover. -/
  own : Own := {}
  /-- Host ports. -/
  ports : Ports := {}
  /-- Event recorder. -/
  evt : Evt := {}
  /-- Fault collection. -/
  flt : Flt := {}
  /-- Slots whose STATE is not OFF, rising. -/
  active : List Nat := []
  /-- Slots' running state. -/
  slots : Tab Slot := []
  /-- Live descriptors. -/
  live : Tab Live := []
  /-- Snapshot groups by page. -/
  snap : Tab Snap := []
  /-- Bias channels. -/
  bias : Tab BiasCh := []
  /-- Both bias rails have been within range since the last chip reset (R317). -/
  biasOk : Bool := true
  /-- The limiters are frozen (R315). -/
  iced : Bool := false
  /-- The application cores are held (R380, R383). -/
  trapHold : Bool := false
  /-- Non-maskable interrupts that the application cores have received since the last chip reset (R383). -/
  nmi : Nat := 0
  /-- The lock image's signature verified at the last reset or write (R299). -/
  lockSig : Bool := false
  /-- The comparator copies of the lock's ranges: F_LO, F_HI and DIR of range r of group g at 192 g + 3 r on; Tansy's last comparison found
  them equal to the lock, and its instant (R298). -/
  copies : Tab Nat := []
  lockSame : Bool := true
  lockCmpAt : Nat := 0
  /-- Monitor converter. -/
  mon : Mon := {}
  /-- One-time-programmable memory. -/
  otp : Otp := {}
  /-- Non-volatile store. -/
  nvm : Nvm := {}
  /-- Power tables: entry i of port p at 256 p + i in the shadow, 8,192 further in the live bank (R280). -/
  pwt : Tab Nat := []
  /-- Bias profiles: profile k of port p at 16 p + k in the shadow, 512 further in the live set (R280). -/
  pwtProf : Tab Nat := []
  /-- Slots' cancellers. -/
  canS : Tab CanSlot := []
  /-- Canceller pool, deques and engines. -/
  can : Can := {}
  /-- Channel FIR coefficients: tap t of slot s at 256 s + t in the shadow, 131,072 further in the live set (R156, R176). -/
  fir : Tab Nat := []
  /-- TDD patterns. -/
  pats : Tab Pat := []
  /-- Shadow edge words: edge e of pattern p at 16 p + e (R267). -/
  patEdge : Tab Nat := []
  /-- Live dwell plans: the eight words of receiver r of chiplet n at 2 n + r, empty for the default plan (R151, R153). -/
  obsLive : Tab (List Nat) := []
  /-- Sequencer tables: word w of entry e of page k at 2 (1,024 k + e) + w in the shadow, 8,192 further in the live bank (R255, R256). -/
  seqTab : Tab Nat := []
  /-- RFFE command tables: word w of command i of page k at 2 (256 k + i) + w in the shadow, 2,048 further in the live bank (R255). -/
  cmdTab : Tab Nat := []
  /-- Sequencers of FEC0 to FEC3. -/
  fecs : Tab Fec := []
  /-- The last event of a line since its sequencer started: 1 + 1,024 × its tick + its entry (R258, R259). -/
  lineAt : Tab Nat := []
  /-- RFFE buses 0 to 7. -/
  buses : Tab Bus := []
  /-- Instants up to which the saturated DAC samples of the forward-path groups are counted (R161). -/
  satAt : Tab Nat := []
  /-- Diversity ports. -/
  divs : Tab DivSt := []
  /-- Timebase epoch. -/
  tb : Tb := {}
  /-- A power-table step decided for a port: 256 × its instant + the new entry + 1 (R282). -/
  pwtStepAt : Tab Nat := []
  /-- Instants of transmit enables that are held pending, plus 1 (R283). -/
  txenAt : Tab Nat := []
  /-- A port's entry in force, as the table word that was applied (R282). -/
  pwtWord : Tab Nat := []
  /-- The bias code that a port's entry in force gave (R282, R312). -/
  pwtCode : Tab Nat := []
  /-- Instants of accepted commits of the power tables (R280). -/
  pwtAt : Tab Nat := []
  /-- Tansy and the application cores. -/
  tansy : Tansy := {}
  /-- Slots' governor and protections. -/
  gov : Tab Gov := []
  /-- Clover loops. -/
  loops : Tab Loop := []
  /-- Loop matrices where a master has written them, one more than the word; word w of loop l at 320 l + w in the shadow bank, 160 further in the live bank (R236). -/
  mat : Tab Nat := []
  /-- Clover, injection and captures. -/
  clv : Clv := {}
  /-- Bins seen over their emission limit: bin b MHz of transmit channel p and zone z at 8,192 (2 p + z) + b, the first instant plus 1 (R293). -/
  maskSeen : Tab Nat := []
  /-- IEEE 1588 time and frame queues. -/
  lnk : Lnk := {}
  /-- Exports. -/
  exps : Tab Exp := []
  /-- Converter chiplets. -/
  cnv : Tab Cnv := []
  /-- Thermal supervisor. -/
  thm : Thm := {}
  deriving DecidableEq, Repr

/-- The machine right after the AON power-on reset has released: the start sequence begins, nothing is loaded from NVM yet,
and every register holds its reset value (R56, R57, R442). (DESIGN CHOICE: log 1, 4, 5, 9) -/
def State.reset : State := {}

end Sys2Proof.Machine
end

