-- ==== Sys2Proof/Machine/Ops.lean ====
section
/-! DEFINITION. The named operations on registers, time, clocks, sources, records, holds, permit and resets. -/
namespace Sys2Proof.Machine
open Sys2Proof

/-! Registers -/

/-- The value of a register field. -/
def State.get (s : State) (f : Fld) : Nat := Tab.get f.rst s.reg f.key

/-- The state with a register field set; the field keeps its width. -/
def State.set (s : State) (f : Fld) (v : Nat) : State :=
  { s with reg := Tab.set f.rst s.reg f.key (v % 2 ^ f.w) }

/-- A one-bit field reads 1. -/
def State.flag (s : State) (f : Fld) : Bool := s.get f == 1

/-- A counter field counts by `n` and saturates. -/
def State.count (s : State) (f : Fld) (n : Nat) : State := s.set f (satAdd f.w (s.get f) n)

/-- A counter field counts by one and wraps. -/
def State.wrap (s : State) (f : Fld) : State := s.set f (s.get f + 1)

/-- A field set to one bit. -/
def State.put (s : State) (f : Fld) (b : Bool) : State := s.set f b.toNat

/-- Bit `i` of a field set to `b`. -/
def State.putBit (s : State) (f : Fld) (i : Nat) (b : Bool) : State := s.set f (Machine.putBit (s.get f) i b)

/-- The value of a field in a written word. -/
def Fld.of (f : Fld) (v : Word) : Nat := bits v.toNat f.lo f.w

/-- The word that a list of fields reads as. -/
def State.assemble (s : State) (fs : List Fld) : Nat :=
  fs.foldl (fun acc f => acc + (if f.acc == .wo then 0 else s.get f * 2 ^ f.lo)) 0

/-! Free values and time -/

/-- A value that the spec does not state, and the state in which the next such value is another one. (DESIGN CHOICE: log 8) -/
def State.draw (s : State) : Nat × State := (Config.free s.fresh, { s with fresh := s.fresh + 1 })

/-- The clock catches up to an instant. (DESIGN CHOICE: log 2) -/
def State.until (s : State) (t : Nat) : State := { s with now := max s.now t }

/-- Microseconds as ticks of 1/983.04 MHz, rounded up. (DESIGN CHOICE: log 1) -/
def us (n : Nat) : Nat := (n * 98304 + 99) / 100

/-- Milliseconds as ticks. (DESIGN CHOICE: log 1) -/
def ms (n : Nat) : Nat := n * 983040

/-- The first instant at or after `t` in a grid of ticks through the common frame boundaries. (DESIGN CHOICE: log 2) -/
def State.onGrid (s : State) (g t : Nat) : Nat := s.tb.frame % g + ceilTo g (t - s.tb.frame % g)

/-- The first 1 ms common frame boundary at or after an instant (R23, R25, R266). -/
def State.frameAt (s : State) (t : Nat) : Nat := s.onGrid 983040 t

/-- The first 100 µs boundary at or after an instant (R168). -/
def State.periodAt (s : State) (t : Nat) : Nat := s.onGrid 98304 t

/-- Operating seconds, and the 32.768 kHz count within the second (R404, R407). -/
def State.opSec (s : State) : Nat := (s.aon.opBase + (s.now - s.aon.opFrom) / 983040000) % 2 ^ 36
def State.opTick (s : State) : Nat := (s.now - s.aon.opFrom) % 983040000 / 30000

/-! Resets, clocks and pages that are off -/

/-- A chip reset is in force, or the part is asleep or wakes. -/
def State.inReset (s : State) : Bool :=
  s.rst.aon || s.rst.por || s.rst.pin || s.rst.fault || s.rst.pfail || s.rst.wake || s.aon.asleep

/-- The pages whose CLK_REQ asks for an island's clock; empty where the island runs without a request. (DESIGN CHOICE: log 72) -/
def islandPages (n : Nat) : List Nat :=
  if n = 1 then [0, 1, 2, 3, 4, 5, 9, 0x0D, 0x2D, 0x2E]
  else if n = 2 then [0x2C]
  else if n = 3 then [0x2B]
  else if n = 4 then [8]
  else if n = 5 then [7, 0x0F]
  else if n = 6 then [0x22]
  else if 7 ≤ n ∧ n ≤ 10 then [0x20]
  else if 11 ≤ n ∧ n ≤ 18 then [0x18 + (n - 11)]
  else if 19 ≤ n ∧ n ≤ 34 then [0x30 + (n - 19)]
  else if 35 ≤ n ∧ n ≤ 42 then [0x10 + (n - 35)]
  else if n = 43 then [0x0A, 0x0B, 0x0C]
  else if n = 44 then [0x0E, 0x25, 0x26, 0x27, 0x28, 0x29, 0x2A]
  else if n = 45 then [0x21, 0x23, 0x24]
  else if n = 46 then [6]
  else []

/-- The canceller quarter that forward-path group `n` meets (R448). -/
def quarterOf (n : Nat) : Nat := 7 + n / 2

/-- The channels between islands: samples between chiplets and groups, groups and canceller quarters, the quarters with one another and
with the clusters, the steal ring, analysis taps, loop records, stream export and the register fabric; those of I00 are exempt (R66, R67,
R71, R448). -/
def channels : List (Nat × Nat) :=
  ((List.range 8).flatMap fun n => [(35 + n, 11 + n), (11 + n, quarterOf n), (11 + n, 45), (11 + n, 3)])
    ++ ((List.range 4).flatMap fun q => ((List.range q).map fun r => (7 + r, 7 + q)) ++ (List.range 16).map fun k => (19 + k, 7 + q))
    ++ ((List.range 16).map fun k => (19 + k, 19 + (k + 1) % 16)) ++ [(45, 6)] ++ ((List.range 46).map fun n => (1, 2 + n))

/-- A page of the island asks for its clock (R63). -/
def State.clkReq (s : State) (n : Nat) : Bool :=
  (islandPages n).isEmpty || (islandPages n).any fun p => s.flag (HDR.PAGE_CTL.CLK_REQ p)

/-- The PLL that feeds an island at its operating clock, 6 for FPLL (R62). -/
def pllOf (n : Nat) : Option Nat :=
  if n = 1 then some 6
  else if n = 5 ∨ n = 6 ∨ n = 43 ∨ n = 46 ∨ n = 47 then some 1
  else if (7 ≤ n ∧ n ≤ 18) ∨ n = 44 ∨ n = 45 then some 0
  else if 19 ≤ n ∧ n ≤ 34 then some (2 + (n - 19) / 4)
  else none

/-- The island has a source of its own (R63). -/
def ownSource (n : Nat) : Bool := n == 2 || n == 3 || (35 ≤ n && n ≤ 42)

/-- The source in use runs: the start clock, a locked PLL, or the island's own source, which on a chiplet is the
synthesiser once READY (R62, R63, R154). -/
def State.srcRuns (s : State) (n : Nat) : Bool :=
  let now := s.get (CLK.ISL_CLK.SRC_NOW n)
  if now = 0 then startsClocked n
  else if now = 1 then match pllOf n with
    | some p => s.flag (CLK.PLL_CTL.LOCK p)
    | none => false
  else if 35 ≤ n ∧ n ≤ 42 then s.flag (SYN.SYN_STAT.READY (n - 35))
  else ownSource n

/-- The supervised rails that feed an island, as bits of Board.supLow (R32, R445). -/
def islandRails (n : Nat) : Nat :=
  if 19 ≤ n ∧ n ≤ 34 then 2 ^ ((n - 19) / 4)
  else if 35 ≤ n ∧ n ≤ 42 then 0x70
  else if n = 2 ∨ n = 3 then 0x180
  else 0

/-- PAGE_STAT.PWR_ON of the island's pages (R445). -/
def State.powered (s : State) (n : Nat) : Bool := s.board.supLow &&& islandRails n == 0

/-- A disabled cluster is clock-gated once it has handed off its queued jobs and its running jobs have completed (R207). -/
def State.clusterGated (s : State) (k : Nat) : Bool :=
  !s.flag (HDR.PAGE_CTL.EN (0x30 + k)) && s.can.clOff.contains k && !s.can.handDue.contains k
    && (List.range 16).all fun e => (Tab.get none s.can.run (16 * k + e)).isNone

/-- CLK.ISL_CLK_n.ON: the island's register-interface clock runs (R63, R207, R445). -/
def State.clkOn (s : State) (n : Nat) : Bool :=
  s.srcRuns n && s.clkReq n && s.powered n && !(s.needReq.contains n) && !(19 ≤ n && n ≤ 34 && s.clusterGated (n - 19))

/-- A page is off for accesses at offset 0x010 and above (R101). -/
def State.pageOff (s : State) (p : Nat) : Bool :=
  !(s.clkOn (pageIsland p)) || !(s.powered (pageIsland p)) || s.flag (HDR.PAGE_STAT.RESET_ACTIVE p)

/-! The IEEE 1588 time -/

/-- The rate correction in 10^−12 (R182). -/
def State.ptpRate (s : State) : Int := sext 32 (s.get LNK.PTP_RATE.ADJ)

/-- The time in 1/(3,072 × 10^12) ns at the present instant: a tick lasts 3,125/3,072 ns (R182). -/
def State.linkNum (s : State) : Int :=
  if s.lnk.on then s.lnk.num + ((s.now - s.lnk.at_ : Nat) : Int) * 3125 * (1000000000000 + s.ptpRate) else s.lnk.num

/-- A time in nanoseconds as seconds and nanoseconds. -/
def splitNs (n : Nat) : Nat × Nat := (n / 1000000000 % 2 ^ 48, n % 1000000000)

/-- The time is judged good: a BEAT within the last 2 s (R182). -/
def State.ptpValid (s : State) : Bool := s.flag LNK.PTP_CTL.VALID && decide (s.now < s.lnk.beatAt + ms 2000)

/-- The time as seconds and nanoseconds; it reads zero while I03 is unclocked (R182). -/
def State.linkTime (s : State) : Nat × Nat :=
  if s.lnk.on then splitNs (s.linkNum / 3072000000000000).toNat else (0, 0)

/-- The time is kept up to the present instant. -/
def State.settleLnk (s : State) : State := { s with lnk := { s.lnk with num := s.linkNum, at_ := s.now } }

/-- The time advances while I03 is clocked (R182). -/
def State.syncLnk (s : State) : State :=
  if s.clkOn 3 = s.lnk.on then s
  else
    let t := s.settleLnk
    { t with lnk := { t.lnk with on := s.clkOn 3 } }

/-! Sources -/

/-- The bit of SEC.ALARM_LVL field of a tamper source (R378). -/
def State.alarmLvl (s : State) (b : Nat) : Nat := bits (s.get SEC.ALARM_LVL.LVL) (2 * b) 2

/-- The class in force of a source; a source of security class follows its alarm level (R343, R379). -/
def State.srcCls (s : State) (p b : Nat) : Nat :=
  if (srcOf (srcKey p b)).sec then (if s.alarmLvl b = 1 then 1 else 2)
  else s.get (FLT.SRC_CFG.CLASS (srcKey p b))

/-- The reactions in force, laid out as byte 8 of a source record: bit 4 BSAFE, 3 ERRN, 2 CRST, 1 BRST, 0 TRAP (R418). -/
def State.srcReact (s : State) (p b : Nat) : Nat :=
  let k := srcKey p b
  if (srcOf k).sec then (if s.alarmLvl b = 1 then 0 else 9)
  else 16 * s.get (FLT.SRC_CFG.BSAFE k) + 8 * s.get (FLT.SRC_CFG.ERRN k) + 4 * s.get (FLT.SRC_CFG.CRST k)
    + 2 * s.get (FLT.SRC_CFG.BRST k) + s.get (FLT.SRC_CFG.TRAP k)

/-- INJ.FTM: the TEST_MODE strap is 1 and Tansy has granted the authorisation (R354). -/
def State.ftm (s : State) : Bool := s.straps.testMode && s.flag SEC.STATE.FTM

/-- The ERR_MASK bit of a source takes effect: read-only and 0 for one of class 3 or 4, fixed or of security class, outside factory
test mode (R345). (DEDUCED: log 14) -/
def State.maskable (s : State) (p b : Nat) : Bool :=
  (srcOf (srcKey p b)).impl && (s.ftm || (decide (s.srcCls p b < 3) && !(srcOf (srcKey p b)).fixed && !(srcOf (srcKey p b)).sec))

/-- A source is masked: its ERR_MASK bit reads 1 (R345). (DEDUCED: log 14) -/
def State.masked (s : State) (p b : Nat) : Bool := tbit (s.get (HDR.ERR_MASK.BITS p)) b && s.maskable p b

/-- A reset shadow of page `p` is open (R350). -/
def State.shadowOpen (s : State) (p : Nat) : Bool :=
  match Tab.get (none : Option Nat) s.flt.shadows p with
  | none => false
  | some 0 => true
  | some t => s.now < t

/-- A source is shadowed by the block reset of a page it depends on; never one of class 4 or of security class
(R350, R351). -/
def State.shadowed (s : State) (p b : Nat) : Bool :=
  let r := srcOf (srcKey p b)
  !r.sec && s.srcCls p b < 4 && (r.dep0.any s.shadowOpen || r.dep1.any s.shadowOpen)

/-- The datapath's clocks are gated: in STANDBY, and from the gating step of an entry until the exit has calibrated (R79, R86, R87). -/
def State.clocksGated (s : State) : Bool :=
  match s.tr with
  | some t => t.phase == 3 || t.phase == 4 || (t.origin == 2 && t.phase != 2)
  | none => s.get PWR.PWR_CMD.STATE == 2

/-- A page is in block reset: its block produces no output, and what it does by itself waits (R447). -/
def State.resetting (s : State) (p : Nat) : Bool := s.flag (HDR.PAGE_STAT.RESET_ACTIVE p)

/-- A page's island stands still for its neighbours: it is unclocked, its clocks are gated, or the page is in block reset (R69, R79, R80,
R447). (DEDUCED: log 76) -/
def State.stopped (s : State) (p : Nat) : Bool := s.clocksGated || s.pageOff p

/-- The sources that arise from the datapaths of I06 to I34 and I45; those of refused requests and locked writes, of the pool and of the
owner's own writes fire whatever the clocks do (R357). (DEDUCED: log 76) -/
def datapathSrc (p b : Nat) : Bool :=
  if 0x18 ≤ p ∧ p < 0x20 then b == FWD.src.TX_SAT
  else if p = 0x20 then b == CAN.src.DIVERGE || b == CAN.src.EXTREF_LATE
  else if p = 0x22 then b == CLV.src.LOOP_MISS
  else if p = 0x23 then b ≤ GOV.src.OSC_MUTE || b == GOV.src.PWR_CLAMP || b == GOV.src.NOISE_RED || b == GOV.src.MASK_MUTE
  else if p = 0x24 then b == CAP.src.LCAP_DONE || b == CAP.src.IQ_DONE
  else if 0x30 ≤ p ∧ p < 0x40 then true
  else 0x40 ≤ p && b == SLP.src.INVALID

/-- The sources of a page cannot fire while the page is off (R357); those of a slot page follow the group's island. -/
def State.canFire (s : State) (p b : Nat) : Bool :=
  (srcOf (srcKey p b)).impl && !s.inReset && !s.pageOff p && !(s.clocksGated && datapathSrc p b)

/-- The block error line of a page: ERR_STAT and not ERR_MASK (R346). -/
def State.line (s : State) (p : Nat) : Bool :=
  s.get (HDR.ERR_STAT.BITS p) != 0 && (List.range 32).any fun b => tbit (s.get (HDR.ERR_STAT.BITS p)) b && !s.masked p b

/-- The pages whose line is high, rising. -/
def State.lines (s : State) : List Nat := (List.range 128).filter s.line

/-- FLT.FIRST follows the lines: it takes the lowest page that rises from all zero, and clears once all are zero (R347).
(DESIGN CHOICE: log 13) -/
def State.updFirst (s : State) (p : Nat) : State :=
  if s.lines.isEmpty then (s.set FLT.FIRST.VALID 0).set FLT.FIRST.PAGE 0
  else if s.flag FLT.FIRST.VALID then s
  else if s.line p then (s.set FLT.FIRST.VALID 1).set FLT.FIRST.PAGE p
  else s

/-! Records -/

/-- Who or what an occurrence belongs to. -/
structure Why where
  master : Nat := 7
  slot : Option Nat := none
  forced : Bool := false
  detail : List Nat := []
  deriving DecidableEq, Repr

/-- Records that wait in the buffer and are privileged. -/
def State.privCount (s : State) : Nat := (s.evt.buf.filter fun r => r.priv).length

/-- Number the record, unless the log scan still runs, and put it at the end of the buffer (R408, R410, R411). -/
def State.enter (s : State) (r : Rec) : State :=
  let last := s.get EVT.LAST.SEQ
  if s.evt.scanDue then { s with evt := { s.evt with buf := s.evt.buf ++ [r] } }
  else if last = 0xFFFFFFFE then s.count EVT.LOSS.DROPPED 1
  else
    let q := (last + 1) % 2 ^ 32
    let s := { s with evt := { s.evt with buf := s.evt.buf ++ [{ r with seq := some q, loss := s.evt.lossFlag }], lossFlag := false } }
    s.set EVT.LAST.SEQ q

/-- Place a record in the volatile buffer, giving up the oldest waiting direct record where all 256 places are in use;
the second component tells whether a record was dropped or given up (R408, R411, R412). -/
def State.place (s : State) (r : Rec) : State × Bool :=
  if s.evt.buf.length < 256 then (s.enter r, !s.evt.scanDue && s.get EVT.LAST.SEQ == 0xFFFFFFFE)
  else
    let lost := { s.count EVT.LOSS.DROPPED 1 with evt := { s.evt with lossFlag := true } }
    match s.evt.buf.findIdx? fun x => !x.priv with
    | some i => ({ lost with evt := { lost.evt with buf := lost.evt.buf.eraseIdx i } }.enter r, true)
    | none => (lost, true)

/-- Codes that no rate limit holds back (R415). -/
def exempt (code cls : Nat) : Bool := code == 1 || code == 2 || cls == 3 || cls == 4 || code == sourceCode 0x02 PWR.src.PFAIL_WARN

/-- Tokens of a code's bucket at the present instant: one more every REFILL ms up to DEPTH (R415). (DESIGN CHOICE: log 31) -/
def State.tokens (s : State) (c : Nat) : Nat :=
  let r := ms (s.get (EVT.RL_CFG.REFILL c))
  min (s.get (EVT.RL_CFG.DEPTH c)) (s.get (EVT.RL_STAT.TOKENS c) + (s.now / r - Tab.get 0 s.evt.refillAt c / r))

/-- A code's bucket is counted up to the present instant. -/
def State.refilled (s : State) (c : Nat) : State :=
  { s.set (EVT.RL_STAT.TOKENS c) (s.tokens c) with evt := { s.evt with refillAt := Tab.set 0 s.evt.refillAt c s.now } }

/-- Take a token of a code and make its record, or count the occurrence as pending; `true` where a record was dropped or
given up (R415). -/
def State.record (s : State) (r : Rec) : State × Bool :=
  let s := s.refilled r.code
  let tok := EVT.RL_STAT.TOKENS r.code
  let pnd := EVT.RL_STAT.PENDING r.code
  if exempt r.code r.cls || 0 < s.get tok then
    let n := s.get pnd
    let s := if exempt r.code r.cls then s else s.set tok (s.get tok - 1)
    let r := { r with
      suppr := n, opSec := s.opSec, tick := s.opTick, pcyc := s.get NVM.PCYC.COUNT, epoch := s.get OWN.OWN_STAT.EPOCH
      ptSec := if s.flag LNK.PTP_CTL.SET then s.linkTime.1 else 0
      ptNs := if s.flag LNK.PTP_CTL.SET then s.linkTime.2 else 0 }
    (s.set pnd 0).place r
  else (s.count pnd 1, false)

/-- A flush starts where privileged records wait (R413). -/
def State.startFlush (s : State) : State :=
  if s.privCount = 0 then s else { s with evt := { s.evt with flushing := true } }

/-- A record enters; with 192 privileged records a flush starts. The second component tells whether one was dropped or given up
(R412, R413). -/
def State.note (s : State) (r : Rec) : State × Bool :=
  let (s, dropped) := s.record r
  (if 192 ≤ s.privCount then s.startFlush else s, dropped)

/-- The payload of a source record (R418). -/
def State.payload (s : State) (p react : Nat) (shadow : Bool) (w : Why) : List Nat :=
  (if shadow then leBytes 8 0 else leBytes 4 (s.get (HDR.ERR_STAT.BITS p)) ++ leBytes 4 (s.get (HDR.IRQ_STAT.BITS p)))
    ++ [react, 0] ++ w.detail ++ List.replicate (14 - w.detail.length) 0

/-- The record of an occurrence of a source (R411, R417). -/
def State.srcRec (s : State) (p b react : Nat) (shadow : Bool) (w : Why) : Rec :=
  { code := sourceCode p b, master := w.master, slot := w.slot, forced := w.forced, conseq := shadow
    cls := s.srcCls p b, payload := s.payload p react shadow w
    priv := privSource p b || 2 ≤ s.srcCls p b }

/-! Holds of the slots -/

/-- The running state of a slot. -/
def State.slot (s : State) (i : Nat) : Slot := Tab.get {} s.slots i

/-- A slot's running state changed. -/
def State.modSlot (s : State) (i : Nat) (f : Slot → Slot) : State := { s with slots := Tab.upd {} s.slots i f }

/-- Bits of SLOT_STAT.HOLD (R158). -/
abbrev hGate : Nat := 0
abbrev hPower : Nat := 1
abbrev hChannel : Nat := 2
abbrev hSync : Nat := 3
abbrev hProtect : Nat := 4
abbrev hCover : Nat := 5

/-- States of a slot (R157). -/
abbrev stOff : Nat := 0
abbrev stCheck : Nat := 1
abbrev stPrep : Nat := 2
abbrev stRampUp : Nat := 3
abbrev stOn : Nat := 4
abbrev stHeld : Nat := 5
abbrev stRampDown : Nat := 6
abbrev stDrain : Nat := 7

/-- Working rate in units of 7.68 MS/s (R158). -/
def State.units (s : State) (i : Nat) : Nat := 2 ^ s.get (SLP.SLOT_CFG.RATE i)

/-- Working-rate sample period in ticks (R158). -/
def State.sampleT (s : State) (i : Nat) : Nat := 128 / s.units i

/-- The first working-rate sample of a slot at or after an instant. -/
def State.sampleAt (s : State) (i t : Nat) : Nat := ceilTo (s.sampleT i) t

/-- Weight in 64ths at an instant of a slot whose sample period is `T`, but for its ramp to zero: a ramp-up gains one 64th a sample
(R167, R173). -/
def Slot.rise (x : Slot) (T t : Nat) : Nat :=
  match x.upAt with
  | none => x.weight
  | some u => min 64 (x.weight + (t - u) / T)

/-- Output weight in 64ths at an instant: a ramp to zero loses one 64th a sample from the weight at its start (R173, R174). -/
def Slot.weightAt (x : Slot) (T t : Nat) : Nat :=
  match x.downAt with
  | none => x.rise T t
  | some d => if t < d then x.rise T t else x.rise T d - (t - d) / T

/-- Output weight in 64ths at an instant that may lie before the weight last left its ramps (R179). -/
def Slot.weightWas (x : Slot) (T t : Nat) : Nat :=
  if t < x.wasTill then Slot.weightAt { x with weight := x.wasRamp.1, upAt := x.wasRamp.2.1, downAt := x.wasRamp.2.2 } T t else x.weightAt T t

/-- A slot's output weight at the present instant. -/
def State.weightNow (s : State) (i : Nat) : Nat := (s.slot i).weightAt (s.sampleT i) s.now

/-- The instant at which a slot's ramp to zero ends. -/
def State.silentAt (s : State) (i : Nat) : Nat :=
  match (s.slot i).downAt with
  | none => s.now
  | some d => d + (s.slot i).rise (s.sampleT i) d * s.sampleT i

/-- The output leaves its ramps for a fixed weight; what it had until now stays known, for the frames that hold its samples (R172, R179). -/
def State.weigh (s : State) (i w : Nat) : State :=
  let g := sext 12 (s.get (SLP.GAIN_STAT.APPLIED i))
  s.modSlot i fun x =>
    { x with weight := w, upAt := none, downAt := none, wasTill := s.now, wasRamp := (x.weight, x.upAt, x.downAt), wasGain := g }

/-- The output loses its weight at once, and a later ramp starts from zero (R172). -/
def State.cut (s : State) (i : Nat) : State := s.weigh i 0

/-- A ramp to zero begins at the first sample at or after `t`, unless one begins sooner (R173, R174). -/
def State.fade (s : State) (i t : Nat) : State :=
  let b := s.sampleAt i t
  s.modSlot i fun x => { x with downAt := some (match x.downAt with | some d => min d b | none => b) }

/-- A slot that carries output fades from `t` on; one that carries none stays silent (R173). -/
def State.fadeOut (s : State) (i t : Nat) : State := if s.weightNow i = 0 then s.cut i else s.fade i t

/-- A slot's governor. -/
def State.gv (s : State) (i : Nat) : Gov := Tab.get {} s.gov i

/-- The applied gain reads silent; a power clamp above 0 dB stays the limit shown (R159, R290). -/
def State.silence (s : State) (i : Nat) : State :=
  (s.set (SLP.GAIN_STAT.LIMIT i) (if 0 < (s.gv i).pclamp then 4 else 5)).set (SLP.GAIN_STAT.APPLIED i) 0x800

/-- A HOLD reason arises on a slot (R173): in RAMP_UP and ON the slot reads HELD, its gain at that moment is kept for the
cap of R88, and the output ramps to silence from its present weight, from an instant on: at once, and after 20 µs for POWER; GATE cuts it at once (R172, R175). -/
def State.holdAt (s : State) (b i t : Nat) : State :=
  let st := s.get (SLP.SLOT_STAT.STATE i)
  let s := s.putBit (SLP.SLOT_STAT.HOLD i) b true
  if st = stRampUp ∨ st = stOn then
    let g := sext 12 (s.get (SLP.GAIN_STAT.APPLIED i))
    let s := (s.modSlot i fun x => { x with resume := false, muteGain := some g }).set (SLP.SLOT_STAT.STATE i) stHeld
    if b = hGate then (s.cut i).silence i else s.fadeOut i t
  else if b = hGate then s.cut i
  else if st = stHeld ∧ b ≠ hPower then s.fadeOut i t
  else s
def State.hold (s : State) (b i : Nat) : State := s.holdAt b i (if b = hPower then s.now + us 20 else s.now)

/-- A HOLD reason ends; with the last one a held slot's ramp-up is armed (R173). -/
def State.unhold (s : State) (b i : Nat) : State :=
  let s := s.putBit (SLP.SLOT_STAT.HOLD i) b false
  if s.get (SLP.SLOT_STAT.HOLD i) = 0 ∧ s.get (SLP.SLOT_STAT.STATE i) = stHeld then
    s.modSlot i fun x => { x with resume := true }
  else s

/-- Slots that a HOLD reason can act on: enabled and not yet disabled (PREP to HELD). -/
def State.enabled (s : State) : List Nat :=
  s.active.filter fun i => stPrep ≤ s.get (SLP.SLOT_STAT.STATE i) ∧ s.get (SLP.SLOT_STAT.STATE i) ≤ stHeld

/-- A HOLD reason arises or ends on every enabled slot. -/
def State.holdAll (s : State) (b : Nat) (on : Bool) : State :=
  s.enabled.foldl (fun s i => if on then s.hold b i else s.unhold b i) s


/-- A transition towards STANDBY or SLEEP runs: engines complete their jobs and start no more (R86). -/
def State.stopping (s : State) : Bool :=
  match s.tr with
  | some t => 2 ≤ t.target
  | none => false

/-- GATE holds: RF_STOP, a withdrawn permit or the terminal latch (R158). -/
def State.gateShut (s : State) : Bool :=
  s.flag IDN.RF_STOP.STOP || !(s.flag GOV.PERMIT.PERMIT) || s.flag FLT.TERM.SET

/-- A slot that ramps down after its disable loses what output it still has at the permit gate (R172, R174). (DESIGN CHOICE: log 34) -/
def State.cutRamps (s : State) : State :=
  (s.active.filter fun i => s.get (SLP.SLOT_STAT.STATE i) == stRampDown).foldl (fun s i => s.cut i) s

/-- The GATE reason of every enabled slot follows the gate, and a shut gate cuts the outputs that still ramp. (DESIGN CHOICE: log 34) -/
def State.syncGate (s : State) : State :=
  let t := s.holdAll hGate s.gateShut
  if s.gateShut then t.cutRamps else t

/-- Every transmit path goes off at the permit gate: outputs lose their weight at once, and resume from zero (R54, R60,
R62, R172). (DESIGN CHOICE: log 34) -/
def State.txOff (s : State) : State :=
  (s.enabled.foldl (fun s i =>
    let st := s.get (SLP.SLOT_STAT.STATE i)
    if st = stRampUp ∨ st = stOn then
      let g := sext 12 (s.get (SLP.GAIN_STAT.APPLIED i))
      ((((s.cut i).modSlot i fun x => { x with resume := true, muteGain := some g }).set (SLP.SLOT_STAT.STATE i) stHeld)).silence i
    else s.cut i) s).cutRamps

/-! Resets -/

/-- Registers that I00 and the NVM keep through a chip reset (R52, R56, R94, R358, R391, R404, R410). -/
def keptAddr (a : Nat) : Bool :=
  a == 0x2110 || a == 0x204C || a == 0x2050 || a == 0x4070 || a == 0x8068 || a == 0x6044 || a == 0x7098

/-- The reset causes of R56, with the bit of PWR.RESET_CAUSE. -/
inductive Cause where
  | por | pin | fault | pfail | wake
  deriving DecidableEq, Repr

/-- The cause's bit is set at the start of its reset (R56). -/
def State.markCause (s : State) : Cause → State
  | .por => s.set PWR.RESET_CAUSE.CHIP_POR 1
  | .pin => s.set PWR.RESET_CAUSE.PIN 1
  | .fault => s.set PWR.RESET_CAUSE.FAULT 1
  | .pfail => s.set PWR.RESET_CAUSE.PFAIL 1
  | .wake => s.set PWR.RESET_CAUSE.WAKE 1

/-- The reset is in force from an instant until its release. -/
def Rst.raise (r : Rst) (t : Nat) : Cause → Rst
  | .por => { r with por := true, loaded := false, faultWaits := false, porAt := t }
  | .pin => { r with pin := true, loaded := false, faultWaits := false, pinAt := t }
  | .fault => { r with fault := true, loaded := false, faultWaits := false, faultAt := t }
  | .pfail => { r with pfail := true, loaded := false, faultWaits := false, pfailAt := t }
  | .wake => { r with wake := true, loaded := false, faultWaits := false }

end Sys2Proof.Machine
end

