-- ==== Sys2Proof/Machine/BiasOps.lean ====
section
/-! DEFINITION. How a bias output moves: spans, targets, the slew limiter, range changes, generators, the safe state, freeze
and hold (12_bias_monitor.md R307 to R318). Channel 32 i + j is register j of page BIAi. -/
namespace Sys2Proof.Machine
open Sys2Proof

/-- Registers of a channel numbered 0 to 63. -/
def bCode (c : Nat) : Fld := BIA.STAT.CODE_NOW (c / 32) (c % 32)
def bSpan (c : Nat) : Fld := BIA.STAT.SPAN_NOW (c / 32) (c % 32)
def bState (c : Nat) : Fld := BIA.STAT.STATE (c / 32) (c % 32)
def bBound (c : Nat) : Fld := BIA.STAT.BOUND (c / 32) (c % 32)
def bGen (c : Nat) : Fld := BIA.CFG.GEN (c / 32) (c % 32)

/-- The values of BIA.STAT_j.STATE (R319). -/
abbrev bIdle : Nat := 0
abbrev bSlew : Nat := 1
abbrev bRange : Nat := 2
abbrev bGenSt : Nat := 3
abbrev bSafeSt : Nat := 4
abbrev bFrozen : Nat := 5
abbrev bHeld : Nat := 6
abbrev bClamp : Nat := 7

/-- A channel's running state. -/
def State.ch (s : State) (c : Nat) : BiasCh := Tab.get {} s.bias c

/-- A channel's running state changed. -/
def State.modCh (s : State) (c : Nat) (f : BiasCh → BiasCh) : State := { s with bias := Tab.upd {} s.bias c f }

/-- V_LOW and W of a span, in mV (R307). -/
def spanLow (sp : Nat) : Int := if sp = 2 then -2500 else if sp = 3 then -5000 else 0
def spanW (sp : Nat) : Int := if sp = 0 then 2500 else if sp = 3 then 10000 else 5000

/-- The channel's BIAS_SAFE bit as sampled (R35). -/
def State.safeHigh (s : State) (c : Nat) : Bool := tbit s.straps.biasSafe (c / 8)

/-- The code of the safe end of a span: its low or its high rail (R307). -/
def State.safeEnd (s : State) (c : Nat) : Nat := if s.safeHigh c then 0xFFFF else 0

/-- The crossover voltage of two spans, in mV/65,536: the higher low rail, or the lower high rail (R309). -/
def State.crossV (s : State) (c a b : Nat) : Int :=
  if s.safeHigh c then min (spanLow a * 65536 + spanW a * 65535) (spanLow b * 65536 + spanW b * 65535)
  else max (spanLow a * 65536) (spanLow b * 65536)

/-- A voltage in mV/65,536 as a code of a span, limited to the span. -/
def codeOf (sp : Nat) (v : Int) : Nat := (clampInt 0 0xFFFF ((v - spanLow sp * 65536) / spanW sp)).toNat

/-- The voltage of a code, in mV/65,536. -/
def voltOf (sp code : Nat) : Int := spanLow sp * 65536 + spanW sp * code

/-- The channel is SAFE (R314). -/
def State.isSafe (s : State) (c : Nat) : Bool := tbit (s.get (BIA.SAFE_STAT.SAFE (c / 32))) (c % 32)

/-- The transmit port whose PORT_CFG binds the channel (R312). -/
def State.boundPort (s : State) (c : Nat) : Option Nat :=
  (List.range 32).find? fun p => s.flag (PWT.PORT_CFG.BIAS_EN p) && s.get (PWT.PORT_CFG.BIAS_CH p) == c

/-- The bias code of a table entry of a port: the live profile that the live entry names (R280, R282). -/
def State.profCode (s : State) (p e : Nat) : Nat := Tab.get 0 s.pwtProf (512 + 16 * p + bits (Tab.get 0 s.pwt (8192 + 256 * p + e)) 28 4)

/-- Code and span that the channel moves to while no waveform drives it (R308, R312, R314). -/
def State.biasTarget (s : State) (c : Nat) : Nat × Nat :=
  if s.isSafe c then (bits (s.ch c).valP 0 16, bits (s.ch c).valP 16 2)
  else match s.boundPort c with
    | some p => (Tab.get 0 s.pwtCode p, s.get (bSpan c))
    | none => (s.get (BIA.VAL.CODE (c / 32) (c % 32)), s.get (BIA.VAL.SPAN (c / 32) (c % 32)))

/-- A waveform drives the channel (R311, R312, R314). -/
def State.generating (s : State) (c : Nat) : Bool :=
  s.get (bGen c) != 0 && !(s.ch c).stopped && !s.isSafe c && (s.boundPort c).isNone

/-- STEP in LSB and RATE in µs of the interval in progress: the stored ones while SAFE; a write of CFG acts from the next interval on
(R308, R314, R318). -/
def State.biasStep (s : State) (c : Nat) : Nat :=
  1 + if s.isSafe c then bits (s.ch c).cfgP 12 12 else ((s.ch c).hold.getD (s.get (BIA.CFG.STEP (c / 32) (c % 32)), 0)).1
def State.biasRate (s : State) (c : Nat) : Nat :=
  if s.isSafe c then bits (s.ch c).cfgP 0 10 else ((s.ch c).hold.getD (0, s.get (BIA.CFG.RATE (c / 32) (c % 32)))).2

/-- The channel moves, so that a written STEP and RATE wait for the next interval (R318). -/
def State.biasMoves (s : State) (c : Nat) : Bool :=
  !s.isSafe c && (s.get (bState c) == bSlew || s.get (bState c) == bRange || s.get (bState c) == bGenSt)

/-- STEP and RATE of the interval in progress are kept over a write of CFG (R318). -/
def State.keepInterval (s : State) (c : Nat) : State :=
  if s.biasMoves c then
    let h := some (s.biasStep c - 1, s.biasRate c)
    s.modCh c fun x => { x with hold := h }
  else s

/-- The channel's outputs may move: not clamped, frozen or held, and both bias rails within range (R313, R315, R317). -/
def State.biasFree (s : State) (c : Nat) : Bool :=
  let st := s.get (bState c)
  st != bClamp && st != bFrozen && st != bHeld && !s.flag (BIA.SUPPLY.LOW 0)

/-- What STATE reads when the channel rests at its target. -/
def State.restState (s : State) (c : Nat) : Nat := if s.isSafe c then bSafeSt else if s.generating c then bGenSt else bIdle

/-- Begin the move to the target in force, as a range change where its span differs (R308, R309). -/
def State.startMove (s : State) (c : Nat) : State :=
  let (code, sp) := s.biasTarget c
  let s := s.modCh c fun x => { x with spanTo := sp }
  if sp ≠ s.get (bSpan c) then (s.modCh c fun x => { x with range := 1 }).set (bState c) bRange
  else
    let s := s.modCh c fun x => { x with range := 0 }
    s.set (bState c) (if s.get (bCode c) = code ∨ s.isSafe c ∨ s.generating c then s.restState c else bSlew)

/-- The channel takes the target that is now in force, where it may move; a FROZEN one takes it when the limiters resume, and while a bias
supply is low STATE tells SAFE or rest (R314, R315, R317). (DESIGN CHOICE: log 55) -/
def State.retargetNow (s : State) (c : Nat) : State :=
  let st := s.get (bState c)
  if s.biasFree c then s.startMove c
  else if st = bClamp ∨ st = bFrozen ∨ st = bHeld then s
  else s.set (bState c) (s.restState c)

/-- Move from one code towards another by at most `step` (R308). -/
def slewTo (cur goal step : Nat) : Nat := if cur < goal then min (cur + step) goal else if goal + step < cur then cur - step else goal

/-- CODE_NOW takes a new value. -/
def State.setCode (s : State) (c v : Nat) : State :=
  if s.get (bCode c) = v then s
  else (s.modCh c fun x => { x with changedAt := s.now }).set (bCode c) v

/-- One step of the noise register x^31 + x^28 + 1: its output bit and the next content (R311). -/
def lfsrNext (v : Nat) : Bool × Nat :=
  let b := tbit v 30 != tbit v 27
  (tbit v 30, (2 * v + b.toNat) % 2 ^ 31)

/-- One interval of a waveform with a step of `st` (R311). -/
def State.genStep (s : State) (c st : Nat) : State :=
  let lo := s.get (BIA.GEN.LO (c / 32) (c % 32))
  let hi := s.get (BIA.GEN.HI (c / 32) (c % 32))
  let cur := s.get (bCode c)
  let x := s.ch c
  if cur < lo then s.setCode c (slewTo cur lo st)
  else if hi < cur then s.setCode c (slewTo cur hi st)
  else
    let g := s.get (bGen c)
    if g = 1 then
      let v := if x.up then slewTo cur hi st else slewTo cur lo st
      (s.modCh c fun x => { x with up := if v = hi then false else if v = lo then true else x.up }).setCode c v
    else if g = 2 then
      if x.saw then (s.modCh c fun x => { x with saw := false }).setCode c lo
      else
        let v := slewTo cur hi st
        (s.modCh c fun x => { x with saw := v = hi }).setCode c v
    else
      let (b, r) := lfsrNext x.lfsr
      let v := if b then (if cur + st ≤ hi then cur + st else max lo (2 * hi - (cur + st)))
               else (if lo + st ≤ cur then cur - st else min hi (2 * lo + st - cur))
      (s.modCh c fun x => { x with lfsr := r }).setCode c v

/-- A code lies in the interval of the channel's waveform (R311). -/
def State.inWave (s : State) (c v : Nat) : Bool :=
  decide (s.get (BIA.GEN.LO (c / 32) (c % 32)) ≤ v) && decide (v ≤ s.get (BIA.GEN.HI (c / 32) (c % 32)))

/-- One interval of RATE µs ends on a channel, no sooner than RATE after the interval before and the last change of its code; step 3 of a
range change ends for a waveform where its code reaches the interval (R308, R309, R311). (DESIGN CHOICE: log 55) -/
def State.slewTick (s : State) (c : Nat) : State :=
  if !s.biasFree c || s.resetting (0x0B + c / 32) then s
  else
    let s := s.until (max (s.ch c).changedAt (s.ch c).tickAt + us (s.biasRate c))
    let step := s.biasStep c
    let s := s.modCh c fun x => { x with tickAt := s.now, hold := none }
    let x := s.ch c
    let cur := s.get (bCode c)
    if x.range = 1 then
      let goal := codeOf (s.get (bSpan c)) (s.crossV c (s.get (bSpan c)) x.spanTo)
      let v := slewTo cur goal step
      (s.modCh c fun x => { x with range := if v = goal then 2 else 1, heldAt := s.now }).setCode c v
    else if x.range = 2 then s
    else if s.generating c ∧ (x.range = 0 ∨ s.inWave c cur) then
      ((s.modCh c fun x => { x with range := 0 }).genStep c step).set (bState c) bGenSt
    else if s.generating c then s.genStep c step
    else
      let goal := (s.biasTarget c).1
      let s := s.setCode c (slewTo cur goal step)
      if s.get (bCode c) = goal then (s.modCh c fun x => { x with range := 0 }).set (bState c) (s.restState c)
      else if x.range = 3 then s
      else s.set (bState c) (if s.isSafe c then bSafeSt else bSlew)

/-- The span switch at the end of the hold (R309). (DESIGN CHOICE: log 55) -/
def State.spanSwitch (s : State) (c : Nat) : State :=
  let x := s.ch c
  if x.range = 2 ∧ s.biasFree c then
    let s := s.until (x.heldAt + us 20)
    let v := s.crossV c (s.get (bSpan c)) x.spanTo
    ((s.modCh c fun x => { x with range := 3, changedAt := s.now }).set (bSpan c) x.spanTo).set (bCode c) (codeOf x.spanTo v)
  else s

/-- A channel enters SAFE: its waveform stops and its target becomes the stored power-up value. A channel that is HELD takes
it at the release; one that is already SAFE does not change (R314, R315). -/
def State.enterSafe (s : State) (c : Nat) : State :=
  if s.get (bState c) = bHeld then s.modCh c fun x => { x with safeDue := true }
  else if s.isSafe c then s
  else
    let s := s.putBit (BIA.SAFE_STAT.SAFE (c / 32)) (c % 32) true
    (s.modCh c fun x => { x with hold := none }).retargetNow c

/-- The bias-safe reaction: every channel whose SAFE_MASK bit is 1 (R314). -/
def State.biasSafe (s : State) : State :=
  ((List.range 64).filter fun c => tbit (s.get (BIA.SAFE_MASK.MASK (c / 32))) (c % 32)).foldl (fun s c => s.enterSafe c) s

/-- The reset clamp: default span, code of the safe end (R39, R317). -/
def State.clampCh (s : State) (c : Nat) : State :=
  (((s.modCh c fun x => { x with range := 0, spanTo := 3, changedAt := s.now }).set (bSpan c) 3).set (bCode c) (s.safeEnd c)).set (bState c) bClamp

/-- STANDBY or SLEEP freezes the limiters (R315). -/
def State.biasFreeze (s : State) : State :=
  (List.range 64).foldl (fun s c =>
    if s.get (bState c) = bClamp ∨ s.get (bState c) = bHeld then s else s.set (bState c) bFrozen) { s with iced := true }

/-- The limiters and waveforms resume: a range change goes on from where it stood, unless its target has changed to another span (R315). -/
def State.biasThaw (s : State) : State :=
  (List.range 64).foldl (fun s c =>
    if s.get (bState c) = bFrozen then
      (if (s.ch c).range = 0 ∨ (s.biasTarget c).2 ≠ (s.ch c).spanTo then s.startMove c else s.set (bState c) bRange)
    else s) { s with iced := false }

end Sys2Proof.Machine
end

