-- ==== Sys2Proof/Machine/Restart.lean ====
section
/-! DEFINITION. What a block reset restarts in each block, and how the application cores are held (R447, R380). -/
namespace Sys2Proof.Machine
open Sys2Proof

/-- The application cores are held in reset: no core runs, and M4 makes no access (R380, R383). -/
def State.holdCores (s : State) : State :=
  { (((s.set APC.CORE_STAT.RUN 0).set APC.CORE_STAT.HALTED 0).set SEC.BOOT_STAT.CORES 0) with trapHold := true }

/-- The slots that a block reset of a forward-path group or of a slot page covers (R447). -/
def State.covered (s : State) (p : Nat) : List Nat :=
  s.active.filter fun i => (0x18 ≤ p && p < 0x20 && i / 64 == p - 0x18) || (0x40 ≤ p && i / 8 == p - 0x40)

/-- Fields that report running state report the restarted one. -/
def State.clearFlds (s : State) (fs : List Fld) : State := fs.foldl (fun s f => s.set f f.rst) s

/-- A slot's estimator restarts with the observation block. -/
def State.restartObs (s : State) (i : Nat) : State :=
  { s.clearFlds [OBS.SUM0.WORST_LG i, OBS.SUM0.WORST_BIN i, OBS.SUM1.IPHYS_MIN i, OBS.SUM1.HIST i, OBS.SUM1.VALID_BINS i] with
    gov := Tab.upd {} s.gov i fun g => { g with est := [], frames := 0, afterN := 0, after := [], reseed := 0, step := [], capOk := false } }

/-- A block reset of the forward path: a covered slot carries no signal, and a pending commit is abandoned (R447). -/
def State.restartSlot (s : State) (i : Nat) : State :=
  let s := s.modSlot i fun x => { x with xfade := false, xcommit := false, xfadeProf := false, resume := false, result := false }
  let s := ((s.cut i).modSlot i fun x => { x with endAt := none, old := none, inReset := true }).restartObs i
  let s := if s.flag (SLP.SLOT_STAT.COMMIT_PEND i) then s.set (SLP.SLOT_STAT.COMMIT_PEND i) 0 else s
  s.set (SLP.SLOT_STAT.HIST_VALID i) 0

/-- The canceller restarts: no job is queued, runs or is due, and warm loads and results that wait are dropped. -/
def State.restartCan (s : State) : State :=
  let s := s.active.foldl (fun s i =>
    { s.set (CAN.SLOT_INFO.WARM_PEND i) 0 with
      canS := Tab.upd {} s.canS i fun c => { c with adaptAt := none, warmAt := none, lastAdapt := none, divWin := 0 } }) s
  { s with can := { s.can with deques := [], run := [], retry := [], due := [], warmQ := [] } }

/-- A cluster restarts: the jobs that it holds or queues are lost. -/
def State.restartCluster (s : State) (k : Nat) : State :=
  { s with can := { s.can with
      deques := s.can.deques.filter fun e => e.1 / 16 != k
      run := s.can.run.filter fun e => e.1 / 16 != k
      retry := s.can.retry.filter fun e => e.1 / 16 != k } }

/-- Clover restarts: its loops from zero states, its period count from 0. -/
def State.restartClover (s : State) : State :=
  let s := s.clearFlds (CLV.PERIOD.COUNT :: (List.range 544).map CLV.LOOP_STAT.OBSV)
  { s with loops := [], clv := { s.clv with start := s.now, writeDue := false, order := [] } }

/-- Injection and captures end. -/
def State.restartCap (s : State) : State :=
  let s := s.clearFlds [CAP.INJ_CTL.ACTIVE, CAP.LCAP_CTL.ARMED, CAP.LCAP_CTL.DONE, CAP.IQ_CTL.ARMED, CAP.IQ_CTL.DONE]
  { s with clv := { s.clv with injDue := false, injN := 0, inj := 0, lfsr := 0, lcapPos := 0, lcapN := 0, lcapLeft := none, lcapHit := false, iqTrig := none } }

/-- A front-end page restarts: its sequencer starts again at a boundary where RUN is 1, its lines take their idle levels, and its RFFE
buses drop their frames. -/
def State.restartFec (s : State) (k : Nat) : State :=
  let s := (s.clearFlds [FEC.SEQ_CTL.RUNNING k, FEC.RFFE_RD.BUSY k]).set (FEC.LEVEL.NOW k) (s.get (FEC.IDLE.LEVEL k))
  { s with
    lineAt := s.lineAt.filter fun e => e.1 / 32 != k
    fecs := Tab.upd {} s.fecs k fun x => { x with startDue := s.flag (FEC.SEQ_CTL.RUN k), startAt := s.now, sched := [] }
    buses := Tab.upd {} (Tab.upd {} s.buses (2 * k) fun b => { b with queue := [], cur := none, readWait := false, readRun := false })
      (2 * k + 1) fun b => { b with queue := [], cur := none, readWait := false, readRun := false } }

/-- Donor sync restarts its search (R271). -/
def State.restartTdd (s : State) : State :=
  let sync := (List.range 16).filter fun p => s.get (TDD.SYNC_STAT.STATE p) != 0
  let s := sync.foldl (fun s p => s.clearFlds [TDD.SYNC_STAT.STATE p, TDD.SYNC_STAT.MISSES p]) s
  { s with pats := s.pats.map fun e => (e.1, if sync.contains e.1 then { e.2 with timing := false, good := 0, step := 0 } else e.2) }

/-- The power tables restart: ports off, no step and no enable pending. -/
def State.restartPwt (s : State) : State :=
  { s.clearFlds [PWT.TXON.ON, PWT.TXPEND.PEND] with pwtStepAt := [], txenAt := [] }

/-- Chicory restarts: queues empty, every stream's frame in progress lost, every lane without lock. -/
def State.restartLnk (s : State) : State :=
  let s := s.clearFlds ((List.range 16).map LNK.LANE_STAT.UP)
  let s := (List.range 16).foldl (fun s l => s.put (LNK.LANE_STAT.LFAULT l) (s.flag (LNK.LANE_CTL.EN l))) s
  let s := s.clearFlds ([LNK.RXQ_STAT.VALID, LNK.RXQ_STAT.LEVEL, LNK.TXQ_CTL.BUSY] ++ (List.range 16).map CAN.EXT_REF.LIVE)
  { s with lnk := { s.lnk with rxq := [], rxPos := 0, tx := [] }, exps := s.exps.map fun e => (e.1, { e.2 with gap := true }) }

/-- A bias page restarts: the waveforms of its channels from their starts, its read-back counts from none. -/
def State.restartBias (s : State) (h : Nat) : State :=
  (List.range 32).foldl (fun s j => s.modCh (32 * h + j) fun x => { x with up := true, saw := false, lfsr := 1, miss := 0 }) s

/-- A failed image: the application-core memory is zeroed (R365). -/
def State.dropImage (s : State) : State := { s with tansy := { s.tansy with mem := [], entry := 0 } }

/-- A FW_LOAD that ends with ABORTED has failed (R365). (DESIGN CHOICE: log 60) -/
def State.dropLoad (s : State) : State := if s.get SEC.MBX_STAT.LAST = 4 then s.dropImage else s

/-- The mailbox shows the result of a command that has ended (R370, R371). -/
def State.mbxOver (s : State) (result : Nat) : State :=
  let s := { s with tansy := { s.tansy with words := [], need := 0, writing := false } }
  ((s.set SEC.MBX_STAT.BUSY 0).set SEC.MBX_STAT.DATA_WAIT 0).set SEC.MBX_STAT.RESULT result

/-- A profile change in progress starts again with its first step. (DESIGN CHOICE: log 73) -/
def State.restartProf (s : State) : State :=
  { s with prof := { s.prof with begun := false, at_ := s.now, ready := if s.prof.phase = 2 then s.now else s.now + us 20 } }

/-- The timers of a power-state transition and of the rises of the engine rails start anew. (DESIGN CHOICE: log 73) -/
def State.restartPwr (s : State) : State :=
  { s with tr := s.tr.map fun t => { t with at_ := s.now }, rails := s.rails.map fun e => (e.1, { e.2 with at_ := s.now }) }

/-- The NVM controller restarts: no region write runs or waits; one that Tansy or a snapshot asked for ends. (DESIGN CHOICE: log 73) -/
def State.restartNvm (s : State) : State :=
  let own := s.nvm.queue.any (·.tansy)
  let snap := s.flag CAN.SNAP_STAT.BUSY
  let s := s.clearFlds [NVM.STAT.BUSY, NVM.STAT.REGION, NVM.CAL_CTL.PEND, NVM.BPT_CTL.PEND, NVM.HDR_CTL.PEND, CAN.SNAP_STAT.BUSY]
  let s := { s with nvm := { s.nvm with queue := [] } }
  let s := if snap then s.set CAN.SNAP_STAT.RESULT 3 else s
  if own then s.mbxOver 0x0B else s

/-- Tansy restarts: the mailbox command in progress is aborted, what it has still to write is dropped, and no challenge stands.
(DESIGN CHOICE: log 73) -/
def State.restartSec (s : State) : State :=
  let s := { s with tansy := { s.tansy with outq := [], nonceDbg := none, nonceFtm := none } }
  let l := s.nvm.queue.filter fun (q : NvmReq) => !q.tansy
  let s := ({ s with nvm := { s.nvm with queue := l } } : State).put NVM.STAT.BUSY (!l.isEmpty)
  let s := s.set NVM.STAT.REGION ((l.head?.map (·.region)).getD 0)
  if s.flag SEC.MBX_STAT.BUSY then s.dropLoad.mbxOver 0x0E else s

/-- The application cores start again where they are released, with their watchdogs (R383, R385). (DESIGN CHOICE: log 73) -/
def State.restartCores (s : State) : State :=
  let s := if s.flag SEC.BOOT_STAT.CORES then (s.set APC.CORE_STAT.RUN 15).set APC.CORE_STAT.HALTED 0 else s
  { s with tansy := { s.tansy with kickAt := (List.range 4).foldl (fun t k => Tab.set 0 t k s.now) [] } }

/-- The PCIe link falls back to Detect; one that stood in L0 is counted (R109). (DESIGN CHOICE: log 73) -/
def State.restartPci (s : State) : State :=
  let s := if s.get PCI.LINK_STAT.LTSSM = 3 then s.count PCI.CNT.DOWN 1 else s
  s.clearFlds [PCI.LINK_STAT.UP, PCI.LINK_STAT.SPEED, PCI.LINK_STAT.WIDTH, PCI.LINK_STAT.LTSSM]

/-- A channel change or a retry in progress starts again with its first step. -/
def State.restartSyn (s : State) : State :=
  (List.range 8).foldl (fun s n =>
    if 1 ≤ s.get (SYN.SYN_STAT.STEP n) ∧ s.get (SYN.SYN_STAT.STEP n) ≤ 7 then
      { ((s.set (SYN.SYN_STAT.STEP n) 1).set (SYN.SYN_STAT.READY n) 0).set (SYN.SYN_STAT.LOCK n) 0 with
        cnv := Tab.upd {} s.cnv n fun x => { x with at_ := s.now } }
    else s) s

/-- A converter's, a group's or a slot page's reset makes the input of its slots invalid from now on (R69, R447). -/
def State.badFrom (s : State) (p : Nat) : State :=
  (s.covered p ++ s.active.filter fun i => 0x10 ≤ p && p < 0x18 && i / 64 == p - 0x10).foldl (fun s i =>
    s.modSlot i fun x => { x with badAt := some (x.badAt.getD s.now) }) s

/-- The running state of a page's block restarts; configuration, tables and coefficient sets are kept (R447). What other rules bind to a
chip reset alone stays: the owner, the power state, the records in the buffer and the level of thermal enforcement.
(DESIGN CHOICE: log 73) -/
def State.restart (s : State) (p : Nat) : State :=
  let s := s.badFrom p
  if (0x18 ≤ p ∧ p < 0x20) ∨ 0x40 ≤ p then (s.covered p).foldl (fun s i => s.restartSlot i) s
  else if p = 0x00 then s.restartProf
  else if p = 0x02 then s.restartPwr
  else if p = 0x03 then { s with thm := { s.thm with hsAt := s.now } }
  else if p = 0x06 then { s with evt := { s.evt with flushing := false, latching := false } }
  else if p = 0x07 then s.restartNvm
  else if p = 0x08 then s.restartSec
  else if p = 0x0F then { s with lockCmpAt := s.now }
  else if p = 0x2E then s.restartCores
  else if p = 0x04 then { s with flt := { s.flt with keyAt := none } }
  else if p = 0x09 then { s with thm := { s.thm with same := [], moves := [], coolAt := none } }
  else if p = 0x0A then
    { s with mon := { s.mon with pass := [], next := [], queue := [], pair := [], mode := s.get MON.CTL.MODE, mode1 := s.get MON.CTL.MODE } }
  else if p = 0x0B ∨ p = 0x0C then s.restartBias (p - 0x0B)
  else if p = 0x0D then s.restartSyn
  else if p = 0x0E then s.restartTdd
  else if 0x10 ≤ p ∧ p < 0x18 then
    { s with cnv := Tab.upd {} s.cnv (p - 0x10) fun x => { x with conv := [], dwellAt := [(0, s.now), (1, s.now)] } }
  else if p = 0x20 then s.restartCan
  else if p = 0x21 then s.active.foldl (fun s i => s.restartObs i) s
  else if p = 0x22 then s.restartClover
  else if p = 0x23 then { s with gov := s.gov.map fun e => (e.1, { e.2 with capN := 0, capOk := true, capValid := 0, clean := 0 }) }
  else if p = 0x24 then s.restartCap
  else if 0x25 ≤ p ∧ p < 0x29 then s.restartFec (p - 0x25)
  else if p = 0x29 then
    { s.clearFlds ((List.range 8).flatMap fun d => [DIV.STAT.PEND d, DIV.STAT.DIFF d]) with divs := [] }
  else if p = 0x2A then s.restartPwt
  else if p = 0x2B then s.restartLnk
  else if p = 0x2C then s.restartPci
  else if p = 0x2D then { s with ports := { s.ports with i2cSet := 0, lastWr := [] } }
  else if 0x30 ≤ p ∧ p < 0x40 then s.restartCluster (p - 0x30)
  else s

end Sys2Proof.Machine
end

