-- ==== Sys2Proof/Machine/Fire.lean ====
section
/-! DEFINITION. A source fires: status bits, record and reactions; chip resets, block resets and the radiate permit, which
are among the reactions. -/
namespace Sys2Proof.Machine
open Sys2Proof

/-! Chip reset -/

/-- An NVM word group is in progress: a region write runs (R394, R396). -/
def Nvm.group (n : Nvm) : Bool := !n.queue.isEmpty

/-- A chip reset cuts the region writes that are not committed: the old content stays (R395). -/
def Nvm.afterReset (n : Nvm) : Nvm := { n with queue := [], staged := [] }

/-- A chip reset begins: every island but I00 takes its reset state, all transmission off with it. I00, the NVM, the
one-time-programmable memory and, but for a chip power-on reset, the event buffer are kept (R52, R54, R57, R414).
(DESIGN CHOICE: log 55) -/
def State.chipReset (s : State) (c : Cause) : State :=
  let s := s.markCause c
  { State.reset with
    pending := s.pending, now := s.now, fresh := s.fresh, board := s.board, straps := s.straps
    reg := s.reg.filter fun e => keptAddr (e.1 / 32)
    rst := s.rst.raise s.now c
    aon := { s.aon with asleep := false, trip := s.aon.trip && c == .fault, waking := s.aon.waking && c != .por, pcycDue := s.aon.pcycDue || c == .por }
    evt := { s.evt with buf := if c == .por then [] else s.evt.buf, flushing := false, latching := false, refillAt := []
                        lossFlag := s.evt.lossFlag }
    otp := s.otp, nvm := s.nvm.afterReset }

/-- Page number that PWR.RESET_CAUSE.FAULT_PAGE shows (R56, R346). -/
def faultPage (p : Nat) : Nat := if 0x40 ≤ p then 0x3F else p

/-- The fault chip reset begins (R53, R344). -/
def State.faultReset (s : State) (p : Nat) : State :=
  ({ s with aon := { s.aon with trip := s.aon.trip } }.set PWR.RESET_CAUSE.FAULT_PAGE (faultPage p)).chipReset .fault

/-- A chip reset reaction: it waits for an NVM word group in progress, or for the power-fail reset; transmission goes off
in any case. One that waits stays the cause, unless the trip comes, whose reset names page 0x09 (R334, R336, R344). -/
def State.reactChip (s : State) (p : Nat) (trip : Bool) : State :=
  if s.rst.faultWaits && !trip then s
  else
    let s := { s with aon := { s.aon with trip := trip } }
    if s.rst.pf == .running || s.nvm.group then { s.txOff with rst := { s.rst with faultWaits := true, waitPage := p } }
    else s.faultReset p

/-! Block reset -/

/-- A block reset of a page begins, and with it the reset shadow of its dependents (R55, R350, R447). A block reset already
running is not restarted. -/
def State.blockReset (s : State) (p : Nat) : State :=
  if s.flag (HDR.PAGE_STAT.RESET_ACTIVE p) then s
  else
    let s := (s.set (HDR.PAGE_STAT.RESET_ACTIVE p) 1).set (HDR.PAGE_CTL.SOFT_RESET p) 1
    let s := { s with flt := { s.flt with shadows := s.flt.shadows.set none p (some 0) } }
    s.restart p

/-! Bias safe and trap -/

/-- A trap of a source other than a tamper source reaches Tansy (R383). -/
def State.trap (s : State) (p b : Nat) : State :=
  if (srcOf (srcKey p b)).sec then s
  else
    let s := ((s.set SEC.TRAP_NOTE.VALID 1).set SEC.TRAP_NOTE.PAGE p).set SEC.TRAP_NOTE.BIT b
    if s.flag SEC.TRAP_CFG.HALT then s.holdCores else s

/-- A trap is delivered: Tansy handles it, and the application cores receive it as a non-maskable interrupt (R342, R383). -/
def State.trapAll (s : State) (p b : Nat) : State := ({ s with nmi := s.nmi + 1 } : State).trap p b

/-- The terminal latch is set; a later firing leaves FLT.TERM unchanged (R349). -/
def State.latchTerminal (s : State) (p b : Nat) (forced : Bool) : State :=
  if s.flag FLT.TERM.SET then s
  else ((((s.set FLT.TERM.SET 1).put FLT.TERM.FORCED forced).set FLT.TERM.PAGE p).set FLT.TERM.BIT b).set PWR.RESET_CAUSE.TERMINAL 1

/-! Firing -/

/-- The status bits of a firing source (R340, R344). -/
def State.status (s : State) (p b : Nat) : State :=
  let s := s.putBit (HDR.IRQ_STAT.BITS p) b true
  if s.srcCls p b = 0 then s
  else
    let first := s.get (HDR.ERR_STAT.BITS p) = 0
    let s := s.putBit (HDR.ERR_STAT.BITS p) b true
    if first then (s.set (HDR.ERR_FIRST.VALID p) 1).set (HDR.ERR_FIRST.BIT p) b else s

/-- The bit that gates a new firing is set: ERR_STAT for class 1 and higher, IRQ_STAT for class 0 (R340). -/
def State.gated (s : State) (p b : Nat) : Bool :=
  if s.srcCls p b = 0 then tbit (s.get (HDR.IRQ_STAT.BITS p)) b else tbit (s.get (HDR.ERR_STAT.BITS p)) b

/-- What a firing brings but for resets: the consequences bound to its class, the flush and the terminal latch, and bias safe and trap as
the reactions `r` have them, bit 4 BSAFE, 2 CRST, 1 BRST, 0 TRAP (R342, R344, R349, R413). -/
def State.softReact (s : State) (p b r cls : Nat) (forced : Bool) : State :=
  let s := if 2 ≤ cls then s.startFlush else s
  let s := if tbit r 4 then s.biasSafe else s
  let s := if tbit r 0 then s.trapAll p b else s
  if cls = 4 then s.latchTerminal p b forced else s

/-- The reset that the firings of a page ask for, each as its bit and its reactions; a chip reset prevails over a block reset (R344,
R357). -/
def State.hardReact (s : State) (p : Nat) (l : List (Nat × Nat)) : State :=
  if l.any fun x => tbit x.2 2 then s.reactChip p (p == 0x09 && l.any fun x => x.1 == THM.src.THM_TRIP)
  else if l.any fun x => tbit x.2 1 then s.blockReset p
  else s

/-- The reactions of a firing (R342, R344, R357). -/
def State.reactions (s : State) (p b r cls : Nat) (forced : Bool) : State := (s.softReact p b r cls forced).hardReact p [(b, r)]

/-- The status bits and the record of an occurrence of source `b` of page `p`, whose record enters as `log` has it, with the reactions and
the class of a firing. It fires unless its page is off, it is shadowed, or its status bit is still set; in the last two cases it is
recorded alone. A masked source has no reaction, while what is bound to its class stays (R340, R344, R345, R350, R357, R417). -/
def State.marks (s : State) (log : State → Rec → State) (p b : Nat) (w : Why) : State × Option (Nat × Nat) :=
  if !s.canFire p b then (s, none)
  else if s.shadowed p b then (log (s.count FLT.SHADOW.COUNT 1) (s.srcRec p b 0 true w), none)
  else if s.gated p b then (log s (s.srcRec p b 0 false w), none)
  else
    let r := if s.masked p b then 0 else s.srcReact p b
    let cls := s.srcCls p b
    let s := (s.status p b).updFirst p
    (log s (s.srcRec p b r false w), some (r, cls))

/-- An occurrence of a source with its reactions. -/
def State.occurs (s : State) (log : State → Rec → State) (p b : Nat) (w : Why) : State :=
  let x := s.marks log p b w
  match x.2 with
  | none => x.1
  | some q => x.1.reactions p b q.1 q.2 w.forced

/-- A record enters the buffer; one that is dropped or given up for it raises EVT_DROP. What the record of EVT_DROP itself displaces is
counted alone (R408, R412). (DESIGN CHOICE: log 65) -/
def State.log (s : State) (r : Rec) : State :=
  let x := s.note r
  if x.2 then x.1.occurs (fun t q => (t.note q).1) 0x06 EVT.src.EVT_DROP {} else x.1

/-- The terminal latch withdraws the radiate permit at once, also while the chip reset of its firing still waits (R299, R344, R349). -/
def State.termPermit (s : State) : State :=
  if s.flag FLT.TERM.SET && s.flag GOV.PERMIT.PERMIT && !s.inReset then
    ((s.set GOV.PERMIT.PERMIT 0).set GOV.PERMIT.CAUSE 4).syncGate.occurs State.log 0x23 GOV.src.PERMIT_CHG { detail := [0, 4] }
  else s

/-- An occurrence of source `b` of page `p`, with its record. -/
def State.fire (s : State) (p b : Nat) (w : Why) : State :=
  let x := s.marks State.log p b w
  match x.2 with
  | none => x.1
  | some q => (x.1.reactions p b q.1 q.2 w.forced).termPermit

/-- A condition source's condition holds. -/
def State.holds (s : State) (p b : Nat) : Bool := s.flt.conds.contains (srcKey p b)

/-- A condition begins: its source fires (R340). -/
def State.condBegin (s : State) (p b : Nat) (w : Why) : State :=
  if s.holds p b then s
  else { s with flt := { s.flt with conds := NSet.add s.flt.conds (srcKey p b) } }.fire p b w

/-- A condition ends (R340). -/
def State.condEnd (s : State) (p b : Nat) : State :=
  { s with flt := { s.flt with conds := NSet.rem s.flt.conds (srcKey p b) } }

/-! The radiate permit -/

/-- The first condition of the permit that fails, as GOV.PERMIT.CAUSE names it, in the order of R299. -/
def State.permitFails (s : State) : Option Nat :=
  if s.flag FLT.TERM.SET then some 4
  else if s.flag SEC.STATE.LOCK then some 2
  else if s.get REGL.STATE.STATE ≠ 1 ∨ !s.lockSig then some 3
  else if !s.lockSame then some 6
  else if !s.flag CLK.OSC_STAT.REF_OK then some 5
  else if !(s.straps.bootSrc == 3 || s.flag SEC.BOOT_STAT.DONE) then some 7
  else none

/-- The permit follows its conditions; each change of the line raises PERMIT_CHG and moves the GATE holds (R158, R299). -/
def State.updPermit (s : State) : State :=
  match s.flag GOV.PERMIT.PERMIT, s.permitFails with
  | true, some c =>
    let s := (s.set GOV.PERMIT.PERMIT 0).set GOV.PERMIT.CAUSE c
    s.syncGate.fire 0x23 GOV.src.PERMIT_CHG { detail := [0, c] }
  | false, none =>
    let s := s.set GOV.PERMIT.PERMIT 1
    s.syncGate.fire 0x23 GOV.src.PERMIT_CHG { detail := [1, s.get GOV.PERMIT.CAUSE] }
  | _, _ => s

/-! Condition sources of the slot pages -/

/-- A slot of page `0x40 + j` meets a condition. -/
def State.slotOf (s : State) (j : Nat) (f : Nat → Bool) : Option Nat := s.active.find? fun i => i / 8 == j && f i

/-- A condition source of a slot page follows its condition; the record names the slot whose change began it (R444). -/
def State.follow (s : State) (j b : Nat) (f : Nat → Bool) : State :=
  match s.slotOf j f with
  | some i => s.condBegin (0x40 + j) b { slot := some i }
  | none => if s.holds (0x40 + j) b then s.condEnd (0x40 + j) b else s

/-- HELD and PROT_MUTE of every slot page follow the slots (R444). -/
def State.settle (s : State) : State :=
  (List.range 64).foldl (fun s j =>
    (s.follow j SLP.src.HELD fun i => s.get (SLP.SLOT_STAT.STATE i) == stHeld).follow j SLP.src.PROT_MUTE fun i =>
      tbit (s.get (SLP.SLOT_STAT.HOLD i)) hProtect) s

/-- The outcome of a command that may change the holds of slots. -/
def ok (s : State) : Host.Outcome State Fault Refusal := .next s.settle

end Sys2Proof.Machine
end

