-- ==== Sys2Proof/Machine/OwnOps.lean ====
section
/-! DEFINITION. How ownership changes hands, and what is over by now: elections, lapses and offers (R115 to R124); and the mailbox
command that a change of EPOCH ends (R370). -/
namespace Sys2Proof.Machine
open Sys2Proof

/-- A mailbox command in progress ends with a result and raises MBX_DONE (R370). -/
def State.mbxEnd (s : State) (result : Nat) : State := (s.mbxOver result).fire 0x08 SEC.src.MBX_DONE {}

/-- A change of EPOCH ends a command that still waits for its words (R370). -/
def State.mbxEpoch (s : State) : State := if s.flag SEC.MBX_STAT.DATA_WAIT then s.dropLoad.mbxEnd 0x0E else s

/-- The instant at which the heartbeat timer reaches its limit (R120). -/
def State.beatEnd (s : State) : Nat := s.own.beatAt + ms (s.get OWN.BEAT_MAX.MS)

/-- The values of OWN.OWN_STAT.STATE (R115). -/
abbrev oVacant : Nat := 0
abbrev oElection : Nat := 1
abbrev oOwned : Nat := 2
abbrev oHandover : Nat := 3

/-- The detail of an ownership record (R418). -/
def State.ownDetail (s : State) : List Nat :=
  [s.get OWN.OWN_STAT.OWNER, s.get OWN.OWN_STAT.EPOCH] ++ leBytes 2 (s.get OWN.OWN_STAT.NONCE) ++ [s.get OWN.OWN_STAT.STATE]

/-- A source of page OWN about the owner. -/
def State.ownNote (s : State) (b m : Nat) : State := s.fire 0x01 b { master := m, detail := s.ownDetail }

/-- A new owner: OWNER, NONCE, STATE = OWNED, EPOCH, and the heartbeat timer, which runs from the instant `t` (R116, R123). -/
def State.setOwner (s : State) (m nonce t : Nat) : State :=
  let s := ((s.set OWN.OWN_STAT.STATE oOwned).set OWN.OWN_STAT.OWNER m).set OWN.OWN_STAT.NONCE nonce
  let s := (s.wrap OWN.OWN_STAT.EPOCH).set FLT.INJ.EN 0
  State.mbxEpoch { s with own := { s.own with beatAt := t, claims := [] } }

/-- Ownership becomes vacant, and an offer in progress is cancelled with it: RESULT says so, and TARGET names nobody (R120, R122, R123).
(DESIGN CHOICE: log 36) -/
def State.vacate (s : State) : State :=
  let s := if s.get OWN.OWN_STAT.STATE = oHandover then (s.set OWN.HANDOVER.RESULT 4).set OWN.HANDOVER.TARGET 7 else s
  (((s.set OWN.OWN_STAT.STATE oVacant).set OWN.OWN_STAT.OWNER 7).set OWN.OWN_STAT.NONCE 0).wrap OWN.OWN_STAT.EPOCH |>.set FLT.INJ.EN 0 |>.mbxEpoch

/-! Ends of their times -/

/-- Priority of a master from the MPRIO straps (R35). -/
def State.prio (s : State) (m : Nat) : Nat := bits s.straps.mprio (2 * m) 2

/-- The claimant of highest priority, the lowest-numbered of equals (R116). -/
def State.winner (s : State) : Option (Nat × Nat) :=
  s.own.claims.foldl (fun b e => match b with
    | none => some e
    | some x => if s.prio x.1 < s.prio e.1 then some e else b) none

/-- The end of the election window at its instant, from which the owner's heartbeat counts (R116). -/
def State.electNow (s : State) : State :=
  match s.winner with
  | none => s
  | some (m, nonce) => (s.setOwner m nonce (s.own.windowAt + ms 10)).ownNote OWN.src.OWN_CHANGED m

/-- The lapse, and the end of an offer that nobody accepted, each at its instant (R120, R123). -/
def State.lapseNow (s : State) : State := s.vacate.ownNote OWN.src.LAPSED 7
def State.offerNow (s : State) : State :=
  (((s.set OWN.OWN_STAT.STATE oOwned).set OWN.HANDOVER.RESULT 2).set OWN.HANDOVER.TARGET 7).ownNote OWN.src.HANDOVER_FAIL 7

/-- An offer ends before the heartbeat runs out (R123, R124). -/
def State.offerFirst (s : State) : Bool := s.get OWN.OWN_STAT.STATE == oHandover && decide (s.own.offerAt + ms 100 < s.beatEnd)

/-- The end of the election window (R116). -/
def State.elect (s : State) : State :=
  if s.inReset || s.get OWN.OWN_STAT.STATE != oElection then s else (s.until (s.own.windowAt + ms 10)).electNow

/-- The timer reaches BEAT_MAX.MS, after the end of an offer that ends before it (R120, R123). -/
def State.lapse (s : State) : State :=
  if s.inReset || s.get OWN.OWN_STAT.STATE < oOwned then s
  else
    let s := s.until s.beatEnd
    (if s.offerFirst then s.offerNow else s).lapseNow

/-- No acceptance within t_HAND; a lapse that comes no later ends the offer (R123, R124). -/
def State.offerEnd (s : State) : State :=
  if s.inReset || s.get OWN.OWN_STAT.STATE != oHandover then s
  else
    let s := s.until (s.own.offerAt + ms 100)
    if s.offerFirst then s.offerNow else s.lapseNow

/-- The heartbeat's time, the election window's and the offer's are over by now. -/
def State.beatOver (s : State) : Bool := 2 ≤ s.get OWN.OWN_STAT.STATE && decide (s.beatEnd ≤ s.now)
def State.windowOver (s : State) : Bool := s.get OWN.OWN_STAT.STATE == oElection && decide (s.own.windowAt + ms 10 ≤ s.now)
def State.offerOver (s : State) : Bool := s.get OWN.OWN_STAT.STATE == oHandover && decide (s.own.offerAt + ms 100 ≤ s.now)

/-- Nothing of ownership is over by now. -/
def State.ownCalm (s : State) : Bool := !s.beatOver && !s.windowOver && !s.offerOver

/-- What is over by now takes effect before anything that arrives now, in the order of its instants (R116, R120, R123, R124).
(DESIGN CHOICE: log 2) -/
def State.ownDue (s : State) : State :=
  if s.inReset then s
  else
    let s := if s.windowOver then s.elect else s
    let s := if s.offerOver then s.offerEnd else s
    if s.beatOver then s.lapse else s

end Sys2Proof.Machine
end

