-- ==== Sys2Proof/Machine/Operands.lean ====
section
/-! DEFINITION. A write by a master on its way through the register fabric: write rights, delegation, off pages and reserved
values, and what becomes of a write that is dropped (R4 to R9, R98, R101, R125 to R127). -/
namespace Sys2Proof.Machine
open Sys2Proof

/-- The page of a byte address. -/
def pageOf (a : Nat) : Nat := a / 0x1000

/-- Master `m` is the owner, and its heartbeat has not run out (R116, R120, R123). -/
def State.owns (s : State) (m : Master) : Bool :=
  2 ≤ s.get OWN.OWN_STAT.STATE && s.get OWN.OWN_STAT.OWNER == m.num && decide (s.now < s.beatEnd)

/-- Pages that no delegation reaches (R127). -/
def undelegable (p : Nat) : Bool := p == 0x01 || p == 0x08 || p == 0x0F || p == 0x2F

/-- Field firmware may write page `p` (R127). -/
def State.delegated (s : State) (p : Nat) : Bool := tbit (s.get (OWN.DELEGATE.MASK (p / 32))) (p % 32) && !undelegable p

/-- Field firmware may write PAGE_CTL.CLK_REQ of page `p`, and nothing else of it, because CLK is delegated (R127). -/
def State.clkReqOnly (s : State) (m : Master) (a : Nat) : Bool :=
  m == .m4 && a % 0x1000 == 8 && !s.delegated (pageOf a) && s.delegated 0x03 && !undelegable (pageOf a)

/-- The write is one of those open to the master without ownership (R126). -/
def openWrite (m : Master) (a : Nat) (v : Word) : Bool :=
  (a == 0x1040 && m != .m4 && !v.getLsbD 16) || (a == 0x1054 && m != .m4)
    || (m != .m4 && a == 0x5040 + 4 * m.num) || (a == 0x48 && v.getLsbD 8)

/-- Beats and clears that even an owner or delegate may be refused (R119, R128). -/
def State.beatOrClear (s : State) (m : Master) (a : Nat) (v : Word) : Bool :=
  if a = 0x1048 then s.owns m && (bits v.toNat 0 16 == s.get OWN.OWN_STAT.NONCE || bits v.toNat 0 16 == 0)
  else if a = 0x48 then s.owns m || v.getLsbD 8 || !v.getLsbD 9
  else true

/-- The right to make a write (R125 to R127). (DESIGN CHOICE: log 23) -/
def State.mayWrite (s : State) (m : Master) (a : Nat) (v : Word) : Bool :=
  openWrite m a v || ((s.owns m || (m == .m4 && s.delegated (pageOf a)) || s.clkReqOnly m a) && s.beatOrClear m a v)

/-- Reads have their side effects for the owner, and for field firmware to which the page is delegated (R9). -/
def State.readsWithEffect (s : State) (m : Master) (p : Nat) : Bool := s.owns m || (m == .m4 && s.delegated p)

/-- The I²C target answers: the NVM load has ended, and no SLEEP entry was accepted (R44, R91). -/
def State.i2cAnswers (s : State) : Bool :=
  s.rst.loaded && (match s.tr with | some t => t.target != 3 | none => true)

/-- A master can make an access: no chip reset is in force, the I²C target answers for M3, and for field firmware a core runs (R44, R91,
R380, R383). (DESIGN CHOICE: log 23, 70) -/
def State.canAccess (s : State) (m : Master) : Bool :=
  !s.inReset && (m != .m3 || s.i2cAnswers) && (m != .m4 || s.get APC.CORE_STAT.RUN != 0)

/-- Every field of a written word that a write may change carries a listed value (R6). (DESIGN CHOICE: log 18) -/
def listed (fs : List Fld) (v : Word) : Bool := fs.all fun f => !f.writable || f.legal (f.of v)

/-- The fields at a byte address; none where nothing is placed there. -/
def fieldsAt (a : Nat) : List Fld := (regFields a).getD []

/-- What the fabric makes of a write. -/
inductive Verdict where
  /-- No access takes place, or page 0x2F takes it in silence, as a write that was made (R98, R112). -/
  | silent
  /-- Dropped for want of rights (R125). -/
  | rights
  /-- Dropped at an off page (R101). -/
  | off
  /-- Dropped for a reserved value (R6). -/
  | value
  /-- The write is made. -/
  | take
  deriving DecidableEq, Repr

/-- The fabric judges rights first, then whether the page is off, then the values (R101, R125). (DESIGN CHOICE: log 10, 23) -/
def State.judge (s : State) (m : Master) (a : Nat) (v : Word) (fs : List Fld) (ok : Bool) : Verdict :=
  if !s.canAccess m || pageOf a == 0x2F then .silent
  else if !s.mayWrite m a v then .rights
  else if 0x10 ≤ a % 0x1000 && s.pageOff (pageOf a) then .off
  else if !listed fs v || !ok then .value
  else .take

/-- The outcome of a port's last write, as the SPI status byte shows it (R112). (DESIGN CHOICE: log 11) -/
def State.outcome (s : State) (m : Master) (o : Nat) : State :=
  { s with ports := { s.ports with lastWr := Tab.set 0 s.ports.lastWr m.num o } }

/-- A write is dropped for want of rights (R125). -/
def State.dropWrite (s : State) (m : Master) (p : Nat) : State :=
  (((s.outcome m 1).count (OWN.DROP_CNT.COUNT m.num) 1).set (OWN.DROP_CNT.LAST_PAGE m.num) p).fire 0x01 OWN.src.NONOWNER_WR
    { master := m.num }

/-- A notice of page FLT about an access, with its cause: 0 SIZE, 1 VALUE, 2 OFF (R4, R6, R101, R358). -/
def State.accNotice (s : State) (m : Master) (a c : Nat) : State :=
  let s := (((s.set FLT.ACCESS_NOTE.MASTER m.num).set FLT.ACCESS_NOTE.CAUSE c).set FLT.ACCESS_NOTE.PAGE (pageOf a)).set FLT.ACCESS_NOTE.OFFSET (a % 0x1000)
  s.fire 0x04 (if c = 0 then FLT.src.ACCESS_SIZE else if c = 1 then FLT.src.ACCESS_VALUE else FLT.src.ACCESS_OFF) { master := m.num }

/-- A write by the owner to page FLT, other than of INJ_KEY, breaks the key sequence of the injection gate (R352). -/
def State.breakKey (s : State) (m : Master) (a : Nat) : State :=
  if pageOf a == 4 && a != 0x4060 && s.owns m then { s with flt := { s.flt with keyAt := none } } else s

/-- A write by a master, once what is over by now has taken effect: dropped as the fabric judges, or taken with its effect. `fs` are the fields whose values R6 checks,
`ok` is a further condition on the value. (DESIGN CHOICE: log 2, 18) -/
def State.guardedBy (s : State) (m : Master) (a : Nat) (v : Word) (fs : List Fld) (ok : Bool) (f : State → State) : State :=
  let s := s.ownDue
  match s.judge m a v fs ok with
  | .silent => if s.canAccess m then s.outcome m 0 else s
  | .rights => (s.dropWrite m (pageOf a)).settle
  | .off => (((s.outcome m 2).breakKey m a).accNotice m a 2).settle
  | .value => (((s.outcome m 4).breakKey m a).accNotice m a 1).settle
  | .take => f ((s.outcome m 0).breakKey m a)

/-- A guarded write of a register at its own address. -/
def State.guarded (s : State) (m : Master) (a : Nat) (v : Word) (f : State → State) : State :=
  s.guardedBy m a v (fieldsAt a) true f

/-- One field takes a written word by its access code (R7). -/
def State.writeFld (s : State) (v : Word) (f : Fld) : State :=
  match f.acc with
  | .rw | .rwl => s.set f (f.of v)
  | .w1c => s.set f (s.get f &&& (f.of v ^^^ (2 ^ f.w - 1)))
  | .w1s => s.set f (s.get f ||| f.of v)
  | _ => s

/-- Fields take a written word, each by its access code (R7). -/
def State.writeFlds (s : State) (fs : List Fld) (v : Word) : State := fs.foldl (fun s f => s.writeFld v f) s

/-- The register at an address takes a written word (R7). -/
def State.writeReg (s : State) (a : Nat) (v : Word) : State := s.writeFlds (fieldsAt a) v

/-- A word is returned to the reading master. -/
def State.reply (s : State) (w : Nat) : State := { s with out := s.out ++ [BitVec.ofNat 32 w] }

/-- A read by a master of the word at an address, once what is over by now has taken effect: page 0x2F reads zero, an off page reads 0xBAD0_00pp, and otherwise the word is
returned, with the read's side effects where the reader has them (R9, R98, R101). (DESIGN CHOICE: log 2) -/
def State.readBy (s : State) (m : Master) (a : Nat) (word : State → Nat) (eff : State → State) : State :=
  let s := s.ownDue
  if !s.canAccess m then s
  else if pageOf a == 0x2F then s.reply 0
  else if 0x10 ≤ a % 0x1000 && s.pageOff (pageOf a) then (s.accNotice m a 2).settle.reply (0xBAD00000 + pageOf a)
  else (if s.readsWithEffect m (pageOf a) then eff s else s).reply (word s)

/-- A read as a command of its own: what it returns replaces what the last read returned. -/
def State.ask (s : State) : State := { s with out := [] }

/-- The power-fail sequence runs, or holds the part (R76, R77). -/
def State.pfRuns (s : State) : Bool := s.rst.pf == .running

end Sys2Proof.Machine
end

