-- ==== Sys2Proof/Machine/NvmOps.lean ====
section
/-! DEFINITION. Requests of the NVM controller: its causes, its queue and what its status registers show of it (R333, R334, R394 to
R396, R406). -/
namespace Sys2Proof.Machine
open Sys2Proof

/-- Region codes (R392). -/
abbrev rgHeader : Nat := 0
abbrev rgKeys : Nat := 1
abbrev rgLock : Nat := 2
abbrev rgCal : Nat := 3
abbrev rgBias : Nat := 4
abbrev rgCounters : Nat := 5
abbrev rgSnap : Nat := 8

/-- A write of a region is queued or running. -/
def Nvm.holds (n : Nvm) (r : Nat) : Bool := n.queue.any fun q => q.region == r

/-- STAT, the PEND bits and SNAP_STAT.BUSY follow the queue (R396, R406). -/
def State.syncNvm (s : State) : State :=
  let n := s.nvm
  let s := (s.put NVM.STAT.BUSY (!n.queue.isEmpty)).set NVM.STAT.REGION ((n.queue.head?.map (·.region)).getD 0)
  let s := (s.put NVM.CAL_CTL.PEND (n.holds rgCal)).put NVM.BPT_CTL.PEND (n.holds rgBias)
  (s.put NVM.HDR_CTL.PEND (n.queue.any fun q => q.region == rgHeader && !q.tansy)).put CAN.SNAP_STAT.BUSY (n.holds rgSnap)

/-- A request ends with a cause (R396). -/
def State.nvmEnd (s : State) (m region cause : Nat) : State :=
  ((s.set NVM.RESULT.CAUSE cause).set NVM.RESULT.REGION region).fire 0x07
    (if cause = 1 then NVM.src.WR_DONE else NVM.src.WR_REFUSED) { master := m }

/-- The cause that refuses a request at once; 0 where it is queued (R333, R334, R396). -/
def State.nvmCause (s : State) (region : Nat) : Nat :=
  if !s.flag THM.STAT.NVM_OK then 2
  else if s.pfRuns then 3
  else if s.nvm.holds region || 5 ≤ s.nvm.queue.length || s.rst.faultWaits then 4
  else 0

/-- A request of a region write: queued, or ended with its cause (R396). -/
def State.nvmRequest (s : State) (m : Nat) (r : NvmReq) : State :=
  if s.nvmCause r.region = 0 then
    let t : State := { s with nvm := { s.nvm with queue := s.nvm.queue ++ [r] } }
    t.syncNvm
  else s.nvmEnd m r.region (s.nvmCause r.region)

/-! Alarms of SLEEP -/

/-- At the end of the wake start, the NVM load's end, the alarms latched in SLEEP show in ALARM_STAT (R382). (DESIGN CHOICE: log 62) -/
def State.sleepAlarms (s : State) : State :=
  if s.aon.sleepAlarm = 0 then s
  else
    let s := (s.set SEC.ALARM_STAT.SRC (s.get SEC.ALARM_STAT.SRC ||| s.aon.sleepAlarm)).set SEC.ALARM_STAT.SLEEP 1
    { s with aon := { s.aon with sleepAlarm := 0 } }

/-! Copies -/

/-- What the valid records of the regions hold. -/
def Nvm.image (n : Nvm) : NvmImage :=
  { copy := n.copy, minSvn := n.minSvn, deleg := n.deleg, cal := n.cal, calUser := n.calUser, bpt := n.bpt, opSec := n.opSec, pcyc := n.pcyc
    keys := n.keys, alarmLvl := n.alarmLvl, snap := n.snap }

/-- A region takes what a record holds. -/
def Nvm.take (n : Nvm) (r : Nat) (i : NvmImage) : Nvm :=
  if r = rgHeader then { n with copy := i.copy, minSvn := i.minSvn, deleg := i.deleg }
  else if r = rgKeys then { n with keys := i.keys, alarmLvl := i.alarmLvl }
  else if r = rgCal then { n with cal := i.cal, calUser := i.calUser }
  else if r = rgBias then { n with bpt := i.bpt }
  else if r = rgCounters then { n with opSec := i.opSec, pcyc := i.pcyc }
  else if r = rgSnap then { n with snap := i.snap }
  else n

/-- A region has two copies (R392). -/
def twoCopies (r : Nat) : Bool := r == rgHeader || r == rgKeys || r == rgCal || r == rgBias || r == rgCounters || r == rgSnap

/-- A record is about to be committed in the copy that does not hold the valid record: it takes the next generation, and the record before
it stays as the other copy (R395). -/
def Nvm.renew (n : Nvm) (r : Nat) : Nvm :=
  if twoCopies r then { n with gen := Tab.set 0 n.gen r (Tab.get 0 n.gen r + 1), old := Tab.set none n.old r (some n.image) } else n

/-- A word group of a region's valid record has two bits in error: the record is invalid, and the other copy's, where valid, is taken in its
place; without one the region has defaults (R397). (DESIGN CHOICE: log 64) -/
def Nvm.spoil (n : Nvm) (r : Nat) : Nvm :=
  match Tab.get none n.old r with
  | some i => { n.take r i with old := Tab.set none n.old r none }
  | none => { n.take r {} with calBad := n.calBad || r == rgCal }

/-- The operating-time and power-cycle counters are written, where the write window is open (R333, R404). (DESIGN CHOICE: log 64) -/
def State.writeCounters (s : State) : State :=
  if s.flag THM.STAT.NVM_OK then { s with nvm := { s.nvm.renew rgCounters with opSec := s.opSec, pcyc := s.get NVM.PCYC.COUNT } } else s

end Sys2Proof.Machine
end

