-- ==== Sys2Proof/Machine/SecOps.lean ====
section
/-! DEFINITION. Tamper alarms: what a firing tamper source does beyond Teasel's own reactions (R377 to R380). -/
namespace Sys2Proof.Machine
open Sys2Proof

/-- What WRES shows of a result of REGL_CHECK and REGL_WRITE; 0 for the results that do not come from the checks (R303, R305). -/
def wresOf (result : Nat) : Nat :=
  if result = 1 then 1 else if result = 9 then 2 else if result = 4 then 3 else if result = 3 then 4
  else if result = 0x0A then 5 else if result = 0x0B then 6 else 0

/-- Tansy ends a command after processing it; a lock command's outcome also stands in WRES, and raises LOCK_RESULT (R303, R371). A chip
reset that has just begun has already ended the command. -/
def State.tansyEnd (s : State) (result : Nat) : State :=
  if s.inReset then s
  else
    let lock := s.get SEC.MBX_STAT.LAST == 1 || s.get SEC.MBX_STAT.LAST == 2
    let s := (if lock then s.set REGL.STATE.WRES (wresOf result) else s).mbxOver result
    (if lock then s.fire 0x0F REGL.src.LOCK_RESULT {} else s).fire 0x08 SEC.src.MBX_DONE {}

/-- A lock ends any mailbox command with ABORTED, and drops what Tansy has asked the NVM for and is not committed (R380, R390). -/
def State.mbxAbort (s : State) : State :=
  let t : State := { s with nvm := { s.nvm with queue := s.nvm.queue.filter fun q : NvmReq => !q.tansy } }
  let s := t.syncNvm
  if s.flag SEC.MBX_STAT.BUSY then (({ s with tansy := { s.tansy with outq := [] } }).set SEC.MBX_STAT.OUT 0).dropLoad.mbxOver 0x0E else s

/-- The part is provisioned: some key slot is not EMPTY, as SLOTS tells once Tansy has read the key region, and the region itself before
that (R380). -/
def State.provisioned (s : State) : Bool :=
  s.get SEC.STATE.SLOTS != 0 || (!s.tansy.booted && !s.nvm.zeroDue && s.nvm.keys.any fun e => e.2.typ != 0)

/-- The volatile key store, KW and KT are cleared: page SEC shows every slot EMPTY (R373, R380). -/
def State.clearKeys (s : State) : State :=
  let s := { s with tansy := { s.tansy with keys := [] } }
  (List.range 16).foldl (fun s j => (s.set (SEC.KEY_INFO.TYPE j) 0).set (SEC.KEY_ID.ID j) 0) ((s.set SEC.STATE.SLOTS 0).set SEC.STATE.PROV 0)

/-- ERASE on a provisioned part: the key store is cleared and the epoch advances, or PROV_DEAD is blown at 63; the key region
has still to be overwritten. A forced firing clears the volatile keys alone, and the next chip reset brings them back (R380, R384).
(DESIGN CHOICE: log 62) -/
def State.erase (s : State) (forced : Bool) : State :=
  if !s.provisioned then s
  else
    let s := s.clearKeys
    if forced then s
    else
      let s := s.set SEC.STATE.ERASED 1
      let s : State := { s with nvm := { s.nvm with zeroDue := true } }
      if s.otp.epoch < 63 then ({ s with otp := { s.otp with epoch := s.otp.epoch + 1 } }).set SEC.STATE.EPOCH (s.otp.epoch + 1)
      else ({ s with otp := { s.otp with provDead := true } }).set SEC.STATE.PROV_DEAD 1

/-- The action of a firing at a level: 1 LOG, 2 LOCK, 3 ERASE (R379, R380). -/
def State.alarm (s : State) (b lvl : Nat) (forced : Bool) : State :=
  let s := s.putBit SEC.ALARM_STAT.SRC b true
  if lvl < 2 then s
  else
    let busy := s.flag SEC.MBX_STAT.BUSY
    let s := s.set SEC.STATE.LOCK 1
    let s := (if lvl = 3 then s.erase forced else s).holdCores.mbxAbort.updPermit
    if busy then s.fire 0x08 SEC.src.MBX_DONE {} else s

/-- Detection outlives a chip reset: I00 keeps the sources whose condition holds, and a GLITCH that comes in the reset (R377). -/
def State.keepTamper (s : State) (b : Nat) : State :=
  if b = SEC.src.MESH ∨ b = SEC.src.TEMP_AON ∨ (b = SEC.src.GLITCH ∧ s.inReset ∧ !s.aon.asleep) then
    { s with aon := { s.aon with tamperOn := setBit s.aon.tamperOn b } }
  else s

/-- A tamper source fires: the firing of Teasel, and the alarm's action where it is a new firing (R340, R379, R380). -/
def State.tamper (s : State) (b : Nat) (forced : Bool) : State :=
  let new := s.canFire 0x08 b && !s.gated 0x08 b
  let lvl := s.alarmLvl b
  let s := s.fire 0x08 b { forced := forced, detail := [lvl] }
  if new && !s.inReset then s.alarm b lvl forced else s

/-- The condition of a tamper source begins (R377). -/
def State.tamperBegin (s : State) (b : Nat) : State :=
  if s.holds 0x08 b then s
  else { s with flt := { s.flt with conds := NSet.add s.flt.conds (srcKey 0x08 b) } }.tamper b false

/-- What has been kept over a chip reset fires at the end of the NVM load, and a GLITCH is then told (R377). (DESIGN CHOICE: log 62) -/
def State.tellTampers (s : State) : State :=
  let due := s.aon.tamperOn
  let s : State := { s with aon := { s.aon with tamperOn := clrBit due SEC.src.GLITCH } }
  (List.range 6).foldl (fun s b =>
    if !tbit due b || s.inReset then s
    else if (srcOf (srcKey 0x08 b)).cond then State.tamperBegin { s with flt := { s.flt with conds := NSet.rem s.flt.conds (srcKey 0x08 b) } } b
    else s.tamper b false) s

end Sys2Proof.Machine
end

