-- ==== Sys2Proof/Machine/Levels.lean ====
section
/-! DEFINITION. Levels in decibels and the powers and amplitudes that they stand for, as integers: a level of x/1000 dB is the power
10^(x/10000), held in units of 10^−15 of the level −300 dB, and truncated. -/
namespace Sys2Proof.Machine
open Sys2Proof

/-- 10^(k/10), 10^(k/100), 10^(k/1000) and 10^(k/10000) in units of 10^−15, truncated. -/
def tenths : List Nat :=
  [1000000000000000, 1258925411794167, 1584893192461113, 1995262314968879, 2511886431509580, 3162277660168379, 3981071705534972,
    5011872336272722, 6309573444801932, 7943282347242815]
def hundredths : List Nat :=
  [1000000000000000, 1023292992280754, 1047128548050899, 1071519305237606, 1096478196143185, 1122018454301963, 1148153621496882,
    1174897554939529, 1202264434617412, 1230268770812381]
def thousandths : List Nat :=
  [1000000000000000, 1002305238077899, 1004615790278395, 1006931668851804, 1009252886076684, 1011579454259898, 1013911385736679,
    1016248692870695, 1018591388054116, 1020939483707679]
def tenThousandths : List Nat :=
  [1000000000000000, 1000230285020824, 1000460623072840, 1000691014168258, 1000921458319295, 1001151955538168, 1001382505837098,
    1001613109228308, 1001843765724025, 1002074475336478]

/-- 10^(n/10000) in units of 10^−15. -/
def pow10 (n : Nat) : Nat :=
  let d := fun (l : List Nat) (k : Nat) => l.getD (n / k % 10) 0
  10 ^ (n / 10000) * (d tenths 1000 * d hundredths 100 / 10 ^ 15 * d thousandths 10 / 10 ^ 15 * d tenThousandths 1 / 10 ^ 15)

/-- The power of a level in 0.01 dB; levels below −300 dB count as −300 dB. (DESIGN CHOICE: log 74) -/
def powerOf (x : Int) : Nat := pow10 (10 * (x + 30000).toNat)

/-- Between two levels, the highest whose power does not exceed `v`: each round halves the span. -/
def levelIn (v : Nat) : Nat → Nat → Nat → Nat
  | 0, lo, _ => lo
  | n + 1, lo, hi =>
    let m := (lo + hi) / 2
    if pow10 (10 * m) ≤ v then levelIn v n m hi else levelIn v n lo m

/-- The level in 0.01 dB of a power, truncated; −300 dB for none, and at most 355.35 dB. (DESIGN CHOICE: log 74) -/
def levelOf (v : Nat) : Int := (levelIn v 16 0 65536 : Int) - 30000

/-! Turns -/

/-- Cosines of k/512 of a turn for k = 0 to 128, in units of 2^−30, rounded to nearest. -/
def cosTab : List Int :=
  [1073741824, 1073660973, 1073418433, 1073014240, 1072448455, 1071721163, 1070832474, 1069782521, 1068571464, 1067199483, 1065666786,
   1063973603, 1062120190, 1060106826, 1057933813, 1055601479, 1053110176, 1050460278, 1047652185, 1044686319, 1041563127, 1038283080,
   1034846671, 1031254418, 1027506862, 1023604567, 1019548121, 1015338134, 1010975242, 1006460100, 1001793390, 996975812, 992008094]
  ++
  [986890984, 981625251, 976211688, 970651112, 964944360, 959092290, 953095785, 946955747, 940673101, 934248793, 927683790, 920979082,
   914135678, 907154608, 900036924, 892783698, 885396022, 877875009, 870221790, 862437520, 854523370, 846480531, 838310216, 830013654,
   821592095, 813046808, 804379079, 795590213, 786681534, 777654384, 768510122, 759250125, 749875788]
  ++
  [740388522, 730789757, 721080937, 711263525, 701339000, 691308855, 681174602, 670937767, 660599890, 650162530, 639627258, 628995660,
   618269338, 607449906, 596538995, 585538248, 574449320, 563273883, 552013618, 540670223, 529245404, 517740883, 506158392, 494499676,
   482766489, 470960600, 459083786, 447137835, 435124548, 423045732, 410903207, 398698801, 386434353]
  ++
  [374111709, 361732726, 349299266, 336813204, 324276419, 311690799, 299058239, 286380643, 273659918, 260897982, 248096755, 235258165,
   222384147, 209476638, 196537583, 183568930, 170572633, 157550647, 144504935, 131437462, 118350194, 105245103, 92124163, 78989349,
   65842639, 52686014, 39521455, 26350943, 13176464, 0]

/-- Cosine and sine of k/512 of a turn, in units of 2^−30. -/
def cosQ (k : Nat) : Int :=
  let r := k % 512
  if r ≤ 128 then cosTab.getD r 0
  else if r ≤ 256 then -cosTab.getD (256 - r) 0
  else if r ≤ 384 then -cosTab.getD (r - 256) 0
  else cosTab.getD (512 - r) 0
def sinQ (k : Nat) : Int := cosQ (k + 384)

/-- The power of a filter at a bin, in 0.01 dB: of the sum over its taps, each a delay and a Q1.15 word scaled by a power of two (R218). -/
def response (taps : List (Int × Nat × Nat)) (b : Nat) : Int :=
  let z := taps.foldl (fun (a : Int × Int) e =>
    let k := (e.1 * ((b : Int) + 256) % 512).toNat
    let i := sext 16 (bits e.2.2 16 16) * 2 ^ (15 - e.2.1)
    let q := sext 16 (bits e.2.2 0 16) * 2 ^ (15 - e.2.1)
    (a.1 + i * cosQ k + q * sinQ k, a.2 + q * cosQ k - i * sinQ k)) (0, 0)
  levelOf ((z.1 * z.1 + z.2 * z.2).toNat * 10 ^ 45 / 2 ^ 120)

/-- The level of a ratio of two powers, in 0.01 dB. -/
def ratioLevel (a b : Nat) : Int := levelOf (a * 10 ^ 45 / b)

end Sys2Proof.Machine
end

