-- ==== Sys2Proof/Machine/SlotOps.lean ====
section
/-! DEFINITION. What a slot's descriptor comes to: rates, bands, branches, roles, taps, charges, patterns, coverage and the
regulatory lock's ranges (R11 to R13, R152, R159 to R165, R188 to R197, R285, R295 to R297). -/
namespace Sys2Proof.Machine
open Sys2Proof

/-! Rates and bands -/

/-- A slot's live descriptor. -/
def State.liveOf (s : State) (i : Nat) : Live := Tab.get {} s.live i

/-- The shadow registers as a descriptor (R156). -/
def State.shadowOf (s : State) (i : Nat) : Live :=
  { rxCentre := s.get (SLP.RX_CENTRE.FREQ i), txCentre := s.get (SLP.TX_CENTRE.FREQ i)
    firSrc := s.get (SLP.FIR_CTL.SRC i), firLen := s.get (SLP.FIR_CTL.LEN i) }

/-- The set that counts of a slot that holds resources: the live one, or while the checks run the shadow, which they make live (R167). -/
def State.setOf (s : State) (i : Nat) : Live := if s.get (SLP.SLOT_STAT.STATE i) = 1 then s.shadowOf i else s.liveOf i

/-- Lower and upper edge in Hz of the band about a centre, 0.4 of the working rate on each side (R159). -/
def State.bandLo (s : State) (i centre : Nat) : Int := 2 * (centre : Int) - 3072000 * (s.units i : Int)
def State.bandHi (s : State) (i centre : Nat) : Int := 2 * (centre : Int) + 3072000 * (s.units i : Int)

/-! Channels -/

/-- Transmit channels of the valid branches, in order (R158). -/
def State.branches (s : State) (i : Nat) : List Nat :=
  (if s.flag (SLP.SLOT_TX.VALID0 i) then [s.get (SLP.SLOT_TX.TX0 i)] else [])
    ++ (if s.flag (SLP.SLOT_TX.VALID1 i) then [s.get (SLP.SLOT_TX.TX1 i)] else [])
    ++ (if s.flag (SLP.SLOT_TX.VALID2 i) then [s.get (SLP.SLOT_TX.TX2 i)] else [])
    ++ (if s.flag (SLP.SLOT_TX.VALID3 i) then [s.get (SLP.SLOT_TX.TX3 i)] else [])

/-- Receive channel of a slot, RX00 to RX31 (R12). -/
def State.rxOf (s : State) (i : Nat) : Nat := 4 * (i / 64) + s.get (SLP.SLOT_CFG.RX i)

/-- Chiplets of a slot's receive channel and valid branches. -/
def State.chiplets (s : State) (i : Nat) : List Nat := s.rxOf i / 4 :: (s.branches i).map (· / 4)

/-- A slot has a channel on chiplet `n` (R140). -/
def State.onChiplet (s : State) (n i : Nat) : Bool := (s.chiplets i).contains n

/-- Role of a channel, 1 donor (R13). -/
def State.rxRole (s : State) (c : Nat) : Nat := s.get (CNV.RX_CFG.ROLE (c / 4) (c % 4))
def State.txRole (s : State) (c : Nat) : Nat := s.get (CNV.TX_CFG.ROLE (c / 4) (c % 4))

/-- The roles keep R13: the transmit channels share a role, which is not the receive channel's. -/
def State.rolesOk (s : State) (i : Nat) : Bool := (s.branches i).all fun c => s.txRole c != s.rxRole (s.rxOf i)

/-- A slot is uplink: its receive channel has the service role (R13). -/
def State.uplink (s : State) (i : Nat) : Bool := s.rxRole (s.rxOf i) == 0

/-- The receive channel that gives a slot its input: a downlink diversity slot follows its port's active aerial (R276). -/
def State.rxIn (s : State) (i : Nat) : Nat :=
  if s.uplink i then s.rxOf i
  else match (List.range 8).find? fun d => s.flag (DIV.CFG.EN d) && s.get (DIV.CFG.RXA d) == s.rxOf i
      && s.get (DIV.CFG.PAT d) == s.get (SLP.SLOT_CFG.TDD i) with
    | some d => if s.flag (DIV.STAT.ACTIVE d) then s.get (DIV.CFG.RXB d) else s.rxOf i
    | none => s.rxOf i

/-- Sum of the working rates of the counting slots that a condition picks (R165). -/
def State.rateSum (s : State) (f : Nat → Bool) : Nat := ((s.active.filter f).map s.units).sum

/-! Profiles -/

/-- The tap limit of a profile (R18). -/
def tapLimit (p : Nat) : Nat := if p = 0 then 128 else if p = 1 then 1024 else if p = 2 then 4096 else 512

/-- The tap-rate budget cap of a profile in budget units (R197), and its cap of working rates (R165). -/
def profCap (p : Nat) : Nat := if p = 3 then 4096 else 8192
def rateCap (p : Nat) : Nat := if p = 3 then 1024 else 2048

/-- Latency of a profile in ns, and its canceller pipeline (R162). -/
def latency (p : Nat) : Nat := if p = 0 then 1300 else if p = 2 then 4800 else 2600
def pipeC (p : Nat) : Nat := if p = 0 then 120 else if p = 2 then 700 else 300

/-- The largest channel FIR length at a rate code in a profile; 0 where none is allowed (R163). -/
def firLimit (rate p : Nat) : Nat :=
  match rate, p with
  | 4, 0 => 216
  | 3, 0 => 96
  | 2, 0 => 40
  | 1, 0 => 16
  | 0, 0 => 0
  | 3, 2 => 256
  | 2, 2 => 224
  | 1, 2 => 104
  | 0, 2 => 48
  | 3, _ => 240
  | 2, _ => 112
  | 1, _ => 48
  | 0, _ => 16
  | _, _ => 256

/-- The profiles that a new request must meet: the active one, and the requested one while a change is pending (R27). -/
def State.profiles (s : State) : List Nat :=
  if s.flag IDN.PROFILE.PENDING then [s.get IDN.PROFILE.ACTIVE, s.get IDN.PROFILE.REQ] else [s.get IDN.PROFILE.ACTIVE]

/-- LAT_STAT.BAL: the balancing delay in 1/16 of a sample, rounded to nearest (R162). One sample lasts 128/units ticks of
1/983.04 MHz, so a delay of n ns is n × units × 7.68 / 1000 samples. -/
def State.balance (s : State) (i p len : Nat) : Nat :=
  let ns := latency p - 250 - pipeC p
  let n16 := 16 * (ns * s.units i * 768) - (96 + 8 * (len - 1)) * 100000
  (n16 + 50000) / 100000

/-! The canceller's share -/

/-- A slot's canceller. -/
def State.cs (s : State) (i : Nat) : CanSlot := Tab.get {} s.canS i

/-- A slot's canceller changed. -/
def State.modCs (s : State) (i : Nat) (f : CanSlot → CanSlot) : State := { s with canS := Tab.upd {} s.canS i f }

/-- The extent counts that CAN_CFG holds (R190). -/
def State.extCfg (s : State) (i : Nat) : List Nat :=
  [s.get (SLP.CAN_CFG.EXT0 i), s.get (SLP.CAN_CFG.EXT1 i), s.get (SLP.CAN_CFG.EXT2 i), s.get (SLP.CAN_CFG.EXT3 i)]

/-- Kind, OBS and index of aggressor `a` (R188). -/
def State.aggKind (s : State) (i a : Nat) : Nat :=
  s.get (if a = 0 then SLP.CAN_REACH.KIND0 i else if a = 1 then SLP.CAN_REACH.KIND1 i else if a = 2 then SLP.CAN_REACH.KIND2 i
    else SLP.CAN_REACH.KIND3 i)
def State.aggIndex (s : State) (i a : Nat) : Nat :=
  s.get (if a = 0 then SLP.CAN_REACH.INDEX0 i else if a = 1 then SLP.CAN_REACH.INDEX1 i else if a = 2 then SLP.CAN_REACH.INDEX2 i
    else SLP.CAN_REACH.INDEX3 i)
def State.aggObs (s : State) (i a : Nat) : Bool :=
  s.flag (if a = 0 then SLP.CAN_REACH.OBS0 i else if a = 1 then SLP.CAN_REACH.OBS1 i else if a = 2 then SLP.CAN_REACH.OBS2 i
    else SLP.CAN_REACH.OBS3 i)

/-- The transmit channel of branch `b`, where it is valid. -/
def State.branchTx (s : State) (i b : Nat) : Option Nat :=
  if b = 0 then (if s.flag (SLP.SLOT_TX.VALID0 i) then some (s.get (SLP.SLOT_TX.TX0 i)) else none)
  else if b = 1 then (if s.flag (SLP.SLOT_TX.VALID1 i) then some (s.get (SLP.SLOT_TX.TX1 i)) else none)
  else if b = 2 then (if s.flag (SLP.SLOT_TX.VALID2 i) then some (s.get (SLP.SLOT_TX.TX2 i)) else none)
  else if b = 3 then (if s.flag (SLP.SLOT_TX.VALID3 i) then some (s.get (SLP.SLOT_TX.TX3 i)) else none)
  else none

/-- An aggressor is used: the slot holds extents of it (R188). -/
def State.aggUsed (s : State) (i a : Nat) : Bool := (s.cs i).xts.any (·.agg == a)

/-- The transmit channel that a BRANCH or PORT aggressor names, and that a used one does (R188). -/
def State.aggChan (s : State) (i a : Nat) : Option Nat :=
  if s.aggKind i a = 0 then s.branchTx i (s.aggIndex i a)
  else if s.aggKind i a = 1 then some (s.aggIndex i a)
  else none
def State.aggTx (s : State) (i a : Nat) : Option Nat := if s.aggUsed i a then s.aggChan i a else none

/-- A used BRANCH or PORT aggressor is idle (R189). -/
def State.aggIdle (s : State) (i a : Nat) : Bool :=
  s.aggUsed i a && s.aggKind i a < 2 &&
    match s.aggTx i a with
    | none => true
    | some c => (List.range a).any fun b => s.aggTx i b == some c

/-- Charged extents of a layout: those of used BRANCH and PORT aggressors (R197). -/
def State.charged (s : State) (i : Nat) (ext : List Nat) : Nat :=
  ((List.range 4).map fun a => if s.aggKind i a = 2 then 0 else ext.getD a 0).sum

/-- Extents that a layout takes from the pool (R197). -/
def poolNeed (ext : List Nat) (alt : Bool) : Nat := (if alt then 2 else 1) * ext.sum

/-- The layout that counts in every check: the larger of two sizes while a resize is pending (R198). -/
def State.layMax (s : State) (i : Nat) : List Nat :=
  let x := s.cs i
  if x.resizeAt.isSome ∨ x.resized then
    let c := s.extCfg i
    if s.charged i x.lay < s.charged i c then c else x.lay
  else if x.lay.isEmpty then s.extCfg i
  else x.lay

/-- The budget charge of a slot, parked extents included (R197). -/
def State.charge (s : State) (i : Nat) : Nat := s.units i * s.charged i (s.layMax i)

/-- Parked charged extents of a slot: parked extents of the first group (R199). -/
def State.parkedOf (s : State) (i : Nat) : Nat := ((s.cs i).xts.filter fun x => x.park && !x.alt).length

/-- Sum of the charges of the counting slots, parked extents excluded (R197, R199). -/
def State.usedNow (s : State) : Nat := (s.active.map fun i => s.charge i - s.units i * s.parkedOf i).sum

/-- Extents that slots hold. -/
def State.held (s : State) : List Nat :=
  (s.active.map fun i => (s.cs i).xts.map (·.ext) ++ (s.cs i).add.map (·.ext)).flatten

/-- Extents that are being zeroed. -/
def State.zeroingAll (s : State) : List Nat := (s.can.zeroing.map (·.2)).flatten

/-- An extent is free: held by no slot, not being zeroed, not retired (R194, R196). -/
def State.isFree (s : State) (e : Nat) : Bool := !s.held.contains e && !s.zeroingAll.contains e && !s.can.retired.contains e

/-- Extents reserved for enables whose checks run and will refuse them (R166). -/
def State.reserved (s : State) : Nat := (s.active.map fun i => (s.slot i).reserve).sum

/-- Number of free extents (R196), less those reserved (R166). -/
def State.freeCount (s : State) : Nat := 32768 - s.held.length - s.zeroingAll.length - s.can.retired.length - s.reserved

/-- The `n` lowest-numbered free extents (R194). -/
def State.takeFree (s : State) (n : Nat) : List Nat :=
  let used := s.held ++ s.zeroingAll ++ s.can.retired
  ((List.range (used.length + n)).filter fun e => !used.contains e).take n

/-- CAN.BUDGET, CAN.POOL and the rate sums follow the slots (R165, R197, R199). -/
def State.syncSums (s : State) : State :=
  let s := (s.set CAN.BUDGET.USED s.usedNow).set CAN.POOL.FREE s.freeCount
  let s := s.set CAN.POOL.PARKED ((s.active.map fun i => ((s.cs i).xts.filter (·.park)).length).sum)
  let part := s.rateSum fun _ => true
  (List.range 8).foldl (fun s n => (s.set (FWD.RATE_SUM.PART n) part).set (FWD.RATE_SUM.GROUP n) (s.rateSum fun i => i / 64 == n)) s

/-! Patterns -/

/-- A pattern. -/
def State.pat (s : State) (p : Nat) : Pat := Tab.get {} s.pats p

/-- A pattern changed. -/
def State.modPat (s : State) (p : Nat) (f : Pat → Pat) : State := { s with pats := Tab.upd {} s.pats p f }

/-- Fields of a live pattern (R267). -/
def PatLive.valid (l : PatLive) : Bool := tbit l.cfg 31
def PatLive.reqSync (l : PatLive) : Bool := tbit l.cfg 30
def PatLive.src (l : PatLive) : Nat := bits l.cfg 28 2
def PatLive.phase (l : PatLive) : Nat := bits l.cfg 0 24

/-- A period code in ticks (R267). -/
def periodTicks (c : Nat) : Nat :=
  if c = 0 then 491520 else if c = 1 then 614400 else if c = 2 then 983040 else if c = 3 then 1228800 else if c = 4 then 1966080
  else if c = 5 then 2457600 else if c = 6 then 4915200 else 9830400
def PatLive.period (l : PatLive) : Nat := periodTicks (bits l.cfg 24 4)

/-- The valid edges in ascending offset: offset and direction, 1 uplink (R267). -/
def PatLive.sorted (l : PatLive) : List (Nat × Nat) :=
  ((l.edges.filter fun w => tbit w 31).map fun w => (bits w 0 24, bits w 30 1)).foldr
    (fun e t => t.filter (fun x => x.1 < e.1) ++ e :: t.filter fun x => !(x.1 < e.1)) []

/-- The intervals of a live pattern: start offset, length and direction; the last runs on to the next period's first edge
(R272). -/
def PatLive.intervals (l : PatLive) : List (Nat × Nat × Nat) :=
  let es := l.sorted
  (List.range es.length).map fun k =>
    let e := es.getD k (0, 0)
    let nxt := if k + 1 < es.length then (es.getD (k + 1) (0, 0)).1 else (es.getD 0 (0, 0)).1 + l.period
    (e.1, nxt - e.1, e.2)

/-- Ticks of a direction in one period (R297). -/
def PatLive.dutyTicks (l : PatLive) (dir : Nat) : Nat := ((l.intervals.filter fun x => x.2.2 == dir).map fun x => x.2.1).sum

/-- The first start of an interval of a direction at or after `t`, under a timing (R272). -/
def PatLive.nextFrom (l : PatLive) (start dir t : Nat) : Nat :=
  let cands := (l.intervals.filter fun x => x.2.2 == dir).map fun x =>
    let base := start + x.1
    if t ≤ base then base else base + ceilTo l.period (t - base)
  cands.foldl min (cands.headD t)

/-- A correction whose period start has come is part of the timing (R269). -/
def Pat.fold (q : Pat) (t : Nat) : Pat :=
  if q.stepAt ≤ t then { q with start := ((q.start : Int) + q.step).toNat, step := 0 } else q

/-- The first instant at or after `t` that a timing gives, where a correction waits from its period start on (R269). -/
def Pat.timed (q : Pat) (f : Nat → Nat → Nat) (t : Nat) : Nat :=
  let r := q.fold t
  let c := f r.start t
  if r.step = 0 ∨ c < r.stepAt then c else f ((r.start : Int) + r.step).toNat (max t ((r.stepAt : Int) + r.step).toNat)

/-- The first instant at or after `t` at which a pattern begins an interval of a direction (R168, R272). -/
def Pat.nextStart (q : Pat) (dir t : Nat) : Nat := q.timed (fun start t => q.live.nextFrom start dir t) t

/-- The first period start of a pattern at or after `t` (R272). -/
def Pat.nextPeriod (q : Pat) (t : Nat) : Nat := q.timed (fun start t => if t ≤ start then start else start + ceilTo q.live.period (t - start)) t

/-- An interval of a direction holds the instants `t0` to `t1` (R272, R275). -/
def Pat.holds (q : Pat) (dir t0 t1 : Nat) : Bool :=
  let r := q.fold t0
  r.live.intervals.any fun x => x.2.2 == dir && decide ((((t0 : Int) - r.start - x.1) % r.live.period).toNat + (t1 - t0) ≤ x.2.1)

/-- Of the interval of a direction that holds instant `t`: the time since its edge, and the time left to its end (R272, R274). -/
def Pat.within (q : Pat) (dir t : Nat) : Option (Nat × Nat) :=
  let r := q.fold t
  (r.live.intervals.find? fun x => x.2.2 == dir && decide ((((t : Int) - r.start - x.1) % r.live.period).toNat < x.2.1)).map fun x =>
    let e := (((t : Int) - r.start - x.1) % r.live.period).toNat
    (e, x.2.1 - e)

/-- The pattern that a slot names, if it is TDD. -/
def State.tdd (s : State) (i : Nat) : Nat := s.get (SLP.SLOT_CFG.TDD i)

/-- A TDD slot's place at an instant in an interval of its direction; none outside its intervals, and while its pattern has no timing
(R270, R275). -/
def State.within (s : State) (i t : Nat) : Option (Nat × Nat) :=
  let q := s.pat (s.tdd i)
  if q.live.valid && q.timing then q.within (s.uplink i).toNat t else none

/-- A slot's receive window is open, wholly or in part: always in FDD, and in TDD from 1.900 µs after the edge of its direction to the next
edge (R274, R275). -/
def State.windowOpen (s : State) (i t : Nat) : Bool :=
  s.tdd i == 0 || match s.within i t with
    | some (e, _) => decide (1867776 ≤ 1000 * e)
    | none => false

/-- The next commit point of a slot at or after an instant (R168). -/
def State.commitPointAt (s : State) (i t : Nat) : Nat :=
  let q := s.pat (s.tdd i)
  if s.tdd i ≠ 0 ∧ q.live.valid ∧ q.timing then q.nextStart (s.uplink i).toNat t else s.periodAt t

/-- The instant at which a slot may start to ramp up: the first common frame boundary at or after `t`, and for a TDD slot the
first start of an interval of its direction from there; none while its pattern has no timing, or while a power-fail sequence keeps every
transmit path off (R76, R167, R173, R270). (DESIGN CHOICE: log 3, 26) -/
def State.rampAt (s : State) (i t : Nat) : Option Nat :=
  let b := s.frameAt t
  if s.rst.pf == .running || s.rst.faultWaits then none
  else if s.tdd i = 0 then some b
  else
    let q := s.pat (s.tdd i)
    if q.live.valid ∧ q.timing then some (q.nextStart (s.uplink i).toNat b) else none

/-! The regulatory lock -/

/-- Range `r` is used in direction `d`: bit 0 downlink, bit 1 uplink (R301). -/
def State.rangeDir (s : State) (r : Nat) (up : Bool) : Bool := tbit (s.get (REGL.RANGE_0.DIR r)) up.toNat

/-- The range that holds a band in a direction (R295). Frequencies of the lock are in kHz. -/
def State.rangeOf (s : State) (lo hi : Int) (up : Bool) : Option Nat :=
  (List.range (s.get REGL.STATE.NRANGES)).find? fun r =>
    s.rangeDir r up && 1000 * (s.get (REGL.RANGE_0.F_LO r) : Int) ≤ lo && hi ≤ 1000 * (s.get (REGL.RANGE_1.F_HI r) : Int)

/-- The range of a slot's transmit band. -/
def State.txRange (s : State) (i centre : Nat) : Option Nat := s.rangeOf (s.bandLo i centre) (s.bandHi i centre) (s.uplink i)

/-- The duty limit in percent of a range in a direction (R301). -/
def State.dutyLimit (s : State) (r : Nat) (up : Bool) : Nat :=
  if up then s.get (REGL.RANGE_3.DUTY_UL r) else s.get (REGL.RANGE_3.DUTY_DL r)

/-- A live pattern's duty in a direction exceeds a limit in percent (R297). -/
def PatLive.overDuty (l : PatLive) (up : Bool) (lim : Nat) : Bool := lim * l.period < 100 * l.dutyTicks up.toNat

/-- The first regulatory cause that refuses a slot with given centres, and the range concerned, 63 for none (R295). -/
def State.regulatory (s : State) (i rxc txc : Nat) : Option (Nat × Nat) :=
  let up := s.uplink i
  let l := (s.pat (s.tdd i)).live
  let named := s.tdd i ≠ 0 ∧ l.valid
  if s.get REGL.STATE.STATE ≠ 1 then some (1, 63)
  else match s.rangeOf (s.bandLo i rxc) (s.bandHi i rxc) up with
  | none => some (2, 63)
  | some _ => match s.txRange i txc with
    | none => some (3, 63)
    | some r =>
      if s.flag (REGL.RANGE_1.REQ_SYNC r) ∧ ¬ (named ∧ l.src = 0) then some (4, r)
      else if s.dutyLimit r up < 100 ∧ (¬ named ∨ l.overDuty up (s.dutyLimit r up)) then some (5, r)
      else if up ∧ s.active.any (fun j => j ≠ i ∧ s.uplink j ∧ (s.branches j).any (s.branches i).contains
          ∧ s.bandLo j (s.setOf j).txCentre < s.bandHi i txc ∧ s.bandLo i txc < s.bandHi j (s.setOf j).txCentre) then some (6, r)
      else none

/-- REGL.REFUSE records a refusal: cause, kind (1 commit), slot and range; Tansy raises REGL_REFUSED (R295, R305). -/
def State.reglRefuse (s : State) (i kind cause r : Nat) : State :=
  ((((s.set REGL.REFUSE.CAUSE cause).set REGL.REFUSE.KIND kind).set REGL.REFUSE.SLOT i).set REGL.REFUSE.RANGE r).fire 0x0F
    REGL.src.REGL_REFUSED { slot := some i }

/-- A slot needs donor sync (R296). -/
def State.needsSync (s : State) (i : Nat) : Bool :=
  s.tdd i != 0 && ((s.pat (s.tdd i)).live.reqSync ||
    match s.txRange i (s.liveOf i).txCentre with
    | some r => s.flag (REGL.RANGE_1.REQ_SYNC r)
    | none => false)

/-! Coverage -/

/-- The live dwell plan of receiver `r` of chiplet `n`: the words of its eight entries (R151, R153). -/
def State.plan (s : State) (n r : Nat) : List Nat :=
  let l := Tab.get [] s.obsLive (2 * n + r)
  if l.isEmpty then
    (List.range 8).map fun e =>
      let d := obsDefault n (8 * r + e)
      d.valid.toNat * 2 ^ 31 + d.zone * 2 ^ 12 + d.cpl * 2 ^ 8 + d.dwell
  else l

/-- The valid entries of a plan in order: zone, coupler, dwell in units of 10 µs (R149). -/
def planEntries (l : List Nat) : List (Nat × Nat × Nat) :=
  (l.filter fun w => tbit w 31).map fun w => (bits w 12 1, bits w 8 2, bits w 0 8)

/-- The longest interval, in units of 10 µs, from the end of a dwell on a coupler in a zone to the start of the next in the
cyclic plan; none where the plan holds no such dwell (R152). -/
def planGap (l : List Nat) (zone cpl : Nat) : Option Nat :=
  let es := planEntries l
  let hit := fun e : Nat × Nat × Nat => e.1 == zone && e.2.1 == cpl
  match es.findIdx? hit with
  | none => none
  | some k =>
    let r := (es.drop (k + 1) ++ es.take (k + 1)).foldl
      (fun (acc : Nat × Nat) e => if hit e then (max acc.1 acc.2, 0) else (acc.1, acc.2 + e.2.2)) (0, 0)
    some r.1

/-- Observation zone edge in Hz at a plan (R135). -/
def zoneEdge (plan : Nat) : Int := if plan = 0 then 3686400000 else if plan = 2 then 4055040000 else 3932160000

/-- A branch on transmit channel `c` of a slot whose transmit band is `lo` to `hi` meets both conditions of R152, under the
plans that `pl` gives. -/
def State.coveredBy (s : State) (pl : Nat → Nat → List Nat) (lo hi : Int) (c : Nat) : Bool :=
  let n := c / 4
  let e := zoneEdge (s.get (SYN.SYN_STAT.PLAN_NOW n))
  let zone := if hi ≤ e then 0 else 1
  (hi ≤ e - 50000000 || e + 50000000 ≤ lo) &&
    (List.range 2).any fun r => match planGap (pl n r) zone (c % 4) with
      | some g => g ≤ 200
      | none => false

/-- Every branch of a slot is covered under the live plans (R152). -/
def State.coverOk (s : State) (i txc : Nat) : Bool :=
  (s.branches i).all (s.coveredBy s.plan (s.bandLo i txc) (s.bandHi i txc))

/-! Notices -/

/-- A source of group FWDn, with the slot in NOTE_SLOT (R156). -/
def State.fwdNote (s : State) (i b : Nat) (m : Nat) : State :=
  (s.set (FWD.NOTE_SLOT.SLOT (i / 64)) i).fire (0x18 + i / 64) b { master := m, slot := some i }

/-- A source of page CAN, with the slot in NOTE_SLOT (R216). -/
def State.canNote (s : State) (i b : Nat) (m : Nat) : State :=
  (s.set CAN.NOTE_SLOT.SLOT i).fire 0x20 b { master := m, slot := some i }

end Sys2Proof.Machine
end

