-- ==== Sys2Proof/Machine/RailOps.lean ====
section
/-! DEFINITION. Parking, Yarrow dividers, engine rails, thermal enforcement and the abort of a profile change
(R24, R70 to R74, R199, R207, R330, R449). -/
namespace Sys2Proof.Machine
open Sys2Proof

/-! Parking (R199) -/

/-- An extent is parked, or will be at the slot's next commit point. -/
def CanSlot.parks (x : CanSlot) (t : Xt) : Bool := (t.park && !x.unparkDue.contains t.ext) || x.parkDue.contains t.ext

/-- Extents of the first group that stay in the charge of a slot once its parking is applied. -/
def State.openXts (s : State) (i : Nat) : List Xt :=
  (s.cs i).xts.filter fun t => !t.alt && s.aggKind i t.agg != 2 && !(s.cs i).parks t

/-- A slot's charge once its parking is applied. -/
def State.planCharge (s : State) (i : Nat) : Nat :=
  s.charge i - s.units i * ((s.cs i).xts.filter fun t => !t.alt && s.aggKind i t.agg != 2 && (s.cs i).parks t).length

/-- USED once all parking is applied. -/
def State.planUsed (s : State) : Nat := (s.active.map s.planCharge).sum

/-- The slot with the largest charge that still has a partition to park, the highest-numbered of equals. -/
def State.parkSlot (s : State) : Option Nat :=
  s.active.foldl (fun b i =>
    if (s.openXts i).isEmpty then b
    else match b with
    | none => some i
    | some j => if s.planCharge j ≤ s.planCharge i then some i else some j) none

/-- Of a slot's open extents the one of largest delay, the highest-numbered aggressor of equals. -/
def parkPick (l : List Xt) : Option Xt :=
  l.foldl (fun b t => match b with
    | none => some t
    | some u => if u.part < t.part ∨ (u.part = t.part ∧ u.agg ≤ t.agg) then some t else some u) none

/-- Extents of a partition, in both groups. -/
def CanSlot.partition (x : CanSlot) (agg part : Nat) : List Nat :=
  (x.xts.filter fun t => t.agg == agg && t.part == part).map (·.ext)

/-- Park partitions until the charge is within the cap. -/
def State.parkLoop : Nat → State → State
  | 0, s => s
  | n + 1, s =>
    if s.planUsed ≤ s.get CAN.BUDGET.CAP then s
    else match s.parkSlot with
    | none => s
    | some i => match parkPick (s.openXts i) with
      | none => s
      | some t =>
        let es := (s.cs i).partition t.agg t.part
        let s := s.modCs i fun x => { x with
          parkDue := x.parkDue ++ es.filter (fun e => !x.unparkDue.contains e), unparkDue := x.unparkDue.filter fun e => !es.contains e }
        State.parkLoop n { s with can := { s.can with parkLog := (i, t.agg, t.part) :: s.can.parkLog } }

/-- Unpark in the reverse order, as far as the cap allows. -/
def State.unparkLoop : List (Nat × Nat × Nat) → State → State
  | [], s => s
  | (i, a, p) :: t, s =>
    if !s.active.contains i then State.unparkLoop t { s with can := { s.can with parkLog := t } }
    else if s.planUsed + s.units i ≤ s.get CAN.BUDGET.CAP then
      let es := (s.cs i).partition a p
      let s := s.modCs i fun x => { x with
        parkDue := x.parkDue.filter (fun e => !es.contains e)
        unparkDue := x.unparkDue ++ es.filter fun e => !x.parkDue.contains e }
      State.unparkLoop t { s with can := { s.can with parkLog := t } }
    else s

/-- The parking set follows a cap that was `old`: USED above it parks, and only a rise of the cap unparks (R199). -/
def State.reparking (s : State) (old : Nat) : State :=
  if s.get CAN.BUDGET.CAP < s.planUsed then s.parkLoop 32768
  else if old < s.get CAN.BUDGET.CAP then s.unparkLoop s.can.parkLog
  else s

/-- Partitions that a slot no longer holds are no longer parked (R196, R199). -/
def State.forgetParks (s : State) (i : Nat) : State :=
  { s with can := { s.can with parkLog := s.can.parkLog.filter fun e => e.1 != i || !((s.cs i).partition e.2.1 e.2.2).isEmpty } }

/-! Dividers and rails -/

/-- Rail voltage code, and divider code, of a profile (R18, R70). -/
def railTarget (p : Nat) : Nat := if p = 2 then 0x32 else if p = 3 then 0x00 else 0x1E
def profDiv (p : Nat) : Nat := if p = 2 then 0 else if p = 3 then 2 else 1

/-- Minimum confirmed voltage of a divider code (R70). -/
def minVolt (c : Nat) : Nat := if c = 0 then 0x32 else if c = 1 then 0x1E else 0x00

/-- The profile's divider for cluster `k`: the requested profile's faster one once the cluster's rail is raised (R24). -/
def State.clusterDiv (s : State) (k : Nat) : Nat :=
  let a := profDiv (s.get IDN.PROFILE.ACTIVE)
  let t := profDiv s.prof.target
  if (s.prof.phase = 1 ∨ s.prof.phase = 2) ∧ t < a ∧ !tbit s.prof.rails (k / 4) then t else a

/-- Deep is active or requested (R71). -/
def State.deep (s : State) : Bool :=
  s.get IDN.PROFILE.ACTIVE == 2 || (s.flag IDN.PROFILE.PENDING && (s.prof.phase == 1 || s.prof.phase == 2) && s.prof.target == 2)

/-- A neighbour of cluster `k` on the ring runs at divider 0x0 (R71). -/
def State.nearDeep (s : State) (k : Nat) : Bool :=
  s.get (CLK.ISL_CLK.DIV_APPLIED (19 + (k + 1) % 16)) == 0 || s.get (CLK.ISL_CLK.DIV_APPLIED (19 + (k + 15) % 16)) == 0

/-- The owner's divider for a cluster: 0x6 counts as 0x5 around Deep (R71). -/
def State.ownerDiv (s : State) (k : Nat) : Nat :=
  let d := s.get (CLK.ISL_CLK.DIV_REQ (19 + k))
  if d = 6 ∧ (s.deep ∨ s.nearDeep k) then 5 else d

/-- The divider of thermal enforcement (R330). -/
def State.thermalDiv (s : State) (k : Nat) : Nat := min 6 (s.clusterDiv k + s.get THM.STAT.LEVEL)

/-- The slowest of the three dividers (R70). (DESIGN CHOICE: log 29) -/
def State.divGoal (s : State) (k : Nat) : Nat := max (max (s.clusterDiv k) (s.thermalDiv k)) (s.ownerDiv k)

/-- A divider change: slower always, faster only where the rail's confirmed voltage allows it; where it does not, the cluster reports
VOLT (R73). -/
def State.applyDiv (s : State) (k : Nat) : State :=
  let g := s.divGoal k
  if s.get (CLK.ISL_CLK.DIV_APPLIED (19 + k)) ≤ g ∨ minVolt g ≤ s.get (PWR.ENG_RAIL.VCONFIRMED (k / 4)) then
    s.set (CLK.ISL_CLK.DIV_APPLIED (19 + k)) g
  else s.set (CLK.ISL_CLK.REFUSE (19 + k)) 4

/-- A cluster is enabled (R207). -/
def State.clusterEn (s : State) (k : Nat) : Bool := s.flag (HDR.PAGE_CTL.EN (0x30 + k))

/-- A cluster is throttled: its divider is slower than the fastest among the enabled clusters (R207). -/
def State.throttled (s : State) (k : Nat) : Bool :=
  (List.range 16).any fun j => s.clusterEn j && s.get (CLK.ISL_CLK.DIV_APPLIED (19 + j)) < s.get (CLK.ISL_CLK.DIV_APPLIED (19 + k))

/-- YCL.ENG_STAT.STATE and the hand-offs that are due follow the dividers and enables (R207, R217). -/
def State.syncClusters (s : State) : State :=
  let off := (List.range 16).filter fun k => !s.clusterEn k || s.throttled k
  let due := off.filter fun k => s.can.handDue.contains k || !s.can.clOff.contains k
  let s := { s with can := { s.can with clOff := off, handDue := due } }
  (List.range 16).foldl (fun s k =>
    s.set (YCL.ENG_STAT.STATE k)
      (if !s.clusterEn k then (if due.contains k && s.clkOn (19 + k) then 2 else 3)
       else if !s.clkOn (19 + k) then 3
       else if due.contains k then 2
       else if s.throttled k then 1 else 0)) s

/-- Every cluster's divider follows its three limits; a second pass takes in a neighbour that the first has slowed. -/
def State.applyDivs (s : State) : State :=
  ((List.range 32).foldl (fun s k => s.applyDiv (k % 16)) s).syncClusters

/-- A rail. -/
def State.rail (s : State) (k : Nat) : Rail := Tab.get {} s.rails k

/-- A rail's arbiter changed. -/
def State.modRail (s : State) (k : Nat) (f : Rail → Rail) : State := { s with rails := Tab.upd {} s.rails k f }

/-- VCONF follows VCONFIRMED and VTARGET (R71). -/
def State.syncRail (s : State) (k : Nat) : State :=
  s.put (PWR.ENG_RAIL.VCONF k) (s.get (PWR.ENG_RAIL.VCONFIRMED k) == s.get (PWR.ENG_RAIL.VTARGET k))

/-- A command to a rail: a rise waits for its confirmation, a fall counts at once unless a cluster's divider forbids it, and before the
start-up confirmation nothing counts; a command that is accepted ends an earlier REFUSE (R72 to R74). (DESIGN CHOICE: log 32) -/
def State.command (s : State) (k v : Nat) : State :=
  let cur := s.get (PWR.ENG_RAIL.VTARGET k)
  if v = cur then s
  else if cur < v then
    (((s.modRail k fun r => { r with rising := true, raised := true, prev := cur, at_ := s.now }).set (PWR.ENG_RAIL.VTARGET k) v).set (PWR.ENG_RAIL.REFUSE k) 0).syncRail k
  else if (List.range 4).any fun j => v < minVolt (s.get (CLK.ISL_CLK.DIV_APPLIED (19 + 4 * k + j))) then
    s.set (PWR.ENG_RAIL.REFUSE k) 1
  else
    let s := s.modRail k fun r => { r with rising := r.startup, raised := false }
    let s := (s.set (PWR.ENG_RAIL.VTARGET k) v).set (PWR.ENG_RAIL.REFUSE k) 0
    let s := if (s.rail k).rising then s else s.set (PWR.ENG_RAIL.VCONFIRMED k) v
    s.syncRail k

/-- Every rail is commanded to a voltage. -/
def State.commandAll (s : State) (v : Nat) : State := (List.range 4).foldl (fun s k => s.command k v) s

/-- An accepted profile request aborts: the clusters and rails return to the active profile, REFUSE names the cause and REQ
takes ACTIVE; PENDING clears in the step that ends the change (R24, R449). -/
def State.profAbort (s : State) (cause : Nat) : State :=
  let s := { s with prof := { s.prof with phase := 4, rails := 0 } }
  let s := (s.set IDN.PROFILE.REFUSE cause).set IDN.PROFILE.REQ (s.get IDN.PROFILE.ACTIVE)
  s.applyDivs.commandAll (railTarget (s.get IDN.PROFILE.ACTIVE))

/-- The budget cap follows profile and enforcement (R197, R330), and the parking set the cap. -/
def State.syncCap (s : State) : State :=
  let e := s.get THM.STAT.LEVEL
  let old := s.get CAN.BUDGET.CAP
  let s := (s.set CAN.BUDGET.CAP (profCap (s.get IDN.PROFILE.ACTIVE) * (16 - e) / 16)).put CAN.BUDGET.THERM (0 < e)
  (s.reparking old).syncSums

/-- The enforcement level takes a value, with the divider, the cap and the abort of a profile change that has not committed
when enforcement begins (R24, R330). -/
def State.setLevel (s : State) (e : Nat) : State :=
  let begins := s.get THM.STAT.LEVEL = 0 ∧ 0 < e
  let s := (s.set THM.STAT.LEVEL e).put THM.STAT.ENF (0 < e)
  let s := if begins ∧ (s.prof.phase = 1 ∨ s.prof.phase = 2) then s.profAbort 5 else s
  s.applyDivs.syncCap

/-! Readings of the sensors, and the temperatures of the channels (R68, R327) -/

/-- The register reading of a sensor. -/
def State.shown (s : State) (i : Nat) : Int := sext 12 (s.get (THM.TEMP.TEMP i))

/-- HOT as a temperature. -/
def State.hot (s : State) : Int := sext 12 (s.get THM.HOT.TEMP)

/-- The detail of THM_ENF and THM_TRIP (R418). -/
def State.thmDetail (s : State) : List Nat :=
  [s.get THM.STAT.LEVEL, s.get THM.HOT.SENSOR] ++ leBytes 2 (toField 16 s.hot)

/-- The sensors of an island (R325). -/
def islandSensors (n : Nat) : List Nat :=
  if 19 ≤ n ∧ n ≤ 34 then [n - 19]
  else if 7 ≤ n ∧ n ≤ 10 then [n + 9]
  else if 11 ≤ n ∧ n ≤ 18 then [n + 9]
  else if n = 45 then [28, 29]
  else if 1 ≤ n ∧ n ≤ 6 then [29 + n]
  else if n = 43 then [36] else if n = 44 then [37] else if n = 46 then [38] else if n = 47 then [39]
  else if 35 ≤ n ∧ n ≤ 42 then (List.range 4).map (40 + 4 * (n - 35) + ·)
  else []

/-- The hottest sensor of an island, with the substitutes of failed ones (R68, R327). -/
def State.islandHot (s : State) (n : Nat) : Option Int :=
  ((islandSensors n).filter fun i => s.flag (THM.TEMP.VALID i)).foldl (fun b i => some (match b with | some w => max w (s.shown i) | none => s.shown i)) none

/-- Some channel's islands lie more than `d` apart in temperature (R66, R68). -/
def State.hsBeyond (s : State) (d : Int) : Bool :=
  channels.any fun c => match s.islandHot c.1, s.islandHot c.2 with
    | some a, some b => decide (d < a - b) || decide (d < b - a)
    | _, _ => false

end Sys2Proof.Machine
end

