-- ==== Sys2Proof/Machine/FrontOps.lean ====
section
/-! DEFINITION. Transmit ports at the permit gate, FE_CTL lines and RFFE queues (R42, R257 to R265, R283). -/
namespace Sys2Proof.Machine
open Sys2Proof

/-! Ports -/

/-- Where a transition leaves RUN, or a channel change begins, a port stays on until the ramps of every slot with a branch on it have ended,
at most until 40 µs (R86, R141). -/
def State.portRamps (s : State) (t : Nat) (p : Nat) : Bool :=
  decide (s.now < t + us 40) && s.active.any fun i => (s.branches i).contains p && decide (0 < s.weightNow i)

/-- The chiplet of port TXp runs, or a channel change is in the first 20 µs of its DRAIN, or later in it while a slot on the port still
ramps (R141). -/
def State.stepOpen (s : State) (p : Nat) : Bool :=
  let st := s.get (SYN.SYN_STAT.STEP (p / 4))
  let t := (Tab.get {} s.cnv (p / 4)).at_
  st == 8 || (st == 1 && (decide (s.now < t + us 20) || s.portRamps t p))

/-- Port TXp is open at the permit gate: its enable is applied, no gate reason holds, its chiplet is READY, and the power
state is RUN, with the ramps of a transition that leaves it still running (R54, R86, R128, R141, R144, R260, R283). -/
def State.portOpen (s : State) (p : Nat) : Bool :=
  !s.gateShut && tbit (s.get PWT.TXEN.REQ) p && tbit (s.get PWT.TXON.ON) p && s.flag (SYN.SYN_STAT.READY (p / 4))
    && s.stepOpen p
    && s.get PWR.PWR_CMD.STATE == 0 && !s.inReset && !s.pfRuns
    && (match s.tr with | some t => t.phase == 0 || (t.phase == 1 && s.portRamps t.at_ p) | none => true)

/-! Lines -/

/-- The tie of line `l` (0 to 127) to a transmit port (R260). -/
def State.lineTie (s : State) (l : Nat) : Option Nat :=
  let k := l / 32
  let q := l % 32 / 4
  let j := l % 4
  let en := if j = 0 then FEC.LINE_GATE.EN0 k q else if j = 1 then FEC.LINE_GATE.EN1 k q else if j = 2 then FEC.LINE_GATE.EN2 k q
    else FEC.LINE_GATE.EN3 k q
  let tx := if j = 0 then FEC.LINE_GATE.TX0 k q else if j = 1 then FEC.LINE_GATE.TX1 k q else if j = 2 then FEC.LINE_GATE.TX2 k q
    else FEC.LINE_GATE.TX3 k q
  if s.flag en then some (s.get tx) else none

/-- The diversity port whose switch line is `l` (R276). -/
def State.lineDiv (s : State) (l : Nat) : Option Nat :=
  (List.range 8).find? fun d => s.flag (DIV.CFG.EN d) && s.get (DIV.CFG.LINE d) == l

/-- The level of the ball of line `l`: 0, 1, or 2 for high impedance (R38, R40, R258, R260). -/
def State.ball (s : State) (l : Nat) : Nat :=
  if s.aon.padsHeld then Tab.get 2 s.aon.feHeld l
  else if s.inReset || !s.rst.loaded || !tbit (s.get (FEC.DRV_EN.EN (l / 32))) (l % 32) then 2
  else
    let idle := (tbit (s.get (FEC.IDLE.LEVEL (l / 32))) (l % 32)).toNat
    let lvl := (tbit (s.get (FEC.LEVEL.NOW (l / 32))) (l % 32)).toNat
    match s.lineTie l with
    | some p => if s.portOpen p then lvl else idle
    | none => lvl

/-- A sequencer's page. -/
def State.fec (s : State) (k : Nat) : Fec := Tab.get {} s.fecs k

/-- A sequencer's page changed. -/
def State.modFec (s : State) (k : Nat) (f : Fec → Fec) : State := { s with fecs := Tab.upd {} s.fecs k f }

/-- The level of line `l` is commanded. -/
def State.setLine (s : State) (l : Nat) (b : Bool) : State := s.putBit (FEC.LEVEL.NOW (l / 32)) (l % 32) b

/-- A line that has had no event since the sequencer started, or whose sequencer is stopped, takes its IDLE level; a
diversity line keeps its port's (R258, R276). -/
def State.idleLines (s : State) (k : Nat) : State :=
  (List.range 32).foldl (fun s j =>
    let l := 32 * k + j
    if (s.lineDiv l).isSome then s
    else if s.flag (FEC.SEQ_CTL.RUNNING k) ∧ (s.lineAt.any fun e => e.1 == l) then s
    else s.setLine l (tbit (s.get (FEC.IDLE.LEVEL k)) j)) s

/-- The sequencer of page `k` stops: every line at its idle level (R258, R261). -/
def State.seqHalt (s : State) (k : Nat) : State :=
  let s := { s.set (FEC.SEQ_CTL.RUNNING k) 0 with lineAt := s.lineAt.filter fun e => e.1 / 32 != k }
  (s.modFec k fun x => { x with sched := [] }).idleLines k

/-! Diversity -/

/-- A diversity port's running state. -/
def State.dv (s : State) (d : Nat) : DivSt := Tab.get {} s.divs d

/-- A diversity port's running state changed. -/
def State.modDv (s : State) (d : Nat) (f : DivSt → DivSt) : State := { s with divs := Tab.upd {} s.divs d f }

/-- A switch of a port that has not reached S1 is cancelled (R279). -/
def State.divCancel (s : State) (f : Nat → Bool) : State :=
  ((List.range 8).filter fun d => s.flag (DIV.CFG.EN d) && f d && s.flag (DIV.STAT.PEND d) && !(s.dv d).pastS1).foldl
    (fun s d => s.set (DIV.STAT.PEND d) 0) s

/-- The ports of a pattern, and those of a chiplet (R276). -/
def State.divPat (s : State) (p d : Nat) : Bool := s.get (DIV.CFG.PAT d) == p
def State.divChip (s : State) (n d : Nat) : Bool := s.get (DIV.CFG.RXA d) / 4 == n

/-! RFFE -/

/-- A bus. -/
def State.bus (s : State) (b : Nat) : Bus := Tab.get {} s.buses b

/-- A bus changed. -/
def State.modBus (s : State) (b : Nat) (f : Bus → Bus) : State := { s with buses := Tab.upd {} s.buses b f }

/-- A bus is enabled (R263). -/
def State.busEn (s : State) (b : Nat) : Bool :=
  s.flag (if b % 2 = 0 then FEC.RFFE_CFG.EN0 (b / 2) else FEC.RFFE_CFG.EN1 (b / 2))

/-- SCLK of a bus in MHz; a read at 52 MHz runs at 26 (R263). -/
def State.sclkMhz (s : State) (b : Nat) (read : Bool) : Nat :=
  let r := s.get (if b % 2 = 0 then FEC.RFFE_CFG.RATE0 (b / 2) else FEC.RFFE_CFG.RATE1 (b / 2))
  if r = 0 then 13 else if r = 1 ∨ read then 26 else 52

/-- The tick of the SCLK period boundary of number `n`, rounded up; the last one at or before an instant, and the first one at or after it
(R264). (DESIGN CHOICE: log 69) -/
def sclkTick (mhz n : Nat) : Nat := (n * 98304 + mhz * 100 - 1) / (mhz * 100)
def sclkBefore (mhz t : Nat) : Nat := t * mhz * 100 / 98304
def sclkAfter (mhz t : Nat) : Nat := if t = 0 then 0 else (t - 1) * mhz * 100 / 98304 + 1

/-- A frame of `n` SCLK periods that starts on a bus at or after `t`: its start and its end (R263, R264). -/
def State.frameTime (s : State) (b n t : Nat) (read : Bool) : Nat × Nat :=
  let f := s.sclkMhz b read
  (sclkTick f (sclkAfter f t), sclkTick f (sclkAfter f t + n))

/-- SCLK periods of a command's frame (R264). -/
def framePeriods (w0 : Nat) : Nat :=
  let t := bits w0 28 2
  if t = 0 then 16 else if t = 1 then 25 else 25 + 9 * (bits w0 12 2 + 1)

/-- A frame enters a bus's queue in order of instant, then of page and entry; a 17th waiting frame is discarded and counted
(R264). -/
def State.queueFrame (s : State) (f : Frame) : State :=
  let b := 2 * f.page + bits f.w0 30 1
  let q := (s.bus b).queue
  if 16 ≤ (q.filter fun x => x.inst ≤ f.inst).length then (s.count (FEC.SEQ_CNT.LATE f.page) 1).fire (0x25 + f.page) FEC.src.RFFE_LATE {}
  else
    let before := fun x : Frame => x.inst < f.inst ∨ (x.inst = f.inst ∧ (x.page < f.page ∨ (x.page = f.page ∧ x.entry ≤ f.entry)))
    s.modBus b fun x => { x with queue := q.filter (fun x => decide (before x)) ++ f :: q.filter fun x => !decide (before x) }

/-! Tables -/

/-- Word `w` of sequencer entry `e` of page `k`, and of RFFE command `e` (R255, R256). -/
def State.seqWord (s : State) (k e w : Nat) (live : Bool) : Nat := Tab.get 0 s.seqTab ((if live then 8192 else 0) + 2 * (1024 * k + e) + w)
def State.cmdWord (s : State) (k e w : Nat) (live : Bool) : Nat := Tab.get 0 s.cmdTab ((if live then 2048 else 0) + 2 * (256 * k + e) + w)

/-- Latency of the active profile in ticks, rounded down. -/
def State.latTicks (s : State) : Nat := (latency (s.get IDN.PROFILE.ACTIVE) * 98304 + 50000) / 100000

/-- The attenuator frame of a port for an entry word: its command with the first data byte replaced by ATT (R263, R280). -/
def State.attFrame (s : State) (p w : Nat) : Option Frame :=
  let k := s.get (PWT.PORT_CFG.ATT_PAGE p)
  let e := s.get (PWT.PORT_CFG.ATT_CMD p)
  let w0 := s.cmdWord k e 0 true
  let w1 := s.cmdWord k e 1 true
  if s.flag (PWT.PORT_CFG.ATT_EN p) ∧ tbit w0 31 then some { inst := 0, page := k, entry := e, w0 := w0, w1 := w1 - w1 % 256 + bits w 20 8 } else none

/-- The attenuator frame of a step at `t` is queued, so that its last SCLK edge is the last one at or before `t` (R264, R282). -/
def State.attQueue (s : State) (p w t : Nat) : State :=
  match s.attFrame p w with
  | none => s
  | some f =>
    let mhz := s.sclkMhz (2 * f.page + bits f.w0 30 1) false
    s.queueFrame { f with inst := sclkTick mhz (sclkBefore mhz t - framePeriods f.w0) }

end Sys2Proof.Machine
end

