-- ==== Sys2Proof/Machine/ConvOps.lean ====
section
/-! DEFINITION. Chiplets: the load of their power-up values, and what follows a change of a clock (R133, R140 to R144, R154). -/
namespace Sys2Proof.Machine
open Sys2Proof

/-- The values of SYN.SYN_STAT.STEP (R139). -/
abbrev yOff : Nat := 0
abbrev yDrain : Nat := 1
abbrev yBand : Nat := 2
abbrev yAmpl : Nat := 3
abbrev yLock : Nat := 4
abbrev ySettle : Nat := 5
abbrev yAlign : Nat := 6
abbrev yConvcal : Nat := 7
abbrev yRunning : Nat := 8
abbrev yFailed : Nat := 9

/-- A chiplet. -/
def State.chip (s : State) (n : Nat) : Cnv := Tab.get {} s.cnv n

/-- A chiplet changed. -/
def State.modChip (s : State) (n : Nat) (f : Cnv → Cnv) : State := { s with cnv := Tab.upd {} s.cnv n f }

/-- A step of a chiplet's sequence. -/
def State.synStep (s : State) (n : Nat) : Nat := s.get (SYN.SYN_STAT.STEP n)

/-- An entry of the calibration set that the part runs on (R398, R401). -/
def State.calAt (s : State) (e : Nat) : Nat := Tab.get 0 s.nvm.calLive e

/-- DSA in force on a receive channel (R133). -/
def State.dsaOf (s : State) (c : Nat) : Nat := Tab.get 0 (s.chip (c / 4)).dsa (c % 4)

/-- The hottest reading of a chiplet's valid sensors, in 0.125 °C (R148, R325). -/
def State.chipHot (s : State) (n : Nat) : Option Int :=
  (List.range 4).foldl (fun b j => match Tab.get none s.thm.last (40 + 4 * n + j), b with
    | some v, some w => some (max v w)
    | some v, none => some v
    | none, b => b) none

/-- Foreground calibration of a powered receive pair sets its corrections, which are not stated (R146). (DESIGN CHOICE: log 37) -/
def State.fgCal (s : State) (n c : Nat) : State :=
  if !s.flag (CNV.RX_CFG.PWR n c) then s
  else
    let (o, s) := s.draw
    let (g, s) := s.draw
    let (k, s) := s.draw
    let h := s.chipHot n
    ((((s.set (CNV.ILV.OFFSET n c) o).set (CNV.ILV.GAIN n c) g).set (CNV.ILV.SKEW n c) k).putBit (CNV.CAL_STAT.FG_DONE n) c true).modChip n
      fun x => { x with ref := Tab.set none x.ref c h }

/-- The fields of page CNVn whose reset is NVM load when its island first runs after a chip reset (R154, R398). -/
def State.cnvLoad (s : State) (n : Nat) : State :=
  if (s.chip n).loaded || !s.clkOn (35 + n) then s
  else
    (List.range 4).foldl (fun s c =>
      let rx := s.calAt (16 + 16 * n + c)
      let tx := s.calAt (20 + 16 * n + c)
      let s := (s.set (CNV.RX_CFG.DSA n c) (bits rx 8 5)).set (CNV.RX_CFG.ROLE n c) (bits rx 1 1)
      let s := (s.set (CNV.TX_CFG.FS n c) (bits tx 8 2)).set (CNV.TX_CFG.ROLE n c) (bits tx 1 1)
      s.modChip n fun x => { x with dsa := Tab.set 0 x.dsa c (bits rx 8 5) }) (s.modChip n fun x => { x with loaded := true })

/-- What follows a change of a clock: chiplets' pages load, the time runs or stops, the clusters follow. -/
def State.syncClocks (s : State) : State := ((List.range 8).foldl (fun s n => s.cnvLoad n) s).syncLnk.syncClusters

/-- HOLD.CHANNEL arises on the slots of a chiplet, whose outputs ramp to silence from an instant on (R140, R141, R158). -/
def State.holdChipAt (s : State) (n t : Nat) : State :=
  (s.enabled.filter (s.onChiplet n)).foldl (fun s i => s.holdAt hChannel i t) s
def State.holdChip (s : State) (n : Nat) : State := s.holdChipAt n s.now

/-- A chiplet is in a channel change, has lost lock or is FAILED (R158). -/
def State.chipBusy (s : State) (n : Nat) : Bool :=
  s.flag (SYN.SYN_STAT.BUSY n) || s.synStep n == yFailed

/-- HOLD.CHANNEL ends on the slots whose chiplets are all free of it (R158). -/
def State.freeChip (s : State) (n : Nat) : State :=
  (s.enabled.filter fun i => s.onChiplet n i && !(s.chiplets i).any s.chipBusy).foldl (fun s i => s.unhold hChannel i) s

/-- The synthesiser is not ready: its island's clock stops and its ports are off (R141, R144). -/
def State.chipDown (s : State) (n : Nat) : State :=
  (((s.set (SYN.SYN_STAT.READY n) 0).set (SYN.SYN_STAT.LOCK n) 0).set (SYN.SYN_STAT.CONV_RDY n) 0).syncClocks

/-- The chiplet stays down: STEP = FAILED, its slots silent and enabled (R143). -/
def State.synDead (s : State) (n : Nat) : State :=
  let s := ((s.set (SYN.SYN_STAT.STEP n) yFailed).set (SYN.SYN_STAT.BUSY n) 0).chipDown n
  (s.modChip n fun x => { x with retry := false, resume := false }).holdChip n

/-- A step exceeds its bound, or a retry cannot run: the chiplet stays down (R143). -/
def State.synFail (s : State) (n : Nat) : State := (s.synDead n).fire 0x0D SYN.src.SYNTH_FAIL {}

/-- LOCK falls: the island stops, the ports go off, and one automatic retry runs where REFCLK is within tolerance and none
runs yet (R144). -/
def State.synUnlock (s : State) (n : Nat) : State :=
  let st := s.synStep n
  if st < ySettle ∨ yRunning < st ∨ !s.flag (SYN.SYN_STAT.LOCK n) then s
  else if (s.chip n).retry then s.synFail n
  else
    let s := (((s.chipDown n).set (SYN.SYN_STAT.UNLOCK_SEEN n) 1).holdChip n).divCancel (s.divChip n)
    if s.flag CLK.OSC_STAT.REF_OK then
      (((s.set (SYN.SYN_STAT.STEP n) yBand).set (SYN.SYN_STAT.BUSY n) 1).modChip n fun x =>
        { x with retry := true, at_ := s.now, resume := false }).fire 0x0D SYN.src.SYNTH_UNLOCK {}
    else ((s.synDead n).fire 0x0D SYN.src.SYNTH_UNLOCK {}).fire 0x0D SYN.src.SYNTH_FAIL {}

end Sys2Proof.Machine
end

