-- ==== Sys2Proof/Machine/PowerOps.lean ====
section
/-! DEFINITION. Power-state transitions: refusals, aborts, the silence of the slots and their return (R82 to R91). -/
namespace Sys2Proof.Machine
open Sys2Proof

/-- Values of PWR_CMD.STATE (R83). -/
abbrev pRun : Nat := 0
abbrev pQuiet : Nat := 1
abbrev pStandby : Nat := 2
abbrev pSleep : Nat := 3

/-- The detail of a power-state record (R418). -/
def State.pwrDetail (s : State) (req : Nat) : List Nat :=
  [req, s.get PWR.PWR_CMD.STATE, s.get PWR.REFUSER.CODE, s.get PWR.REFUSER.ABORT]

/-- A refused request or an aborted transition is counted, named and recorded (R85). -/
def State.pwrCount (s : State) (m req code : Nat) (abort : Bool) : State :=
  let s := (((s.count PWR.REFUSE_CNT.COUNT 1).set PWR.REFUSER.CODE code).set PWR.REFUSER.REQ_STATE req).put PWR.REFUSER.ABORT abort
  s.fire 0x02 PWR.src.PWR_REFUSED { master := m, detail := s.pwrDetail req }

/-- A transition completes in a state (R85, R86). -/
def State.pwrDone (s : State) (st : Nat) : State :=
  let s := { ((s.set PWR.PWR_CMD.STATE st).set PWR.PWR_CMD.BUSY 0) with tr := none }
  s.fire 0x02 PWR.src.PWR_DONE { detail := s.pwrDetail st }

/-- HOLD.POWER arises at the acceptance of a transition that leaves RUN: the slots read HELD, and still carry their output
until the ramp begins 20 µs later (R158, R173). -/
def State.holdPower (s : State) : State := s.holdAll hPower true

/-- The slots that still carry output under HOLD.POWER ramp to silence from here on, where they do not yet (R86, R173). -/
def State.rampPower (s : State) : State :=
  s.enabled.foldl (fun s i => if tbit (s.get (SLP.SLOT_STAT.HOLD i)) hPower then s.fadeOut i s.now else s) s

/-- The instant by which every slot with output has ramped to silence (R86). -/
def State.allSilent (s : State) : Nat := (s.active.filter fun i => 0 < s.weightNow i).foldl (fun t i => max t (s.silentAt i)) s.now

/-- HOLD.POWER ends: the slots whose last reason it was resume at the next boundary (R87, R173). -/
def State.freePower (s : State) : State := s.holdAll hPower false

/-- The synthesisers and converter cores of STANDBY are down: READY, LOCK and CONV_RDY read 0, STEP and PLAN_NOW stay (R80). -/
def State.convDown (s : State) : State :=
  (List.range 8).foldl (fun s n =>
    ((s.set (SYN.SYN_STAT.READY n) 0).set (SYN.SYN_STAT.LOCK n) 0).set (SYN.SYN_STAT.CONV_RDY n) 0) s |>.syncClocks

/-- Sequencers that run stop at their idle levels and are to start again after the state is left (R261). -/
def State.seqStandby (s : State) : State :=
  (List.range 4).foldl (fun s k =>
    if s.flag (FEC.SEQ_CTL.RUNNING k) then (s.seqHalt k).modFec k fun x => { x with startDue := true } else s) s

/-- A transition towards STANDBY or SLEEP from RUN or QUIET has not yet gated the clocks. -/
def PwrTr.closing (t : PwrTr) : Bool := 2 ≤ t.target && t.origin < 2 && t.phase < 2

/-- Sequencers stop at their idle levels and the bias limiters freeze, once (R86, R315). -/
def State.trFreeze (s : State) : State := if s.iced then s else s.seqStandby.biasFreeze

/-- 40 µs into such a transition they have (R86). -/
def State.freezeDue (s : State) : State :=
  match s.tr with
  | some t => if t.closing && decide (t.at_ + us 40 ≤ s.now) then s.trFreeze else s
  | none => s

/-- The part returns to the state that a transition left; where that state is RUN, the slots resume as on entry to RUN (R88,
R89). -/
def State.pwrBack (s : State) : State :=
  match s.tr with
  | none => s
  | some t =>
    let s := { ((s.set PWR.PWR_CMD.BUSY 0).set PWR.PWR_CMD.REQ t.origin) with tr := none }
    let s := { s with aon := { s.aon with wakeLatch := 0 } }
    let s := if t.origin = pStandby then s.biasFreeze.convDown else s.biasThaw
    if t.origin = pRun then s.freePower else s

/-- A transition aborts with a code (R89). -/
def State.pwrAbort (s : State) (code : Nat) : State :=
  match s.tr with
  | none => s
  | some t => s.pwrBack.pwrCount 7 t.target code true

/-- The state asked for is SLEEP and the hold latches have closed: nothing but PFAIL_N ends the entry (R89, R91). -/
def State.latchedEntry (s : State) : Bool :=
  match s.tr with
  | some t => t.target == pSleep && t.phase == 4
  | none => false

/-! The bias supply -/

/-- VBIAS_P or VBIAS_N leaves its range: SUPPLY_LOST in both pages, where both rails have been within range since the last chip
reset (R317). In SLEEP the held outputs are lost (R43). -/
def State.biasLow (s : State) : State :=
  if s.aon.asleep then { s with aon := { s.aon with biasLost := true } }
  else if s.inReset || s.flag (BIA.SUPPLY.LOW 0) then s
  else
    let s := (s.set (BIA.SUPPLY.LOW 0) 1).set (BIA.SUPPLY.LOW 1) 1
    if s.biasOk then
      let s := s.condBegin 0x0B BIA.src.SUPPLY_LOST {}
      if s.inReset then s else s.condBegin 0x0C BIA.src.SUPPLY_LOST {}
    else s

/-- Both bias rails are within range: the buffers sample BIAS_SAFE as they rise, and every output starts from the safe end of the default
span and moves to its target (R50, R317). (DESIGN CHOICE: log 55) -/
def State.biasBack (s : State) : State :=
  let s := { s with straps := { s.straps with biasSafe := s.board.biasSafe % 256 } }
  if s.inReset || !s.flag (BIA.SUPPLY.LOW 0) then s
  else
    let s := { (((s.set (BIA.SUPPLY.LOW 0) 0).set (BIA.SUPPLY.LOW 1) 0).condEnd 0x0B BIA.src.SUPPLY_LOST |>.condEnd 0x0C BIA.src.SUPPLY_LOST) with biasOk := true }
    (List.range 64).foldl (fun s c =>
      if s.get (bState c) = bHeld then s
      else
        let s := s.modCh c fun x => { x with range := 0, spanTo := 3, changedAt := s.now }
        ((s.set (bSpan c) 3).set (bCode c) (s.safeEnd c)).retargetNow c) s

end Sys2Proof.Machine
end

