-- ==== Sys2Proof/Machine/JobOps.lean ====
section
/-! DEFINITION. Deques of the engines: placement, an engine's own pop, a steal and the hand-off of a cluster (R203, R204, R207).
Engine e of the part is engine e % 16 of cluster e / 16; a deque lists its jobs oldest first. -/
namespace Sys2Proof.Machine
open Sys2Proof

/-- A deque. -/
def State.deque (s : State) (e : Nat) : List Job := Tab.get [] s.can.deques e

/-- A deque set. -/
def State.setDeque (s : State) (e : Nat) (l : List Job) : State := { s with can := { s.can with deques := Tab.set [] s.can.deques e l } }

/-- The job an engine holds. -/
def State.runOf (s : State) (e : Nat) : Option Run := Tab.get none s.can.run e

/-- An engine takes or gives up a job. -/
def State.setRun (s : State) (e : Nat) (r : Option Run) : State := { s with can := { s.can with run := Tab.set none s.can.run e r } }

/-- A cluster is neither disabled nor throttled (R207). -/
def State.usable (s : State) (k : Nat) : Bool := s.clusterEn k && !s.throttled k

/-- The first cluster from `c` on, in ascending order and wrapping, that the launcher may place a job on (R203, R207). -/
def State.placeCluster (s : State) (c : Nat) : Option Nat :=
  ((List.range 16).map fun d => (c + d) % 16).find? fun k => s.usable k && s.clkOn (19 + k)

/-- Some cluster is enabled and clocked (R207). -/
def State.anyCluster (s : State) : Bool := (List.range 16).any fun k => s.clusterEn k && s.clkOn (19 + k)

/-- The engines of a cluster, engine `h` first and the others in ascending order (R203). -/
def enginesFrom (c h : Nat) : List Nat := (16 * c + h) :: ((List.range 16).filter (· != h)).map (16 * c + ·)

/-- A job is placed on the home engine of its slot or the engine that stands for it; `none` where all deques of the cluster are
full, or no cluster can take it (R203). (DESIGN CHOICE: log 43) -/
def State.placeJob (s : State) (j : Job) : Option State :=
  match s.placeCluster (j.slot / 32) with
  | none => none
  | some c =>
    match (enginesFrom c (j.slot / 2 % 16)).find? fun e => (s.deque e).length < 64 with
    | none => none
    | some e => some (s.setDeque e (s.deque e ++ [j]))

/-- QUIET holds ADAPT jobs in their deques, but for those that an exit from STANDBY to QUIET freed (R79, R87, R206).
(DESIGN CHOICE: log 35) -/
def State.mayRun (s : State) (j : Job) : Bool := j.typ != 1 || s.get PWR.PWR_CMD.STATE == pRun || s.can.freed.contains j.seq

/-- The highest class among jobs; none where there is no job. -/
def topClass (l : List Job) : Option Nat := l.foldl (fun b j => some (max (b.getD 0) j.cls)) none

/-- The index of an engine's own next job: the newest of the highest class present (R203). -/
def State.popOwn (s : State) (l : List Job) : Option Nat :=
  match topClass (l.filter s.mayRun) with
  | none => none
  | some c => ((List.range l.length).filter fun n => (l.getD n {}).cls == c && s.mayRun (l.getD n {})).getLast?

/-- The index of the job a thief takes from a deque: the oldest of the highest class among the eligible ones (R204). -/
def State.popSteal (s : State) (l : List Job) : Option (Nat × Nat) :=
  let el := l.take ((l.length + 1) / 2)
  match topClass (el.filter s.mayRun) with
  | none => none
  | some c => (el.findIdx? fun j => j.cls == c && s.mayRun j).map fun n => (n, c)

/-- The victim in a list of engines: the first whose eligible jobs include the highest class (R204). (DESIGN CHOICE: log 43) -/
def State.victim (s : State) (es : List Nat) : Option (Nat × Nat × Nat) :=
  es.foldl (fun b e => match s.popSteal (s.deque e) with
    | none => b
    | some (n, c) => match b with
      | none => some (e, n, c)
      | some (_, _, d) => if d < c then some (e, n, c) else b) none

/-- The other engines of an engine's cluster, in ascending order after it. -/
def peers (e : Nat) : List Nat := (List.range 15).map fun d => 16 * (e / 16) + (e % 16 + 1 + d) % 16

/-- Where a thief finds its job: its own cluster, then the clusters of the ring in order (R204). (DESIGN CHOICE: log 43) -/
def State.stealFrom (s : State) (e : Nat) : Option (Nat × Nat × Nat) :=
  match s.victim (peers e) with
  | some v => some v
  | none =>
    if !s.flag CAN.STEAL_CFG.RING_EN then none
    else
      ((List.range 15).map fun d => (e / 16 + 1 + d) % 16).foldl (fun b k =>
        if b.isSome then b else s.victim ((List.range 16).map (16 * k + ·))) none

/-- The least-filled deque of a cluster, the lowest engine of equals. -/
def State.leastFilled (s : State) (k : Nat) : Nat :=
  ((List.range 16).map (16 * k + ·)).foldl (fun b e => if (s.deque e).length < (s.deque b).length then e else b) (16 * k)

/-- The next cluster on the ring that is neither disabled nor throttled (R207). -/
def State.nextUsable (s : State) (k : Nat) : Option Nat :=
  if s.anyCluster then ((List.range 15).map fun d => (k + 1 + d) % 16).find? s.usable else none

/-- A cluster hands every queued job, unchanged, to the next usable cluster (R207); it gives them up in the same way before its
rail is raised (R24). -/
def State.handJobs (s : State) (k : Nat) : State :=
  match s.nextUsable k with
  | none => s
  | some c => ((List.range 16).map (16 * k + ·)).foldl (fun s e =>
      (s.deque e).foldl (fun s j => let t := s.leastFilled c; s.setDeque t (s.deque t ++ [j])) (s.setDeque e [])) s

end Sys2Proof.Machine
end

