-- ==== Sys2Proof/Machine/GainOps.lean ====
section
/-! DEFINITION. Applied gain: its limits, the cold-start cap and the start of a ramp (R16, R88, R172, R219, R231, R285). Gains are in
0.05 dB where registers hold them and in 0.01 dB here. -/
namespace Sys2Proof.Machine
open Sys2Proof

/-- A slot's governor changed. -/
def State.modGv (s : State) (i : Nat) (f : Gov → Gov) : State := { s with gov := Tab.upd {} s.gov i f }

/-- The slot margin M_s in 0.01 dB (R219). -/
def State.margin (s : State) (i : Nat) : Int := 50 * (min 60 (s.get GOV.MARGIN.M + s.get (SLP.GOV_CFG.MARGIN_ADD i)) : Nat)

/-- A slot has output: it ramps up, is ON, or still ramps to silence (R173, R174). -/
def State.sounds (s : State) (i : Nat) : Bool :=
  let st := s.get (SLP.SLOT_STAT.STATE i)
  st == stRampUp || st == stOn || decide (0 < s.weightNow i)

/-- A slot carries a signal to its ports: it has output, and a TDD slot lies in an interval of its direction (R275, R288).
(DESIGN CHOICE: log 54) -/
def State.carries (s : State) (i : Nat) : Bool := s.sounds i && s.windowOpen i s.now

/-! Limits -/

/-- The owner's target gain, at the attenuator that was set at the enable: later changes of the attenuator are made up for (R133).
(DESIGN CHOICE: log 37) -/
def State.targetGain (s : State) (i : Nat) : Int := 5 * (sext 12 (s.get (SLP.GAIN.TARGET i)) + (s.slot i).dsaGain)

/-- The Clover slot loop's output, where it is a limit: a manual loop, or an automatic one whose observer is valid (R237, R241). A
Q3.28 value of 1 stands for 16 dB (R235). -/
def State.cloverGain (s : State) (i : Nat) : Option Int :=
  if s.flag (CLV.LOOP_STAT.MODE_NOW i) && !s.flag (CLV.LOOP_STAT.OBSV i) then none
  else some (sext 32 (s.get (CLV.LOOP_OUT0.VALUE i)) * 1600 / 268435456)

/-- Transmit full scale in dBm of channel TXp, and receive full scale of channel RXc with the DSA in force (R154, R285). -/
def State.fsTx (s : State) (p : Nat) : Int := 3 * (s.get (CNV.TX_CFG.FS (p / 4) (p % 4)) : Int) - 7
def State.fsRx (s : State) (c : Nat) : Int := (s.dsaOf c : Int) - 4

/-- The digital gain of a port's power-table entry in force, in 0.01 dB (R280, R282). -/
def State.dgain (s : State) (p : Nat) : Int := 5 * sext 12 (bits (Tab.get 0 s.pwtWord p) 0 12)

/-- The maximum digital gain of a slot on one branch (R285); the lock's levels are in 0.1 dB (R301). -/
def State.branchMax (s : State) (i r p : Nat) : Int :=
  10 * (sext 16 (s.get (REGL.RANGE_2.G_MAX r)) - sext 16 (s.get (REGL.RX_GAIN.G_RX_MAX (s.rxIn i))) - sext 16 (s.get (REGL.TX_GAIN.G_TX_MAX p)))
    - 100 * (s.fsTx p - s.fsRx (s.rxIn i))

/-- A slot's regulatory maximum gain: the lowest over its branches, less the noise reduction (R285, R292). -/
def State.regMax (s : State) (i : Nat) : Option Int :=
  match s.txRange i (s.liveOf i).txCentre, s.branches i with
  | some r, p :: t => some ((t.map (s.branchMax i r)).foldl min (s.branchMax i r p) - (s.gv i).nred)
  | _, _ => none

/-- The lower of two limits, each a LIMIT code and a gain; the lower code of equals. (DESIGN CHOICE: log 41) -/
def lowerLimit (a : Nat × Int) (b : Option (Nat × Int)) : Nat × Int :=
  match b with
  | none => a
  | some y => if y.2 < a.2 then y else a

/-- The lowest limit of a slot (R16). -/
def State.gainLimit (s : State) (i : Nat) : Nat × Int :=
  let t := lowerLimit (0, s.targetGain i) ((s.cloverGain i).map fun g => (1, g))
  lowerLimit (lowerLimit t ((s.gv i).cap.map fun c => (2, 5 * c))) ((s.regMax i).map fun g => (3, g))

/-- The applied gain of a slot that carries output: LIMIT, and APPLIED in 0.05 dB (R16, R159, R290, R330). -/
def State.appliedGain (s : State) (i : Nat) : Nat × Int :=
  let l := s.gainLimit i
  let g := l.2 - 100 * (s.get THM.STAT.LEVEL : Int) - (s.gv i).pclamp
  (if 0 < (s.gv i).pclamp then 4 else l.1, clampInt (-2047) 2047 (g / 5))

/-- The amplitude of a gain in 0.05 dB, in units of 10^−25; none of a silent slot. -/
def gainAmp (g : Int) : Nat := if g = -2048 then 0 else pow10 (25 * (g + 4000)).toNat

/-- The amplitude of a slot's applied gain at an instant: a change ramps linearly over 32 samples (R172). -/
def State.gainOf (s : State) (i t : Nat) (a : Int) : Nat :=
  let x := s.slot i
  let k := min 32 ((t - x.gainAt) / s.sampleT i)
  (x.gainFrom * (32 - k) + gainAmp a * k) / 32
def State.gainNow (s : State) (i t : Nat) : Nat := s.gainOf i t (sext 12 (s.get (SLP.GAIN_STAT.APPLIED i)))

/-- The applied gain of a slot takes a value, LIMIT and 0.05 dB: the change ramps over 32 samples from the present amplitude and the next
sample on, but for one from silence, whose ramp is that of the weight (R172). -/
def State.takeGain (s : State) (i : Nat) (g : Nat × Int) : State :=
  let old := sext 12 (s.get (SLP.GAIN_STAT.APPLIED i))
  let t := s.sampleAt i s.now
  let from_ := if old = -2048 then gainAmp g.2 else s.gainNow i t
  let s := if old = g.2 then s else s.modSlot i fun x => { x with gainFrom := from_, gainAt := t }
  (s.set (SLP.GAIN_STAT.LIMIT i) g.1).set (SLP.GAIN_STAT.APPLIED i) (toField 12 g.2)

/-- The slot's gain follows its limits; a slot without output reads silent (R159, R172). -/
def State.applyGain (s : State) (i : Nat) : State :=
  let s := s.put (SLP.GAIN_STAT.BACKOFF i) (0 < s.get THM.STAT.LEVEL)
  if s.get (SLP.SLOT_STAT.STATE i) = stRampUp ∨ s.get (SLP.SLOT_STAT.STATE i) = stOn then s.takeGain i (s.appliedGain i)
  else if s.weightNow i = 0 then s.silence i
  else s

/-- Every enabled slot's gain follows its limits (R172). -/
def State.applyGains (s : State) : State := s.enabled.foldl (fun s i => s.applyGain i) s

/-! The cold-start cap -/

/-- The cap is set, and its 100 periods count anew (R231, R232). -/
def State.setCap (s : State) (i : Nat) (c : Int) : State :=
  let c := clampInt (-2047) 2047 c
  let s := s.modGv i fun g => { g with cap := some c, capN := 0, capOk := true }
  (s.set (GOV.SLOT_GOV.COLD i) 1).set (GOV.SLOT_GOV.CAP i) (toField 12 c)

/-- The cap is retired (R232). -/
def State.retireCap (s : State) (i : Nat) : State :=
  (((s.modGv i fun g => { g with cap := none }).set (GOV.SLOT_GOV.COLD i) 0).set (GOV.SLOT_GOV.WARMR i) 0).set (GOV.SLOT_GOV.CAP i) 0

/-- The cap of an isolation in 0.01 dB: I_phys − (M_s + 5 dB), in 0.05 dB (R231). -/
def State.capFor (s : State) (i : Nat) (iso : Int) : Int := (iso - s.margin i - 500) / 5

/-- A cold start: the cap of ISO_ASSUME, and an urgent ISOLATION job (R213, R231). -/
def State.coldStart (s : State) (i : Nat) : State :=
  let s := s.setCap i (s.capFor i (100 * s.get GOV.COLD_CFG.ISO_ASSUME))
  let s := ((s.modGv i fun g => { g with iso := none, isoDue := false }).set (GOV.SLOT_GOV.WARMR i) 0).set (GOV.SLOT_GOV.URG i) 3
  { s with can := { s.can with due := NSet.add s.can.due (8 * i + 5) } }

/-- A cap as at a divergence: from the latest measured I_phys, or from ISO_ASSUME where none is measured (R231, R279). -/
def State.divergeCap (s : State) (i : Nat) : State :=
  s.setCap i (s.capFor i (((s.gv i).iso).getD (100 * s.get GOV.COLD_CFG.ISO_ASSUME)))

/-! Ramps -/

/-- A slot begins to ramp up from zero; one that resumes does so 6 dB below its gain at muting (R88, R167, R173). -/
def State.rampUp (s : State) (i : Nat) : State :=
  let g := (s.slot i).muteGain
  let s := s.modSlot i fun x => { x with weight := 0, upAt := some (s.sampleAt i s.now), downAt := none, resume := false, muteGain := none }
  let s := match g with
    | some g => s.setCap i (g - 120)
    | none => s
  ((s.silence i).set (SLP.SLOT_STAT.STATE i) stRampUp).applyGain i

/-- A held slot whose last reason has ended ramps up at its next boundary (R173). -/
def State.resume (s : State) (i : Nat) : State :=
  if s.get (SLP.SLOT_STAT.STATE i) = stHeld ∧ s.get (SLP.SLOT_STAT.HOLD i) = 0 ∧ (s.slot i).resume ∧ !(s.slot i).inReset
      ∧ !((s.chiplets i).any fun n => (s.chip n).resume) then
    match s.rampAt i s.now with
    | none => s
    | some t => (s.until t).rampUp i
  else s

end Sys2Proof.Machine
end

