-- ==== Sys2Proof/Machine/CanOps.lean ====
section
/-! DEFINITION. The canceller pool: extents, banks, zeroing, layouts, resizes and parking; and the two copies of a channel FIR
(R156, R192 to R199). Entry j of extent e lies at 64 e + j of its bank; physical bank b starts at 2,097,152 b. -/
namespace Sys2Proof.Machine
open Sys2Proof

/-! Ranges of a table -/

/-- The entries of a table with keys `lo` to `lo + n - 1`. -/
def Tab.range {α : Type} (t : Tab α) (lo n : Nat) : Tab α := t.filter fun e => lo ≤ e.1 && e.1 < lo + n

/-- A table without the entries with keys `lo` to `lo + n - 1`. -/
def Tab.clear {α : Type} (t : Tab α) (lo n : Nat) : Tab α := t.filter fun e => !(lo ≤ e.1 && e.1 < lo + n)

/-- A table with `n` entries from `src` copied to `dst`. -/
def Tab.copy {α : Type} [DecidableEq α] (d : α) (t : Tab α) (src dst n : Nat) : Tab α :=
  (t.range src n).foldr (fun e t => Tab.set d t (e.1 - src + dst) e.2) (t.clear dst n)

/-! Banks -/

/-- The pool table changed. -/
def State.modPool (s : State) (f : Tab Nat → Tab Nat) : State := { s with can := { s.can with pool := f s.can.pool } }

/-- Where the live, or shadow, copy of extent `e` of slot `i` starts (R194, R195). -/
def State.bankAt (s : State) (i e : Nat) (live : Bool) : Nat := (if (s.cs i).bank == live then 2097152 else 0) + 64 * e

/-- Extents are zero in both banks. -/
def State.zeroExts (s : State) (es : List Nat) : State :=
  s.modPool fun t => es.foldl (fun t e => (Tab.clear t (64 * e) 64).clear (2097152 + 64 * e) 64) t

/-- The shadow of a slot's extents is zero. -/
def State.zeroShadow (s : State) (i : Nat) (es : List Nat) : State :=
  s.modPool fun t => es.foldl (fun t e => Tab.clear t (s.bankAt i e false) 64) t

/-- The shadow of a slot's set takes the live copy. -/
def State.liveToShadow (s : State) (i : Nat) : State :=
  (s.modCs i fun x => { x with shift := x.shiftLive }).modPool fun t =>
    ((s.cs i).xts.map (·.ext)).foldl (fun t e => Tab.copy 0 t (s.bankAt i e true) (s.bankAt i e false) 64) t

/-- A commit of the canceller set: the bank bit flips, and the new live set is copied into the new shadow (R15, R193, R194). -/
def State.flipBank (s : State) (i : Nat) : State :=
  let s := s.modCs i fun x => { x with bank := !x.bank, shiftLive := x.shift }
  s.modPool fun t => ((s.cs i).xts.map (·.ext)).foldl (fun t e => Tab.copy 0 t (s.bankAt i e true) (s.bankAt i e false) 64) t

/-- Extents leave a slot and are zeroed (R196). -/
def State.returnExts (s : State) (i : Nat) (es : List Nat) : State :=
  if es.isEmpty then s
  else
    let s := s.zeroExts es
    { s with can := { s.can with zeroing := Tab.upd [] s.can.zeroing i fun l => l ++ es } }

/-! Layouts -/

/-- The places of a layout in list order: group, aggressor, partition (R194). -/
def places (lay : List Nat) (alt : Bool) : List (Bool × Nat × Nat) :=
  ((if alt then [false, true] else [false]).map fun g =>
    ((List.range 4).map fun a => (List.range (lay.getD a 0)).map fun p => (g, a, p)).flatten).flatten

/-- Extents take the places of a list in order. -/
def mkXts (ps : List (Bool × Nat × Nat)) (es : List Nat) : List Xt :=
  (ps.zip es).map fun x => { alt := x.1.1, agg := x.1.2.1, part := x.1.2.2, ext := x.2 }

/-- An extent stands at a place. -/
def Xt.at_ (x : Xt) (p : Bool × Nat × Nat) : Bool := x.alt == p.1 && x.agg == p.2.1 && x.part == p.2.2

/-- The places of a layout that a list of extents does not fill. -/
def openPlaces (ps : List (Bool × Nat × Nat)) (xs : List Xt) : List (Bool × Nat × Nat) := ps.filter fun p => !xs.any (·.at_ p)

/-- The slot's extents from a new generation on: allocated at enable, zero in both banks (R194, R201, R213). -/
def State.allocate (s : State) (i : Nat) : State :=
  let lay := s.extCfg i
  let alt := s.flag (SLP.CAN_CFG.ALT i)
  let es := s.takeFree (poolNeed lay alt)
  s.modCs i fun x =>
    { mode := s.get (SLP.CAN_CFG.MODE i), lay := lay, layAlt := alt, xts := mkXts (places lay alt) es, sgen := (x.sgen + 1) % 65536 }

/-- The extents of a slot's idle aggressors are zero (R189). -/
def State.zeroIdle (s : State) (i : Nat) : State :=
  s.zeroExts (((s.cs i).xts.filter fun t => s.aggIdle i t.agg).map (·.ext))

/-- A slot gives up its second group: the active one remains, as the first (R192, R198). (DESIGN CHOICE: log 42) -/
def State.soleGroup (s : State) (i : Nat) : State :=
  let s := if s.flag (CAN.SLOT_INFO.ALT_ACTIVE i) then
      (s.modCs i fun x => { x with xts := x.xts.map fun t => { t with alt := !t.alt } }).set (CAN.SLOT_INFO.ALT_ACTIVE i) 0
    else s
  s.modCs i fun x => { x with altSeen := false }

/-- An accepted resize is applied: the layout of CAN_CFG, with added partitions at zero and the removed ones kept until the
crossfade has ended (R189, R198). -/
def State.applyResize (s : State) (i : Nat) : State :=
  let s := if s.flag (SLP.CAN_CFG.ALT i) then s else s.soleGroup i
  let x := s.cs i
  let ps := places (s.extCfg i) (s.flag (SLP.CAN_CFG.ALT i))
  let new := mkXts (openPlaces ps x.xts) (x.add.map (·.ext))
  let all := x.xts ++ new
  let xts := ps.filterMap fun p => all.find? (·.at_ p)
  let gone := x.xts.filter fun t => !ps.any t.at_
  (s.modCs i fun x => { x with xts := xts, add := gone, resizeAt := none, resized := true, sgen := (x.sgen + 1) % 65536
                               warmAt := none }).zeroIdle i

/-- The end of a resize's crossfade (R196, R198). -/
def State.endResize (s : State) (i : Nat) : State :=
  let gone := (s.cs i).add.map (·.ext)
  let s := s.modCs i fun x => { x with add := [], resized := false, lay := s.extCfg i, layAlt := s.flag (SLP.CAN_CFG.ALT i) }
  let s := (s.returnExts i gone).set CAN.RESIZE.PENDING 0
  (s.forgetParks i).syncSums.canNote i CAN.src.RESIZE_DONE 7

/-- A pending resize is abandoned at once: the growth's extents are zeroed, its charge leaves USED, and the old layout counts until
the end of the drain (R198). -/
def State.abandonResize (s : State) (i : Nat) : State :=
  let x := s.cs i
  if x.resizeAt.isNone ∧ !x.resized then s
  else
    let old := places x.lay x.layAlt
    let grown := if x.resized then x.xts.filter fun t => !old.any t.at_ else x.add
    let s := s.modCs i fun x => { x with
      xts := x.xts.filter fun t => old.any t.at_
      add := if x.resized then x.add else [], resizeAt := none, resized := false }
    ((s.returnExts i (grown.map (·.ext))).set CAN.RESIZE.PENDING 0).syncSums

/-- The parking that is due takes effect, in USED and PARKED too (R199). -/
def State.applyParking (s : State) (i : Nat) : State :=
  let s := s.modCs i fun x => { x with
    xts := x.xts.map fun t => if x.parkDue.contains t.ext then { t with park := true } else if x.unparkDue.contains t.ext then { t with park := false } else t
    parkDue := [], unparkDue := [] }
  s.syncSums

/-- The two groups of a slot exchange their roles; one that has never been active starts at zero (R192). -/
def State.swapGroups (s : State) (i : Nat) : State :=
  let act := s.flag (CAN.SLOT_INFO.ALT_ACTIVE i)
  let other := ((s.cs i).xts.filter fun t => t.alt == !act).map (·.ext)
  let s := if (s.cs i).altSeen then s else s.zeroExts other
  (s.modCs i fun x => { x with swapDue := false, altSeen := true }).put (CAN.SLOT_INFO.ALT_ACTIVE i) (!act)

/-- The caps of both profiles while a change is pending, as enforcement lowers them (R27, R197, R330). -/
def State.caps (s : State) : List Nat := s.profiles.map fun p => profCap p * (16 - s.get THM.STAT.LEVEL) / 16

/-! Channel FIR -/

/-- The live copy of a slot's channel FIR takes the shadow (R156). -/
def State.firToLive (s : State) (i : Nat) : State := { s with fir := Tab.copy 0 s.fir (256 * i) (131072 + 256 * i) 256 }

/-- The part builds `n` taps of a slot in both copies. -/
def State.build (s : State) (i n : Nat) (f : Nat → Nat) : State :=
  ({ s with fir := (List.range n).foldl (fun m t => Tab.set 0 m (256 * i + t) (f t % 2 ^ 32)) s.fir } : State).firToLive i

/-- The sub-band target of a slot by bin in 0.01 dB: the owner's gains and the given cuts (R224). -/
def State.subTarget (s : State) (i : Nat) (cut : Tab Int) : Tab Int :=
  (List.range 512).foldl (fun t b => Tab.set 0 t b (5 * sext 12 (Tab.get 0 (s.gv i).owner b) + Tab.get 0 cut b)) []

/-- The shaping solver fits `n` taps to a target in the least-squares sense (R170, R224). (DESIGN CHOICE: log 75) -/
def State.solve (s : State) (i n : Nat) (target : Tab Int) : State := s.build i n (Config.fit target n)

/-- The coefficients of a slot's shadow, or live, channel FIR by tap. -/
def State.taps256 (s : State) (i : Nat) (live : Bool) : List (Nat × Nat) :=
  let b := (if live then 131072 else 0) + 256 * i
  (Tab.range s.fir b 256).map fun e => (e.1 - b, e.2)

/-- The extents that a slot's leak estimate uses: those of the active group's BRANCH and PORT aggressors that are not idle, but for parked
ones; none in BYPASS (R184, R187, R189, R192, R199). -/
def State.leakSet (s : State) (i : Nat) : List LeakXt :=
  if (s.cs i).mode = 0 then []
  else ((s.cs i).xts.filter fun t => t.alt == s.flag (CAN.SLOT_INFO.ALT_ACTIVE i) && !t.park && !s.aggIdle i t.agg && s.aggKind i t.agg < 2).map
    fun t =>
      let b := s.bankAt i t.ext true
      { agg := t.agg, part := t.part, shift := (s.cs i).shiftLive.getD t.agg 0, words := (Tab.range s.can.pool b 64).map fun e => (e.1 - b, e.2) }

/-- A slot's live set, as a commit's crossfade blends it out (R171). -/
def State.liveSet (s : State) (i : Nat) : OldSet :=
  { live := s.liveOf i, fir := s.taps256 i true, cut := (s.gv i).cutLive, leak := s.leakSet i }

/-- A set is live again. -/
def State.putLive (s : State) (i : Nat) (o : OldSet) : State :=
  let t : State := { s with live := Tab.set {} s.live i o.live
                            fir := o.fir.foldl (fun t e => Tab.set 0 t (131072 + 256 * i + e.1) e.2) (Tab.clear s.fir (131072 + 256 * i) 256) }
  t.modGv i fun g => { g with cutLive := o.cut }

/-- The shadow differs from the live copy (R156, R176): the centres, FIR_CTL, or the coefficients that LEN uses. Until the crossfade of a
slot commit has ended, the copy before it counts (R171). -/
def State.dirty (s : State) (i : Nat) : Bool :=
  let o := match (s.slot i).old with
    | some o => if (s.slot i).xcommit then o else s.liveSet i
    | none => s.liveSet i
  let used := fun l : List (Nat × Nat) => l.filter fun e => e.1 < o.live.firLen
  s.shadowOf i != o.live || used (s.taps256 i false) != used o.fir

/-- LAT_STAT shows the live set (R162, R171). -/
def State.latStat (s : State) (i : Nat) : State :=
  let n := (s.liveOf i).firLen
  (s.set (SLP.LAT_STAT.FIR_LIVE i) n).set (SLP.LAT_STAT.BAL i) (s.balance i (s.get IDN.PROFILE.ACTIVE) n)

end Sys2Proof.Machine
end

