-- ==== Sys2Proof/Machine/Signal.lean ====
section
/-! DEFINITION. The sample plane: what the stages of a slot's chain do to a sample, and their latencies (R11, R160 to R162, R171, R172, R184
to R186, R228, R248, R274). A stream gives the sample of each number; sample n of a slot lies at n times its sample period, and sample n of
a chiplet's converters at n times theirs. What enters the part on its balls is not state: the converters' samples are free values of
Config. -/
namespace Sys2Proof.Machine
open Sys2Proof

/-! Complex samples and streams -/

/-- A complex sample, as a fraction of full scale. -/
structure Cx where
  re : Rat := 0
  im : Rat := 0
  deriving DecidableEq, Repr

def Cx.add (a b : Cx) : Cx := ⟨a.re + b.re, a.im + b.im⟩
def Cx.sub (a b : Cx) : Cx := ⟨a.re - b.re, a.im - b.im⟩
def Cx.mul (a b : Cx) : Cx := ⟨a.re * b.re - a.im * b.im, a.re * b.im + a.im * b.re⟩
def Cx.conj (a : Cx) : Cx := ⟨a.re, -a.im⟩
def Cx.scale (k : Rat) (a : Cx) : Cx := ⟨k * a.re, k * a.im⟩
def Cx.sum (l : List Cx) : Cx := l.foldl Cx.add {}

/-- The series 1 − y/(a (a+1)) (1 − y/((a+2) (a+3)) (…)), `n` terms of it. -/
def altSeries (y : Rat) : Nat → Nat → Rat
  | _, 0 => 1
  | a, n + 1 => 1 - y * mkRat 1 (a * (a + 1)) * altSeries y (a + 2) n

/-- A point of the unit circle, in turns: cosine and sine by their power series, to within 10^−30. (DESIGN CHOICE: log 46, 75) -/
def circle (x : Rat) : Cx :=
  let y := (x - x.floor) * mkRat 628318530717958647692528676655900577 (10 ^ 35)
  ⟨altSeries (y * y) 1 36, y * altSeries (y * y) 2 36⟩

/-- A word of a real and an imaginary part in Q1.15, and the part of it that a shift leaves (R176, R193). -/
def ofQ15 (shift v : Nat) : Cx :=
  ⟨mkRat (sext 16 (bits v 16 16)) (2 ^ (15 + shift)), mkRat (sext 16 (bits v 0 16)) (2 ^ (15 + shift))⟩

/-- A whole number next to one that is not whole; the spec does not state the rounding. -/
def roundRat (x : Rat) : Int := x.floor + (if x.den ≠ 1 ∧ Config.roundUp x.num x.den then 1 else 0)

/-- A number as a two's complement field of `w` bits with `f` fraction bits, saturated. -/
def toFrac (w f : Nat) (r : Rat) : Nat := toField w (clampInt (-2 ^ (w - 1)) (2 ^ (w - 1) - 1) (roundRat (r * (2 ^ f : Nat))))

/-- A sample as a word (R179, R193, R248). -/
def Cx.word (a : Cx) : Nat := toFrac 16 15 a.re * 65536 + toFrac 16 15 a.im

abbrev Stream := Int → Cx

/-! Rates -/

/-- Sample rate of a converter plan in units of 245.76 MS/s (R134). -/
def planRate (plan : Nat) : Nat := if plan = 0 then 60 else if plan = 2 then 66 else 64

/-- Half-band stages, moving-average length and resampler ratio for a plan and a working rate in units (R161). -/
def splitH (plan units : Nat) : Nat := (([2, 3, 4, 5].find? fun h => 32 * planRate plan ≤ 64 * 2 ^ h * units)).getD 5
def splitMa (plan units : Nat) : Nat := min 64 (32 * planRate plan / (2 ^ splitH plan units * units))
def splitRho (plan units : Nat) : Rat := mkRat (32 * planRate plan) (splitMa plan units * 2 ^ splitH plan units * units)

/-- The plan that a chiplet runs. -/
def State.planOf (s : State) (n : Nat) : Nat := s.get (SYN.SYN_STAT.PLAN_NOW n)

/-- The frequency of an NCO on a chiplet in turns per converter sample: it keeps the centre within 0.01 Hz at any plan (R161). -/
def ncoWord (plan centre : Nat) : Rat :=
  (2 * (centre : Rat) + mkRat ((Config.ncoErr plan centre % 201 : Nat) - 100) 10000) / (245760000 * planRate plan : Nat)

/-! Stages -/

/-- The NCO mixes a real stream down (R160). -/
def mixDown (f : Rat) (x : Int → Rat) : Stream := fun n => (circle (-f * n)).scale (x n)

/-- One moving-average stage of a length, and one of every `m` samples. -/
def movingAvg (m : Nat) (x : Stream) : Stream := fun n => (Cx.sum ((List.range m).map fun (k : Nat) => x (n - k))).scale (mkRat 1 m)
def thin (m : Nat) (x : Stream) : Stream := fun n => x (m * n)

/-- `k` stages in a row. -/
def stagesOf (k : Nat) (f : Stream → Stream) (x : Stream) : Stream := (List.range k).foldl (fun y _ => f y) x

/-- Taps of a filter over a stream, the first on the newest sample (R176). -/
def filter (taps : List Rat) (x : Stream) : Stream := fun n =>
  Cx.sum ((List.range taps.length).map fun (k : Nat) => (x (n - k)).scale (taps.getD k 0))

/-- A half-band decimator and interpolator; the spec gives no taps. An interpolator makes up for the zeros that it puts in, so that every
branch of a slot has the same gain (R161). -/
def halfDown (x : Stream) : Stream := thin 2 (filter Config.halfBand x)
def halfUp (x : Stream) : Stream := filter Config.halfBand fun n => if n % 2 = 0 then (x (n / 2)).scale 2 else {}

/-- The 256-phase fractional resampler: its output `n` lies at input place n ρ; the spec gives no taps for its phases (R160). -/
def resample (rho : Rat) (x : Stream) : Stream := fun n =>
  let t := rho * n
  filter (Config.phaseTaps ((t - t.floor) * 256).floor.toNat) x t.floor

/-- The receive chain from a converter's stream to the working rate: NCO, moving-average decimator, half-bands, resampler (R160, R161). -/
def down (plan units stages : Nat) (f : Rat) (x : Int → Rat) : Stream :=
  let m := splitMa plan units
  resample (splitRho plan units) (stagesOf (splitH plan units) halfDown (thin m (stagesOf stages (movingAvg m) (mixDown f x))))

/-- The transmit chain of a branch: resampler, half-band interpolators, final interpolator, up-conversion; the real part goes to the DAC
(R160, R161). -/
def up (plan units stages : Nat) (f : Rat) (x : Stream) : Int → Rat := fun n =>
  let m := splitMa plan units
  let y := stagesOf (splitH plan units) halfUp (resample (splitRho plan units)⁻¹ x)
  let z := stagesOf stages (movingAvg m) fun k => if k % m = 0 then (y (k / m)).scale m else {}
  ((circle (f * n)).mul (z n)).re

/-- Moving-average stages of a slot: three, four or five (R158). -/
def State.maStages (s : State) (i : Nat) : Nat := s.get (SLP.SLOT_CFG.MA_STAGES i) + 3

/-! Channels between islands -/

/-- An island gives no valid words: it has no clock, or page `p`, which resets it, is in block reset (R69). -/
def State.silentIsland (s : State) (n p : Nat) : Bool := !s.clkOn n || s.resetting p

/-- The sending islands of a slot's input give no valid words: its receive channel's chiplet, or its own group in the forward path, whose
reset a reset of its slot page stands for (R69, R447, R448). -/
def State.inputBad (s : State) (i : Nat) : Bool :=
  let n := s.rxIn i / 4
  let g := i / 64
  s.silentIsland (35 + n) (0x10 + n) || s.silentIsland (11 + g) (0x18 + g) || s.resetting (0x40 + i / 8)

/-- The canceller quarter that a slot's group meets gives no valid words (R69, R448). -/
def State.canBad (s : State) (i : Nat) : Bool := s.silentIsland (quarterOf (i / 64)) 0x20

/-- The observation island has no valid words of a slot: those of its group, or of its quarter's subtraction, are invalid (R69, R448). -/
def State.estBad (s : State) (i : Nat) : Bool := s.inputBad i || s.canBad i

/-- Clover has no valid record of a slot: the observation island gives none, or what it observes is invalid (R69). -/
def State.recordBad (s : State) (i : Nat) : Bool := s.silentIsland 45 0x21 || s.estBad i

/-! A slot's input -/

/-- A raised-cosine edge: 0 at 0, 1 at 1 (R274). -/
def raisedCos (x : Rat) : Rat := (1 - (circle (x / 2)).re) / 2

/-- The weight of a slot's receive window at an instant: closed outside its intervals and until 1.900 µs after the edge, raised-cosine to
2.000 µs (R274, R275). -/
def State.rxWindow (s : State) (i t : Nat) : Rat :=
  if s.tdd i = 0 then 1
  else match s.within i t with
    | none => 0
    | some (e, _) => if 1000 * e < 1867776 then 0 else if 1966080 ≤ 1000 * e then 1 else raisedCos (mkRat (1000 * e - 1867776 : Nat) 98304)

/-- The weight of a slot's transmit output at its ball at an instant: a raised-cosine taper over the 32 ns before the interval's end (R274). -/
def State.txWindow (s : State) (i t : Nat) : Rat :=
  if s.tdd i = 0 then 1
  else match s.within i t with
    | none => 0
    | some (_, r) => if 31458 ≤ 1000 * r then 1 else raisedCos (mkRat (1000 * r) 31458)

/-- A slot's receive samples at the working rate, under a descriptor; zero words while its input is invalid (R69, R160, R161, R276). -/
def State.rxStream (s : State) (i : Nat) (l : Live) : Stream :=
  let c := s.rxIn i
  let p := s.planOf (c / 4)
  if s.inputBad i then fun _ => {}
  else down p (s.units i) (s.maStages i) (ncoWord p l.rxCentre) fun n =>
    Config.adc c n * s.rxWindow i ((n * 4).toNat / planRate p)

/-! The leak estimate -/

/-- A receiver of a transmit channel's chiplet holds a valid dwell on its coupler in a zone (R150, R186). -/
def State.seen (s : State) (c zone : Nat) : Bool :=
  s.flag (SYN.SYN_STAT.READY (c / 4)) && (List.range 2).any fun r =>
    let w := (s.plan (c / 4) r).getD (s.get (if r = 0 then CNV.OBS_STAT.ENT_0 (c / 4) else CNV.OBS_STAT.ENT_1 (c / 4))) 0
    tbit w 31 && bits w 12 1 == zone && bits w 8 2 == c % 4 && decide (Tab.get 0 (s.chip (c / 4)).dwellAt r + us 2 ≤ s.now)

/-- The observation zone of a plan that contains a slot's receive band; none where the band straddles the edge (R135, R186). -/
def State.rxZone (s : State) (i plan : Nat) : Option Nat :=
  let c := (s.liveOf i).rxCentre
  if s.bandHi i c ≤ zoneEdge plan then some 0 else if zoneEdge plan ≤ s.bandLo i c then some 1 else none

/-- An aggressor takes its reference from the observation receiver: OBS, a valid dwell on the coupler of its transmit channel in the zone of
the slot's receive band, and an OBS_ALIGN of that channel since its chiplet's last change (R186). -/
def State.obsRef (s : State) (i a : Nat) : Bool :=
  s.aggObs i a && match s.aggChan i a with
    | some c => s.can.aligned.contains c && (s.rxZone i (s.planOf (c / 4))).any (s.seen c)
    | none => false

/-- What the transmit channels deliver to their DACs: channel and number of the sample. -/
abbrev Composite := Nat → Int → Rat

/-- An aggressor's reference at the slot's receive centre and working rate: the composite signal of its transmit channel, or the observation
samples scaled and delayed by the latest alignment (R185, R186). -/
def State.reference (s : State) (d : Composite) (i : Nat) (l : Live) (a : Nat) : Stream := fun n =>
  match s.aggChan i a with
  | none => {}
  | some c =>
    let p := s.planOf (c / 4)
    let f := ncoWord p l.rxCentre
    if s.obsRef i a then
      let r := Tab.get 0 s.can.alignRes c
      let k := Config.alignScale r
      (Cx.mk k.1 k.2).mul (down p (s.units i) (s.maStages i) f (Config.coupler c) (n - Config.alignDelay r))
    else down p (s.units i) (s.maStages i) f (d c) n

/-- An extent's part of the leak estimate: its tap j weights the reference at an air delay of 64 p + j − 2 samples (R185, R193). -/
def LeakXt.out (t : LeakXt) (ref : Stream) (n : Int) : Cx :=
  Cx.sum (t.words.map fun e => (ofQ15 t.shift e.2).mul (ref (n - (64 * (t.part : Int) + e.1 - 2))))

/-- The leak estimate of a set; zero words while the slot's canceller quarter gives none (R69, R184). -/
def State.leak (s : State) (d : Composite) (i : Nat) (o : OldSet) : Stream := fun n =>
  if s.canBad i then {} else Cx.sum (o.leak.map fun t => t.out (s.reference d i o.live t.agg) n)

/-! From the channel FIR to the slot's output -/

/-- The channel FIR of a set (R160, R176). -/
def OldSet.firOut (o : OldSet) (x : Stream) : Stream := fun n =>
  Cx.sum ((o.fir.filter fun e => e.1 < o.live.firLen).map fun e => (ofQ15 0 e.2).mul (x (n - e.1)))

/-- How far a notch is faded in at an instant, in 32nds: it fades in, and once released out, over 32 samples (R228). -/
def Notch.fadeOf (m : Notch) (t T : Nat) : Nat :=
  match m.goneAt with
  | none => min 32 ((t - m.from_) / T)
  | some u => min 32 ((u - m.from_) / T) - min 32 ((t - u) / T)

/-- The amplitude that an attenuation in 0.01 dB leaves. -/
def attAmp (z : Int) : Rat := mkRat (pow10 (100000 - 5 * z.toNat)) (pow10 100000)

/-- The amplitude that the broadband clamp leaves at an instant: a change fades over 32 samples (R229). -/
def State.broadAmp (s : State) (i t : Nat) : Rat :=
  let g := s.gv i
  let k := min 32 ((t - g.broadAt) / s.sampleT i)
  (attAmp g.broadFrom * (32 - k : Nat) + attAmp (g.broad.getD 0) * k) / 32

/-- The clamps in force act inside the channel FIR stage by a linear-phase kernel of the live length, which the spec does not give, and a
broadband clamp by its attenuation; each fades over 32 samples (R228, R229). -/
def State.clamped (s : State) (i : Nat) (o : OldSet) (x : Stream) : Stream := fun n =>
  let g := s.gv i
  let t := (n * (s.sampleT i : Int)).toNat
  let cut := (g.notches ++ g.fading).map fun m =>
    (filter (Config.notchKernel o.live.firLen m.bin) x n).scale (mkRat (m.fadeOf t (s.sampleT i)) 32)
  ((x n).sub (Cx.sum cut)).scale (s.broadAmp i t)

/-- The received signal after the channel FIR, and the residual after subtraction (R160, R178, R184). -/
def State.received (s : State) (i : Nat) (o : OldSet) : Stream := s.clamped i o (o.firOut (s.rxStream i o.live))
def State.residual (s : State) (d : Composite) (i : Nat) (o : OldSet) : Stream := fun n =>
  (s.received i o n).sub (s.clamped i o (o.firOut (s.leak d i o)) n)

/-- A slot's gain in amplitude at an instant (R172). -/
def State.gainAt (s : State) (i t : Nat) : Rat :=
  mkRat (if t < (s.slot i).wasTill then s.gainOf i t (s.slot i).wasGain else s.gainNow i t) (pow10 100000)

/-- The transmitted signal after the slot gain and its ramps (R160, R172, R173). -/
def State.gained (s : State) (d : Composite) (i : Nat) (o : OldSet) : Stream := fun n =>
  let t := (n * (s.sampleT i : Int)).toNat
  (s.residual d i o n).scale (s.gainAt i t * mkRat ((s.slot i).weightWas (s.sampleT i) t) 64)

/-- A delay in 1/16 of a sample; the resampler carries its fraction (R162). -/
def delayed (d : Nat) (x : Stream) : Stream := fun n =>
  let t : Rat := (n : Rat) - mkRat d 16
  filter (Config.phaseTaps ((t - t.floor) * 256).floor.toNat) x t.floor

/-- Number of the crossfade sample that a slot's sample `n` is: 0 before the crossfade, 32 from its end on (R171). -/
def State.fadeK (s : State) (i : Nat) (n : Int) : Nat :=
  let x := s.slot i
  if x.xfade || x.xfadeProf then 32 - ((x.xEnd : Int) / s.sampleT i - n - 1).toNat else 32

/-- What the slot gain stage passes on of its sample `n` of the old set, (32 − k)/32, and of the new one, k/32 (R171). -/
def State.fadeOld (s : State) (i : Nat) (x : Stream) : Stream := fun n => (x n).scale (mkRat (32 - s.fadeK i n) 32)
def State.fadeNew (s : State) (i : Nat) (x : Stream) : Stream := fun n => (x n).scale (mkRat (s.fadeK i n) 32)

/-- The set that a crossfade blends out: the set before a slot's commit, or the live one where a profile alone commits (R25, R171). -/
def State.oldSet (s : State) (i : Nat) : OldSet := ((s.slot i).old).getD (s.liveSet i)

/-- The reference that is a capture's fourth point: of which used aggressor, the spec does not state (R248). -/
def State.pointRef (s : State) (d : Composite) (i : Nat) (l : Live) : Stream :=
  let us := (List.range 4).filter (s.aggUsed i)
  match us[Config.pointAgg i % us.length]? with
  | none => fun _ => {}
  | some a => s.reference d i l a

/-- A slot's samples at its export and capture points: 0 receive, 1 residual, 2 transmit, 3 aggressor reference (R178, R248).
(DESIGN CHOICE: log 46) -/
def State.pointWith (s : State) (d : Composite) (i point : Nat) : Stream :=
  let f := fun o => if point = 0 then s.received i o else if point = 1 then s.residual d i o else if point = 2 then s.gained d i o
    else s.pointRef d i o.live
  fun n => (s.fadeOld i (f (s.oldSet i)) n).add (s.fadeNew i (f (s.liveSet i)) n)

/-- A slot's output after the balancing delay: in a crossfade each set passes the slot gain stage with its weight, and then the delay that
balances it (R25, R162, R171). -/
def State.output (s : State) (d : Composite) (i : Nat) : Stream := fun n =>
  (delayed (s.get (SLP.LAT_STAT.BAL i)) (s.fadeOld i (s.gained d i (s.oldSet i))) n).add
    (delayed (s.balance i (s.get IDN.PROFILE.ACTIVE) (s.liveOf i).firLen) (s.fadeNew i (s.gained d i (s.liveSet i))) n)

/-! Transmit channels -/

/-- What a sample spends in the fixed stages of the chain, F of 250 ns and the canceller's C, in samples of a converter plan; the stages
that delay by samples (filters, resamplers, balancing) delay by their own (R160, R162). -/
def pipeSamples (plan prof : Nat) : Nat := ((250 + pipeC prof) * planRate plan * 24576 + 50000) / 100000

/-- A slot's samples on a transmit channel: its branch chain at the plan of the channel's chiplet, later than its input by the latency
(R160 to R162, R274). -/
def State.branchOut (s : State) (d : Composite) (i c : Nat) : Int → Rat :=
  let p := s.planOf (c / 4)
  fun n => up p (s.units i) (s.maStages i) (ncoWord p (s.liveOf i).txCentre) (s.output d i) (n - pipeSamples p (s.get IDN.PROFILE.ACTIVE))
    * s.txWindow i ((n * 4).toNat / planRate p)

/-- The sum of every branch that names a transmit channel, before it is saturated (R11, R161). -/
def State.txSum (s : State) (d : Composite) (c : Nat) (n : Int) : Rat :=
  ((s.active.filter fun i => (s.branches i).contains c).map fun i => s.branchOut d i c n).foldl (· + ·) 0

/-- What goes to a channel's DAC: the sum, saturated at full scale (R161). -/
def State.txOut (s : State) (d : Composite) : Composite := fun c n => max (-1) (min 1 (s.txSum d c n))

/-- The loop of the composites through the cancellers, which take them as references: each turn is later by the latency, so that sample `n`
is settled after `n + 1` turns; before sample 0 there is none (R185). -/
def State.turns (s : State) : Nat → Composite
  | 0 => fun _ _ => 0
  | k + 1 => s.txOut (s.turns k)
def State.txDac (s : State) : Composite := fun c n => s.turns (n.toNat + 1) c n

/-- A slot's samples at a point, with the composites that the channels deliver (R178, R248). -/
def State.pointStream (s : State) (i point : Nat) : Stream := s.pointWith s.txDac i point

/-! Analysis frames -/

/-- Bin `b` of the 512-point transform of the samples from number `n` on under a Hann window (R220). -/
def dft512 (x : Stream) (n : Int) (b : Nat) : Cx :=
  (Cx.sum ((List.range 512).map fun (t : Nat) =>
    ((x (n + t)).scale ((1 - (circle (mkRat t 512)).re) / 2)).mul (circle (mkRat ((256 - (b : Int)) * t) 512)))).scale (mkRat 1 256)

/-- The reference of a slot's analysis: the sum of its used aggressors' references (R188, R219, R220). (DESIGN CHOICE: log 47) -/
def State.sumRef (s : State) (i : Nat) : Stream := fun n =>
  Cx.sum (((List.range 4).filter (s.aggUsed i)).map fun a => s.reference s.txDac i (s.liveOf i) a n)

/-- The spectra of the frame of samples from number `n` on: powers of reference, receive and residual, and their cross-spectra with the
reference (R220). (DESIGN CHOICE: log 47, 75) -/
def State.spectra (s : State) (i : Nat) (n : Int) : List BinEst :=
  (List.finRange 512).map fun (b : Fin 512) =>
    let u := fun (x : Rat) => (x * (10 ^ 15 : Nat)).floor
    let r := dft512 (s.sumRef i) n b.val
    let y := dft512 (s.received i (s.liveSet i)) n b.val
    let e := dft512 (s.residual s.txDac i (s.liveSet i)) n b.val
    let p := fun (z : Cx) => (u (z.re * z.re + z.im * z.im)).toNat
    let q := fun (z : Cx) => let c := z.mul r.conj; (u c.re, u c.im)
    { bin := b, ref := p r, rx := p y, res := p e, xrx := q y, xres := q e }

/-- DAC samples of a channel that the sum saturates, of the `k` samples up to number `n` (R161). -/
def State.txSats (s : State) (c : Nat) (n k : Nat) : Nat :=
  ((List.range k).filter fun (j : Nat) => decide (1 < s.txSum s.txDac c ((n : Int) - j)) || decide (s.txSum s.txDac c ((n : Int) - j) < -1)).length

/-- DAC samples of a channel up to an instant. -/
def State.dacNo (s : State) (c t : Nat) : Nat := t * planRate (s.planOf (c / 4)) / 4

/-! Latency -/

/-- The stages of the chain in their order (R160). -/
inductive Stage where
  | conversion | nco | movingAverage | halfBands | resampler | channelFir | subtraction | slotGain | balancing
  | txResampler | txHalfBands | transmit
  deriving DecidableEq, Repr

def chain : List Stage :=
  [.conversion, .nco, .movingAverage, .halfBands, .resampler, .channelFir, .subtraction, .slotGain, .balancing, .txResampler,
    .txHalfBands, .transmit]

/-- The latency of a stage in ns, for a working rate in units, a profile, a filter length and a balancing delay in 1/16 of a sample. Of F,
reception takes 80 ns, NCO and decimator together 20 ns, slot gain 10 ns, and exchange, final interpolator, up-conversion and DAC 140 ns
(R160, R162). -/
def stageNs (units p len bal : Nat) : Stage → Rat
  | .conversion => 80
  | .nco => 0
  | .movingAverage => 20
  | .halfBands => 2 * mkRat 3125 (24 * units)
  | .resampler => mkRat 3125 (24 * units)
  | .channelFir => mkRat (len - 1) 2 * mkRat 3125 (24 * units)
  | .subtraction => pipeC p
  | .slotGain => 10
  | .balancing => mkRat bal 16 * mkRat 3125 (24 * units)
  | .txResampler => mkRat 3125 (24 * units)
  | .txHalfBands => 2 * mkRat 3125 (24 * units)
  | .transmit => 140

/-- The latency of the whole chain (R162). -/
def chainNs (units p len bal : Nat) : Rat := (chain.map (stageNs units p len bal)).sum

end Sys2Proof.Machine
end

