-- ==== Sys2Proof/Machine/GovOps.lean ====
section
/-! DEFINITION. Slot mutes, clamps and their release, the band comparator, and what a slot's governor loses at OFF (R228 to R231,
R249, R284 to R298, R300). -/
namespace Sys2Proof.Machine
open Sys2Proof

/-! Mutes -/

/-- A mute or the latch of R287 is in force on a slot. -/
def State.muted (s : State) (i : Nat) : Bool :=
  s.flag (GOV.PROT_STAT.LATCHED i) || s.flag (GOV.PROT_STAT.OSC i) || s.flag (GOV.PROT_STAT.MASK i) || s.flag (GOV.PROT_STAT.DUTY i)
    || s.flag (GOV.PROT_STAT.BAND i)

/-- The detail of a mute's record (R418). (DESIGN CHOICE: log 41) -/
def State.protDetail (s : State) (i : Nat) : List Nat :=
  [16 * s.get (GOV.PROT_STAT.LATCHED i) + 8 * s.get (GOV.PROT_STAT.OSC i) + 4 * s.get (GOV.PROT_STAT.MASK i)
    + 2 * s.get (GOV.PROT_STAT.DUTY i) + s.get (GOV.PROT_STAT.BAND i), s.get (GOV.PROT_STAT.MUTES i)]

/-- A reason of PROT_STAT mutes a slot (R284). -/
def State.protMute (s : State) (i : Nat) (f : Fld) : State :=
  let s := s.set f 1
  if s.enabled.contains i then s.hold hProtect i else s

/-- A reason ends; with the last one HOLD.PROTECT ends (R284). -/
def State.protFree (s : State) (i : Nat) (f : Fld) : State :=
  let s := s.set f 0
  if s.muted i ∨ !s.enabled.contains i then s else s.unhold hProtect i

/-- An OSC or MASK mute counts, and the third of a slot number within 60 s of operating time latches (R287). (DESIGN CHOICE: log 41) -/
def State.countMute (s : State) (i : Nat) : State :=
  let l := ((s.gv i).mutes.filter fun t => s.now < t + ms 60000) ++ [s.now]
  let s := (s.modGv i fun g => { g with mutes := l }).set (GOV.PROT_STAT.MUTES i) (min 3 l.length)
  if 3 ≤ l.length then s.protMute i (GOV.PROT_STAT.LATCHED i) else s

/-- The latch of a slot that was not latched before is raised (R287). -/
def State.latchNote (s : State) (was : Bool) (i : Nat) : State :=
  if s.flag (GOV.PROT_STAT.LATCHED i) && !was then s.fire 0x23 GOV.src.OSC_LATCH { slot := some i, detail := s.protDetail i } else s

/-! The band comparator -/

/-- The in-band bins of an analysis (R221, R291). -/
def inBand (b : Nat) : Bool := 52 ≤ b && b ≤ 460

/-- The copy in the comparator of a slot's group has a range of the slot's direction that holds a band (R298). -/
def State.copyHas (s : State) (i : Nat) (lo hi : Int) : Bool :=
  (List.range 64).any fun r =>
    let k := fun j => Tab.get 0 s.copies (192 * (i / 64) + 3 * r + j)
    tbit (k 2) (s.uplink i).toNat && 1000 * (k 0 : Int) ≤ lo && hi ≤ 1000 * (k 1 : Int)

/-- Live receive and transmit bands lie in the comparator's ranges (R295, R298). -/
def State.bandOk (s : State) (i : Nat) : Bool :=
  let l := s.liveOf i
  s.copyHas i (s.bandLo i l.rxCentre) (s.bandHi i l.rxCentre) && s.copyHas i (s.bandLo i l.txCentre) (s.bandHi i l.txCentre)

/-- The check at enable and at every commit point (R298). -/
def State.bandCheck (s : State) (i : Nat) : State :=
  if s.bandOk i ∨ s.flag (GOV.PROT_STAT.BAND i) ∨ !s.enabled.contains i then s
  else
    let s := s.protMute i (GOV.PROT_STAT.BAND i)
    s.fire 0x23 GOV.src.BAND_FAULT { slot := some i, detail := s.protDetail i }

/-! Clamps -/

/-- The cut that the live channel FIR carries in a bin, in 0.01 dB (R224). -/
def State.cutL (s : State) (i b : Nat) : Int := Tab.get 0 (s.gv i).cutLive b

/-- Width in bins of a slot's notch (R228). -/
def State.notchWidth (s : State) (i : Nat) : Nat := max 3 (2048 / max 1 (s.liveOf i).firLen)

/-- A notch centred on bin `c` covers bin `b`. -/
def State.notchCovers (s : State) (i c b : Nat) : Bool := 2 * (max b c - min b c) ≤ s.notchWidth i

/-- The live channel FIR's response in a bin, in 0.01 dB (R218). -/
def State.firDb (s : State) (i b : Nat) : Int :=
  response (((s.taps256 i true).filter fun e => e.1 < (s.liveOf i).firLen).map fun e => ((e.1 : Int), 0, e.2)) b

/-- What a notch takes from a bin in 0.01 dB: 30 dB or more in its own, 3 dB or more within its width, and less beyond (R228). -/
def State.notchDb (s : State) (i c b : Nat) : Int :=
  let d := max b c - min b c
  let n := Config.notchLoss (s.liveOf i).firLen d
  if d = 0 then 3000 + n else if s.notchCovers i c b then 300 + n else (n % 300 : Nat)

/-- The response of the clamps in force in a bin, in 0.01 dB (R218, R228, R229). -/
def State.clampDb (s : State) (i b : Nat) : Int :=
  let g := s.gv i
  0 - (g.notches.map fun x => s.notchDb i x.bin b).sum - g.broad.getD 0

/-- G(b): the digital gain of a bin in 0.01 dB (R218). -/
def State.binGain (s : State) (i b : Nat) : Int := 5 * sext 12 (s.get (SLP.GAIN_STAT.APPLIED i)) + s.firDb i b + s.clampDb i b

/-- The live FIR, applied without the clamp, meets the margin in a bin by the estimate that triggered the clamp, whoever built it (R230). -/
def State.clampMet (s : State) (i : Nat) (n : Notch) : Bool := decide (n.lam + s.firDb i n.bin ≤ -s.margin i)

/-- A clamp has been in force for GOV.CLAMP_CFG.HOLD ms since its last trigger (R230). -/
def State.clampHeld (s : State) (n : Notch) : Bool := n.at_ + ms (s.get GOV.CLAMP_CFG.HOLD) ≤ s.now

/-- SLOT_GOV shows the clamps in force. -/
def State.syncClamps (s : State) (i : Nat) : State :=
  let g := s.gv i
  let s := if g.notches.isEmpty ∧ g.broad.isNone then s.modGv i fun g => { g with firstAt := none, clean := 0, afterN := 0, after := [] } else s
  (s.set (GOV.SLOT_GOV.NOTCHES i) g.notches.length).put (GOV.SLOT_GOV.BROAD i) g.broad.isSome

/-- At a commit point the clamps whose hold has passed and whose live FIR meets the margin end, with a fade over 32 samples; a broadband
clamp, where every bin that it covers meets it (R228 to R230). -/
def State.releaseClamps (s : State) (i : Nat) : State :=
  let g := s.gv i
  if g.notches.isEmpty ∧ g.broad.isNone then s
  else
    let done := fun n => s.clampHeld n && s.clampMet i n
    let t := s.sampleAt i s.now
    let gone := (g.notches.filter done).map fun n => { n with goneAt := some t }
    let old := g.fading.filter fun n => decide (s.now < n.goneAt.getD 0 + 32 * s.sampleT i)
    let s := s.modGv i fun g => { g with notches := g.notches.filter fun n => !done n, fading := old ++ gone }
    let s := if g.broad.isSome && g.broadBins.all done then
        s.modGv i fun g => { g with broad := none, broadBins := [], broadFrom := g.broad.getD 0, broadAt := t }
      else s
    s.syncClamps i

/-! Loops -/

/-- A slot loop is zeroed and left in its mode (R249). -/
def State.zeroLoop (s : State) (l : Nat) : State :=
  let s := { s with loops := Tab.upd {} s.loops l fun x => { ({} : Loop) with modeAt := x.modeAt } }
  let s := s.set (CLV.LOOP_STAT.OBSV l) 0
  if s.flag (CLV.LOOP_STAT.MODE_NOW l) then (s.set (CLV.LOOP_OUT0.VALUE l) 0).set (CLV.LOOP_OUT1.VALUE l) 0 else s

/-- At OFF: clamps, mutes and reductions ended, cuts 0 dB, cap cleared; OWNER values, a latch and its count stay (R224, R249, R287,
R290, R292, R300). -/
def State.govOff (s : State) (i : Nat) : State :=
  let s := s.modGv i fun g => { owner := g.owner, mutes := g.mutes }
  let fs := [GOV.SLOT_GOV.COLD i, GOV.SLOT_GOV.WARMR i, GOV.SLOT_GOV.URG i, GOV.SLOT_GOV.NOTCHES i, GOV.SLOT_GOV.BROAD i, GOV.SLOT_GOV.CAP i,
    GOV.PROT_STAT.OSC i, GOV.PROT_STAT.MASK i, GOV.PROT_STAT.DUTY i, GOV.PROT_STAT.BAND i, GOV.PROT_STAT.PCLAMP i, GOV.PROT_STAT.NRED i,
    OBS.SUM0.WORST_LG i, OBS.SUM0.WORST_BIN i, OBS.SUM1.IPHYS_MIN i, OBS.SUM1.HIST i, OBS.SUM1.VALID_BINS i]
  (fs.foldl (fun s f => s.set f 0) s).zeroLoop i

end Sys2Proof.Machine
end

