-- ==== Sys2Proof/Machine/LinkOps.lean ====
section
/-! DEFINITION. Export frames on the Chicory lanes (R69, R177 to R181). -/
namespace Sys2Proof.Machine
open Sys2Proof

/-- A slot's export. -/
def State.exp (s : State) (i : Nat) : Exp := Tab.get {} s.exps i

/-- A slot's export changed. -/
def State.modExp (s : State) (i : Nat) (f : Exp → Exp) : State := { s with exps := Tab.upd {} s.exps i f }

/-- Export weight of a slot in 1.92 MS/s: its working rate, or 0.75 of it where FMT is 1 (R177, R181). -/
def State.expWeight (s : State) (i w : Nat) : Nat := if tbit w 31 then (if tbit w 28 then 3 else 4) * s.units i else 0

/-- The lane that an EXPORT word names. -/
def expLane (w : Nat) : Nat := bits w 24 4

/-- A lane carries frames: it is enabled, holds block lock, is clocked, and its block is not in reset (R181, R447). -/
def State.laneUp (s : State) (l : Nat) : Bool := s.flag (LNK.LANE_CTL.EN l) && s.flag (LNK.LANE_STAT.UP l) && s.clkOn 3 && !s.resetting 0x2B

/-- LANE_STAT.LOAD of every lane follows the exports in force. (DESIGN CHOICE: log 66) -/
def State.syncLoad (s : State) : State :=
  (List.range 16).foldl (fun s l =>
    s.set (LNK.LANE_STAT.LOAD l) ((s.exps.filter fun e => expLane e.2.live == l).map fun e => s.expWeight e.1 e.2.live).sum) s

/-- Samples in a frame, and the bytes of one sample (R179). -/
def frameLen (w : Nat) : Nat := if tbit w 28 then 480 else 360
def sampleBytes (w x : Nat) : List Nat :=
  if tbit w 28 then [bits x 24 8, 16 * bits x 20 4 + bits x 12 4, bits x 4 8] else (leBytes 4 x).reverse

/-- TIME of a frame whose first sample reached its point `n` samples ago: the instant at which that sample's signal was at the RX ball,
or for the transmit point the instant at which it leaves the TX ball, on the IEEE 1588 time. Up to the channel FIR's output a signal takes
100 ns, 3 samples and half the filter's length; the canceller takes C, and the slot gain 10 ns (R160, R162, R180). -/
def State.pointTime (s : State) (i point n : Nat) : Nat × Nat :=
  let p := s.get IDN.PROFILE.ACTIVE
  let T := s.sampleT i
  let ticks : Int := ((n + 3) * T + ((s.liveOf i).firLen - 1) * T / 2 : Nat)
  let ns : Int := (100 + (if point = 0 ∨ point = 3 then 0 else pipeC p) + (if point = 2 then 10 else 0) : Nat)
  let rx : Int := s.linkNum - ticks * 3125 * (1000000000000 + s.ptpRate) - ns * 3072000000000000
  let t := if point = 2 then rx + (latency p : Int) * 3072000000000000 else rx
  if s.lnk.on then splitNs (t / 3072000000000000).toNat else (0, 0)

/-- A trigger of the loop capture comes: the happening that TRIG names, on the loop captured (R247). An injection start counts whatever its
loop. -/
def State.lcapOn (s : State) (code l : Nat) : State :=
  if s.flag CAP.LCAP_CTL.ARMED && s.get CAP.LCAP_CTL.TRIG == code && (code == 1 || s.get CAP.LCAP_LOOP.LOOP == l) then
    { s with clv := { s.clv with lcapHit := true } }
  else s

/-- A trigger of the I/Q capture comes: the happening that TRIG names, on the slot captured (R248). -/
def State.iqOn (s : State) (code i : Nat) : State :=
  if s.flag CAP.IQ_CTL.ARMED && s.get CAP.IQ_CTL.TRIG == code && s.get CAP.IQ_CTL.SLOT == i && s.clv.iqTrig.isNone then
    { s with clv := { s.clv with iqTrig := some s.now } }
  else s

/-- The estimator's history of a slot restarts from nothing (R221). -/
def State.obsReset (s : State) (i : Nat) : State :=
  let s := s.modGv i fun g => { g with est := [], frames := 0, afterN := 0, after := [], reseed := 0, step := [], capOk := false }
  [OBS.SUM0.WORST_LG i, OBS.SUM0.WORST_BIN i, OBS.SUM1.IPHYS_MIN i, OBS.SUM1.HIST i, OBS.SUM1.VALID_BINS i].foldl (fun s f => s.set f 0) s

/-- The working-rate samples of a slot's input that arrived invalid up to now are counted, and the source INVALID follows the count (R69,
R163): also those that its group or page discards while it stands; gated clocks carry none. (DESIGN CHOICE: log 30) -/
def State.countBad (s : State) (i : Nat) : State :=
  let T := s.sampleT i
  let n := match (s.slot i).badAt with
    | some t => s.now / T - t / T
    | none => 0
  let bad := s.inputBad i && !s.clocksGated
  let at_ := if bad then some s.now else none
  if n = 0 then (if (s.slot i).badAt.isSome && bad then s else s.modSlot i fun x => { x with badAt := at_ })
  else (((s.modSlot i fun x => { x with badAt := at_ }).modExp i fun x => { x with bad := true }).count (SLP.SLOT_CNT.INVALID i) n).fire (0x40 + i / 8) SLP.src.INVALID { slot := some i }

/-- Every slot's invalid input is counted (R69). -/
def State.countBads (s : State) : State := s.active.foldl (fun s i => s.countBad i) s

/-- The bytes of a slot's export frame of the `k` samples that it has, the rest of the frame zero (R178, R179). -/
def State.frameBytes (s : State) (i k : Nat) (last : Bool) : List Nat :=
  let x := s.exp i
  let w := x.live
  let l := expLane w
  let n := frameLen w
  let dst := s.get (LNK.DST_HI.ADDR l) * 2 ^ 32 + s.get (LNK.DST_LO.ADDR l)
  let src := s.get (LNK.SRC_HI.ADDR l) * 2 ^ 32 + s.get (LNK.SRC_LO.ADDR l)
  let point := bits w 29 2
  let t := s.pointTime i point (s.now / s.sampleT i - x.first)
  let invalid := !s.flag (SLP.SLOT_STAT.HIST_VALID i) || s.inputBad i || (s.slot i).badAt.isSome || x.bad
  let silent := point == 2 && (List.range k).all fun j => (s.slot i).weightWas (s.sampleT i) ((x.first + j) * s.sampleT i) == 0
  let flags := x.gap.toNat + 2 * invalid.toNat + 4 * silent.toNat + 8 * last.toNat
  let head := (leBytes 6 dst).reverse ++ (leBytes 6 src).reverse ++ (leBytes 2 (s.get (LNK.LANE_CTL.ETYPE l))).reverse
    ++ [16 + bits w 28 1, 64 * point + s.get (SLP.SLOT_CFG.RATE i)] ++ (leBytes 2 i).reverse ++ (leBytes 4 x.seq).reverse
    ++ (leBytes 6 t.1).reverse ++ (leBytes 4 t.2).reverse ++ (leBytes 2 flags).reverse
  let data := ((List.range n).map fun j => sampleBytes w (if j < k then (s.pointStream i point (x.first + j : Nat)).word else 0)).flatten
  head ++ data ++ leBytes 4 (crc32 (head ++ data))

/-- An export frame is complete: it is sent, or discarded and counted where the lane is off, down or congested; the second
component tells whether it was discarded (R178, R179, R181). -/
def State.exportSend (s : State) (i : Nat) (fits last : Bool) : State × Bool :=
  let x := s.exp i
  let l := expLane x.live
  if !tbit x.live 31 then (s, false)
  else
    let k := min (frameLen x.live) (s.now / s.sampleT i - x.first)
    let bytes := s.frameBytes i k last
    let go := fits && s.laneUp l
    let s := s.modExp i fun x => { x with seq := (x.seq + 1) % 2 ^ 32, gap := !go, bad := false, first := x.first + k }
    if go then
      let t := s.wrap (LNK.TX_CNT.SENT l)
      ({ t with lnk := { t.lnk with sent := Tab.set [] t.lnk.sent l bytes } }, false)
    else (s.count (LNK.TX_CNT.DISCARDED l) 1, true)

/-- FRAME_DROP fires where a frame was discarded (R181). -/
def State.frameDrop (s : State) (i : Nat) (b : Bool) : State := if b then s.fire 0x2B LNK.src.FRAME_DROP { slot := some i } else s

/-- An export frame is complete, once its last sample is there (R178, R181). -/
def State.exportFrame (s : State) (i : Nat) (fits : Bool) : State :=
  let x := s.exp i
  let r := (if tbit x.live 31 then s.until ((x.first + frameLen x.live) * s.sampleT i) else s).exportSend i fits false
  r.1.frameDrop i r.2

/-- A slot's stream runs: from PREP to the end of the drain, and not with gated clocks (R79, R178). -/
def State.streams (s : State) (i : Nat) : Bool :=
  s.active.contains i && s.get (SLP.SLOT_STAT.STATE i) != 1 && !s.clocksGated && tbit (s.exp i).live 31

/-- The last frame of a slot's stream, where one runs; whether the lane is then congested is a free value (R178).
(DESIGN CHOICE: log 66) -/
def State.exportLast (s : State) (i : Nat) : State × Bool :=
  if s.streams i then
    let (x, t) := s.draw
    t.exportSend i (x % 2 == 0) true
  else (s, false)

/-- The stream of a slot ends with its last frame; the next one counts from 0 (R178, R179). -/
def State.exportEnd (s : State) (i : Nat) : State :=
  let r := s.exportLast i
  (r.1.modExp i fun x => { x with seq := 0, gap := false, bad := false }).frameDrop i r.2

/-- A stream begins: it counts its frames from 0 and its samples from here (R178, R179). -/
def State.exportBegin (s : State) (i : Nat) : State := s.modExp i fun x => { x with seq := 0, gap := false, bad := false, first := s.now / s.sampleT i }

end Sys2Proof.Machine
end

