-- ==== Sys2Proof/Machine/Profile.lean ====
section
/-! DEFINITION. Operating profiles, the rises of the engine rails that they need, and converter channels that Frugal powers
down (R18 to R28, R72, R74, R164, R449). -/
namespace Sys2Proof.Machine
open Sys2Proof

/-! Limits -/

/-- The canceller taps of a slot, the larger of two sizes while a resize is pending (R191, R198). -/
def State.taps (s : State) (i : Nat) : Nat :=
  let x := s.cs i
  64 * if x.resizeAt.isSome ∨ x.resized then max x.lay.sum (s.extCfg i).sum else (s.layMax i).sum

/-- A slot breaks the tap limits of a profile (R18, R164). -/
def State.overTaps (s : State) (p i : Nat) : Bool :=
  tapLimit p < s.taps i || firLimit (s.get (SLP.SLOT_CFG.RATE i)) p < max (s.setOf i).firLen (s.get (SLP.FIR_CTL.LEN i))

/-- The cause that refuses a request, and the slot named with it; a power-state transition counts as a channel change (R21, R22,
R90, R449). (DESIGN CHOICE: log 33) -/
def State.profRefusal (s : State) (p : Nat) : Option (Nat × Nat) :=
  if s.pfRuns then some (7, 0)
  else if s.flag IDN.PROFILE.PENDING || s.flag PWR.PWR_CMD.BUSY || (List.range 8).any fun n => s.flag (SYN.SYN_STAT.BUSY n) then some (4, 0)
  else if p = 2 ∧ 0 < s.get THM.STAT.LEVEL then some (5, 0)
  else match s.active.find? (s.overTaps p) with
    | some i => some (1, i)
    | none =>
      if profCap p < (s.active.map s.charge).sum then some (2, 0)
      else if rateCap p < s.rateSum fun _ => true then some (3, 0)
      else none

/-! Converter channels -/

/-- The power flag of a converter channel: receive channel c, or transmit channel c at 32 + c (R19, R154). -/
def chanPwr (k : Nat) : Fld := if k < 32 then CNV.RX_CFG.PWR (k / 4) (k % 4) else CNV.TX_CFG.PWR ((k - 32) / 4) (k % 4)

/-- A slot names a channel: as SLOT_CFG.RX, as the input that its diversity port has chosen, or as a branch (R19, R134, R276). -/
def State.names (s : State) (k i : Nat) : Bool :=
  if k < 32 then s.rxOf i == k else k < 64 && (s.branches i).contains (k - 32)

/-- A slot names a channel for R19: a downlink diversity slot names that of the active aerial (R276). -/
def State.draws (s : State) (k i : Nat) : Bool := if k < 32 then s.rxIn i == k else s.names k i

/-- A channel is in use: a slot names it, or it is observation receiver k − 64 and its live dwell plan holds a valid entry (R19, R149).
(DESIGN CHOICE: log 61) -/
def State.inUse (s : State) (k : Nat) : Bool :=
  s.active.any (s.draws k) || (64 ≤ k && !(planEntries (s.plan ((k - 64) / 2) (k % 2))).isEmpty)

/-- A converter channel is powered or not; no register shows an observation receiver's power (R19, R154). -/
def State.power (s : State) (k : Nat) (on : Bool) : State := if k < 64 then s.put (chanPwr k) on else s

/-- The unused channels power down in Frugal (R19). -/
def State.trimChannels (s : State) : State :=
  if s.get IDN.PROFILE.ACTIVE ≠ 3 ∨ s.prof.phase = 1 ∨ s.prof.phase = 2 then s
  else ((List.range 80).filter fun k => !s.chanDown.contains k && !s.inUse k).foldl
    (fun s k => { s.power k false with chanDown := NSet.add s.chanDown k }) { s with chanUp := s.chanUp.filter s.inUse }

/-! The sequencer -/

/-- The raising steps go on: the lowest rail still to be raised gives up its clusters' jobs and is commanded; with none left,
and every channel up, the change waits for its commit (R24). -/
def State.profAdvance (s : State) : State :=
  if s.prof.phase ≠ 1 then s
  else match (List.range 4).find? fun k => tbit s.prof.rails k with
    | some k =>
      if s.get (PWR.ENG_RAIL.VTARGET k) = railTarget s.prof.target then s
      else ((List.range 4).foldl (fun s j => s.handJobs (4 * k + j)) s).command k (railTarget s.prof.target)
    | none =>
      if s.chanUp.isEmpty then { s with prof := { s.prof with phase := 2, ready := max s.now s.prof.ready } } else s

/-- A request is accepted (R20, R24). -/
def State.profAccept (s : State) (p : Nat) : State :=
  let a := s.get IDN.PROFILE.ACTIVE
  let s := (((s.set IDN.PROFILE.REQ p).set IDN.PROFILE.PENDING 1).set IDN.PROFILE.REFUSE 0).set IDN.PROFILE.OFFENDER 0
  let rails := if railTarget a < railTarget p then 15 else 0
  let up := if a = 3 then s.chanDown.foldl NSet.add s.chanUp else s.chanUp
  { s with prof := { target := p, phase := 1, rails := rails, ready := s.now + us 20, at_ := s.now }, chanUp := up }

/-- The raising steps begin 20 µs after the accepted write (R24). -/
def State.profBegin (s : State) : State :=
  if s.prof.phase ≠ 1 ∨ s.prof.begun ∨ s.resetting 0x00 then s
  else
    let s := s.until (s.prof.at_ + us 20)
    let s := { s with prof := { s.prof with begun := true } }
    s.applyDivs.profAdvance

/-- The effect of a write of IDN.PROFILE.REQ (R22, R449). -/
def State.profRequest (s : State) (m p : Nat) : State :=
  if p = s.get IDN.PROFILE.ACTIVE ∧ !s.flag IDN.PROFILE.PENDING then s
  else match s.profRefusal p with
    | some (c, i) => ((s.set IDN.PROFILE.REFUSE c).set IDN.PROFILE.OFFENDER i).fire 0x00 IDN.src.PROF_REFUSED { master := m }
    | none => s.profAccept p

/-- A write of PROFILE by a master. -/
def State.profileWrite (s : State) (m : Master) (v : Word) : State :=
  s.guarded m 0x50 v fun t => t.profRequest m.num (IDN.PROFILE.REQ.of v)

def execProfileRequest (m : Master) (v : Word) (s : State) : Host.Outcome State Fault Refusal :=
  ok (s.profileWrite m v)

/-- A rise is confirmed: the regulator has reported completion and the monitor reads within 15 mV of the target (R72). -/
def State.riseConfirmed (s : State) (k : Nat) : State :=
  let s := s.profBegin
  if s.inReset || tbit s.board.supLow k || !(s.rail k).rising then s
  else
    let s := s.modRail k fun r => { r with rising := false, startup := false, raised := false }
    let s := (s.set (PWR.ENG_RAIL.VCONFIRMED k) (s.get (PWR.ENG_RAIL.VTARGET k))).syncRail k
    let mine := s.prof.phase = 1 ∧ tbit s.prof.rails k ∧ s.get (PWR.ENG_RAIL.VTARGET k) = railTarget s.prof.target
    let s := if mine then { s with prof := { s.prof with rails := clrBit s.prof.rails k } } else s
    s.applyDivs.profAdvance

def execRailRiseConfirmed (k : Fin 4) (s : State) : Host.Outcome State Fault Refusal := ok (s.riseConfirmed k)

/-- A rise is not confirmed within 5 ms. The start-up rise goes on waiting; another is taken back, and with it the profile
change that asked for it (R24, R72, R74). (DESIGN CHOICE: log 32) -/
def State.riseTimeout (s : State) (k : Nat) : State :=
  let s := s.profBegin
  let r := s.rail k
  if s.inReset || !r.rising || (!r.raised && r.late) then s
  else
    let s := (s.until (r.at_ + ms 5)).set (PWR.ENG_RAIL.REFUSE k) 2
    let s : State :=
      if !r.raised then s.modRail k fun x => { x with late := true }
      else
        let s := ((s.modRail k fun x => { x with rising := x.startup, raised := false }).set (PWR.ENG_RAIL.VTARGET k) r.prev)
        let s := (s.set (PWR.ENG_RAIL.VCONFIRMED k) (min r.prev (s.get (PWR.ENG_RAIL.VCONFIRMED k)))).syncRail k
        if s.prof.phase = 1 ∧ tbit s.prof.rails k then s.profAbort 6 else s
    s.fire 0x02 PWR.src.VRM_TIMEOUT {}

def execVrmTimeout (k : Fin 4) (s : State) : Host.Outcome State Fault Refusal := ok (s.riseTimeout k)

/-- The commit: latency, tap limits, lane count, covariance and budget switch together at a common frame boundary, covariance estimates are
invalid from a Deep commit on (R209), every slot crossfades, and the clusters lower their clocks, then their rails (R24, R25). -/
def State.profCommit (s : State) : State :=
  let s := s.profBegin
  if s.inReset || s.resetting 0x00 || s.prof.phase != 2 then s
  else
    let s := s.until (s.frameAt (s.prof.ready + us 200))
    let p := s.prof.target
    let s := { (s.set IDN.PROFILE.ACTIVE p) with prof := { s.prof with phase := 3 }, can := { s.can with pgen := (s.can.pgen + 1) % 65536 } }
    let s := if p = 2 then s.active.foldl (fun s i => s.modCs i fun x => { x with covBlocks := 0 }) s else s
    let s := s.active.foldl (fun s i =>
      if s.get (SLP.SLOT_STAT.STATE i) = stCheck then s
      else s.modSlot i fun x => { x with xfadeProf := true, xEnd := s.sampleAt i s.now + 32 * s.sampleT i }) s
    (s.applyDivs.commandAll (railTarget p)).syncCap

def execProfileCommit (s : State) : Host.Outcome State Fault Refusal := ok s.profCommit

/-- 32 working-rate samples after the commit: the slot has the new balancing delay (R25, R162, R171). -/
def State.profXfadeEnd (s : State) (i : Nat) : State :=
  if (s.slot i).xfadeProf then
    let s := (s.until (s.slot i).xEnd).modSlot i fun x => { x with xfadeProf := false }
    s.set (SLP.LAT_STAT.BAL i) (s.balance i (s.get IDN.PROFILE.ACTIVE) (s.liveOf i).firLen)
  else s

def execProfileCrossfadeEnd (i : Fin 512) (s : State) : Host.Outcome State Fault Refusal := .next (s.profXfadeEnd i)

/-- The last step of a change: after a commit, once every slot's crossfade is over, PROF_DONE; after an abort PROF_REFUSED (R24,
R449). -/
def State.profDone (s : State) : State :=
  if s.inReset || s.resetting 0x00 then s
  else if s.prof.phase = 3 then
    let s := s.active.foldl (fun s i => s.profXfadeEnd i) s
    let s := { (s.set IDN.PROFILE.PENDING 0) with prof := { s.prof with phase := 0 } }
    s.trimChannels.fire 0x00 IDN.src.PROF_DONE {}
  else if s.prof.phase = 4 then
    let s := { (s.set IDN.PROFILE.PENDING 0) with prof := { s.prof with phase := 0 }, chanUp := s.chanUp.filter s.inUse }
    s.trimChannels.fire 0x00 IDN.src.PROF_REFUSED {}
  else s

def execProfileDone (s : State) : Host.Outcome State Fault Refusal := ok s.profDone

/-- A channel that was powered down is up and calibrated: the enables that waited for it take effect (R19, R24, R167). -/
def State.channelUp (s : State) (k : Nat) : State :=
  let s := s.profBegin
  if s.inReset || !s.chanUp.contains k then s
  else
    let s := { s.power k true with chanUp := NSet.rem s.chanUp k, chanDown := NSet.rem s.chanDown k }
    let s := if k < 32 then s.fgCal (k / 4) (k % 4) else s
    let s := (s.active.filter fun i => (s.slot i).waitsUp).foldl (fun s i =>
      if (List.range 64).any fun c => s.draws c i && s.chanDown.contains c then s else s.modSlot i fun x => { x with waitsUp := false }) s
    s.profAdvance

/-- The number of channel `c` of chiplet `n` among all: 32 receive, 32 transmit and 16 observation channels. -/
def chanNo (n c : Nat) : Nat := if c < 4 then 4 * n + c else if c < 8 then 28 + 4 * n + c else 56 + 2 * n + c

def execChannelPowerUpDone (n : Fin 8) (c : Fin 10) (s : State) : Host.Outcome State Fault Refusal := ok (s.channelUp (chanNo n c))

end Sys2Proof.Machine
end

