-- ==== Sys2Proof/Machine/Clocks.lean ====
section
/-! DEFINITION. Supply monitors, REFCLK, PLLs, island clocks, channel detectors and engine rails (R58 to R74, R445). -/
namespace Sys2Proof.Machine
open Sys2Proof

/-! Supply monitors -/

/-- The islands that a supervised rail feeds (R32, R445). -/
def railIslands (r : Nat) : List Nat := (List.range 48).filter fun n => tbit (islandRails n) r

/-- The islands of a rail wait for a new request (R445). -/
def State.waitRequest (s : State) (r : Nat) : State :=
  { s with needReq := (railIslands r).foldl NSet.add s.needReq }

/-- A supervised rail becomes low (R445). (DESIGN CHOICE: log 55) -/
def State.supplyLow (s : State) (r : Nat) : State :=
  let s := { s with board := { s.board with supLow := setBit s.board.supLow r } }
  if 9 ≤ r then s.biasLow
  else if s.inReset then s
  else
    let again := s.holds 0x02 PWR.src.SUPPLY_LOW
    let s := (s.waitRequest r).syncClocks
    if again then s.fire 0x02 PWR.src.SUPPLY_LOW {} else s.condBegin 0x02 PWR.src.SUPPLY_LOW {}

def execSupplyRailLow (r : Fin 11) (s : State) : Host.Outcome State Fault Refusal := ok (s.supplyLow r)

/-- A low rail is present again; the clocks of its islands wait for a new request (R445). -/
def State.supplyPresent (s : State) (r : Nat) : State :=
  let low := tbit s.board.supLow r
  let s := { s with board := { s.board with supLow := clrBit s.board.supLow r } }
  if !low then s
  else if 9 ≤ r then (if s.board.supLow / 512 % 4 = 0 then s.biasBack else s)
  else if s.inReset then s
  else
    let s := (s.waitRequest r).syncClocks
    if s.board.supLow % 512 = 0 then s.condEnd 0x02 PWR.src.SUPPLY_LOW else s

def execSupplyRailPresent (r : Fin 11) (s : State) : Host.Outcome State Fault Refusal := ok (s.supplyPresent r)

/-! REFCLK and the PLLs -/

/-- An island leaves its PLL for its start clock, which for most is no clock (R62). -/
def State.dropIsland (s : State) (n : Nat) : State :=
  if s.get (CLK.ISL_CLK.SRC_NOW n) = 1 then s.set (CLK.ISL_CLK.SRC_NOW n) 0 else s

/-- A PLL loses lock while it is enabled: its islands go back to the oscillator or stop, and with CPLL0 or CPLL1 all transmit
paths go off (R62). -/
def State.unlock (s : State) (p : Nat) : State :=
  if !s.flag (CLK.PLL_CTL.LOCK p) then s
  else
    let s := (s.set (CLK.PLL_CTL.LOCK p) 0).set (CLK.PLL_CTL.UNLOCK_SEEN p) 1
    let s := ((List.range 48).filter fun n => pllOf n == some p).foldl (fun s n => s.dropIsland n) s
    let s := if p = 0 ∨ p = 1 then s.txOff else s
    s.syncClocks.fire 0x03 CLK.src.PLL_UNLOCK {}

/-- Magnitude of a deviation, in 0.01 % (R59). -/
def devSize (dev : Nat) : Nat := (sext 16 dev).natAbs

/-- The monitor declares REFCLK lost or off-frequency (R58, R60, R62, R145, R299, R377). -/
def State.refDeclare (s : State) (lost : Bool) (dev : Nat) : State :=
    let s := (s.put CLK.OSC_STAT.LOST_SEEN (lost || s.flag CLK.OSC_STAT.LOST_SEEN)).put CLK.OSC_STAT.OFF_SEEN
      (!lost || s.flag CLK.OSC_STAT.OFF_SEEN)
    let s := (s.set CLK.OSC_STAT.DEV (if lost then 0 else dev)).set CLK.OSC_STAT.REF_OK 0
    let s := s.txOff.tamperBegin SEC.src.CLOCK
    let s := s.updPermit
    let s := ((List.range 48).foldl (fun s n => s.dropIsland n) s).syncClocks
    let s := s.condBegin 0x03 CLK.src.REFCLK_FAULT {}
    let s := ((List.range 7).filter fun p => s.flag (CLK.PLL_CTL.EN p)).foldl (fun s p => s.unlock p) s
    (List.range 8).foldl (fun s n =>
      if s.synStep n = yOff ∨ s.synStep n = yFailed then s
      else if s.synStep n < ySettle then s.synFail n
      else s.synUnlock n) s

/-- REFCLK loses its edges, or leaves its frequency: the first is declared at any time outside a chip reset, the second once the trim is
applied, and never at 4.5 % or less (R58). Between 4.5 % and 5.5 % the command says that the monitor declares it.
(DESIGN CHOICE: log 27) -/
def State.refFault (s : State) (lost : Bool) (dev : Nat) : State :=
  let s := { s with board := { s.board with refclk := !lost && s.board.refclk, refDev := if lost then s.board.refDev else dev } }
  if s.inReset then s
  else if lost then s.refDeclare true 0
  else if !s.board.refclk then s
  else if !s.flag CLK.OSC_STAT.TRIMMED || devSize dev ≤ 450 then s.set CLK.OSC_STAT.DEV dev
  else s.refDeclare false dev

def execRefclkFault (lost : Bool) (dev : BitVec 16) (s : State) : Host.Outcome State Fault Refusal := ok (s.refFault lost dev.toNat)

/-- REFCLK has edges again. Within tolerance, or before the trim, the monitor declares nothing: each enabled PLL locks, and no island
returns to its PLL. At 5.5 % or more it declares it off-frequency (R58, R60, R299, R377). (DESIGN CHOICE: log 27) -/
def State.refReturn (s : State) (dev : Nat) : State :=
  let s := { s with board := { s.board with refclk := true, refDev := dev } }
  if s.inReset then s
  else if s.flag CLK.OSC_STAT.TRIMMED && 550 ≤ devSize dev then s.refDeclare false dev
  else
    let s := (s.set CLK.OSC_STAT.DEV dev).set CLK.OSC_STAT.REF_OK 1
    let s := ((List.range 7).filter fun p => s.flag (CLK.PLL_CTL.EN p)).foldl (fun s p => s.set (CLK.PLL_CTL.LOCK p) 1) s
    ((s.condEnd 0x03 CLK.src.REFCLK_FAULT).condEnd 0x08 SEC.src.CLOCK).updPermit.syncClocks

def execRefclkReturn (dev : BitVec 16) (s : State) : Host.Outcome State Fault Refusal := ok (s.refReturn dev.toNat)

/-- An island runs from a PLL (R61). -/
def State.pllUsed (s : State) (p : Nat) : Bool :=
  (List.range 48).any fun n => pllOf n == some p && s.get (CLK.ISL_CLK.SRC_NOW n) == 1 && s.clkOn n

/-- A write of CLK.PLL_CTL: a stop is refused while an island runs from the PLL (R61). -/
def State.pllWrite (s : State) (p : Nat) (v : Word) : State :=
  let stop := s.flag (CLK.PLL_CTL.EN p) && (CLK.PLL_CTL.EN p).of v == 0
  if stop && s.pllUsed p then s.writeFld v (CLK.PLL_CTL.UNLOCK_SEEN p)
  else
    let s := s.writeReg (0x3080 + 4 * p) v
    if stop then (s.set (CLK.PLL_CTL.LOCK p) 0).syncClocks else s

/-- A write of PLL_CTL by a master. -/
def State.pllCtlWrite (s : State) (m : Master) (p : Nat) (v : Word) : State :=
  s.guarded m (0x3080 + 4 * p) v fun t => t.pllWrite p v

def execPllEnable (m : Master) (p : Fin 7) (v : Word) (s : State) : Host.Outcome State Fault Refusal :=
  ok (s.pllCtlWrite m p v)

/-- An enabled PLL achieves lock, with REFCLK within tolerance (R61). -/
def State.pllLock (s : State) (p : Nat) : State :=
  if !s.inReset && s.flag (CLK.PLL_CTL.EN p) && s.flag CLK.OSC_STAT.REF_OK then (s.set (CLK.PLL_CTL.LOCK p) 1).syncClocks else s

def execPllLocked (p : Fin 7) (s : State) : Host.Outcome State Fault Refusal := .next (s.pllLock p)

def execPllUnlock (p : Fin 7) (s : State) : Host.Outcome State Fault Refusal :=
  ok (if !s.inReset && s.flag (CLK.PLL_CTL.EN p) then s.unlock p else s)

/-! Island clocks -/

/-- A Yarrow cluster's island. -/
def yarrow (n : Nat) : Bool := 19 ≤ n && n ≤ 34

/-- An island has a source (R62, R63). -/
def hasSource (n src : Nat) : Bool := src == 0 || (src == 1 && (pllOf n).isSome) || (src == 2 && ownSource n)

/-- The source to be is locked (R62, R64). The PLLs of the PCIe endpoint and of the lanes count as locked while their rails are up.
(DESIGN CHOICE: log 28) -/
def State.sourceLocked (s : State) (n src : Nat) : Bool :=
  if src = 1 then (match pllOf n with | some p => s.flag (CLK.PLL_CTL.LOCK p) | none => false)
  else if src = 2 ∧ 35 ≤ n then s.flag (SYN.SYN_STAT.READY (n - 35))
  else src = 0 || s.powered n

/-- Work that forbids a change of source: an enabled slot, a running sequencer, a running Clover period (R64). -/
def State.clockActive (s : State) (n : Nat) : Bool :=
  (11 ≤ n && n ≤ 18 && s.active.any fun i => i / 64 == n - 11)
    || (n == 44 && (List.range 4).any fun k => s.flag (FEC.SEQ_CTL.RUNNING k))
    || (n == 6 && s.clkOn 6 && s.flag (HDR.PAGE_CTL.EN 0x22))

/-- The setting would raise a cluster's clock before the rail's confirmed voltage allows it (R64, R73). -/
def State.clockVolt (s : State) (n src div : Nat) : Bool :=
  yarrow n &&
    let t := s.set (CLK.ISL_CLK.DIV_REQ n) div
    let g := t.divGoal (n - 19)
    (g < s.get (CLK.ISL_CLK.DIV_APPLIED n) || (src == 1 && s.get (CLK.ISL_CLK.SRC_NOW n) == 0)) &&
      s.get (PWR.ENG_RAIL.VCONFIRMED ((n - 19) / 4)) < minVolt g

/-- Why a write of CLK.ISL_CLK is refused; 0 where it is not. Of several causes the first here is named: SOURCE, ACTIVE, NOLOCK, VOLT
(R64). (DESIGN CHOICE: log 29) -/
def State.clockCause (s : State) (n src div : Nat) : Nat :=
  if !hasSource n src then 5
  else if src ≠ s.get (CLK.ISL_CLK.SRC_NOW n) ∧ s.clockActive n then 2
  else if src ≠ s.get (CLK.ISL_CLK.SRC_NOW n) ∧ !s.sourceLocked n src then 3
  else if s.clockVolt n src div then 4
  else 0

/-- LINK_DOWN follows the link once its page is clocked: it holds while UP is 0 and PERST_N is high (R109, R357). -/
def State.followLink (s : State) : State :=
  if s.clkOn 2 && !s.flag PCI.LINK_STAT.UP && s.board.perstN then s.condBegin 0x2C PCI.src.LINK_DOWN {} else s

/-- A write of CLK.ISL_CLK is taken or refused (R64, R445). (DESIGN CHOICE: log 28) -/
def State.islandClock (s : State) (n src div : Nat) : State :=
  let c := s.clockCause n src div
  if c ≠ 0 then s.set (CLK.ISL_CLK.REFUSE n) c
  else
    let s := ((s.set (CLK.ISL_CLK.SRC n) src).set (CLK.ISL_CLK.SRC_NOW n) src).set (CLK.ISL_CLK.REFUSE n) 0
    let s := { s with needReq := NSet.rem s.needReq n }
    (if yarrow n then (s.set (CLK.ISL_CLK.DIV_REQ n) div).applyDivs else s).syncClocks.followLink

/-- The fields of CLK.ISL_CLK that R6 checks on an island. (DESIGN CHOICE: log 28) -/
def clockFlds (n : Nat) : List Fld := if yarrow n then [CLK.ISL_CLK.SRC n, CLK.ISL_CLK.DIV_REQ n] else [CLK.ISL_CLK.SRC n]

/-- A write of ISL_CLK by a master. -/
def State.islandClockWrite (s : State) (m : Master) (n : Nat) (v : Word) : State :=
  s.guardedBy m (0x3100 + 4 * n) v (clockFlds n) true fun t => t.islandClock n ((CLK.ISL_CLK.SRC n).of v) ((CLK.ISL_CLK.DIV_REQ n).of v)

def execIslandClockWrite (m : Master) (n : Fin 48) (v : Word) (s : State) : Host.Outcome State Fault Refusal :=
  ok (s.islandClockWrite m n v)

/-! Channel detectors -/

/-- The source of a detector (R68). (DESIGN CHOICE: log 30) -/
def hsBit : HsKind → Nat
  | .ratio => CLK.src.HS_RATIO
  | .volt => CLK.src.HS_VOLT
  | .temp => CLK.src.HS_TEMP

/-- A detector measures beyond its threshold (R68). -/
def execHandshakeDetectorTrip (kind : HsKind) (s : State) : Host.Outcome State Fault Refusal :=
  ok (if kind = .temp ∧ !s.hsBeyond 240 then s else s.condBegin 0x03 (hsBit kind) {})

end Sys2Proof.Machine
end

