-- ==== Sys2Proof/Machine/Resets.lean ====
section
/-! DEFINITION. Chip resets and their releases, block resets and the power-fail sequence (R34, R39, R41, R49 to R57, R75 to
R78, R99, R335, R336, R446, R447, R450, R452). -/
namespace Sys2Proof.Machine
open Sys2Proof

/-! Release of a reset -/

/-- The straps as the balls stand (R34). -/
def Board.straps (b : Board) : Straps :=
  { bootSrc := b.bootSrc % 4, mprio := b.mprio % 256, biasSafe := b.biasSafe % 256, i2cAddr := b.i2cAddr % 8, testMode := b.testMode }

/-- Every bias output at the start of a start sequence: clamped to the safe end, or held where the pads are latched (R39,
R41, R315). -/
def State.biasStart (s : State) : State :=
  (List.range 64).foldl (fun s c =>
    if s.aon.padsHeld then
      let h := Tab.get 0x30000 s.aon.biasHeld c
      ((s.set (bCode c) (bits h 0 16)).set (bSpan c) (bits h 16 2)).set (bState c) bHeld
    else s.clampCh c) s

/-- The REFCLK monitor starts with the part: it declares a REFCLK without edges lost (R58, R59). -/
def State.refStart (s : State) : State :=
  if s.board.refclk then s.set CLK.OSC_STAT.REF_OK 1 else s.refDeclare true 0

/-- The start sequence begins: straps sampled, 0.750 V commanded on each engine rail, bias outputs as R39 or R41, the monitors of REFCLK
and of the PCIe link, and after a reset of THM_TRIP the part starts fully throttled (R34, R57, R58, R72, R109, R317, R335). -/
def State.start (s : State) : State :=
  let s := { s with straps := s.board.straps, tansy := { s.tansy with startAt := s.now } }
  let s := (List.range 4).foldl (fun s k => s.modRail k fun _ => { at_ := s.now }) s
  let low := s.board.supLow / 512 % 4 != 0
  let s := { ((s.put (BIA.SUPPLY.LOW 0) low).put (BIA.SUPPLY.LOW 1) low) with biasOk := !low }
  let s := (s.set HSI.I2C_ADDR.ADDR (0x58 + s.straps.i2cAddr)).biasStart
  let s := (s.put PCI.LINK_STAT.PERST (!s.board.perstN)).refStart
  if s.aon.trip then
    let t : State := { s with thm := { s.thm with eAt := s.now, enfAt := s.now } }
    let t := ((t.set THM.REQ.REQ 1).setLevel 12).condBegin 0x09 THM.src.THM_REQ {}
    t.fire 0x09 THM.src.THM_ENF { detail := t.thmDetail }
  else s

/-- Resets change; the start sequence begins once none is left in force. -/
def State.release (s : State) (r : Rst) : State :=
  let was := s.inReset
  let s := { s with rst := r }
  if was && !s.inReset then s.start else s

/-! AON and chip power-on reset -/

/-- The AON power-on reset: everything restarts, with the bias outputs clamped as the BIAS_SAFE balls stand (R39); the terminal latch and FLT.TERM stay unless VDD_AON fell below 0.4 V
(R52, R56). Its release is that of the chip power-on reset. (DESIGN CHOICE: log 24) -/
def State.aonPor (s : State) (belowLatch : Bool) : State :=
  let keep := s.reg.filter fun e => e.1 / 32 == 0x4070
  let t : State := { State.reset with
    pending := s.pending, now := s.now, fresh := s.fresh, board := s.board, otp := s.otp, nvm := s.nvm.afterReset
    evt := { store := s.evt.store }, rst := { aon := true, por := true, porAt := s.now }, aon := { opFrom := s.now, tamperOn := s.aon.tamperOn }
    straps := { biasSafe := s.board.biasSafe % 256 } }
  if belowLatch then t
  else
    let t := { t with reg := keep }
    if t.flag FLT.TERM.SET then t.set PWR.RESET_CAUSE.TERMINAL 1 else t

def execAonPowerOnReset (belowLatch : Bool) (s : State) : Host.Outcome State Fault Refusal := .next (s.aonPor belowLatch)

/-- The chip power-on reset is armed outside SLEEP, the isolation and the wake (R452). -/
def State.porArmed (s : State) : Bool := !s.aon.asleep && !s.rst.wake

/-- A monitored rail is low: a chip power-on reset, which ends a power-fail sequence where it stands (R52, R446). -/
def State.chipPor (s : State) (rail : Nat) : State :=
  let s := { s with board := { s.board with railsLow := setBit s.board.railsLow rail } }
  if !s.porArmed then s
  else if s.pfRuns then
    let s := (s.chipReset .por).markCause .pfail
    { s with rst := { s.rst with pfail := true, pfailAt := s.now, pf := .held, pinInPf := false, pin := s.rst.pin || s.rst.pinInPf } }
  else s.chipReset .por

def execChipPowerOnReset (rail : Fin 4) (s : State) : Host.Outcome State Fault Refusal := .next (s.chipPor rail)

/-- t_POR after the last monitored rail rose (R53). -/
def State.porRelease (s : State) : State :=
  if s.rst.por || s.rst.aon then
    let s := { s.until (s.rst.porAt + ms 2) with board := { s.board with railsLow := 0 } }
    s.release { s.rst with por := false, aon := false }
  else s

def execChipPorRelease (s : State) : Host.Outcome State Fault Refusal := .next s.porRelease

/-! Pin and fault reset -/

/-- RESET_N low for 1 µs: not sensed in SLEEP (R45); during the power-fail sequence it waits for that sequence's end (R446). -/
def State.pinLow (s : State) : State :=
  let s := { s with board := { s.board with resetN := false } }
  if s.aon.asleep then s
  else if s.pfRuns then { s.markCause .pin with rst := { s.rst with pinInPf := true, pinAt := s.now } }
  else if s.inReset then
    { s.markCause .pin with rst := { s.rst with pin := true, loaded := false, pinAt := s.now }, aon := { s.aon with trip := false } }
  else s.chipReset .pin

def execPinReset (s : State) : Host.Outcome State Fault Refusal := .next s.pinLow

/-- RESET_N has been high for t_RST (R53, R93, R446). -/
def State.pinHigh (s : State) : State :=
  let s := { s with board := { s.board with resetN := true } }
  let s := if s.rst.pin then s.until (s.rst.pinAt + us 20) else s
  s.release { s.rst with pin := false, pinInPf := false }

def execPinResetRelease (s : State) : Host.Outcome State Fault Refusal := .next s.pinHigh

/-- 20 µs after a fault chip reset was raised (R53). -/
def State.faultRelease (s : State) : State :=
  if s.rst.fault then (s.until (s.rst.faultAt + us 20)).release { s.rst with fault := false } else s

def execFaultResetRelease (s : State) : Host.Outcome State Fault Refusal := .next s.faultRelease

/-! Power fail -/

/-- Region writes that wait behind the running one end with PFAIL (R76, R396). -/
def State.dropQueued (s : State) : State :=
  let t : State := { s with nvm := { s.nvm with queue := s.nvm.queue.take 1 } }
  (s.nvm.queue.drop 1).foldl (fun s q =>
    let s := (if q.region = rgSnap && !s.inReset then s.set CAN.SNAP_STAT.RESULT 2 else s)
    let s := if s.inReset then s else s.nvmEnd 7 q.region 3
    let s := if q.tansy then s.tansyEnd 0x0B else s
    if q.region = rgSnap then s.fire 0x20 CAN.src.SNAP_FAIL {} else s) t.syncNvm

/-- The notices of a power-fail sequence: PFAIL_WARN, the abort of the transition `tr`, and the end of the region writes that wait; then
the flush starts (R76, R91). (DESIGN CHOICE: log 24) -/
def State.pfailTell (s : State) (tr : Option PwrTr) : State :=
  let s := s.fire 0x02 PWR.src.PFAIL_WARN { detail := [s.get PWR.PWR_CMD.STATE] }
  let s := match tr with
    | some t => s.pwrCount 7 t.target 6 true
    | none => s
  s.dropQueued.startFlush

/-- PFAIL_N falls (R45, R76, R78, R91). (DESIGN CHOICE: log 24) -/
def State.pfailEdge (s : State) : State :=
  let s := { s with board := { s.board with pfailN := false } }
  if s.aon.asleep then s
  else if s.inReset then
    { s.markCause .pfail with rst := { s.rst with pfail := true, pfailAt := s.now, pf := .held, loaded := false }, aon := { s.aon with trip := false } }
  else if !s.rst.loaded then
    let s := s.chipReset .pfail
    { s with rst := { s.rst with pf := .held } }
  else if s.rst.pf != .idle then s
  else
    let s := { s with rst := { s.rst with pf := .running } }
    if s.latchedEntry then s.txOff.pfailTell none else s.pwrBack.txOff.pfailTell s.tr

def execPfailWarn (s : State) : Host.Outcome State Fault Refusal := ok s.pfailEdge

/-- The end of the power-fail sequence, once the NVM controller is quiet: the power-fail reset begins. A chip reset of a
critical trip that waited for it follows at once (R76, R336, R446). (DESIGN CHOICE: log 24) -/
def State.pfailReset (s : State) : State :=
  if s.pfRuns && !s.nvm.group then
    let pin := s.rst.pinInPf
    let late := s.rst.faultWaits
    let trip := s.aon.trip
    let page := s.rst.waitPage
    let s := s.writeCounters.chipReset .pfail
    let s := { s with rst := { s.rst with pf := .held, pin := s.rst.pin || pin, pinInPf := false } }
    if late then ({ s with aon := { s.aon with trip := trip } }).faultReset page else s
  else s

def execPowerFailResetStart (s : State) : Host.Outcome State Fault Refusal := .next s.pfailReset

/-- PFAIL_N has been high for 1 ms with every monitored rail up (R77). -/
def State.pfailRelease (s : State) : State :=
  if s.rst.pf == .held && s.board.railsLow == 0 then
    let s := { s.until (s.rst.pfailAt + ms 1) with board := { s.board with pfailN := true } }
    s.release { s.rst with pfail := false, pf := .idle }
  else s

def execPowerFailResetRelease (s : State) : Host.Outcome State Fault Refusal := .next s.pfailRelease

/-! Block reset -/

/-- Clusters follow a write of PAGE_CTL, and the islands that waited for a new request run again (R207, R445). -/
def State.afterPageCtl (s : State) (p : Nat) : State :=
  let s := if s.flag (HDR.PAGE_CTL.CLK_REQ p) then
    { s with needReq := NSet.rem s.needReq (pageIsland p) } else s
  s.syncClocks.followLink

/-- A write of PAGE_CTL: EN and CLK_REQ are kept, SOFT_RESET = 1 starts a block reset where the island runs and none is in
progress. Field firmware that has only CLK delegated changes CLK_REQ alone. In OWN a SOFT_RESET clears the drop counters
(R55, R63, R99, R100, R127, R450). -/
def State.pageCtl (s : State) (m : Master) (p : Nat) (v : Word) : State :=
  s.guarded m (0x1000 * p + 8) v fun t =>
    let only := s.clkReqOnly m (0x1000 * p + 8)
    let t := t.set (HDR.PAGE_CTL.CLK_REQ p) (v.getLsbD 2).toNat
    let t := if only then t else t.set (HDR.PAGE_CTL.EN p) (v.getLsbD 0).toNat
    let t := t.afterPageCtl p
    if only || !v.getLsbD 1 then t
    else if p = 0x01 then (List.range 5).foldl (fun t m => (t.set (OWN.DROP_CNT.COUNT m) 0).set (OWN.DROP_CNT.LAST_PAGE m) 0) t
    else if t.clkOn (pageIsland p) && t.powered (pageIsland p) && !t.inReset then t.blockReset p
    else t

/-- BLOCK_RESET_START: a master writes SOFT_RESET = 1 with the other bits of PAGE_CTL as given. -/
def execBlockResetStart (m : Master) (p : Fin 128) (s : State) : Host.Outcome State Fault Refusal :=
  ok (s.pageCtl m p (BitVec.ofNat 32 (2 + 4 * s.get (HDR.PAGE_CTL.CLK_REQ p) + s.get (HDR.PAGE_CTL.EN p))))

/-- A slot covered by a block reset that ends: a disabled one reaches OFF, an enabled one restarts its histories and ramps up
from zero at the next boundary under the cap of R88 (R447). -/
def State.restartEnd (s : State) (i : Nat) : State :=
  let st := s.get (SLP.SLOT_STAT.STATE i)
  let s := (s.modSlot i fun x => { x with inReset := false }).restartObs i
  if st = stRampUp ∨ st = stOn then
    let g := sext 12 (s.get (SLP.GAIN_STAT.APPLIED i))
    (((s.cut i).modSlot i fun x => { x with resume := true, muteGain := some g }).set (SLP.SLOT_STAT.STATE i) stHeld).silence i
  else if st = stHeld ∧ s.get (SLP.SLOT_STAT.HOLD i) = 0 then s.modSlot i fun x => { x with resume := true }
  else s

/-- A block reset ends: RESET_ACTIVE and SOFT_RESET read 0, and the reset shadow runs on for 10 µs (R55, R350, R351, R447).
`off` takes a slot to OFF. -/
def State.blockEnd (s : State) (p : Nat) (off : State → Nat → State) : State :=
  if !s.flag (HDR.PAGE_STAT.RESET_ACTIVE p) then s
  else
    let s := (s.set (HDR.PAGE_STAT.RESET_ACTIVE p) 0).set (HDR.PAGE_CTL.SOFT_RESET p) 0
    let s := { s with flt := { s.flt with shadows := s.flt.shadows.set none p (some (s.now + us 10)) } }
    (s.covered p).foldl (fun s i =>
      let st := s.get (SLP.SLOT_STAT.STATE i)
      if (s.slot i).inReset then (if st = stRampDown ∨ st = stDrain then off (s.restartEnd i) i else s.restartEnd i) else s) s

/-- OWN_SOFT_RESET: SOFT_RESET = 1 in page OWN (R450). -/
def execOwnSoftReset (m : Master) (s : State) : Host.Outcome State Fault Refusal :=
  .next (s.pageCtl m 0x01 (BitVec.ofNat 32 (2 + 4 * s.get (HDR.PAGE_CTL.CLK_REQ 0x01) + s.get (HDR.PAGE_CTL.EN 0x01))))

end Sys2Proof.Machine
end

