-- ==== Sys2Proof/WellFormed.lean ====
section
/-! DEFINITION. Which commands the outside can send: shapes that the ports and engines cannot produce otherwise. The meanings
are total: they run on every command, well formed or not. -/
namespace Sys2Proof

/-- Elements of a list are pairwise different. -/
def distinct {α : Type} [DecidableEq α] : List α → Bool
  | [] => true
  | x :: t => !t.contains x && distinct t

/-- A command is well formed. (DESIGN CHOICE: log 6) -/
def Instr.wf : Instr → Bool
  -- a memory transaction moves 1 to 32 words of BAR0, 1 to 64 of BAR2, within a 4 KiB page (R106)
  | .pcieBar0Tlp a _ _ write n data => decide (a.toNat % 4 = 0) && decide (a.toNat % 0x1000 + 4 * n ≤ 0x1000) && 1 ≤ n && decide (n ≤ 32)
      && data.length == (if write then n else 0)
  | .pcieBar2Access a _ _ write n data => decide (a.toNat % 4 = 0) && decide (a.toNat % 0x1000 + 4 * n ≤ 0x1000) && 1 ≤ n && decide (n ≤ 64)
      && data.length == (if write then n else 0)
  -- the states of the link that R109 lists
  | .pcieLinkStateChange l _ _ _ => [0, 1, 2, 3, 4, 7, 8].contains l.toNat
  -- a serial write carries at least one whole word, a read asks for at least one (R110, R113)
  | .spiWrite _ _ data => !data.isEmpty
  | .spiRead _ _ n => 1 ≤ n
  | .i2cReadTransfer n => 1 ≤ n
  -- the reserved opcodes are those that R110 does not list
  | .spiReservedOpcode _ op => !([0x02, 0x0B, 0x05].contains op.toNat)
  -- one finding for each of the four channels of a chiplet (R147)
  | .bgCalWindowEnd _ obs => obs.length == 4
  -- a refuser code that a step's failure can carry (R85, R89)
  | .powerTransitionAbort code => [8, 9, 10].contains code.toNat
  -- one estimate for a bin, one measurement for a loop (R220, R238)
  | .analysisFrameComplete _ _ est _ => distinct (est.map (·.bin))
  | .cloverPeriodStart obs => distinct (obs.map (·.loop))
  -- a reading in 0.125 °C fits its 12-bit field (R338)
  | .sensorConversion _ v => decide (-2048 ≤ v) && decide (v ≤ 2047)
  -- each port's diversity difference fits its register (R278)
  | .diversityDecision _ d => decide (-32768 ≤ d) && decide (d ≤ 32767)
  | _ => true

end Sys2Proof
end

