-- ==== Sys2Proof/Machine/Slots.lean ====
section
/-! DEFINITION. Slots: enable, commit, holds, disable and drain, and the channel FIR coefficients (R155 to R176, R188 to R199, R213,
R214, R447). -/
namespace Sys2Proof.Machine
open Sys2Proof

/-! The checks of an enable -/

/-- A slot's bands under given centres reach outside 0.4 GHz to 7.2 GHz (R166). -/
def State.bandOut (s : State) (i c : Nat) : Bool := s.bandLo i c < 400000000 || 7200000000 < s.bandHi i c

/-- The channel FIR length breaks R163. -/
def State.firTooLong (s : State) (i : Nat) : Bool :=
  s.profiles.any fun p => firLimit (s.get (SLP.SLOT_CFG.RATE i)) p < s.get (SLP.FIR_CTL.LEN i)

/-- The regulatory check of the shadow's bands (R166, R295). -/
def State.reglCause (s : State) (i : Nat) : Option (Nat × Nat) :=
  s.regulatory i (s.get (SLP.RX_CENTRE.FREQ i)) (s.get (SLP.TX_CENTRE.FREQ i))

/-- The checks of R166 in order: RESULT of the first that fails, 1 where none does. -/
def State.enableResult (s : State) (i : Nat) : Nat :=
  let d := s.shadowOf i
  if s.pfRuns then 0xF
  else if s.flag PWR.PAD_RELEASE.FE_HELD then 0xD
  else if s.flag PWR.PWR_CMD.BUSY then 0xC
  else if (s.chiplets i).any (fun n => s.synStep n == yOff || s.synStep n == yFailed) then 0xE
  else if (s.branches i).isEmpty || !distinct (s.branches i) || s.bandOut i d.rxCentre || s.bandOut i d.txCentre then 2
  else if !s.rolesOk i then 3
  else if (s.reglCause i).isSome then 4
  else if !s.coverOk i d.txCentre then 5
  else if s.firTooLong i then 6
  else if s.profiles.any (fun p => tapLimit p < 64 * (s.extCfg i).sum) then 7
  else if 256 < s.rateSum (fun j => j / 64 == i / 64) + s.units i then 8
  else if s.profiles.any (fun p => rateCap p < s.rateSum (fun _ => true) + s.units i) then 9
  else if s.caps.any (fun c => c < s.usedNow + s.units i * s.charged i (s.extCfg i)) then 0xA
  else if s.freeCount < poolNeed (s.extCfg i) (s.flag (SLP.CAN_CFG.ALT i)) then 0xB
  else 1

/-- An enable is refused, with the cause and range of a regulatory refusal (R166, R295). -/
def State.refuseEnable (s : State) (m i c : Nat) (regl : Nat × Nat) : State :=
  let t := (s.set (SLP.SLOT_STAT.RESULT i) c).set (SLP.SLOT_CTL.EN i) 0
  (if c = 4 then t.reglRefuse i 0 regl.1 regl.2 else t).fwdNote i FWD.src.ENABLE_REFUSED m

/-! Warm start -/

/-- The keys of a slot's snapshot entry (R214): its descriptor words. (DESIGN CHOICE: log 44) -/
def State.snapKeys (s : State) (i : Nat) : SnapSlot :=
  { slot := i, rx := s.get (SLP.SLOT_CFG.RX i), rate := s.get (SLP.SLOT_CFG.RATE i), rxc := s.get (SLP.RX_CENTRE.FREQ i)
    tx := s.assemble (fieldsAt (slotBase i + 0xC)), reach := s.assemble (fieldsAt (slotBase i + 0x2C))
    cfg := s.assemble (fieldsAt (slotBase i + 0x28)) % 2 ^ 28 + 2 ^ 29 * s.get (SLP.CAN_CFG.ALT i) }

/-- Age of the stored snapshot in tenths of an operating hour, saturating (R214, R216). (DESIGN CHOICE: log 44) -/
def State.snapAge (s : State) : Nat :=
  match s.nvm.snap with
  | none => 0xFFFF
  | some r => min 0xFFFF ((s.opSec - r.opSec) / 360)

/-- The entry of the snapshot from which a slot may start warm (R214). (DESIGN CHOICE: log 44) -/
def State.warmEntry (s : State) (i : Nat) : Option SnapSlot :=
  match s.nvm.snap with
  | none => none
  | some r =>
    if s.flag (SLP.CAN_CFG.WARM i) && s.get CAN.SITE_ID.ID != 0 && s.get CAN.SITE_ID.ID == r.site && s.snapAge < 240 then
      r.slots.find? fun e => { e with shift := [], altActive := false, coeff := [] } == s.snapKeys i
    else none

/-- The load at the head of the queue is in progress (R214). -/
def State.warmHead (s : State) : State :=
  match s.can.warmQ with
  | [] => s
  | i :: _ => s.set (CAN.SLOT_INFO.WARM_PEND i) 1

/-- A slot's warm load is abandoned (R214). -/
def State.dropWarm (s : State) (i : Nat) : State :=
  ({ s.set (CAN.SLOT_INFO.WARM_PEND i) 0 with can := { s.can with warmQ := s.can.warmQ.filter (· != i) } }).warmHead

/-! Enable -/

/-- HOLD.SYNC applies: the slot needs donor sync and its pattern is not in TRACK (R158, R271). -/
def State.unsynced (s : State) (i : Nat) : Bool := s.needsSync i && s.get (TDD.SYNC_STAT.STATE (s.tdd i)) != 2

/-- The condition of a HOLD reason holds for a slot (R158). COVER holds as set (R152). -/
def State.holdCond (s : State) (b i : Nat) : Bool :=
  if b = hGate then s.gateShut
  else if b = hPower then s.get PWR.PWR_CMD.STATE != pRun || (s.tr.map fun t => t.origin == pRun && t.target != pRun) == some true
  else if b = hChannel then (s.chiplets i).any s.chipBusy
  else if b = hSync then s.unsynced i
  else if b = hProtect then s.muted i
  else if b = hCover then tbit (s.get (SLP.SLOT_STAT.HOLD i)) hCover && !s.coverOk i (s.liveOf i).txCentre
  else false

/-- The converter channels of a slot that are powered down come up (R19). -/
def State.raiseChannels (s : State) (i : Nat) : State :=
  let down := s.chanDown.filter fun k => s.draws k i
  if down.isEmpty then s
  else { (s.modSlot i fun x => { x with waitsUp := true }) with chanUp := down.foldl NSet.add s.chanUp }

/-- The checks of an enable pass: the descriptor checked is live, the receive chain runs, and the slot starts cold (R156, R165,
R167, R189, R194, R213, R214, R231). -/
def State.acceptEnable (s : State) (i : Nat) : State :=
  let s : State := { s with live := Tab.set {} s.live i (s.shadowOf i) }
  let s := ((s.set (SLP.SLOT_STAT.RESULT i) 1).set (SLP.SLOT_STAT.STATE i) stPrep).put (SLP.SLOT_STAT.DIR i) (s.uplink i)
  let n := s.get (SLP.FIR_CTL.LEN i)
  let s := if s.flag (SLP.FIR_CTL.SRC i) then s.firToLive i else (s.build i n (Config.lowPass n)).modGv i fun g => { g with synthDue := true }
  let s := (s.latStat i).obsReset i
  let s := [SLP.SLOT_CNT.COMMITS i, SLP.SLOT_CNT.INVALID i, SLP.SLOT_STAT.HIST_VALID i, CAN.SLOT_INFO.WARM i, CAN.SLOT_INFO.WARM_PEND i,
    CAN.SLOT_INFO.DIVERGED i, CAN.SLOT_INFO.ALT_ACTIVE i, CAN.SLOT_INFO.DEPTH i].foldl (fun s f => s.set f 0) s
  let s := (List.range 6).foldl (fun s b => s.putBit (SLP.SLOT_STAT.HOLD i) b (s.holdCond b i)) s
  let s := (s.raiseChannels i).coldStart i
  let s := match s.warmEntry i with
    | some e => (({ s with can := { s.can with warmQ := s.can.warmQ ++ [i] } } : State).modCs i fun x => { x with warm := some e }).warmHead
    | none => s
  let s := (s.syncSums.bandCheck i).exportBegin i
  if (List.range 4).any (s.aggIdle i) then s.canNote i CAN.src.REACH_IDLE 7 else s

/-- A write of EN = 1 while the slot is OFF: the checks run, STATE reads CHECK, and what the request asks for is reserved from the
write on (R165, R166, R167). (DESIGN CHOICE: log 39) -/
def State.enableSlot (s : State) (m i : Nat) : State :=
  let c := s.enableResult i
  let need := poolNeed (s.extCfg i) (s.flag (SLP.CAN_CFG.ALT i))
  let slot : Slot := { acceptAt := s.now, checkRes := c, checkBy := m, checkRegl := (s.reglCause i).getD (0, 0), reserve := if c = 1 then 0 else need }
  let s := (s.set (SLP.SLOT_CTL.EN i) 1).set (SLP.SLOT_STAT.STATE i) stCheck
  let s := if c = 1 then s.allocate i else s
  let s := { s with active := NSet.add s.active i, slots := Tab.set {} s.slots i slot }
  s.syncSums

/-! Commit requests -/

/-- CREFUSE of a commit request; 0 where it is accepted (R169). (DESIGN CHOICE: log 40) -/
def State.commitRefusal (s : State) (i : Nat) : Nat :=
  let d := s.shadowOf i
  let l := s.liveOf i
  let txNew := d.txCentre != l.txCentre
  if s.firTooLong i then 1
  else if (txNew || d.rxCentre != l.rxCentre) && (s.reglCause i).isSome then 2
  else if txNew && !s.coverOk i d.txCentre then 3
  else if s.flag (SLP.SLOT_STAT.COMMIT_PEND i) then 4
  else 0

/-- A write of COMMIT = 1 while the slot is not OFF (R169). -/
def State.commitRequest (s : State) (m i : Nat) : State :=
  let c := s.commitRefusal i
  if c = 0 then (s.modSlot i fun x => { x with commitAt := s.now }).set (SLP.SLOT_STAT.COMMIT_PEND i) 1
  else
    let t := s.set (SLP.SLOT_STAT.CREFUSE i) c
    let t := match c, s.reglCause i with
      | 2, some (k, r) => t.reglRefuse i 1 k r
      | _, _ => t
    t.fwdNote i FWD.src.COMMIT_REFUSED m

/-! Disable -/

/-- What waits for a commit point of the slot is abandoned (R174, R175, R198, R206, R214). -/
def State.abandon (s : State) (i : Nat) : State :=
  let s := match (s.slot i).old with
    | some o => if (s.slot i).xcommit then s.putLive i o else s
    | none => s
  let s := s.modSlot i fun x => { x with xfade := false, xcommit := false, result := false, resume := false, old := none }
  let s := (s.set (SLP.SLOT_STAT.COMMIT_PEND i) 0).abandonResize i
  let s := s.modCs i fun x => { x with adaptAt := none, warm := none, warmAt := none, zeroDue := false, swapDue := false }
  s.dropWarm i

/-- One profile latency in ticks, rounded up (R14, R174). -/
def State.drainLat (s : State) : Nat := (latency (s.get IDN.PROFILE.ACTIVE) * 98304 + 99999) / 100000

/-- The weight is zero: the chain runs on for one latency with zero output (R174). -/
def State.drainFrom (s : State) (i : Nat) : State :=
  (((s.cut i).modSlot i fun x => { x with endAt := some (s.now + s.drainLat) }).set (SLP.SLOT_STAT.STATE i) stDrain).silence i

/-- A write of EN = 0; during the checks it waits for their end (R174). -/
def State.disableSlot (s : State) (i : Nat) : State :=
  let st := s.get (SLP.SLOT_STAT.STATE i)
  let s := s.set (SLP.SLOT_CTL.EN i) 0
  if st = stCheck then s.modSlot i fun x => { x with offInCheck := true }
  else if st < stPrep ∨ stHeld < st then s
  else
    let s := (s.abandon i).modSlot i fun x => { x with offAt := s.now, waitsUp := false }
    if s.weightNow i = 0 ∧ st ≠ stRampUp then s.drainFrom i
    else (s.fade i (s.now + us 1)).set (SLP.SLOT_STAT.STATE i) stRampDown

/-- A slot reaches OFF: its rates leave the sums, its extents are zeroed, its governor ends, and channels that no slot uses power down
in Frugal (R19, R165, R174, R196, R249). The other fields of its block stay as they are (R159). -/
def State.slotGone (s : State) (i : Nat) : State :=
  let s := s.abandonResize i
  let x := s.cs i
  let s := ((s.set (SLP.SLOT_STAT.STATE i) stOff).set (SLP.SLOT_STAT.HOLD i) 0).set (SLP.SLOT_STAT.COMMIT_PEND i) 0
  let s := { (s.silence i).dropWarm i with active := NSet.rem s.active i, slots := Tab.set {} s.slots i {} }
  let s := (s.modCs i fun x => { sgen := x.sgen }).returnExts i (x.xts.map (·.ext) ++ x.add.map (·.ext))
  let s := ((s.govOff i).forgetParks i).syncSums.trimChannels
  s.fire (0x40 + i / 8) SLP.src.OFF { slot := some i }

/-- A slot reaches OFF, after the last frame of its export (R178). (DESIGN CHOICE: log 34) -/
def State.slotOff (s : State) (i : Nat) : State := (s.exportEnd i).slotGone i

/-! Writes of SLOT_CTL -/

/-- The checks of an enable end: the slot goes on to PREP, and to DRAIN at once where a disable came meanwhile; or the request is
refused and its reservations are released (R166, R167, R174). (DESIGN CHOICE: log 39) -/
def State.checkEnd (s : State) (i : Nat) : State :=
  if s.get (SLP.SLOT_STAT.STATE i) ≠ stCheck then s
  else
    let x := s.slot i
    let s := s.until (x.acceptAt + us 20)
    if x.checkRes = 1 then
      let s := s.acceptEnable i
      if x.offInCheck then s.disableSlot i else s
    else
      let s := ((s.set (SLP.SLOT_STAT.STATE i) stOff).set (SLP.SLOT_STAT.COMMIT_PEND i) 0)
      let s : State := { s with active := NSet.rem s.active i, slots := Tab.set {} s.slots i {} }
      (s.modCs i fun c => { sgen := c.sgen }).syncSums.refuseEnable x.checkBy i x.checkRes x.checkRegl

/-- The slots whose enable checks are over by now, 20 µs after the write (R166). -/
def State.checksOver (s : State) : List Nat :=
  s.active.filter fun i => s.get (SLP.SLOT_STAT.STATE i) == stCheck && decide ((s.slot i).acceptAt + us 20 ≤ s.now)

/-- Enable checks that are over by now end, in the order of slot numbers (R166). -/
def State.checksDue (s : State) : State := s.checksOver.foldl (fun s i => s.checkEnd i) s

/-- The effect of a write of SLOT_CTL; of a commit and a disable in one write the commit is taken first (R166, R169, R174, R175).
(DESIGN CHOICE: log 39) -/
def State.slotCtl (s : State) (m i : Nat) (v : Word) : State :=
  let s := s.checksDue
  let st := s.get (SLP.SLOT_STAT.STATE i)
  if v.getLsbD 0 ∧ st = stOff then s.enableSlot m i
  else
    let s := if v.getLsbD 0 ∧ stRampDown ≤ st then s.refuseEnable m i 0xC (0, 0) else s
    let s := if v.getLsbD 8 ∧ st ≠ stOff then s.commitRequest m i else s
    if v.getLsbD 0 then s else s.disableSlot i

/-- A write of SLOT_CTL by a master. -/
def State.slotCtlWrite (s : State) (m : Master) (i : Nat) (v : Word) : State := s.guarded m (slotBase i) v fun t => t.slotCtl m.num i v

def execSlotEnable (m : Master) (i : Fin 512) (v : Word) (s : State) : Host.Outcome State Fault Refusal := ok (s.slotCtlWrite m i v)

def execSlotDisable (m : Master) (i : Fin 512) (v : Word) (s : State) : Host.Outcome State Fault Refusal := ok (s.slotCtlWrite m i v)

def execSlotCommitRequest (m : Master) (i : Fin 512) (v : Word) (s : State) : Host.Outcome State Fault Refusal := ok (s.slotCtlWrite m i v)

/-! Start -/

/-- A slot is enabled and no block reset covers it. -/
def State.running (s : State) (i : Nat) : Bool := s.enabled.contains i && !(s.slot i).inReset

/-- The receive chain's history has filled; while the datapath's clocks are gated in STANDBY the chain does not run. Export frames show the
samples before it as invalid (R80, R167, R179). -/
def State.historyFilled (s : State) (i : Nat) : State :=
  if s.running i ∧ !s.clocksGated then
    (s.modExp i fun x => { x with bad := !s.flag (SLP.SLOT_STAT.HIST_VALID i) || x.bad }).set (SLP.SLOT_STAT.HIST_VALID i) 1
  else s

/-- The receive chain's history has filled, once the enable checks are over (R167). -/
def execSlotHistoryFilled (i : Fin 512) (s : State) : Host.Outcome State Fault Refusal := ok ((s.checkEnd i).historyFilled i)

/-- The first qualifying boundary, after the enable checks: ramp-up, or HELD (R167). -/
def State.startSlot (s : State) (i : Nat) : State :=
  let s := s.checkEnd i
  if s.running i ∧ s.get (SLP.SLOT_STAT.STATE i) = stPrep ∧ !(s.slot i).waitsUp then
    match s.rampAt i (max s.now ((s.slot i).acceptAt + us 200)) with
    | none => s
    | some t =>
      let s := s.until t
      if s.get (SLP.SLOT_STAT.HOLD i) = 0 then s.rampUp i else (s.set (SLP.SLOT_STAT.STATE i) stHeld).silence i
  else s

def execSlotStart (i : Fin 512) (s : State) : Host.Outcome State Fault Refusal := ok (s.startSlot i)

/-- 64 working-rate samples of ramp-up have passed (R167). -/
def State.rampDone (s : State) (i : Nat) : State :=
  if s.running i ∧ s.get (SLP.SLOT_STAT.STATE i) = stRampUp then
    let s := s.until (((s.slot i).upAt.getD s.now) + 64 * s.sampleT i)
    ((s.weigh i 64).set (SLP.SLOT_STAT.STATE i) stOn).fire (0x40 + i / 8) SLP.src.ENABLED { slot := some i }
  else s

def execSlotRampComplete (i : Fin 512) (s : State) : Host.Outcome State Fault Refusal := ok (s.rampDone i)

/-! Drain -/

/-- The first working-rate sample after 1 µs: the output begins its ramp to zero (R174). -/
def State.rampDownBegin (s : State) (i : Nat) : State :=
  if s.get (SLP.SLOT_STAT.STATE i) = stRampDown then
    s.until ((s.slot i).downAt.getD s.now)
  else s

def execSlotRampDownBegin (i : Fin 512) (s : State) : Host.Outcome State Fault Refusal := .next (s.rampDownBegin i)

/-- The end of the ramp (R174). -/
def State.drainStart (s : State) (i : Nat) : State :=
  if s.get (SLP.SLOT_STAT.STATE i) = stRampDown then
    (s.until (s.silentAt i)).drainFrom i
  else s

def execSlotDrainStart (i : Fin 512) (s : State) : Host.Outcome State Fault Refusal := .next (s.drainStart i)

/-- t_DRAIN = 1 µs + 64 T + L in ticks, rounded up (R174). -/
def State.drainTicks (s : State) (i : Nat) : Nat := us 1 + 64 * s.sampleT i + s.drainLat

/-- The last sample has left every DAC, one latency after the ramp and within t_DRAIN of the write (R174). -/
def State.drainEnd (s : State) (i : Nat) : State :=
  if s.get (SLP.SLOT_STAT.STATE i) = stDrain ∧ !(s.slot i).inReset then
    (s.until (min ((s.slot i).endAt.getD s.now) ((s.slot i).offAt + s.drainTicks i))).slotOff i
  else s

def execSlotDrainEnd (i : Fin 512) (s : State) : Host.Outcome State Fault Refusal := ok (s.drainEnd i)

/-- The drain has not ended within t_DRAIN (R174). -/
def State.drainLate (s : State) (i : Nat) : State :=
  let st := s.get (SLP.SLOT_STAT.STATE i)
  if st = stRampDown ∨ st = stDrain then
    let s := s.until ((s.slot i).offAt + s.drainTicks i)
    let s := (s.fwdNote i FWD.src.DRAIN_LATE 7).slotOff i
    if (s.tr.map fun t => decide (t.origin < t.target)) = some true ∧ !s.latchedEntry then s.pwrAbort 8 else s
  else s

def execSlotDrainLate (i : Fin 512) (s : State) : Host.Outcome State Fault Refusal := ok (s.drainLate i)

/-! Commit points -/

/-- The slot commit that is due takes effect: the live copy takes the shadow (R156, R169, R195). -/
def State.commitShadow (s : State) (i : Nat) : State :=
  let l := s.liveOf i
  let d := s.shadowOf i
  let t : State := { s with live := Tab.set {} s.live i d }
  (t.firToLive i).modGv i fun g =>
    if d.firSrc = 1 then { g with cutLive := [] } else { g with synthDue := g.synthDue || l != d }

/-- The solver's result becomes live with the cuts that it carries (R170, R224). -/
def State.commitResult (s : State) (i : Nat) : State :=
  ((s.solve i (s.liveOf i).firLen (s.gv i).targetRes).modSlot i fun x => { x with result := false }).modGv i fun g => { g with cutLive := g.cutRes }

/-- A warm set has committed, with the group that was active in it: the warm-start rules hold from here (R192, R214, R233). -/
def State.commitWarm (s : State) (i : Nat) : State :=
  let alt := ((s.cs i).warm.map (·.altActive)) == some true
  let s := s.put (CAN.SLOT_INFO.ALT_ACTIVE i) alt
  ((s.modCs i fun x => { x with warm := none, warmAt := none, altSeen := x.altSeen || alt }).modGv i fun g => { g with capN := 0, capOk := true }).set (CAN.SLOT_INFO.WARM i) 1
    |>.put (GOV.SLOT_GOV.WARMR i) (s.flag (GOV.SLOT_GOV.COLD i))

/-- HOLD.SYNC of a slot follows its need for donor sync (R271). -/
def State.syncHold (s : State) (i : Nat) : State :=
  if s.unsynced i = tbit (s.get (SLP.SLOT_STAT.HOLD i)) hSync then s
  else if s.unsynced i then s.hold hSync i else s.unhold hSync i

/-- The crossfade of a commit ends: COMMITS, COMMIT_PEND, LAT_STAT, and the end of a resize (R171, R198). (DESIGN CHOICE: log 40) -/
def State.xfadeEnd (s : State) (i : Nat) : State :=
  if !(s.slot i).xfade then s
  else
    let c := (s.slot i).xcommit
    let s := (s.modSlot i fun x => { x with xfade := false, xcommit := false, xfadeProf := false, old := none }).wrap (SLP.SLOT_CNT.COMMITS i)
    let s := (if c then s.set (SLP.SLOT_STAT.COMMIT_PEND i) 0 else s).latStat i
    let s := if (s.cs i).resized then s.endResize i else s
    if c then s.fire (0x40 + i / 8) SLP.src.COMMIT_DONE { slot := some i } else s

/-- An instant lies at least 10 µs back. -/
def State.aged (s : State) (t : Option Nat) : Bool := match t with | some t => t + us 10 ≤ s.now | none => false

/-- What is due at a commit point takes effect together, in one crossfade; an ADAPT result that still waits when another mode takes effect
is dropped (R168 to R171, R190, R192, R198, R199, R206, R211, R214). (DESIGN CHOICE: log 42) -/
def State.commitAll (s : State) (i : Nat) : State :=
  let x := s.cs i
  let old := s.liveSet i
  let pend := s.flag (SLP.SLOT_STAT.COMMIT_PEND i)
  let c := pend && s.aged (some (s.slot i).commitAt)
  let r := (s.slot i).result && !pend
  let a := s.aged x.adaptAt && s.get (SLP.CAN_CFG.MODE i) == 1
  let w := s.aged x.warmAt
  let mode := s.get (SLP.CAN_CFG.MODE i)
  let rs := s.aged x.resizeAt
  let park := !x.parkDue.isEmpty || !x.unparkDue.isEmpty
  let flip := a || w || x.zeroDue || (c && x.mode == 3)
  let s := if flip then (s.flipBank i).modCs i fun x => { x with adaptAt := if a then none else x.adaptAt, zeroDue := false } else s
  let s := if w then s.commitWarm i else s
  let s := if c then s.commitShadow i else s
  let s := if r then s.commitResult i else s
  let s := if rs then s.applyResize i else s
  let s := if x.swapDue then s.swapGroups i else s
  let s := if park then s.applyParking i else s
  let s := if mode ≠ 1 ∧ (s.cs i).adaptAt.isSome then (s.modCs i fun x => { x with adaptAt := none }).liveToShadow i else s
  let s := s.modCs i fun x => { x with mode := mode }
  if c || r || flip || rs || x.swapDue || park || x.mode != mode then
    (s.modSlot i fun x => { x with xfade := true, xcommit := c, xEnd := s.sampleAt i s.now + 32 * s.sampleT i, old := some old }).iqOn 5 i
  else s

/-- A slot commits: from PREP to the end of its drain, with no block reset over it (R168, R169). -/
def State.commits (s : State) (i : Nat) : Bool :=
  s.active.contains i && s.get (SLP.SLOT_STAT.STATE i) != stCheck && !(s.slot i).inReset

/-- A commit point of a slot (R168). The band comparator checks it, and clamps that may end do (R230, R298). -/
def State.commitPoint (s : State) (i : Nat) : State :=
  if !s.commits i || s.clocksGated then s
  else
    let s := (s.until (s.commitPointAt i s.now)).xfadeEnd i
    let t := s.commitAll i
    if s.running i then ((t.releaseClamps i).bandCheck i).syncHold i else t

def execCommitPoint (i : Fin 512) (s : State) : Host.Outcome State Fault Refusal := ok (s.commitPoint i)

/-- 32 working-rate samples of crossfade have passed (R171). -/
def State.xfadeDone (s : State) (i : Nat) : State := if (s.slot i).xfade then (s.until (s.slot i).xEnd).xfadeEnd i else s

def execCrossfadeEnd (i : Fin 512) (s : State) : Host.Outcome State Fault Refusal := ok (s.xfadeDone i)

/-! Holds -/

/-- The reason of a HOLD bit holds of a slot (R152, R158). Bits 6 and 7 are reserved. -/
def State.holdArises (s : State) (b i : Nat) : Bool := if b = hCover then !s.coverOk i (s.liveOf i).txCentre else s.holdCond b i

/-- A HOLD reason other than GATE arises (R173). -/
def execHoldReasonArises (i : Fin 512) (bit : Fin 8) (s : State) : Host.Outcome State Fault Refusal :=
  ok (if s.enabled.contains i ∧ bit.val ≠ hGate ∧ s.holdArises bit i then s.hold bit i else s)

/-- A HOLD reason whose condition no longer holds ends (R152, R158, R173). -/
def execHoldCleared (i : Fin 512) (bit : Fin 8) (s : State) : Host.Outcome State Fault Refusal :=
  ok (if s.enabled.contains i ∧ tbit (s.get (SLP.SLOT_STAT.HOLD i)) bit ∧ !s.holdCond bit i then s.unhold bit i else s)

def execSlotResume (i : Fin 512) (s : State) : Host.Outcome State Fault Refusal := ok (s.resume i)

/-! Channel FIR -/

/-- The slot that FWD.FIR_SEL of group `n` names. -/
def State.firSlot (s : State) (n : Nat) : Nat := 64 * n + s.get (FWD.FIR_SEL.SLOT n)

/-- The tap index steps on after an access (R176). -/
def State.firNext (s : State) (n : Nat) : State := s.set (FWD.FIR_SEL.TAP n) (s.get (FWD.FIR_SEL.TAP n) + 1)

/-- A slot's shadow is locked: from a commit's acceptance until its last crossfade sample (R170). -/
def State.shadowLocked (s : State) (i : Nat) : Bool := s.flag (SLP.SLOT_STAT.COMMIT_PEND i)

/-- A write of FIR_DATA (R170, R175, R176). -/
def State.firWrite (s : State) (n m : Nat) (v : Word) : State :=
  let i := s.firSlot n
  let s' := s.firNext n
  if !s.flag (SLP.FIR_CTL.SRC i) then s'.fwdNote i FWD.src.FIR_SRC m
  else if s.shadowLocked i then s'.fwdNote i FWD.src.SHADOW_LOCKED m
  else { s' with fir := Tab.set 0 s.fir (256 * i + s.get (FWD.FIR_SEL.TAP n)) v.toNat }

/-- What a read of FIR_DATA returns. -/
def State.firRead (s : State) (n : Nat) : Nat := Tab.get 0 s.fir (256 * s.firSlot n + s.get (FWD.FIR_SEL.TAP n))

/-- A write of FIR_DATA by a master. -/
def State.firDataWrite (s : State) (m : Master) (n : Nat) (v : Word) : State :=
  s.guarded m (0x18048 + 0x1000 * n) v fun t => t.firWrite n m.num v

def execFirDataAccess (m : Master) (n : Fin 8) (write : Bool) (v : Word) (s : State) : Host.Outcome State Fault Refusal :=
  Machine.ok (if write then s.firDataWrite m n v
    else s.ask.readBy m (0x18048 + 0x1000 * n.val) (fun t => t.firRead n) fun t => t.firNext n)

/-! Other registers of a slot block -/

/-- A write of a locked register (R156). -/
def State.lockedWrite (s : State) (m i a : Nat) (v : Word) : State :=
  if s.get (SLP.SLOT_STAT.STATE i) = stOff then s.writeReg a v else s.fwdNote i FWD.src.CFG_LOCKED m

/-- A write of a shadow register (R156, R170). -/
def State.shadowWrite (s : State) (m i a : Nat) (v : Word) : State :=
  if s.shadowLocked i then s.fwdNote i FWD.src.SHADOW_LOCKED m else s.writeReg a v

end Sys2Proof.Machine
end

