-- ==== Sys2Proof/Machine/Canceller.lean ====
section
/-! DEFINITION. Resizes and modes of a slot's canceller, the coefficient pool and the indirect views of it (R190, R193 to R198, R201,
R216). -/
namespace Sys2Proof.Machine
open Sys2Proof

/-! CAN_CFG -/

/-- The extent counts and ALT of a written CAN_CFG (R190). -/
def canLay (i : Nat) (v : Word) : List Nat :=
  [(SLP.CAN_CFG.EXT0 i).of v, (SLP.CAN_CFG.EXT1 i).of v, (SLP.CAN_CFG.EXT2 i).of v, (SLP.CAN_CFG.EXT3 i).of v]

/-- The extents that a layout takes from the pool beyond those that a slot holds. -/
def State.growth (s : State) (i : Nat) (lay : List Nat) (alt : Bool) : Nat := (openPlaces (places lay alt) (s.cs i).xts).length

/-- RESULT of a resize request (R197, R198). -/
def State.resizeResult (s : State) (i : Nat) (lay : List Nat) (alt : Bool) : Nat :=
  let old := s.charged i (s.cs i).lay
  let new := s.charged i lay
  if s.flag CAN.RESIZE.PENDING then 5
  else if (s.cs i).lay.sum < lay.sum ∧ s.profiles.any (fun p => tapLimit p < 64 * lay.sum) then 2
  else if old < new ∧ s.caps.any (fun c => c < s.usedNow + s.units i * (new - old)) then 3
  else if s.freeCount < s.growth i lay alt then 4
  else 1

/-- A resize request (R190, R198). -/
def State.resizeReq (s : State) (m i : Nat) (v : Word) : State :=
  let lay := canLay i v
  let alt := v.getLsbD 29
  let c := s.resizeResult i lay alt
  let s := (s.set CAN.RESIZE.RESULT c).set CAN.RESIZE.SLOT i
  if c ≠ 1 then s.canNote i CAN.src.RESIZE_REFUSED m
  else
    let add := mkXts (openPlaces (places lay alt) (s.cs i).xts) (s.takeFree (s.growth i lay alt))
    let s := (s.writeReg (slotBase i + 0x28) v).set CAN.RESIZE.PENDING 1
    let s := s.modCs i fun x => { x with add := add, resizeAt := some s.now }
    (s.dropWarm i).syncSums

/-- A write of CAN_CFG (R190): replaced while OFF, dropped in CHECK; otherwise a resize request where the layout changes, and accepted
at once where it does not. -/
def State.canCfg (s : State) (m i : Nat) (v : Word) : State :=
  let st := s.get (SLP.SLOT_STAT.STATE i)
  if st = stOff then s.writeReg (slotBase i + 0x28) v
  else if st = stCheck then s.fwdNote i FWD.src.CFG_LOCKED m
  else if canLay i v ≠ s.extCfg i ∨ v.getLsbD 29 ≠ s.flag (SLP.CAN_CFG.ALT i) then s.resizeReq m i v
  else s.writeReg (slotBase i + 0x28) v

/-- A write of CAN_CFG by a master. -/
def State.canCfgWrite (s : State) (m : Master) (i : Nat) (v : Word) : State := s.guarded m (slotBase i + 0x28) v fun t => t.canCfg m.num i v

def execCanResizeRequest (m : Master) (i : Fin 512) (v : Word) (s : State) : Host.Outcome State Fault Refusal := ok (s.canCfgWrite m i v)

def execCanModeWrite (m : Master) (i : Fin 512) (v : Word) (s : State) : Host.Outcome State Fault Refusal := ok (s.canCfgWrite m i v)

/-! Returned extents -/

/-- The zeroing of the extents that a slot returned ends: they are free, but those with a double-bit error are retired (R196). -/
def State.returned (s : State) (i : Nat) : State :=
  let es := Tab.get [] s.can.zeroing i
  let dead := es.filter s.can.bad.contains
  let s := { s with can := { s.can with zeroing := Tab.set [] s.can.zeroing i [], retired := dead.foldl NSet.add s.can.retired } }
  (s.set CAN.POOL_ERR.RETIRED (min 255 s.can.retired.length)).syncSums

def execExtentReturnDone (i : Fin 512) (s : State) : Host.Outcome State Fault Refusal := .next (s.returned i)

/-! The pool's indirect view -/

/-- The slot that holds an extent. -/
def State.extOwner (s : State) (e : Nat) : Option Nat := s.active.find? fun i => (s.cs i).xts.any (·.ext == e) || (s.cs i).add.any (·.ext == e)

/-- Where an entry of a bank lies in the pool: the owner's bank bit resolves live and shadow (R195). -/
def State.poolKey (s : State) (live : Bool) (entry : Nat) : Nat :=
  match s.extOwner (entry / 64) with
  | some i => s.bankAt i (entry / 64) live + entry % 64
  | none => (if live then 0 else 2097152) + entry

/-- What an entry reads as. -/
def State.poolRead (s : State) (live : Bool) (entry : Nat) : Nat := Tab.get 0 s.can.pool (s.poolKey live entry)

/-- A source of page CAN that an entry raises, with the slot in NOTE_SLOT where one holds the entry's extent (R216). -/
def State.poolNote (s : State) (entry b m : Nat) : State :=
  match s.extOwner (entry / 64) with
  | some i => s.canNote i b m
  | none => s.fire 0x20 b { master := m }

/-- A write of an entry: taken for the shadow of a slot in OWNER mode; dropped otherwise, with the notice that R195 names. -/
def State.poolWrite (s : State) (m : Nat) (live : Bool) (entry v : Nat) : State :=
  let drop := s.poolNote entry CAN.src.POOL_WR m
  match live, s.extOwner (entry / 64) with
  | false, some i =>
    if (s.cs i).mode ≠ 3 then drop
    else if s.shadowLocked i then s.fwdNote i FWD.src.SHADOW_LOCKED m
    else s.modPool fun t => Tab.set 0 t (s.poolKey false entry) v
  | _, _ => drop

/-- POOL_ADDR.ENTRY steps on after an access (R216). -/
def State.poolNext (s : State) : State := s.set CAN.POOL_ADDR.ENTRY (s.get CAN.POOL_ADDR.ENTRY + 1)

/-- The bank and entry that POOL_ADDR names; BANK = 1 is the shadow (R216). -/
def State.poolData (s : State) : Nat := s.poolRead (!s.flag CAN.POOL_ADDR.BANK) (s.get CAN.POOL_ADDR.ENTRY)

/-- A write of POOL_DATA. -/
def State.poolDataWrite (s : State) (m : Nat) (v : Word) : State :=
  s.poolNext.poolWrite m (!s.flag CAN.POOL_ADDR.BANK) (s.get CAN.POOL_ADDR.ENTRY) v.toNat

/-- A write of POOL_DATA by a master. -/
def State.poolWordWrite (s : State) (m : Master) (v : Word) : State :=
  s.guarded m 0x20074 v fun t => t.poolDataWrite m.num v

def execPoolDataAccess (m : Master) (write : Bool) (v : Word) (s : State) : Host.Outcome State Fault Refusal :=
  ok (if write then s.poolWordWrite m v else s.ask.readBy m 0x20074 State.poolData State.poolNext)

/-- An entry shows an error: a single bit is corrected and counted; with a double bit the entry is used as zero, and its extent is
retired when its slot returns it (R196). (DESIGN CHOICE: log 42) -/
def State.poolEcc (s : State) (e : Nat) (double : Bool) : State :=
  if !double then (s.count CAN.POOL_ERR.CE_CNT 1).poolNote e CAN.src.POOL_CE 7
  else
    let s := s.modPool fun t => Tab.set 0 t (s.poolKey true e) 0
    let s : State := { s with can := { s.can with bad := NSet.add s.can.bad (e / 64) } }
    s.poolNote e CAN.src.POOL_UE 7

def execPoolEccError (e : BitVec 21) (double : Bool) (s : State) : Host.Outcome State Fault Refusal := ok (s.poolEcc e.toNat double)

/-! Extent lists -/

/-- The entry of the extent list that XT_SEL names. -/
def State.xtNow (s : State) : Option Xt := (s.cs (s.get CAN.XT_SEL.SLOT)).xts[s.get CAN.XT_SEL.INDEX]?

/-- The word of XT_DATA (R216). -/
def State.xtData (s : State) : Nat :=
  match s.xtNow with
  | none => 0
  | some x => 2 ^ 31 + x.alt.toNat * 2 ^ 30 + x.agg * 2 ^ 28 + x.part * 2 ^ 22 + (s.cs (s.get CAN.XT_SEL.SLOT)).shift.getD x.agg 0 * 2 ^ 18
      + x.park.toNat * 2 ^ 15 + x.ext

/-- XT_SEL.INDEX steps on after a read. -/
def State.xtNext (s : State) : State := s.set CAN.XT_SEL.INDEX (s.get CAN.XT_SEL.INDEX + 1)

/-- A write of XT_DATA sets the aggressor's SHIFT through its first extent in OWNER mode, and is dropped otherwise (R193). -/
def State.xtWrite (s : State) (m : Nat) (v : Word) : State :=
  let i := s.get CAN.XT_SEL.SLOT
  match s.xtNow with
  | some x =>
    if (s.cs i).mode = 3 ∧ ((s.cs i).xts.findIdx? fun y => y.agg == x.agg) = some (s.get CAN.XT_SEL.INDEX) then
      s.modCs i fun y => { y with shift := y.shift.set x.agg (CAN.XT_DATA.SHIFT.of v) }
    else s.canNote i CAN.src.POOL_WR m
  | none => s.canNote i CAN.src.POOL_WR m

/-- A write of XT_DATA by a master. (DESIGN CHOICE: log 42) -/
def State.xtDataWrite (s : State) (m : Master) (v : Word) : State :=
  s.guarded m 0x20064 v fun t => t.xtWrite m.num v

def execXtDataAccess (m : Master) (write : Bool) (v : Word) (s : State) : Host.Outcome State Fault Refusal :=
  ok (if write then s.xtDataWrite m v else s.ask.readBy m 0x20064 State.xtData State.xtNext)

/-! Descriptors -/

/-- One bit of the CRC-16 of R201. -/
def crc16Bit (c : Nat) : Nat := if tbit c 15 then (2 * c % 65536) ^^^ 0x1021 else 2 * c % 65536

/-- One byte of the CRC-16 of R201, the most significant bit first. -/
def crc16Byte (c b : Nat) : Nat :=
  (crc16Bit ∘ crc16Bit ∘ crc16Bit ∘ crc16Bit ∘ crc16Bit ∘ crc16Bit ∘ crc16Bit ∘ crc16Bit) (c ^^^ (b % 256 * 256))

/-- Words 0 to 13 of a job's descriptor (R201). -/
def Job.head (j : Job) : List Nat :=
  [j.typ * 2 ^ 28 + j.cls * 2 ^ 26 + j.prof * 2 ^ 24 + j.cov.toNat * 2 ^ 23 + j.cold.toNat * 2 ^ 22 + j.alt.toNat * 2 ^ 21 + j.slot,
    j.sgen * 65536 + j.pgen, j.seq, j.issue, j.block, j.nblk * 65536, j.exts * 65536 + j.first, j.stateAt, j.resultAt, j.p0, j.p1, j.p2, j.p3, 0]

/-- A job's descriptor (R201); `holder` is the engine that holds it. -/
def Job.words (j : Job) (holder : Option Nat) : List Nat :=
  let h := j.head
  h ++ [j.steals * 2 ^ 24 + (match holder with | some e => 2 ^ 15 + e | none => 0), ((h.map (leBytes 4)).flatten).foldl crc16Byte 0xFFFF]

/-- The word of DESC_DATA: of the queued descriptor that DESC_SEL names, or 0 where there is none (R201, R217). (DESIGN CHOICE: log 42) -/
def State.descData (s : State) (k : Nat) : Nat :=
  match (s.deque (16 * k + s.get (YCL.DESC_SEL.ENG k)))[s.get (YCL.DESC_SEL.ENTRY k)]? with
  | none => 0
  | some j => (j.words none).getD (s.get (YCL.DESC_SEL.WORD k)) 0

/-- DESC_SEL.WORD steps on after a read (R217). -/
def State.descNext (s : State) (k : Nat) : State := s.set (YCL.DESC_SEL.WORD k) (s.get (YCL.DESC_SEL.WORD k) + 1)

def execDescDataRead (m : Master) (k : Fin 16) (s : State) : Host.Outcome State Fault Refusal :=
  .next (s.ask.readBy m (0x30050 + 0x1000 * k.val) (fun t => t.descData k) fun t => t.descNext k)

end Sys2Proof.Machine
end

