-- ==== Sys2Proof/Machine/Converters.lean ====
section
/-! DEFINITION. Converter chiplets: attenuators, channel changes, calibration and observation plans (R133, R134, R139 to R154). -/
namespace Sys2Proof.Machine
open Sys2Proof

/-- The next ALIGN pulse, every 1,024 REFCLK periods (R136). -/
def State.toAlign (s : State) : State := s.until (ceilTo 4096 s.now)

/-! Attenuators and roles -/

/-- The slots that take their input from receive channel `c`. -/
def State.fedBy (s : State) (c : Nat) : List Nat := s.active.filter fun i => s.rxIn i == c

/-- A channel's attenuator takes the register's value, and the digital gain of its slots changes by the opposite amount (R133).
Where the lower regulatory maximum applies, the change ramps (R285). (DESIGN CHOICE: log 37) -/
def State.dsaApply (s : State) (n c : Nat) : State :=
  let d := s.get (CNV.RX_CFG.DSA n c)
  let old := s.dsaOf (4 * n + c)
  if d = old then s
  else
    let s := s.modChip n fun x => { x with dsa := Tab.set 0 x.dsa c d }
    (s.fedBy (4 * n + c)).foldl (fun s i =>
      let up := 20 * ((d : Int) - old)
      let old := sext 12 (s.get (SLP.GAIN_STAT.APPLIED i))
      let new := clampInt (-2047) 2047 (old + up)
      let s := s.modSlot i fun x => { x with dsaGain := x.dsaGain + up }
      if old = -2048 then s
      else if (s.regMax i).any fun m => decide (m < 5 * old) then s.takeGain i (s.get (SLP.GAIN_STAT.LIMIT i), new)
      else (s.modSlot i fun x => { x with gainFrom := x.gainFrom * gainAmp up / gainAmp 0 }).set (SLP.GAIN_STAT.APPLIED i) (toField 12 new)) s

def execDsaChangeApply (n : Fin 8) (s : State) : Host.Outcome State Fault Refusal :=
  .next (if s.clkOn (35 + n) then (List.range 4).foldl (fun s c => s.dsaApply n c) s.toAlign else s)

/-- A write of RX_CFG or TX_CFG; a new role or full scale of a channel that an enabled slot names is dropped with CH_BUSY (R134).
(DESIGN CHOICE: log 37) -/
def State.chanWrite (s : State) (m n a : Nat) (v : Word) : State :=
  let c := a % 16 / 4
  let tx := a % 0x1000 / 16 == 5
  let k := if tx then 32 + 4 * n + c else 4 * n + c
  let new := if tx then (CNV.TX_CFG.ROLE n c).of v != s.get (CNV.TX_CFG.ROLE n c) || (CNV.TX_CFG.FS n c).of v != s.get (CNV.TX_CFG.FS n c)
    else (CNV.RX_CFG.ROLE n c).of v != s.get (CNV.RX_CFG.ROLE n c)
  if new && s.enabled.any (s.names k) then s.fire (0x10 + n) CNV.src.CH_BUSY { master := m } else s.writeReg a v

/-! Channel changes -/

/-- Why a write that starts a channel change is refused; 0 where it is not (R142). -/
def State.changeCause (s : State) (n : Nat) : Nat :=
  if s.flag (SYN.SYN_STAT.BUSY n) then 1
  else if s.flag IDN.PROFILE.PENDING then 2
  else if s.flag PWR.PWR_CMD.BUSY then 3
  else if s.pfRuns then 4
  else if !s.flag CLK.OSC_STAT.REF_OK then 5
  else 0

/-- Why a write of EN = 0 is refused; 0 where it is not (R142). (DESIGN CHOICE: log 37) -/
def State.stopCause (s : State) (n : Nat) : Nat :=
  if s.flag (SYN.SYN_STAT.BUSY n) then 1
  else if s.flag PWR.PWR_CMD.BUSY then 3
  else if s.enabled.any (s.onChiplet n) then 6
  else if s.get (CLK.ISL_CLK.SRC (35 + n)) = 2 then 7
  else 0

/-- A write of SYN_CTL is refused (R142). -/
def State.changeRefuse (s : State) (m n c : Nat) : State := (s.set (SYN.SYN_CTL.REFUSE n) c).fire 0x0D SYN.src.CHG_REFUSED { master := m }

/-- An accepted change begins with DRAIN: its slots are held at the accepted write, and ramp down from 20 µs after it, as R141 has it; in
STANDBY it is recorded alone (R141, R142). (DESIGN CHOICE: log 37) -/
def State.changeStart (s : State) (n plan : Nat) : State :=
  let s := ((s.set (SYN.SYN_CTL.EN n) 1).set (SYN.SYN_CTL.PLAN n) plan).set (SYN.SYN_CTL.REFUSE n) 0
  if s.get PWR.PWR_CMD.STATE = pStandby then s.set (SYN.SYN_STAT.PEND n) 1
  else
    let s := ((s.set (SYN.SYN_STAT.BUSY n) 1).set (SYN.SYN_STAT.STEP n) yDrain).set (CNV.CAL_STAT.FG_DONE n) 0
    (s.modChip n fun x => { x with at_ := s.now, retry := false, resume := false }).holdChipAt n (s.now + us 20) |>.divCancel (s.divChip n)

/-- An accepted EN = 0: synthesiser and chiplet cores down (R142). -/
def State.changeStop (s : State) (n plan : Nat) : State :=
  let s := (((s.set (SYN.SYN_CTL.EN n) 0).set (SYN.SYN_CTL.PLAN n) plan).set (SYN.SYN_CTL.REFUSE n) 0).set (SYN.SYN_STAT.PEND n) 0
  ((s.set (SYN.SYN_STAT.STEP n) yOff).set (CNV.CAL_STAT.FG_DONE n) 0).chipDown n

/-- The effect of a write of SYN_CTL_n. One that starts no change and changes nothing is accepted, but for one during a change (R141, R142,
R145). (DESIGN CHOICE: log 37) -/
def State.synCtl (s : State) (m n : Nat) (v : Word) : State :=
  let en := (SYN.SYN_CTL.EN n).of v
  let plan := (SYN.SYN_CTL.PLAN n).of v
  let was := s.flag (SYN.SYN_CTL.EN n)
  if en = 0 then
    if !was then (s.set (SYN.SYN_CTL.PLAN n) plan).set (SYN.SYN_CTL.REFUSE n) 0
    else if s.stopCause n = 0 then s.changeStop n plan
    else s.changeRefuse m n (s.stopCause n)
  else if was && plan == s.get (SYN.SYN_CTL.PLAN n) && !v.getLsbD 8 then
    if s.flag (SYN.SYN_STAT.BUSY n) then s.changeRefuse m n 1 else s.set (SYN.SYN_CTL.REFUSE n) 0
  else if s.changeCause n = 0 then s.changeStart n plan
  else s.changeRefuse m n (s.changeCause n)

/-- A write of SYN_CTL_n by a master. -/
def State.synCtlWrite (s : State) (m : Master) (n : Nat) (v : Word) : State := s.guarded m (0xD040 + 4 * n) v fun t => t.synCtl m.num n v

def execSynthEnable (m : Master) (n : Fin 8) (v : Word) (s : State) : Host.Outcome State Fault Refusal := ok (s.synCtlWrite m n v)

def execSynthPlanChange (m : Master) (n : Fin 8) (v : Word) (s : State) : Host.Outcome State Fault Refusal := ok (s.synCtlWrite m n v)

def execSynthRecal (m : Master) (n : Fin 8) (v : Word) (s : State) : Host.Outcome State Fault Refusal := ok (s.synCtlWrite m n v)

def execSynthDisable (m : Master) (n : Fin 8) (v : Word) (s : State) : Host.Outcome State Fault Refusal := ok (s.synCtlWrite m n v)

/-! Steps -/

/-- A chiplet is at a step, and neither the power-fail sequence nor a block reset halts it (R145, R447). -/
def State.atStep (s : State) (n y : Nat) : Bool := s.synStep n == y && !s.pfRuns && !s.resetting 0x0D

/-- A step begins. (DESIGN CHOICE: log 2, 3) -/
def State.toStep (s : State) (n y : Nat) : State := (s.modChip n fun x => { x with at_ := s.now }).set (SYN.SYN_STAT.STEP n) y

/-- By 40 µs the affected slots are silent and the island has stopped (R141). -/
def State.synDrained (s : State) (n : Nat) : State :=
  if s.atStep n yDrain then ((s.until ((s.chip n).at_ + us 40)).chipDown n).toStep n yBand else s

def execSynthDrainDone (n : Fin 8) (s : State) : Host.Outcome State Fault Refusal := ok (s.synDrained n)

def execSynthBandDone (n : Fin 8) (s : State) : Host.Outcome State Fault Refusal := .next (if s.atStep n yBand then s.toStep n yAmpl else s)

def execSynthAmplDone (n : Fin 8) (s : State) : Host.Outcome State Fault Refusal := .next (if s.atStep n yAmpl then s.toStep n yLock else s)

def execSynthLockAcquired (n : Fin 8) (s : State) : Host.Outcome State Fault Refusal :=
  .next (if s.atStep n yLock then (s.set (SYN.SYN_STAT.LOCK n) 1).toStep n ySettle else s)

def execSynthSettleDone (n : Fin 8) (s : State) : Host.Outcome State Fault Refusal :=
  .next (if s.atStep n ySettle then (s.until ((s.chip n).at_ + us 20)).toStep n yAlign else s)

/-- The ALIGN pulse: dividers aligned, READY, the plan in force, the island's clock again. A retry takes the plan of SYN_CTL, as the change
that it continues does (R141, R144, R154). (DESIGN CHOICE: log 37) -/
def State.synAligned (s : State) (n : Nat) : State :=
  if s.atStep n yAlign then
    let s := (s.toAlign.set (SYN.SYN_STAT.READY n) 1).set (SYN.SYN_STAT.PLAN_NOW n) (s.get (SYN.SYN_CTL.PLAN n))
    (s.toStep n yConvcal).syncClocks
  else s

def execSynthAligned (n : Fin 8) (s : State) : Host.Outcome State Fault Refusal := ok (s.synAligned n)

/-- A used aggressor of an active slot names a transmit channel with OBS = 1: the lowest-numbered such slot (R186, R200).
(DESIGN CHOICE: log 38) -/
def State.obsSlot (s : State) (c : Nat) : Option Nat :=
  s.active.find? fun i => (List.range 4).any fun a => s.aggObs i a && s.aggTx i a == some c

/-- OBS_ALIGN results of a chiplet's transmit channels are void, and new ones are due where a slot names a channel (R186, R200). -/
def State.realign (s : State) (n : Nat) : State :=
  let cs := ((List.range 4).map (4 * n + ·)).filter fun c => (s.obsSlot c).isSome
  { s with can := { s.can with aligned := s.can.aligned.filter (· / 4 != n), due := cs.foldl (fun l c => NSet.add l (8 * c + 4)) s.can.due } }

/-- The end of a channel change (R141, R143, R144). -/
def State.changeDone (s : State) (n : Nat) : State :=
  if s.atStep n yConvcal then
    let s := (List.range 4).foldl (fun s c => s.fgCal n c) s
    let s := ((s.set (SYN.SYN_STAT.CONV_RDY n) 1).set (SYN.SYN_STAT.BUSY n) 0).wrap (SYN.SYN_STAT.CHG_CNT n)
    let s := (s.toStep n yRunning).modChip n fun x => { x with retry := false, resume := true }
    ((s.realign n).freeChip n).fire 0x0D SYN.src.CHG_DONE {}
  else s

def execConvcalDone (n : Fin 8) (s : State) : Host.Outcome State Fault Refusal := ok (s.changeDone n)

/-- The bound of a step, in ticks (R141). -/
def stepBound (y : Nat) : Nat :=
  if y = yDrain then us 40 else if y = yBand then us 190 else if y = yAmpl then us 40 else if y = yLock then us 145
  else if y = ySettle then us 20 else if y = yAlign then 4096 else us 600

/-- A step has not finished within its bound (R143). -/
def State.stepLate (s : State) (n : Nat) : State :=
  if yDrain ≤ s.synStep n ∧ s.synStep n ≤ yConvcal ∧ !s.pfRuns then (s.until ((s.chip n).at_ + stepBound (s.synStep n))).synFail n else s

def execSynthStepTimeout (n : Fin 8) (s : State) : Host.Outcome State Fault Refusal := ok (s.stepLate n)

def execSynthUnlock (n : Fin 8) (s : State) : Host.Outcome State Fault Refusal := ok (if s.pfRuns then s else s.synUnlock n)

/-! Observation plans -/

/-- The number of a receiver's lowest valid entry. -/
def firstEntry (l : List Nat) : Nat := (l.findIdx? fun w => tbit w 31).getD 0

/-- The entry that a receiver dwells on. -/
def obsEnt (n r : Nat) : Fld := if r = 0 then CNV.OBS_STAT.ENT_0 n else CNV.OBS_STAT.ENT_1 n

/-- A receiver starts on an entry: a dwell begins now. -/
def State.dwellOn (s : State) (n r e : Nat) : State :=
  (s.modChip n fun x => { x with dwellAt := Tab.set 0 x.dwellAt r s.now }).set (obsEnt n r) e

/-- Both receivers start at their lowest valid entry (R151). -/
def State.restartPlan (s : State) (n : Nat) : State :=
  (List.range 2).foldl (fun s r => s.dwellOn n r (firstEntry (s.plan n r))) s

/-- The valid entry after entry `e`, cyclic. -/
def nextEntry (l : List Nat) (e : Nat) : Nat :=
  (((List.range 8).map fun d => (e + 1 + d) % 8).find? fun k => tbit (l.getD k 0) 31).getD e

/-- A dwell time ends (R149, R150). -/
def State.dwellNext (s : State) (n r : Nat) : State :=
  let l := s.plan n r
  let e := s.get (obsEnt n r)
  if s.clkOn (35 + n) ∧ !s.resetting (0x10 + n) ∧ (l.any fun w => tbit w 31) then
    let s := s.until (Tab.get 0 (s.chip n).dwellAt r + us (10 * bits (l.getD e 0) 0 8))
    s.dwellOn n r (nextEntry l e)
  else s

def execObsDwellAdvance (n : Fin 8) (r : Fin 2) (s : State) : Host.Outcome State Fault Refusal := .next (s.dwellNext n r)

/-- The shadow plan of a receiver as words (R151). -/
def State.shadowPlan (s : State) (n r : Nat) : List Nat :=
  (List.range 8).map fun e => s.assemble (fieldsAt (0x10080 + 0x1000 * n + 4 * (8 * r + e)))

/-- The slots whose branches on chiplet `n` the plans that `pl` gives leave uncovered: their branches on other chiplets are not judged (R152).
(DESIGN CHOICE: log 38) -/
def State.uncovered (s : State) (n : Nat) (pl : Nat → Nat → List Nat) : List Nat :=
  s.enabled.filter fun i =>
    let c := (s.liveOf i).txCentre
    ((s.branches i).filter fun t => t / 4 == n).any fun t => !s.coveredBy pl (s.bandLo i c) (s.bandHi i c) t

/-- The effect of OBS_CTL.COMMIT = 1 (R151, R152). -/
def State.planCommit (s : State) (m n : Nat) : State :=
  let no := fun (s : State) c => (s.set (CNV.OBS_CTL.REFUSE n) c).fire (0x10 + n) CNV.src.OBS_REFUSED { master := m }
  if s.flag (CNV.OBS_CTL.PENDING n) then no s 2
  else match s.uncovered n (fun k r => if k = n then s.shadowPlan k r else s.plan k r) with
    | i :: _ => no (s.set (CNV.OBS_CTL.OFFENDER n) i) 1
    | [] => (((s.set (CNV.OBS_CTL.PENDING n) 1).set (CNV.OBS_CTL.REFUSE n) 0)).modChip n fun x => { x with planAt := s.now }

/-- A write of OBS_CTL by a master. -/
def State.planWrite (s : State) (m : Master) (n : Nat) (v : Word) : State :=
  s.guarded m (0x100C0 + 0x1000 * n) v fun t => if v.getLsbD 0 then t.planCommit m.num n else t

def execObsPlanCommit (m : Master) (n : Fin 8) (v : Word) (s : State) : Host.Outcome State Fault Refusal :=
  ok (s.planWrite m n v)

/-- Slots held for COVER on a chiplet are judged again (R152). (DESIGN CHOICE: log 37) -/
def State.recover (s : State) (n : Nat) : State :=
  (s.enabled.filter fun i => s.onChiplet n i && tbit (s.get (SLP.SLOT_STAT.HOLD i)) hCover && s.coverOk i (s.liveOf i).txCentre).foldl
    (fun s i => s.unhold hCover i) s

/-- The shadow plans, as they then stand, become live at the next common frame boundary; in Frugal a receiver that comes into use powers up, and one that
falls out of use powers down (R19, R151). (DESIGN CHOICE: log 38) -/
def State.planLive (s : State) (n : Nat) : State :=
  if s.flag (CNV.OBS_CTL.PENDING n) then
    let s := s.until (s.frameAt s.now)
    let s := (List.range 2).foldl (fun s r => { s with obsLive := Tab.set [] s.obsLive (2 * n + r) (s.shadowPlan n r) }) s
    let need := ((List.range 2).map fun r => 64 + 2 * n + r).filter fun k => s.chanDown.contains k && s.inUse k
    let s := { s with chanUp := need.foldl NSet.add s.chanUp }
    (((s.set (CNV.OBS_CTL.PENDING n) 0).restartPlan n).recover n).trimChannels
  else s

def execObsPlanLive (n : Fin 8) (s : State) : Host.Outcome State Fault Refusal := ok (s.planLive n)

/-! The resume boundary -/

/-- The common frame boundary after a change: uncovered slots hold with COVER, the dwell plan restarts, and the others ramp up
(R141, R151, R152). -/
def State.changeResume (s : State) (n : Nat) : State :=
  if (s.chip n).resume ∧ s.atStep n yRunning then
    let s := (s.until (s.frameAt s.now)).modChip n fun x => { x with resume := false }
    let bad := s.enabled.filter fun i => s.onChiplet n i && !s.coverOk i (s.liveOf i).txCentre
    let s := bad.foldl (fun s i => s.hold hCover i) ((s.recover n).restartPlan n)
    let s := (s.enabled.filter (s.onChiplet n)).foldl (fun s i => s.resume i) s
    if bad.isEmpty then s else s.fire (0x10 + n) CNV.src.OBS_REFUSED {}
  else s

def execChannelChangeResume (n : Fin 8) (s : State) : Host.Outcome State Fault Refusal := ok (s.changeResume n)

/-! Background calibration -/

/-- A correction field moves by at most one step towards a value (R147). -/
def State.nudge (s : State) (f : Fld) (goal : Int) : State :=
  let v := sext f.w (s.get f)
  s.set f (toField f.w (if v < goal then min (v + 1) (2 ^ (f.w - 1) - 1) else if goal < v then max (v - 1) (-(2 ^ (f.w - 1))) else v))

/-- The image estimate of a receive pair. -/
def imgFld (n c : Nat) : Fld :=
  if c = 0 then CNV.CAL_IMG.IMG_0 n else if c = 1 then CNV.CAL_IMG.IMG_1 n else if c = 2 then CNV.CAL_IMG.IMG_2 n else CNV.CAL_IMG.IMG_3 n

/-- One window of a pair; a held window neither counts towards the ten of CONV nor breaks them (R147). (DESIGN CHOICE: log 37) -/
def State.bgCal (s : State) (n c : Nat) (o : CalObs) : State :=
  if !tbit (s.get (CNV.CAL_CTL.BG_EN n)) c || !s.flag (CNV.RX_CFG.PWR n c) then s
  else if o.low then s.putBit (CNV.CAL_STAT.HOLD n) c true
  else
    let s := ((s.nudge (CNV.ILV.OFFSET n c) o.offset).nudge (CNV.ILV.GAIN n c) o.gain).nudge (CNV.ILV.SKEW n c) o.skew
    let img := o.image.toNat
    let k := if 80 ≤ img then min 10 (Tab.get 0 (s.chip n).conv c + 1) else 0
    let h := s.chipHot n
    let s := s.modChip n fun x => { x with conv := Tab.set 0 x.conv c k, ref := Tab.set none x.ref c h }
    let s := (s.set (imgFld n c) img).putBit (CNV.CAL_STAT.HOLD n) c false
    if k = 10 then s.putBit (CNV.CAL_STAT.CONV n) c true
    else if img < 77 then s.putBit (CNV.CAL_STAT.CONV n) c false else s

/-- A 1 ms window of background calibration ends on a chiplet (R147). -/
def execBgCalWindowEnd (n : Fin 8) (obs : List CalObs) (s : State) : Host.Outcome State Fault Refusal :=
  .next (if s.clkOn (35 + n) ∧ !s.resetting (0x10 + n) ∧ s.flag (SYN.SYN_STAT.CONV_RDY n) then
    (List.range 4).foldl (fun s c => s.bgCal n c (obs.getD c ⟨0, 0, 0, 0, true⟩)) s.toAlign else s)

end Sys2Proof.Machine
end

