-- ==== Sys2Proof/Machine/Jobs.lean ====
section
/-! DEFINITION. The launcher, the engines' jobs and their results, divergence, warm loads and snapshots (R199 to R215, R224, R226,
R231, R405). Jobs are told apart by a kind: 1 ADAPT, 2 OBSERVE-REDUCE, 3 SYNTH, 4 OBS_ALIGN, 5 ISOLATION. -/
namespace Sys2Proof.Machine
open Sys2Proof

/-! Launcher -/

/-- The kind of a job (R200, R201). -/
def Job.kind (j : Job) : Nat := if j.typ = 4 ∧ j.p0 = 2 then 5 else j.typ

/-- What a job works for: its slot, or the transmit channel of an OBS_ALIGN. -/
def Job.key (j : Job) : Nat := 8 * (if j.kind = 4 then j.p1 else j.slot) + j.kind

/-- A job of a key is queued or runs. -/
def State.unfinished (s : State) (key : Nat) : Bool :=
  (s.can.deques.any fun d => d.2.any fun j => j.key == key)
    || s.can.run.any fun r => match r.2 with | some x => x.job.key == key | none => false

/-- CAN.CADENCE for an urgency, in periods (R202). -/
def State.cadence (s : State) (u : Nat) : Nat :=
  s.get (if u = 0 then CAN.CADENCE.U0 else if u = 1 then CAN.CADENCE.U1 else if u = 2 then CAN.CADENCE.U2 else CAN.CADENCE.U3)

/-- A period of the common timebase starts: the count goes on by one for each period since the last start, in part or whole (R201).
(DESIGN CHOICE: log 43) -/
def State.countPeriod (s : State) : State :=
  { s with can := { s.can with period := s.can.period + max 1 ((s.now - s.can.periodAt + 98303) / 98304), periodAt := s.now } }

/-- A job of a key is still one that the launcher issues: an ADAPT in ADAPT mode with no warm load before it, a SYNTH of a slot whose
coefficients the solver builds, and no job in BYPASS (R190, R200, R214). (DESIGN CHOICE: log 43) -/
def State.wanted (s : State) (key i : Nat) : Bool :=
  key % 8 == 4 || ((s.cs i).mode != 0
    && (key % 8 != 1 || ((s.cs i).mode == 1 && !s.can.warmQ.contains i && (s.cs i).warmAt.isNone))
    && (key % 8 != 3 || ((s.gv i).synthDue && s.get (SLP.FIR_CTL.SRC i) == 0)))

/-- An ADAPT tick of a slot is due (R190, R202, R214). -/
def State.adaptTick (s : State) (i : Nat) : Bool :=
  s.wanted (8 * i + 1) i &&
    match (s.cs i).lastAdapt with
    | none => true
    | some p => p + s.cadence (s.get (GOV.SLOT_GOV.URG i)) ≤ s.can.period

/-- A SYNTH of a slot is wanted and the last one lies 1 ms back (R200, R224). -/
def State.synthTick (s : State) (i : Nat) : Bool :=
  s.wanted (8 * i + 3) i &&
    match (s.gv i).lastSynth with
    | none => true
    | some t => t + ms 1 ≤ s.now

/-- The ticks of a slot in this period; in BYPASS a slot has no jobs (R190, R200, R202). -/
def State.slotTicks (s : State) (i : Nat) : List Nat :=
  if (s.cs i).mode = 0 then []
  else (if s.adaptTick i then [8 * i + 1] else [])
    ++ (if s.now = s.frameAt s.now ∨ s.get (GOV.SLOT_GOV.URG i) = 3 then [8 * i + 2] else [])
    ++ (if s.synthTick i then [8 * i + 3] else [])

/-- The round of OBS_ALIGN every 1 s (R200). (DESIGN CHOICE: log 38) -/
def State.alignRound (s : State) : State :=
  if s.can.alignAt + ms 1000 ≤ s.now then
    let cs := (List.range 32).filter fun c => (s.obsSlot c).isSome
    { s with can := { s.can with alignAt := s.now, due := cs.foldl (fun l c => NSet.add l (8 * c + 4)) s.can.due } }
  else s

/-- The slot whose number a job of a key carries; none where nothing asks for it any more. -/
def State.keySlot (s : State) (key : Nat) : Option Nat :=
  if key % 8 = 4 then s.obsSlot (key / 8) else if s.enabled.contains (key / 8) then some (key / 8) else none

/-- Class of a job (R202). -/
def jobClass (kind urg : Nat) : Nat :=
  if kind = 5 then 2 else if kind = 1 then (if urg = 3 then 2 else if urg = 0 then 0 else 1) else if kind = 2 ∧ urg = 3 then 2 else 1

/-- Extents that an ADAPT job of a slot updates: the active group's, neither parked nor of an idle aggressor nor of an external one
without a live reference (R187, R189, R192, R199). -/
def State.adaptXts (s : State) (i : Nat) : List Xt :=
  (s.cs i).xts.filter fun t => t.alt == s.flag (CAN.SLOT_INFO.ALT_ACTIVE i) && !t.park && !s.aggIdle i t.agg
    && (s.aggKind i t.agg < 2 || s.flag (CAN.EXT_REF.LIVE (s.aggIndex i t.agg)))

/-- A slot's live coefficients are all zero (R201). -/
def State.allZero (s : State) (i : Nat) : Bool :=
  (s.cs i).xts.all fun t => (Tab.range s.can.pool (s.bankAt i t.ext true) 64).isEmpty

/-- Covariance tracking is on: Deep, with the profile's clock in force (R209). -/
def State.covOn (s : State) (i : Nat) : Bool :=
  s.get IDN.PROFILE.ACTIVE == 2 && s.get (CLK.ISL_CLK.DIV_APPLIED (19 + i / 32)) == profDiv 2

/-- The descriptor of a job (R201). Sample indices, addresses, the analysis frame and the gain generation are numbers that the spec does
not give. -/
def State.describe (s : State) (key i : Nat) : Job × State :=
  let kind := key % 8
  let urg := s.get (GOV.SLOT_GOV.URG i)
  let xs := s.adaptXts i
  let (blk, s) := s.draw
  let (n, s) := s.draw
  let (a, s) := s.draw
  let (r, s) := s.draw
  let (g, s) := s.draw
  let p0 := if kind = 1 then s.get CAN.ADAPT_CFG.MU else if kind = 2 then g % 2 ^ 32 else if kind = 3 then s.get (SLP.FIR_CTL.LEN i)
    else if kind = 4 then 1 else 2
  let p1 := if kind = 1 then s.get CAN.ADAPT_CFG.LEAK else if kind = 3 then g % 2 ^ 32 else if kind = 4 then key / 8 else 0
  let j : Job :=
    { typ := min kind 4, cls := jobClass kind urg, prof := s.get IDN.PROFILE.ACTIVE, cov := s.covOn i, cold := s.allZero i
      alt := s.flag (CAN.SLOT_INFO.ALT_ACTIVE i), slot := i, sgen := (s.cs i).sgen, pgen := s.can.pgen, seq := s.can.seq
      issue := s.can.period % 2 ^ 32, block := blk % 2 ^ 32, nblk := n % 65536
      exts := if kind = 1 then xs.length else 0
      first := if kind = 1 then (((s.cs i).xts.findIdx? fun t => xs.head? == some t).getD 0) else 0
      stateAt := a % 2 ^ 32, resultAt := r % 2 ^ 32, p0 := p0, p1 := p1, p2 := if kind = 1 then urg else 0 }
  (j, { s with can := { s.can with seq := (s.can.seq + 1) % 2 ^ 32 } })

/-- A job is issued: what its kind takes with it (R202, R224). -/
def State.issued (s : State) (key i : Nat) : State :=
  let s := { s with can := { s.can with due := NSet.rem s.can.due key } }
  if key % 8 = 1 then s.modCs i fun x => { x with lastAdapt := some s.can.period }
  else if key % 8 = 3 then s.modGv i fun g => { g with cutIssued := g.cut, target := s.subTarget i g.cut, ownerNew := false, synthDue := false, lastSynth := some s.now }
  else s

/-- One tick: dropped where the job is no longer wanted, skipped while the previous job is unfinished, and kept for the next period where no
deque takes it; an ISOLATION waits for a mode other than BYPASS (R190, R202, R203, R207). (DESIGN CHOICE: log 43) -/
def State.tick (s : State) (key : Nat) : State :=
  let keep := fun (s : State) => { s with can := { s.can with due := NSet.add s.can.due key } }
  let drop := fun (s : State) => { s with can := { s.can with due := NSet.rem s.can.due key } }
  match s.keySlot key with
  | none => drop s
  | some i =>
    if !s.wanted key i then (if key % 8 = 5 then s else drop s)
    else if s.unfinished key || (key % 8 == 1 && (s.cs i).adaptAt.isSome) then drop (s.count CAN.JOB_CNT_2.SKIPPED 1)
    else if (s.placeCluster 0).isNone then keep (s.count CAN.JOB_CNT_2.SKIPPED 1)
    else
      let (j, t) := s.describe key i
      match t.placeJob j with
      | some u => u.issued key i
      | none => keep (s.count CAN.JOB_CNT_1.FULL 1)

/-- The launcher at the start of a period: what is due, and the ticks of every enabled slot (R200, R202, R203). -/
def State.launch (s : State) : State :=
  let s := s.countPeriod.alignRound
  (((s.enabled.map s.slotTicks).flatten).foldl NSet.add s.can.due).foldl (fun s k => s.tick k) s

/-! Engines -/

/-- An engine can start a job (R79, R86, R207). -/
def State.engineFree (s : State) (e : Nat) : Bool :=
  let k := e / 16
  (s.runOf e).isNone && s.clusterEn k && s.clkOn (19 + k) && s.get PWR.PWR_CMD.STATE < pStandby && !s.inReset
    && !s.flag (HDR.PAGE_STAT.RESET_ACTIVE (0x30 + k)) && !s.clocksGated && !s.stopping

/-- A job's generations are the present ones and its slot is enabled (R206). -/
def State.current (s : State) (j : Job) : Bool :=
  s.enabled.contains j.slot && j.sgen == (s.cs j.slot).sgen && j.pgen == s.can.pgen

/-- A job of a superseded profile is issued again under the new one where no tick of its own does so: SYNTH, OBS_ALIGN and ISOLATION (R26,
R206). -/
def State.reissue (s : State) (j : Job) : State :=
  if j.pgen = s.can.pgen ∨ j.kind < 3 then s
  else if j.kind ≠ 4 ∧ (!s.enabled.contains j.slot || j.sgen != (s.cs j.slot).sgen) then s
  else if j.kind = 3 then s.modGv j.slot fun g => { g with synthDue := true }
  else { s with can := { s.can with due := NSet.add s.can.due j.key } }

/-- An engine claims a job: it runs it, or drops it where its check is wrong or its generations are stale (R201, R205, R206). -/
def State.claimJob (s : State) (e : Nat) (j : Job) (bad : Bool) : State :=
  if bad then (s.count CAN.JOB_CNT_0.STALE 1).fire (0x30 + e / 16) YCL.src.DESC_CHECK {}
  else if !s.current j then (s.count CAN.JOB_CNT_0.STALE 1).reissue j
  else (s.setRun e (some { job := j, at_ := s.now })).putBit (YCL.ENG_STAT.BUSY (e / 16)) (e % 16) true

/-- A thief takes entry `n` of engine `v`'s deque (R203, R204). -/
def State.take (s : State) (e v n : Nat) (bad : Bool) : State :=
  match (s.deque v)[n]? with
  | none => s
  | some j =>
    let s := s.setDeque v ((s.deque v).eraseIdx n)
    let s := s.count (if v / 16 = e / 16 then YCL.STEAL_CNT.LOCAL (e / 16) else YCL.STEAL_CNT.RING (e / 16)) 1
    s.claimJob e { j with steals := min 255 (j.steals + 1) } bad

/-- A free engine starts its own next job, or first an urgent one of a peer (R203). -/
def State.engineStart (s : State) (e : Nat) (bad : Bool) : State :=
  if !s.engineFree e then s
  else match s.popOwn (s.deque e) with
  | none => s
  | some n =>
    let j := (s.deque e).getD n {}
    match s.victim (peers e) with
    | some (v, m, 2) =>
      if s.flag CAN.STEAL_CFG.URGENT_PEEK ∧ j.cls ≠ 2 then s.take e v m bad
      else (s.setDeque e ((s.deque e).eraseIdx n)).claimJob e j bad
    | _ => (s.setDeque e ((s.deque e).eraseIdx n)).claimJob e j bad

def execEngineJobStart (e : Fin 256) (bad : Bool) (s : State) : Host.Outcome State Fault Refusal := Machine.ok (s.engineStart e bad)

/-- An engine whose deque is empty steals, or waits RETRY where it finds nothing (R204). -/
def State.steal (s : State) (e : Nat) (bad : Bool) : State :=
  if !s.engineFree e || !(s.deque e).isEmpty then s
  else match s.stealFrom e with
  | some (v, n, _) => s.take e v n bad
  | none => { s with can := { s.can with retry := Tab.set 0 s.can.retry e (s.now + s.get CAN.STEAL_CFG.RETRY * 98304 / 1000) } }

def execJobSteal (e : Fin 256) (bad : Bool) (s : State) : Host.Outcome State Fault Refusal :=
  Machine.ok (if s.now < Tab.get 0 s.can.retry e then s else s.steal e bad)

def execStealRetryExpiry (e : Fin 256) (bad : Bool) (s : State) : Host.Outcome State Fault Refusal :=
  Machine.ok (if Tab.get 0 s.can.retry e = 0 then s
    else
      let t := s.until (Tab.get 0 s.can.retry e)
      State.steal { t with can := { t.can with retry := Tab.set 0 t.can.retry e 0 } } e bad)

/-! Results -/

/-- The step size of adaptation bin `f` of 128: MU/256 times the governor's step for the governed bin that contains the bin's centre; of the
four bins that it spans, the smallest of their steps, in quarters (R209, R226). Bin f is centred at (f − 64) w/128, and the bins at the
edge of the band span the edge. -/
def State.adaptStep (s : State) (j : Job) (f : Nat) : Rat :=
  let q := ((List.range 4).map fun k => Tab.get 4 (s.gv j.slot).step ((4 * f + k + 510) % 512)).foldl min 4
  mkRat (j.p0 * q) 1024

/-- Adaptation partitions: those of an aggressor, as its place in the extent list (R185, R209). -/
abbrev Place := Nat × Nat

/-- A 128-point transform: bin f of it lies at (f − 64)/128 turns a sample (R209). -/
def dft128 (x : Nat → Cx) (f : Nat) : Cx :=
  Cx.sum ((List.range 128).map fun (t : Nat) => (x t).mul (circle (mkRat ((64 - (f : Int)) * t) 128)))

/-- The spectrum in a bin of the reference of a partition over the job's block `n` and the 64 samples before it, at the partition's air
delay (R185, R201, R209). -/
def State.refBin (s : State) (j : Job) (p : Place) (n : Int) (f : Nat) : Cx :=
  dft128 (fun t => s.reference s.txDac j.slot (s.liveOf j.slot) p.1 (j.block + 64 * n - 64 + t - 64 * p.2 + 2)) f

/-- The spectrum in a bin of the residual over the job's block `n`, behind 64 zeros (R201, R209). -/
def State.errBin (s : State) (j : Job) (n : Int) (f : Nat) : Cx :=
  dft128 (fun t => if t < 64 then {} else s.residual s.txDac j.slot (s.liveSet j.slot) (j.block + 64 * n - 64 + t)) f

/-- The power of all the slot's used references together in a bin of a block (R209). -/
def State.refPower (s : State) (j : Job) (ps : List Place) (n : Int) (f : Nat) : Rat :=
  (ps.map fun p => let z := s.refBin j p n f; z.re * z.re + z.im * z.im).foldl (· + ·) 0

/-- The gradient of a partition in a bin of a block: the conjugate reference times the residual (R209). -/
def State.gradient (s : State) (j : Job) (p : Place) (n : Int) (f : Nat) : Cx := (s.refBin j p n f).conj.mul (s.errBin j n f)

/-- The solution of a system of linear equations, as rows with their right-hand sides last; none of a singular one. -/
def solveRows : Nat → List (List Cx) → Option (List Cx)
  | 0, _ => some []
  | n + 1, rows =>
    match rows.find? fun r => r.headD {} != {} with
    | none => none
    | some r =>
      let h := r.headD {}
      let p := r.tail.map fun z => (z.mul h.conj).scale (h.re * h.re + h.im * h.im)⁻¹
      let rest := (rows.erase r).map fun q => (q.tail.zip p).map fun z => z.1.sub ((q.headD {}).mul z.2)
      (solveRows n rest).map fun xs => ((p.getLastD {}).sub (Cx.sum ((p.zip xs).map fun z => z.1.mul z.2))) :: xs

/-- A job's covariance estimates are valid: the references have been tracked over 2^COV_WIN blocks (R209). -/
def State.covValid (s : State) (j : Job) : Bool := j.cov && 2 ^ s.get CAN.ADAPT_CFG.COV_WIN ≤ (s.cs j.slot).covBlocks

/-- The covariance of two aggressors' references in a bin over the last 2^COV_WIN blocks up to the job's last (R209). -/
def State.covariance (s : State) (j : Job) (a b f : Nat) : Cx :=
  let w := 2 ^ s.get CAN.ADAPT_CFG.COV_WIN
  (Cx.sum ((List.range w).map fun (k : Nat) =>
    (s.refBin j (a, 0) ((j.nblk : Int) - 1 - k) f).mul (s.refBin j (b, 0) ((j.nblk : Int) - 1 - k) f).conj)).scale (mkRat 1 w)

/-- The update of each partition in a bin, summed over the job's blocks: plain NLMS, normalised by the power of the references; or, once
the covariance estimates are valid, decorrelated between the aggressors by the inverse of their covariance (R209). -/
def State.update (s : State) (j : Job) (ps : List Place) (f : Nat) : List Cx :=
  let raw := fun p => Cx.sum ((List.range j.nblk).map fun (n : Nat) => s.gradient j p n f)
  let nlms := fun p => Cx.sum ((List.range j.nblk).map fun (n : Nat) => (s.gradient j p n f).scale (s.refPower j ps n f)⁻¹)
  let as := (List.range 4).filter fun a => ps.any (·.1 == a)
  let dec := fun (p : Place) => (solveRows as.length (as.map fun a =>
    (as.map fun b => s.covariance j a b f) ++ [if ps.contains (a, p.2) then raw (a, p.2) else {}])).map fun xs => xs.getD (as.idxOf p.1) {}
  ps.map fun p => ((if s.covValid j then (dec p).getD (nlms p) else nlms p)).scale (s.adaptStep j f)

/-- Tap `k` of partition `p` after the job: the live coefficient and the update's tap of the 128-point transform, scaled by 1 − LEAK/2^20
(R193, R209). -/
def State.adaptTap (s : State) (j : Job) (ps : List Place) (m : Nat) (e sh k : Nat) : Cx :=
  let w := ofQ15 sh (Tab.get 0 s.can.pool (s.bankAt j.slot e true + k))
  let d := Cx.sum ((List.range 128).map fun (f : Nat) =>
    ((s.update j ps f).getD m {}).mul (circle (mkRat (((f : Int) - 64) * k) 128)))
  (w.add (d.scale (mkRat 1 128))).scale (1 - mkRat j.p1 1048576)

/-- An extent's shadow takes the coefficients that an ADAPT job computes, at the shift that the part chooses for its aggressor (R193,
R209). -/
def State.adaptExt (s : State) (j : Job) (ps : List Place) (m : Nat) (t : Xt) (sh : Nat) : State :=
  let vs := (List.range 64).map fun k => ((s.adaptTap j ps m t.ext ((s.cs j.slot).shiftLive.getD t.agg 0) k).scale (2 ^ sh : Nat)).word
  s.modPool fun p => (List.range 64).foldl (fun p k => Tab.set 0 p (s.bankAt j.slot t.ext false + k) (vs.getD k 0)) p

/-- The references' covariance is tracked over a job's blocks where COV is set (R209). -/
def State.covTrack (s : State) (j : Job) : State :=
  if j.cov then s.modCs j.slot fun x => { x with covBlocks := x.covBlocks + j.nblk } else s

/-- An entry of one shift as an entry of another (R193). -/
def reShift (old new w : Nat) : Nat := ((ofQ15 old w).scale (2 ^ new : Nat)).word

/-- The extents of an aggressor that an ADAPT job leaves as they are: those of the other group, and parked ones (R192, R199). -/
def State.heldXts (s : State) (i a : Nat) : List Xt := (s.cs i).xts.filter fun t => t.agg == a && !(s.adaptXts i).contains t

/-- The part chooses a shift for an aggressor, one at which the extents that the job leaves as they are keep their coefficients, and writes
their shadow entries at it (R192, R193, R199). (DESIGN CHOICE: log 43) -/
def State.chooseShift (s : State) (i a : Nat) : State :=
  let (v, t) := s.draw
  let old := (s.cs i).shift.getD a 0
  let new := v % 16
  let keys := (s.heldXts i a).flatMap fun x => (Tab.range s.can.pool (s.bankAt i x.ext false) 64).map (·.1)
  let keep := keys.all fun k => let w := Tab.get 0 s.can.pool k; ofQ15 new (reShift old new w) == ofQ15 old w
  if keep then
    (t.modCs i fun x => { x with shift := x.shift.set a new }).modPool fun p =>
      keys.foldl (fun p k => Tab.set 0 p k (reShift old new (Tab.get 0 p k))) p
  else t

/-- An accepted ADAPT result: the active group's shadow, and the shifts that the part chooses (R193, R200, R206, R209).
(DESIGN CHOICE: log 43) -/
def State.adaptResult (s : State) (j : Job) : State :=
  let i := j.slot
  let xs := s.adaptXts i
  let ps := xs.map fun t => (t.agg, t.part)
  let t := (List.range 4).foldl (fun s a => if xs.any (·.agg == a) then s.chooseShift i a else s) s
  let u := (List.range xs.length).foldl (fun u m =>
    let x := xs.getD m {}
    u.adaptExt j ps m x ((t.cs i).shift.getD x.agg 0)) t
  u.modCs i fun x => { x with adaptAt := some s.now }

/-- A bin is valid; an invalid observation counts as an unfilled history (R69, R221). -/
def State.binOk (s : State) (i : Nat) (b : Bin) : Bool := s.flag (OBS.SUM1.HIST i) && !s.recordBad i && b.refOk

/-- The valid bins of a slot with their estimates. -/
def State.validBins (s : State) (i : Nat) : Tab Bin := (s.gv i).est.filter fun e => s.binOk i e.2

/-- The governor cut of a valid bin after an OBSERVE-REDUCE, in 0.01 dB; `up` is the most that it may rise (R224). -/
def newCut (margin up cut cutL lg : Int) : Int :=
  let need := cutL - (lg + margin)
  if -margin < lg then min cut need
  else if lg < -margin ∧ cut < 0 then max cut (min (min (cut + up) 0) need)
  else cut

/-- Step of a bin in quarters: 4 for 1.0, 2 for 0.5, 1 for 0.25 (R226). -/
def newStep (margin : Int) (valid : Bool) (lg : Int) : Nat := if !valid || -margin < lg then 4 else if -margin - 600 < lg then 2 else 1

/-- Some cut has moved by 0.5 dB or more since the last SYNTH (R224). -/
def Gov.cutMoved (g : Gov) : Bool := (List.range 512).any fun b => 50 ≤ (Tab.get 0 g.cut b - Tab.get 0 g.cutIssued b).natAbs

/-- A mean in power over a slot's valid bins, weighted by their reference power, of a level in 0.01 dB (R222). -/
def State.binMean (s : State) (i : Nat) (f : Bin → Int) : Int :=
  let l := s.validBins i
  levelOf ((l.map fun e => e.2.ref * powerOf (f e.2)).sum / (l.map fun e => e.2.ref).sum)

/-- A slot's cancellation depth in 0.01 dB: the difference of its mean effective and physical isolation (R218, R216).
(DESIGN CHOICE: log 43) -/
def State.depth (s : State) (i : Nat) : Int := s.binMean i (fun b => -b.iphys) - s.binMean i (fun b => -b.ieff)

/-- An OBSERVE-REDUCE result: cuts, steps, a SYNTH where one is needed, and a measured isolation where the ISOLATION job found none
(R224, R226, R231). -/
def State.observe (s : State) (i : Nat) : State :=
  let g := s.gv i
  let m := s.margin i
  let ok := s.validBins i
  let tick := ms (s.get GOV.RECOVER.MS)
  let rise := fun (t : Nat) => 100 * (s.now - t) / tick
  let up := rise g.redAt
  let cut := ok.foldl (fun t e =>
    Tab.set 0 t e.1 (newCut m (rise (max g.redAt (Tab.get 0 g.cutAt e.1))) (Tab.get 0 g.cut e.1) (s.cutL i e.1) e.2.lg)) g.cut
  let cutAt := ok.foldl (fun t e => if Tab.get 0 cut e.1 < Tab.get 0 g.cut e.1 then Tab.set 0 t e.1 s.now else t) g.cutAt
  let step := g.est.foldl (fun t e => Tab.set 4 t e.1 (newStep m (s.binOk i e.2) e.2.lg)) []
  let s := s.modGv i fun g => { g with cut := cut, cutAt := cutAt, step := step, redAt := g.redAt + (up * tick + 99) / 100 }
  let s := s.modGv i fun g => { g with synthDue := g.synthDue || g.cutMoved || g.ownerNew }
  let s := s.set (CAN.SLOT_INFO.DEPTH i) (clampInt 0 255 (s.depth i / 25)).toNat
  if g.isoDue ∧ 256 ≤ ok.length then
    let l := (ok.filter fun e => inBand e.1).map (·.2.iphys)
    let lo := l.foldl min (l.headD 0)
    (s.modGv i fun g => { g with iso := some lo, isoDue := false }).setCap i (s.capFor i lo)
  else s

/-- The ISOLATION job ends: the cap from the measured isolation, or from ISO_ASSUME where no in-band bin had reference power (R231). -/
def State.isolation (s : State) (i : Nat) (iphys : Option Int) : State :=
  let s := s.modGv i fun g => { g with iso := iphys, isoDue := iphys.isNone }
  s.setCap i (s.capFor i (iphys.getD (100 * s.get GOV.COLD_CFG.ISO_ASSUME)))

/-- The result of a completed job; of an ADAPT job, with the residual powers in 0.01 dB after it and of the live set on its blocks: a result
more than 0.5 dB worse is rejected, and one that completes while a zeroed shadow waits for its commit, or on invalid input, writes nothing (R69, R170, R186, R200, R210,
R211). (DESIGN CHOICE: log 43) -/
def State.result (s : State) (j : Job) (post live : Int) (iphys : Option Int) : State :=
  let i := j.slot
  let k := j.kind
  if k = 1 then
    let s := s.covTrack j
    if live + 50 < post then s.count CAN.JOB_CNT_2.REJECTED 1
    else if (s.cs i).mode = 1 ∧ !(s.cs i).zeroDue ∧ !s.inputBad i ∧ !s.canBad i then s.adaptResult j
    else s
  else if k = 2 then s.observe i
  else if k = 3 then (s.modSlot i fun x => { x with result := true }).modGv i fun g => { g with cutRes := g.cutIssued, targetRes := g.target }
  else if k = 4 then
    let (r, s) := s.draw
    { s with can := { s.can with aligned := NSet.add s.can.aligned j.p1, alignRes := Tab.set 0 s.can.alignRes j.p1 r } }
  else s.isolation i iphys

/-- An engine is free again. -/
def State.engineIdle (s : State) (e : Nat) : State := (s.setRun e none).putBit (YCL.ENG_STAT.BUSY (e / 16)) (e % 16) false

/-- A job completes (R26, R206). (DESIGN CHOICE: log 6) -/
def State.jobDone (s : State) (e : Nat) (post live : Int) (iphys : Option Int) : State :=
  match s.runOf e with
  | none => s
  | some r =>
    let s := (s.engineIdle e).wrap (YCL.JOB_DONE.COUNT (e / 16))
    if s.current r.job then s.result r.job post live iphys else (s.count CAN.JOB_CNT_0.DISCARDED 1).reissue r.job

def execJobComplete (e : Fin 256) (post live : Int) (s : State) (iphys : Option Int := none) : Host.Outcome State Fault Refusal :=
  ok (s.jobDone e post live iphys)

/-- A job has run for 2 ms: it is abandoned (R208). -/
def State.jobLate (s : State) (e : Nat) : State :=
  match s.runOf e with
  | none => s
  | some r => (((s.until (r.at_ + ms 2)).engineIdle e).count CAN.JOB_CNT_1.TIMEOUT 1).fire (0x30 + e / 16) YCL.src.JOB_TIMEOUT
      { slot := some r.job.slot }

def execJobTimeout (e : Fin 256) (s : State) : Host.Outcome State Fault Refusal := ok (s.jobLate e)

/-- A disabled or throttled cluster has handed on its queued jobs (R207). -/
def State.handoff (s : State) (k : Nat) : State :=
  if s.can.handDue.contains k ∧ !s.stopped (0x30 + k) ∧ (s.nextUsable k).isSome then
    let s := s.handJobs k
    let t : State := { s with can := { s.can with handDue := NSet.rem s.can.handDue k } }
    t.syncClusters.fire (0x30 + k) YCL.src.HANDOFF_DONE {}
  else s

def execClusterHandoffDone (k : Fin 16) (s : State) : Host.Outcome State Fault Refusal := ok (s.handoff k)

/-! Divergence -/

/-- The guard acts: zero shadow to be committed, and a cold start from the latest isolation (R211, R213, R231). -/
def State.diverge (s : State) (i : Nat) : State :=
  let es := (s.cs i).xts.map (·.ext)
  let s := (s.zeroShadow i es).modCs i fun x => { x with divWin := 0, zeroDue := true, adaptAt := none, warm := none, warmAt := none }
  let s := (s.dropWarm i).set (CAN.SLOT_INFO.DIVERGED i) 1
  let s := ((s.divergeCap i).set (GOV.SLOT_GOV.WARMR i) 0).set (GOV.SLOT_GOV.URG i) 3
  let t : State := { s with can := { s.can with due := NSet.add s.can.due (8 * i + 5) } }
  t.canNote i CAN.src.DIVERGE 7

/-- A 1 ms window ends with residual power `excess` above the receive power, in 0.01 dB (R211). -/
def State.divWindow (s : State) (i : Nat) (excess : Int) : State :=
  if !s.running i || s.stopped 0x20 then s
  else if excess ≤ 100 * (s.get CAN.ADAPT_CFG.DIV_DB : Int) then s.modCs i fun x => { x with divWin := 0 }
  else if 1 ≤ (s.cs i).divWin then s.diverge i
  else s.modCs i fun x => { x with divWin := 1 }

def execDivergenceWindow (i : Fin 512) (excess : Int) (s : State) : Host.Outcome State Fault Refusal := ok (s.divWindow i excess)

/-! Warm loads and snapshots -/

/-- A stored 24-bit coefficient as an entry: bits 15:4 of I and Q, bits 3:0 at zero (R405). -/
def ofCoeff (c : Nat) : Nat := bits c 0 12 * 2 ^ 20 + bits c 12 12 * 16

/-- An entry as a stored coefficient (R405). -/
def toCoeff (v : Nat) : Nat := bits v 20 12 + bits v 4 12 * 4096

/-- The coefficients of a snapshot entry go into a slot's shadow, in list order (R214, R405). -/
def State.loadCoeff (s : State) (i : Nat) (cs : List Nat) : State :=
  let es := (s.cs i).xts.map (·.ext)
  s.modPool fun t => (List.range es.length).foldl (fun t n => (List.range 64).foldl (fun t k =>
    Tab.set 0 t (s.bankAt i (es.getD n 0) false + k) (ofCoeff (cs.getD (64 * n + k) 0))) t) t

/-- The warm load at the head of the queue ends: the entry that the enable found is in the shadow (R214). -/
def State.warmDone (s : State) (i : Nat) : State :=
  if s.can.warmQ.head? ≠ some i ∨ s.stopped 0x20 then s
  else match (s.cs i).warm with
  | none => s.dropWarm i
  | some x => ((s.loadCoeff i x.coeff).modCs i fun y => { y with shift := x.shift, warmAt := some s.now }).dropWarm i

def execWarmLoadDone (i : Fin 512) (s : State) : Host.Outcome State Fault Refusal := .next (s.warmDone i)

/-- A slot's entry of a snapshot: its keys and its live set (R215, R405). -/
def State.snapSlot (s : State) (i : Nat) : SnapSlot :=
  { s.snapKeys i with
    shift := (s.cs i).shiftLive, altActive := s.flag (CAN.SLOT_INFO.ALT_ACTIVE i)
    coeff := ((s.cs i).xts.map fun t => (List.range 64).map fun k => toCoeff (Tab.get 0 s.can.pool (s.bankAt i t.ext true + k))).flatten }

/-- A snapshot save starts, unless one is in progress (R215). (DESIGN CHOICE: log 44) -/
def State.snapSave (s : State) (m : Nat) : State :=
  if s.flag CAN.SNAP_STAT.BUSY then s
  else if s.nvmCause rgSnap ≠ 0 then
    ((s.set CAN.SNAP_STAT.RESULT 2).nvmEnd m rgSnap (s.nvmCause rgSnap)).fire 0x20 CAN.src.SNAP_FAIL { master := m }
  else
    let ss := s.enabled.filter fun i => (s.cs i).mode != 0
    s.nvmRequest m { region := rgSnap, snap := some { site := s.get CAN.SITE_ID.ID, opSec := s.opSec, slots := ss.map s.snapSlot } }

/-- The effect of a write of SNAP_CTL (R215). -/
def State.snapCtl (s : State) (m : Nat) (v : Word) : State :=
  let s := s.writeReg 0x2007C v
  if v.getLsbD 0 then s.snapSave m else s

/-- A write of SNAP_CTL by a master. -/
def State.snapCtlWrite (s : State) (m : Master) (v : Word) : State :=
  s.guarded m 0x2007C v fun t => t.snapCtl m.num v

def execSnapshotSave (m : Master) (v : Word) (s : State) : Host.Outcome State Fault Refusal :=
  ok (s.snapCtlWrite m v)

/-- The AUTO interval of 0.1 operating hours each expires (R215). -/
def State.snapAuto (s : State) : State :=
  let a := s.get CAN.SNAP_CTL.AUTO
  if a = 0 ∨ s.inReset ∨ !s.rst.loaded then s
  else
    let s := s.until (s.can.autoAt + a * ms 360000)
    let t : State := { s with can := { s.can with autoAt := s.now } }
    t.snapSave 7

def execSnapshotAuto (s : State) : Host.Outcome State Fault Refusal := ok s.snapAuto

/-- SNAP_STAT shows the stored snapshot (R215, R405). -/
def State.syncSnap (s : State) : State :=
  (s.put CAN.SNAP_STAT.VALID s.nvm.snap.isSome).set CAN.SNAP_STAT.SLOTS ((s.nvm.snap.map fun r => r.slots.length).getD 0)

/-- The running save ends: it replaces the stored snapshot, or leaves it (R215, R395). -/
def State.snapEnd (s : State) (stored : Bool) : State :=
  match s.nvm.queue with
  | [] => s
  | q :: rest =>
    if q.region ≠ rgSnap then s
    else if stored then
      let t : State := { s with nvm := { s.nvm.renew rgSnap with queue := rest, snap := q.snap } }
      ((t.syncNvm.syncSnap.set CAN.SNAP_STAT.RESULT 1).nvmEnd 7 rgSnap 1).fire 0x20 CAN.src.SNAP_DONE {}
    else
      let t : State := { s with nvm := { s.nvm with queue := rest } }
      ((t.syncNvm.set CAN.SNAP_STAT.RESULT 3).nvmEnd 7 rgSnap 6).fire 0x20 CAN.src.SNAP_FAIL {}

def execSnapshotSaveDone (ok : Bool) (s : State) : Host.Outcome State Fault Refusal := Machine.ok (s.snapEnd ok)

end Sys2Proof.Machine
end

