-- ==== Sys2Proof/Machine/LoopOps.lean ====
section
/-! DEFINITION. The arithmetic of a Clover loop, its matrices, the injector's waveforms and the symbol grid of a port (R234 to R237,
R242, R246, R281, R282). Signals are Q3.28 numbers, held as integers. -/
namespace Sys2Proof.Machine
open Sys2Proof

/-! Q3.28 -/

/-- Saturation at the Q3.28 limits (R235). -/
def satQ (z : Int) : Int := clampInt (-2147483648) 2147483647 z

/-- A quotient of which the spec does not state the rounding. (DESIGN CHOICE: log 45) -/
def divQ (a b : Int) : Int := a / b + (if a % b = 0 then 0 else if Config.roundUp a b then 1 else 0)

/-- Product, and sum of a list, each operation saturating (R235). -/
def mulQ (a b : Int) : Int := satQ (divQ (a * b) 268435456)
def addQ (a b : Int) : Int := satQ (a + b)

/-- Inner product in order of index. -/
def dotQ (a b : List Int) : Int := (a.zip b).foldl (fun acc p => addQ acc (mulQ p.1 p.2)) 0

/-- A level in 0.01 dB as a signal: its value divided by 16 (R235). -/
def ofCenti (z : Int) : Int := satQ (divQ (z * 268435456) 1600)

/-! Matrices -/

/-- A word of the default set: the output limits as given, the others as ROM holds them (R236, R451). -/
def romWord (alc : Bool) (w : Nat) : Nat :=
  if w = 136 then (if alc then 0 else 0xB0000000)
  else if w = 137 then (if alc then 0x3FC00000 else 0x3C000000)
  else if w = 138 ∨ w = 139 then 0
  else Config.rom ((if alc then 160 else 0) + w) % 2 ^ 32

/-- A word of a loop's matrix block in the shadow or the live bank (R236). -/
def State.matWord (s : State) (l : Nat) (live : Bool) (w : Nat) : Nat :=
  let v := Tab.get 0 s.mat (320 * l + (if live then 160 else 0) + w)
  if v = 0 then romWord (512 ≤ l) w else v - 1

/-- A live matrix entry as a number. -/
def State.mq (s : State) (l w : Nat) : Int := sext 32 (s.matWord l true w)

/-- Live words `lo`, `lo + step`, …, `n` of them. -/
def State.mrow (s : State) (l lo step n : Nat) : List Int := (List.range n).map fun k => s.mq l (lo + step * k)

/-- A matrix commit copies words 0 to 139 into the live bank (R245). -/
def State.matCopy (s : State) (l : Nat) : State := { s with mat := Tab.copy 0 s.mat (320 * l) (320 * l + 160) 140 }

/-! Loops -/

/-- A loop. -/
def State.loop (s : State) (l : Nat) : Loop := Tab.get {} s.loops l

/-- A loop changed. -/
def State.modLoop (s : State) (l : Nat) (f : Loop → Loop) : State := { s with loops := Tab.upd {} s.loops l f }

/-- The eight observer states. -/
def Loop.states (x : Loop) : List Int := (List.range 8).map fun k => x.xh.getD k 0

/-- The slots that name a transmit channel on a valid branch. -/
def State.naming (s : State) (p : Nat) : List Nat := s.active.filter fun i => (s.branches i).contains p

/-- A loop is held (R237). -/
def State.loopHeld (s : State) (l : Nat) : Bool :=
  (s.loop l).y0.isNone ||
    if l < 512 then s.get (SLP.SLOT_STAT.HOLD l) != 0 || s.get (SLP.SLOT_STAT.STATE l) < stRampUp || stHeld < s.get (SLP.SLOT_STAT.STATE l)
    else !s.portOpen (l - 512) ||
      !((s.naming (l - 512)).any fun i => s.get (SLP.SLOT_STAT.STATE i) == stRampUp || s.get (SLP.SLOT_STAT.STATE i) == stOn)

/-- The injection on a point of a loop: 0 ref0, 1 ref1, 2 u0, 3 u1 (R246). -/
def State.injOn (s : State) (l pt : Nat) : Int :=
  if s.flag CAP.INJ_CTL.ACTIVE ∧ s.get CAP.INJ_CTL.LOOP = l ∧ s.get CAP.INJ_CTL.POINT = pt then s.clv.inj else 0

/-- A reference of a loop with any injection. -/
def State.loopRef (s : State) (l k : Nat) : Int :=
  addQ (sext 32 (s.get (if k = 0 then CLV.LOOP_REF0.VALUE l else CLV.LOOP_REF1.VALUE l))) (s.injOn l k)

/-- An output between its limits, with any injection on it (R235, R246). -/
def State.limited (s : State) (l k : Nat) (u : Int) : Int :=
  clampInt (s.mq l (136 + 2 * k)) (s.mq l (137 + 2 * k)) (addQ u (s.injOn l (2 + k)))

/-- What an automatic loop's output k comes to before its limits: −K·x̂ + N·ref + KI·z (R235). -/
def State.openLoop (s : State) (l k : Nat) (z : Int) : Int :=
  let x := s.loop l
  let refs := [s.loopRef l 0, s.loopRef l 1]
  addQ (addQ (satQ (-(dotQ (s.mrow l (112 + 8 * k) 1 8) x.states))) (dotQ (s.mrow l (128 + 2 * k) 1 2) refs)) (mulQ (s.mq l (132 + k)) z)

/-- The integrator value at which u0 equals `g`; none where KI[0] is 0 or the value lies outside the range (R242).
(DESIGN CHOICE: log 45) -/
def State.presetZ (s : State) (l : Nat) (g : Int) : Option Int :=
  let ki := s.mq l 132
  if ki = 0 then none
  else
    let refs := [s.loopRef l 0, s.loopRef l 1]
    let n := addQ (addQ g (dotQ (s.mrow l 112 1 8) (s.loop l).states)) (satQ (-(dotQ (s.mrow l 128 1 2) refs)))
    let z := divQ (n * 268435456) ki
    if satQ z = z then some z else none

/-- One period of a loop: outputs, observer and integrator. A manual loop's outputs are LOOP_MAN0 and LOOP_MAN1, which the limits do not
touch, but for an output with an injection on it (R235, R241, R246). An invalid measurement contributes nothing. (DESIGN CHOICE: log 45) -/
def State.loopStep (s : State) (l : Nat) : LoopNext :=
  let x := s.loop l
  let auto := s.flag (CLV.LOOP_STAT.MODE_NOW l)
  let raw := fun k => if auto then s.openLoop l k x.z else sext 32 (s.get (if k = 0 then CLV.LOOP_MAN0.VALUE l else CLV.LOOP_MAN1.VALUE l))
  let inj := fun k => s.flag CAP.INJ_CTL.ACTIVE && s.get CAP.INJ_CTL.LOOP == l && s.get CAP.INJ_CTL.POINT == 2 + k
  let out := fun k => if auto || inj k then s.limited l k (raw k) else raw k
  let u0 := out 0
  let u1 := out 1
  let err := fun k (y : Option Int) => match y with | some y => addQ (s.loopRef l k) (-y) | none => 0
  let de := addQ (mulQ (s.mq l 134) (err 0 x.y0)) (mulQ (s.mq l 135) (err 1 x.y1))
  let hi := u0 = s.mq l 137
  let lo := u0 = s.mq l 136
  let push := mulQ (s.mq l 132) de
  let z := if !auto || (hi && 0 < push) || (lo && push < 0) then x.z else addQ x.z de
  let inn := fun k (y : Option Int) => match y with | some y => addQ y (-(dotQ (s.mrow l (96 + 8 * k) 1 8) x.states)) | none => 0
  let is := [inn 0 x.y0, inn 1 x.y1]
  let xh := (List.range 8).map fun i =>
    addQ (addQ (dotQ (s.mrow l (8 * i) 1 8) x.states) (dotQ (s.mrow l (64 + 2 * i) 1 2) [u0, u1])) (dotQ (s.mrow l (80 + 2 * i) 1 2) is)
  { u0 := u0, u1 := u1, xh := xh, z := z, sat := hi || lo || u1 == s.mq l 139 || u1 == s.mq l 138 }

/-! Injection -/

/-- One step of a PRBS register: x^9 + x^5 + 1, or x^15 + x^14 + 1 (R246). -/
def prbsNext (long : Bool) (v : Nat) : Nat :=
  if long then (2 * v + (tbit v 14 != tbit v 13).toNat) % 2 ^ 15 else (2 * v + (tbit v 8 != tbit v 4).toNat) % 2 ^ 9

/-- The phase in turns of a sine or a chirp in its period `n`: a chirp's frequency runs from F0 to F1 over LEN periods, and again (R246). -/
def State.injPhase (s : State) (chirp : Bool) (n : Nat) : Rat :=
  let f0 := s.get CAP.INJ_FREQ.F0
  let len := s.get CAP.INJ_TIME.LEN
  if chirp then
    let k := n % len
    mkRat (f0 * k) 65536 + mkRat (((s.get CAP.INJ_FREQ.F1 : Int) - f0) * k * k) (131072 * len)
  else mkRat (f0 * n) 65536

/-- The value injected in this period (R246). (DESIGN CHOICE: log 46) -/
def State.injNext (s : State) : State :=
  let a := ofCenti (s.get CAP.INJ_AMP.AMP)
  let w := s.get CAP.INJ_CTL.WAVE
  let c := s.clv
  if w = 0 then { s with clv := { c with inj := a, injN := c.injN + 1 } }
  else if w < 3 then
    let long := w = 2
    let r := if c.injN ≠ 0 ∧ c.injN % max 1 (s.get CAP.INJ_TIME.CHIP) = 0 then prbsNext long c.lfsr else c.lfsr
    { s with clv := { c with inj := if tbit r (if long then 14 else 8) then a else -a, injN := c.injN + 1, lfsr := r } }
  else
    { s with clv := { c with inj := roundRat (a * (circle (s.injPhase (w = 4) c.injN)).im), injN := c.injN + 1 } }

/-! The symbol grid -/

/-- The first boundary of a port's symbol grid at the TX ball at or after an instant (R281, R282). -/
def State.gridAt (s : State) (p t : Nat) : Nat :=
  let g := s.get (PWT.PORT_CFG.GRID p)
  let scs := s.get (PWT.PORT_CFG.SCS p)
  let sym := if scs = 0 then 70144 else if scs = 1 then 35072 else 17536
  let anchor : Int := (if g = 0 then (s.tb.frame : Int) else (((s.pat g).fold t).start : Int) - (s.pat g).live.phase) + s.latTicks
  let d := (((t : Int) - anchor) % 491520).toNat
  if d = 0 then t
  else if d ≤ sym + 512 then t + (sym + 512 - d)
  else t + (sym - 1 - (d - sym - 513) % sym)

/-- At a write phase a port whose ALC index differs from INDEX decides a step (R234, R282). -/
def State.pwtDecide (s : State) (p : Nat) : State :=
  let u := sext 32 (s.get (CLV.LOOP_OUT0.VALUE (512 + p)))
  let idx := (clampInt 0 255 ((64 * u + 134217728) / 268435456)).toNat
  if idx = s.get (PWT.PORT_STAT.INDEX p) then s
  else
    let t := s.gridAt p (s.now + us 5)
    ({ s with pwtStepAt := Tab.set 0 s.pwtStepAt p (256 * t + idx + 1) } : State).attQueue p (Tab.get 0 s.pwt (8192 + 256 * p + idx)) t

end Sys2Proof.Machine
end

