-- ==== Sys2Proof/Machine/Governor.lean ====
section
/-! DEFINITION. The Clover period, analysis frames and bin clamps, loop modes and matrices, injection, captures and the indirect views of
the estimates (R218 to R254, R286, R287). -/
namespace Sys2Proof.Machine
open Sys2Proof

/-! Analysis frames -/

/-- The slot's summary follows its estimates: worst valid bin, lowest in-band isolation, valid bins (R221, R225, R250). -/
def State.summary (s : State) (i : Nat) : State :=
  let vs := s.validBins i
  let worst := vs.foldl (fun (b : Option (Nat × Int)) e => match b with
    | none => some (e.1, e.2.lg)
    | some w => if w.2 < e.2.lg then some (e.1, e.2.lg) else b) none
  let iso := ((vs.filter fun e => inBand e.1).map (·.2.iphys))
  let s := (s.set (OBS.SUM0.WORST_LG i) (toField 16 ((worst.map (·.2)).getD 0))).set (OBS.SUM0.WORST_BIN i) ((worst.map (·.1)).getD 0)
  (s.set (OBS.SUM1.IPHYS_MIN i) (toField 16 (iso.foldl min (iso.headD 0)))).set (OBS.SUM1.VALID_BINS i) vs.length

/-- An average goes on with weight 2^−k; the first frame after a restart is taken whole (R220). (DESIGN CHOICE: log 47) -/
def avgTo (first : Bool) (k : Nat) (old x : Int) : Int := if first then x else old + (x - old) / 2 ^ k

/-- A bin's averages go on by a frame's spectra (R220). -/
def Bin.take (b : Bin) (e : BinEst) (first : Bool) (k : Nat) : Bin :=
  let n := fun (x y : Nat) => (avgTo first k x y).toNat
  let z := fun (x y : Int × Int) => (avgTo first k x.1 y.1, avgTo first k x.2 y.2)
  { b with ref := n b.ref e.ref, rx := n b.rx e.rx, res := n b.res e.res, xrx := z b.xrx e.xrx, xres := z b.xres e.xres }

/-- The squared magnitude of a cross-spectrum. -/
def sqMag (z : Int × Int) : Nat := (z.1 * z.1 + z.2 * z.2).toNat

/-- The estimated couplings of a slot's live external aggressors in a bin, in 0.01 dB, where EXT_EN counts them (R187, R222). -/
def State.extCoupling (s : State) (i b : Nat) : List Int :=
  if !s.flag (SLP.GOV_CFG.EXT_EN i) then []
  else ((List.range 4).filter fun a => s.aggUsed i a && s.aggKind i a == 2 && s.flag (CAN.EXT_REF.LIVE (s.aggIndex i a))).map fun a =>
    let xs := (s.cs i).xts.filter fun t => t.agg == a && t.alt == s.flag (CAN.SLOT_INFO.ALT_ACTIVE i)
    response ((xs.map fun t =>
      let k := s.bankAt i t.ext true
      (Tab.range s.can.pool k 64).map fun e => ((64 * t.part : Nat) + ((e.1 - k : Nat) : Int) - 2, (s.cs i).shiftLive.getD a 0, e.2)).flatten) b

/-- The estimate that a bin's averages give: coupling as cross-spectrum over reference power, coherence, and loop gain (R218, R220,
R222). -/
def State.formed (s : State) (i b : Nat) (x : Bin) : Bin :=
  let ieff := -ratioLevel (sqMag x.xres) (x.ref * x.ref)
  let ext := s.extCoupling i b
  let h := if ext.isEmpty then -ieff else levelOf (powerOf (-ieff) + (ext.map powerOf).sum)
  { x with lg := s.binGain i b + h, ieff := ieff, iphys := -ratioLevel (sqMag x.xrx) (x.ref * x.ref)
           coh := min 65535 (sqMag x.xres * 65536 / (x.ref * x.res)), refOk := decide (100000 ≤ x.ref) }

/-- A slot's averages, or those since its first clamp, take a frame; in a hold the slot is silent, and no bin becomes valid (R220, R249). -/
def State.average (s : State) (i k : Nat) (first : Bool) (t : Tab Bin) (est : List BinEst) : Tab Bin :=
  let silent := s.get (SLP.SLOT_STAT.HOLD i) != 0 && s.weightNow i == 0
  est.foldl (fun t e =>
    let b := Tab.get {} t e.bin.val
    let x := s.formed i e.bin (b.take e first k)
    Tab.set {} t e.bin.val { x with refOk := x.refOk && (b.refOk || !silent) }) t

/-- The output powers of a frame's in-band bins: residual power times G(b) as it stands (R291). (DESIGN CHOICE: log 54) -/
def State.outPowers (s : State) (i : Nat) (est : List BinEst) : List (Nat × Nat) :=
  (est.filter fun e => inBand e.bin).map fun e => (e.bin.val, powerOf (ratioLevel e.res (10 ^ 15) + s.binGain i e.bin))

/-- A frame that began at `t0` counts towards the fill and enters the averages: at weight 1/2 for the eight frames after a diversity switch,
at 2^−AVG otherwise. The count of valid bins, once it falls or lies below 256, fails the cap's conditions (R220, R221, R232, R286). -/
def State.takeFrame (s : State) (i t0 : Nat) (est : List BinEst) : State :=
  let g := s.gv i
  let k := if 0 < g.reseed then 1 else s.get OBS.EST_CFG.AVG
  let est' := s.average i k (g.frames == 0) g.est est
  let after := match g.firstAt with
    | some t => decide (t ≤ t0)
    | none => false
  let old := s.get (OBS.SUM1.VALID_BINS i)
  let s := s.modGv i fun g => { g with
    frames := g.frames + 1, reseed := g.reseed - 1, est := est', lastFrame := some s.now
    noise := (g.noise.filter fun x => s.now < x.1 + ms 4) ++ [(s.now, s.outPowers i est)]
    after := if after then s.average i k (g.afterN == 0) g.after est else g.after, afterN := if after then g.afterN + 1 else g.afterN }
  let s := s.put (OBS.SUM1.HIST i) (4 * 2 ^ s.get OBS.EST_CFG.AVG ≤ (s.gv i).frames)
  let s := s.summary i
  let n := s.get (OBS.SUM1.VALID_BINS i)
  s.modGv i fun g => { g with capOk := g.capOk && 256 ≤ n && old ≤ n }

/-- The cut of a clamped bin deepens, and the next SYNTH is wanted at once (R230). -/
def State.clampCut (s : State) (i b : Nat) (lg : Int) : State :=
  let c := min (Tab.get 0 (s.gv i).cut b) (s.cutL i b - (lg + s.margin i))
  let at_ := if c < Tab.get 0 (s.gv i).cut b then Tab.set 0 (s.gv i).cutAt b s.now else (s.gv i).cutAt
  (s.modGv i fun g => { g with cut := Tab.set 0 g.cut b c, cutAt := at_, synthDue := true, lastAt := s.now, firstAt := some (g.firstAt.getD s.now) }).set
    (GOV.SLOT_GOV.URG i) 3

/-- The detail of a clamp's record (R418). -/
def clampDetail (b : Nat) (lg : Int) : List Nat := leBytes 2 b ++ leBytes 2 (toField 16 lg)

/-- A clamp on a slot triggers the captures that wait for it (R247, R248). -/
def State.capTrigger (s : State) (i : Nat) : State := (s.lcapOn 2 i).iqOn 2 i

/-- One bin above −3 dB by an estimate that the clamps of state `z` shaped: the notch that covers it is triggered again, or a notch, or the
broadband clamp, comes into force, or deepens to what the bin needs beyond the attenuation that its estimate already has (R227 to R230).
(DESIGN CHOICE: log 47) -/
def State.clampBin (s z : State) (i b : Nat) (lg : Int) : State :=
  let g := s.gv i
  let t := s.sampleAt i s.now
  let n : Notch := { bin := b, lam := lg - z.firDb i b - z.clampDb i b, at_ := s.now, from_ := t }
  let all := g.est.map fun e => ({ bin := e.1, lam := e.2.lg - z.firDb i e.1 - z.clampDb i e.1, at_ := s.now } : Notch)
  let s := (s.clampCut i b lg).capTrigger i
  if g.notches.any fun x => s.notchCovers i x.bin b then
    (s.modGv i fun g => { g with notches := g.notches.map fun x => if s.notchCovers i x.bin b then { x with at_ := s.now } else x }).syncClamps i
  else if g.notches.length < 8 then
    (((s.modGv i fun g => { g with notches := g.notches ++ [n] }).count GOV.CLAMP_CNT.NOTCH 1).syncClamps i).fire 0x23 GOV.src.CLAMP
      { slot := some i, detail := clampDetail b lg }
  else
    let need := (z.gv i).broad.getD 0 + lg + s.margin i
    let s := if g.broad.isNone then s.count GOV.CLAMP_CNT.BROAD 1 else s
    ((s.modGv i fun g => { g with
      broad := some (max need (g.broad.getD need)), broadFrom := g.broad.getD 0, broadAt := t
      broadBins := (all.filter fun x => x.bin != b) ++ [n] }).syncClamps i).fire 0x23 GOV.src.CLAMP_BROAD { slot := some i, detail := clampDetail b lg }

/-- Oscillation persists: the OSC mute (R286, R287). -/
def State.oscMute (s : State) (i : Nat) : State :=
  if s.flag (GOV.PROT_STAT.OSC i) then s
  else
    let was := s.flag (GOV.PROT_STAT.LATCHED i)
    let s := s.protMute i (GOV.PROT_STAT.OSC i)
    let s := (s.modGv i fun g => { g with oscEnd := s.now + ms (10 * s.get GOV.PROT_CFG.OSC_HOLD) }).countMute i
    (s.latchNote was i).fire 0x23 GOV.src.OSC_MUTE { slot := some i, detail := s.protDetail i }

/-- Oscillation persists: an estimate formed wholly from frames that began after the first clamp came into force, completed 400 µs or more
after its detection, is above −3 dB in a bin (R286). -/
def State.oscDue (s : State) (i : Nat) : Bool :=
  (match (s.gv i).firstAt with | some t => decide (t + us 400 ≤ s.now) | none => false)
    && (s.gv i).after.any fun e => decide (-300 < e.2.lg)

/-- A frame from `t0` to `t1` lies in an interval of the slot's direction (R221, R275). -/
def State.inWindow (s : State) (i t0 t1 : Nat) : Bool :=
  s.tdd i == 0 || ((s.pat (s.tdd i)).live.valid && (s.pat (s.tdd i)).timing && (s.pat (s.tdd i)).holds (s.uplink i).toNat t0 t1)

/-- A fade of 32 samples that ends at `e` overlaps a frame from `t0` to `t1`. -/
def State.fadeIn (s : State) (i t0 t1 e : Nat) : Bool := decide (t0 < e) && decide (e < t1 + 32 * s.sampleT i)

/-- A frame from `t0` to `t1` overlaps a crossfade of the slot, or a fade of a clamp (R221, R228, R229). -/
def State.faded (s : State) (i t0 t1 : Nat) : Bool :=
  let g := s.gv i
  let f := fun t => s.fadeIn i t0 t1 (t + 32 * s.sampleT i)
  s.fadeIn i t0 t1 (s.slot i).xEnd || (0 < g.broadAt && f g.broadAt)
    || (g.notches ++ g.fading).any fun n => f n.from_ || (match n.goneAt with | some u => f u | none => false)

/-- The bins of a frame whose loop gain is above −3 dB, with it (R227). -/
def State.highBins (s : State) (i : Nat) (est : List BinEst) : List (Nat × Int) :=
  (est.map fun e => (e.bin.val, (Tab.get {} (s.gv i).est e.bin.val).lg)).filter fun x => -300 < x.2

/-- The spectra of the frame that begins at `t0`: those that the command gives, with zeros in the bins that it leaves out, or the transforms
of the slot's samples where it gives none (R220). (DESIGN CHOICE: log 47) -/
def State.frameOf (s : State) (i t0 : Nat) (est : List BinEst) : List BinEst :=
  if est.isEmpty then (if s.running i then s.spectra i (t0 / s.sampleT i : Nat) else [])
  else est ++ (List.finRange 512).filterMap fun (b : Fin 512) =>
    if est.any (·.bin == b) || !((s.gv i).est.any fun e => e.1 == b.val) then none
    else some { bin := b, ref := 0, rx := 0, res := 0, xrx := (0, 0), xres := (0, 0) }

/-- The estimate of a frame, whose last sample lies `wait` ticks back, is complete. A frame with an invalid sample restarts the history; one
that overlaps a crossfade or a clamp's fade, or that leaves the slot's interval, is left out; while a hold silences the slot no clamp fires; no frame begins before the last one has ended
(R69, R220, R221, R227, R249, R275, R286). (DESIGN CHOICE: log 40, 47) -/
def State.frameDone (s : State) (i wait : Nat) (invalid : Bool) (est : List BinEst) : State :=
  let t1 := s.now - wait
  let t0 := t1 - 512 * s.sampleT i
  let est := s.frameOf i t0 est
  if !s.running i || s.stopped 0x21 || decide (t0 < (s.gv i).frameEnd) then s
  else
  let s := s.modGv i fun g => { g with frameEnd := t1 }
  if invalid || s.estBad i then s.obsReset i
  else if s.faded i t0 t1 || !s.inWindow i t0 t1 then s
  else
    let s := s.takeFrame i t0 est
    if s.get (SLP.SLOT_STAT.HOLD i) ≠ 0 ∧ s.weightNow i = 0 then s
    else
      let osc := s.oscDue i
      let s := if 4 ≤ (s.gv i).frames then (s.highBins i est).foldl (fun u x => if u.running i then u.clampBin s i x.1 x.2 else u) s else s
      if osc ∧ s.running i then s.oscMute i else s

def execAnalysisFrameComplete (i : Fin 512) (invalid : Bool) (est : List BinEst) (s : State) (wait : Fin 9831 := 0) :
    Host.Outcome State Fault Refusal :=
  ok (s.frameDone i wait invalid est)

/-- OSC_HOLD expires (R287). -/
def State.oscEnd (s : State) (i : Nat) : State :=
  if s.flag (GOV.PROT_STAT.OSC i) then (s.until (s.gv i).oscEnd).protFree i (GOV.PROT_STAT.OSC i) else s

def execOscMuteEnd (i : Fin 512) (s : State) : Host.Outcome State Fault Refusal := ok (s.oscEnd i)

/-- The latch of PROT_SEL's slot ends, and its count restarts (R287). -/
def State.unlatch (s : State) : State :=
  let i := s.get GOV.PROT_SEL.SLOT
  if !s.flag (GOV.PROT_STAT.LATCHED i) then s
  else ((s.modGv i fun g => { g with mutes := [] }).set (GOV.PROT_STAT.MUTES i) 0).protFree i (GOV.PROT_STAT.LATCHED i)

/-- The effect of a write of PROT_CTL (R287, R306). -/
def State.protCtl (s : State) (v : Word) : State := if v.getLsbD 0 then s.unlatch else s

/-- A write of PROT_CTL by a master. -/
def State.protCtlWrite (s : State) (m : Master) (v : Word) : State :=
  s.guarded m 0x2306C v fun t => t.protCtl v

def execProtUnlatch (m : Master) (v : Word) (s : State) : Host.Outcome State Fault Refusal :=
  ok (s.protCtlWrite m v)

/-! Period start -/

/-- Grade of a slot (R225). -/
def State.grade (s : State) (i : Nat) : Nat :=
  let m := s.margin i
  let w := sext 16 (s.get (OBS.SUM0.WORST_LG i))
  let some' := s.get (OBS.SUM1.VALID_BINS i) != 0
  if s.flag (GOV.SLOT_GOV.COLD i) || s.get (GOV.SLOT_GOV.NOTCHES i) != 0 || s.flag (GOV.SLOT_GOV.BROAD i) || (some' && 600 - m < w) then 3
  else if some' && 300 - m < w then 2
  else if some' && -m < w then 1
  else 0

/-- The urgency demand of the slot's loop, rounded down (R225). -/
def State.loopUrgency (s : State) (i : Nat) : Nat := (clampInt 0 3 (sext 32 (s.get (CLV.LOOP_OUT1.VALUE i)) / 268435456)).toNat

/-- The conditions of R232 hold at this period start. -/
def State.capHolds (s : State) (i : Nat) : Bool :=
  let n := s.get (OBS.SUM1.VALID_BINS i)
  s.flag (OBS.SUM1.HIST i) && !s.recordBad i && 256 ≤ n && (s.gv i).capValid ≤ n && sext 16 (s.get (OBS.SUM0.WORST_LG i)) ≤ -s.margin i

/-- An enabled slot at a period start: urgency, and the account of its cap (R225, R232). -/
def State.slotPeriod (s : State) (i : Nat) : State :=
  let s := s.set (GOV.SLOT_GOV.URG i) (max (max (s.grade i) (s.get (SLP.GOV_CFG.URG_MIN i))) (s.loopUrgency i))
  let good := s.capHolds i
  s.modGv i fun g => { g with capN := g.capN + 1, capOk := g.capOk && good, capValid := s.get (OBS.SUM1.VALID_BINS i) }

/-- A pending matrix commit is applied (R245). -/
def State.matApply (s : State) (l : Nat) : State :=
  if s.flag (CLV.LOOP_STAT.MAT_PEND l) then
    (((s.matCopy l).modLoop l fun x => { x with xh := [], z := 0, good := 0, nxt := none }).set (CLV.LOOP_STAT.OBSV l) 0).set (CLV.LOOP_STAT.MAT_PEND l) 0
  else s

/-- A change to automatic is refused (R242). -/
def State.refuseAuto (s : State) (l c : Nat) : State :=
  ((s.set (CLV.LOOP_CTL.MODE l) 0).set (CLV.LOOP_STAT.TREF l) c).fire 0x22 CLV.src.XFER_REFUSED {}

/-- A pending mode change takes effect (R241 to R243). -/
def State.modeApply (s : State) (l : Nat) : State :=
  match (s.loop l).modeAt with
  | none => s
  | some t =>
    if s.now < t + us 1 then s
    else
      let s := s.modLoop l fun x => { x with modeAt := none }
      if s.get (CLV.LOOP_CTL.MODE l) = s.get (CLV.LOOP_STAT.MODE_NOW l) then s
      else if s.flag (CLV.LOOP_STAT.MODE_NOW l) then
        (((s.set (CLV.LOOP_MAN0.VALUE l) (s.get (CLV.LOOP_OUT0.VALUE l))).set (CLV.LOOP_MAN1.VALUE l) (s.get (CLV.LOOP_OUT1.VALUE l))).set
          (CLV.LOOP_STAT.MODE_NOW l) 0).lcapOn 4 l
      else if !s.flag (CLV.LOOP_STAT.OBSV l) then s.refuseAuto l 1
      else if s.mq l 132 = 0 then s.refuseAuto l 2
      else match s.presetZ l (sext 32 (s.get (CLV.LOOP_MAN0.VALUE l))) with
      | none => s.refuseAuto l 3
      | some z => ((s.modLoop l fun x => { x with z := z }).set (CLV.LOOP_STAT.MODE_NOW l) 1).lcapOn 4 l

/-- A slot's record is valid: its history is filled, 256 bins are valid, and where it is TDD a frame lay wholly in its intervals in the
period that ends (R222, R275). -/
def State.recordOk (s : State) (i : Nat) : Bool :=
  s.flag (OBS.SUM1.HIST i) && 256 ≤ s.get (OBS.SUM1.VALID_BINS i)
    && (s.tdd i == 0 || match (s.gv i).lastFrame with | some t => decide (s.now < t + 98304) | none => false)

/-- A loop's measurements are sampled. A slot loop's y0 is λ_agg, the mean of λ(b) weighted by reference power; the observer is valid once
y0 has been valid for 16 whole periods. y1 is there while the record is valid, or a valid dwell on the port's coupler runs; where the
command brings none then, it is a free value (R222, R234, R237). (DESIGN CHOICE: log 47) -/
def State.sample (s : State) (l : Nat) (o : Option LoopObs) : State :=
  let y0 := if 512 ≤ l then (o.bind (·.y0)).map satQ else if s.recordOk l && !s.recordBad l then some (ofCenti (s.binMean l (·.lg))) else none
  let ok := if 512 ≤ l then s.seen (l - 512) 0 || s.seen (l - 512) 1 else y0.isSome
  let (v, t) := s.draw
  let y1 := if ok then some (satQ ((o.bind (·.y1)).getD v)) else none
  let s := if ok && (o.bind (·.y1)).isNone then t else s
  let n := if y0.isSome then min 17 ((s.loop l).good + 1) else 0
  let first := n = 17 ∧ !s.flag (CLV.LOOP_STAT.OBSV l)
  let s := (s.modLoop l fun x => { x with y0 := y0, y1 := y1, good := n, nxt := none, due := false }).put (CLV.LOOP_STAT.OBSV l) (n = 17)
  if first ∧ l < 512 ∧ s.flag (CLV.LOOP_STAT.MODE_NOW l) then
    match s.presetZ l (ofCenti (5 * sext 12 (s.get (SLP.GAIN_STAT.APPLIED l)))) with
    | some z => s.modLoop l fun x => { x with z := z }
    | none => s
  else s

/-- The loop of a slot in PREP to HELD, or of a port that such a slot names, runs in compatibility timing (R239). -/
def State.compatRuns (s : State) (l : Nat) : Bool :=
  if l < 512 then s.enabled.contains l else s.enabled.any fun i => (s.branches i).contains (l - 512)

/-- A loop works out its period (R235, R237 to R239). -/
def State.work (s : State) (l : Nat) : State :=
  let run := !s.flag CLV.TIMING.NOW || s.compatRuns l
  let due := s.flag CLV.TIMING.NOW && run
  let nxt := if run && !s.loopHeld l then some (s.loopStep l) else none
  if nxt.isNone && !due then s else s.modLoop l fun x => { x with nxt := nxt, due := due }

/-- Injection has ended (R246). -/
def State.injClear (s : State) : State :=
  let t : State := { s with clv := { s.clv with injDue := false, injN := 0, inj := 0 } }
  (t.set CAP.INJ_CTL.EN 0).set CAP.INJ_CTL.ACTIVE 0

/-- Injection ends (R246). -/
def State.injEnd (s : State) : State := s.injClear.fire 0x24 CAP.src.INJ_DONE {}

/-- Injection is to end at this period start (R246). -/
def State.injOver (s : State) : Bool :=
  s.flag CAP.INJ_CTL.ACTIVE && s.get CAP.INJ_TIME.LEN != 0 && decide (s.get CAP.INJ_TIME.LEN ≤ s.clv.injN)

/-- The injector at a period start: it begins, goes on or ends. A PRBS register starts at a value that the spec does not give (R246). -/
def State.injPeriod (s : State) : State :=
  if s.pageOff 0x24 then s
  else if s.injOver then s.injClear
  else if s.flag CAP.INJ_CTL.ACTIVE then s.injNext
  else if s.clv.injDue ∧ s.flag CAP.INJ_CTL.EN then
    let (v, s) := s.draw
    let t : State := { s with clv := { s.clv with injDue := false, injN := 0, lfsr := v % 511 + 1 } }
    ((t.set CAP.INJ_CTL.ACTIVE 1).injNext).lcapOn 1 (s.get CAP.INJ_CTL.LOOP)
  else s

/-- A signal of the captured loop (R247). -/
def State.lcapSig (s : State) (code : Nat) : Nat :=
  let l := s.get CAP.LCAP_LOOP.LOOP
  let x := s.loop l
  if code < 8 then toField 32 (x.states.getD code 0)
  else if code = 8 then toField 32 x.z
  else if code = 9 then s.get (CLV.LOOP_REF0.VALUE l)
  else if code = 0xA then s.get (CLV.LOOP_REF1.VALUE l)
  else if code = 0xB then toField 32 (x.y0.getD 0)
  else if code = 0xC then toField 32 (x.y1.getD 0)
  else if code = 0xD then s.get (CLV.LOOP_OUT0.VALUE l)
  else if code = 0xE then s.get (CLV.LOOP_OUT1.VALUE l)
  else if s.get CAP.INJ_CTL.LOOP = l then toField 32 s.clv.inj else 0

/-- Signals that a period stores, and periods that the memory holds (R247). -/
def State.lcapSigs (s : State) : List Nat :=
  ([CAP.LCAP_SIG.SIG0, CAP.LCAP_SIG.SIG1, CAP.LCAP_SIG.SIG2, CAP.LCAP_SIG.SIG3].take (2 ^ s.get CAP.LCAP_CTL.NSIG)).map s.get
def State.lcapPeriods (s : State) : Nat := 16384 / 2 ^ s.get CAP.LCAP_CTL.NSIG

/-- The loop capture is complete: word 0 holds the first signal of the oldest period (R247). (DESIGN CHOICE: log 46) -/
def State.lcapDone (s : State) : State :=
  let c := s.clv
  let n := min c.lcapN s.lcapPeriods
  let first := (c.lcapPos + 16384 - n * 2 ^ s.get CAP.LCAP_CTL.NSIG) % 16384
  let mem := c.lcap.foldl (fun t e => Tab.set 0 t ((e.1 + 16384 - first) % 16384) e.2) []
  let t : State := { s with clv := { c with lcap := mem, lcapPos := 0, lcapN := 0, lcapLeft := none } }
  (((t.set CAP.LCAP_CTL.ARMED 0).set CAP.LCAP_CTL.DONE 1).set CAP.LCAP_STAT.PERIOD (s.get CLV.PERIOD.COUNT + 1 + 2 ^ 32 - n)).fire 0x24
    CAP.src.LCAP_DONE {}

/-- The loop capture's trigger takes effect: PRE periods from before it are kept, and the rest of the memory is filled (R247). -/
def State.lcapTake (s : State) : State :=
  if s.flag CAP.LCAP_CTL.ARMED ∧ s.clv.lcapHit ∧ s.clv.lcapLeft.isNone then
    { s with clv := { s.clv with lcapLeft := some (s.lcapPeriods - min (s.get CAP.LCAP_CTL.PRE) s.clv.lcapN) } }
  else s

/-- The loop capture at a period start (R247). -/
def State.lcapPeriod (s : State) : State :=
  if !s.flag CAP.LCAP_CTL.ARMED || s.pageOff 0x24 then s
  else
    let s := s.lcapTake
    let ws := s.lcapSigs.map s.lcapSig
    let c := s.clv
    let mem := (List.range ws.length).foldl (fun t k => Tab.set 0 t ((c.lcapPos + k) % 16384) (ws.getD k 0)) c.lcap
    let t : State := { s with clv := { c with
      lcap := mem, lcapPos := (c.lcapPos + ws.length) % 16384, lcapN := c.lcapN + 1, lcapLeft := c.lcapLeft.map (· - 1) } }
    if t.clv.lcapLeft = some 0 then t.lcapDone else t

/-- ref0 of every slot loop is written with −M_s (R234). -/
def State.writeRefs (s : State) : State :=
  (List.range 512).foldl (fun s i => s.set (CLV.LOOP_REF0.VALUE i) (toField 32 (ofCenti (-s.margin i)))) s

/-- A loop's place in the order of deadlines (R239). -/
def State.before (s : State) (l : Nat) : List Nat → List Nat
  | [] => [l]
  | k :: t => if s.get (CLV.LOOP_CTL.DEADLINE k) ≤ s.get (CLV.LOOP_CTL.DEADLINE l) then k :: s.before l t else l :: k :: t

/-- The loops that run in compatibility timing, the earliest deadline first, the lower number of equals (R239). -/
def State.edfOrder (s : State) : List Nat :=
  if s.flag CLV.TIMING.NOW then ((List.range 544).filter s.compatRuns).foldl (fun o l => s.before l o) [] else []

/-- Clover's part of a period start: timing, matrix and mode requests, measurements and the loops' work (R235 to R247). -/
def State.cloverStart (s : State) (obs : List LoopObs) : State :=
  let s := (s.set CLV.TIMING.NOW (s.get CLV.TIMING.MODE)).set CLV.TIMING.PEND 0
  let ended := s.injOver && !s.pageOff 0x24
  let s := s.writeRefs.injPeriod
  let loops := List.range 544
  let s := loops.foldl (fun s l => s.matApply l) s
  let s := loops.foldl (fun s l => s.sample l (obs.find? fun o => o.loop.val == l)) s
  let s := loops.foldl (fun s l => s.modeApply l) s
  let s := (loops.foldl (fun s l => s.work l) s).lcapPeriod
  let s := { s with clv := { s.clv with order := s.edfOrder } }
  if ended then s.fire 0x24 CAP.src.INJ_DONE {} else s

/-- A 100 µs boundary; while the clocks are gated nothing runs at it (R79, R202, R225, R238). -/
def State.periodStart (s : State) (obs : List LoopObs) : State :=
  if s.inReset then s
  else if s.clocksGated then s.until (s.periodAt (max s.now (s.clv.start + 1)))
  else
    let s := s.until (s.periodAt (max s.now (s.clv.start + 1)))
    let t : State := { s with clv := { s.clv with start := s.now, writeDue := true } }
    let s := if t.pageOff 0x23 then t else t.enabled.foldl (fun s i => s.slotPeriod i) t
    let s := if s.pageOff 0x22 then s else (s.wrap CLV.PERIOD.COUNT).cloverStart obs
    if s.inReset || s.resetting 0x20 then s else s.launch

def execCloverPeriodStart (obs : List LoopObs) (s : State) : Host.Outcome State Fault Refusal := ok (s.periodStart obs)

/-! Write phase -/

/-- A loop's outputs and state are written (R235, R238, R239). -/
def State.writeLoop (s : State) (l : Nat) : State :=
  match (s.loop l).nxt with
  | none => s
  | some x =>
    let s := s.modLoop l fun y => { y with xh := x.xh, z := x.z, nxt := none }
    ((s.set (CLV.LOOP_OUT0.VALUE l) (toField 32 x.u0)).set (CLV.LOOP_OUT1.VALUE l) (toField 32 x.u1)).put (CLV.LOOP_STAT.SAT l) x.sat

/-- The cold-start cap at a write phase: it rises 1 dB at the end of its count, and is retired at the lower of TARGET and the regulatory
maximum (R232, R233). (DESIGN CHOICE: log 45) -/
def State.capStep (s : State) (i : Nat) : State :=
  match (s.gv i).cap with
  | none => s
  | some c =>
    let n := if s.flag (GOV.SLOT_GOV.WARMR i) then 10 else 100
    let g := s.gv i
    let s := if n ≤ g.capN then
        (if g.capOk then s.setCap i (c + 20) else s.modGv i fun g => { g with capN := 0, capOk := true })
      else s
    let top := match s.regMax i with | some r => min (s.targetGain i) r | none => s.targetGain i
    match (s.gv i).cap with
    | some c => if top ≤ 5 * c then s.retireCap i else s
    | none => s

/-- A slot's write phase: its cap, then its gain (R16, R172, R232). -/
def State.slotWrite (s : State) (i : Nat) : State := if s.enabled.contains i then (s.capStep i).applyGain i else s

/-- 75 µs into a period of native timing: every output is written, every slot's gain follows, and the indices pass to PWT (R172, R238,
R282). -/
def State.writePhase (s : State) : State :=
  if !s.clv.writeDue || s.stopped 0x22 then s
  else
    let s := s.until (s.clv.start + 73728)
    let t : State := { s with clv := { s.clv with writeDue := false } }
    if t.flag CLV.TIMING.NOW then t
    else
      let s := (List.range 544).foldl (fun s l => s.writeLoop l) t
      let s := s.enabled.foldl (fun s i => s.slotWrite i) s
      (List.range 32).foldl (fun s p => s.pwtDecide p) s

def execCloverWritePhase (s : State) : Host.Outcome State Fault Refusal := ok s.writePhase

/-- The lane that serves a loop in compatibility timing: free lanes take the loops in the order of their deadlines, the lower lane first
(R239). (DESIGN CHOICE: log 45) -/
def State.laneOf (s : State) (l : Nat) : Nat := s.clv.order.idxOf l % 4
/-- The cycle of the period at which a loop completes in compatibility timing: the four lanes start at cycle 4,096 and take 120 cycles for a
loop (R239). -/
def State.doneCycle (s : State) (l : Nat) : Nat := 4096 + 120 * (s.clv.order.idxOf l / 4 + 1)

/-- A loop completes in compatibility timing: it writes its outputs, or, after its deadline, misses it (R239). (DESIGN CHOICE: log 45) -/
def State.compatDone (s : State) (l : Nat) : State :=
  if !s.flag CLV.TIMING.NOW || !(s.loop l).due || s.stopped 0x22 then s
  else
  let late := s.get (CLV.LOOP_CTL.DEADLINE l) * 98304 < 200 * s.doneCycle l
  let s := s.until (s.clv.start + 2 * s.doneCycle l)
  if late then
    let s := s.modLoop l fun x => { x with due := false, nxt := none }
    ((s.putBit (CLV.MISS.MISS (l / 32)) (l % 32) true).set (CLV.LOOP_STAT.MISS l) 1).lcapOn 3 l |>.fire 0x22 CLV.src.LOOP_MISS {}
  else
    let s := (s.writeLoop l).modLoop l fun x => { x with due := false }
    if l < 512 then s.slotWrite l else s.pwtDecide (l - 512)

/-- A lane completes the loop that it serves, and no other. -/
def execCompatLoopComplete (l : Fin 544) (lane : Fin 4) (s : State) : Host.Outcome State Fault Refusal :=
  ok (if s.laneOf l = lane then s.compatDone l else s)

/-! Loop control -/

/-- Changes of a loop's coefficients are refused (R244). -/
def State.coefLocked (s : State) (l : Nat) : Bool :=
  s.flag (CLV.LOOP_STAT.MODE_NOW l) || ((s.loop l).modeAt.isSome && s.flag (CLV.LOOP_CTL.MODE l)) || s.flag CLV.MAT_ADDR.BANK

/-- A change of coefficients is refused (R244). -/
def State.coefRefuse (s : State) (m l : Nat) : State := (s.set (CLV.LOOP_STAT.CREF l) 1).fire 0x22 CLV.src.COEF_REFUSED { master := m }

/-- The effect of a write of LOOP_CTL of loop `l`; one whose MAT_COMMIT is refused has no effect (R241, R244, R245). -/
def State.loopCtl (s : State) (m l : Nat) (v : Word) : State :=
  if v.getLsbD 8 && s.coefLocked l then s.coefRefuse m l
  else
  let s := if v.getLsbD 8 then s.set (CLV.LOOP_STAT.MAT_PEND l) 1 else s
  let mode := (v.getLsbD 0).toNat
  let s := if s.get (CLV.LOOP_CTL.MODE l) = mode then s
    else s.modLoop l fun x => { x with modeAt := if mode = s.get (CLV.LOOP_STAT.MODE_NOW l) then none else some s.now }
  (s.set (CLV.LOOP_CTL.MODE l) mode).set (CLV.LOOP_CTL.DEADLINE l) ((CLV.LOOP_CTL.DEADLINE l).of v)

/-- The loop that LOOP_SEL names. -/
def State.selLoop (s : State) : Nat := s.get CLV.LOOP_SEL.LOOP

/-- A write of LOOP_CTL by a master. -/
def State.loopCtlWrite (s : State) (m : Master) (v : Word) : State :=
  s.guardedBy m 0x2204C v (fieldsAt (0x100000 + 0x40 * s.selLoop)) true fun t => t.loopCtl m.num t.selLoop v

def execLoopModeWrite (m : Master) (v : Word) (s : State) : Host.Outcome State Fault Refusal := Machine.ok (s.loopCtlWrite m v)

def execMatCommit (m : Master) (v : Word) (s : State) : Host.Outcome State Fault Refusal := Machine.ok (s.loopCtlWrite m v)

/-- MAT_ADDR.WORD steps on after an access (R253). -/
def State.matNext (s : State) : State := s.set CLV.MAT_ADDR.WORD ((s.get CLV.MAT_ADDR.WORD + 1) % 160)

/-- What MAT_DATA reads: a matrix word, the observer or the integrator of the live bank; reserved words read 0 (R236, R244). -/
def State.matData (s : State) : Nat :=
  let l := s.selLoop
  let w := s.get CLV.MAT_ADDR.WORD
  let live := s.flag CLV.MAT_ADDR.BANK
  if w < 140 then s.matWord l live w
  else if live ∧ w < 148 then toField 32 ((s.loop l).states.getD (w - 140) 0)
  else if live ∧ w = 148 then toField 32 (s.loop l).z
  else 0

/-- A write of MAT_DATA: refused while the loop is closed, ignored at a reserved word (R244). -/
def State.matWrite (s : State) (m : Nat) (v : Word) : State :=
  let l := s.selLoop
  let w := s.get CLV.MAT_ADDR.WORD
  if s.coefLocked l then s.coefRefuse m l
  else
    let t : State := if w < 140 then { s with mat := Tab.set 0 s.mat (320 * l + w) (v.toNat + 1) } else s
    t.matNext

/-- A write of MAT_DATA by a master. (DESIGN CHOICE: log 42) -/
def State.matDataWrite (s : State) (m : Master) (v : Word) : State :=
  s.guarded m 0x22070 v fun t => t.matWrite m.num v

def execMatDataAccess (m : Master) (write : Bool) (v : Word) (s : State) : Host.Outcome State Fault Refusal :=
  Machine.ok (if write then s.matDataWrite m v else s.ask.readBy m 0x22070 State.matData State.matNext)

/-- The effect of a write of TIMING (R240). -/
def State.timing (s : State) (v : Word) : State :=
  let s := s.writeReg 0x22040 v
  s.put CLV.TIMING.PEND (s.get CLV.TIMING.MODE != s.get CLV.TIMING.NOW)

/-- A write of TIMING by a master. -/
def State.timingWrite (s : State) (m : Master) (v : Word) : State :=
  s.guarded m 0x22040 v fun t => t.timing v

def execTimingModeWrite (m : Master) (v : Word) (s : State) : Host.Outcome State Fault Refusal :=
  .next (s.timingWrite m v)

/-! Injection and captures -/

/-- The effect of a write of INJ_CTL: EN = 1 starts injection at the next period start, EN = 0 ends it (R246, R254). -/
def State.injCtl (s : State) (v : Word) : State :=
  let was := s.flag CAP.INJ_CTL.EN
  let s := s.writeReg 0x24040 v
  if s.flag CAP.INJ_CTL.ACTIVE ∧ v.getLsbD 0 = false then s.injEnd
  else
  let t : State := { s with clv := { s.clv with injDue := v.getLsbD 0 && (s.clv.injDue || !was) } }
  t

/-- A write of INJ_CTL by a master. -/
def State.injCtlWrite (s : State) (m : Master) (v : Word) : State :=
  s.guarded m 0x24040 v fun t => t.injCtl v

def execInjectionStart (m : Master) (v : Word) (s : State) : Host.Outcome State Fault Refusal :=
  Machine.ok (s.injCtlWrite m v)

/-- The period start at which an injection ends (R246). -/
def execInjectionEnd (s : State) : Host.Outcome State Fault Refusal :=
  Machine.ok (if s.injOver && !s.stopped 0x24 then (s.until (s.periodAt (max s.now (s.clv.start + 1)))).injEnd else s)

/-- The largest PRE of LCAP_CTL is 16,384 over the signals, less 1 (R254). -/
def lcapPreOk (v : Word) : Bool := CAP.LCAP_CTL.PRE.of v < 16384 / 2 ^ CAP.LCAP_CTL.NSIG.of v

/-- The effect of a write of LCAP_CTL (R247). -/
def State.lcapCtl (s : State) (v : Word) : State :=
  let s := s.writeReg 0x24050 v
  if v.getLsbD 0 then
    let t : State := { s with clv := { s.clv with
      lcap := [], lcapPos := 0, lcapN := 0, lcapLeft := none, lcapHit := s.get CAP.LCAP_CTL.TRIG == 0 } }
    (t.set CAP.LCAP_CTL.DONE 0).set CAP.LCAP_CTL.ARMED 1
  else s

/-- A write of LCAP_CTL by a master. -/
def State.lcapCtlWrite (s : State) (m : Master) (v : Word) : State :=
  s.guardedBy m 0x24050 v (fieldsAt 0x24050) (lcapPreOk v) fun t => t.lcapCtl v

def execLoopCaptureArm (m : Master) (v : Word) (s : State) : Host.Outcome State Fault Refusal := .next (s.lcapCtlWrite m v)

/-- The trigger that TRIG chose has come (R247). -/
def execLoopCaptureTrigger (s : State) : Host.Outcome State Fault Refusal := .next (if s.stopped 0x24 then s else s.lcapTake)

/-- The effect of a write of IQ_CTL (R248). (DESIGN CHOICE: log 46) -/
def State.iqCtl (s : State) (v : Word) : State :=
  let s := s.writeReg 0x24070 v
  if v.getLsbD 0 then
    let t : State := { s with clv := { s.clv with iqAt := s.now, iqTrig := if s.get CAP.IQ_CTL.TRIG = 0 then some s.now else none } }
    (t.set CAP.IQ_CTL.DONE 0).set CAP.IQ_CTL.ARMED 1
  else s

/-- A write of IQ_CTL by a master. -/
def State.iqCtlWrite (s : State) (m : Master) (v : Word) : State :=
  s.guarded m 0x24070 v fun t => t.iqCtl v

def execIqCaptureArm (m : Master) (v : Word) (s : State) : Host.Outcome State Fault Refusal :=
  .next (s.iqCtlWrite m v)

/-- Ticks that `sixteenths` of the buffer span at the slot's working rate (R248). -/
def State.iqSpan (s : State) (sixteenths : Nat) : Nat :=
  sixteenths * 131072 / (if s.flag CAP.IQ_CTL.TWO then 2 else 1) * s.sampleT (s.get CAP.IQ_CTL.SLOT)

/-- The trigger that TRIG chose, and the fill of the buffer after it: DONE, IQ_STAT and the time of the oldest sample as R180 defines it for
POINTA. Where in the circular buffer that sample lies is not stated (R248). (DESIGN CHOICE: log 46) -/
def State.iqTrigger (s : State) : State :=
  match s.flag CAP.IQ_CTL.ARMED && !s.stopped 0x24, s.clv.iqTrig with
  | true, some trig =>
    let pre := s.get CAP.IQ_CTL.PRE
    let i := s.get CAP.IQ_CTL.SLOT
    let oldest := max s.clv.iqAt (trig - s.iqSpan pre)
    let s := s.until (trig + s.iqSpan (16 - pre))
    let time := s.pointTime i (s.get CAP.IQ_CTL.POINTA) ((s.now - oldest) / s.sampleT i)
    let (v, s) := s.draw
    let t : State := { s with clv := { s.clv with
      iqId := s.clv.iqId + 1, iqTrig := none, iqTime := time, iqSlot := i, iqA := s.get CAP.IQ_CTL.POINTA
      iqB := if s.flag CAP.IQ_CTL.TWO then some (s.get CAP.IQ_CTL.POINTB) else none, iqFirst := oldest / s.sampleT i } }
    (((t.set CAP.IQ_CTL.ARMED 0).set CAP.IQ_CTL.DONE 1).set CAP.IQ_STAT.START v).fire 0x24 CAP.src.IQ_DONE {}
  | _, _ => s

def execIqCaptureTrigger (s : State) : Host.Outcome State Fault Refusal := ok s.iqTrigger

/-- Sample word of the capture buffer, counted from the oldest sample's: with two points even words hold POINTA and odd words POINTB of one
instant; 0 while ARMED and before the first capture (R248). (DESIGN CHOICE: log 46) -/
def State.iqWord (s : State) (w : Nat) : Nat :=
  let c := s.clv
  let k := (w + 2097152 - s.get CAP.IQ_STAT.START) % 2097152
  if s.flag CAP.IQ_CTL.ARMED || c.iqId == 0 then 0
  else (match c.iqB with
    | some b => (s.pointStream c.iqSlot (if k % 2 = 0 then c.iqA else b) (c.iqFirst + k / 2 : Nat)).word
    | none => (s.pointStream c.iqSlot c.iqA (c.iqFirst + k : Nat)).word)

/-- What LCAP_DATA reads (R247). -/
def State.lcapWord (s : State) : Nat := if s.flag CAP.LCAP_CTL.ARMED then 0 else Tab.get 0 s.clv.lcap (s.get CAP.LCAP_ADDR.WORD)
def State.lcapNext (s : State) : State := s.set CAP.LCAP_ADDR.WORD (s.get CAP.LCAP_ADDR.WORD + 1)

def execLcapDataRead (m : Master) (s : State) : Host.Outcome State Fault Refusal :=
  .next (s.ask.readBy m 0x24060 State.lcapWord State.lcapNext)

/-- What IQ_DATA reads (R248). -/
def State.iqData (s : State) : Nat := s.iqWord (s.get CAP.IQ_ADDR.WORD)
def State.iqNext (s : State) : State := s.set CAP.IQ_ADDR.WORD (s.get CAP.IQ_ADDR.WORD + 1)

def execIqDataRead (m : Master) (s : State) : Host.Outcome State Fault Refusal :=
  .next (s.ask.readBy m 0x24084 State.iqData State.iqNext)

/-! Indirect views -/

/-- The bin that BIN_SEL names. -/
def State.selBin (s : State) : Bin := Tab.get {} (s.gv (s.get OBS.BIN_SEL.SLOT)).est (s.get OBS.BIN_SEL.BIN)

/-- A level in 0.01 dB as a 16-bit field, saturating. -/
def field16 (z : Int) : Nat := toField 16 (clampInt (-32768) 32767 z)

/-- The words of BIN_DATA0 and BIN_DATA1 (R250). -/
def State.binWord0 (s : State) : Nat := field16 s.selBin.lg * 65536 + field16 s.selBin.ieff
def State.binWord1 (s : State) : Nat :=
  let i := s.get OBS.BIN_SEL.SLOT
  let b := s.get OBS.BIN_SEL.BIN
  let st := Tab.get 4 (s.gv i).step b
  field16 s.selBin.iphys * 65536 + min 255 (s.selBin.coh * 255 / 65536) * 256 + (s.binOk i s.selBin).toNat * 128
    + ((s.gv i).notches.any fun n => s.notchCovers i n.bin b).toNat * 64 + (if st = 4 then 0 else if st = 2 then 16 else 32)

/-- A read of BIN_DATA0 latches BIN_DATA1; a read of BIN_DATA1 steps BIN on (R250). (DESIGN CHOICE: log 15) -/
def State.binLatch (s : State) : State := s.writeFlds [{ OBS.BIN_DATA1.IPHYS with acc := .rw }, { OBS.BIN_DATA1.COH with acc := .rw },
  { OBS.BIN_DATA1.VALID with acc := .rw }, { OBS.BIN_DATA1.NOTCHED with acc := .rw }, { OBS.BIN_DATA1.STEP with acc := .rw }] (BitVec.ofNat 32 s.binWord1)
def State.binNext (s : State) : State := s.set OBS.BIN_SEL.BIN (s.get OBS.BIN_SEL.BIN + 1)

def execBinDataRead (m : Master) (second : Bool) (s : State) : Host.Outcome State Fault Refusal :=
  .next (if second then s.ask.readBy m 0x21048 (fun t => t.assemble (fieldsAt 0x21048)) State.binNext
    else s.ask.readBy m 0x21044 State.binWord0 State.binLatch)

/-- The words of SUM0 and SUM1 of BIN_SEL's slot (R250). -/
def State.sumWord0 (s : State) : Nat := s.assemble (fieldsAt (0x120000 + 0x80 * s.get OBS.BIN_SEL.SLOT + 0xC))
def State.sumWord1 (s : State) : Nat := s.assemble (fieldsAt (0x120000 + 0x80 * s.get OBS.BIN_SEL.SLOT + 0x10))

/-- A read of SUM0 latches SUM1 (R250). (DESIGN CHOICE: log 15) -/
def State.sumLatch (s : State) : State := { s with clv := { s.clv with sum1 := s.sumWord1 } }

def execObsSumRead (m : Master) (s : State) : Host.Outcome State Fault Refusal :=
  .next (s.ask.readBy m 0x21050 State.sumWord0 State.sumLatch)

/-- What SUB_DATA reads: the owner's gain and the governor's cut of the bin that SUB_SEL names (R251). -/
def State.subWord (s : State) : Nat :=
  let g := s.gv (s.get GOV.SUB_SEL.SLOT)
  let b := s.get GOV.SUB_SEL.BIN
  Tab.get 0 g.owner b * 65536 + toField 12 (clampInt (-2047) 2047 (Tab.get 0 g.cut b / 5))

/-- SUB_SEL.BIN steps on after an access (R251). -/
def State.subNext (s : State) : State := s.set GOV.SUB_SEL.BIN (s.get GOV.SUB_SEL.BIN + 1)

/-- A write of SUB_DATA sets OWNER, and the next SYNTH of an enabled slot carries it (R224, R251). -/
def State.subWrite (s : State) (v : Word) : State :=
  let i := s.get GOV.SUB_SEL.SLOT
  let b := s.get GOV.SUB_SEL.BIN
  let on := s.enabled.contains i
  (s.modGv i fun g => { g with owner := Tab.set 0 g.owner b (GOV.SUB_DATA.OWNER.of v), ownerNew := on, synthDue := g.synthDue || on }).subNext

/-- A write of SUB_DATA by a master. -/
def State.subDataWrite (s : State) (m : Master) (v : Word) : State :=
  s.guarded m 0x23054 v fun t => t.subWrite v

def execSubDataAccess (m : Master) (write : Bool) (v : Word) (s : State) : Host.Outcome State Fault Refusal :=
  .next (if write then s.subDataWrite m v else s.ask.readBy m 0x23054 State.subWord State.subNext)

end Sys2Proof.Machine
end

