-- ==== Sys2Proof/Machine/FrontEnd.lean ====
section
/-! DEFINITION. The timed-event sequencers and the RFFE buses (R255 to R265). -/
namespace Sys2Proof.Machine
open Sys2Proof

/-! Tables -/

/-- Fields of a sequencer entry's first word (R256). -/
def eValid (w : Nat) : Bool := tbit w 31
def eRef (w : Nat) : Nat := bits w 28 3
def ePat (w : Nat) : Nat := bits w 24 4
def eTx (w : Nat) : Bool := tbit w 23
def eAct (w : Nat) : Nat := bits w 20 3
def eTarget (w : Nat) : Nat := bits w 0 8

/-- The first word carries no reserved value (R256). (DESIGN CHOICE: log 18) -/
def entryOk (w : Nat) : Bool :=
  eRef w ≤ 4 && (eRef w == 0) == (ePat w == 0) && eAct w ≤ 2 && (eAct w == 2 || eTarget w < 32)

/-- The second word carries no reserved value beside a first word (R256). -/
def offsetOk (w0 w1 : Nat) : Bool :=
  if eRef w0 = 0 then w1 < 983040 else decide (-983040 ≤ sext 32 w1) && decide (sext 32 w1 ≤ 9830399)

/-- The entry that SEQ_SEL names. -/
def State.seqSel (s : State) (k : Nat) : Nat := s.get (FEC.SEQ_SEL.ENTRY k)

/-- ENTRY steps on after an access of SEQ_DATA1 (R255). -/
def State.seqNext (s : State) (k w : Nat) : State := if w = 1 then s.set (FEC.SEQ_SEL.ENTRY k) (s.seqSel k + 1) else s

/-- A write of SEQ_DATA0 or SEQ_DATA1; bits 19:8 of the first word hold 0 (R256). -/
def State.seqWrite (s : State) (k w : Nat) (v : Word) : State :=
  let x := if w = 0 then v.toNat - bits v.toNat 8 12 * 256 else v.toNat
  let t : State := if s.flag (FEC.SEQ_SEL.BANK k) || s.flag (FEC.SEQ_CTL.PEND k) then s
    else { s with seqTab := Tab.set 0 s.seqTab (2 * (1024 * k + s.seqSel k) + w) x }
  t.seqNext k w

/-- A write of SEQ_DATA by a master. -/
def State.seqDataWrite (s : State) (m : Master) (k w : Nat) (v : Word) : State :=
  s.guardedBy m (0x25048 + 0x1000 * k + 4 * w) v []
    (if w = 0 then entryOk v.toNat else offsetOk (s.seqWord k (s.seqSel k) 0 false) v.toNat) fun t => t.seqWrite k w v

/-- A read of SEQ_DATA by a master. -/
def State.seqDataRead (s : State) (m : Master) (k w : Nat) : State :=
  s.readBy m (0x25048 + 0x1000 * k + 4 * w) (fun t => t.seqWord k (t.seqSel k) w (t.flag (FEC.SEQ_SEL.BANK k))) fun t => t.seqNext k w

def execSeqDataAccess (m : Master) (k : Fin 4) (second write : Bool) (v : Word) (s : State) : Host.Outcome State Fault Refusal :=
  .next (if write then s.seqDataWrite m k second.toNat v else s.ask.seqDataRead m k second.toNat)

/-- The command that RFFE_CMD_SEL names. -/
def State.cmdSel (s : State) (k : Nat) : Nat := s.get (FEC.RFFE_CMD_SEL.INDEX k)

/-- INDEX steps on after an access of RFFE_CMD1 (R255). -/
def State.cmdNext (s : State) (k w : Nat) : State := if w = 1 then s.set (FEC.RFFE_CMD_SEL.INDEX k) (s.cmdSel k + 1) else s

/-- RFFE_CMD0 carries no reserved combination; RFFE_CMD1 beside a first word neither (R263). (DESIGN CHOICE: log 18) -/
def cmd0Ok (w : Nat) : Bool :=
  let t := bits w 28 2
  t ≤ 2 && (t != 0 || bits w 16 8 == 0) && (t != 1 || bits w 16 8 < 0x20) && (t == 2 || bits w 12 2 == 0)
/-- RFFE_CMD1 beside a first word that is a Register 0 Write has bit 7 at 0 (R263). (DESIGN CHOICE: log 18) -/
def cmd1Ok (w0 w1 : Nat) : Bool := bits w0 28 2 != 0 || !tbit w1 7

/-- A write of RFFE_CMD0 or RFFE_CMD1; reserved bits hold 0 (R263). -/
def State.cmdWrite (s : State) (k w : Nat) (v : Word) : State :=
  let x := if w = 0 then (v.toNat / 65536) * 65536 + bits v.toNat 12 2 * 4096 else v.toNat
  let t : State := if s.flag (FEC.RFFE_CMD_SEL.BANK k) then s
    else { s with cmdTab := Tab.set 0 s.cmdTab (2 * (256 * k + s.cmdSel k) + w) x }
  t.cmdNext k w

/-- A write of an RFFE command word by a master. -/
def State.cmdDataWrite (s : State) (m : Master) (k w : Nat) (v : Word) : State :=
  s.guardedBy m (0x25088 + 0x1000 * k + 4 * w) v [] (if w = 0 then cmd0Ok v.toNat else cmd1Ok (s.cmdWord k (s.cmdSel k) 0 false) v.toNat)
    fun t => t.cmdWrite k w v

/-- A read of an RFFE command word by a master. -/
def State.cmdDataRead (s : State) (m : Master) (k w : Nat) : State :=
  s.readBy m (0x25088 + 0x1000 * k + 4 * w) (fun t => t.cmdWord k (t.cmdSel k) w (t.flag (FEC.RFFE_CMD_SEL.BANK k))) fun t => t.cmdNext k w

def execRffeCmdAccess (m : Master) (k : Fin 4) (second write : Bool) (v : Word) (s : State) : Host.Outcome State Fault Refusal :=
  .next (if write then s.cmdDataWrite m k second.toNat v else s.ask.cmdDataRead m k second.toNat)

/-! Commit, start and stop -/

/-- A shadow entry breaks the turn-round rule: its level change, or the end of its frame on an idle bus, falls later than 1.900 µs after
S. One µs is 983.04 ticks (R262, R274). -/
def State.breaksTurn (s : State) (k e : Nat) : Bool :=
  let w0 := s.seqWord k e 0 false
  let off := s.seqWord k e 1 false
  let at_ := off + (if eTx w0 then s.latTicks else 0)
  (eRef w0 == 2 || eRef w0 == 3) && off ≤ 1966 &&
    if eAct w0 < 2 then 1868 ≤ at_
    else
      let c := s.cmdWord k (eTarget w0) 0 false
      let b := 2 * k + bits c 30 1
      let mhz := s.sclkMhz b false
      1867776 * mhz < at_ * mhz * 1000 + framePeriods c * 983040

/-- A pattern is VALID in its live or its shadow form (R262). -/
def State.patKnown (s : State) (p : Nat) : Bool := (s.pat p).live.valid || s.flag (TDD.PAT_CFG.VALID p)

/-- REFUSE of a commit of the tables; 0 where it is accepted (R262). (DESIGN CHOICE: log 48) -/
def State.seqRefusal (s : State) (k : Nat) : Nat :=
  let es := (List.range 1024).filter fun e => eValid (s.seqWord k e 0 false)
  if es.any fun e => eRef (s.seqWord k e 0 false) != 0 && !s.patKnown (ePat (s.seqWord k e 0 false)) then 2
  else if es.any (s.breaksTurn k) then 1
  else if s.flag (FEC.SEQ_CTL.PEND k) then 3
  else 0

/-- A write of COMMIT = 1 (R262). -/
def State.seqCommit (s : State) (m k : Nat) : State :=
  let c := s.seqRefusal k
  let s := s.set (FEC.SEQ_CTL.REFUSE k) c
  if c = 0 then (s.modFec k fun x => { x with commitAt := s.now }).set (FEC.SEQ_CTL.PEND k) 1
  else s.fire (0x25 + k) FEC.src.SEQ_REFUSED { master := m }

/-- The effect of a write of SEQ_CTL (R261, R262). -/
def State.seqCtl (s : State) (m k : Nat) (v : Word) : State :=
  let run := v.getLsbD 0
  let s := s.put (FEC.SEQ_CTL.RUN k) run
  let s := if run then
      (if s.flag (FEC.SEQ_CTL.RUNNING k) || (s.fec k).startDue then s else s.modFec k fun x => { x with startDue := true, startAt := s.now })
    else
      let s := s.modFec k fun x => { x with startDue := false }
      if s.flag (FEC.SEQ_CTL.RUNNING k) then (s.until (s.now + 1)).seqHalt k else s
  if v.getLsbD 8 then s.seqCommit m k else s

/-- A write of SEQ_CTL by a master. -/
def State.seqCtlWrite (s : State) (m : Master) (k : Nat) (v : Word) : State :=
  s.guarded m (0x25040 + 0x1000 * k) v fun t => t.seqCtl m.num k v

def execSeqRun (m : Master) (k : Fin 4) (v : Word) (s : State) : Host.Outcome State Fault Refusal := Machine.ok (s.seqCtlWrite m k v)

def execSeqStop (m : Master) (k : Fin 4) (v : Word) (s : State) : Host.Outcome State Fault Refusal := Machine.ok (s.seqCtlWrite m k v)

def execSeqCommit (m : Master) (k : Fin 4) (v : Word) (s : State) : Host.Outcome State Fault Refusal := Machine.ok (s.seqCtlWrite m k v)

/-- The boundary at which the table starts: the first after the write, or after what held it back: latched pads, STANDBY, gated clocks
(R86, R96, R261). -/
def State.seqStart (s : State) (k : Nat) : State :=
  if !(s.fec k).startDue || s.flag PWR.PAD_RELEASE.FE_HELD || pStandby ≤ s.get PWR.PWR_CMD.STATE || s.stopped (0x25 + k) || s.inReset then s
  else
    let s := s.until (s.frameAt (max s.now ((s.fec k).startAt + 1)))
    ((s.modFec k fun x => { x with startDue := false }).set (FEC.SEQ_CTL.RUNNING k) 1).idleLines k

def execSeqStart (k : Fin 4) (s : State) : Host.Outcome State Fault Refusal := .next (s.seqStart k)

/-- A line that no valid live entry targets. -/
def State.untargeted (s : State) (l : Nat) : Bool :=
  !(List.range 1024).any fun e =>
    let w := s.seqWord (l / 32) e 0 true
    eValid w && eAct w < 2 && eTarget w == l % 32

/-! References -/

/-- The burst period of a live pattern in ticks (R268). -/
def PatLive.burstTicks (l : PatLive) : Nat := ms (5 * 2 ^ (if bits l.sync 30 2 = 1 then 0 else bits l.sync 25 3))

/-- The first expected burst of a pattern at or after an instant (R257, R269). -/
def Pat.nextBurst (q : Pat) (t : Nat) : Nat :=
  q.timed (fun start t =>
    let a := start + q.burstOff
    if t ≤ a then t + (a - t) % q.live.burstTicks else a + ceilTo q.live.burstTicks (t - a)) t

/-- The next instant of an entry's reference at or after an instant; none where its pattern has no timing, or no bursts (R256, R257,
R270). -/
def State.refAt (s : State) (w0 t : Nat) : Option Nat :=
  let q := s.pat (ePat w0)
  if eRef w0 = 0 then some (s.frameAt t)
  else if !(q.live.valid && q.timing) then none
  else if eRef w0 = 1 then some (q.nextPeriod t)
  else if eRef w0 = 4 then (if q.live.src = 0 then some (q.nextBurst t) else none)
  else some (q.nextStart (if eRef w0 = 2 then 1 else 0) t)

/-- The references of an entry from an instant on, before another (R257, R262). -/
def State.refsIn (s : State) (w0 u : Nat) : Nat → Nat → List Nat
  | 0, _ => []
  | n + 1, t => match s.refAt w0 t with
    | some r => if r < u then r :: s.refsIn w0 u n (r + 1) else []
    | none => []

/-- The latency that an entry's TXREF adds (R257). -/
def State.txLat (s : State) (w0 : Nat) : Int := if eTx w0 then (s.latTicks : Int) else 0

/-- The events of the live table that lie at or after a boundary, from references before it: they stand (R262). -/
def State.standing (s : State) (k t : Nat) : List Sched :=
  ((List.range 1024).filter fun e => eValid (s.seqWord k e 0 true)).flatMap fun e =>
    let w0 := s.seqWord k e 0 true
    let off := sext 32 (s.seqWord k e 1 true)
    (s.refsIn w0 t 1024 (max (max ((t : Int) - off - s.txLat w0).toNat (s.fec k).liveAt) (Tab.get 0 (s.fec k).served e))).map fun r =>
      { entry := e, w0 := w0, c0 := s.cmdWord k (eTarget w0) 0 true, c1 := s.cmdWord k (eTarget w0) 1 true, base := r + off }

/-- The committed tables become live at the boundary: events scheduled from earlier references stand, and lines that the new table leaves
out go to IDLE (R258, R262). (DESIGN CHOICE: log 48) -/
def State.seqLive (s : State) (k : Nat) : State :=
  if !s.flag (FEC.SEQ_CTL.PEND k) || s.inReset || s.resetting (0x25 + k) then s
  else
    let s := s.until (s.frameAt (max s.now ((s.fec k).commitAt + 1)))
    let old := if s.flag (FEC.SEQ_CTL.RUNNING k) then s.standing k s.now else []
    let s := s.modFec k fun x => { x with liveAt := s.now, served := [], sched := x.sched ++ old }
    let t : State := { s.set (FEC.SEQ_CTL.PEND k) 0 with
      seqTab := Tab.copy 0 s.seqTab (2048 * k) (8192 + 2048 * k) 2048, cmdTab := Tab.copy 0 s.cmdTab (512 * k) (2048 + 512 * k) 512 }
    let u : State := { t with lineAt := t.lineAt.filter fun e => !(e.1 / 32 == k && t.untargeted e.1) }
    u.idleLines k

def execSeqTableLive (k : Fin 4) (s : State) : Host.Outcome State Fault Refusal := .next (s.seqLive k)

/-! Events -/

/-- The boundary at which a commit that pends makes the other table live (R262). -/
def State.seqUntil (s : State) (k : Nat) : Option Nat :=
  if s.flag (FEC.SEQ_CTL.PEND k) then some (s.frameAt ((s.fec k).commitAt + 1)) else none

/-- The reference of a live entry's next event, and its tick: OFFSET, and L with TXREF, after the reference. References from the table's
first boundary on count that have not been served, and those before the boundary of a commit that pends (R257, R262, R270). -/
def State.eventAt (s : State) (k e w0 w1 : Nat) : Option (Nat × Nat) :=
  let off : Int := sext 32 w1 + s.txLat w0
  (s.refAt w0 (max (max ((s.now : Int) - off).toNat (s.fec k).liveAt) (Tab.get 0 (s.fec k).served e))).bind fun r =>
    if (match s.seqUntil k with | some t => decide (t ≤ r) | none => false) then none else some (r, ((r : Int) + off).toNat)

/-- An event of a page: its tick, and what it does. -/
def State.schedAt (s : State) (x : Sched) : Nat := (x.base + s.txLat x.w0).toNat

/-- The next event of entry `e`: its tick, what it does, and its reference where the live table has it; or one that stands from the table
before, the earlier (R257, R262). (DESIGN CHOICE: log 48) -/
def State.nextEvent (s : State) (k e : Nat) : Option (Nat × Sched × Option Nat) :=
  let w0 := s.seqWord k e 0 true
  let live := if eValid w0 then (s.eventAt k e w0 (s.seqWord k e 1 true)).map fun t =>
      (t.2, ({ entry := e, w0 := w0, c0 := s.cmdWord k (eTarget w0) 0 true, c1 := s.cmdWord k (eTarget w0) 1 true } : Sched), some t.1)
    else none
  ((s.fec k).sched.filter fun x => x.entry == e).foldl (fun b x =>
    match b with
    | some y => if s.schedAt x ≤ y.1 then some (s.schedAt x, x, none) else b
    | none => some (s.schedAt x, x, none)) live

/-- A clash of two events for a line (R259, R276). -/
def State.clash (s : State) (k : Nat) : State := (s.count (FEC.SEQ_CNT.CLASH k) 1).fire (0x25 + k) FEC.src.SEQ_CLASH {}

/-- A LOW or HIGH event of entry `e` on line `l` at the present tick (R257 to R259, R276). -/
def State.lineEvent (s : State) (k e l : Nat) (high : Bool) : State :=
  let mark := 1 + 1024 * s.now + e
  let last := Tab.get 0 s.lineAt l
  let set := fun (s : State) => { s.setLine l high with lineAt := Tab.set 0 s.lineAt l mark }
  if (s.lineDiv l).isSome then s.clash k
  else if last = 0 || (last - 1) / 1024 ≠ s.now || last = mark then set s
  else if last < mark then (set s).clash k
  else s.clash k

/-- A scheduled event reaches its tick; each occurrence of a reference is served once (R257). (DESIGN CHOICE: log 48) -/
def State.seqEvent (s : State) (k e : Nat) : State :=
  if !s.flag (FEC.SEQ_CTL.RUNNING k) || s.resetting (0x25 + k) then s
  else match s.nextEvent k e with
  | none => s
  | some (t, x, r) =>
    let s := s.until t
    let s := s.modFec k fun f => match r with
      | none => { f with sched := f.sched.erase x }
      | some r => { f with served := Tab.set 0 f.served e (r + 1) }
    if eAct x.w0 < 2 then s.lineEvent k e (32 * k + eTarget x.w0) (eAct x.w0 == 1)
    else if tbit x.c0 31 then s.queueFrame { inst := s.now, page := k, entry := e, w0 := x.c0, w1 := x.c1 } else s

def execSeqEvent (k : Fin 4) (entry : Fin 1024) (s : State) : Host.Outcome State Fault Refusal := ok (s.seqEvent k entry)

/-! Buses -/

/-- The effect of a write of RFFE_CFG (R263). -/
def State.rffeCfg (s : State) (k : Nat) (v : Word) : State :=
  let up := fun j => !s.busEn (2 * k + j) && v.getLsbD (7 + 8 * j)
  let s := s.writeReg (0x25080 + 0x1000 * k) v
  let s := if up 0 then s.modBus (2 * k) fun x => { x with enAt := s.now } else s
  if up 1 then s.modBus (2 * k + 1) fun x => { x with enAt := s.now } else s

/-- A bus may start a frame: enabled for 100 µs, and idle (R263, R264). -/
def State.busReady (s : State) (b : Nat) : Bool :=
  s.busEn b && (s.bus b).enAt + us 100 ≤ s.now && (s.bus b).cur.isNone && !(s.bus b).readRun

/-- A waiting frame starts; one that starts more than 1 µs after its instant is late (R264). (DESIGN CHOICE: log 69) -/
def State.frameStart (s : State) (b : Nat) : State :=
  let s := if s.busEn b then s.until ((s.bus b).enAt + us 100) else s
  if !s.busReady b || (s.bus b).readWait || s.resetting (0x25 + b / 2) then s
  else match (s.bus b).queue with
  | [] => s
  | f :: rest =>
    let w := s.frameTime b (framePeriods f.w0) (max s.now f.inst) false
    let s := (s.until w.1).modBus b fun x => { x with queue := rest, cur := some f, endAt := w.2 }
    if us 1 ≤ s.now - f.inst then (s.count (FEC.SEQ_CNT.LATE f.page) 1).fire (0x25 + f.page) FEC.src.RFFE_LATE {} else s

def execRffeFrameStart (b : Fin 8) (s : State) : Host.Outcome State Fault Refusal := ok (s.frameStart b)

/-- The read that waits for a bus takes it, for the read's duration (R263 to R265). -/
def State.readStart (s : State) (b : Nat) : State :=
  if !((s.bus b).readWait && s.busReady b) then s
  else
    let n := if s.flag (FEC.RFFE_RD.EXT (b / 2)) then 35 else 26
    s.modBus b fun x => { x with readRun := true, readWait := false, endAt := (s.frameTime b n s.now true).2 }

/-- A frame completes; a read that waits takes the bus (R264, R265). -/
def State.frameDone' (s : State) (b : Nat) : State :=
  if (s.bus b).cur.isNone then s
  else ((s.until (s.bus b).endAt).modBus b fun x => { x with cur := none }).readStart b

def execRffeFrameDone (b : Fin 8) (s : State) : Host.Outcome State Fault Refusal := .next (s.frameDone' b)

/-- The effect of a write of RFFE_RD (R265). -/
def State.rffeRd (s : State) (k : Nat) (v : Word) : State :=
  let busy := s.flag (FEC.RFFE_RD.BUSY k)
  let s := s.writeReg (0x25090 + 0x1000 * k) v
  if busy || !v.getLsbD 8 then s
  else
    let b := 2 * k + (v.getLsbD 29).toNat
    ((s.modBus b fun x => { x with readWait := true }).set (FEC.RFFE_RD.BUSY k) 1).readStart b

/-- A write of RFFE_RD by a master; a Register Read reaches ADDR 0x00 to 0x1F (R6, R265). -/
def State.rffeRdWrite (s : State) (m : Master) (k : Nat) (v : Word) : State :=
  s.guardedBy m (0x25090 + 0x1000 * k) v (fieldsAt (0x25090 + 0x1000 * k)) (v.getLsbD 28 || bits v.toNat 16 8 < 0x20) fun t => t.rffeRd k v

def execRffeRead (m : Master) (k : Fin 4) (v : Word) (s : State) : Host.Outcome State Fault Refusal := .next (s.rffeRdWrite m k v)

/-- A read that waits only for the 100 µs from EN runs once they are over (R263). -/
def State.readTake (s : State) (b : Nat) : State :=
  if (s.bus b).readWait && s.busEn b && (s.bus b).cur.isNone then (s.until ((s.bus b).enAt + us 100)).readStart b else s

/-- A read completes on the bus that holds it (R263, R265). -/
def State.readDone (s : State) (k data : Nat) (bad : Bool) : State :=
  let s := (s.readTake (2 * k)).readTake (2 * k + 1)
  match [2 * k, 2 * k + 1].find? fun b => (s.bus b).readRun with
  | none => s
  | some b =>
    let s := (s.until (s.bus b).endAt).modBus b fun x => { x with readRun := false }
    let s := ((s.set (FEC.RFFE_RD.BUSY k) 0).set (FEC.RFFE_RD.DATA k) data).put (FEC.RFFE_RD.PERR k) bad
    if bad then s.fire (0x25 + k) FEC.src.RFFE_PARITY {} else s

def execRffeReadDone (k : Fin 4) (data : Byte) (parityError : Bool) (s : State) : Host.Outcome State Fault Refusal :=
  ok (s.readDone k data.toNat parityError)

end Sys2Proof.Machine
end

