-- ==== Sys2Proof/Machine/TddDiv.lean ====
section
/-! DEFINITION. The timebase, the TDD patterns, donor synchronisation and donor aerial diversity (R266 to R279, R296, R297). -/
namespace Sys2Proof.Machine
open Sys2Proof

/-! Timebase -/

/-- A pattern is live, of source DONOR. -/
def State.donorPat (s : State) (p : Nat) : Bool := (s.pat p).live.valid && (s.pat p).live.src == 0

/-- The effect of a write of TB_CTL (R266). -/
def State.tbCtl (s : State) (m : Nat) (v : Word) : State :=
  let src := TDD.TB_CTL.SRC.of v
  let pat := TDD.TB_CTL.PAT.of v
  let c := if !s.active.isEmpty then 1 else if src = 3 ∧ !s.donorPat pat then 2 else 0
  let s := s.set TDD.TB_CTL.REFUSE c
  if c ≠ 0 then s.fire 0x0E TDD.src.TB_REFUSED { master := m }
  else
    let s := (s.set TDD.TB_CTL.SRC src).set TDD.TB_CTL.PAT pat
    { s with tb := { s.tb with epochDue := src != 0 } }

/-- A write of TB_CTL by a master. -/
def State.tbCtlWrite (s : State) (m : Master) (v : Word) : State :=
  s.guarded m 0xE040 v fun t => t.tbCtl m.num v

def execTbCtlWrite (m : Master) (v : Word) (s : State) : Host.Outcome State Fault Refusal :=
  Machine.ok (s.tbCtlWrite m v)

/-- The timebase source is valid (R266). -/
def State.tbValid (s : State) : Bool :=
  match s.get TDD.TB_CTL.SRC with
  | 1 => true
  | 2 => s.clkOn 3 && s.flag LNK.PTP_CTL.SET && s.ptpValid
  | 3 => s.get (TDD.SYNC_STAT.STATE (s.get TDD.TB_CTL.PAT)) == 2
  | _ => false

/-- The 10 ms multiple of the timebase epoch at or before an instant, or of the frame grid where no epoch is set (R267).
(DEDUCED: log 51) -/
def State.tbFrame (s : State) (t : Nat) : Nat :=
  let e := s.tb.epoch.getD s.tb.frame
  e + (t - e) / 9830400 * 9830400

/-- Live patterns of source TIMEBASE follow the epoch (R267, R272). -/
def State.tbPatterns (s : State) : State :=
  (List.range 16).foldl (fun s p =>
    if (s.pat p).live.valid ∧ (s.pat p).live.src = 1 then s.modPat p fun q => { q with start := s.tbFrame s.now + q.live.phase } else s) s

/-- The ticks from now to the next whole second of the part's IEEE 1588 time; at a rate that the correction changes the tick is rounded up
(R182, R266). -/
def State.toSecond (s : State) : Nat :=
  let one : Int := 3072000000000000 * 1000000000
  let r := (-s.linkNum) % one
  let rate := 3125 * (1000000000000 + s.ptpRate)
  ((r + rate - 1) / rate).toNat

/-- The 10 ms frame starts of a pattern at the donor RX ball: the next one at or after an instant (R266, R267). -/
def Pat.nextTen (q : Pat) (t : Nat) : Nat :=
  q.timed (fun start t =>
    let a := start - q.live.phase
    if t ≤ a then t + (a - t) % ms 10 else a + ceilTo (ms 10) (t - a)) t

/-- The next reference instant of the timebase source: a whole second of IEEE 1588 time, a 10 ms frame start of pattern PAT, or an edge of
PPS_IN, which lies `offset` ticks from now (R266). -/
def State.tbRef (s : State) (offset : Nat) : Nat :=
  match s.get TDD.TB_CTL.SRC with
  | 2 => s.now + s.toSecond
  | 3 => (s.pat (s.get TDD.TB_CTL.PAT)).nextTen s.now
  | _ => s.now + offset

/-- The first valid measurement of the source: the ALIGN pulse nearest to the reference becomes a common frame boundary and the start of a
new second. PPS_IN rises `offset` ticks from now; the other sources' references follow from the state (R266). (DEDUCED: log 51) -/
def State.tbEpoch (s : State) (offset : Nat) : State :=
  if !s.tb.epochDue || !s.tbValid then s
  else
    let s := s.until (s.tbRef offset)
    let b := (s.now + 2048) / 4096 * 4096
    ({ s with tb := { epochDue := false, epoch := some b, measuredAt := s.now, frame := b % 983040 } } : State).tbPatterns

def execTimebaseEpoch (offset : Nat) (s : State) : Host.Outcome State Fault Refusal := Machine.ok (s.tbEpoch offset)

/-- Half-open rounding to the nearest multiple: an offset from it, from −g/2 to g/2. -/
def nearest (g x : Int) : Int := (x + g / 2) % g - g / 2

/-- The offset in ns of a boundary now from the nearest reference of the source; that of PPS_IN is measured outside the model (R266).
(DESIGN CHOICE: log 52) -/
def State.tbError (s : State) (pps : Int) : Int :=
  match s.get TDD.TB_CTL.SRC with
  | 2 => nearest 1000000000 (s.linkNum / 3072000000000000)
  | 3 =>
    let q := (s.pat (s.get TDD.TB_CTL.PAT)).fold s.now
    nearest (ms 10 : Nat) ((s.now : Int) - q.start + q.live.phase) * 3125 / 3072
  | _ => pps

/-- A second's boundary and its offset from the source in ns (R266). (DESIGN CHOICE: log 52) -/
def State.tbSecond (s : State) (pps : Int) : State :=
  match s.tb.epoch with
  | none => s
  | some e =>
    if s.tb.epochDue || !s.tbValid then s
    else
      let s := s.until (e + ceilTo 983040000 (max s.now (s.tb.measuredAt + 2049) - e))
      let t : State := { s with tb := { s.tb with measuredAt := s.now } }
      let offset := t.tbError pps
      let t := t.set TDD.TB_OFFSET.NS (toField 32 offset)
      if offset < -10000 ∨ 10000 < offset then t.fire 0x0E TDD.src.TB_DRIFT {} else t

def execTimebaseSecond (pps : Int) (s : State) : Host.Outcome State Fault Refusal := Machine.ok (s.tbSecond pps)

/-- TB_CTL.LOCKED (R265, R266). -/
def State.tbLocked (s : State) : Bool :=
  s.tb.epoch.isSome && !s.tb.epochDue && s.tbValid && s.now < s.tb.measuredAt + ms 2000

/-! Pattern registers -/

/-- The pattern that PAT_SEL names. -/
def State.patSel (s : State) : Nat := s.get TDD.PAT_SEL.PAT

/-- The edge word that PAT_SEL names. -/
def State.edgeWord (s : State) : Nat := Tab.get 0 s.patEdge (16 * s.patSel + s.get TDD.PAT_SEL.EDGE)

/-- EDGE steps on. -/
def State.edgeNext (s : State) : State := s.set TDD.PAT_SEL.EDGE (s.get TDD.PAT_SEL.EDGE + 1)

/-- A write of PAT_EDGE, dropped while PEND is 1; bits 29:24 hold 0 (R267). -/
def State.edgeWrite (s : State) (v : Word) : State :=
  let x := v.toNat / 2 ^ 30 * 2 ^ 30 + bits v.toNat 0 24
  let t : State := if s.flag (TDD.PAT_CTL.PEND s.patSel) then s
    else { s with patEdge := Tab.set 0 s.patEdge (16 * s.patSel + s.get TDD.PAT_SEL.EDGE) x }
  t.edgeNext

/-- A write of PAT_EDGE by a master. -/
def State.edgeDataWrite (s : State) (m : Master) (v : Word) : State :=
  s.guarded m 0xE050 v (·.edgeWrite v)

def execPatEdgeAccess (m : Master) (write : Bool) (v : Word) (s : State) : Host.Outcome State Fault Refusal :=
  .next (if write then s.edgeDataWrite m v else s.ask.readBy m 0xE050 State.edgeWord State.edgeNext)

/-- A pattern's shadow as a live form (R267). -/
def State.patShadow (s : State) (p : Nat) : PatLive :=
  { cfg := s.assemble (fieldsAt (0x110000 + 0x200 * p)), sync := s.assemble (fieldsAt (0x110004 + 0x200 * p))
    freq := s.get (TDD.SYNC_FREQ.FREQ p), edges := (List.range 16).map fun e => Tab.get 0 s.patEdge (16 * p + e) }

/-- Refusal EDGES (R268). -/
def PatLive.badEdges (l : PatLive) : Bool :=
  let es := l.sorted
  (es.zip (es.drop 1)).any (fun x => x.1.2 == x.2.2) || !es.any (fun e => e.2 == 0) || !es.any (fun e => e.2 == 1)
    || es.any (fun e => l.period ≤ e.1) || decide (l.period ≤ l.phase)

/-- Refusal GAP (R268). -/
def PatLive.badGap (l : PatLive) : Bool := l.intervals.any fun x => x.2.1 < 6685

/-- SYNC_SLOT of a pattern, and the edges in Hz that its sync signal needs (R268). -/
def PatLive.syncSlot (l : PatLive) : Nat := bits l.sync 0 9
def PatLive.syncHalf (l : PatLive) : Int := if bits l.sync 30 2 = 0 then 3600000 else 540000

/-- Refusal SYNC: the sync signal does not lie in the receive band of SYNC_SLOT (R159, R268). -/
def State.badSync (s : State) (l : PatLive) : Bool :=
  let i := l.syncSlot
  let c := if s.active.contains i then (s.setOf i).rxCentre else s.get (SLP.RX_CENTRE.FREQ i)
  l.src == 0 && !(decide (s.bandLo i c ≤ 2 * (l.freq : Int) - l.syncHalf) && decide (2 * (l.freq : Int) + l.syncHalf ≤ s.bandHi i c))

/-- Refusal INUSE (R268). -/
def State.patInUse (s : State) (p : Nat) (l : PatLive) : Bool :=
  let o := (s.pat p).live
  s.active.any (fun i => s.tdd i == p) && (o.period != l.period || o.phase != l.phase || o.src != l.src || (o.valid && !l.valid))

/-- REFUSE of a commit of a pattern; 0 where it is accepted (R268). (DESIGN CHOICE: log 50) -/
def State.patRefusal (s : State) (p : Nat) : Nat :=
  let l := s.patShadow p
  if l.badEdges then 1
  else if l.badGap then 2
  else if s.badSync l then 3
  else if s.flag (TDD.PAT_CTL.PEND p) then 4
  else if s.patInUse p l then 5
  else 0

/-- A write of COMMIT = 1 (R268). (DESIGN CHOICE: log 52) -/
def State.patCommit (s : State) (m : Nat) (v : Word) : State :=
  if !v.getLsbD 0 then s
  else
    let p := s.patSel
    let c := s.patRefusal p
    let s := s.set (TDD.PAT_CTL.REFUSE p) c
    if c = 0 then (s.modPat p fun q => { q with acceptAt := s.now }).set (TDD.PAT_CTL.PEND p) 1
    else s.fire 0x0E TDD.src.PAT_REFUSED { master := m }

/-- A write of PAT_CTL by a master. -/
def State.patCtlWrite (s : State) (m : Master) (v : Word) : State :=
  s.guardedBy m 0xE054 v (fieldsAt (0x11000C + 0x200 * s.patSel)) true fun t => t.patCommit m.num v

def execPatternCommit (m : Master) (v : Word) (s : State) : Host.Outcome State Fault Refusal := Machine.ok (s.patCtlWrite m v)

/-! A pattern becomes live -/

/-- The instant at which an accepted commit becomes live (R268). (DESIGN CHOICE: log 50) -/
def State.patLiveAt (s : State) (p : Nat) : Nat :=
  let q := s.pat p
  if q.live.valid ∧ q.timing then q.nextPeriod (max s.now (q.acceptAt + us 100)) else s.frameAt (max s.now (q.acceptAt + 1))

/-- A new live form restarts acquisition: KIND, SCS, SSB_PER, PIN, CELL_ID or SYNC_FREQ changes, or no detector ran before (R268). -/
def PatLive.restarts (o l : PatLive) : Bool :=
  !o.valid || o.src != 0 || bits o.sync 24 8 != bits l.sync 24 8 || bits o.sync 10 10 != bits l.sync 10 10 || o.freq != l.freq

/-- Timing and sync state under a new live form (R268, R270, R272). -/
def State.patTiming (s : State) (p : Nat) (l : PatLive) : State :=
  let q := s.pat p
  let o := q.live
  if l.src = 1 then s.modPat p fun q => { q with live := l, timing := true, start := s.tbFrame s.now + l.phase, step := 0, good := 0 }
  else if o.restarts l then
    ((s.modPat p fun q => { q with live := l, timing := false, step := 0, good := 0 }).set (TDD.SYNC_STAT.STATE p) 0).set (TDD.SYNC_STAT.MISSES p) 0
      |>.divCancel (s.divPat p)
  else s.modPat p fun q => { q with live := l, start := ((q.start : Int) + l.phase - o.phase).toNat
                                    burstOff := (((q.burstOff : Int) + o.phase - l.phase) % l.burstTicks).toNat }

/-- The enabled slots that name a pattern. -/
def State.patSlots (s : State) (p : Nat) : List Nat := s.enabled.filter fun i => s.tdd i == p && p != 0

/-- HOLD.SYNC of the slots of a pattern (R271). -/
def State.patHold (s : State) (p : Nat) : State := (s.patSlots p).foldl (fun s i => s.syncHold i) s

/-- A slot's duty exceeds its range's limit under its live pattern (R297). -/
def State.overDuty (s : State) (i : Nat) : Bool :=
  match s.txRange i (s.liveOf i).txCentre with
  | some r => (s.pat (s.tdd i)).live.overDuty (s.uplink i) (s.dutyLimit r (s.uplink i))
  | none => false

/-- The DUTY mute of a slot follows its duty (R297). (DESIGN CHOICE: log 52) -/
def State.dutyCheck (s : State) (i : Nat) : State :=
  if s.overDuty i = s.flag (GOV.PROT_STAT.DUTY i) then s
  else if s.overDuty i then
    let s := s.protMute i (GOV.PROT_STAT.DUTY i)
    s.fire 0x23 GOV.src.DUTY_MUTE { slot := some i, detail := s.protDetail i }
  else s.protFree i (GOV.PROT_STAT.DUTY i)

/-- The committed pattern becomes live (R268, R271, R297). -/
def State.patLive (s : State) (p : Nat) : State :=
  if !s.flag (TDD.PAT_CTL.PEND p) then s
  else
    let l := s.patShadow p
    let s := s.until (s.patLiveAt p)
    let s := ((s.modPat p fun q => q.fold s.now).patTiming p l).set (TDD.PAT_CTL.PEND p) 0
    let s := s.patHold p
    (s.patSlots p).foldl (fun s i => s.dutyCheck i) s

def execPatternLive (p : Fin 16) (s : State) : Host.Outcome State Fault Refusal := ok (s.patLive p)

/-! Donor synchronisation -/

/-- States of SYNC_STAT (R268). -/
abbrev tSearch : Nat := 0
abbrev tAcquire : Nat := 1
abbrev tTrack : Nat := 2
abbrev tHoldover : Nat := 3

/-- The detail of a sync record (R418). -/
def State.syncDetail (s : State) (p : Nat) : List Nat := p :: leBytes 2 (s.get (TDD.SYNC_STAT.CELL p)) ++ [s.get (TDD.SYNC_STAT.MISSES p)]

/-- The detector of a pattern has samples: SYNC_SLOT is enabled and its chiplet runs (R269). (DESIGN CHOICE: log 50) -/
def State.detects (s : State) (p : Nat) : Bool :=
  let i := (s.pat p).live.syncSlot
  s.donorPat p && !s.resetting 0x0E && s.running i && !s.uplink i && s.clkOn 44 && s.flag (SYN.SYN_STAT.READY (s.rxOf i / 4))

/-- A cell that the detector accepts in SEARCH (R268, R269). -/
def State.cellOk (s : State) (p cell : Nat) : Bool :=
  let l := (s.pat p).live
  (if bits l.sync 30 2 = 0 then cell ≤ 1007 else cell ≤ 503) && (!tbit l.sync 24 || bits l.sync 10 10 == cell)

/-- A correction that takes effect at the next period start (R269). -/
def State.patStep (s : State) (p : Nat) (d : Int) : State :=
  s.modPat p fun q =>
    let r := q.fold s.now
    { r with step := d, stepAt := r.nextPeriod (s.now + 1) }

/-- TRACK is entered (R269, R271). (DESIGN CHOICE: log 35) -/
def State.toTrack (s : State) (p : Nat) : State :=
  let s := ((s.set (TDD.SYNC_STAT.STATE p) tTrack).set (TDD.SYNC_STAT.MISSES p) 0).modPat p fun q => { q with timing := true, good := 0 }
  (s.patHold p).fire 0x0E TDD.src.SYNC_ACQ { detail := s.syncDetail p }

/-- ERR takes a measured error, saturating (R268). (DESIGN CHOICE: log 50) -/
def State.syncErr (s : State) (p : Nat) (e : Int) : State := s.set (TDD.SYNC_STAT.ERR p) (toField 16 (clampInt (-32768) 32767 e))

/-- The detection window of the next expected burst is reached: its expected instant becomes the last one (R257, R269). -/
def State.toBurst (s : State) (p : Nat) (d : Int) : State :=
  let t := (s.pat p).nextBurst (max s.now ((s.pat p).burstAt + 1))
  (s.until ((t : Int) + d).toNat).modPat p fun q => { q with burstAt := t }

/-- A burst of the cell in use is measured in a state other than SEARCH (R269). (DESIGN CHOICE: log 50) -/
def State.measured (s : State) (p st : Nat) (err : Int) : State :=
  if st = tAcquire then
    let s := s.syncErr p err
    if err < -8 ∨ 8 < err then (s.set (TDD.SYNC_STAT.STATE p) tSearch).modPat p fun q => { q with good := 0 }
    else if (s.pat p).good < 2 then s.modPat p fun q => { q with good := q.good + 1 }
    else s.toTrack p
  else if st = tTrack then
    ((s.syncErr p err).set (TDD.SYNC_STAT.MISSES p) 0).patStep p (clampInt (-32) 32 err)
  else
    let last := sext 16 (s.get (TDD.SYNC_STAT.ERR p))
    let near := (s.pat p).good = 0 ∨ (last - 8 ≤ err ∧ err ≤ last + 8)
    let n := if near then (s.pat p).good + 1 else 1
    let s := s.syncErr p err
    if n < 3 then s.modPat p fun q => { q with good := n }
    else (if err < -32 ∨ 32 < err then s.patStep p err else s).toTrack p

/-- The detector finds a burst of a cell, `err` ticks after its expected instant. In SEARCH it finds a cell now whose 10 ms frame starts
`err` ticks from now, and bursts are expected from this one on (R269). (DESIGN CHOICE: log 6, 35, 50) -/
def State.burst (s : State) (p : Nat) (err : Int) (cell : Nat) : State :=
  let st := s.get (TDD.SYNC_STAT.STATE p)
  if !s.detects p then s
  else if st = tSearch then
    if !s.cellOk p cell then s
    else
      let s := s.modPat p fun q =>
        let start := ((s.now : Int) + err).toNat + q.live.phase
        { q with start := start, step := 0, good := 0, burstOff := (((s.now : Int) - start) % q.live.burstTicks).toNat, burstAt := s.now }
      (s.set (TDD.SYNC_STAT.CELL p) cell).set (TDD.SYNC_STAT.STATE p) tAcquire
  else if s.get (TDD.SYNC_STAT.CELL p) ≠ cell ∨ (st = tTrack ∧ (err < -256 ∨ 256 < err)) then s
  else (s.toBurst p err).measured p st err

def execSyncBurstFound (p : Fin 16) (err : Int) (cell : Fin 1024) (s : State) : Host.Outcome State Fault Refusal := ok (s.burst p err cell)

/-- Sync is lost (R269, R271, R279). -/
def State.syncLost (s : State) (p : Nat) : State :=
  let s := (s.set (TDD.SYNC_STAT.STATE p) tHoldover).modPat p fun q => { q with good := 0 }
  ((s.patHold p).divCancel (s.divPat p)).fire 0x0E TDD.src.SYNC_LOST { detail := s.syncDetail p }

/-- No burst in the window (R269). -/
def State.miss (s : State) (p : Nat) : State :=
  let st := s.get (TDD.SYNC_STAT.STATE p)
  if !s.donorPat p ∨ st = tSearch ∨ s.resetting 0x0E then s
  else if st = tTrack then
    let s := (s.toBurst p 256).count (TDD.SYNC_STAT.MISSES p) 1
    if bits (s.pat p).live.sync 20 4 ≤ s.get (TDD.SYNC_STAT.MISSES p) then s.syncLost p else s
  else (s.toBurst p 256).modPat p fun q => { q with good := 0 }

def execSyncBurstMiss (p : Fin 16) (s : State) : Host.Outcome State Fault Refusal := ok (s.miss p)

/-! Turn-round -/

/-- The next instant of an edge of a live pattern (R272). -/
def Pat.edgeAt (q : Pat) (e t : Nat) : Nat :=
  let off := bits (q.live.edges.getD e 0) 0 24
  q.timed (fun start t => if t ≤ start + off then start + off else start + off + ceilTo q.live.period (t - (start + off))) t

/-- A switching instant: the windows of the old direction close and those of the other open (R274). -/
def State.switching (s : State) (p e : Nat) : State :=
  let w := (s.pat p).live.edges.getD e 0
  if !((s.pat p).live.valid && (s.pat p).timing) || !tbit w 31 then s
  else
    let s := s.until ((s.pat p).edgeAt e (max s.now ((s.pat p).dirAt + 1)))
    s.modPat p fun q => { q.fold s.now with dir := 1 + bits w 30 1, dirAt := s.now }

def execSwitchingInstant (p : Fin 16) (edge : Fin 16) (s : State) : Host.Outcome State Fault Refusal := .next (s.switching p edge)

/-! Diversity ports -/

/-- A write of CFG_d is dropped (R277). (DESIGN CHOICE: log 53) -/
def State.divRefused (s : State) (v : Word) : Bool :=
  let a := DIV.CFG.RXA 0 |>.of v
  let b := DIV.CFG.RXB 0 |>.of v
  let t := DIV.CFG.TXD 0 |>.of v
  s.active.any (fun i => s.rxOf i == a || s.rxOf i == b || s.names a i || s.names b i || s.names (32 + t) i)
    || (v.getLsbD 31 && (a / 4 != b / 4 || s.rxRole a != 1 || s.rxRole b != 1 || s.txRole t != 1 || !s.donorPat ((DIV.CFG.PAT 0).of v)))

/-- The effect of a write of CFG_d (R276, R277). -/
def State.divCfg (s : State) (m d : Nat) (v : Word) : State :=
  if s.divRefused v then s.fire 0x29 DIV.src.DIV_REFUSED { master := m }
  else
    let old := s.get (DIV.CFG.LINE d) / 32
    let s := (s.writeReg (0x29040 + 4 * d) v).idleLines old
    let s := s.modDv d fun _ => { bursts := 15 }
    let s := [DIV.STAT.ACTIVE d, DIV.STAT.PEND d, DIV.STAT.DIFF d, DIV.STAT.SWITCHES d].foldl (fun s f => s.set f 0) s
    if v.getLsbD 31 then s.setLine (s.get (DIV.CFG.LINE d)) false else s

/-- A write of DIV.CFG by a master. -/
def State.divCfgWrite (s : State) (m : Master) (d : Nat) (v : Word) : State :=
  s.guarded m (0x29040 + 4 * d) v fun t => t.divCfg m.num d v

def execDivCfgWrite (m : Master) (d : Fin 8) (v : Word) (s : State) : Host.Outcome State Fault Refusal :=
  Machine.ok (s.divCfgWrite m d v)

/-- The receive channel of the aerial that is not in use. -/
def State.divOther (s : State) (d : Nat) : Nat := if s.flag (DIV.STAT.ACTIVE d) then s.get (DIV.CFG.RXA d) else s.get (DIV.CFG.RXB d)

/-- A port may measure and decide (R278, R279). -/
def State.divReady (s : State) (d : Nat) : Bool :=
  s.flag (DIV.CFG.EN d) && !s.resetting 0x29 && s.get (TDD.SYNC_STAT.STATE (s.get (DIV.CFG.PAT d))) == tTrack
    && s.get (SYN.SYN_STAT.STEP (s.get (DIV.CFG.RXA d) / 4)) == yRunning && s.flag (chanPwr (s.divOther d))

/-- The expected instant of the last burst of a port's pattern. (DESIGN CHOICE: log 53) -/
def State.divBurst (s : State) (d : Nat) : Nat := (s.pat (s.get (DIV.CFG.PAT d))).burstAt

/-- The window of a burst that has not been measured yet ends: the difference in 0.1 dB is filtered, and a switch may be decided (R278).
(DESIGN CHOICE: log 53) -/
def State.divDecide (s : State) (d : Nat) (diff : Int) : State :=
  if !s.divReady d || (s.dv d).seen == s.divBurst d + 1 then s
  else
    let s := (s.until (s.divBurst d + 256)).modDv d fun x => { x with seen := s.divBurst d + 1 }
    let x := s.dv d
    let f := x.filt + divQ (16 * diff - x.filt) (2 ^ s.get DIV.POLICY.AVG : Nat)
    let shown := clampInt (-128) 127 (divQ f 16)
    let s := (s.modDv d fun x => { x with filt := f, bursts := min 15 (x.bursts + 1) }).set (DIV.STAT.DIFF d) (toField 8 shown)
    if (s.get DIV.POLICY.HYST : Int) ≤ shown ∧ s.get DIV.POLICY.HOLD ≤ (s.dv d).bursts ∧ !s.flag (DIV.STAT.PEND d) then
      (s.modDv d fun x => { x with decAt := s.now, pastS1 := false }).set (DIV.STAT.PEND d) 1
    else s

def execDiversityDecision (d : Fin 8) (diff : Int) (s : State) : Host.Outcome State Fault Refusal := .next (s.divDecide d diff)

/-- The diversity slots of a port in a direction (R276). -/
def State.divSlots (s : State) (d : Nat) (up : Bool) : List Nat :=
  s.enabled.filter fun i => s.uplink i == up && s.tdd i == s.get (DIV.CFG.PAT d) &&
    (if up then (s.branches i).contains (s.get (DIV.CFG.TXD d)) else s.rxOf i == s.get (DIV.CFG.RXA d))

/-- A diversity slot changes groups at its commit point, where it has two, and takes the cap of a divergence (R192, R279). -/
def State.divSlot (s : State) (i : Nat) : State :=
  let s := if (s.cs i).layAlt then (s.modCs i fun x => { x with swapDue := true }).commitPoint i else s
  if s.inReset then s else s.divergeCap i

/-- The switch lines whose instant has come change: the line selects the aerial that the switch goes to (R276, R278).
(DESIGN CHOICE: log 53) -/
def State.divLines (s : State) : State :=
  (List.range 8).foldl (fun s d => match (s.dv d).lineAt with
    | some t => if t ≤ s.now then (s.setLine (s.get (DIV.CFG.LINE d)) (s.flag (DIV.STAT.ACTIVE d) != (s.dv d).pastS1)).modDv d fun x => { x with lineAt := none } else s
    | none => s) s

/-- S1: the uplink slots change groups, and the switch line follows SW_TICK ticks later (R278). (DESIGN CHOICE: log 53) -/
def State.divUplink (s : State) (d : Nat) : State :=
  let x := s.dv d
  if !s.flag (DIV.CFG.EN d) || !s.flag (DIV.STAT.PEND d) || x.pastS1 || s.resetting 0x29 then s
  else
    let s := s.until ((s.pat (s.get (DIV.CFG.PAT d))).nextStart 1 (max s.now (x.decAt + us 100)))
    let s := s.modDv d fun x => { x with pastS1 := true, s1At := s.now, lineAt := some (s.now + s.get DIV.POLICY.SW_TICK) }
    let s := (s.divSlots d true).foldl (fun s i => s.divSlot i) s
    if s.inReset then s else s.divLines

def execDiversitySwitchUl (d : Fin 8) (s : State) : Host.Outcome State Fault Refusal := ok (s.divUplink d)

/-- S2: the downlink slots take the other channel and change groups; the switch is complete and in Frugal the channel that is in use no more powers
down (R19, R276, R278). (DESIGN CHOICE: log 53) -/
def State.divDownlink (s : State) (d : Nat) : State :=
  let x := s.dv d
  if !s.flag (DIV.CFG.EN d) || !s.flag (DIV.STAT.PEND d) || !x.pastS1 || s.resetting 0x29 then s
  else
    let s := s.until ((s.pat (s.get (DIV.CFG.PAT d))).nextStart 0 (max s.now (x.s1At + 1)))
    let s := s.divLines
    let s := ((s.put (DIV.STAT.ACTIVE d) (!s.flag (DIV.STAT.ACTIVE d))).set (DIV.STAT.PEND d) 0).wrap (DIV.STAT.SWITCHES d)
    let s := s.modDv d fun x => { x with bursts := 0, filt := -x.filt, pastS1 := false }
    let s := s.set (DIV.STAT.DIFF d) (toField 8 (clampInt (-128) 127 (divQ (s.dv d).filt 16)))
    let s := (s.divSlots d false ++ s.divSlots d true).foldl (fun s i => s.modGv i fun g => { g with reseed := 8 }) s
    let s := (s.divSlots d false).foldl (fun s i => s.divSlot i) s
    s.trimChannels.fire 0x29 DIV.src.DIV_SWITCH {}

def execDiversitySwitchDl (d : Fin 8) (s : State) : Host.Outcome State Fault Refusal := ok (s.divDownlink d)

end Sys2Proof.Machine
end

