-- ==== Sys2Proof/Machine/PowerTables.lean ====
section
/-! DEFINITION. Power tables, bias profiles and transmit enables of the ports (R280 to R283, R312). -/
namespace Sys2Proof.Machine
open Sys2Proof

/-! Tables -/

/-- PEND of a port. -/
def State.pwtPend (s : State) (p : Nat) : Bool := tbit (s.get PWT.PEND.PORTS) p

/-- A write to a shadow whose commit is pending is dropped (R280). -/
def State.pwtLocked (s : State) (m : Nat) : State := s.fire 0x2A PWT.src.PWT_LOCKED { master := m }

/-- The entry that SEL names, and INDEX stepping on after an access. -/
def State.pwtKey (s : State) : Nat := 256 * s.get PWT.SEL.PORT + s.get PWT.SEL.INDEX
def State.pwtNext (s : State) : State := s.set PWT.SEL.INDEX (s.get PWT.SEL.INDEX + 1)

/-- The word that a read of DATA returns. -/
def State.pwtRead (s : State) : Nat := Tab.get 0 s.pwt (s.pwtKey + if s.flag PWT.SEL.BANK then 8192 else 0)

/-- A write of DATA; bits 19:12 hold 0, and the live bank is read only (R280). (DESIGN CHOICE: log 49) -/
def State.pwtWrite (s : State) (m : Nat) (v : Word) : State :=
  let x := v.toNat - bits v.toNat 12 8 * 4096
  if s.flag PWT.SEL.BANK then s.pwtNext
  else if s.pwtPend (s.get PWT.SEL.PORT) then s.pwtNext.pwtLocked m
  else ({ s with pwt := Tab.set 0 s.pwt s.pwtKey x } : State).pwtNext

/-- The profile that PROF_SEL names, and PROF stepping on after an access. -/
def State.profKey (s : State) : Nat := 16 * s.get PWT.PROF_SEL.PORT + s.get PWT.PROF_SEL.PROF
def State.profNext (s : State) : State := s.set PWT.PROF_SEL.PROF (s.get PWT.PROF_SEL.PROF + 1)

/-- A write of PROF_DATA (R280). -/
def State.profWrite (s : State) (m : Nat) (v : Word) : State :=
  if s.pwtPend (s.get PWT.PROF_SEL.PORT) then s.profNext.pwtLocked m
  else ({ s with pwtProf := Tab.set 0 s.pwtProf s.profKey (bits v.toNat 0 16) } : State).profNext

/-- A write of PWT.DATA by a master. -/
def State.pwtDataWrite (s : State) (m : Master) (v : Word) : State :=
  s.guarded m 0x2A044 v fun t => t.pwtWrite m.num v

/-- A write of PROF_DATA by a master. -/
def State.profDataWrite (s : State) (m : Master) (v : Word) : State :=
  s.guarded m 0x2A054 v fun t => t.profWrite m.num v

def execPwtDataAccess (m : Master) (prof : Bool) (write : Bool) (v : Word) (s : State) : Host.Outcome State Fault Refusal :=
  Machine.ok (match prof, write with
    | false, true => s.pwtDataWrite m v
    | false, false => s.ask.readBy m 0x2A044 State.pwtRead State.pwtNext
    | true, true => s.profDataWrite m v
    | true, false => s.ask.readBy m 0x2A054 (fun t => Tab.get 0 t.pwtProf t.profKey) State.profNext)

/-- The effect of a write of COMMIT (R280). -/
def State.pwtCommit (s : State) (v : Word) : State :=
  ((List.range 32).filter fun p => v.getLsbD p && !s.pwtPend p).foldl
    (fun s p => { s.putBit PWT.PEND.PORTS p true with pwtAt := Tab.set 0 s.pwtAt p s.now }) s

/-- A write of COMMIT by a master. -/
def State.pwtCommitWrite (s : State) (m : Master) (v : Word) : State :=
  s.guarded m 0x2A048 v fun t => t.pwtCommit v

def execPwtCommit (m : Master) (v : Word) (s : State) : Host.Outcome State Fault Refusal := Machine.ok (s.pwtCommitWrite m v)

/-- A port's shadow table and profiles become live at the boundary (R280). -/
def State.pwtLive (s : State) (p : Nat) : State :=
  if !s.pwtPend p || s.resetting 0x2A then s
  else
    let s := s.until (s.frameAt (max s.now (Tab.get 0 s.pwtAt p + 1)))
    { s.putBit PWT.PEND.PORTS p false with
      pwt := Tab.copy 0 s.pwt (256 * p) (8192 + 256 * p) 256, pwtProf := Tab.copy 0 s.pwtProf (16 * p) (512 + 16 * p) 16 }

def execPwtTableLive (p : Fin 32) (s : State) : Host.Outcome State Fault Refusal := .next (s.pwtLive p)

/-! Steps -/

/-- A port's bound channel moves to the bias code of its entry in force (R282, R312). -/
def State.pwtBias (s : State) (p : Nat) : State :=
  let c := s.get (PWT.PORT_CFG.BIAS_CH p)
  let s : State := { s with pwtCode := Tab.set 0 s.pwtCode p (s.profCode p (s.get (PWT.PORT_STAT.INDEX p))) }
  if s.biasFree c && !s.isSafe c && (s.ch c).range == 0 then s.startMove c else s

/-- A decided step is applied at its boundary; its attenuator frame was queued at the decision (R282). (DESIGN CHOICE: log 49) -/
def State.pwtStep (s : State) (p : Nat) : State :=
  let x := Tab.get 0 s.pwtStepAt p
  if x = 0 || s.pageOff 0x2A then s
  else
    let e := (x - 1) % 256
    let w := Tab.get 0 s.pwt (8192 + 256 * p + e)
    let s := (s.until ((x - 1) / 256)).set (PWT.PORT_STAT.INDEX p) e
    let s : State := { s with pwtStepAt := Tab.set 0 s.pwtStepAt p 0, pwtWord := Tab.set 0 s.pwtWord p w }
    if s.flag (PWT.PORT_CFG.BIAS_EN p) then s.pwtBias p else s

def execPwtStep (p : Fin 32) (s : State) : Host.Outcome State Fault Refusal := ok (s.pwtStep p)

/-! Binding -/

/-- A notice of a bias channel's page, with the channel in NOTE_CH (R312, R318). -/
def State.biasNote (s : State) (c b m : Nat) : State := (s.set (BIA.NOTE_CH.CH (c / 32)) c).fire (0x0B + c / 32) b { master := m }

/-- BOUND of a channel follows the ports; a channel that is bound or freed moves to its target, and a waveform stops at a binding
(R312). -/
def State.syncBound (s : State) (c : Nat) : State :=
  let b := (s.boundPort c).isSome
  if b = s.flag (bBound c) then s
  else
    let s := s.put (bBound c) b
    let s := if b && s.get (bGen c) != 0 then s.modCh c fun x => { x with stopped := true } else s
    if s.biasFree c && !s.isSafe c && (s.ch c).range == 0 then s.startMove c else s

/-- The channel that a word binds is bound to another port (R312). (DESIGN CHOICE: log 49) -/
def State.bindClash (s : State) (p : Nat) (v : Word) : Bool :=
  (PWT.PORT_CFG.BIAS_EN 0).of v == 1 &&
    (List.range 32).any fun q => q != p && s.flag (PWT.PORT_CFG.BIAS_EN q) && s.get (PWT.PORT_CFG.BIAS_CH q) == (PWT.PORT_CFG.BIAS_CH 0).of v

/-- The effect of a write of PORT_CFG_p (R280, R312). (DESIGN CHOICE: log 49) -/
def State.portCfg (s : State) (m p : Nat) (v : Word) : State :=
  if s.bindClash p v then s.biasNote ((PWT.PORT_CFG.BIAS_CH 0).of v) BIA.src.BIAS_BOUND m
  else
    let old := s.get (PWT.PORT_CFG.BIAS_CH p)
    let s := s.writeReg (0x2A100 + 4 * p) v
    let s : State := if s.flag (PWT.PORT_CFG.BIAS_EN p) then
        { s with pwtCode := Tab.set 0 s.pwtCode p (s.profCode p (s.get (PWT.PORT_STAT.INDEX p))) } else s
    (s.syncBound old).syncBound (s.get (PWT.PORT_CFG.BIAS_CH p))

/-- A write of PORT_CFG by a master. -/
def State.portCfgWrite (s : State) (m : Master) (p : Nat) (v : Word) : State :=
  s.guarded m (0x2A100 + 4 * p) v fun t => t.portCfg m.num p v

def execPwtPortCfgWrite (m : Master) (p : Fin 32) (v : Word) (s : State) : Host.Outcome State Fault Refusal :=
  Machine.ok (s.portCfgWrite m p v)

/-! Transmit enable -/

/-- An enable is refused with SYNTH_NOT_READY, and its notice names the port (R283). -/
def State.txRefuse (s : State) (p : Nat) : State :=
  ((s.putBit PWT.TXEN.REQ p false).putBit PWT.TXPEND.PEND p false).putBit PWT.TXREFUSED.SNR p true
def State.txRefused (s : State) (m p : Nat) : State := s.fire 0x2A PWT.src.TXEN_REFUSED { master := m, detail := [p, s.synStep (p / 4)] }

/-- An enable is applied, or a pending one ends. -/
def State.txApply (s : State) (p : Nat) : State := (s.putBit PWT.TXPEND.PEND p false).putBit PWT.TXON.ON p true

/-- A write names a port with its REQ bit 1, or 0: an enable is applied on a locked clock, and waits while a change runs or STANDBY has the
synthesiser down (R80, R283). -/
def State.txPort (s : State) (p : Nat) (req : Bool) : State :=
  if !req then ((s.putBit PWT.TXEN.REQ p false).putBit PWT.TXPEND.PEND p false).putBit PWT.TXON.ON p false
  else if tbit (s.get PWT.TXEN.REQ) p then s
  else
    let s := s.putBit PWT.TXEN.REQ p true
    let st := s.synStep (p / 4)
    if s.flag (SYN.SYN_STAT.READY (p / 4)) && (st == yRunning || st == yConvcal) then s.txApply p
    else if yDrain ≤ st ∧ st ≤ yRunning then { s.putBit PWT.TXPEND.PEND p true with txenAt := Tab.set 0 s.txenAt p (s.now + 1) }
    else s.txRefuse p

/-- A write refuses the enable of a port: its chiplet is OFF or FAILED (R283). -/
def State.txBad (s : State) (v : Word) (p : Nat) : Bool :=
  v.getLsbD p && !tbit (s.get PWT.TXEN.REQ) p && (s.synStep (p / 4) == yOff || decide (yRunning < s.synStep (p / 4)))

/-- The effect of a write of TXEN: every port, and then the notices of those refused. -/
def State.txenW (s : State) (m : Nat) (v : Word) : State :=
  let bad := (List.range 32).filter (s.txBad v)
  let s := (List.range 32).foldl (fun s p => s.txPort p (v.getLsbD p)) s
  bad.foldl (fun s p => s.txRefused m p) s

/-- A write of TXEN by a master. -/
def State.txenWrite (s : State) (m : Master) (v : Word) : State :=
  s.guarded m 0x2A058 v fun t => t.txenW m.num v

def execTxenWrite (m : Master) (v : Word) (s : State) : Host.Outcome State Fault Refusal := Machine.ok (s.txenWrite m v)

/-- A pending enable of a port. -/
def State.txPending (s : State) (p : Nat) : Bool := tbit (s.get PWT.TXPEND.PEND) p

/-- The chiplet is READY within t_TXPEND: the enable is applied (R283). -/
def execTxenPendingApply (p : Fin 32) (s : State) : Host.Outcome State Fault Refusal :=
  .next (if s.txPending p && s.flag (SYN.SYN_STAT.READY (p / 4)) && s.now + 1 ≤ Tab.get 0 s.txenAt p + us 500 then s.txApply p else s)

/-! The end of a block reset -/

/-- What a block takes up again after its reset: slots that need sync are held until their patterns track, and the transmit enables that
are asked for are judged again (R271, R283, R447). (DESIGN CHOICE: log 73) -/
def State.resetOver (s : State) (p : Nat) : State :=
  if p = 0x0E then s.enabled.foldl (fun s i => s.syncHold i) s
  else if p = 0x2A then
    ((List.range 32).filter fun q => tbit (s.get PWT.TXEN.REQ) q).foldl (fun s q => (s.putBit PWT.TXEN.REQ q false).txPort q true) s
  else if p = 0x2C then s.followLink
  else s

def execBlockResetEnd (p : Fin 128) (s : State) : Host.Outcome State Fault Refusal :=
  ok (if s.flag (HDR.PAGE_STAT.RESET_ACTIVE p) then ((((s.countBads.blockEnd p State.slotOff).resetOver p).syncClocks).countBads) else s)

/-- t_TXPEND passes without READY; it does not run in STANDBY (R80, R283). (DESIGN CHOICE: log 34) -/
def State.txTimeout (s : State) (p : Nat) : State :=
  if s.txPending p && s.get PWR.PWR_CMD.STATE != pStandby && !s.flag (SYN.SYN_STAT.READY (p / 4)) then ((s.until (Tab.get 0 s.txenAt p - 1 + us 500)).txRefuse p).txRefused 7 p else s

def execTxenPendingTimeout (p : Fin 32) (s : State) : Host.Outcome State Fault Refusal := Machine.ok (s.txTimeout p)

end Sys2Proof.Machine
end

