-- ==== Sys2Proof/Machine/Protection.lean ====
section
/-! DEFINITION. Power clamp, uplink noise, emission mask and the comparator copies (R285, R288 to R294, R298). Levels are in
0.01 dB here; the lock's are in 0.1 dB. -/
namespace Sys2Proof.Machine
open Sys2Proof

/-- Attenuations as PROT_STAT shows them, in 0.25 dB, saturating (R306). -/
def quarter (z : Nat) : Nat := (clampInt 0 255 (divQ z 25)).toNat

/-! Power clamp -/

/-- The slots that contribute to the sum of port `p` and range `r` (R288). (DESIGN CHOICE: log 54) -/
def State.sumSlots (s : State) (p r : Nat) : List Nat :=
  s.active.filter fun i => s.carries i && (s.branches i).contains p && s.txRange i (s.liveOf i).txCentre == some r

/-- The port power limit at the TX ball (R285). -/
def State.portLimit (s : State) (p r : Nat) : Int := 10 * (sext 16 (s.get (REGL.RANGE_2.P_MAX r)) - sext 16 (s.get (REGL.TX_GAIN.G_TX_MAX p)))

/-- APPLIED of a slot that carries output moves by a change of its power clamp alone; the other limits act at the next write phase (R16,
R289, R290). -/
def State.shiftGain (s : State) (i : Nat) (d : Int) : State :=
  if s.sounds i then
    s.takeGain i (if 0 < (s.gv i).pclamp then 4 else (s.gainLimit i).1, clampInt (-2047) 2047 (sext 12 (s.get (SLP.GAIN_STAT.APPLIED i)) + d))
  else s.silence i

/-- A slot's power clamp takes a value (R289, R290). -/
def State.setPclamp (s : State) (i z : Nat) : State :=
  let d : Int := ((s.gv i).pclamp : Int) / 5 - (z : Int) / 5
  ((s.modGv i fun g => { g with pclamp := z, pAt := s.now }).set (GOV.PROT_STAT.PCLAMP i) (quarter z)).shiftGain i d

/-- A slot's clamp rises by E + 0.5 dB over the value in force at the trip; of several sums that trip at one instant the largest counts
(R289). (DESIGN CHOICE: log 54) -/
def State.trip (s : State) (i e : Nat) : State :=
  let g := s.gv i
  let base := if g.tripAt = some s.now then g.tripBase else g.pclamp
  (s.modGv i fun g => { g with tripAt := some s.now, tripBase := base }).setPclamp i (max g.pclamp (base + e + 50))

/-- A trip by `e` on the slots of a sum: their clamps, and then the notices (R289). -/
def State.clampTrip (s : State) (p r e : Nat) (l : List Nat) : State :=
  let s := l.foldl (fun s i => s.trip i e) s
  l.foldl (fun s i => s.fire 0x23 GOV.src.PWR_CLAMP { slot := some i, detail := [p, r] ++ leBytes 2 (min 0x7FFF e) }) s

/-- The sum of a port and range in 0.01 dBm: over the slots that contribute, the mean power after the slot gain in 0.01 dB of full scale,
with the port's DGAIN and full scale added (R288). -/
def State.portSum (s : State) (p r : Nat) (powers : List (Nat × Int)) : Int :=
  levelOf (((s.sumSlots p r).map fun i => match powers.find? (·.1 == i) with
    | some x => powerOf (x.2 + s.dgain p + 100 * s.fsTx p)
    | none => 0).sum)

/-- A comparator window ends, with the mean power of each slot after its gain (R288 to R290). -/
def State.windowEnd (s : State) (p r : Nat) (powers : List (Nat × Int)) : State :=
  let l := s.sumSlots p r
  let sum := s.portSum p r powers
  let lim := s.portLimit p r
  let s := if lim - 100 < sum then l.foldl (fun s i => s.modGv i fun g => { g with pLow := some s.now }) s else s
  if lim < sum then s.clampTrip p r (sum - lim).toNat l else s

def execPowerWindowEnd (p : Fin 32) (r : Fin 64) (powers : List (Nat × Int)) (s : State) : Host.Outcome State Fault Refusal :=
  Machine.ok (s.windowEnd p r powers)

/-- An instant lies at least `d` ticks back, or there is none. -/
def State.past (s : State) (t : Option Nat) (d : Nat) : Bool := match t with | some t => t + d ≤ s.now | none => true

/-- The clamp falls (R290). -/
def State.pclampFall (s : State) (i : Nat) : State :=
  if (s.gv i).pclamp = 0 || !s.active.contains i || s.stopped 0x23 then s
  else
    let s := s.until ((s.gv i).pAt + ms 10)
    if s.past (s.gv i).pLow (ms 10) then s.setPclamp i ((s.gv i).pclamp - 50) else s

def execPclampDecay (i : Fin 512) (s : State) : Host.Outcome State Fault Refusal := .next (s.pclampFall i)

/-! Uplink noise -/

/-- The NOISE ceiling of a slot's range; none where the range has none (R291, R301). -/
def State.noiseCeiling (s : State) (i : Nat) : Option Int :=
  match s.txRange i (s.liveOf i).txCentre with
  | none => none
  | some r => if s.get (REGL.RANGE_3.NOISE r) = 0x7FFF then none else some (10 * sext 16 (s.get (REGL.RANGE_3.NOISE r)))

/-- A slot's noise reduction takes a value; its maximum gain follows at the next write phase (R292). -/
def State.setNred (s : State) (i z : Nat) : State :=
  (s.modGv i fun g => { g with nred := z, nAt := s.now }).set (GOV.PROT_STAT.NRED i) (quarter z)

/-- The mean residual power of a bin over frames, where one reports it (R291). -/
def binPower (l : List (Nat × List (Nat × Nat))) (b : Nat) : Option Nat :=
  let v := l.filterMap fun x => (x.2.find? fun y => y.1 == b).map (·.2)
  if v.isEmpty then none else some (v.sum / v.length)

/-- The output density of a slot in the in-band bins in 0.01 dB of full scale in 1 MHz: residual power times G(b), over the bin's width of
0.015 MHz for each unit of the working rate (R218, R291). -/
def State.densities (s : State) (i : Nat) : List Int :=
  let l := (s.gv i).noise.filter fun x => s.now < x.1 + ms 4
  ((List.range 512).filter inBand).filterMap fun b =>
    (binPower l b).map fun v => levelOf v - ratioLevel (15 * s.units i) 1000

/-- The 10th percentile of a list (R291). (DESIGN CHOICE: log 54) -/
def tenth (l : List Int) : Option Int :=
  l.find? fun x => (l.filter fun y => y < x).length ≤ l.length / 10 && l.length / 10 < (l.filter fun y => y ≤ x).length

/-- The noise estimate of a slot in 0.01 dBm/MHz at the antenna, the highest of its branches; none without a frame in the last 4 ms
(R291). (DESIGN CHOICE: log 54) -/
def State.noiseEst (s : State) (i : Nat) : Option Int :=
  (tenth (s.densities i)).bind fun d =>
    ((s.branches i).map fun p => d + s.dgain p + 100 * s.fsTx p + 10 * sext 16 (s.get (REGL.TX_GAIN.G_TX_MAX p))).max?

/-- The estimate of an uplink slot updates at a 1 ms boundary (R291, R292). (DESIGN CHOICE: log 2) -/
def State.noiseUpdate (s : State) (i later : Nat) : State :=
  if !s.running i || !s.uplink i || s.stopped 0x23 then s
  else
    let s := s.until (s.frameAt (max s.now ((s.gv i).noiseAt + 1)) + 983040 * later)
    let s := s.modGv i fun g => { g with noiseAt := s.now }
    match s.noiseCeiling i, s.noiseEst i with
    | some c, some est =>
      let s := if c - 100 < est then s.modGv i fun g => { g with nLow := some s.now } else s
      if est ≤ c then s
      else
        let s := s.setNred i ((s.gv i).nred + (est - c).toNat + 50)
        s.fire 0x23 GOV.src.NOISE_RED
          { slot := some i, detail := leBytes 2 (toField 16 (clampInt (-32768) 32767 est)) ++ [s.get (GOV.PROT_STAT.NRED i)] }
    | _, _ => s

def execNoiseEstimateUpdate (i : Fin 512) (later : Nat) (s : State) : Host.Outcome State Fault Refusal := Machine.ok (s.noiseUpdate i later)

/-- The reduction falls (R292). -/
def State.nredFall (s : State) (i : Nat) : State :=
  if (s.gv i).nred = 0 || !s.active.contains i || s.stopped 0x23 then s
  else
    let s := s.until ((s.gv i).nAt + ms 100)
    if s.past (s.gv i).nLow (ms 100) then s.setNred i ((s.gv i).nred - 50) else s

def execNoiseRedDecay (i : Fin 512) (s : State) : Host.Outcome State Fault Refusal := .next (s.nredFall i)

/-! Emission mask -/

/-- Bin `b` MHz lies outside the guarded band of a slot (R293). -/
def State.unguarded (s : State) (b i : Nat) : Bool :=
  let half : Int := 3072000 * s.units i + max 5000000 (768000 * s.units i)
  let c : Int := 2 * (s.liveOf i).txCentre
  decide (1000000 * ((b : Int) + 1) ≤ c - half) || decide (c + half ≤ 1000000 * (b : Int))

/-- The enabled slots with a branch on a transmit channel. -/
def State.onBranch (s : State) (p : Nat) : List Nat := s.enabled.filter fun i => (s.branches i).contains p

/-- The emission limit of a bin in 0.01 dBm/MHz (R293, R301). -/
def State.emisLimit (s : State) (b : Nat) : Int :=
  if (List.range (s.get REGL.STATE.NRANGES)).any fun r =>
      s.get (REGL.RANGE_0.F_LO r) ≤ 1000 * b && 1000 * (b + 1) ≤ s.get (REGL.RANGE_1.F_HI r) then 10 * sext 16 (s.get REGL.EMIS.IN)
  else 10 * sext 16 (s.get REGL.EMIS.OUT)

/-- A bin's coupler level is over the limit of a protected bin (R285, R293). -/
def State.overMask (s : State) (p : Nat) (x : Nat × Int) : Bool :=
  (s.onBranch p).all (s.unguarded x.1) && decide (s.emisLimit x.1 < x.2 + 10 * sext 16 (s.get (REGL.TX_GAIN.CPL_OFS p)))

/-- An observation receiver dwells validly on the coupler of port `p` in a zone for the whole of a segment (R150, R293). -/
def State.dwelling (s : State) (p zone : Nat) : Bool :=
  s.flag (SYN.SYN_STAT.READY (p / 4)) && (List.range 2).any fun r =>
    let w := (s.plan (p / 4) r).getD (s.get (obsEnt (p / 4) r)) 0
    tbit w 31 && bits w 12 1 == zone && bits w 8 2 == p % 4 && decide (Tab.get 0 (s.chip (p / 4)).dwellAt r + us 18 ≤ s.now)

/-- The zone of a slot's transmit band on a port (R135, R152). -/
def State.zoneOf (s : State) (p i : Nat) : Nat :=
  if s.bandHi i (s.liveOf i).txCentre ≤ zoneEdge (s.get (SYN.SYN_STAT.PLAN_NOW (p / 4))) then 0 else 1

/-- The MASK mute of a slot (R287, R294). (DESIGN CHOICE: log 54) -/
def State.maskMute (s : State) (i : Nat) : State :=
  let was := s.flag (GOV.PROT_STAT.MASK i)
  let s := s.modGv i fun g => { g with maskEnd := s.now + ms (10 * s.get GOV.PROT_CFG.MASK_HOLD) }
  if was then s else (s.protMute i (GOV.PROT_STAT.MASK i)).countMute i

/-- A trip in bin `b` (R294). (DESIGN CHOICE: log 54) -/
def State.maskTrip (s : State) (p zone b : Nat) : State :=
  let s := ((s.set GOV.MASK_NOTE.TX p).set GOV.MASK_NOTE.ZONE zone).set GOV.MASK_NOTE.MHZ b
  let l := (s.onBranch p).filter fun i => s.zoneOf p i == zone
  let latched := l.filter fun i => s.flag (GOV.PROT_STAT.LATCHED i)
  let s := l.foldl (fun s i => s.maskMute i) s
  let s := l.foldl (fun s i => s.latchNote (latched.contains i) i) s
  s.fire 0x23 GOV.src.MASK_MUTE { detail := leBytes 4 (s.assemble (fieldsAt 0x23074)) }

/-- A 1 MHz bin lies in an observation zone of a port's chiplet (R135, R293). -/
def State.inZone (s : State) (p zone b : Nat) : Bool :=
  let e := zoneEdge (s.get (SYN.SYN_STAT.PLAN_NOW (p / 4)))
  if zone = 0 then decide (1000000 * ((b : Int) + 1) ≤ e) else decide (e ≤ 1000000 * (b : Int)) && decide (1000000 * ((b : Int) + 1) ≤ 2 * e)

/-- A segment is analysed: the bins' coupler levels in 0.01 dBm. The lowest bin that trips is noted (R293, R294). -/
def State.maskSegment (s : State) (p zone : Nat) (l : List (Nat × Int)) : State :=
  if !s.dwelling p zone then s
  else
    let key := fun b => 8192 * (2 * p + zone) + b
    let high := (l.filter fun x => x.1 < 8192 && s.inZone p zone x.1 && s.overMask p x).map (·.1)
    let trip := high.filter fun b => Tab.get 0 s.maskSeen (key b) != 0 && decide (Tab.get 0 s.maskSeen (key b) - 1 + us 10 ≤ s.now)
    let s : State := { s with maskSeen := high.foldl (fun t b => if Tab.get 0 t (key b) = 0 then Tab.set 0 t (key b) (s.now + 1) else t) s.maskSeen }
    match trip with
    | [] => s
    | b :: t =>
      let s : State := { s with maskSeen := trip.foldl (fun m b => Tab.set 0 m (key b) 0) s.maskSeen }
      s.maskTrip p zone (t.foldl min b)

def execMaskSegment (p : Fin 32) (zone : Bool) (bins : List (Nat × Int)) (s : State) : Host.Outcome State Fault Refusal :=
  ok (s.maskSegment p zone.toNat bins)

/-- MASK_HOLD expires (R294). -/
def State.maskEnd (s : State) (i : Nat) : State :=
  if s.flag (GOV.PROT_STAT.MASK i) then (s.until (s.gv i).maskEnd).protFree i (GOV.PROT_STAT.MASK i) else s

def execMaskMuteEnd (i : Fin 512) (s : State) : Host.Outcome State Fault Refusal := ok (s.maskEnd i)

/-! Comparator copies -/

/-- A group's copy of a range is that of the lock (R298). -/
def State.copySame (s : State) (g r : Nat) : Bool :=
  let k := fun j => Tab.get 0 s.copies (192 * g + 3 * r + j)
  k 0 == s.get (REGL.RANGE_0.F_LO r) && k 1 == s.get (REGL.RANGE_1.F_HI r) && k 2 == s.get (REGL.RANGE_0.DIR r)

/-- Tansy compares every comparator copy with the lock (R298, R299). -/
def State.compareCopies (s : State) : State :=
  ({ s with lockSame := (List.range 8).all (fun g => (List.range 64).all (s.copySame g)), lockCmpAt := s.now } : State).updPermit

/-- Words of the copies that a fault has changed since the last comparison take their new values. -/
def State.upsetCopies (s : State) (l : List (Nat × Nat)) : State :=
  { s with copies := l.foldl (fun t x => if x.1 < 1536 then Tab.set 0 t x.1 x.2 else t) s.copies }

/-- The comparison of each second, after the words that a fault has changed (R298). (DESIGN CHOICE: log 54) -/
def execLockCopyCompare (upsets : List (Nat × Nat)) (s : State) : Host.Outcome State Fault Refusal :=
  ok (if s.tansy.booted && !s.inReset then ((s.upsetCopies upsets).until (s.lockCmpAt + ms 1000)).compareCopies else s)

end Sys2Proof.Machine
end

