-- ==== Sys2Proof/Machine/Bias.lean ====
section
/-! DEFINITION. Bias outputs: the limiter's ticks, writes of VAL, CFG and GEN, SAFE and the bias supply (R307 to R319). -/
namespace Sys2Proof.Machine
open Sys2Proof

def execBiasSlewTick (c : Fin 64) (s : State) : Host.Outcome State Fault Refusal := Machine.ok (if s.inReset then s else s.slewTick c)

def execBiasSpanSwitch (c : Fin 64) (s : State) : Host.Outcome State Fault Refusal := Machine.ok (if s.inReset then s else s.spanSwitch c)

/-- Byte address of word `w` of channel `c`'s block (R319). -/
def biasAddr (c w : Nat) : Nat := 0xB100 + 0x1000 * (c / 32) + 0x20 * (c % 32) + 4 * w

/-- A binding acts: the channel is bound, and not SAFE (R312, R314). -/
def State.bindActs (s : State) (c : Nat) : Bool := s.flag (bBound c) && !s.isSafe c

/-- The channel moves to its target, where it may move and no range change is on its way to it. -/
def State.retarget (s : State) (c : Nat) : State := if s.biasFree c && (s.ch c).range == 0 then s.startMove c else s

/-- The effect of a write of VAL (R310, R312, R318). (DESIGN CHOICE: log 55) -/
def State.biasVal (s : State) (m c : Nat) (v : Word) : State :=
  let sp := bits v.toNat 16 2
  if s.bindActs c then s.biasNote c BIA.src.BIAS_BOUND m
  else if s.isSafe c then s.writeReg (biasAddr c 1) v
  else if ((s.ch c).range ≠ 0 ∧ sp ≠ (s.ch c).spanTo) ∨ (s.get (bGen c) ≠ 0 ∧ sp ≠ s.get (BIA.VAL.SPAN (c / 32) (c % 32))) then
    s.biasNote c BIA.src.BIAS_BUSY m
  else
    let s := s.writeReg (biasAddr c 1) v
    if s.generating c then s else s.retarget c

/-- A write of VAL by a master. -/
def State.biasValWrite (s : State) (m : Master) (c : Nat) (v : Word) : State := s.guarded m (biasAddr c 1) v fun t => t.biasVal m.num c v

def execBiasValWrite (m : Master) (c : Fin 64) (v : Word) (s : State) : Host.Outcome State Fault Refusal := Machine.ok (s.biasValWrite m c v)

/-- A generator starts from CODE_NOW, moving up; the noise register is seeded (R311). -/
def State.genStart (s : State) (c : Nat) : State := s.modCh c fun x => { x with up := true, saw := false, lfsr := c + 1, stopped := false }

/-- The effect of a write of CFG (R311, R312, R318). (DESIGN CHOICE: log 55) -/
def State.biasCfg (s : State) (m c : Nat) (v : Word) : State :=
  let g := bits v.toNat 28 2
  let old := s.get (bGen c)
  if g ≠ 0 ∧ s.bindActs c then s.biasNote c BIA.src.BIAS_BOUND m
  else if g ≠ 0 ∧ (s.ch c).range ≠ 0 ∧ !s.isSafe c then s.biasNote c BIA.src.BIAS_BUSY m
  else
    let s := (s.keepInterval c).writeReg (biasAddr c 0) v
    let s := if g ≠ 0 ∧ (g ≠ old ∨ (s.ch c).stopped) then s.genStart c else s
    if g ≠ old ∧ !s.isSafe c then s.retarget c else s

/-- A write of CFG by a master. -/
def State.biasCfgWrite (s : State) (m : Master) (c : Nat) (v : Word) : State := s.guarded m (biasAddr c 0) v fun t => t.biasCfg m.num c v

/-- A write of GEN_j by a master; LO at or above HI is reserved (R311). -/
def State.biasGenWrite (s : State) (m : Master) (c : Nat) (v : Word) : State :=
  s.guardedBy m (biasAddr c 3) v (fieldsAt (biasAddr c 3)) (bits v.toNat 0 16 < bits v.toNat 16 16) fun t => t.writeReg (biasAddr c 3) v

def execBiasGenWrite (m : Master) (c : Fin 64) (gen : Bool) (v : Word) (s : State) : Host.Outcome State Fault Refusal :=
  Machine.ok (if gen then s.biasGenWrite m c v else s.biasCfgWrite m c v)

/-- SAFE ends on a channel, which moves to the target that its registers name (R314). (DESIGN CHOICE: log 49) -/
def State.resumeCh (s : State) (c : Nat) : State :=
  let s := s.putBit (BIA.SAFE_STAT.SAFE (c / 32)) (c % 32) false
  let s := if s.get (bGen c) ≠ 0 ∧ !(s.ch c).stopped then s.genStart c else s
  s.retargetNow c

/-- The effect of a write of RESUME (R314). -/
def State.biasResume (s : State) (i : Nat) (v : Word) : State :=
  ((List.range 32).filter fun j => v.getLsbD j && s.isSafe (32 * i + j)).foldl (fun s j => s.resumeCh (32 * i + j)) s

/-- A write of RESUME by a master. -/
def State.biasResumeWrite (s : State) (m : Master) (i : Nat) (v : Word) : State :=
  s.guarded m (0xB048 + 0x1000 * i) v fun t => t.biasResume i v

def execBiasResume (m : Master) (i : Fin 2) (v : Word) (s : State) : Host.Outcome State Fault Refusal :=
  Machine.ok (s.biasResumeWrite m i v)

/-- A bias rail leaves its range; the command does not tell which, and VBIAS_P stands for it (R317). -/
def execBiasSupplyLow (s : State) : Host.Outcome State Fault Refusal :=
  ok (({ s with board := { s.board with supLow := setBit s.board.supLow 9 } } : State).biasLow)

/-- Both bias rails are within range (R317). -/
def execBiasSupplyPresent (s : State) : Host.Outcome State Fault Refusal :=
  ok (({ s with board := { s.board with supLow := clrBit (clrBit s.board.supLow 9) 10 } } : State).biasBack)

end Sys2Proof.Machine
end

