-- ==== Sys2Proof/Machine/Monitor.lean ====
section
/-! DEFINITION. The monitor converter, its queue, and the read-back supervision of the bias outputs (R316, R320 to R323). -/
namespace Sys2Proof.Machine
open Sys2Proof

/-! Inputs -/

/-- Input `i` is differential, or the odd member of a differential pair (R320). -/
def State.monDiff (s : State) (i : Nat) : Bool := (48 ≤ i && i ≤ 55) || (i < 48 && i % 2 == 0 && tbit (s.get MON.DIFF.PAIR) (i / 2))
def State.monSkip (s : State) (i : Nat) : Bool := i < 48 && i % 2 == 1 && tbit (s.get MON.DIFF.PAIR) (i / 2)

/-- Input `i` is enabled in the sequence (R321). -/
def State.monEn (s : State) (i : Nat) : Bool :=
  !s.monSkip i &&
    (if i < 32 then tbit (s.get MON.SEQ_EN_LO.EN) i else if i < 48 then tbit (s.get MON.SEQ_EN_HI.EN_LOW) (i - 32)
     else if i < 56 then tbit (s.get MON.SEQ_EN_HI.EN_FIXED) (i - 48) else tbit (s.get MON.SEQ_EN_HI.EN_HIGH) (i - 56))

/-- Input `i` is enabled for the queue. -/
def State.monQ (s : State) (i : Nat) : Bool :=
  if i < 32 then tbit (s.get MON.Q_EN_LO.EN) i else if i < 48 then tbit (s.get MON.Q_EN_HI.EN_LOW) (i - 32)
  else if i < 56 then false else tbit (s.get MON.Q_EN_HI.EN_HIGH) (i - 56)

/-- The mode in force on a core (R321). -/
def State.coreMode (s : State) (core : Nat) : Nat := if core = 0 then s.mon.mode else s.mon.mode1

/-- The inputs of a core's pass in a mode, ascending (R321). -/
def State.monPass (s : State) (core : Nat) : List Nat :=
  match s.coreMode core, core with
  | 0, 0 => (List.range 32).filter s.monEn
  | 0, _ => ((List.range 32).map (32 + ·)).filter s.monEn
  | 1, _ => [s.get MON.CTL.PAIR_IN]
  | _, 0 => (List.range 64).filter s.monEn
  | _, _ => []

/-- The input whose conversion a core completes: the first of its pass that has not been converted yet. -/
def State.monInput (s : State) (core : Nat) : Option Nat :=
  let l := s.monPass core
  match l.find? fun i => Tab.get 0 s.mon.next core ≤ i with
  | some i => some i
  | none => l.head?

/-! Results -/

/-- A result word (R322). -/
def State.monWord (s : State) (core i code : Nat) : Nat :=
  let x := if s.flag MON.CTL.ALIGN then 256 * code else code + if s.monDiff i ∧ 0x8000 ≤ code then 0xFF0000 else 0
  Tab.get 0 s.mon.pass core % 4 * 2 ^ 30 + i * 2 ^ 24 + x

/-- LEVEL and EMPTY follow the queue (R323). -/
def State.monShow (s : State) : State :=
  (s.set MON.Q_STAT.LEVEL s.mon.queue.length).put MON.Q_STAT.EMPTY (s.mon.queue.length == 0)

/-- Q_THR follows the level of the queue (R323). (DESIGN CHOICE: log 56) -/
def State.monThr (s : State) : State :=
  let n := s.mon.queue.length
  if s.inReset then s
  else if 0 < s.get MON.Q_CTL.THR ∧ s.get MON.Q_CTL.THR ≤ n then s.condBegin 0x0A MON.src.Q_THR {}
  else if s.holds 0x0A MON.src.Q_THR then s.condEnd 0x0A MON.src.Q_THR else s

/-- The queue is full: the next result is discarded (R323). -/
def State.monFull (s : State) : Bool := decide (1024 ≤ s.mon.queue.length)

/-- A result enters the queue, or is discarded and counted (R323). -/
def State.monPush (s : State) (w : Nat) : State :=
  if s.monFull then s.count MON.Q_STAT.OVF 1
  else ({ s with mon := { s.mon with queue := s.mon.queue ++ [w] } } : State).monShow

/-- The core's place in its pass moves on, with its pass count (R322). (DESIGN CHOICE: log 56) -/
def State.monAdvance (s : State) (core i : Nat) : State :=
  let bump := fun (m : Mon) => { m with pass := Tab.set 0 m.pass core ((Tab.get 0 m.pass core + 1) % 4) }
  let m := s.mon
  if s.coreMode core = 1 then
    let n := (Tab.get 0 m.pair core + 1) % 64
    { s with mon := if n = 0 then bump { m with pair := Tab.set 0 m.pair core 0 } else { m with pair := Tab.set 0 m.pair core n } }
  else
    let more := (s.monPass core).any fun j => i < j
    { s with mon := if more then { m with next := Tab.set 0 m.next core (i + 1) } else bump { m with next := Tab.set 0 m.next core 0 } }

/-- A change of MODE takes effect on a core, whose pass starts again (R321). (DESIGN CHOICE: log 56) -/
def State.monMode (s : State) (core : Nat) : State :=
  if s.get MON.CTL.MODE = s.coreMode core then s
  else
    let m := s.mon
    let m := if core = 0 then { m with mode := s.get MON.CTL.MODE } else { m with mode1 := s.get MON.CTL.MODE }
    { s with mon := { m with next := Tab.set 0 m.next core 0, pair := Tab.set 0 m.pair core 0 } }

/-- A core that has no input to convert has no conversion in progress: a change of MODE takes effect on it at once.
(DESIGN CHOICE: log 56) -/
def State.monIdleMode (s : State) (core : Nat) : State := if (s.monPass core).isEmpty then s.monMode core else s

/-- The core's pass has ended where no input is left at or above its place, as where those have been disabled since (R322). -/
def State.monTurn (s : State) (core : Nat) : State :=
  let k := Tab.get 0 s.mon.next core
  if s.coreMode core = 1 ∨ k = 0 ∨ (s.monPass core).any (fun j => k ≤ j) then s
  else { s with mon := { s.mon with
    pass := Tab.set 0 s.mon.pass core ((Tab.get 0 s.mon.pass core + 1) % 4), next := Tab.set 0 s.mon.next core 0 } }

/-! Read-back -/

/-- A read-back counts for supervision (R316). -/
def State.rbCounts (s : State) (c : Nat) : Bool :=
  s.flag (BIA.CFG.RB_EN (c / 32) (c % 32)) && decide ((s.ch c).changedAt + us 20 ≤ s.now) && s.get (bState c) != bClamp
    && s.get (bState c) != bHeld && !s.flag (BIA.SUPPLY.LOW 0)

/-- A counted read-back lies outside the window; voltages in mV/65,536 (R316). -/
def State.rbOutside (s : State) (c : Nat) (v : Int) : Bool :=
  let d := v - voltOf (s.get (bSpan c)) (s.get (bCode c))
  let tol : Int := 65536 * s.get (BIA.WIN.TOL (c / 32) (c % 32))
  decide (d < -tol) || decide (tol < d)

/-- Consecutive counted read-backs outside the window raise the fault; the count then restarts (R316). (DESIGN CHOICE: log 55) -/
def State.rbJudge (s : State) (c : Nat) (v : Int) : State :=
  if !s.rbCounts c then s
  else if !s.rbOutside c v then s.modCh c fun x => { x with miss := 0 }
  else if (s.ch c).miss + 1 < s.get (BIA.WIN.CNT (c / 32) (c % 32)) then s.modCh c fun x => { x with miss := x.miss + 1 }
  else
    let s := (s.modCh c fun x => { x with miss := 0 }).putBit (BIA.RB_STAT.FAULT (c / 32)) (c % 32) true
    (if s.flag (BIA.CFG.RB_ACT (c / 32) (c % 32)) then s.enterSafe c else s).fire (0x0B + c / 32) BIA.src.RB_WINDOW {}

/-- A read-back of group `g`: its code over ±2.5 V behind a divider of 4 is code × 20,000 in mV/65,536 (R316, R320). -/
def State.readBack (s : State) (g code : Nat) : State :=
  let c := 8 * g + Tab.get 0 s.mon.mux g
  let v : Int := 20000 * sext 16 code
  let sp := s.get (bSpan c)
  let s := s.set (BIA.RB.MV (c / 32) (c % 32)) (toField 16 (divQ v 65536))
  let s := s.set (BIA.RB.CODE (c / 32) (c % 32)) (clampInt 0 0xFFFF (divQ (v - spanLow sp * 65536) (spanW sp))).toNat
  let s : State := { s with mon := { s.mon with mux := Tab.set 0 s.mon.mux g ((Tab.get 0 s.mon.mux g + 1) % 8) } }
  s.rbJudge c v

/-! Commands -/

/-- A core's next conversion completes 1 µs after its last one, or 16 µs in LOWPWR (R321). -/
def State.convTime (s : State) (core : Nat) : State :=
  let t := s.until (Tab.get 0 s.mon.convAt core + us (if s.coreMode core = 2 then 16 else 1))
  { t with mon := { t.mon with convAt := Tab.set 0 t.mon.convAt core t.now } }

/-- The monitor converts: from the NVM load on, while I43 is powered and clocked (R37, R324). -/
def State.monRuns (s : State) : Bool := !s.inReset && s.rst.loaded && s.clkOn 43

/-- A core completes a conversion (R316, R321, R322). (DESIGN CHOICE: log 31) -/
def State.convert (s : State) (core code : Nat) : State :=
  if !s.monRuns then s
  else match s.monInput core with
  | none => s.monMode core
  | some i =>
    let s := (s.convTime core).monTurn core
    let w := s.monWord core i code
    let lost := s.monQ i && s.monFull
    let s := s.set (MON.LAST.ENTRY i) w
    let s := ((if s.monQ i then s.monPush w else s).monAdvance core i).monMode core
    if 48 ≤ i ∧ i ≤ 55 then s.readBack (i - 48) code
    else if lost then s.fire 0x0A MON.src.Q_OVF {}
    else s.monThr

def execMonitorConversion (core : Fin 2) (value : BitVec 16) (s : State) : Host.Outcome State Fault Refusal :=
  ok (s.convert core value.toNat)

/-- PAIR_IN of a word is not the odd member of a differential pair (R321). -/
def State.monPairOk (s : State) (v : Word) : Bool := !s.monSkip (bits v.toNat 8 6)

/-- A write of MON.CTL by a master (R321). -/
def State.monCtlWrite (s : State) (m : Master) (v : Word) : State :=
  s.guardedBy m 0xA040 v (fieldsAt 0xA040) (s.monPairOk v) fun t => ((t.writeReg 0xA040 v).monIdleMode 0).monIdleMode 1

/-- A write of MON.DIFF by a master: one that makes PAIR_IN the odd member of a pair is dropped (R321). (DESIGN CHOICE: log 56) -/
def State.monDiffWrite (s : State) (m : Master) (v : Word) : State :=
  let p := s.get MON.CTL.PAIR_IN
  s.guardedBy m 0xA04C v (fieldsAt 0xA04C) (p % 2 == 0 || !v.getLsbD (p / 2)) fun t => t.writeReg 0xA04C v

def execMonitorModeWrite (m : Master) (v : Word) (s : State) : Host.Outcome State Fault Refusal := Machine.ok (s.monCtlWrite m v)

/-- The oldest result leaves the queue (R323). (DESIGN CHOICE: log 56) -/
def State.monPop (s : State) : State :=
  match s.mon.queue with
  | [] => s.fire 0x0A MON.src.Q_UNDER {}
  | _ :: t => ({ s with mon := { s.mon with queue := t } } : State).monShow.monThr

/-- A read of Q_DATA by a master. -/
def State.monQRead (s : State) (m : Master) : State :=
  let w := s.mon.queue.headD 0
  s.readBy m 0xA05C (fun _ => w) State.monPop

def execMonQueueRead (m : Master) (s : State) : Host.Outcome State Fault Refusal := Machine.ok (s.ask.monQRead m)

/-- The effect of a write of Q_CTL (R323). -/
def State.monQCtl (s : State) (v : Word) : State :=
  let s := s.writeReg 0xA060 v
  (if v.getLsbD 16 then ({ s with mon := { s.mon with queue := [] } } : State) else s).monShow.monThr

/-- A write of Q_CTL by a master. -/
def State.monQCtlWrite (s : State) (m : Master) (v : Word) : State :=
  s.guarded m 0xA060 v fun t => t.monQCtl v

def execMonQueueFlush (m : Master) (v : Word) (s : State) : Host.Outcome State Fault Refusal := Machine.ok (s.monQCtlWrite m v)

end Sys2Proof.Machine
end

