-- ==== Sys2Proof/Machine/Thermal.lean ====
section
/-! DEFINITION. Thermal supervision: sensors, thresholds, the request, enforcement and the critical trip (R148, R325 to R335).
Temperatures are in 0.125 °C. -/
namespace Sys2Proof.Machine
open Sys2Proof

/-! Sensors -/

/-- Neighbours of a sensor (R325). -/
def neighbours (i : Nat) : List Nat :=
  if i < 16 then [(i + 15) % 16, (i + 1) % 16, 16, 17, 18, 19]
  else if i < 20 then
    let q := i - 16
    ([16, 17, 18, 19].filter (· != i)) ++ List.range 16 ++ [20 + 2 * q, 21 + 2 * q, 34]
  else if i < 28 then
    let n := i - 20
    [16 + n / 2] ++ (((List.range 8).map (20 + ·)).filter (· != i)) ++ [28, 29, 32, 37]
  else if i = 28 ∨ i = 29 then [57 - i] ++ ((List.range 8).map (20 + ·)) ++ [35]
  else if i = 30 then [31, 32, 33, 34, 36, 37, 38, 39]
  else if i = 32 then 30 :: (List.range 8).map (20 + ·)
  else if i = 34 then [30, 16, 17, 18, 19]
  else if i = 35 then [28, 29, 37]
  else if i = 37 then [30, 35] ++ (List.range 8).map (20 + ·)
  else if i < 40 then [30]
  else ((List.range 4).map (40 + 4 * ((i - 40) / 4) + ·)).filter (· != i)

/-- Sensors of the same die. -/
def dieOf (i : Nat) : List Nat := if i < 40 then List.range 40 else (List.range 4).map (40 + 4 * ((i - 40) / 4) + ·)

/-- A sensor's last valid reading; none before its first conversion and once it has failed. -/
def State.tempOf (s : State) (i : Nat) : Option Int := Tab.get none s.thm.last i

/-- The largest valid reading of a list of sensors. -/
def State.maxTemp (s : State) (l : List Nat) : Option Int :=
  (l.filterMap s.tempOf).foldl (fun b v => some (match b with | some w => max v w | none => v)) none

/-- A failed sensor's substitute; without any valid sensor its reading stays (R327). -/
def State.substitute (s : State) (i : Nat) : Int :=
  match s.maxTemp (neighbours i) with
  | some v => v + 64
  | none => match s.maxTemp (dieOf i) with
    | some v => v + 64
    | none => match s.maxTemp (List.range 72) with
      | some v => v + 128
      | none => sext 12 (s.get (THM.TEMP.TEMP i))

/-- Causes of failure (R326, R338). -/
abbrev fStuck : Nat := 1
abbrev fRange : Nat := 2
abbrev fRate : Nat := 3

/-- The history follows the sensor: the instants of the last 4,096 conversions that gave the same code, and the readings as they changed
(R326). -/
def State.track (s : State) (i : Nat) (v : Int) : State :=
  let t := s.thm
  if s.tempOf i = some v then { s with thm := { t with same := Tab.upd [] t.same i fun l => (s.now :: l).take 4096 } }
  else { s with thm := { t with same := Tab.set [] t.same i [s.now], moves := Tab.upd [] t.moves i fun l => ((s.now, v) :: l).take 4097 } }

/-- The readings of a sensor that were in force at an instant or since. -/
def readsSince (t : Nat) : List (Nat × Int) → List Int
  | [] => []
  | (u, v) :: l => if t < u then v :: readsSince t l else [v]

/-- A neighbour that has not failed has moved by 2 °C or more since an instant (R326). (DESIGN CHOICE: log 57) -/
def State.nbMoved (s : State) (i t : Nat) : Bool :=
  (neighbours i).any fun j =>
    let l := readsSince t (Tab.get [] s.thm.moves j)
    !s.flag (THM.TEMP.FAILED j) && l.any fun a => l.any fun b => decide (16 ≤ a - b)

/-- The cause on which a conversion fails a sensor; 0 for none (R326). (DESIGN CHOICE: log 57) -/
def State.failCause (s : State) (i : Nat) (v : Int) : Nat :=
  if v < -480 ∨ 1200 < v then fRange
  else if (match s.tempOf i with | some p => decide (v - p < -32) || decide (32 < v - p) | none => false) then fRate
  else if s.tempOf i = some v ∧ 4096 ≤ (Tab.get [] s.thm.same i).length ∧ s.nbMoved i ((Tab.get [] s.thm.same i).getLastD s.now) then fStuck
  else 0

/-! Hottest reading -/

/-- The hottest of all readings and substitutes, the lowest sensor of equals (R327). -/
def State.hottest (s : State) : Option (Nat × Int) :=
  ((List.range 72).filter fun i => s.flag (THM.TEMP.VALID i)).foldl (fun b i => match b with
    | none => some (i, s.shown i)
    | some y => if y.2 < s.shown i then some (i, s.shown i) else b) none

/-! Enforcement -/

/-- E changes (R330). -/
def State.enforce (s : State) (e : Nat) : State :=
  let t : State := { s with thm := { s.thm with eAt := s.now } }
  let t := t.setLevel e
  t.fire 0x09 THM.src.THM_ENF { detail := t.thmDetail }

/-- REQ clears at 97 °C with LEVEL = 0 (R329). -/
def State.reqClear (s : State) : State :=
  if s.flag THM.REQ.REQ ∧ s.hot ≤ 776 ∧ s.get THM.STAT.LEVEL = 0 then
    let t : State := { s with thm := { s.thm with graceAt := 0 } }
    (t.set THM.REQ.REQ 0).condEnd 0x09 THM.src.THM_REQ
  else s

/-- Enforcement begins (R329, R330). -/
def State.enfBegin (s : State) : State := ({ s with thm := { s.thm with graceAt := 0, enfAt := s.now } } : State).enforce 1

/-- The hottest reading reaches 100 °C (R329). -/
def State.reqBegin (s : State) : State :=
  let g := s.get THM.CTL.GRACE
  let t : State := { s with thm := { s.thm with graceAt := if g = 0 then 0 else s.now + ms g + 1 } }
  let t := (t.set THM.REQ.REQ 1).condBegin 0x09 THM.src.THM_REQ {}
  if g = 0 && !t.inReset then t.enfBegin else t

/-- REQ.GRACE_LEFT in ms, rounded up (R329). -/
def State.graceLeft (s : State) : Nat := (s.thm.graceAt - 1 - s.now + 983039) / 983040

/-! A conversion -/

/-- The least E that the failures still hold (R332). -/
def State.holdFloor (s : State) : Nat := (s.thm.holds.map fun x => match x.2 with | some h => h.1 | none => 0).foldl max 0

/-- A sensor fails (R326, R327, R332). -/
def State.sensorFail (s : State) (i cause : Nat) : State :=
  let e := s.get THM.STAT.LEVEL
  let t : State := { s with thm := { s.thm with last := Tab.set none s.thm.last i none, holds := Tab.set none s.thm.holds i (some (e, none)) } }
  let t := ((t.set (THM.TEMP.FAILED i) 1).set (THM.TEMP.CAUSE i) cause).set THM.STAT.HOLD 1
  let t := t.putBit (THM.FAIL.FAIL (i / 32)) (i % 32) true
  let t := (t.set (THM.TEMP.VALID i) 1).set (THM.TEMP.TEMP i) (toField 12 (t.substitute i))
  t.fire 0x09 THM.src.SENSOR_FAIL { detail := [i, cause] ++ leBytes 2 (toField 16 (t.shown i)) }

/-- A sensor gives a reading, or keeps its substitute (R326, R327). -/
def State.reading (s : State) (i : Nat) (v : Int) : State :=
  if s.flag (THM.TEMP.FAILED i) then s.set (THM.TEMP.TEMP i) (toField 12 (s.substitute i))
  else
    let c := s.failCause i v
    if c ≠ 0 then s.sensorFail i c
    else
      let s := s.track i v
      let s : State := { s with thm := { s.thm with last := Tab.set none s.thm.last i (some v) } }
      (s.set (THM.TEMP.VALID i) 1).set (THM.TEMP.TEMP i) (toField 12 v)

/-- HOT, the warning and the request follow the hottest reading (R328, R329). -/
def State.thresholds (s : State) : State :=
  match s.hottest with
  | none => s
  | some (i, v) =>
    let s := (s.set THM.HOT.SENSOR i).set THM.HOT.TEMP (toField 12 v)
    let s : State := { s with thm := { s.thm with coolAt := if v ≤ 776 then some (s.thm.coolAt.getD s.now) else none } }
    let s := if 760 ≤ v ∧ !s.flag THM.STAT.WARN then (s.set THM.STAT.WARN 1).condBegin 0x09 THM.src.THM_WARN {}
      else if v ≤ 736 ∧ s.flag THM.STAT.WARN then (s.set THM.STAT.WARN 0).condEnd 0x09 THM.src.THM_WARN
      else s
    if s.inReset then s else if 800 ≤ v ∧ !s.flag THM.REQ.REQ then s.reqBegin else s.reqClear

/-- The NVM write window follows the valid core-die readings (R328, R333). -/
def State.nvmWindow (s : State) : State :=
  let l := (List.range 40).filterMap s.tempOf
  s.put THM.STAT.NVM_OK (!l.isEmpty && l.all fun v => decide (-80 ≤ v) && decide (v ≤ 760))

/-- The hold of R332 follows the substitute of a sensor that has just converted. (DESIGN CHOICE: log 57) -/
def State.holdTrack (s : State) (i : Nat) : State :=
  match Tab.get none s.thm.holds i with
  | none => s
  | some h =>
    let since := if s.shown i ≤ 776 then some (h.2.getD s.now) else none
    { s with thm := { s.thm with holds := Tab.set none s.thm.holds i (some (h.1, since)) } }

/-- The HS_TEMP detector measures every 1 ms: it fires beyond 35 °C, and its condition ends within the 30 °C of R66 (R68).
(DESIGN CHOICE: log 57) -/
def State.hsTemp (s : State) : State :=
  if s.inReset || s.now < s.thm.hsAt + ms 1 then s
  else
    let s : State := { s with thm := { s.thm with hsAt := s.now } }
    if s.hsBeyond 280 then s.condBegin 0x03 CLK.src.HS_TEMP {} else if s.hsBeyond 240 then s else s.condEnd 0x03 CLK.src.HS_TEMP

/-- The drift of R148 on a chiplet's pairs; once software has cleared DRIFT, a temperature that is still off sets it again.
(DESIGN CHOICE: log 38) -/
def State.drift (s : State) (n : Nat) : State :=
  (List.range 4).foldl (fun s c => match s.chipHot n, Tab.get none (s.chip n).ref c with
    | some h, some r =>
      if (h - r ≤ -80 ∨ 80 ≤ h - r) ∧ !tbit (s.get (CNV.CAL_STAT.DRIFT n)) c then
        (s.putBit (CNV.CAL_STAT.DRIFT n) c true).fire (0x10 + n) CNV.src.CAL_DRIFT {}
      else s
    | _, _ => s) s

/-- A sensor completes a conversion with a reading in 0.125 °C (R326 to R334). (DESIGN CHOICE: log 6, 31) -/
def State.sensor (s : State) (i : Nat) (v : Int) : State :=
  if s.inReset || s.resetting 0x09 then s
  else
    let s := s.until (Tab.get 0 s.thm.convAt i + us 250)
    let s : State := { s with thm := { s.thm with convAt := Tab.set 0 s.thm.convAt i s.now } }
    let s := ((((s.reading i v).thresholds).nvmWindow).holdTrack i).hsTemp
    let s := if 40 ≤ i then s.drift ((i - 40) / 4) else s
    if 944 ≤ v ∧ !s.flag (THM.TEMP.FAILED i) then s.fire 0x09 THM.src.THM_TRIP { detail := s.thmDetail } else s

def execSensorConversion (i : Fin 72) (value : Int) (s : State) : Host.Outcome State Fault Refusal := ok (s.sensor i value)

/-! Timed steps -/

/-- GRACE_LEFT reaches 0 (R329). (DESIGN CHOICE: log 57) -/
def State.graceEnd (s : State) : State :=
  if s.thm.graceAt = 0 ∨ s.inReset then s
  else
    let s := s.until (s.thm.graceAt - 1)
    if 800 ≤ s.hot then s.enfBegin else { s with thm := { s.thm with graceAt := 0 } }

def execGraceExpiry (s : State) : Host.Outcome State Fault Refusal := ok s.graceEnd

/-- A 100 ms step of enforcement at or above 100 °C (R330). -/
def State.enfRise (s : State) : State :=
  let e := s.get THM.STAT.LEVEL
  if e = 0 ∨ 12 ≤ e ∨ s.hot < 800 ∨ s.inReset then s
  else (s.until (s.thm.enfAt + ceilTo (ms 100) (max s.now (s.thm.eAt + 1) - s.thm.enfAt))).enforce (e + 1)

def execEnforcementRise (s : State) : Host.Outcome State Fault Refusal := ok s.enfRise

/-- A second from E's last change throughout which the hottest reading stayed at or below 97 °C (R330, R332). (DESIGN CHOICE: log 57) -/
def State.enfFall (s : State) : State :=
  let e := s.get THM.STAT.LEVEL
  match s.thm.coolAt with
  | none => s
  | some c =>
    if e = 0 ∨ (s.flag THM.STAT.HOLD ∧ e ≤ s.holdFloor) ∨ s.inReset then s
    else
      let t := s.until (s.thm.eAt + ceilTo (ms 1000) (max (max s.now (s.thm.eAt + 1)) (c + ms 1000) - s.thm.eAt))
      (t.enforce (e - 1)).reqClear

def execEnforcementFall (s : State) : Host.Outcome State Fault Refusal := ok s.enfFall

/-- The failure that stops holding E next: the one whose substitute has been at or below 97 °C for longest (R332). -/
def State.holdNext (s : State) : Option (Nat × Nat) :=
  s.thm.holds.foldl (fun b x => match x.2, b with
    | some (_, some t), some y => if t < y.2 then some (x.1, t) else b
    | some (_, some t), none => some (x.1, t)
    | _, _ => b) none

/-- A substitute has stayed at or below 97 °C for 10 s: its failure holds E no longer, and HOLD reads 0 once none does (R332). -/
def State.holdEnd (s : State) : State :=
  match s.holdNext with
  | none => s
  | some (i, t) =>
    let h := Tab.set none s.thm.holds i none
    let u : State := { s.until (t + ms 10000) with thm := { s.thm with holds := h } }
    u.put THM.STAT.HOLD (!h.isEmpty)

def execThermalHoldEnd (s : State) : Host.Outcome State Fault Refusal := ok s.holdEnd

end Sys2Proof.Machine
end

