-- ==== Sys2Proof/Machine/Faults.lean ====
section
/-! DEFINITION. Fault collection: occurrences of sources, reset shadows, classes and reactions, and injection (R340 to R354). -/
namespace Sys2Proof.Machine
open Sys2Proof

/-- The sources of a key of `Flt.conds`. -/
def keyPage (k : Nat) : Nat := k / 32
def keyBit (k : Nat) : Nat := k % 32

/-- The DAC samples of a group's channels that their sums have saturated since the last count are counted (R161).
(DESIGN CHOICE: log 58) -/
def State.countSats (s : State) (g : Nat) : State :=
  let t : State := { s with satAt := Tab.set 0 s.satAt g s.now }
  (List.range 4).foldl (fun t c =>
    let n := s.dacNo (4 * g + c) s.now
    t.count (FWD.TX_SAT.COUNT g c) (s.txSats (4 * g + c) n (n - s.dacNo (4 * g + c) (Tab.get 0 s.satAt g)))) t

/-- The counter or status that goes with an occurrence from outside. Which AER bit, which channel or slot and how many samples the
command does not say: free values (R69, R109, R175, R397). (DESIGN CHOICE: log 58) -/
def State.occurCount (s : State) (p b : Nat) : State :=
  let (x, t) := s.draw
  let (n, u) := t.draw
  if p = 0x2C ∧ b = PCI.src.AER_ERR then t.putBit PCI.AER_UNCOR.STATUS (x % 32) true
  else if 0x18 ≤ p ∧ p < 0x20 ∧ b = FWD.src.TX_SAT then s.countSats (p - 0x18)
  else if 0x40 ≤ p ∧ b = SLP.src.INVALID then u.count (SLP.SLOT_CNT.INVALID (8 * (p - 0x40) + x % 8)) (1 + n)
  else if p = 0x07 ∧ b = NVM.src.NVM_UE then s.count NVM.ECC.UE_CNT 1
  else s

/-- An occurrence of a source: an event, or a condition that begins or ends. A tamper source acts at its alarm level (R340, R344,
R379). (DESIGN CHOICE: log 30, 58) -/
def State.occur (s : State) (p b : Nat) (begins : Bool) : State :=
  let r := srcOf (srcKey p b)
  if !r.impl then s
  else if r.cond then
    (if !begins then State.condEnd { s with aon := if r.sec then { s.aon with tamperOn := clrBit s.aon.tamperOn b } else s.aon } p b
     else if r.sec then (s.keepTamper b).tamperBegin b else s.condBegin p b {})
  else if !begins then s
  else if r.sec then (s.keepTamper b).tamper b false
  else (if s.canFire p b then s.occurCount p b else s).fire p b {}

def execFaultSourceFire (p : Fin 128) (b : Fin 32) (begins : Bool) (s : State) : Host.Outcome State Fault Refusal := ok (s.occur p b begins)

/-! Reset shadow -/

/-- The shadow of page `p` closes, and condition sources that were under it and still hold fire (R350, R351). (DESIGN CHOICE: log 27) -/
def State.shadowEnd (s : State) (p : Nat) : State :=
  match Tab.get none s.flt.shadows p with
  | none => s
  | some 0 => s
  | some t =>
    let s := s.until t
    let u : State := { s with flt := { s.flt with shadows := Tab.set none s.flt.shadows p none } }
    (u.flt.conds.filter fun k => (srcOf k).dep0 == some p || (srcOf k).dep1 == some p).foldl
      (fun s k => if s.gated (keyPage k) (keyBit k) || s.shadowed (keyPage k) (keyBit k) then s else s.fire (keyPage k) (keyBit k) {}) u

def execShadowEnd (p : Fin 128) (s : State) : Host.Outcome State Fault Refusal := ok (s.shadowEnd p)

/-! Classes and reactions -/

/-- Reactions of a word of SRC_CFG: bit 4 BSAFE, 3 ERRN, 2 CRST, 1 BRST, 0 TRAP. -/
def cfgReact (v : Word) : Nat := bits v.toNat 11 5

/-- The reactions that a class always holds, and those that it never holds (R342). -/
def reactAlways (c : Nat) : Nat := if c = 3 then 0x0C else if c = 4 then 0x0D else 0
def reactNever (c : Nat) : Nat := if c = 0 then 0x1F else if c = 1 then 0x05 else if c = 2 then 0x04 else 0x12

/-- A word that SRC_CFG takes for the source of key `k` (R342, R343). -/
def State.srcCfgOk (s : State) (k : Nat) (v : Word) : Bool :=
  let r := srcOf k
  let c := bits v.toNat 20 3
  let x := cfgReact v
  r.impl && (if r.fixed || r.sec then c == s.srcCls (k / 32) (k % 32) && x == s.srcReact (k / 32) (k % 32)
    else decide (r.minc ≤ c) && (c == 4) == (r.minc == 4) && x &&& reactNever c == 0 && x &&& reactAlways c == reactAlways c)

/-- The source that SRC_SEL names. -/
def State.srcSel (s : State) : Nat := srcKey (s.get FLT.SRC_SEL.PAGE) (s.get FLT.SRC_SEL.BIT)

/-- SRC_CFG takes a word; what a source of fixed or security class holds does not change (R343). -/
def State.srcCfg (s : State) (k : Nat) (v : Word) : State :=
  if (srcOf k).fixed || (srcOf k).sec then s else (s.writeReg (0x150000 + 4 * k) v).updFirst (k / 32)

/-- A write of SRC_CFG by a master. -/
def State.srcCfgWrite (s : State) (m : Master) (v : Word) : State :=
  s.guardedBy m 0x4058 v (fieldsAt (0x150000 + 4 * s.srcSel)) (s.srcCfgOk s.srcSel v) fun t => t.srcCfg t.srcSel v

def execSrcCfgWrite (m : Master) (v : Word) (s : State) : Host.Outcome State Fault Refusal := Machine.ok (s.srcCfgWrite m v)

/-! Injection -/

/-- The effect of a write of INJ_KEY; field firmware cannot open the gate (R352). -/
def State.injKey (s : State) (m : Master) (v : Word) : State :=
  let k := bits v.toNat 0 16
  let at_ := fun (x : Option Nat) => ({ s with flt := { s.flt with keyAt := x } } : State)
  if !s.owns m then s
  else if k = 0x4A3C then at_ (some s.now)
  else if k == 0xC3B5 && (match s.flt.keyAt with | some t => decide (s.now ≤ t + ms 1) | none => false) then (at_ none).set FLT.INJ.EN 1
  else at_ none

/-- A write of INJ_KEY by a master. -/
def State.injKeyWrite (s : State) (m : Master) (v : Word) : State :=
  s.guarded m 0x4060 v fun t => t.injKey m v

def execInjKeyWrite (m : Master) (v : Word) (s : State) : Host.Outcome State Fault Refusal := .next (s.injKeyWrite m v)

/-- The effect of a write of INJ (R352). -/
def State.injClose (s : State) (v : Word) : State := if v.getLsbD 0 then s.set FLT.INJ.EN 0 else s

/-- A write of INJ by a master. -/
def State.injCloseWrite (s : State) (m : Master) (v : Word) : State :=
  s.guarded m 0x4064 v fun t => t.injClose v

def execInjClose (m : Master) (v : Word) (s : State) : Host.Outcome State Fault Refusal := .next (s.injCloseWrite m v)

/-- One source is forced: its status bits and its record, with the reactions and the class of its firing (R353, R354). -/
def State.forceOne (s : State) (m p b : Nat) : State × Option (Nat × Nat) :=
  let r := srcOf (srcKey p b)
  if !r.impl || s.inReset then (s, none)
  else if (r.fixed || r.sec || s.srcCls p b == 4) && !s.ftm then (s.count FLT.INJ.DENIED 1, none)
  else s.marks State.log p b { master := m, forced := true, detail := if r.sec then [s.alarmLvl b] else [] }

/-- The status bits and records of several forced sources, with the bit, reactions and class of each that fires. -/
def State.forceMarks (s : State) (m p : Nat) (l : List Nat) : State × List (Nat × Nat × Nat) :=
  l.foldl (fun x b =>
    let y := x.1.forceOne m p b
    (y.1, match y.2 with | some q => x.2 ++ [(b, q.1, q.2)] | none => x.2)) (s, [])

/-- The sources that fire in one write: every one of them has its consequences, and the union of their reactions applies (R353, R357). -/
def State.forceAll (s : State) (m p : Nat) (l : List Nat) : State :=
  let x := s.forceMarks m p l
  let s := x.2.foldl (fun s q => s.softReact p q.1 q.2.1 q.2.2 true) x.1
  let s := x.2.foldl (fun s q => if (srcOf (srcKey p q.1)).sec then s.alarm q.1 (s.alarmLvl q.1) true else s) s
  if x.2.isEmpty then s else (s.hardReact p (x.2.map fun q => (q.1, q.2.1))).termPermit

/-- The effect of a write of ERR_FORCE (R8, R353). -/
def State.errForce (s : State) (m p : Nat) (v : Word) : State :=
  if !s.flag FLT.INJ.EN then s else s.forceAll m p ((List.range 32).filter fun b => v.getLsbD b)

/-- A write of ERR_FORCE by a master. -/
def State.errForceWrite (s : State) (m : Master) (p : Nat) (v : Word) : State := s.guarded m (0x1000 * p + 0x18) v fun t => t.errForce m.num p v

def execErrForceWrite (m : Master) (p : Fin 128) (v : Word) (s : State) : Host.Outcome State Fault Refusal := ok (s.errForceWrite m p v)

/-- The effect of a write of IRQ_FORCE: the IRQ_STAT bits of implemented sources (R8, R353). -/
def State.irqForce (s : State) (p : Nat) (v : Word) : State :=
  if !s.flag FLT.INJ.EN then s
  else ((List.range 32).filter fun b => v.getLsbD b && (srcOf (srcKey p b)).impl).foldl (fun s b => s.putBit (HDR.IRQ_STAT.BITS p) b true) s

/-- A write of IRQ_FORCE by a master. -/
def State.irqForceWrite (s : State) (m : Master) (p : Nat) (v : Word) : State := s.guarded m (0x1000 * p + 0x28) v fun t => t.irqForce p v

def execIrqForceWrite (m : Master) (p : Fin 128) (v : Word) (s : State) : Host.Outcome State Fault Refusal := Machine.ok (s.irqForceWrite m p v)

end Sys2Proof.Machine
end

