-- ==== Sys2Proof/Machine/LockOps.lean ====
section
/-! DEFINITION. Byte objects that Tansy verifies: field-firmware images, lock images, key packages and responses (R301, R302, R364,
R365, R375, R387). -/
namespace Sys2Proof.Machine
open Sys2Proof

/-- The four bytes of a word, the first in bits 31:24 (R370). -/
def beBytes (w : Nat) : List Nat := [w / 2 ^ 24 % 256, w / 2 ^ 16 % 256, w / 2 ^ 8 % 256, w % 256]

/-- The bytes that a list of words carries (R370). -/
def wordBytes (ws : List Nat) : List Nat := (ws.map beBytes).flatten

/-- The field of `n` bytes at byte `i` of an object, most significant byte first (R301, R364, R375). -/
def field (bs : List Nat) (i n : Nat) : Nat := (List.range n).foldl (fun a k => 256 * a + bs.getD (i + k) 0) 0

/-- The `n` bytes from byte `i` of an object. -/
def slice (bs : List Nat) (i n : Nat) : List Nat := (bs.drop i).take n

/-- The `n` bytes from byte `i` of an object are zero. -/
def zeros (bs : List Nat) (i n : Nat) : Bool := (slice bs i n).all (· == 0)

/-! Field-firmware images -/

/-- A key slot in the key store. -/
def State.key (s : State) (j : Nat) : KeySlot := Tab.get {} s.tansy.keys j

/-- A key slot holds the digest of a public key, under a type (R365, R387). -/
def State.keyOf (s : State) (j typ : Nat) (pub : List Nat) : Bool :=
  decide (j < 16) && (s.key j).typ == typ && Config.digest pub == (s.key j).body

/-- LENGTH of a field-firmware image, in bytes (R364). -/
def fwLength (bs : List Nat) : Nat := field bs 12 4

/-- Flags ENC and KEYSRC of an image (R364). -/
def fwEnc (bs : List Nat) : Bool := tbit (field bs 6 2) 0
def fwSlotKey (bs : List Nat) : Bool := tbit (field bs 6 2) 1

/-- MAGIC, FORMAT, reserved bytes and bits, LENGTH and ENTRY are as R364 gives. -/
def fwFormat (bs : List Nat) : Bool :=
  slice bs 0 4 == [0x56, 0x5A, 0x46, 0x57] && field bs 4 2 == 1 && decide (field bs 6 2 < 4)
    && decide (bs.getD 8 0 < (if fwSlotKey bs then 16 else 1)) && decide (bs.getD 9 0 < (if fwEnc bs then 16 else 1))
    && fwLength bs % 4 == 0 && decide (fwLength bs ≤ 3145728) && decide (field bs 16 4 < fwLength bs)
    && (fwEnc bs || zeros bs 20 28) && (fwSlotKey bs || zeros bs 48 96) && zeros bs 144 112 && bs.length == 352 + fwLength bs

/-- The public key that an image names, where it may be used (R365). -/
def State.fwKey (s : State) (bs : List Nat) : Option (List Nat) :=
  let pub := slice bs 48 96
  if !fwSlotKey bs then some s.otp.rootKey else if s.keyOf (bs.getD 8 0) 1 pub then some pub else none

/-- What an image that arrives leaves in application-core memory so far: the bytes of its payload (R365). -/
def fwArrived (bs : List Nat) : List Nat := slice bs 256 (fwLength bs)

/-- The payload of an image, decrypted where ENC is 1; none where the tag does not match (R365). -/
def State.fwPayload (s : State) (bs : List Nat) : Option (List Nat) :=
  let p := slice bs 256 (fwLength bs)
  if fwEnc bs then Config.unwrap (s.key (bs.getD 9 0)).body (slice bs 20 12) (slice bs 32 16) (slice bs 0 20) p else some p

/-- The checks of R365 in order, as BOOT_STAT.RESULT names the first that fails: 3 FORMAT, 5 ROLLBACK, 6 NOKEY, 2 SIGNATURE, 4 TAG;
1 with the payload of a verified image; 7 where the flash does not answer. -/
def State.verifyFw (s : State) (bs : List Nat) : Nat × List Nat :=
  if bs.isEmpty then (7, [])
  else if !fwFormat bs then (3, [])
  else if field bs 10 2 < s.nvm.minSvn then (5, [])
  else
    match s.fwKey bs with
    | none => (6, [])
    | some pub =>
      if !Config.sigOk pub (slice bs 0 (256 + fwLength bs)) (slice bs (256 + fwLength bs) 96) then (2, [])
      else if fwEnc bs && (s.key (bs.getD 9 0)).typ != 2 then (6, [])
      else
        match s.fwPayload bs with
        | none => (4, [])
        | some p => (1, p)

/-! Lock images -/

/-- Range `r` of a lock image: F_LO, F_HI and DIR (R301). -/
def lkLo (bs : List Nat) (r : Nat) : Nat := field bs (64 + 16 * r) 3
def lkHi (bs : List Nat) (r : Nat) : Nat := field bs (67 + 16 * r) 3
def lkDir (bs : List Nat) (r : Nat) : Nat := bs.getD (70 + 16 * r) 0

/-- A lock image is well formed (R302). (DESIGN CHOICE: log 59) -/
def lockFormed (bs : List Nat) : Bool :=
  let n := field bs 6 2
  slice bs 0 4 == [0x52, 0x47, 0x4C, 0x4B] && field bs 4 2 == 1 && decide (1 ≤ n) && decide (n ≤ 64) && zeros bs 16 48
    && (List.range 64).all (fun r => if r < n then decide (1 ≤ lkDir bs r) && decide (lkDir bs r ≤ 3) else lkDir bs r == 0 && bs.getD (71 + 16 * r) 0 / 2 == 0)
    && (List.range n).all (fun r => decide (400000 ≤ lkLo bs r) && decide (lkLo bs r < lkHi bs r) && decide (lkHi bs r ≤ 7200000)
      && decide (bs.getD (71 + 16 * r) 0 < 2))
    && (List.range n).all (fun r => (List.range r).all fun q => decide (lkHi bs r ≤ lkLo bs q) || decide (lkHi bs q ≤ lkLo bs r))

/-- The signature of a lock image verifies under the root public key (R303, R304). -/
def State.lockSigned (s : State) (bs : List Nat) : Bool := Config.sigOk s.otp.rootKey (slice bs 0 1280) (slice bs 1280 96)

/-- The registers of range `r` take a lock image's entry (R305). -/
def State.loadRange (s : State) (bs : List Nat) (r : Nat) : State :=
  let f := fun i n => field bs (64 + 16 * r + i) n
  let s := ((s.set (REGL.RANGE_0.DIR r) (f 6 1)).set (REGL.RANGE_0.F_LO r) (f 0 3)).set (REGL.RANGE_1.REQ_SYNC r) (f 7 1)
  let s := ((s.set (REGL.RANGE_1.F_HI r) (f 3 3)).set (REGL.RANGE_2.P_MAX r) (f 8 2)).set (REGL.RANGE_2.G_MAX r) (f 10 2)
  ((s.set (REGL.RANGE_3.NOISE r) (f 12 2)).set (REGL.RANGE_3.DUTY_DL r) (f 14 1)).set (REGL.RANGE_3.DUTY_UL r) (f 15 1)

/-- Page REGL shows what a lock image holds besides its ranges (R305). (DESIGN CHOICE: log 59) -/
def State.loadImage (s : State) (bs : List Nat) : State :=
  let s := ((s.set REGL.STATE.FORMAT (field bs 4 2)).set REGL.LOCK_ID.ID (field bs 8 4)).set REGL.EMIS.OUT (field bs 12 2)
  let s := (List.range 32).foldl (fun s c => s.set (REGL.RX_GAIN.G_RX_MAX c) (field bs (1088 + 2 * c) 2)) (s.set REGL.EMIS.IN (field bs 14 2))
  (List.range 32).foldl (fun s p => (s.set (REGL.TX_GAIN.G_TX_MAX p) (field bs (1152 + 4 * p) 2)).set (REGL.TX_GAIN.CPL_OFS p) (field bs (1154 + 4 * p) 2)) s

/-- A group's comparator takes a copy of the ranges of a lock image (R298). -/
def copyIn (bs : List Nat) (n g : Nat) (t : Tab Nat) : Tab Nat :=
  (List.range n).foldl (fun t r =>
    let k := 192 * g + 3 * r
    Tab.set 0 (Tab.set 0 (Tab.set 0 t k (lkLo bs r)) (k + 1) (lkHi bs r)) (k + 2) (lkDir bs r)) t

/-- The NVM loader fills the comparators from the stored lock (R57, R298). -/
def State.loadCopies (s : State) : State :=
  let bs := s.nvm.lock
  if bs.isEmpty then s else { s with copies := (List.range 8).foldl (fun t g => copyIn bs (min 64 (field bs 6 2)) g t) s.copies }

/-- A verified lock comes into force: its ranges fill page REGL and the comparators, and STATE reads LOCKED (R298, R303, R304). -/
def State.lockIn (s : State) (bs : List Nat) : State :=
  let n := field bs 6 2
  let s := (List.range n).foldl (fun s r => s.loadRange bs r) ((s.loadImage bs).set REGL.STATE.NRANGES n)
  { s.set REGL.STATE.STATE 1 with lockSig := true, lockSame := true, copies := (List.range 8).foldl (fun t g => copyIn bs n g t) s.copies }

/-- Tansy verifies the stored lock at a chip reset (R304). (DESIGN CHOICE: log 59) -/
def State.lockBoot (s : State) : State :=
  let bs := s.nvm.lock
  if bs.isEmpty then s
  else if s.lockSigned bs && lockFormed bs then s.lockIn bs
  else (s.loadImage bs).set REGL.STATE.STATE 2

/-! Key packages -/

/-- An entry of a key package's decrypted bytes: SLOT, TYPE, OP, and its reserved bytes zero (R375). -/
def kpSlot (p : List Nat) (e : Nat) : Nat := p.getD (48 * e) 0
def kpTyp (p : List Nat) (e : Nat) : Nat := p.getD (48 * e + 1) 0
def kpOp (p : List Nat) (e : Nat) : Nat := p.getD (48 * e + 2) 0
def kpZero (p : List Nat) (e : Nat) : Bool := p.getD (48 * e + 3) 0 == 0 && zeros p (48 * e + 40) 8

/-- Entries of a package that set or clear a slot (R375). -/
def kpUsed (p : List Nat) : List Nat := (List.range 16).filter fun e => kpOp p e != 0

/-- The stored alarm levels of a package, laid out as SEC.ALARM_LVL (R375). -/
def kpLevels (bs : List Nat) : Nat := (List.range 6).foldl (fun a i => a + bs.getD (48 + i) 0 % 4 * 4 ^ i) 0

/-- The checks that follow a package's decryption (R376). (DESIGN CHOICE: log 61) -/
def kpFormed (bs p : List Nat) : Bool :=
  let used := kpUsed p
  used.all (fun e => decide (kpSlot p e < 16) && decide (kpTyp p e ≤ 4) && decide (kpOp p e ≤ 2))
    && (used.map (kpSlot p)).Nodup
    && bs.getD 48 0 == 3 && (bs.getD 53 0 == 2 || bs.getD 53 0 == 3)
    && (!tbit (field bs 6 2) 0 || (List.range 6).all fun i => decide (1 ≤ bs.getD (48 + i) 0) && decide (bs.getD (48 + i) 0 ≤ 3))
    && decide (field bs 6 2 < 4) && zeros bs 18 2 && zeros bs 54 10 && (List.range 16).all (kpZero p)

/-- The key slots that a package leaves: its entries, wrapped under a key, applied to a base (R374, R375). (DESIGN CHOICE: log 61) -/
def kpApply (kw p : List Nat) (base : Tab KeySlot) : Tab KeySlot :=
  (kpUsed p).foldl (fun t e =>
    if kpOp p e = 1 ∧ kpTyp p e ≠ 0 then
      Tab.set {} t (kpSlot p e) { typ := kpTyp p e, id := field p (48 * e + 4) 4, body := slice p (48 * e + 8) 32, kw := kw }
    else Tab.set {} t (kpSlot p e) {}) base

/-- Page SEC shows the key store: types, identifiers, SLOTS and PROV (R373, R391). -/
def State.showKeys (s : State) (keys : Tab KeySlot) : State :=
  let k := fun j => Tab.get {} keys j
  let s := (List.range 16).foldl (fun s j => (s.set (SEC.KEY_INFO.TYPE j) (k j).typ).set (SEC.KEY_ID.ID j) (k j).id) s
  let m := (List.range 16).foldl (fun a j => if (k j).typ = 0 then a else a + 2 ^ j) 0
  (s.set SEC.STATE.SLOTS m).put SEC.STATE.PROV (m != 0)

end Sys2Proof.Machine
end

