-- ==== Sys2Proof/Machine/Security.lean ====
section
/-! DEFINITION. Tansy: boot, the mailbox and its commands, tamper alarms, application cores, and debug (R303, R360 to R391). -/
namespace Sys2Proof.Machine
open Sys2Proof

/-! Boot -/

/-- The wrapping key KW and the transport key KT of the part (R374). (DESIGN CHOICE: log 7) -/
def State.wrapKey (s : State) : List Nat := Config.kdf s.otp.secret Config.labelKw s.otp.epoch
def State.transportKey (s : State) : List Nat := Config.kdf s.otp.secret Config.labelKt s.otp.epoch

/-- Tansy's own boot ends at 2.0 ms: OTP and keys are read and the lock is verified; the QSPI copy of the boot header is read from now
on, or Tansy waits for FW_LOAD. A slot that does not unwrap under KW raises KEY_INT (R363, R374). (DESIGN CHOICE: log 70) -/
def State.boot (s : State) : State :=
  if !s.rst.loaded || s.tansy.booted || s.inReset then s
  else
    let s := s.until (s.tansy.startAt + ms 2)
    let keys := if s.nvm.zeroDue then [] else s.nvm.keys.filter fun e => e.2.kw == s.wrapKey
    let bad := !s.nvm.zeroDue && s.nvm.keys.any fun e => e.2.kw != s.wrapKey
    let t : State := { s with tansy := { s.tansy with booted := true, keys := keys } }
    let s := (((t.set SEC.UID_LO.UID s.otp.uidLo).set SEC.UID_HI.UID s.otp.uidHi).set SEC.STATE.EPOCH s.otp.epoch).put SEC.STATE.PROV_DEAD s.otp.provDead
    let s := (s.showKeys keys).lockBoot
    let s := if s.straps.bootSrc = 0 then { s with tansy := { s.tansy with reading := s.nvm.copy + 1, second := false } }
      else if s.straps.bootSrc = 3 then s
      else s.set SEC.BOOT_STAT.RESULT 8
    (if bad then s.tamper SEC.src.KEY_INT false else s).updPermit

def execTansyBoot (s : State) : Host.Outcome State Fault Refusal := ok s.boot

/-- BOOT_SRC = 0b11: DONE at 2.0 ms, and the cores stay in reset (R363, R366). -/
def State.bootNoFw (s : State) : State :=
  if s.inReset || !s.tansy.booted || s.straps.bootSrc != 3 then s else ((s.set SEC.BOOT_STAT.DONE 1)).updPermit

def execBootDoneNoFw (s : State) : Host.Outcome State Fault Refusal := ok s.bootNoFw

/-- A verified image: its payload stands in application-core memory, and unless the cores are held they start at its ENTRY
(R363, R366, R368, R383). `copy` is as in BOOT_STAT.COPY. -/
def State.startCores (s : State) (bs payload : List Nat) (copy : Nat) : State :=
  let t : State := { s with tansy := { s.tansy with mem := payload, entry := field bs 16 4, reading := 0 } }
  let s := ((t.set SEC.BOOT_STAT.RESULT 1).set SEC.BOOT_STAT.COPY copy).set SEC.BOOT_STAT.SVN (field bs 10 2)
  if s.trapHold || s.flag SEC.STATE.LOCK then s
  else (((s.set APC.CORE_STAT.RUN 15).set SEC.BOOT_STAT.CORES 1).set SEC.BOOT_STAT.DONE 1).updPermit

/-- The verification of the QSPI copy that is read ends (R363, R365, R367). (DESIGN CHOICE: log 60) -/
def State.qspiEnd (s : State) (bs : List Nat) : State :=
  if s.inReset || s.tansy.reading = 0 then s
  else
    let r := s.verifyFw bs
    if r.1 = 1 then s.startCores bs r.2 s.tansy.reading
    else
      let s := s.dropImage
      if !s.tansy.second then { s with tansy := { s.tansy with reading := 3 - s.tansy.reading, second := true } }
      else
        let t : State := { s with tansy := { s.tansy with reading := 0 } }
        (t.set SEC.BOOT_STAT.RESULT r.1).fire 0x08 SEC.src.BOOT_FAIL {}

/-- QSPI_IMAGE_VERIFIED: the words of the image as read; none where the flash does not answer. -/
def execQspiImageVerified (image : List Word) (s : State) : Host.Outcome State Fault Refusal :=
  ok (s.qspiEnd (wordBytes (image.map (·.toNat))))

/-! The mailbox -/

/-- LEN is the length that a command has; FW_LOAD's own length is only known from its words (R371). (DESIGN CHOICE: log 60) -/
def mbxLenOk (cmd len : Nat) : Bool :=
  if cmd = 1 ∨ cmd = 2 then len == 344 else if cmd = 3 then len == 232 else if cmd = 4 then decide (88 ≤ len)
  else if cmd = 6 ∨ cmd = 7 then len == 49 else len == 0

/-- A mailbox command starts, or ends at once (R368, R370, R371). (DESIGN CHOICE: log 60) -/
def State.mbxStart (s : State) (cmd len : Nat) : State :=
  if s.flag SEC.MBX_STAT.BUSY then s.fire 0x08 SEC.src.MBX_REFUSED {}
  else
    let t : State := { s with tansy := { s.tansy with words := [], need := len, writing := false, outq := [] } }
    let s := ((t.set SEC.MBX_STAT.OUT 0).set SEC.MBX_STAT.LAST cmd).set SEC.MBX_STAT.BUSY 1
    if s.flag SEC.STATE.LOCK then s.mbxEnd 0x0C
    else if !mbxLenOk cmd len then s.mbxEnd 0x02
    else
      let s := if cmd = 4 then { s.holdCores with trapHold := false, tansy := { s.tansy with reading := 0 } } else s
      s.put SEC.MBX_STAT.DATA_WAIT (len != 0)

/-- A write of MBX_CMD. -/
def State.mbxCmdWrite (s : State) (m : Master) (v : Word) : State :=
  let cmd := SEC.MBX_CMD.CMD.of v
  s.guardedBy m 0x8050 v (fieldsAt 0x8050) (decide (1 ≤ cmd) && decide (cmd ≤ 8)) fun t => t.mbxStart cmd (SEC.MBX_CMD.LEN.of v)

def execMbxCmdWrite (m : Master) (v : Word) (s : State) : Host.Outcome State Fault Refusal := ok (s.mbxCmdWrite m v)

/-- The bytes of the object in the mailbox. -/
def State.mbxBytes (s : State) : List Nat := wordBytes s.tansy.words.reverse

/-- An input word, the last of which hands the object to Tansy; the payload of an image stands in application-core memory as it arrives
(R365, R370). (DESIGN CHOICE: log 60) -/
def State.mbxWord (s : State) (v : Word) : State :=
  if !s.flag SEC.MBX_STAT.DATA_WAIT then s.fire 0x08 SEC.src.MBX_REFUSED {}
  else
    let t : State := { s with tansy := { s.tansy with words := v.toNat :: s.tansy.words } }
    let t : State := if s.get SEC.MBX_STAT.LAST = 4 then { t with tansy := { t.tansy with mem := fwArrived t.mbxBytes } } else t
    if t.tansy.words.length < t.tansy.need then t else t.set SEC.MBX_STAT.DATA_WAIT 0

/-- A write of MBX_DATA. -/
def State.mbxDataWrite (s : State) (m : Master) (v : Word) : State := s.guarded m 0x805C v fun t => t.mbxWord v

def execMbxDataWrite (m : Master) (v : Word) (s : State) : Host.Outcome State Fault Refusal := Machine.ok (s.mbxDataWrite m v)

/-- The next output word, and its removal (R370). -/
def State.mbxOut (s : State) : Nat := s.tansy.outq.headD 0
def State.mbxPop (s : State) : State :=
  let t : State := { s with tansy := { s.tansy with outq := s.tansy.outq.drop 1 } }
  t.set SEC.MBX_STAT.OUT t.tansy.outq.length

def execMbxDataRead (m : Master) (s : State) : Host.Outcome State Fault Refusal :=
  Machine.ok (s.ask.readBy m 0x805C (fun t => t.mbxOut) fun t => t.mbxPop)

/-- Tansy processes command `c` now: it has all its words, and does not wait for the NVM (R370). -/
def State.mbxReady (s : State) (c : Nat) : Bool :=
  !s.inReset && s.tansy.booted && s.flag SEC.MBX_STAT.BUSY && !s.flag SEC.MBX_STAT.DATA_WAIT && s.get SEC.MBX_STAT.LAST == c && !s.tansy.writing

/-- Tansy asks for an NVM write, or ends with TEMP or NVM (R303, R333, R369, R376). -/
def State.tansyWrite (s : State) (r : NvmReq) : State :=
  if !s.flag THM.STAT.NVM_OK then (s.nvmEnd 7 r.region 2).tansyEnd 0x0A
  else if s.nvmCause r.region ≠ 0 then (s.nvmEnd 7 r.region (s.nvmCause r.region)).tansyEnd 0x0B
  else ({ s with tansy := { s.tansy with writing := true } } : State).nvmRequest 7 { r with tansy := true }

/-- REGL_CHECK and REGL_WRITE: the checks of R303 on a lock image, and with `write` its writing. (DESIGN CHOICE: log 59) -/
def State.lockCommand (s : State) (write : Bool) : State :=
  let bs := s.mbxBytes
  if write && s.get REGL.STATE.STATE != 0 then s.tansyEnd 9
  else if !s.lockSigned bs then s.tansyEnd 4
  else if !lockFormed bs then s.tansyEnd 3
  else if !write then s.tansyEnd 1
  else s.tansyWrite { region := rgLock, bytes := bs }

def execReglCheck (s : State) : Host.Outcome State Fault Refusal := Machine.ok (if s.mbxReady 1 then s.lockCommand false else s)

def execReglWrite (s : State) : Host.Outcome State Fault Refusal := Machine.ok (if s.mbxReady 2 then s.lockCommand true else s)

/-- KEYPKG: the checks of R376 in order, and the write of the key region. -/
def State.keypkg (s : State) : State :=
  let bs := s.mbxBytes
  if slice bs 0 4 != [0x4B, 0x50, 0x4B, 0x47] || field bs 4 2 != 1 then s.tansyEnd 3
  else if !Config.sigOk s.otp.rootKey (slice bs 0 832) (slice bs 832 96) then s.tansyEnd 4
  else if field bs 8 8 != s.otp.uidHi * 2 ^ 32 + s.otp.uidLo || field bs 16 2 != s.otp.epoch then s.tansyEnd 5
  else if s.otp.provDead then s.tansyEnd 0x0D
  else
    match Config.unwrap s.transportKey (slice bs 20 12) (slice bs 32 16) (slice bs 0 20 ++ slice bs 48 16) (slice bs 64 768) with
    | none => s.tansyEnd 6
    | some p =>
      if !kpFormed bs p then s.tansyEnd 3
      else
        let base := if s.nvm.zeroDue || tbit (field bs 6 2) 1 then [] else s.nvm.keys
        let old := if s.nvm.zeroDue then alarmLvlFactory else s.nvm.alarmLvl
        let set := tbit (field bs 6 2) 0
        s.tansyWrite { region := rgKeys, keys := kpApply s.wrapKey p base, level := if set then kpLevels bs else old, alarms := set }

def execKeypkg (s : State) : Host.Outcome State Fault Refusal := Machine.ok (if s.mbxReady 3 then s.keypkg else s)

/-- The mailbox result of a verification, by its BOOT_STAT.RESULT (R372, R391). -/
def mbxOfBoot (r : Nat) : Nat :=
  if r = 1 then 1 else if r = 2 then 4 else if r = 3 then 3 else if r = 4 then 6 else if r = 5 then 8 else 7

/-- FW_LOAD: the image in the mailbox is verified and started; one that fails leaves the cores in reset (R365, R368).
(DESIGN CHOICE: log 60) -/
def State.fwLoad (s : State) : State :=
  let bs := s.mbxBytes
  if bs.length ≠ 352 + fwLength bs then (s.dropImage.set SEC.BOOT_STAT.RESULT 3).tansyEnd 2
  else
    let r := s.verifyFw bs
    if r.1 = 1 then (s.startCores bs r.2 3).tansyEnd 1
    else (s.dropImage.set SEC.BOOT_STAT.RESULT r.1).tansyEnd (mbxOfBoot r.1)

def execFwLoad (s : State) : Host.Outcome State Fault Refusal := ok (if s.mbxReady 4 then s.fwLoad else s)

/-- Fresh words of a nonce (R371). (DESIGN CHOICE: log 8) -/
def State.drawWords : Nat → State → List Nat × State
  | 0, s => ([], s)
  | n + 1, s =>
    let (x, s) := s.draw
    let (r, s) := State.drawWords n s
    (x % 2 ^ 32 :: r, s)

/-- CHALLENGE: a fresh nonce for debug or factory test (R371, R387). -/
def State.challenge (s : State) : State :=
  let (ws, s) := State.drawWords 8 s
  let t : Tansy := if tbit (s.get SEC.MBX_ARG.ARG) 0 then { s.tansy with nonceFtm := some ws } else { s.tansy with nonceDbg := some ws }
  (({ s with tansy := { t with outq := ws } } : State).set SEC.MBX_STAT.OUT 8).tansyEnd 1

def execChallenge (s : State) : Host.Outcome State Fault Refusal := Machine.ok (if s.mbxReady 5 then s.challenge else s)

/-- SET_MIN_SVN (R369). -/
def State.setMinSvn (s : State) : State :=
  let a := s.get SEC.MBX_ARG.ARG
  if a < s.nvm.minSvn ∨ s.get SEC.BOOT_STAT.SVN < a then s.tansyEnd 9
  else s.tansyWrite { region := rgHeader, data := Tab.set 0 [] 8 a }

def execSetMinSvn (s : State) : Host.Outcome State Fault Refusal := Machine.ok (if s.mbxReady 8 then s.setMinSvn else s)

/-! Responses -/

/-- The live nonce of a purpose (R387). -/
def State.nonce (s : State) (ftm : Bool) : Option (List Nat) := if ftm then s.tansy.nonceFtm else s.tansy.nonceDbg

/-- The verdict on a response, as a mailbox result: 1, 3 FORMAT, 4 SIGNATURE or 7 NOKEY (R387). (DESIGN CHOICE: log 62) -/
def State.judgeResp (s : State) (ftm : Bool) (bs : List Nat) : Nat :=
  let pub := slice bs 4 96
  match s.nonce ftm with
  | none => 4
  | some n =>
    if bs.getD 3 0 ≠ 0 ∨ 1 < bs.getD 1 0 ∨ 7 < bs.getD 0 0 then 3
    else
      let uid := beBytes s.otp.uidHi ++ beBytes s.otp.uidLo
      if bs.getD 1 0 = 1 ∧ s.keyOf (bs.getD 2 0) (if ftm then 4 else 3) pub = false then 7
      else if Config.sigOk (if bs.getD 1 0 = 1 then pub else s.otp.rootKey) (uid ++ wordBytes n ++ slice bs 0 100) (slice bs 100 96) then 1
      else 4

/-- A response's nonce is used up (R387). (DESIGN CHOICE: log 62) -/
def State.useNonce (s : State) (ftm : Bool) : State :=
  { s with tansy := if ftm then { s.tansy with nonceFtm := none } else { s.tansy with nonceDbg := none } }

/-- What a passing response grants: the scopes that it names, SCAN only under FTM; or the factory-test authorisation (R386, R389). -/
def State.grant (s : State) (ftm : Bool) (scope : Nat) : State :=
  if ftm then s.set SEC.STATE.FTM 1
  else s.set SEC.STATE.SCOPE (s.get SEC.STATE.SCOPE ||| (if s.flag SEC.STATE.FTM then scope else scope % 4))

/-- A verified response: the grant and FAILS = 0, or a failure more; `true` with the third failure, which sets FAILS to 0 and fires
DEBUG (R387, R388). -/
def State.respond (s : State) (ftm : Bool) (bs : List Nat) : State × Nat × Bool :=
  let r := s.judgeResp ftm bs
  if r = 3 then (s, r, false)
  else
    let s := s.useNonce ftm
    if r = 1 then ((s.grant ftm (bs.getD 0 0)).set SEC.DBG.FAILS 0, r, false)
    else if s.get SEC.DBG.FAILS < 2 then (s.set SEC.DBG.FAILS (s.get SEC.DBG.FAILS + 1), r, false)
    else (s.set SEC.DBG.FAILS 0, r, true)

/-- A response by mailbox (R387 to R389). -/
def State.mbxRespond (s : State) (ftm : Bool) : State :=
  if ftm && !s.straps.testMode then s.tansyEnd 0x0C
  else
    let (s, r, fire) := s.respond ftm s.mbxBytes
    let s := s.tansyEnd r
    if fire then s.tamper SEC.src.DEBUG false else s

def execDbgUnlock (s : State) : Host.Outcome State Fault Refusal := ok (if s.mbxReady 6 then s.mbxRespond false else s)

def execFtmAuth (s : State) : Host.Outcome State Fault Refusal := ok (if s.mbxReady 7 then s.mbxRespond true else s)

/-- A response through the TAP (R387). (DESIGN CHOICE: log 62) -/
def State.jtagRespond (s : State) (ftm : Bool) (bs : List Nat) : State :=
  if s.inReset || !s.tansy.booted || (ftm && !s.straps.testMode) then s
  else
    let (s, _, fire) := s.respond ftm bs
    if fire then s.tamper SEC.src.DEBUG false else s

/-- JTAG_RESPONSE: the 49 words of a response (R387). -/
def execJtagResponse (ftm : Bool) (resp : List Word) (s : State) : Host.Outcome State Fault Refusal :=
  ok (s.jtagRespond ftm (wordBytes (resp.map (·.toNat))))

/-! Tamper -/

/-- TAMPER_ALARM: a tamper source detects, or its condition ends (R377, R380). -/
def execTamperAlarm (src : Fin 6) (begins : Bool) (s : State) : Host.Outcome State Fault Refusal := ok (s.occur 0x08 src.val begins)

/-- MESH or TEMP_AON in SLEEP: I00 carries out an ERASE's fuse step on a provisioned part, and latches an alarm at LOCK or ERASE
(R380, R382). -/
def State.sleepTamper (s : State) (b : Nat) : State :=
  let lvl := bits (if s.nvm.zeroDue then alarmLvlFactory else s.nvm.alarmLvl) (2 * b) 2
  if !s.aon.asleep || !(b == SEC.src.MESH || b == SEC.src.TEMP_AON) || lvl < 2 || tbit s.aon.sleepAlarm b then s
  else
    let s : State := { s with aon := { s.aon with sleepAlarm := setBit s.aon.sleepAlarm b } }
    if lvl < 3 || s.nvm.zeroDue || s.nvm.keys.isEmpty then s
    else
      let o := if s.otp.epoch < 63 then { s.otp with epoch := s.otp.epoch + 1 } else { s.otp with provDead := true }
      { s with otp := o, nvm := { s.nvm with zeroDue := true } }

def execSleepTamper (src : Fin 6) (s : State) : Host.Outcome State Fault Refusal := Machine.ok (s.sleepTamper src.val)

/-- After an erasure, from the next chip reset, the key region is overwritten with zeros once the write window is open (R380).
(DESIGN CHOICE: log 62) -/
def State.zeroKeys (s : State) : State :=
  if s.nvm.zeroDue && s.tansy.booted && !s.inReset && !s.flag SEC.STATE.ERASED && s.flag THM.STAT.NVM_OK then
    let t : State := { s with nvm := { s.nvm with zeroDue := false, keys := [], alarmLvl := alarmLvlFactory } }
    t.nvmEnd 7 rgKeys 1
  else s

def execKeyRegionZeroize (s : State) : Host.Outcome State Fault Refusal := Machine.ok s.zeroKeys

/-- Levels that the table of R377 allows for tamper source `i`. -/
def lvlAllowed (i l : Nat) : Bool := if i = 0 then l == 3 else if i = 5 then decide (2 ≤ l) else decide (1 ≤ l)

/-- A write of ALARM_LVL that raises levels, or is refused whole (R378). -/
def State.raiseLvl (s : State) (v : Word) : State :=
  if (List.range 6).all fun i => decide (s.alarmLvl i ≤ bits v.toNat (2 * i) 2) && lvlAllowed i (bits v.toNat (2 * i) 2) then s.writeReg 0x804C v
  else s.fire 0x08 SEC.src.LVL_REFUSED {}

/-- A write of ALARM_LVL by a master; a field of 0b00 is a reserved value (R6, R378). -/
def State.alarmLvlWrite (s : State) (m : Master) (v : Word) : State :=
  s.guardedBy m 0x804C v (fieldsAt 0x804C) ((List.range 6).all fun i => bits v.toNat (2 * i) 2 != 0) fun t => t.raiseLvl v

def execAlarmLvlWrite (m : Master) (v : Word) (s : State) : Host.Outcome State Fault Refusal := Machine.ok (s.alarmLvlWrite m v)

/-! Application cores -/

/-- The watchdog of core `c` restarts. (DESIGN CHOICE: log 63) -/
def State.kick (s : State) (c : Nat) : State := { s with tansy := { s.tansy with kickAt := Tab.set 0 s.tansy.kickAt c s.now } }

/-- A running watchdog reaches its timeout; with RST its core alone restarts at ENTRY (R385). -/
def State.wdog (s : State) (c : Nat) : State :=
  if s.inReset || s.resetting 0x2E || !s.flag (APC.WDOG.EN c) then s
  else
    let s := (s.until (Tab.get 0 s.tansy.kickAt c + ms (s.get (APC.WDOG.MS c)))).kick c
    let s := if s.flag (APC.WDOG.RST c) then s.putBit APC.CORE_STAT.WDR c true else s
    let s := if s.flag (APC.WDOG.RST c) && s.flag SEC.BOOT_STAT.CORES then (s.putBit APC.CORE_STAT.HALTED c false).putBit APC.CORE_STAT.RUN c true
      else s
    s.fire 0x2E APC.src.WDOG {}

def execWatchdogExpiry (c : Fin 4) (s : State) : Host.Outcome State Fault Refusal := ok (s.wdog c.val)

/-- The effect of a write of WDOG_KICK: KEY was checked under R6. -/
def State.kicks (s : State) (v : Word) : State := ((List.range 4).filter fun c => v.getLsbD c).foldl (fun s c => s.kick c) s

/-- A write of WDOG_KICK by a master. -/
def State.kickWrite (s : State) (m : Master) (v : Word) : State := s.guarded m 0x2E058 v fun t => t.kicks v

def execWdogKick (m : Master) (v : Word) (s : State) : Host.Outcome State Fault Refusal := Machine.ok (s.kickWrite m v)

/-- The effect of a write of WDOG_c: one that would clear EN is dropped without a notice (R385). (DESIGN CHOICE: log 63) -/
def State.wdogCfg (s : State) (c : Nat) (v : Word) : State :=
  if s.flag (APC.WDOG.EN c) && !v.getLsbD 31 then s
  else
    let starts := !s.flag (APC.WDOG.EN c) && v.getLsbD 31
    let s := s.writeReg (0x2E048 + 4 * c) v
    if starts then s.kick c else s

/-- An application core breaks its memory protection unit (R385). (DESIGN CHOICE: log 63, 70) -/
def State.mpu (s : State) (c : Nat) (write exec : Bool) (a : Word) : State :=
  if s.inReset || !tbit (s.get APC.CORE_STAT.RUN) c then s
  else
    let s := if s.flag APC.MPU_NOTE.VALID then s
      else ((((s.set APC.MPU_NOTE.VALID 1).put APC.MPU_NOTE.WRITE write).put APC.MPU_NOTE.EXEC exec).set APC.MPU_NOTE.CORE c).set APC.MPU_ADDR.ADDR a.toNat
    s.fire 0x2E APC.src.MPU_FAULT {}

def execMpuViolation (c : Fin 4) (write exec : Bool) (a : Word) (s : State) : Host.Outcome State Fault Refusal := ok (s.mpu c.val write exec a)

/-- The word at a byte address of application-core memory, most significant byte first, and the memory with a word written. Bytes that no
image has filled are zero (R365, R386). (DESIGN CHOICE: log 63) -/
def State.coreWord (s : State) (a : Nat) : Nat := field (s.tansy.mem ++ List.replicate (a + 4 - s.tansy.mem.length) 0) a 4
def State.putCoreWord (s : State) (a v : Nat) : State :=
  let m := s.tansy.mem ++ List.replicate (a + 4 - s.tansy.mem.length) 0
  { s with tansy := { s.tansy with mem := m.take a ++ (leBytes 4 v).reverse ++ m.drop (a + 4) } }

/-- A JTAG instruction within the scopes granted; outside them it is locked. A step leaves its core halted; an access without an address
answers a word of which the spec states nothing, as do IDCODE and SAMPLE, which are always available (R386, R387).
(DESIGN CHOICE: log 63) -/
def State.jtag (s : State) (a : JtagAct) : State :=
  let apc := !s.inReset && tbit (s.get SEC.STATE.SCOPE) 0
  let swap := fun (c : Nat) (halt : Bool) => (s.putBit APC.CORE_STAT.HALTED c halt).putBit APC.CORE_STAT.RUN c (!halt)
  match a with
  | .halt c => if apc && tbit (s.get APC.CORE_STAT.RUN) c.val then swap c.val true else s
  | .resume c => if apc && tbit (s.get APC.CORE_STAT.HALTED) c.val then swap c.val false else s
  | .step _ => s
  | .access _ =>
    if apc then
      let (x, t) := s.draw
      ({ t with out := [] } : State).reply x
    else s
  | .memRead a => if apc then ({ s with out := [] } : State).reply (s.coreWord a.val) else s
  | .memWrite a v => if apc then s.putCoreWord a.val v.toNat else s
  | .boundaryScan on =>
    if !s.inReset && tbit (s.get SEC.STATE.SCOPE) 1 then { s with tansy := { s.tansy with bscan := on } } else s
  | .intest on => if !s.inReset && tbit (s.get SEC.STATE.SCOPE) 1 then { s with tansy := { s.tansy with intest := on } } else s
  | .scan on =>
    if !s.inReset && tbit (s.get SEC.STATE.SCOPE) 2 && s.flag SEC.STATE.FTM then { s with tansy := { s.tansy with scan := on } } else s
  | .bypass => ({ s with out := [] } : State).reply 0
  | .idcode => ({ s with out := [] } : State).reply Config.idcode
  | .sample =>
    let (x, t) := s.draw
    ({ t with out := [] } : State).reply x
  | .secChal ftm => { s with out := ((s.nonce ftm).getD (List.replicate 8 0)).map fun w => BitVec.ofNat 32 w }

def execJtagDebugAccess (act : JtagAct) (s : State) : Host.Outcome State Fault Refusal := Machine.ok (s.jtag act)

end Sys2Proof.Machine
end

