-- ==== Sys2Proof/Machine/Nvm.lean ====
section
/-! DEFINITION. The end of the NVM load, the calibration set, the bias power-up table, the boot header, the counters and the ends of
region writes (R57, R313, R344, R392 to R406). -/
namespace Sys2Proof.Machine
open Sys2Proof

/-! The NVM load -/

/-- Word `w` of a bias power-up entry as shipped (R402). (DESIGN CHOICE: log 4) -/
def bptShipped (w : Nat) : Nat := if w = 0 then 0x38000 else if w = 1 then 0x0803F00A else if w = 2 then 0x40032 else 1

/-- Word `w` of channel `c`'s stored power-up entry (R402). -/
def State.bptWord (s : State) (c w : Nat) : Nat := Tab.get (bptShipped w) s.nvm.bpt (4 * c + w)

/-- A channel takes its power-up entry, leaves the clamp unless it is latched, and moves to its target (R41, R313).
(DESIGN CHOICE: log 55) -/
def State.loadBias (s : State) (c : Nat) : State :=
  let s := ((s.writeReg (biasAddr c 1) (BitVec.ofNat 32 (s.bptWord c 0))).writeReg (biasAddr c 0) (BitVec.ofNat 32 (s.bptWord c 1))).writeReg
    (biasAddr c 4) (BitVec.ofNat 32 (s.bptWord c 2))
  let s := s.putBit (BIA.SAFE_MASK.MASK (c / 32)) (c % 32) (tbit (s.bptWord c 3) 0)
  let s := s.modCh c fun x => { x with valP := s.bptWord c 0, cfgP := s.bptWord c 1, winP := s.bptWord c 2 }
  if s.get (bState c) = bHeld then s else s.startMove c

/-- The calibration set comes into force, or defaults of which the spec states nothing where none is valid (R397, R401); and the staged
set is loaded (R400). (DESIGN CHOICE: log 25) -/
def State.loadCal (s : State) : State :=
  let s : State := { s with nvm := { s.nvm with staged := s.nvm.cal } }
  if s.nvm.calBad then
    let s := (List.range 64).foldl (fun s k =>
      let (x, s) := s.draw
      let w := (if k % 8 < 4 then x % 28 else x % 4) * 256 + x / 28 % 2 * 2
      ({ s with nvm := { s.nvm with calLive := Tab.set 0 s.nvm.calLive (0x10 + 16 * (k / 8) + k % 8) w } } : State)) ({ s with nvm := { s.nvm with calLive := [] } } : State)
    s
  else ({ s with nvm := { s.nvm with calLive := s.nvm.cal } } : State).set CLK.OSC_STAT.TRIMMED 1

/-- After an AON power-on reset the counters are loaded, and records made before it take the loaded values (R404, R409). -/
def State.loadCounters (s : State) : State :=
  let s := if s.aon.loadDue then
      let t : State := { s with aon := { s.aon with opBase := s.nvm.opSec, opFrom := s.now, loadDue := false } }
      let t := t.set NVM.PCYC.COUNT s.nvm.pcyc
      ({ t with evt := { t.evt with buf := t.evt.buf.map fun r : Rec => { r with opSec := s.nvm.opSec, tick := 0, pcyc := s.nvm.pcyc } } } : State)
    else s
  let s := (s.set NVM.OP_SEC_LO.SEC s.opSec).set NVM.OP_SEC_HI.SEC (s.opSec / 2 ^ 32)
  if s.aon.pcycDue then (({ s with aon := { s.aon with pcycDue := false } } : State).wrap NVM.PCYC.COUNT).writeCounters else s

/-- Registers whose reset value stands in NVM: the staged header, the delegation and the alarm levels (R127, R378, R403). -/
def State.loadRegs (s : State) : State :=
  let s := (List.range 4).foldl (fun s d =>
    let m := Tab.get (delegFactory d) s.nvm.deleg d
    (s.set (NVM.HDR_DELEG.MASK d) m).set (OWN.DELEGATE.MASK d) m) s
  let s := (s.set NVM.HDR_CTL.COPY s.nvm.copy).set NVM.HDR_SVN.MIN_SVN s.nvm.minSvn
  (s.set SEC.ALARM_LVL.LVL (if s.nvm.zeroDue then alarmLvlFactory else s.nvm.alarmLvl)).syncSnap

/-- The START record (R417). -/
def State.startRec (s : State) : State :=
  let n := s.evt.buf.length
  let w := fun a => leBytes 4 (s.assemble (fieldsAt a))
  (s.log { code := 1, priv := true, payload := w 0x2110 ++ w 0x204C ++ w 0x44 ++ leBytes 3 n ++ List.replicate 9 0 }).startFlush

/-- The regions that the loader takes, of two copies each; Tansy handles the key region (R397). -/
def loaderRegion (r : Nat) : Bool := twoCopies r && r != rgKeys

/-- The errors that the loader meets: `ce` word groups corrected, and the regions of `ue` with an uncorrectable word group in their valid
record (R397). -/
def State.loadErrors (s : State) (ce : Nat) (ue : List Nat) : State :=
  let bad := ue.filter loaderRegion
  let t : State := { s with nvm := bad.foldl Nvm.spoil s.nvm }
  (t.count NVM.ECC.CE_CNT ce).count NVM.ECC.UE_CNT bad.length

/-- The NVM loader is done (R57, R313, R397, R413). (DESIGN CHOICE: log 24, 25) -/
def State.loadDone (s : State) (ce : Nat) (ue : List Nat) : State :=
  if s.inReset || s.rst.loaded then s
  else
    let s : State := { s with rst := { s.rst with loaded := true } }
    let s := s.loadErrors ce ue
    let s := s.loadCounters.loadCal.loadRegs.loadCopies
    let s := (List.range 64).foldl (fun s c => s.loadBias c) s
    let s := (s.put CLK.OSC_STAT.REF_OK s.board.refclk).set CLK.OSC_STAT.DEV (if s.board.refclk then s.board.refDev else 0)
    let s := if s.board.refclk && s.flag CLK.OSC_STAT.TRIMMED && 550 ≤ devSize s.board.refDev then s.refDeclare false s.board.refDev else s
    let s := if ue.any loaderRegion then s.fire 0x07 NVM.src.NVM_UE {} else s
    let s := if s.nvm.calBad then s.fire 0x07 NVM.src.CAL_LOST {} else s
    let s := if s.inReset then s else s.sleepAlarms.tellTampers
    if s.inReset then s else s.startRec

def execNvmLoadDone (s : State) (ce : Nat := 0) (ue : List (Fin 9) := []) : Host.Outcome State Fault Refusal := ok (s.loadDone ce (ue.map (·.val)))

/-! The calibration set -/

/-- The staged entry that CAL_SEL names; INDEX advances after each access (R400, R406). -/
def State.calWord (s : State) : Nat := Tab.get 0 s.nvm.staged (s.get NVM.CAL_SEL.INDEX)
def State.calNext (s : State) : State := s.wrap NVM.CAL_SEL.INDEX

/-- The effect of a write of CAL_DATA, dropped while a commit is pending (R400). -/
def State.calData (s : State) (v : Word) : State :=
  if s.flag NVM.CAL_CTL.PEND then s.calNext
  else ({ s with nvm := { s.nvm with staged := Tab.set 0 s.nvm.staged (s.get NVM.CAL_SEL.INDEX) v.toNat } } : State).calNext

/-- A write of CAL_DATA by a master. (DESIGN CHOICE: log 64) -/
def State.calDataWrite (s : State) (m : Master) (v : Word) : State := s.guarded m 0x7054 v fun t => t.calData v

/-- A read of CAL_DATA by a master. -/
def State.calDataRead (s : State) (m : Master) : State := s.readBy m 0x7054 (fun t => t.calWord) fun t => t.calNext

def execCalDataAccess (m : Master) (write : Bool) (v : Word) (s : State) : Host.Outcome State Fault Refusal :=
  .next (if write then s.calDataWrite m v else s.ask.calDataRead m)

/-- NVM.CAL_CRC: the CRC-32 of the staged entries in order (R406). -/
def State.calCrc (s : State) : Nat := crc32 (((List.range 2048).map fun e => leBytes 4 (Tab.get 0 s.nvm.staged e)).flatten)

/-- NVM.CAL_ORIGIN: origin bits of the 32 entries around INDEX (R399, R406). -/
def State.calOrigin (s : State) : Nat :=
  (List.range 32).foldl (fun w i => if s.nvm.calUser.contains (s.get NVM.CAL_SEL.INDEX / 32 * 32 + i) then w + 2 ^ i else w) 0

/-- NVM.CAL_CTL.DIRTY (R406). -/
def State.calDirty (s : State) : Bool := s.nvm.staged != s.nvm.cal

/-- A write of a control register with a KEY field; a wrong KEY shows as a cause (R396). (DESIGN CHOICE: log 19) -/
def State.keyed (s : State) (m : Master) (a : Nat) (v : Word) (region : Nat) (f : State → State) : State :=
  let t := match s.judge m a v (fieldsAt a) true with
    | .value => (s.set NVM.RESULT.CAUSE 7).set NVM.RESULT.REGION region
    | _ => s
  t.guarded m a v f

/-- The effect of a write of CAL_CTL (R400). (DESIGN CHOICE: log 64) -/
def State.calCtl (s : State) (m : Nat) (v : Word) : State :=
  let s := s.writeReg 0x705C v
  let s := if v.getLsbD 1 then ({ s with nvm := { s.nvm with staged := s.nvm.cal } } : State) else s
  if !v.getLsbD 0 then s
  else if s.flag NVM.CAL_CTL.CHECK_EN && s.calCrc != s.get NVM.CAL_CRC_EXP.CRC then s.nvmEnd m rgCal 5
  else s.nvmRequest m { region := rgCal, data := s.nvm.staged }

/-- A write of CAL_CTL by a master. -/
def State.calCtlWrite (s : State) (m : Master) (v : Word) : State := s.keyed m 0x705C v rgCal fun t => t.calCtl m.num v

def execCalCommit (m : Master) (v : Word) (s : State) : Host.Outcome State Fault Refusal := Machine.ok (s.calCtlWrite m v)

def execCalRevert (m : Master) (v : Word) (s : State) : Host.Outcome State Fault Refusal := Machine.ok (s.calCtlWrite m v)

/-! Bias power-up table and boot header -/

/-- The registers of all channels as a bias power-up table (R402). -/
def State.bptImage (s : State) : Tab Nat :=
  (List.range 64).foldl (fun t c =>
    let w := fun r => s.assemble (fieldsAt (biasAddr c r))
    let cfg := w 0 - s.get (bGen c) * 2 ^ (bGen c).lo
    let mask := (tbit (s.get (BIA.SAFE_MASK.MASK (c / 32))) (c % 32)).toNat
    Tab.set 0 (Tab.set 0 (Tab.set 0 (Tab.set 0 t (4 * c) (w 1)) (4 * c + 1) cfg) (4 * c + 2) (w 2)) (4 * c + 3) mask) []

/-- A write of BPT_CTL by a master (R402). -/
def State.bptCtlWrite (s : State) (m : Master) (v : Word) : State :=
  s.keyed m 0x7070 v rgBias fun t => if v.getLsbD 0 then t.nvmRequest m.num { region := rgBias, data := t.bptImage } else t

def execBptSave (m : Master) (v : Word) (s : State) : Host.Outcome State Fault Refusal := Machine.ok (s.bptCtlWrite m v)

/-- The staged header: the copy as word 0, the delegation as words 1 to 4 (R403). -/
def State.hdrImage (s : State) : Tab Nat :=
  (List.range 4).foldl (fun t d => Tab.set 0 t (d + 1) (s.get (NVM.HDR_DELEG.MASK d))) (Tab.set 0 [] 0 (s.get NVM.HDR_CTL.COPY))

/-- A write of HDR_CTL by a master (R403). -/
def State.hdrCtlWrite (s : State) (m : Master) (v : Word) : State :=
  s.keyed m 0x7074 v rgHeader fun t =>
    let t := t.writeReg 0x7074 v
    if v.getLsbD 0 then t.nvmRequest m.num { region := rgHeader, data := t.hdrImage } else t

def execHdrCommit (m : Master) (v : Word) (s : State) : Host.Outcome State Fault Refusal := Machine.ok (s.hdrCtlWrite m v)

/-! Ends of region writes -/

/-- The store after a committed region write (R395, R399, R402, R403). -/
def Nvm.commit (n : Nvm) (q : NvmReq) : Nvm :=
  if q.region = rgCal then
    let changed := (List.range 2048).filter fun e => Tab.get 0 q.data e != Tab.get 0 n.cal e
    { n with cal := q.data, calUser := changed.foldl NSet.add n.calUser, calBad := false }
  else if q.region = rgBias then
    { n with bpt := (List.range 256).foldl (fun t k => Tab.set (bptShipped (k % 4)) t k (Tab.get 0 q.data k)) [] }
  else if q.region = rgHeader then
    (if q.tansy then { n with minSvn := Tab.get 0 q.data 8 }
     else { n with copy := Tab.get 0 q.data 0, deleg := (List.range 4).foldl (fun t d => Tab.set (delegFactory d) t d (Tab.get 0 q.data (d + 1))) [] })
  else if q.region = rgKeys then { n with keys := q.keys, alarmLvl := q.level, zeroDue := false }
  else if q.region = rgLock then { n with lock := q.bytes }
  else n

/-- What takes effect at once when Tansy's write commits (R303, R369, R376). -/
def State.tansyDone (s : State) (q : NvmReq) : State :=
  if q.region = rgKeys then 
    let t := ({ s with tansy := { s.tansy with keys := q.keys } } : State).showKeys q.keys
    if q.alarms then t.set SEC.ALARM_LVL.LVL q.level else t
  else if q.region = rgLock then s.lockIn q.bytes
  else s.set NVM.HDR_SVN.MIN_SVN s.nvm.minSvn

/-- The running region write ends, other than a snapshot save (R394, R396). (DESIGN CHOICE: log 64) -/
def State.nvmDone (s : State) (stored : Bool) : State :=
  match s.nvm.queue with
  | [] => s
  | q :: rest =>
    if q.region = rgSnap then s
    else
      let n := if stored then (s.nvm.renew q.region).commit q else s.nvm
      let t : State := { s with nvm := { n with queue := rest } }
      let t := if q.tansy && stored then t.syncNvm.tansyDone q else t.syncNvm
      let s := t.nvmEnd 7 q.region (if stored then 1 else 6)
      if !q.tansy then s else if stored then (s.tansyEnd 1).updPermit else s.tansyEnd 0x0B

def execNvmWriteDone (ok : Bool) (s : State) : Host.Outcome State Fault Refusal := Machine.ok (s.nvmDone ok)

/-- The next 360 s boundary of operating time; the counters are written unless the window or the power-fail sequence refuses it, and then
at a later boundary (R404). (DESIGN CHOICE: log 64) -/
def State.counterBoundary (s : State) : State :=
  if s.inReset || !s.rst.loaded then s
  else
    let b := max (s.nvm.opAt / 360 + 1) ((s.opSec + 359) / 360) * 360
    let s := s.until (s.aon.opFrom + (b - s.aon.opBase) * 983040000)
    let s : State := { s with nvm := { s.nvm with opAt := b } }
    if s.pfRuns || s.rst.faultWaits then s else s.writeCounters

def execCounterWrite (s : State) : Host.Outcome State Fault Refusal := Machine.ok s.counterBoundary

/-- The word group in progress completes, and a chip reset that waited for it begins (R334, R344). -/
def State.groupDone (s : State) : State :=
  if s.rst.faultWaits && !s.pfRuns then s.faultReset s.rst.waitPage else s

def execNvmWordGroupDone (s : State) : Host.Outcome State Fault Refusal := Machine.ok s.groupDone

end Sys2Proof.Machine
end

