-- ==== Sys2Proof/Machine/Events.lean ====
section
/-! DEFINITION. The event recorder's writes, flushes, scan and window, and the token buckets (R407 to R422). -/
namespace Sys2Proof.Machine
open Sys2Proof

/-! Records in the store -/

/-- The position of a number (R408). -/
def recPos (q : Nat) : Nat := if q < 1024 then q else 1024 + (q - 1024) % 32768

/-- The record at a position. -/
def State.stored (s : State) (p : Nat) : Option Rec := Tab.get none s.evt.store p

/-- A valid record with a higher number stands at the position of a record (R413). (DESIGN CHOICE: log 65) -/
def State.outRun (s : State) (r : Rec) : Bool :=
  match r.seq with
  | none => false
  | some q => (s.stored (recPos q)).any fun x => !x.bad && decide (q < x.seq.getD 0)

/-- A numbered record is written to its position, with FLUSHED set in a privileged one, or counted as lost where a record with a higher
number stands there (R411, R413). -/
def State.writeRec (s : State) (r : Rec) : State :=
  match r.seq with
  | none => s
  | some q =>
    if s.outRun r then s.count EVT.LOSS.LOST 1
    else { s with evt := { s.evt with store := Tab.set none s.evt.store (recPos q) (some { r with flushed := r.priv }) } }

/-- Records are written in order; the number of them that were lost comes with the state. (DESIGN CHOICE: log 65) -/
def State.writeRecs (s : State) (l : List Rec) : State × Nat :=
  l.foldl (fun x r => (x.1.writeRec r, x.2 + (x.1.outRun r).toNat)) (s, 0)

/-- EVT_LOST for each of `n` lost records (R413). (DESIGN CHOICE: log 65) -/
def State.lostNotices (s : State) (n : Nat) : State := (List.range n).foldl (fun s _ => s.fire 0x06 EVT.src.EVT_LOST {}) s

/-- The records of the buffer that `f` selects leave it for the store, in order of number (R411, R413). -/
def State.writeOut (s : State) (f : Rec → Bool) : State × Nat :=
  let t : State := { s with evt := { s.evt with buf := s.evt.buf.filter fun r => !(r.seq.isSome && f r) } }
  t.writeRecs (s.evt.buf.filter fun r => r.seq.isSome && f r)

/-- The NVM controller takes event writes (R333, R334). (DESIGN CHOICE: log 65) -/
def State.evtOpen (s : State) : Bool := !s.inReset && s.flag THM.STAT.NVM_OK && (!s.rst.faultWaits || s.pfRuns)

/-- The recorder reads positions of the store: `ce` word groups are corrected, and the records at `ue` have two bits in error and are no
longer valid (R397, R421). (DESIGN CHOICE: log 64) -/
def State.storeRead (s : State) (ce : Nat) (ue : List Nat) : State :=
  let spoil := fun (t : Tab (Option Rec)) (p : Nat) => Tab.set none t p ((Tab.get none t p).map fun r => { r with bad := true })
  let t : State := { s with evt := { s.evt with store := ue.foldl spoil s.evt.store } }
  t.count NVM.ECC.CE_CNT ce

/-- `n` records were read with two bits in error (R397, R421). (DESIGN CHOICE: log 64) -/
def State.storeErrors (s : State) (n : Nat) : State :=
  if n = 0 then s else (s.count NVM.ECC.UE_CNT n).fire 0x07 NVM.src.NVM_UE {}

/-- The oldest waiting direct record is written (R411). -/
def State.directWrite (s : State) : State :=
  if !s.evtOpen || s.pfRuns then s
  else
    match s.evt.buf.find? fun r => r.seq.isSome && !r.priv with
    | none => s
    | some r =>
      let x := s.writeOut fun y => y.seq == r.seq
      x.1.lostNotices x.2

def execEventDirectWrite (s : State) : Host.Outcome State Fault Refusal := Machine.ok s.directWrite

/-! Flushes -/

/-- The effect of a write of EVT.CTL (R413). -/
def State.evtCtl (s : State) (v : Word) : State := if v.getLsbD 0 then s.startFlush else s

/-- A write of EVT.CTL by a master. -/
def State.evtCtlWrite (s : State) (m : Master) (v : Word) : State := s.guarded m 0x6040 v fun t => t.evtCtl v

def execEvtFlushCommand (m : Master) (v : Word) (s : State) : Host.Outcome State Fault Refusal := Machine.ok (s.evtCtlWrite m v)

/-- The oldest privileged record reaches 10 s in the buffer (R413). -/
def State.ageLimit (s : State) : State :=
  match s.evt.buf.find? fun r => r.priv with
  | none => s
  | some r =>
    if s.inReset || s.evt.flushing then s
    else (s.until (s.aon.opFrom + (r.opSec + 10 - s.aon.opBase) * 983040000 + r.tick * 30000)).startFlush

def execEventAgeLimit (s : State) : Host.Outcome State Fault Refusal := Machine.ok s.ageLimit

/-- A flush ends: every privileged record is written; where the write window is closed they stay, and the flush goes on when it opens
(R413, R414). -/
def State.flushDone (s : State) : State :=
  if !s.evt.flushing || s.evt.scanDue || !s.evtOpen then s
  else
    let x := s.writeOut fun r => r.priv
    let t : State := { x.1 with evt := { x.1.evt with flushing := x.1.privCount != 0 } }
    t.lostNotices x.2

def execEventFlushDone (s : State) : Host.Outcome State Fault Refusal := Machine.ok s.flushDone

/-- The cause of a refusal has ended: the records that were refused are written in order of number (R414). -/
def State.evtRetry (s : State) : State :=
  if s.evt.scanDue || !s.evtOpen || s.pfRuns then s
  else
    let fl := s.evt.flushing
    let x := s.writeOut fun r => !r.priv || fl
    let t : State := { x.1 with evt := { x.1.evt with flushing := fl && x.1.privCount != 0 } }
    t.lostNotices x.2

def execEventRetry (s : State) : Host.Outcome State Fault Refusal := Machine.ok s.evtRetry

/-! The log scan -/

/-- The highest number of a valid record in the store (R410). -/
def State.lastStored (s : State) : Nat :=
  (s.evt.store.foldl (fun (b : Option Nat) e => match e.2 with
    | none => b
    | some r => if r.bad then b else some (max (b.getD 0) (r.seq.getD 0))) none).getD 0xFFFFFFFF

/-- Records of the store that are not valid. -/
def State.badRecs (s : State) : Nat := (s.evt.store.filter fun e => e.2.any fun r => r.bad).length

/-- The scan ends: LAST is set, the waiting records are numbered, and LOG_INIT is written (R410). -/
def State.scanDone (s : State) (ce : Nat) (ue : List Nat) : State :=
  if s.inReset || !s.rst.loaded || !s.evt.scanDue then s
  else
    let s := s.storeRead ce ue
    let last := s.lastStored
    let n := s.badRecs
    let wait := s.evt.buf
    let t : State := { s.set EVT.LAST.SEQ last with evt := { s.evt with scanDue := false, buf := [] } }
    let s := wait.foldl (fun s r => s.enter r) t
    (s.log { code := 2, payload := leBytes 4 last ++ leBytes 2 wait.length ++ List.replicate 18 0 }).storeErrors n

def execEventLogScanDone (s : State) (ce : Nat := 0) (ue : List (Fin 33792) := []) : Host.Outcome State Fault Refusal :=
  Machine.ok (s.scanDone ce (ue.map (·.val)))

/-- EVT.OLDEST (R420). -/
def State.oldest (s : State) : Nat := if s.get EVT.LAST.SEQ = 0xFFFFFFFF then 0xFFFFFFFF else max 1024 (s.get EVT.LAST.SEQ - 32767)

/-- EVT.PERM.COUNT: permanent positions written (R422). -/
def State.permCount (s : State) : Nat := if s.evt.scanDue then 0 else (s.evt.store.filter fun e => decide (e.1 < 1024) && e.2.isSome).length

/-! The window -/

/-- The first 60 bytes of a record, and the whole of it with its CRC (R407). -/
def Rec.body (r : Rec) : List Nat :=
  leBytes 4 (r.seq.getD 0xFFFFFFFF) ++ leBytes 4 r.opSec
    ++ [r.opSec / 2 ^ 32 % 16 + 16 * r.forced.toNat + 32 * r.conseq.toNat + 64 * r.flushed.toNat + 128 * r.loss.toNat]
    ++ leBytes 3 r.pcyc ++ leBytes 2 r.code ++ leBytes 2 (r.master * 8192 + (match r.slot with | some i => 512 + i | none => 0))
    ++ leBytes 2 r.suppr ++ leBytes 2 r.tick ++ leBytes 1 r.cls ++ leBytes 1 r.epoch ++ leBytes 6 r.ptSec ++ leBytes 4 r.ptNs
    ++ leBytes 4 0 ++ (r.payload ++ List.replicate 24 0).take 24
def Rec.bytes (r : Rec) : List Nat := r.body ++ leBytes 4 (crc32 r.body)

/-- The window registers take the bytes of a record; none clears them (R407, R419). (DESIGN CHOICE: log 65) -/
def State.winShow (s : State) (bs : List Nat) : State :=
  (List.range 16).foldl (fun s w => s.set (EVT.WIN.DATA w) (ofLeBytes ((bs.drop (4 * w)).take 4))) s

/-- The effect of a write of CURSOR: the window is not ready until the record is latched (R419). -/
def State.cursor (s : State) (v : Word) : State :=
  let s := ((((s.writeReg 0x6058 v).set EVT.WIN_STAT.READY 0).set EVT.WIN_STAT.SRC 0).set EVT.WIN_STAT.MATCH 0).set EVT.WIN_STAT.CRC_OK 0
  { s.winShow [] with evt := { s.evt with latching := true } }

/-- A write of CURSOR by a master. -/
def State.cursorWrite (s : State) (m : Master) (v : Word) : State := s.guarded m 0x6058 v fun t => t.cursor v

def execEventCursorWrite (m : Master) (v : Word) (s : State) : Host.Outcome State Fault Refusal := .next (s.cursorWrite m v)

/-- Where record `q` stands, as WIN_STAT.SRC names it, and what stands there (R419). (DESIGN CHOICE: log 65) -/
def State.locate (s : State) (q : Nat) : Nat × Option Rec :=
  if s.get EVT.LAST.SEQ = 0xFFFFFFFF ∨ s.get EVT.LAST.SEQ < q then (0, none)
  else
    match s.evt.buf.find? fun r => r.seq == some q with
    | some r => (3, some { r with flushed := r.priv })
    | none =>
      match s.stored (recPos q) with
      | some r => (if q < 1024 then 1 else 2, some r)
      | none => (if q < 1024 then 0 else 2, none)

/-- The window registers of a record with an uncorrectable error: free values (R421). (DESIGN CHOICE: log 64) -/
def State.winFree (s : State) : State :=
  (List.range 16).foldl (fun s w =>
    let (x, s) := s.draw
    s.set (EVT.WIN.DATA w) x) s

/-- The record is in the window; read from the store, it may have errors (R419, R421). (DESIGN CHOICE: log 65) -/
def State.winReady (s : State) (ce : Nat) (ue : Bool) : State :=
  if s.inReset || !s.evt.latching then s
  else
    let q := s.get EVT.CURSOR.SEQ
    let s := if (s.locate q).1 = 1 ∨ (s.locate q).1 = 2 then s.storeRead ce (if ue then [recPos q] else []) else s
    let (src, r) := s.locate q
    let bad := r.any fun r => r.bad
    let s := if bad then s.winFree else s.winShow ((r.map Rec.bytes).getD [])
    let s := ((s.set EVT.WIN_STAT.READY 1).set EVT.WIN_STAT.SRC src).put EVT.WIN_STAT.CRC_OK (r.isSome && !bad)
    let s := (s.put EVT.WIN_STAT.MATCH ((r.any fun r => r.seq == some q) && !bad)).wrap EVT.WIN_STAT.LOADS
    let t : State := { s with evt := { s.evt with latching := false } }
    t.storeErrors bad.toNat

def execEventWindowReady (s : State) (ce : Nat := 0) (ue : Bool := false) : Host.Outcome State Fault Refusal := Machine.ok (s.winReady ce ue)

/-! Token buckets -/

/-- A code's bucket gains its next token, REFILL ms after the last (R415). (DESIGN CHOICE: log 31) -/
def State.refill (s : State) (c : Nat) : State :=
  if s.inReset || !codeListed c then s
  else
    let r := ms (s.get (EVT.RL_CFG.REFILL c))
    (s.until ((Tab.get 0 s.evt.refillAt c / r + 1) * r)).refilled c

def execTokenRefill (code : BitVec 16) (s : State) : Host.Outcome State Fault Refusal := Machine.ok (s.refill code.toNat)

/-- The effect of a write of RL_CFG: the bucket is counted under the old values first, and never holds more than DEPTH (R415, R416). -/
def State.rlCfg (s : State) (c : Nat) (v : Word) : State := ((s.refilled c).writeReg (0x200000 + 8 * c) v).refilled c

end Sys2Proof.Machine
end

