-- ==== Sys2Proof/Machine/Ownership.lean ====
section
/-! DEFINITION. Election, heartbeat, lapse, release and handover of ownership, and RF_STOP (R116 to R129). -/
namespace Sys2Proof.Machine
open Sys2Proof

/-! Election -/

/-- A claim (R116 to R118). -/
def State.claim (s : State) (m nonce : Nat) : State :=
  let s := s.ownDue
  let st := s.get OWN.OWN_STAT.STATE
  if !s.rst.loaded || oOwned ≤ st then s.ownNote OWN.src.CLAIM_REFUSED m
  else
    let s := { s with own := { s.own with claims := Tab.set 0 s.own.claims m nonce } }
    if st = oVacant then { (s.set OWN.OWN_STAT.STATE oElection) with own := { s.own with windowAt := s.now } } else s

/-- A release by the owner (R122). -/
def State.relinquish (s : State) (m : Nat) : State := s.vacate.ownNote OWN.src.OWN_CHANGED m

/-- A write of OWN_CLAIM by its RELEASE bit. (DESIGN CHOICE: log 36) -/
def State.ownClaimWrite (s : State) (m : Master) (v : Word) : State :=
  s.guarded m 0x1040 v fun t => if v.getLsbD 16 then t.relinquish m.num else t.claim m.num (OWN.OWN_CLAIM.NONCE.of v)

def execOwnClaim (m : Master) (v : Word) (s : State) : Host.Outcome State Fault Refusal := ok (s.ownClaimWrite m v)

def execElectionEnd (s : State) : Host.Outcome State Fault Refusal := ok s.elect

def execOwnRelease (m : Master) (v : Word) (s : State) : Host.Outcome State Fault Refusal := ok (s.ownClaimWrite m v)

/-! Heartbeat -/

/-- The heartbeat timer restarts. -/
def State.beat (s : State) : State := { s with own := { s.own with beatAt := s.now } }

/-- A write of OWN_BEAT by a master. -/
def State.ownBeatWrite (s : State) (m : Master) (v : Word) : State :=
  s.guarded m 0x1048 v fun t => if oOwned ≤ t.get OWN.OWN_STAT.STATE then t.beat else t

def execOwnBeat (m : Master) (v : Word) (s : State) : Host.Outcome State Fault Refusal :=
  ok (s.ownBeatWrite m v)

/-- A write of BEAT_MAX by a master. -/
def State.beatMaxWrite (s : State) (m : Master) (v : Word) : State :=
  s.guarded m 0x104C v fun t => (t.writeReg 0x104C v).beat

def execBeatMaxWrite (m : Master) (v : Word) (s : State) : Host.Outcome State Fault Refusal :=
  ok (s.beatMaxWrite m v)

def execOwnershipLapse (s : State) : Host.Outcome State Fault Refusal := ok s.lapse

/-- Milliseconds left before the lapse (R115). -/
def State.beatLeft (s : State) : Nat :=
  if s.get OWN.OWN_STAT.STATE < oOwned then 0
  else min 0xFFFF ((s.own.beatAt + ms (s.get OWN.BEAT_MAX.MS) - s.now) / ms 1)

/-! Handover -/

/-- A write of HANDOVER.TARGET by the owner: an offer, a new target or a cancel. The target already offered counts as a new one (R123).
(DESIGN CHOICE: log 36) -/
def State.offer (s : State) (m t : Nat) : State :=
  let s := s.ownDue
  if t = 7 then
    if s.get OWN.OWN_STAT.STATE = oHandover then
      ((s.set OWN.OWN_STAT.STATE oOwned).set OWN.HANDOVER.RESULT 3).set OWN.HANDOVER.TARGET 7
    else s
  else
    let s := { ((s.set OWN.OWN_STAT.STATE oHandover).set OWN.HANDOVER.TARGET t) with own := { s.own with offerAt := s.now } }
    s.ownNote OWN.src.OWN_CHANGED m

/-- A write of HANDOVER by a master. (DESIGN CHOICE: log 36) -/
def State.handoverWrite (s : State) (m : Master) (v : Word) : State :=
  s.guardedBy m 0x1050 v (fieldsAt 0x1050) (OWN.HANDOVER.TARGET.of v != s.ownDue.get OWN.OWN_STAT.OWNER || OWN.HANDOVER.TARGET.of v == 7)
    fun t => t.offer m.num (OWN.HANDOVER.TARGET.of v)

def execHandoverStart (m : Master) (v : Word) (s : State) : Host.Outcome State Fault Refusal := ok (s.handoverWrite m v)

/-- A write of ACCEPT (R123, R124). -/
def State.accept (s : State) (m nonce : Nat) : State :=
  let s := s.ownDue
  if s.get OWN.OWN_STAT.STATE = oHandover ∧ s.get OWN.HANDOVER.TARGET = m then
    (((s.set OWN.HANDOVER.RESULT 1).set OWN.HANDOVER.TARGET 7).setOwner m nonce s.now).ownNote OWN.src.OWN_CHANGED m
  else s.ownNote OWN.src.CLAIM_REFUSED m

/-- A write of ACCEPT by a master. -/
def State.acceptWrite (s : State) (m : Master) (v : Word) : State :=
  s.guarded m 0x1054 v fun t => t.accept m.num (OWN.ACCEPT.NONCE.of v)

def execHandoverAccept (m : Master) (v : Word) (s : State) : Host.Outcome State Fault Refusal :=
  ok (s.acceptWrite m v)

def execHandoverTimeout (s : State) : Host.Outcome State Fault Refusal := ok s.offerEnd

/-! RF_STOP -/

/-- A change of STOP (R129). -/
def State.stopNote (s : State) (m : Nat) : State := s.fire 0x00 IDN.src.RF_STOP_CHG { master := m, detail := [s.get IDN.RF_STOP.STOP] }

/-- A write of RF_STOP: SET prevails over CLEAR; the gate holds or frees every slot (R128). -/
def State.rfWrite (s : State) (m : Nat) (v : Word) : State :=
  if v.getLsbD 8 then
    if s.flag IDN.RF_STOP.STOP then s
    else (((s.set IDN.RF_STOP.STOP 1).set IDN.RF_STOP.SETTER m).syncGate).stopNote m
  else if v.getLsbD 9 ∧ s.flag IDN.RF_STOP.STOP then ((s.set IDN.RF_STOP.STOP 0).syncGate).stopNote m
  else s

/-- A write of RF_STOP by a master. -/
def State.rfStopWrite (s : State) (m : Master) (v : Word) : State :=
  s.guarded m 0x48 v fun t => t.rfWrite m.num v

def execRfStopSet (m : Master) (v : Word) (s : State) : Host.Outcome State Fault Refusal :=
  ok (s.rfStopWrite m v)

def execRfStopClear (m : Master) (v : Word) (s : State) : Host.Outcome State Fault Refusal :=
  ok (s.rfStopWrite m v)

end Sys2Proof.Machine
end

