-- ==== Sys2Proof/Machine/Links.lean ====
section
/-! DEFINITION. Exports, Chicory lanes, IEEE 1588 time and frame queues, and cascade references (R177 to R183, R187). -/
namespace Sys2Proof.Machine
open Sys2Proof

/-! Exports -/

/-- Export weight on a lane of all exporting slots but one, by their registers (R177). -/
def State.laneOthers (s : State) (i l : Nat) : Nat :=
  (((List.range 512).filter fun j => j != i && s.flag (SLP.EXPORT.EN j) && s.get (SLP.EXPORT.LANE j) == l).map fun j =>
    s.expWeight j (s.assemble [SLP.EXPORT.EN j, SLP.EXPORT.FMT j])).sum

/-- A write of SLP.EXPORT: dropped where it would exceed 737.28 MS/s on the lane (R177). -/
def State.exportCtl (s : State) (m i : Nat) (v : Word) : State :=
  if 384 < s.laneOthers i (expLane v.toNat) + s.expWeight i v.toNat ∧ tbit v.toNat 31 then s.fwdNote i FWD.src.LANE_FULL m
  else (s.writeReg (slotBase i + 0x24) v).modExp i fun x => { x with changeAt := some s.now }

/-- A write of EXPORT by a master. -/
def State.exportWrite (s : State) (m : Master) (i : Nat) (v : Word) : State :=
  s.guarded m (slotBase i + 0x24) v fun t => t.exportCtl m.num i v

def execExportWrite (m : Master) (i : Fin 512) (v : Word) (s : State) : Host.Outcome State Fault Refusal :=
  ok (s.exportWrite m i v)

/-- A change of EXPORT takes effect at the next common frame boundary; a new stream counts from 0 (R178, R179). -/
def State.exportApply (s : State) (i : Nat) : State :=
  match (s.exp i).changeAt with
  | none => s
  | some t =>
    let s := s.until (s.frameAt t)
    let w := s.assemble (fieldsAt (slotBase i + 0x24))
    let r := s.exportLast i
    (((r.1.modExp i fun _ => { live := w }).exportBegin i).syncLoad).frameDrop i r.2

def execExportChangeApply (i : Fin 512) (s : State) : Host.Outcome State Fault Refusal := ok (s.exportApply i)

/-- A stream runs from PREP to the end of the drain; in STANDBY there are no streams (R79, R178). -/
def execExportFrameSend (i : Fin 512) (fits : Bool) (s : State) : Host.Outcome State Fault Refusal :=
  ok (if s.streams i ∧ !(s.slot i).inReset then s.exportFrame i fits else s)

/-! Lanes -/

/-- A lane that was UP loses block lock for 125 µs: it detects a local fault, and hears nothing of a remote one (R181).
(DEDUCED: log 71) -/
def State.laneLoss (s : State) (l : Nat) : State :=
  if s.flag (LNK.LANE_STAT.UP l) then
    (((s.set (LNK.LANE_STAT.UP l) 0).set (LNK.LANE_STAT.LFAULT l) 1).set (LNK.LANE_STAT.RFAULT l) 0).fire 0x2B LNK.src.LANE_FAIL {}
  else s

def execLaneBlockLockLoss (l : Fin 16) (s : State) : Host.Outcome State Fault Refusal := ok (s.laneLoss l)

/-- An enabled lane holds block lock; `remote` tells whether its partner sends remote fault (R181). (DEDUCED: log 71) -/
def State.laneGain (s : State) (l : Nat) (remote : Bool) : State :=
  if s.flag (LNK.LANE_CTL.EN l) ∧ s.clkOn 3 ∧ !s.resetting 0x2B then
    ((s.set (LNK.LANE_STAT.UP l) 1).set (LNK.LANE_STAT.LFAULT l) 0).put (LNK.LANE_STAT.RFAULT l) remote
  else s

def execLaneBlockLockGained (l : Fin 16) (s : State) (remote : Bool := false) : Host.Outcome State Fault Refusal := .next (s.laneGain l remote)

/-- A write of LANE_CTL: a lane that is powered detects a local fault until it holds block lock, and an unpowered one holds and detects
nothing (R181). (DEDUCED: log 71) -/
def State.laneCtl (s : State) (l : Nat) (v : Word) : State :=
  let was := s.flag (LNK.LANE_CTL.EN l)
  let s := s.writeReg (0x2B100 + 0x20 * l) v
  if s.flag (LNK.LANE_CTL.EN l) then (if was then s else s.set (LNK.LANE_STAT.LFAULT l) 1)
  else ((s.set (LNK.LANE_STAT.UP l) 0).set (LNK.LANE_STAT.LFAULT l) 0).set (LNK.LANE_STAT.RFAULT l) 0

/-! Parity of a channel word -/

/-- A channel word on the way of slot `i` fails its parity check: the receiving stage takes a zero word marked invalid in its place, and
the source resets the chip (R68, R69). -/
def State.wordBad (s : State) (i : Nat) : State :=
  let s := if s.active.contains i then
    ((s.count (SLP.SLOT_CNT.INVALID i) 1).fire (0x40 + i / 8) SLP.src.INVALID { slot := some i }).obsReset i else s
  s.fire 0x03 CLK.src.HS_PARITY {}

def execHsParity (s : State) (slot : Fin 512 := 0) : Host.Outcome State Fault Refusal := ok (s.wordBad slot)

/-! Time -/

/-- One nanosecond in the units of Lnk.num. -/
abbrev nsUnit : Int := 3072000000000000

/-- The time takes PTP_LD_SEC and PTP_LD_NS (R182). -/
def State.ptpLoad (s : State) : State :=
  let sec := s.get LNK.PTP_LD_SEC_HI.SEC * 2 ^ 32 + s.get LNK.PTP_LD_SEC_LO.SEC
  let s := s.settleLnk
  { s with lnk := { s.lnk with num := ((sec * 1000000000 + s.get LNK.PTP_LD_NS.NS : Nat) : Int) * nsUnit } }.set LNK.PTP_CTL.SET 1

/-- The time moves by PTP_STEP (R182). (DESIGN CHOICE: log 66) -/
def State.ptpMove (s : State) : State :=
  let s := s.settleLnk
  { s with lnk := { s.lnk with num := max 0 (s.lnk.num + sext 32 (s.get LNK.PTP_STEP.NS) * nsUnit) } }.set LNK.PTP_CTL.SET 1

/-- The effect of a write of PTP_CTL (R182). -/
def State.ptpCtl (s : State) (v : Word) : State :=
  let s := if v.getLsbD 0 then s.ptpLoad else if v.getLsbD 1 then s.set LNK.PTP_CTL.LPEND 1 else if v.getLsbD 2 then s.ptpMove else s
  if v.getLsbD 3 then { (s.set LNK.PTP_CTL.VALID 1) with lnk := { s.lnk with beatAt := s.now } } else s

/-- At most one of LOAD_NOW, LOAD_PPS and STEP is set (R182). -/
def ptpOne (v : Word) : Bool := (v.getLsbD 0).toNat + (v.getLsbD 1).toNat + (v.getLsbD 2).toNat ≤ 1

/-- A write of PTP_CTL by a master. -/
def State.ptpCtlWrite (s : State) (m : Master) (v : Word) : State := s.guardedBy m 0x2B040 v (fieldsAt 0x2B040) (ptpOne v) fun t => t.ptpCtl v

def execPtpLoadNow (m : Master) (v : Word) (s : State) : Host.Outcome State Fault Refusal := ok (s.ptpCtlWrite m v)

def execPtpLoadPps (m : Master) (v : Word) (s : State) : Host.Outcome State Fault Refusal := ok (s.ptpCtlWrite m v)

def execPtpStep (m : Master) (v : Word) (s : State) : Host.Outcome State Fault Refusal := ok (s.ptpCtlWrite m v)

def execPtpBeat (m : Master) (v : Word) (s : State) : Host.Outcome State Fault Refusal := ok (s.ptpCtlWrite m v)

/-- 2 s pass without a BEAT (R182). -/
def execPtpValidExpiry (s : State) : Host.Outcome State Fault Refusal :=
  .next (if s.flag LNK.PTP_CTL.VALID then (s.until (s.lnk.beatAt + ms 2000)).set LNK.PTP_CTL.VALID 0 else s)

/-- A rising edge of PPS_IN latches the time, and completes a pending load (R182). (DESIGN CHOICE: log 66) -/
def State.ppsEdge (s : State) : State :=
  if !s.clkOn 3 || s.resetting 0x2B then s
  else
    let s := { s with lnk := { s.lnk with pps := s.linkTime } }
    if s.flag LNK.PTP_CTL.LPEND then s.ptpLoad.set LNK.PTP_CTL.LPEND 0 else s

def execPpsInEdge (s : State) : Host.Outcome State Fault Refusal := .next s.ppsEdge

/-- What a read of TIME_SEC_HI latches (R182). (DESIGN CHOICE: log 15) -/
def State.latchTime (s : State) : State :=
  let t := s.linkTime
  (((s.set LNK.TIME_SEC_HI.SEC (t.1 / 2 ^ 32)).set LNK.TIME_SEC_LO.SEC t.1).set LNK.TIME_NS.NS t.2)

def execPtpTimeRead (m : Master) (s : State) : Host.Outcome State Fault Refusal :=
  .next (s.ask.readBy m 0x2B058 (fun t => t.linkTime.1 / 2 ^ 32) State.latchTime)

/-- A write of PTP_RATE changes the rate from this instant on (R182). -/
def State.rateWrite (s : State) (v : Word) : State := s.settleLnk.writeReg 0x2B054 v

/-! Frame queues -/

/-- RXQ_STAT and the receive timestamp show the head frame (R183). -/
def State.syncRxq (s : State) : State :=
  let n := s.lnk.rxq.length
  let h := s.lnk.rxq.headD {}
  let s := (((s.put LNK.RXQ_STAT.VALID (0 < n)).set LNK.RXQ_STAT.LANE h.lane).set LNK.RXQ_STAT.LEVEL n).set LNK.RXQ_STAT.LEN h.data.length
  ((s.set LNK.RXQ_TS_SEC_HI.SEC (h.sec / 2 ^ 32)).set LNK.RXQ_TS_SEC_LO.SEC h.sec).set LNK.RXQ_TS_NS.NS h.ns

/-- A frame of EtherType 0x88F7 arrives on a lane (R183). -/
def State.ptpFrame (s : State) (l : Nat) (data : List Byte) : State :=
  if !s.flag (LNK.LANE_CTL.EN l) || !s.clkOn 3 || s.resetting 0x2B then s
  else if 128 < data.length || 16 ≤ s.lnk.rxq.length then s.count LNK.RXQ_STAT.DROP 1
  else
    let t := s.linkTime
    let s : State := { s with lnk := { s.lnk with rxq := s.lnk.rxq ++ [{ lane := l, sec := t.1, ns := t.2, data := data.map (·.toNat) }] } }
    s.syncRxq

def execPtpFrameReceive (l : Fin 16) (data : List Byte) (s : State) : Host.Outcome State Fault Refusal := .next (s.ptpFrame l data)

/-- Four bytes as a word, the first in bits 31:24, zero-padded. -/
def beWord (l : List Nat) : Nat := l.getD 0 0 * 2 ^ 24 + l.getD 1 0 * 2 ^ 16 + l.getD 2 0 * 2 ^ 8 + l.getD 3 0

/-- The next four bytes of the head frame (R183). (DESIGN CHOICE: log 66) -/
def State.rxqWord (s : State) : Nat := beWord ((s.lnk.rxq.headD {}).data.drop s.lnk.rxPos)

/-- The data pointer advances within a head frame. (DESIGN CHOICE: log 66) -/
def State.rxqNext (s : State) : State :=
  if s.lnk.rxq.isEmpty then s else { s with lnk := { s.lnk with rxPos := s.lnk.rxPos + 4 } }

def execRxqDataRead (m : Master) (s : State) : Host.Outcome State Fault Refusal := .next (s.ask.readBy m 0x2B080 State.rxqWord State.rxqNext)

/-- A write of RXQ_POP (R183). -/
def State.rxqPop (s : State) (v : Word) : State :=
  if v.getLsbD 0 then
    let t : State := { s with lnk := { s.lnk with rxq := s.lnk.rxq.drop 1, rxPos := 0 } }
    t.syncRxq
  else s

/-- A write of RXQ_POP by a master. -/
def State.rxqPopWrite (s : State) (m : Master) (v : Word) : State :=
  s.guarded m 0x2B084 v fun t => t.rxqPop v

def execRxqPop (m : Master) (v : Word) (s : State) : Host.Outcome State Fault Refusal := ok (s.rxqPopWrite m v)

/-- A write of TXQ_DATA appends four bytes, the first from bits 31:24, to a buffer of 128 bytes; a write beyond them does nothing (R183).
(DESIGN CHOICE: log 66) -/
def State.txqData (s : State) (v : Word) : State :=
  if s.lnk.tx.length < 128 then { s with lnk := { s.lnk with tx := s.lnk.tx ++ (leBytes 4 v.toNat).reverse } } else s

/-- A write of TXQ_DATA by a master. -/
def State.txqDataWrite (s : State) (m : Master) (v : Word) : State :=
  s.guarded m 0x2B08C v fun t => t.txqData v

def execTxqDataWrite (m : Master) (v : Word) (s : State) : Host.Outcome State Fault Refusal := ok (s.txqDataWrite m v)

/-- A write of TXQ_CTL: GO sends the buffer on the lane and with the length that the write gives; a GO while BUSY is dropped (R183). -/
def State.txqCtl (s : State) (v : Word) : State :=
  if v.getLsbD 8 then (if s.flag LNK.TXQ_CTL.BUSY then s else
    let s := (s.writeReg 0x2B088 v).set LNK.TXQ_CTL.BUSY 1
    { s with lnk := { s.lnk with txGo := (s.get LNK.TXQ_CTL.LANE, s.get LNK.TXQ_CTL.LEN) } }) else s.writeReg 0x2B088 v

/-- A write of TXQ_CTL by a master. -/
def State.txqCtlWrite (s : State) (m : Master) (v : Word) : State :=
  s.guarded m 0x2B088 v fun t => t.txqCtl v

def execTxqSend (m : Master) (v : Word) (s : State) : Host.Outcome State Fault Refusal := ok (s.txqCtlWrite m v)

/-- A queue frame on its lane: the bytes of the buffer that its length takes, zeros where the buffer holds fewer, and the FCS (R183).
(DESIGN CHOICE: log 66) -/
def State.txqBytes (s : State) : List Nat :=
  let d := (List.range s.lnk.txGo.2).map fun j => s.lnk.tx.getD j 0
  d ++ leBytes 4 (crc32 d)

/-- The frame leaves on the lane that its GO named: its bytes, its timestamp, BUSY, the empty buffer. On a lane that is off or down no frame
leaves, but the command ends the same way (R183). (DESIGN CHOICE: log 66) -/
def State.txqSent (s : State) : State :=
  if s.flag LNK.TXQ_CTL.BUSY then
    let t := s.linkTime
    let l := s.lnk.txGo.1
    let bytes := s.txqBytes
    let s := ((s.set LNK.TXQ_TS_SEC_HI.SEC (t.1 / 2 ^ 32)).set LNK.TXQ_TS_SEC_LO.SEC t.1).set LNK.TXQ_TS_NS.NS t.2
    let s := { s.set LNK.TXQ_CTL.BUSY 0 with lnk := { s.lnk with tx := [] } }
    if s.laneUp l then
      let s := s.wrap (LNK.TX_CNT.SENT l)
      { s with lnk := { s.lnk with txSent := Tab.set [] s.lnk.txSent l bytes } }
    else s
  else s

def execTxqFrameSent (s : State) : Host.Outcome State Fault Refusal := .next s.txqSent

/-! Cascade references -/

/-- The number that bytes `lo` to `lo + n - 1` of a frame spell, most significant byte first. -/
def beAt (d : List Nat) (lo n : Nat) : Nat := ((d.drop lo).take n).foldl (fun x b => 256 * x + b % 256) 0

/-- A frame ends with its FCS (R179). -/
def fcsOk (d : List Nat) : Bool := ofLeBytes (d.drop (d.length - 4)) == crc32 (d.take (d.length - 4))

/-- The external references that the stream of a slot on a lane feeds (R187). -/
def State.extRefs (s : State) (l slot : Nat) : List Nat :=
  (List.range 16).filter fun k => s.flag (CAN.EXT_REF.EN k) && s.get (CAN.EXT_REF.LANE k) == l && s.get (CAN.EXT_REF.SLOT k) == slot

/-- A frame of an external reference's stream: it keeps the reference valid where its point is transmit and it arrives within 100 µs of
its TIME; a later one is counted (R187). -/
def State.cascadeRef (s : State) (l k point : Nat) (age : Int) : State :=
  if point = 2 ∧ -100000 ≤ age ∧ age ≤ 100000 then s.set (CAN.EXT_REF.LIVE k) 1
  else if 100000 < age then ((s.set (CAN.EXT_REF.LIVE k) 0).count (LNK.RX_CNT.LATE l) 1).fire 0x20 CAN.src.EXTREF_LATE {}
  else s.set (CAN.EXT_REF.LIVE k) 0

/-- A frame arrives on a lane: with a bad FCS, an EtherType that the lane does not take or a version other than 1 it is discarded and
counted; one of EtherType 0x88F7 enters the receive queue; an export frame serves the external references of its stream (R181, R183,
R187). -/
def State.cascade (s : State) (l : Nat) (data : List Byte) : State :=
  let d := data.map (·.toNat)
  if !s.laneUp l then s
  else if d.length < 18 ∨ !fcsOk d then s.count (LNK.RX_CNT.BAD l) 1
  else if beAt d 12 2 = 0x88F7 then s.ptpFrame l (data.take (data.length - 4))
  else if beAt d 12 2 ≠ s.get (LNK.LANE_CTL.ETYPE l) ∨ beAt d 14 1 / 16 ≠ 1 then s.count (LNK.RX_CNT.BAD l) 1
  else if !s.flag (LNK.LANE_CTL.RX_EN l) || s.stopped 0x20 then s
  else
    let age : Int := s.linkNum / 3072000000000000 - ((beAt d 22 6 * 1000000000 + beAt d 28 4 : Nat) : Int)
    (s.extRefs l (beAt d 16 2 % 512)).foldl (fun s k => s.cascadeRef l k (beAt d 15 1 / 64) age) s

def execCascadeFrameReceive (l : Fin 16) (data : List Byte) (s : State) : Host.Outcome State Fault Refusal := ok (s.cascade l data)

/-- The frames of an external reference's stream stop (R187). -/
def execExtRefStreamLoss (k : Fin 16) (s : State) : Host.Outcome State Fault Refusal := .next (s.set (CAN.EXT_REF.LIVE k) 0)

end Sys2Proof.Machine
end

