-- ==== Sys2Proof/Machine/Flags.lean ====
section
/-! DEFINITION. What the part shows on its pins from its status flags: ERR_N, INT_N and SEC_ALARM_N (R46, R130, R346, R348,
R356, R379). -/
namespace Sys2Proof.Machine
open Sys2Proof

/-- ERR_N is low: during every reset until the end of the NVM load, and after it while a set, unmasked bit holds ERR_N in its
set, RESET_CAUSE.FAULT is 1 or the terminal latch is set (R46, R348). -/
def State.errNLow (s : State) : Bool :=
  if s.aon.asleep || s.rst.wake then s.flag FLT.TERM.SET
  else if s.inReset || !s.rst.loaded then true
  else s.flag FLT.TERM.SET || s.flag PWR.RESET_CAUSE.FAULT ||
    (List.range 128).any fun p => (List.range 32).any fun b =>
      tbit (s.get (HDR.ERR_STAT.BITS p)) b && !s.masked p b && tbit (s.srcReact p b) 3

/-- Sources of page `p` pending on pin `m`: set, enabled and routed (R130, R355). -/
def State.pendingPage (s : State) (m p : Nat) : Bool :=
  (List.range 32).any fun b =>
    tbit (s.get (HDR.IRQ_STAT.BITS p)) b && tbit (s.get (HDR.IRQ_EN.BITS p)) b && tbit (s.get (IRQ.ROUTE.PINS (srcKey p b))) m

/-- The 64-bit word of the pages with a pending source, in the layout of R346 (R356). -/
def State.pendWord (s : State) (m : Nat) : Nat :=
  ((List.range 128).filter (s.pendingPage m)).foldl (fun w p => setBit w (statusBit p)) 0

/-- INT_N[m] is low; released until the end of the NVM load (R37, R130). -/
def State.intNLow (s : State) (m : Nat) : Bool :=
  !s.inReset && s.rst.loaded && s.pendWord m != 0 && !s.flag (IRQ.PIN_CTL.MASK m)

/-- SEC_ALARM_N is low; released until the end of the NVM load (R37, R379). -/
def State.secAlarmNLow (s : State) : Bool :=
  !s.inReset && s.rst.loaded && (s.get SEC.ALARM_STAT.SRC != 0 || s.flag SEC.ALARM_STAT.SLEEP || s.flag SEC.STATE.LOCK)

end Sys2Proof.Machine
end

