-- ==== Sys2Proof/Machine/Power.lean ====
section
/-! DEFINITION. Power states: entry, exit, SLEEP, wake and pad release (R40 to R45, R79 to R96, R452). -/
namespace Sys2Proof.Machine
open Sys2Proof

/-! Requests -/

/-- A channel change is in progress on some chiplet (R84). -/
def State.anyChange (s : State) : Bool := (List.range 8).any fun n => s.flag (SYN.SYN_STAT.BUSY n)

/-- Tansy verifies firmware or installs a key package (R84): a boot image is being verified, or the object of KEYPKG or
FW_LOAD is being processed. -/
def State.tansyBusy (s : State) : Bool :=
  s.tansy.reading != 0 || (s.flag SEC.MBX_STAT.BUSY && !s.flag SEC.MBX_STAT.DATA_WAIT && (s.get SEC.MBX_STAT.LAST == 3 || s.get SEC.MBX_STAT.LAST == 4))

/-- The first veto of a request; of several the lowest refuser code is shown (R84, R86). (DESIGN CHOICE: log 35) -/
def State.pwrVeto (s : State) : Option Nat :=
  if s.flag IDN.PROFILE.PENDING then some 2
  else if s.nvm.group && !s.tansyBusy then some 3
  else if s.anyChange then some 4
  else if s.tansyBusy then some 5
  else if s.rst.pf != .idle then some 6
  else none

/-- A request is accepted (R44, R79, R86, R158). -/
def State.pwrAccept (s : State) (req : Nat) : State :=
  let st := s.get PWR.PWR_CMD.STATE
  let s := { ((s.set PWR.PWR_CMD.REQ req).set PWR.PWR_CMD.BUSY 1) with tr := some { origin := st, target := req, at_ := s.now, phase := 0 } }
  let s := if req = pSleep then { s with aon := { s.aon with fromState := st, wakeLatch := 0, flushCut := false } } else s
  if st = pRun then s.holdPower else s

/-- The effect of a write of PWR_CMD.REQ. A RUN written during the entry to SLEEP is latched as a wake event, and REQ reads RUN while the entry
goes on (R83, R85, R86, R91). (DESIGN CHOICE: log 35) -/
def State.pwrRequest (s : State) (m req : Nat) : State :=
  if s.flag PWR.PWR_CMD.BUSY then
    match s.tr with
    | some t =>
      if t.target = pSleep ∧ req = pRun then { (s.set PWR.PWR_CMD.REQ pRun) with aon := { s.aon with wakeLatch := setBit s.aon.wakeLatch 1 } }
      else s.pwrCount m req 1 false
    | none => s.pwrCount m req 1 false
  else if req = s.get PWR.PWR_CMD.STATE then s
  else match s.pwrVeto with
    | some c => s.pwrCount m req c false
    | none => s.pwrAccept req

/-- A write of PWR_CMD by a master. -/
def State.pwrCmdWrite (s : State) (m : Master) (v : Word) : State :=
  s.guarded m 0x2040 v fun t => t.pwrRequest m.num (PWR.PWR_CMD.REQ.of v)

def execPowerStateRequest (m : Master) (v : Word) (s : State) : Host.Outcome State Fault Refusal :=
  ok (s.pwrCmdWrite m v)

/-! Entry -/

/-- The transition is at a phase, and no block reset holds it (R447). -/
def State.trIn (s : State) (f : PwrTr → Bool) : Bool :=
  match s.tr with
  | some t => f t && !s.resetting 0x02
  | none => false

/-- The transition moves to a phase. -/
def State.trTo (s : State) (ph : Nat) : State :=
  match s.tr with
  | some t => { s with tr := some { t with phase := ph } }
  | none => s

/-- 20 µs after the acceptance the slots ramp to zero and the ports go off (R86). -/
def State.leaveRamp (s : State) : State :=
  if s.trIn fun t => t.origin == pRun && t.target != pRun && t.phase == 0 then
    ((s.until ((s.tr.getD {}).at_ + us 20)).rampPower).trTo 1
  else s

def execLeavingRunRampStart (s : State) : Host.Outcome State Fault Refusal := ok s.leaveRamp

/-- All slots are silent, by 40 µs: QUIET is in force (R86). -/
def State.quietIn (s : State) : State :=
  if s.trIn fun t => t.target == pQuiet && t.origin == pRun && t.phase == 1 then (s.until s.allSilent).pwrDone pQuiet else s

def execQuietEntered (s : State) : Host.Outcome State Fault Refusal := ok s.quietIn

/-- No engine holds a job. -/
def State.jobsOver (s : State) : Bool := s.can.run.all fun e => e.2.isNone

/-- Towards STANDBY or SLEEP: once the slots are silent, sequencers stand at idle levels and the bias is frozen; once the jobs in flight
are complete too, the datapath clocks are gated (R86, R315). -/
def State.gating (s : State) : State :=
  if s.trIn fun t => t.closing && (t.origin == pQuiet || t.phase == 1) then
    let s := (s.until s.allSilent).trFreeze
    if s.jobsOver then s.countBads.trTo 3 else s
  else s

def execStandbyGating (s : State) : Host.Outcome State Fault Refusal := ok s.gating

/-- FE_CTL and bias hold latches close (R40, R86, R92). -/
def State.latchPads (s : State) : State :=
  if s.trIn fun t => t.target == pSleep && (t.phase == 3 || (t.origin == pStandby && t.phase == 0)) then
    let fe := (List.range 128).foldl (fun h l => Tab.set 2 h l (s.ball l)) []
    let bias := (List.range 64).foldl (fun h c => Tab.set 0x30000 h c (s.get (bCode c) + 0x10000 * s.get (bSpan c))) []
    let s := if s.aon.padsHeld then s else { s with aon := { s.aon with padsHeld := true, feHeld := fe, biasHeld := bias } }
    (((s.set PWR.PAD_RELEASE.FE_HELD 1).set PWR.PAD_RELEASE.BIAS_HELD 1).startFlush).trTo 4
  else s

def execPadLatchClose (s : State) : Host.Outcome State Fault Refusal := .next s.latchPads

/-- Synthesisers and converter cores are down: STANDBY is in force; donor sync is lost (R79, R86). -/
def State.standbyIn (s : State) : State :=
  if s.trIn fun t => t.target == pStandby && t.phase == 3 then
    let s := (List.range 16).foldl (fun s p =>
      if (s.pat p).live.valid ∧ (s.pat p).live.src = 0 then
        (((s.set (TDD.SYNC_STAT.STATE p) 0).modPat p fun q => { q with good := 0, timing := false }).divCancel (s.divPat p)).patHold p
      else s) s
    s.convDown.pwrDone pStandby
  else s

def execStandbyEntered (s : State) : Host.Outcome State Fault Refusal := ok s.standbyIn

/-- 1.5 ms into a SLEEP entry the flush is cut off where privileged records remain (R89). -/
def State.cutFlush (s : State) : State :=
  if s.latchedEntry && !s.pfRuns && s.privCount != 0 then
    let s := s.until ((s.tr.getD {}).at_ + us 1500)
    { s with aon := { s.aon with flushCut := true }, evt := { s.evt with flushing := false } }
  else s

def execSleepFlushCut (s : State) : Host.Outcome State Fault Refusal := .next s.cutFlush

/-! SLEEP and wake -/

/-- A wake begins: WAKE_CAUSE is written, the wake reset holds every island but I00, and the reset and power-fail pins are
sensed again: RESET_N by its level, PFAIL_N by its next edge (R78, R93, R94). (DESIGN CHOICE: log 24) -/
def State.beginWake (s : State) (cause : Nat) : State :=
  let s := { s with aon := { s.aon with asleep := false, waking := true, wakeAt := s.now, wakeLatch := 0 }, rst := { s.rst with wake := true } }
  let s := s.set PWR.WAKE_CAUSE.SLEEP_SEC (min 0xFFFF ((s.now - s.aon.sleepAt) / 983040000))
  let s := s.set PWR.WAKE_CAUSE.FROM_STATE s.aon.fromState
  let s := if s.aon.flushCut then s.set PWR.WAKE_CAUSE.FLUSH_CUT 1 else s
  let s := if tbit cause 0 then s.set PWR.WAKE_CAUSE.MATCH 1 else s
  let s := if tbit cause 1 then s.set PWR.WAKE_CAUSE.REPLAY 1 else s
  let s := if tbit cause 2 then s.set PWR.WAKE_CAUSE.RUN_REQ 1 else s
  let s := { s with aon := { s.aon with flushCut := false } }
  if s.board.resetN then s else { s.markCause .pin with rst := { s.rst with pin := true } }

/-- I01 to I47 are isolated: SLEEP is in force. The transition's record is made, and lost with what else they held. A wake event that was
latched starts the wake at once (R79, R85, R86, R89, R91). -/
def State.isolate (s : State) : State :=
  if s.latchedEntry && !s.pfRuns then
    let s := (s.until ((s.tr.getD {}).at_ + us 2000)).writeCounters
    let cut := s.aon.flushCut || s.privCount != 0
    let s := s.pwrDone pSleep
    let l := s.aon.wakeLatch
    let s : State := { State.reset with
      pending := s.pending, now := s.now, fresh := s.fresh, board := s.board, straps := s.straps
      reg := s.reg.filter fun e => keptAddr (e.1 / 32)
      aon := { s.aon with asleep := true, sleepAt := s.now, flushCut := cut }
      evt := { store := s.evt.store, scanDue := s.evt.scanDue }
      otp := s.otp, nvm := s.nvm.afterReset }
    if l = 0 then s else s.beginWake (2 * l)
  else s

def execSleepIsolation (s : State) : Host.Outcome State Fault Refusal := .next s.isolate

/-- A step failed to meet its bound (R89). -/
def State.trAbort (s : State) (code : Nat) : State :=
  if s.tr.isSome && !s.latchedEntry && (code == 8 || code == 9 || code == 10) then s.pwrAbort code else s

def execPowerTransitionAbort (code : BitVec 8) (s : State) : Host.Outcome State Fault Refusal := ok (s.trAbort code.toNat)

/-- The target's 7-bit address (R35, R113). -/
def State.i2cOwn (s : State) : Nat := 0x58 + s.straps.i2cAddr

/-- An I²C address byte in SLEEP or in the entry: one that carries the strapped address is acknowledged and wakes the part, or is latched
for the entry's end (R43, R44, R91, R93). -/
def State.i2cMatch (s : State) (a : Nat) : State :=
  let hit := a == s.i2cOwn && !s.aon.i2cLost
  if s.aon.asleep then
    let s := { s with aon := { s.aon with wakeAck := hit, ackAt := if hit then s.now else s.aon.ackAt } }
    if hit then s.beginWake 1 else s
  else if s.tr.any fun t => t.target == pSleep then
    { s with aon := { s.aon with wakeAck := hit, ackAt := if hit then s.now else s.aon.ackAt, wakeLatch := if hit then setBit s.aon.wakeLatch 0 else s.aon.wakeLatch } }
  else s

def execI2cWakeMatch (s : State) (addr : BitVec 7 := 0x58) : Host.Outcome State Fault Refusal := .next (s.i2cMatch addr.toNat)

/-- A tamper alarm latched in SLEEP locks the part from the wake reset on (R382). -/
def State.sleepLock (s : State) : State := if s.aon.sleepAlarm = 0 then s else s.set SEC.STATE.LOCK 1

/-- t_WAKE after the later of the wake's start and the last monitored rail's rise (R93). -/
def State.wakeRelease (s : State) : State :=
  if s.rst.wake && s.board.railsLow == 0 then
    let s := (s.until (s.aon.wakeAt + us 2000)).markCause .wake
    let s := { s with aon := { s.aon with waking := false, trip := false } }
    s.release { s.rst with wake := false, loaded := false } |>.sleepLock
  else s

def execWakeResetRelease (s : State) : Host.Outcome State Fault Refusal := .next s.wakeRelease

/-- A monitored rail falls in SLEEP, in the isolation or in the wake: it only holds the wake reset (R452). Without VIO18 in SLEEP the
FE_CTL levels are lost, without VIO33 the wake by I²C; the held bias outputs stay as they are (R40, R43). (DESIGN CHOICE: log 55) -/
def State.railFall (s : State) (r : Nat) : State :=
  if s.porArmed then s
  else
    let a := if s.aon.asleep then { s.aon with feLost := s.aon.feLost || r == 1, i2cLost := s.aon.i2cLost || r == 2 } else s.aon
    { s with aon := a, board := { s.board with railsLow := setBit s.board.railsLow r } }

def execSleepRailFall (rail : Fin 4) (s : State) : Host.Outcome State Fault Refusal := .next (s.railFall rail)

/-- A monitored rail rises again before the wake reset's release (R93). -/
def State.railRise (s : State) (r : Nat) : State :=
  if s.porArmed then s
  else
    let s := { s with board := { s.board with railsLow := clrBit s.board.railsLow r } }
    if s.rst.wake then { s with aon := { s.aon with wakeAt := max s.aon.wakeAt s.now } } else s

def execWakeRailRise (rail : Fin 4) (s : State) : Host.Outcome State Fault Refusal := .next (s.railRise rail)

/-! Pad release -/

/-- The latches open: lines and bias outputs follow their pages again, each output from its held code (R42, R95, R261, R315). -/
def State.openPads (s : State) : State :=
  if s.aon.padsHeld then
    let s := { s with aon := { s.aon with padsHeld := false, feHeld := [], biasHeld := [] } }
    let s := (s.set PWR.PAD_RELEASE.FE_HELD 0).set PWR.PAD_RELEASE.BIAS_HELD 0
    let s := (List.range 4).foldl (fun s k => s.modFec k fun x => if x.startDue then { x with startAt := s.now } else x) s
    (List.range 64).foldl (fun s c =>
      if s.get (bState c) = bHeld then
        let due := (s.ch c).safeDue
        let s := (s.modCh c fun x => { x with safeDue := false }).set (bState c) (if s.iced then bFrozen else bIdle)
        if due then s.enterSafe c else s.retargetNow c
      else s) s
  else s

/-- The record of an accepted release: what was held before it, and the master (R417). -/
def State.padRec (s : State) (m : Nat) : Rec :=
  { code := 3, priv := true, master := m
    payload := [2 * s.get PWR.PAD_RELEASE.FE_HELD + s.get PWR.PAD_RELEASE.BIAS_HELD, m] ++ List.replicate 22 0 }

/-- A write of PAD_RELEASE by a master (R95, R417). -/
def State.padWrite (s : State) (m : Master) (v : Word) : State :=
  s.guarded m 0x2050 v fun t => if v.getLsbD 0 then t.openPads.log (t.padRec m.num) else t

def execPadRelease (m : Master) (v : Word) (s : State) : Host.Outcome State Fault Refusal :=
  .next (s.padWrite m v)

/-! Exit -/

/-- A chiplet comes up again: its synthesiser calibrates at the plan recorded or kept, its converters recalibrate, and its dwell plan
restarts. A recorded change completes as a channel change does; its slots are judged at the resume boundary (R80, R87, R142, R148, R152). -/
def State.exitChip (s : State) (n : Nat) : State :=
  let new := s.flag (SYN.SYN_STAT.PEND n)
  if !new && s.synStep n != yRunning then s
  else
    let s := if new then
        ((s.set (SYN.SYN_STAT.PEND n) 0).set (SYN.SYN_STAT.PLAN_NOW n) (s.get (SYN.SYN_CTL.PLAN n))).set (SYN.SYN_STAT.STEP n) yRunning else s
    let s := (((s.set (SYN.SYN_STAT.READY n) 1).set (SYN.SYN_STAT.LOCK n) 1).set (SYN.SYN_STAT.CONV_RDY n) 1).syncClocks
    let s := ((List.range 4).foldl (fun s c => s.fgCal n c) s).restartPlan n
    if !new then s
    else
      let s := (s.wrap (SYN.SYN_STAT.CHG_CNT n)).modChip n fun x => { x with retry := false, resume := true }
      ((s.realign n).freeChip n).fire 0x0D SYN.src.CHG_DONE {}

/-- Leaving STANDBY: clocks ungated, synthesisers and converters calibrated with any recorded channel change, limiters
resumed (R87, R315). -/
def State.exitCal (s : State) : State :=
  if s.trIn fun t => t.origin == pStandby && (t.target == pRun || t.target == pQuiet) && t.phase == 0 then
    let s := (s.until ((s.tr.getD {}).at_ + us 20)).biasThaw.trTo 2
    let s := (List.range 8).foldl (fun s n => s.exitChip n) s
    (List.range 32).foldl (fun s p =>
      if tbit (s.get PWT.TXPEND.PEND) p ∧ s.flag (SYN.SYN_STAT.READY (p / 4)) then
        (s.putBit PWT.TXPEND.PEND p false).putBit PWT.TXON.ON p true
      else s) s
  else s

def execStandbyExitCalDone (s : State) : Host.Outcome State Fault Refusal := ok s.exitCal

/-- The ADAPT jobs that the deques hold run, in QUIET too (R87). (DESIGN CHOICE: log 35) -/
def State.freeHeld (s : State) : State :=
  { s with can := { s.can with freed := ((s.can.deques.map (·.2)).flatten.filter fun j => j.typ == 1).map (·.seq) } }

/-- The state that an exit enters takes up its work: in RUN the slots resume, in QUIET the held ADAPT jobs run (R87). -/
def State.exited (s : State) (tgt : Nat) : State :=
  if tgt = pRun then { s.freePower with can := { s.can with freed := [] } } else s.freeHeld

/-- The common frame boundary that ends an exit (R87, R88, R261). -/
def State.exitDone (s : State) : State :=
  if s.trIn fun t => (t.target == pRun || t.target == pQuiet) && t.target < t.origin && (t.phase == 2 || t.origin == pQuiet) then
    let tgt := (s.tr.getD {}).target
    ((s.until (s.frameAt (max s.now ((s.tr.getD {}).at_ + us 20)))).pwrDone tgt).exited tgt
  else s

def execPowerExitBoundary (s : State) : Host.Outcome State Fault Refusal := ok s.exitDone

/-! A tick -/

/-- What becomes due by itself at an instant: enable checks end, times of ownership run out, invalid input samples are counted, a
transition stops the sequencers and the bias limiters, and aerial switch lines change (R69, R86, R116, R120, R123, R166, R278).
(DESIGN CHOICE: log 1) -/
def State.due (s : State) : State := if s.inReset then s else s.ownDue.checksDue.countBads.freezeDue.divLines.settle

/-- One tick passes. (DESIGN CHOICE: log 1) -/
def State.idle (s : State) : State := State.due { s with now := s.now + 1 }

end Sys2Proof.Machine
end

