-- ==== Sys2Proof/Machine/RegAccess.lean ====
section
/-! DEFINITION. Reads and writes of the register space by byte address, whatever the port: what every register reads as, and what
a write of every register does; and the snapshot groups (R4 to R9, R97 to R103). -/
namespace Sys2Proof.Machine
open Sys2Proof

/-! Where a register is stored -/

/-- The storage address of the register at a bus address: a window shows the object that its selection register names. -/
def State.home (s : State) (a : Nat) : Nat :=
  if 0x2204C ≤ a ∧ a < 0x2206C then 0x100000 + 0x40 * s.selLoop + (a - 0x2204C)
  else if a = 0xE04C then 0x110000 + 0x200 * s.patSel
  else if a = 0xE054 then 0x11000C + 0x200 * s.patSel
  else if a = 0xE058 then 0x110004 + 0x200 * s.patSel
  else if a = 0xE05C then 0x110008 + 0x200 * s.patSel
  else if a = 0xE060 then 0x110010 + 0x200 * s.patSel
  else if a = 0x23058 then 0x120000 + 0x80 * s.get GOV.SUB_SEL.SLOT
  else if a = 0x23068 then 0x120004 + 0x80 * s.get GOV.PROT_SEL.SLOT
  else if a = 0x20068 then 0x120008 + 0x80 * s.get CAN.XT_SEL.SLOT
  else if a = 0x4058 then 0x150000 + 4 * s.srcSel
  else if a = 0x5054 then 0x160000 + 4 * srcKey (s.get IRQ.ROUTE_SEL.PAGE) (s.get IRQ.ROUTE_SEL.BIT)
  else if a = 0x6064 then 0x200000 + 8 * s.get EVT.RL_SEL.CODE
  else if a = 0x6068 then 0x200004 + 8 * s.get EVT.RL_SEL.CODE
  else a

/-! Fields that follow the machine as it stands -/

/-- The header of page `p` (R99, R101, R345). (DESIGN CHOICE: log 16) -/
def State.showHead (s : State) (p o : Nat) : State :=
  if o = 0x0C then (s.put (HDR.PAGE_STAT.PWR_ON p) (s.powered (pageIsland p))).put (HDR.PAGE_STAT.CLK_ON p) (s.clkOn (pageIsland p))
  else if o = 0x14 then
    s.set (HDR.ERR_MASK.BITS p) ((List.range 32).foldl (fun w b => if s.masked p b then setBit w b else w) 0)
  else s

/-- SRC_CFG and SRC_DEP of the source that SRC_SEL names (R343, R358). -/
def State.showSrc (s : State) (o : Nat) : State :=
  let k := s.srcSel
  let r := srcOf k
  let p := s.get FLT.SRC_SEL.PAGE
  let b := s.get FLT.SRC_SEL.BIT
  if o = 0x58 then
    let t := s.put (FLT.SRC_CFG.IRQ k) (r.impl && !s.pageOff p && tbit (s.get (HDR.IRQ_EN.BITS p)) b)
    if r.sec then
      let x := s.srcReact p b
      ((((((t.set (FLT.SRC_CFG.CLASS k) (s.srcCls p b)).put (FLT.SRC_CFG.BSAFE k) (tbit x 4)).put (FLT.SRC_CFG.ERRN k) (tbit x 3)).put
        (FLT.SRC_CFG.CRST k) (tbit x 2)).put (FLT.SRC_CFG.BRST k) (tbit x 1)).put (FLT.SRC_CFG.TRAP k) (tbit x 0))
    else t
  else
    (((s.put FLT.SRC_DEP.DEP1_V r.dep1.isSome).set FLT.SRC_DEP.DEP1 (r.dep1.getD 0)).put FLT.SRC_DEP.DEP0_V r.dep0.isSome).set
      FLT.SRC_DEP.DEP0 (r.dep0.getD 0)

/-- Sources pending at the application cores (R130, R385). -/
def State.pendingCores (s : State) : Bool :=
  (List.range 128).any fun p => s.get (HDR.IRQ_STAT.BITS p) != 0 && (List.range 32).any fun b =>
    tbit (s.get (HDR.IRQ_STAT.BITS p)) b && tbit (s.get (HDR.IRQ_EN.BITS p)) b && s.flag (IRQ.ROUTE.M4 (srcKey p b))

/-- The internal interrupt line to the application cores is driven: something is pending and MASK does not hold it released (R385). -/
def State.coreIrq (s : State) : Bool := s.pendingCores && !s.flag APC.PIN_CTL.MASK

/-- The job counts of an engine's deque (R216). -/
def State.showDeque (s : State) (k e : Nat) : State :=
  let l := s.deque (16 * k + e)
  let n := fun c => (l.filter fun j => j.cls == c).length
  (((s.set (YCL.DEQ.DEPTH k e) l.length).set (YCL.DEQ.URGENT k e) (n 2)).set (YCL.DEQ.ROUTINE k e) (n 1)).set (YCL.DEQ.BACKGROUND k e) (n 0)

/-- The samples of an observation receiver are valid: 2 µs after the last change of entry, with a valid entry (R150). -/
def State.obsActive (s : State) (n r : Nat) : Bool :=
  s.clkOn (35 + n) && !s.chanDown.contains (64 + 2 * n + r) && ((s.plan n r).any fun w => tbit w 31) && Tab.get 0 (s.chip n).dwellAt r + us 2 ≤ s.now

/-- The computed fields of the register at a bus address, set to what they are now. -/
def State.show (s : State) (a : Nat) : State :=
  let p := pageOf a
  let o := a % 0x1000
  if o < 0x40 then s.showHead p o
  else if a = 0x104C then s.set OWN.BEAT_MAX.LEFT s.beatLeft
  else if 0x3100 ≤ a ∧ a < 0x31C0 then s.put (CLK.ISL_CLK.ON ((a - 0x3100) / 4)) (s.clkOn ((a - 0x3100) / 4))
  else if a = 0x4058 ∨ a = 0x405C then s.showSrc o
  else if a = 0x4064 then s.put FLT.INJ.FTM s.ftm
  else if 0x5040 ≤ a ∧ a < 0x5050 then s.put (IRQ.PIN_CTL.PEND ((a - 0x5040) / 4)) (s.pendWord ((a - 0x5040) / 4) != 0)
  else if 0x5060 ≤ a ∧ a < 0x5080 then
    let m := (a - 0x5060) / 8
    (s.set (IRQ.PEND_LO.PAGES m) (s.pendWord m)).set (IRQ.PEND_HI.PAGES m) (s.pendWord m / 2 ^ 32)
  else if a = 0x6048 then s.set EVT.OLDEST.SEQ s.oldest
  else if a = 0x604C then s.set EVT.PERM.COUNT s.permCount
  else if a = 0x6050 then
    (((s.put EVT.BUF.FLUSHING s.evt.flushing).put EVT.BUF.SCAN s.evt.scanDue).set EVT.BUF.PRIV s.privCount).set EVT.BUF.LEVEL s.evt.buf.length
  else if a = 0x6068 then s.refilled (s.get EVT.RL_SEL.CODE)
  else if a = 0x7040 then s.set NVM.STAT.WINDOW (s.get THM.STAT.NVM_OK)
  else if a = 0x7058 then s.set NVM.CAL_ORIGIN.ORIGIN s.calOrigin
  else if a = 0x705C then s.put NVM.CAL_CTL.DIRTY s.calDirty
  else if a = 0x7060 then s.set NVM.CAL_CRC.CRC s.calCrc
  else if a = 0x9044 then s.set THM.REQ.GRACE_LEFT s.graceLeft
  else if a = 0xE040 then s.put TDD.TB_CTL.LOCKED s.tbLocked
  else if a = 0x2B040 then s.put LNK.PTP_CTL.VALID s.ptpValid
  else if 0x10 ≤ p ∧ p < 0x18 ∧ o = 0xC4 then
    (s.put (CNV.OBS_STAT.ACT_0 (p - 0x10)) (s.obsActive (p - 0x10) 0)).put (CNV.OBS_STAT.ACT_1 (p - 0x10)) (s.obsActive (p - 0x10) 1)
  else if a = 0x20080 then s.set CAN.SNAP_STAT.AGE s.snapAge
  else if a = 0x22050 then s.put (CLV.LOOP_STAT.HELD s.selLoop) (s.loopHeld s.selLoop)
  else if a = 0x23068 then
    let i := s.get GOV.PROT_SEL.SLOT
    s.set (GOV.PROT_STAT.MUTES i) (min 3 ((s.gv i).mutes.filter fun t => s.now < t + ms 60000).length)
  else if a = 0x2E044 then s.put APC.PIN_CTL.PEND s.pendingCores
  else if 0x30 ≤ p ∧ p < 0x40 ∧ 0x80 ≤ o ∧ o < 0xC0 then s.showDeque (p - 0x30) ((o - 0x80) / 4)
  else if 0x40 ≤ p ∧ 0x100 ≤ o ∧ o % 0x40 = 4 then
    let i := 8 * (p - 0x40) + (o - 0x100) / 0x40
    s.put (SLP.SLOT_STAT.DIRTY i) (s.dirty i)
  else if 0x40 ≤ p ∧ 0x100 ≤ o ∧ o % 0x40 = 0x1C then
    let i := 8 * (p - 0x40) + (o - 0x100) / 0x40
    if s.get (SLP.SLOT_STAT.STATE i) = stHeld ∧ s.weightNow i = 0 then s.silence i else s
  else s

/-! Reads -/

/-- A data window at a bus address, if there is one: the word it shows and what a read with effect changes. (DESIGN CHOICE: log 15) -/
def State.window (s : State) (a : Nat) : Option (Nat × (State → State)) :=
  let p := pageOf a
  let o := a % 0x1000
  if a = 0x7054 then some (s.calWord, State.calNext)
  else if a = 0x805C then some (s.mbxOut, State.mbxPop)
  else if a = 0xE050 then some (s.edgeWord, State.edgeNext)
  else if 0x18 ≤ p ∧ p < 0x20 ∧ o = 0x48 then some (s.firRead (p - 0x18), fun t => t.firNext (p - 0x18))
  else if a = 0x20064 then some (s.xtData, State.xtNext)
  else if a = 0x20074 then some (s.poolData, State.poolNext)
  else if a = 0x21044 then some (s.binWord0, State.binLatch)
  else if a = 0x21048 then some (s.assemble (fieldsAt 0x21048), State.binNext)
  else if a = 0x21050 then some (s.sumWord0, State.sumLatch)
  else if a = 0x21054 then some (s.clv.sum1, id)
  else if a = 0x22070 then some (s.matData, State.matNext)
  else if a = 0x23054 then some (s.subWord, State.subNext)
  else if a = 0x24060 then some (s.lcapWord, State.lcapNext)
  else if a = 0x24084 then some (s.iqData, State.iqNext)
  else if 0x25 ≤ p ∧ p < 0x29 ∧ (o = 0x48 ∨ o = 0x4C) then
    let k := p - 0x25
    let w := (o - 0x48) / 4
    some (s.seqWord k (s.seqSel k) w (s.flag (FEC.SEQ_SEL.BANK k)), fun t => t.seqNext k w)
  else if 0x25 ≤ p ∧ p < 0x29 ∧ (o = 0x88 ∨ o = 0x8C) then
    let k := p - 0x25
    let w := (o - 0x88) / 4
    some (s.cmdWord k (s.cmdSel k) w (s.flag (FEC.RFFE_CMD_SEL.BANK k)), fun t => t.cmdNext k w)
  else if a = 0x2A044 then some (s.pwtRead, State.pwtNext)
  else if a = 0x2A054 then some (Tab.get 0 s.pwtProf s.profKey, State.profNext)
  else if a = 0x2B058 then some (s.linkTime.1 / 2 ^ 32, State.latchTime)
  else if a = 0x2B080 then some (s.rxqWord, State.rxqNext)
  else if 0x30 ≤ p ∧ p < 0x40 ∧ o = 0x50 then some (s.descData (p - 0x30), fun t => t.descNext (p - 0x30))
  else none

/-- SLOT_CNT of a slot counts the invalid samples up to the present instant (R69). -/
def State.catchUp (s : State) (a : Nat) : State :=
  if 0x40000 ≤ a ∧ 0x100 ≤ a % 0x1000 ∧ a % 0x40 = 0x38 then s.countBad (8 * (pageOf a - 0x40) + (a % 0x1000 - 0x100) / 0x40) else s

/-- A read by the owner or its delegate returns the RC fields of a register and clears them (R7, R9). -/
def State.clearRc (s : State) (fs : List Fld) : State := fs.foldl (fun s f => if f.acc == .rc then s.set f 0 else s) s

/-- The word that a bus address reads as; a reserved offset reads 0 (R5). -/
def State.wordAt (s : State) (a : Nat) : Nat :=
  match s.window a with
  | some w => w.1
  | none => ((s.catchUp a).show a).assemble (fieldsAt (s.home a))

/-- The side effects of a read of a bus address (R9). (DESIGN CHOICE: log 15) -/
def State.effAt (s : State) (a : Nat) : State :=
  match s.window a with
  | some w => w.2 s
  | none => (s.catchUp a).clearRc (fieldsAt (s.home a))

/-- A read of an empty monitor queue raises Q_UNDER, whoever reads (R323). -/
def State.busRead (s : State) (m : Master) (a : Nat) : State :=
  if a = 0xA05C then s.monQRead m else s.readBy m a (fun t => t.wordAt a) fun t => t.effAt a

/-- The bytes that a nibble of byte enables lets through. -/
def lanes (be : BitVec 4) (w : Nat) : Nat :=
  (List.range 4).foldl (fun x j => if be.getLsbD j then x + bits w (8 * j) 8 * 2 ^ (8 * j) else x) 0

/-- An access that R4 forbids: it performs nothing and raises ACCESS_SIZE. (DESIGN CHOICE: log 11) -/
def State.badSize (s : State) (m : Master) (a : Nat) : State := if s.canAccess m then s.accNotice m a 0 else s

/-- A read with byte enables: the requested bytes of the whole word, with the effect of a whole-word read; an address that is not a
multiple of 4 reads 0 (R4). (DESIGN CHOICE: log 10, 12) -/
def State.readAccess (s : State) (m : Master) (a : Nat) (be : BitVec 4) : State :=
  if a % 4 ≠ 0 then (if s.canAccess m then (s.reply 0).badSize m a else s)
  else
    let t := s.busRead m a
    { t with out := s.out ++ (t.out.drop s.out.length).map fun w => BitVec.ofNat 32 (lanes be w.toNat) }

/-- RC_REGISTER_READ: a read of a register by its address. -/
def execRcRegisterRead (m : Master) (a : BitVec 19) (be : BitVec 4) (s : State) : Host.Outcome State Fault Refusal :=
  ok (s.ask.readAccess m a.toNat be)

/-! Writes of the page header -/

/-- ERR_FIRST of a page whose ERR_STAT reads all zero names no source; FLT.FIRST follows the lines (R99, R347). -/
def State.afterStat (s : State) (p : Nat) : State :=
  let t := if s.get (HDR.ERR_STAT.BITS p) = 0 then (s.set (HDR.ERR_FIRST.VALID p) 0).set (HDR.ERR_FIRST.BIT p) 0 else s
  t.updFirst p

/-- A status word after a W1C write: a 1 clears its bit, but for that of a condition source whose condition still holds (R7, R341).
(DESIGN CHOICE: log 13) -/
def State.cleared (s : State) (p x : Nat) (v : Word) : Nat :=
  (List.range 32).foldl (fun y b => if v.getLsbD b && !s.holds p b then clrBit y b else y) x

/-- A word after a write of the bits that `f` lets through. -/
def takeBits (f : Nat → Bool) (x : Nat) (v : Word) : Nat := (List.range 32).foldl (fun y b => if f b then putBit y b (v.getLsbD b) else y) x

/-- A write of a header register (R99, R341, R345, R353). -/
def State.headWrite (s : State) (m : Master) (p o : Nat) (v : Word) : State :=
  let a := 0x1000 * p + o
  if o = 0x08 then s.pageCtl m p v
  else if o = 0x10 then
    s.guarded m a v fun t => (t.set (HDR.ERR_STAT.BITS p) (t.cleared p (t.get (HDR.ERR_STAT.BITS p)) v)).afterStat p
  else if o = 0x14 then
    s.guarded m a v fun t => (t.set (HDR.ERR_MASK.BITS p) (takeBits (t.maskable p) (t.get (HDR.ERR_MASK.BITS p)) v)).updFirst p
  else if o = 0x18 then s.errForceWrite m p v
  else if o = 0x20 then s.guarded m a v fun t => t.set (HDR.IRQ_STAT.BITS p) (t.cleared p (t.get (HDR.IRQ_STAT.BITS p)) v)
  else if o = 0x24 then
    s.guarded m a v fun t => t.set (HDR.IRQ_EN.BITS p) (takeBits (fun b => (srcOf (srcKey p b)).impl) (t.get (HDR.IRQ_EN.BITS p)) v)
  else if o = 0x28 then s.irqForceWrite m p v
  else s.guarded m a v id

/-! Writes of other registers -/

/-- A write of a register that only takes its word by its access codes (R7). -/
def State.plainWrite (s : State) (m : Master) (a : Nat) (v : Word) : State :=
  s.guardedBy m a v (fieldsAt (s.home a)) true fun t => t.writeReg (t.home a) v

/-- The bits of a word of the delegation mask that can be set: those of OWN, SEC, REGL and page 0x2F cannot (R127, R403). -/
def State.delegWrite (s : State) (m : Master) (a d : Nat) (v : Word) : State :=
  s.guarded m a v fun t => t.writeReg a (BitVec.ofNat 32 (takeBits (fun b => !undelegable (32 * d + b)) 0 v))

/-- A write of EXT_REF: a reference that is not enabled, or that names another stream than before, is not live (R187). -/
def State.extRefWrite (s : State) (m : Master) (k : Nat) (v : Word) : State :=
  s.guarded m (0x200C0 + 4 * k) v fun t =>
    let same := t.get (CAN.EXT_REF.LANE k) = (CAN.EXT_REF.LANE k).of v ∧ t.get (CAN.EXT_REF.SLOT k) = (CAN.EXT_REF.SLOT k).of v
    let t := t.writeReg (0x200C0 + 4 * k) v
    if t.flag (CAN.EXT_REF.EN k) ∧ same then t else t.set (CAN.EXT_REF.LIVE k) 0

/-- CAN_REACH names only partners that exist: a BRANCH 0 to 3, an EXTERNAL 0 to 15 without OBS (R188). -/
def reachOk (v : Word) : Bool :=
  (List.range 4).all fun a =>
    let b := bits v.toNat (8 * a) 8
    let kind := bits b 6 2
    (kind != 0 || bits b 0 5 ≤ 3) && (kind != 2 || (bits b 0 5 ≤ 15 && bits b 5 1 == 0))

/-- SYNC_CFG carries no reserved combination: a cell number that its kind has, and 15 kHz with LTE (R268). -/
def syncOk (v : Word) : Bool :=
  let lte := bits v.toNat 30 2 == 1
  (!lte || bits v.toNat 28 2 == 0) && bits v.toNat 10 10 ≤ (if lte then 503 else 1007)

/-- A write of PAT_CFG, SYNC_CFG or SYNC_FREQ goes to the pattern's shadow, and is dropped while PEND is 1 (R267). -/
def State.patWrite (s : State) (m : Master) (a : Nat) (v : Word) : State :=
  s.guardedBy m a v (fieldsAt (s.home a)) (a != 0xE058 || syncOk v) fun t =>
    if t.flag (TDD.PAT_CTL.PEND t.patSel) then t else t.writeReg (t.home a) v

/-- Writes of pages 0x00 to 0x0F (the administrative pages, THM, MON, BIA, SYN, TDD and REGL). -/
def State.lowWrite (s : State) (m : Master) (a : Nat) (v : Word) : State :=
  if a = 0x48 then s.rfStopWrite m v
  else if a = 0x50 then s.profileWrite m v
  else if a = 0x1040 then s.ownClaimWrite m v
  else if a = 0x1048 then s.ownBeatWrite m v
  else if a = 0x104C then s.beatMaxWrite m v
  else if a = 0x1050 then s.handoverWrite m v
  else if a = 0x1054 then s.acceptWrite m v
  else if 0x1060 ≤ a ∧ a < 0x1070 then s.delegWrite m a ((a - 0x1060) / 4) v
  else if a = 0x2040 then s.pwrCmdWrite m v
  else if a = 0x2050 then s.padWrite m v
  else if 0x3080 ≤ a ∧ a < 0x309C then s.pllCtlWrite m ((a - 0x3080) / 4) v
  else if 0x3100 ≤ a ∧ a < 0x31C0 then s.islandClockWrite m ((a - 0x3100) / 4) v
  else if a = 0x4058 then s.srcCfgWrite m v
  else if a = 0x4060 then s.injKeyWrite m v
  else if a = 0x4064 then s.injCloseWrite m v
  else if a = 0x5054 then s.guardedBy m a v (fieldsAt (s.home a)) (srcOf ((s.home a - 0x160000) / 4)).impl fun t => t.writeReg (t.home a) v
  else if a = 0x6040 then s.evtCtlWrite m v
  else if a = 0x6058 then s.cursorWrite m v
  else if a = 0x6060 then s.guardedBy m a v (fieldsAt a) (codeListed (EVT.RL_SEL.CODE.of v)) fun t => t.writeReg a v
  else if a = 0x6064 then s.guardedBy m a v (fieldsAt (s.home a)) true fun t => t.rlCfg (t.get EVT.RL_SEL.CODE) v
  else if a = 0x7054 then s.calDataWrite m v
  else if a = 0x705C then s.calCtlWrite m v
  else if a = 0x7070 then s.bptCtlWrite m v
  else if a = 0x7074 then s.hdrCtlWrite m v
  else if 0x7078 ≤ a ∧ a < 0x7088 then s.delegWrite m a ((a - 0x7078) / 4) v
  else if a = 0x804C then s.alarmLvlWrite m v
  else if a = 0x8050 then s.mbxCmdWrite m v
  else if a = 0x805C then s.mbxDataWrite m v
  else if a = 0xA040 then s.monCtlWrite m v
  else if a = 0xA04C then s.monDiffWrite m v
  else if a = 0xA060 then s.monQCtlWrite m v
  else if 0xB000 ≤ a ∧ a < 0xD000 ∧ a % 0x1000 = 0x48 then s.biasResumeWrite m (a / 0x1000 - 0xB) v
  else if 0xB000 ≤ a ∧ a < 0xD000 ∧ 0x100 ≤ a % 0x1000 ∧ a % 0x1000 < 0x500 then
    let c := 32 * (a / 0x1000 - 0xB) + (a % 0x1000 - 0x100) / 0x20
    if a % 0x20 = 0 then s.biasCfgWrite m c v
    else if a % 0x20 = 4 then s.biasValWrite m c v
    else if a % 0x20 = 0xC then s.biasGenWrite m c v
    else s.plainWrite m a v
  else if 0xD040 ≤ a ∧ a < 0xD060 then s.synCtlWrite m ((a - 0xD040) / 4) v
  else if a = 0xE040 then s.tbCtlWrite m v
  else if a = 0xE04C ∨ a = 0xE058 ∨ a = 0xE05C then s.patWrite m a v
  else if a = 0xE050 then s.edgeDataWrite m v
  else if a = 0xE054 then s.patCtlWrite m v
  else s.plainWrite m a v

/-- Writes of pages 0x10 to 0x24: converters, forward-path groups, cancellation, observation, Clover, governor and captures. -/
def State.midWrite (s : State) (m : Master) (a : Nat) (v : Word) : State :=
  let p := pageOf a
  let o := a % 0x1000
  if p < 0x18 ∧ 0x40 ≤ o ∧ o < 0x60 then s.guarded m a v fun t => t.chanWrite m.num (p - 0x10) a v
  else if p < 0x18 ∧ o = 0xC0 then s.planWrite m (p - 0x10) v
  else if p < 0x18 then s.plainWrite m a v
  else if p < 0x20 ∧ o = 0x48 then s.firDataWrite m (p - 0x18) v
  else if a = 0x20064 then s.xtDataWrite m v
  else if a = 0x20074 then s.poolWordWrite m v
  else if a = 0x2007C then s.snapCtlWrite m v
  else if 0x200C0 ≤ a ∧ a < 0x20100 then s.extRefWrite m ((a - 0x200C0) / 4) v
  else if a = 0x22040 then s.timingWrite m v
  else if a = 0x2204C then s.loopCtlWrite m v
  else if a = 0x22070 then s.matDataWrite m v
  else if a = 0x23054 then s.subDataWrite m v
  else if a = 0x2306C then s.protCtlWrite m v
  else if a = 0x24040 then s.injCtlWrite m v
  else if a = 0x24050 then s.lcapCtlWrite m v
  else if a = 0x24070 then s.iqCtlWrite m v
  else s.plainWrite m a v

/-- A write of IDLE: lines at their idle level follow it (R258). -/
def State.idleWrite (s : State) (m : Master) (k : Nat) (v : Word) : State :=
  s.guarded m (0x25054 + 0x1000 * k) v fun t => (t.writeReg (0x25054 + 0x1000 * k) v).idleLines k

/-- The link takes a state: the counters count, and LINK_DOWN follows (R109). (DESIGN CHOICE: log 21) -/
def State.linkTo (s : State) (ltssm speed width : Nat) : State :=
  let old := s.get PCI.LINK_STAT.LTSSM
  let s := (((s.set PCI.LINK_STAT.LTSSM ltssm).set PCI.LINK_STAT.SPEED speed).set PCI.LINK_STAT.WIDTH width).put PCI.LINK_STAT.UP (ltssm == 3)
  let s := if old = 3 ∧ ltssm ≠ 3 ∧ ltssm ≠ 4 then s.count PCI.CNT.DOWN 1 else s
  let s := if old ≠ 4 ∧ ltssm = 4 then s.count PCI.CNT.RECOVERY 1 else s
  if ltssm ≠ 3 ∧ s.board.perstN then s.followLink else s.condEnd 0x2C PCI.src.LINK_DOWN

/-- A write of LINK_CTL by a master: RETRAIN takes a link in L0 to Recovery; MAX_SPEED waits for the next training (R109).
(DESIGN CHOICE: log 21) -/
def State.linkCtlWrite (s : State) (m : Master) (v : Word) : State :=
  s.guarded m 0x2C044 v fun t =>
    let t := t.writeReg 0x2C044 v
    if v.getLsbD 2 ∧ t.flag PCI.LINK_STAT.UP then t.linkTo 4 (t.get PCI.LINK_STAT.SPEED) (t.get PCI.LINK_STAT.WIDTH) else t

/-- Writes of pages 0x25 to 0x3F: sequencers, diversity, power tables, lanes, the host ports, the cores and the clusters. -/
def State.highWrite (s : State) (m : Master) (a : Nat) (v : Word) : State :=
  let p := pageOf a
  let o := a % 0x1000
  let k := p - 0x25
  if p < 0x29 ∧ o = 0x40 then s.seqCtlWrite m k v
  else if p < 0x29 ∧ (o = 0x48 ∨ o = 0x4C) then s.seqDataWrite m k ((o - 0x48) / 4) v
  else if p < 0x29 ∧ o = 0x54 then s.idleWrite m k v
  else if p < 0x29 ∧ o = 0x80 then s.guarded m a v fun t => t.rffeCfg k v
  else if p < 0x29 ∧ (o = 0x88 ∨ o = 0x8C) then s.cmdDataWrite m k ((o - 0x88) / 4) v
  else if p < 0x29 ∧ o = 0x90 then s.rffeRdWrite m k v
  else if 0x29040 ≤ a ∧ a < 0x29060 then s.divCfgWrite m ((a - 0x29040) / 4) v
  else if a = 0x2A044 then s.pwtDataWrite m v
  else if a = 0x2A048 then s.pwtCommitWrite m v
  else if a = 0x2A054 then s.profDataWrite m v
  else if a = 0x2A058 then s.txenWrite m v
  else if 0x2A100 ≤ a ∧ a < 0x2A180 then s.portCfgWrite m ((a - 0x2A100) / 4) v
  else if a = 0x2B040 then s.ptpCtlWrite m v
  else if a = 0x2B054 then s.guarded m a v fun t => t.rateWrite v
  else if a = 0x2B084 then s.rxqPopWrite m v
  else if a = 0x2B088 then s.txqCtlWrite m v
  else if a = 0x2B08C then s.txqDataWrite m v
  else if 0x2B100 ≤ a ∧ a < 0x2B300 ∧ a % 0x20 = 0 then s.guarded m a v fun t => t.laneCtl ((a - 0x2B100) / 0x20) v
  else if a = 0x2C044 then s.linkCtlWrite m v
  else if 0x2E048 ≤ a ∧ a < 0x2E058 then s.guarded m a v fun t => t.wdogCfg ((a - 0x2E048) / 4) v
  else if a = 0x2E058 then s.kickWrite m v
  else s.plainWrite m a v

/-- Writes of a slot block, by the class of each register (R156). -/
def State.slotBusWrite (s : State) (m : Master) (a : Nat) (v : Word) : State :=
  let o := a % 0x1000
  let i := 8 * (pageOf a - 0x40) + (o - 0x100) / 0x40
  let r := o % 0x40
  if o < 0x100 ∨ 0x300 ≤ o then s.plainWrite m a v
  else if r = 0 then s.slotCtlWrite m i v
  else if r = 8 ∨ r = 0xC then s.guarded m a v fun t => t.lockedWrite m.num i a v
  else if r = 0x10 ∨ r = 0x14 ∨ r = 0x20 then s.guarded m a v fun t => t.shadowWrite m.num i a v
  else if r = 0x24 then s.exportWrite m i v
  else if r = 0x28 then s.canCfgWrite m i v
  else if r = 0x2C then s.guardedBy m a v (fieldsAt a) (reachOk v) fun t => t.lockedWrite m.num i a v
  else s.plainWrite m a v

/-- A whole-word write by a master at a byte address of the register space. -/
def State.busWrite (s : State) (m : Master) (a : Nat) (v : Word) : State :=
  let p := pageOf a
  if a % 0x1000 < 0x40 then s.headWrite m p (a % 0x1000) v
  else if p < 0x10 then s.lowWrite m a v
  else if p < 0x25 then s.midWrite m a v
  else if p < 0x40 then s.highWrite m a v
  else s.slotBusWrite m a v

/-- A write with byte enables: one that does not enable all four bytes, or whose address is not a multiple of 4, is dropped and raises
ACCESS_SIZE (R4). (DESIGN CHOICE: log 10) -/
def State.writeAccess (s : State) (m : Master) (a : Nat) (be : BitVec 4) (v : Word) : State :=
  if a % 4 ≠ 0 ∨ be ≠ 15 then (if s.canAccess m then (s.outcome m 0).badSize m a else s) else s.busWrite m a v

/-- REGISTER_WRITE (R7). -/
def execRegisterWrite (m : Master) (a : BitVec 19) (be : BitVec 4) (v : Word) (s : State) : Host.Outcome State Fault Refusal :=
  ok (s.writeAccess m a.toNat be v)

/-! Snapshot groups -/

/-- The 64-bit status word of the page lines, and that of the slot pages (R346). -/
def State.statWord (s : State) : Nat := s.lines.foldl (fun w p => setBit w (statusBit p)) 0
def State.slotWord (s : State) : Nat := s.lines.foldl (fun w p => if 0x40 ≤ p then setBit w (p - 0x40) else w) 0

/-- The words of a page's snapshot group as they stand now; none where the page has no group (R103, R182, R248, R346, R406).
(DESIGN CHOICE: log 17, 67) -/
def State.groupOf (s : State) (p : Nat) : List (Fld × Nat) :=
  if p = 0x04 then
    [(FLT.BLOCK_STAT_LO.LINES, s.statWord % 2 ^ 32), (FLT.BLOCK_STAT_HI.LINES, s.statWord / 2 ^ 32),
      (FLT.SLOT_STAT_LO.LINES, s.slotWord % 2 ^ 32), (FLT.SLOT_STAT_HI.LINES, s.slotWord / 2 ^ 32)]
  else if p = 0x07 then [(NVM.OP_SEC_LO.SEC, s.opSec % 2 ^ 32), (NVM.OP_SEC_HI.SEC, s.opSec / 2 ^ 32)]
  else if p = 0x24 then [(CAP.IQ_TIME_S.VALUE, s.clv.iqTime.1 % 2 ^ 32), (CAP.IQ_TIME_NS.VALUE, s.clv.iqTime.2)]
  else if p = 0x2B then
    [(LNK.PPS_SEC_HI.SEC, s.lnk.pps.1 / 2 ^ 32), (LNK.PPS_SEC_LO.SEC, s.lnk.pps.1 % 2 ^ 32), (LNK.PPS_NS.NS, s.lnk.pps.2)]
  else []

/-- The update of a page's snapshot group, no sooner than t_SNAP after the last: SNAP_SEQ goes odd and even again, and the gathered
changes show together; without a change there is no update (R103). (DESIGN CHOICE: log 17, 67) -/
def State.publish (s : State) (p : Nat) : State :=
  if s.inReset || s.pageOff p then s
  else
    let s := match (Tab.get {} s.snap p).lastAt with
      | some t => s.until (t + us 400)
      | none => s
    let g := s.groupOf p
    if g.all fun x => s.get x.1 == x.2 then s
    else
      let t : State := { s with snap := Tab.set {} s.snap p { lastAt := some s.now } }
      (g.foldl (fun t x => t.set x.1 x.2) t).set (HDR.SNAP_SEQ.SEQ p) (s.get (HDR.SNAP_SEQ.SEQ p) + 2)

def execSnapshotPublish (p : Fin 128) (s : State) : Host.Outcome State Fault Refusal := .next (s.publish p)

end Sys2Proof.Machine
end

