-- ==== Sys2Proof/Machine/Ports.lean ====
section
/-! DEFINITION. The host ports: PCIe, SPI-A, SPI-B and I²C as sequences of register accesses (R105 to R114). -/
namespace Sys2Proof.Machine
open Sys2Proof

/-! PCIe -/

/-- The byte enables of word `k` of a transaction of `n` words. -/
def beOf (first last : BitVec 4) (n k : Nat) : BitVec 4 := if k = 0 then first else if k + 1 = n then last else 15

/-- Words at consecutive addresses, each an access of its own (R106). (DESIGN CHOICE: log 69) -/
def State.writeRun (s : State) (f : State → Nat → Word → State) (data : List Word) : State :=
  (List.range data.length).foldl (fun s k => f s k (data.getD k 0)) s
/-- Words read at consecutive addresses (R106). (DESIGN CHOICE: log 12, 69) -/
def State.readRun (s : State) (f : State → Nat → State) (n : Nat) : State := (List.range n).foldl f s

/-- A transaction to BAR0 (R106). -/
def execPcieBar0Tlp (a : BitVec 19) (first last : BitVec 4) (write : Bool) (n : Nat) (data : List Word) (s : State) :
    Host.Outcome State Fault Refusal :=
  let at_ := fun k => (a.toNat + 4 * k) % 0x80000
  ok (if write then s.writeRun (fun s k v => s.writeAccess .m0 (at_ k) (beOf first last data.length k) v) data
    else s.ask.readRun (fun s k => s.readAccess .m0 (at_ k) (beOf first last n k)) n)

/-- A word written to BAR2: the pool view takes it under the rights of POOL_DATA; the capture buffer and the reserved part drop it in
silence (R107, R195, R248). (DESIGN CHOICE: log 20) -/
def State.bar2Write (s : State) (o : Nat) (be : BitVec 4) (v : Word) : State :=
  if 0x1000000 ≤ o then s
  else if be ≠ 15 then s.badSize .m0 0x20074
  else s.guarded .m0 0x20074 v fun t => t.poolWrite 0 (decide (o < 0x800000)) (o % 0x800000 / 4) v.toNat

/-- A word read from BAR2 (R107, R195, R248). (DESIGN CHOICE: log 20) -/
def State.bar2Read (s : State) (o : Nat) : State :=
  if o < 0x1000000 then s.readBy .m0 0x20074 (fun t => t.poolRead (decide (o < 0x800000)) (o % 0x800000 / 4)) id
  else if o < 0x1800000 then s.readBy .m0 0x24084 (fun t => t.iqWord ((o - 0x1000000) / 4)) id
  else if s.canAccess .m0 then s.reply 0
  else s

/-- A transaction to BAR2 (R106, R107). -/
def execPcieBar2Access (a : BitVec 25) (first last : BitVec 4) (write : Bool) (n : Nat) (data : List Word) (s : State) :
    Host.Outcome State Fault Refusal :=
  let at_ := fun k => (a.toNat + 4 * k) % 0x2000000
  ok (if write then s.writeRun (fun s k v => s.bar2Write (at_ k) (beOf first last data.length k) v) data
    else s.ask.readRun (fun s k => s.bar2Read (at_ k)) n)

/-- The endpoint and I02 are reset: page PCI takes its reset values but for the words that the fabric holds, and the link is in Detect
(R100, R108). (DESIGN CHOICE: log 21) -/
def State.endpointReset (s : State) : State :=
  let s := { s with
    reg := s.reg.filter fun e => !(decide (0x2C010 ≤ e.1 / 32) && decide (e.1 / 32 < 0x2D000))
    flt := { s.flt with conds := s.flt.conds.filter fun k => !(keyPage k == 0x2C) } }
  let s := s.updFirst 0x2C
  (s.put PCI.LINK_STAT.PERST (!s.board.perstN)).linkTo 0 0 0

def execPcieEndpointReset (s : State) : Host.Outcome State Fault Refusal := ok (if s.inReset then s else s.endpointReset)

def execPcieRetrain (m : Master) (v : Word) (s : State) : Host.Outcome State Fault Refusal := ok (s.linkCtlWrite m v)

/-- A link that leaves L0 for Recovery by itself has met correctable errors; the spec does not say which bits of AER_COR they set
(R109). (DESIGN CHOICE: log 21) -/
def State.linkErr (s : State) (ltssm : Nat) : State :=
  if s.get PCI.LINK_STAT.LTSSM = 3 ∧ ltssm = 4 then
    let (x, t) := s.draw
    t.set PCI.AER_COR.STATUS (t.get PCI.AER_COR.STATUS ||| x)
  else s

/-- The link changes state, and PERST_N stands as given (R109). -/
def execPcieLinkStateChange (ltssm : BitVec 4) (speed : BitVec 4) (width : BitVec 8) (perst : Bool) (s : State) :
    Host.Outcome State Fault Refusal :=
  let t : State := { s with board := { s.board with perstN := !perst } }
  ok (if s.inReset || s.resetting 0x2C then t else ((t.put PCI.LINK_STAT.PERST perst).linkErr ltssm.toNat).linkTo ltssm.toNat speed.toNat width.toNat)

/-- A clear in configuration space clears the copy (R109). -/
def execConfigSpaceAccess (cor : Bool) (bits : Word) (s : State) : Host.Outcome State Fault Refusal :=
  let f := if cor then PCI.AER_COR.STATUS else PCI.AER_UNCOR.STATUS
  .next (if s.inReset then s else s.writeFld bits f)

/-! Serial addresses -/

/-- The master of an SPI port. -/
def spiMaster (port : Fin 2) : Master := if port = 0 then .m1 else .m2

/-- Address bits 23:19 and 1:0 are zero (R110). -/
def serialOk (a : Nat) : Bool := a < 0x80000 && a % 4 == 0

/-- The address after a word: it stays in the page (R111). -/
def nextAddr (a : Nat) : Nat := a / 0x1000 * 0x1000 + (a % 0x1000 + 4) % 0x1000

/-- The address of word `k` of a transaction. -/
def addrAt (a : Nat) : Nat → Nat
  | 0 => a
  | k + 1 => nextAddr (addrAt a k)

/-! SPI -/

/-- A transaction whose address breaks R110: no access, ACCESS_SIZE, and its words counted as cut (R110, R114).
(DESIGN CHOICE: log 12, 22) -/
def State.spiBad (s : State) (port : Nat) (m : Master) (a words : Nat) : State :=
  if s.canAccess m then (s.count (HSI.SPI_STAT.CUT port) words).badSize m a else s

def execSpiWrite (port : Fin 2) (a : BitVec 24) (data : List Word) (s : State) : Host.Outcome State Fault Refusal :=
  let m := spiMaster port
  ok (if serialOk a.toNat then s.writeRun (fun s k v => s.busWrite m (addrAt a.toNat k) v) data
    else s.spiBad port m a.toNat data.length)

def execSpiRead (port : Fin 2) (a : BitVec 24) (n : Nat) (s : State) : Host.Outcome State Fault Refusal :=
  let m := spiMaster port
  ok (if serialOk a.toNat then s.ask.readRun (fun s k => s.busRead m (addrAt a.toNat k)) n
    else if s.canAccess m then (s.ask.readRun (fun s _ => s.reply 0) n).spiBad port m a.toNat 0
    else s.ask)

/-- The status byte of the port's last write (R112). (DESIGN CHOICE: log 11) -/
def State.statusByte (s : State) (m : Master) : Nat := 128 * (s.owns m).toNat + Tab.get 0 s.ports.lastWr m.num % 8

def execSpiStatus (port : Fin 2) (s : State) : Host.Outcome State Fault Refusal :=
  let m := spiMaster port
  .next (if s.canAccess m then s.ask.reply (s.statusByte m) else s.ask)

/-- A transaction with a reserved opcode only counts (R110, R114). -/
def execSpiReservedOpcode (port : Fin 2) (_op : BitVec 8) (s : State) : Host.Outcome State Fault Refusal :=
  .next (if s.canAccess (spiMaster port) then s.count (HSI.SPI_STAT.OPCODE port) 1 else s)

/-- CS_N rises within the word at an address (R111, R114). -/
def execSpiWordCut (port : Fin 2) (a : BitVec 24) (s : State) : Host.Outcome State Fault Refusal :=
  ok (s.spiBad port (spiMaster port) a.toNat 1)

/-! I²C -/

/-- The target acknowledges: outside reset, from the end of the NVM load (R44). -/
def State.i2cOn (s : State) : Bool := !s.inReset && s.rst.loaded

/-- From the acceptance of a SLEEP entry until the wake every transfer is a wake event, and no more (R44, R91). -/
def State.i2cWakes (s : State) : Bool := s.aon.asleep || s.tr.any fun t => t.target == pSleep

/-- A partial word is discarded (R113, R114). -/
def State.i2cCut (s : State) (a : Nat) : State := (s.count HSI.I2C_STAT.PARTIAL 1).badSize .m3 a

/-- The address that the next transfer starts from. (DESIGN CHOICE: log 12, 22) -/
def State.i2cAt (s : State) (a : Nat) : State := { s with ports := { s.ports with i2cSet := a } }

/-- A write transfer: three address bytes, then words; `cut` where it ends within a word (R113). (DESIGN CHOICE: log 22) -/
def State.i2cWrite (s : State) (a : Nat) (data : List Word) (cut : Bool) : State :=
  if s.i2cWakes then s.i2cMatch s.i2cOwn
  else if !s.i2cOn then s
  else if !serialOk a then (s.i2cAt a).badSize .m3 a
  else
    let s := s.writeRun (fun s k v => s.busWrite .m3 (addrAt a k) v) data
    let e := addrAt a data.length
    if !s.i2cOn then s else if cut then (s.i2cAt e).i2cCut e else s.i2cAt e

def execI2cWriteTransfer (a : BitVec 24) (data : List Word) (cut : Bool) (s : State) : Host.Outcome State Fault Refusal :=
  ok (s.i2cWrite a.toNat data cut)

/-- A read transfer of `n` words from the address set; one that breaks R110 performs no access and reads 0 (R4, R113).
(DESIGN CHOICE: log 22) -/
def State.i2cRead (s : State) (n : Nat) : State :=
  if s.i2cWakes then s.i2cMatch s.i2cOwn
  else if !s.i2cOn then s
  else
    let a := s.ports.i2cSet
    if serialOk a then (s.readRun (fun s k => s.busRead .m3 (addrAt a k)) n).i2cAt (addrAt a n)
    else s.readRun (fun s _ => s.reply 0) n

def execI2cReadTransfer (n : Nat) (s : State) : Host.Outcome State Fault Refusal := ok (s.ask.i2cRead n)

/-- SCL stays low for more than 35 ms: the transfer is abandoned; `cut` where a word was in progress (R113, R114). -/
def execI2cSclTimeout (cut : Bool) (s : State) : Host.Outcome State Fault Refusal :=
  ok (if !s.i2cOn then s
    else
      let s := s.count HSI.I2C_STAT.TIMEOUT 1
      (if cut then s.i2cCut s.ports.i2cSet else s).fire 0x2D HSI.src.I2C_TIMEOUT { master := 3 })

end Sys2Proof.Machine
end

