-- ==== Sys2Proof/Machine/Dispatch.lean ====
section
/-! DEFINITION. exec: what one command does to everything but the queue, one arm per constructor, each a call of its own meaning. -/
namespace Sys2Proof.Machine
open Sys2Proof

def exec (i : Instr) (s : State) : Host.Outcome State Fault Refusal :=
  match i with
  | .aonPowerOnReset belowLatch => Sys2Proof.Machine.execAonPowerOnReset belowLatch s
  | .chipPowerOnReset rail => Sys2Proof.Machine.execChipPowerOnReset rail s
  | .chipPorRelease => Sys2Proof.Machine.execChipPorRelease s
  | .pinReset => Sys2Proof.Machine.execPinReset s
  | .pinResetRelease => Sys2Proof.Machine.execPinResetRelease s
  | .faultResetRelease => Sys2Proof.Machine.execFaultResetRelease s
  | .pfailWarn => Sys2Proof.Machine.execPfailWarn s
  | .powerFailResetStart => Sys2Proof.Machine.execPowerFailResetStart s
  | .powerFailResetRelease => Sys2Proof.Machine.execPowerFailResetRelease s
  | .nvmLoadDone ce ue => Sys2Proof.Machine.execNvmLoadDone s ce ue
  | .blockResetStart m p => Sys2Proof.Machine.execBlockResetStart m p s
  | .blockResetEnd p => Sys2Proof.Machine.execBlockResetEnd p s
  | .ownSoftReset m => Sys2Proof.Machine.execOwnSoftReset m s
  | .supplyRailLow r => Sys2Proof.Machine.execSupplyRailLow r s
  | .supplyRailPresent r => Sys2Proof.Machine.execSupplyRailPresent r s
  | .refclkFault lost dev => Sys2Proof.Machine.execRefclkFault lost dev s
  | .refclkReturn dev => Sys2Proof.Machine.execRefclkReturn dev s
  | .pllEnable m p v => Sys2Proof.Machine.execPllEnable m p v s
  | .pllLocked p => Sys2Proof.Machine.execPllLocked p s
  | .pllUnlock p => Sys2Proof.Machine.execPllUnlock p s
  | .islandClockWrite m n v => Sys2Proof.Machine.execIslandClockWrite m n v s
  | .handshakeDetectorTrip kind => Sys2Proof.Machine.execHandshakeDetectorTrip kind s
  | .hsParity slot => Sys2Proof.Machine.execHsParity s slot
  | .railRiseConfirmed k => Sys2Proof.Machine.execRailRiseConfirmed k s
  | .vrmTimeout k => Sys2Proof.Machine.execVrmTimeout k s
  | .profileRequest m v => Sys2Proof.Machine.execProfileRequest m v s
  | .profileCommit => Sys2Proof.Machine.execProfileCommit s
  | .profileCrossfadeEnd j => Sys2Proof.Machine.execProfileCrossfadeEnd j s
  | .profileDone => Sys2Proof.Machine.execProfileDone s
  | .channelPowerUpDone n c => Sys2Proof.Machine.execChannelPowerUpDone n c s
  | .powerStateRequest m v => Sys2Proof.Machine.execPowerStateRequest m v s
  | .leavingRunRampStart => Sys2Proof.Machine.execLeavingRunRampStart s
  | .quietEntered => Sys2Proof.Machine.execQuietEntered s
  | .standbyGating => Sys2Proof.Machine.execStandbyGating s
  | .padLatchClose => Sys2Proof.Machine.execPadLatchClose s
  | .standbyEntered => Sys2Proof.Machine.execStandbyEntered s
  | .sleepFlushCut => Sys2Proof.Machine.execSleepFlushCut s
  | .sleepIsolation => Sys2Proof.Machine.execSleepIsolation s
  | .powerTransitionAbort code => Sys2Proof.Machine.execPowerTransitionAbort code s
  | .standbyExitCalDone => Sys2Proof.Machine.execStandbyExitCalDone s
  | .powerExitBoundary => Sys2Proof.Machine.execPowerExitBoundary s
  | .i2cWakeMatch addr => Sys2Proof.Machine.execI2cWakeMatch s addr
  | .wakeResetRelease => Sys2Proof.Machine.execWakeResetRelease s
  | .padRelease m v => Sys2Proof.Machine.execPadRelease m v s
  | .ownClaim m v => Sys2Proof.Machine.execOwnClaim m v s
  | .electionEnd => Sys2Proof.Machine.execElectionEnd s
  | .ownRelease m v => Sys2Proof.Machine.execOwnRelease m v s
  | .ownBeat m v => Sys2Proof.Machine.execOwnBeat m v s
  | .beatMaxWrite m v => Sys2Proof.Machine.execBeatMaxWrite m v s
  | .ownershipLapse => Sys2Proof.Machine.execOwnershipLapse s
  | .handoverStart m v => Sys2Proof.Machine.execHandoverStart m v s
  | .handoverAccept m v => Sys2Proof.Machine.execHandoverAccept m v s
  | .handoverTimeout => Sys2Proof.Machine.execHandoverTimeout s
  | .rfStopSet m v => Sys2Proof.Machine.execRfStopSet m v s
  | .rfStopClear m v => Sys2Proof.Machine.execRfStopClear m v s
  | .registerWrite m a be v => Sys2Proof.Machine.execRegisterWrite m a be v s
  | .rcRegisterRead m a be => Sys2Proof.Machine.execRcRegisterRead m a be s
  | .snapshotPublish p => Sys2Proof.Machine.execSnapshotPublish p s
  | .pcieBar0Tlp a first last write n data => Sys2Proof.Machine.execPcieBar0Tlp a first last write n data s
  | .pcieBar2Access a first last write n data => Sys2Proof.Machine.execPcieBar2Access a first last write n data s
  | .pcieEndpointReset => Sys2Proof.Machine.execPcieEndpointReset s
  | .pcieRetrain m v => Sys2Proof.Machine.execPcieRetrain m v s
  | .pcieLinkStateChange ltssm speed width perst => Sys2Proof.Machine.execPcieLinkStateChange ltssm speed width perst s
  | .spiWrite port a data => Sys2Proof.Machine.execSpiWrite port a data s
  | .spiRead port a n => Sys2Proof.Machine.execSpiRead port a n s
  | .spiStatus port => Sys2Proof.Machine.execSpiStatus port s
  | .spiReservedOpcode port op => Sys2Proof.Machine.execSpiReservedOpcode port op s
  | .spiWordCut port a => Sys2Proof.Machine.execSpiWordCut port a s
  | .i2cWriteTransfer a data cut => Sys2Proof.Machine.execI2cWriteTransfer a data cut s
  | .i2cReadTransfer n => Sys2Proof.Machine.execI2cReadTransfer n s
  | .i2cSclTimeout cut => Sys2Proof.Machine.execI2cSclTimeout cut s
  | .dsaChangeApply n => Sys2Proof.Machine.execDsaChangeApply n s
  | .synthEnable m n v => Sys2Proof.Machine.execSynthEnable m n v s
  | .synthPlanChange m n v => Sys2Proof.Machine.execSynthPlanChange m n v s
  | .synthRecal m n v => Sys2Proof.Machine.execSynthRecal m n v s
  | .synthDisable m n v => Sys2Proof.Machine.execSynthDisable m n v s
  | .synthDrainDone n => Sys2Proof.Machine.execSynthDrainDone n s
  | .synthBandDone n => Sys2Proof.Machine.execSynthBandDone n s
  | .synthAmplDone n => Sys2Proof.Machine.execSynthAmplDone n s
  | .synthLockAcquired n => Sys2Proof.Machine.execSynthLockAcquired n s
  | .synthSettleDone n => Sys2Proof.Machine.execSynthSettleDone n s
  | .synthAligned n => Sys2Proof.Machine.execSynthAligned n s
  | .convcalDone n => Sys2Proof.Machine.execConvcalDone n s
  | .channelChangeResume n => Sys2Proof.Machine.execChannelChangeResume n s
  | .synthStepTimeout n => Sys2Proof.Machine.execSynthStepTimeout n s
  | .synthUnlock n => Sys2Proof.Machine.execSynthUnlock n s
  | .bgCalWindowEnd n obs => Sys2Proof.Machine.execBgCalWindowEnd n obs s
  | .obsDwellAdvance n r => Sys2Proof.Machine.execObsDwellAdvance n r s
  | .obsPlanCommit m n v => Sys2Proof.Machine.execObsPlanCommit m n v s
  | .obsPlanLive n => Sys2Proof.Machine.execObsPlanLive n s
  | .slotEnable m j v => Sys2Proof.Machine.execSlotEnable m j v s
  | .slotHistoryFilled j => Sys2Proof.Machine.execSlotHistoryFilled j s
  | .slotStart j => Sys2Proof.Machine.execSlotStart j s
  | .slotRampComplete j => Sys2Proof.Machine.execSlotRampComplete j s
  | .slotDisable m j v => Sys2Proof.Machine.execSlotDisable m j v s
  | .slotRampDownBegin j => Sys2Proof.Machine.execSlotRampDownBegin j s
  | .slotDrainStart j => Sys2Proof.Machine.execSlotDrainStart j s
  | .slotDrainEnd j => Sys2Proof.Machine.execSlotDrainEnd j s
  | .slotDrainLate j => Sys2Proof.Machine.execSlotDrainLate j s
  | .slotCommitRequest m j v => Sys2Proof.Machine.execSlotCommitRequest m j v s
  | .commitPoint j => Sys2Proof.Machine.execCommitPoint j s
  | .crossfadeEnd j => Sys2Proof.Machine.execCrossfadeEnd j s
  | .holdReasonArises j bit => Sys2Proof.Machine.execHoldReasonArises j bit s
  | .holdCleared j bit => Sys2Proof.Machine.execHoldCleared j bit s
  | .slotResume j => Sys2Proof.Machine.execSlotResume j s
  | .firDataAccess m n write v => Sys2Proof.Machine.execFirDataAccess m n write v s
  | .exportWrite m j v => Sys2Proof.Machine.execExportWrite m j v s
  | .exportChangeApply j => Sys2Proof.Machine.execExportChangeApply j s
  | .exportFrameSend j fits => Sys2Proof.Machine.execExportFrameSend j fits s
  | .laneBlockLockLoss l => Sys2Proof.Machine.execLaneBlockLockLoss l s
  | .ptpLoadNow m v => Sys2Proof.Machine.execPtpLoadNow m v s
  | .ptpLoadPps m v => Sys2Proof.Machine.execPtpLoadPps m v s
  | .ptpStep m v => Sys2Proof.Machine.execPtpStep m v s
  | .ptpBeat m v => Sys2Proof.Machine.execPtpBeat m v s
  | .ptpValidExpiry => Sys2Proof.Machine.execPtpValidExpiry s
  | .ppsInEdge => Sys2Proof.Machine.execPpsInEdge s
  | .ptpTimeRead m => Sys2Proof.Machine.execPtpTimeRead m s
  | .ptpFrameReceive l data => Sys2Proof.Machine.execPtpFrameReceive l data s
  | .rxqDataRead m => Sys2Proof.Machine.execRxqDataRead m s
  | .rxqPop m v => Sys2Proof.Machine.execRxqPop m v s
  | .txqDataWrite m v => Sys2Proof.Machine.execTxqDataWrite m v s
  | .txqSend m v => Sys2Proof.Machine.execTxqSend m v s
  | .txqFrameSent => Sys2Proof.Machine.execTxqFrameSent s
  | .cascadeFrameReceive l data => Sys2Proof.Machine.execCascadeFrameReceive l data s
  | .canResizeRequest m j v => Sys2Proof.Machine.execCanResizeRequest m j v s
  | .canModeWrite m j v => Sys2Proof.Machine.execCanModeWrite m j v s
  | .extentReturnDone j => Sys2Proof.Machine.execExtentReturnDone j s
  | .poolDataAccess m write v => Sys2Proof.Machine.execPoolDataAccess m write v s
  | .poolEccError e double => Sys2Proof.Machine.execPoolEccError e double s
  | .xtDataAccess m write v => Sys2Proof.Machine.execXtDataAccess m write v s
  | .descDataRead m k => Sys2Proof.Machine.execDescDataRead m k s
  | .cloverPeriodStart obs => Sys2Proof.Machine.execCloverPeriodStart obs s
  | .cloverWritePhase => Sys2Proof.Machine.execCloverWritePhase s
  | .compatLoopComplete l lane => Sys2Proof.Machine.execCompatLoopComplete l lane s
  | .engineJobStart e bad => Sys2Proof.Machine.execEngineJobStart e bad s
  | .jobSteal e bad => Sys2Proof.Machine.execJobSteal e bad s
  | .stealRetryExpiry e bad => Sys2Proof.Machine.execStealRetryExpiry e bad s
  | .jobComplete e post live iphys => Sys2Proof.Machine.execJobComplete e post live s iphys
  | .jobTimeout e => Sys2Proof.Machine.execJobTimeout e s
  | .clusterHandoffDone k => Sys2Proof.Machine.execClusterHandoffDone k s
  | .divergenceWindow j excess => Sys2Proof.Machine.execDivergenceWindow j excess s
  | .warmLoadDone j => Sys2Proof.Machine.execWarmLoadDone j s
  | .snapshotSave m v => Sys2Proof.Machine.execSnapshotSave m v s
  | .snapshotAuto => Sys2Proof.Machine.execSnapshotAuto s
  | .snapshotSaveDone ok => Sys2Proof.Machine.execSnapshotSaveDone ok s
  | .analysisFrameComplete j invalid est wait => Sys2Proof.Machine.execAnalysisFrameComplete j invalid est s wait
  | .oscMuteEnd j => Sys2Proof.Machine.execOscMuteEnd j s
  | .loopModeWrite m v => Sys2Proof.Machine.execLoopModeWrite m v s
  | .matDataAccess m write v => Sys2Proof.Machine.execMatDataAccess m write v s
  | .matCommit m v => Sys2Proof.Machine.execMatCommit m v s
  | .timingModeWrite m v => Sys2Proof.Machine.execTimingModeWrite m v s
  | .injectionStart m v => Sys2Proof.Machine.execInjectionStart m v s
  | .injectionEnd => Sys2Proof.Machine.execInjectionEnd s
  | .loopCaptureArm m v => Sys2Proof.Machine.execLoopCaptureArm m v s
  | .loopCaptureTrigger => Sys2Proof.Machine.execLoopCaptureTrigger s
  | .iqCaptureArm m v => Sys2Proof.Machine.execIqCaptureArm m v s
  | .iqCaptureTrigger => Sys2Proof.Machine.execIqCaptureTrigger s
  | .lcapDataRead m => Sys2Proof.Machine.execLcapDataRead m s
  | .iqDataRead m => Sys2Proof.Machine.execIqDataRead m s
  | .binDataRead m second => Sys2Proof.Machine.execBinDataRead m second s
  | .obsSumRead m => Sys2Proof.Machine.execObsSumRead m s
  | .subDataAccess m write v => Sys2Proof.Machine.execSubDataAccess m write v s
  | .protUnlatch m v => Sys2Proof.Machine.execProtUnlatch m v s
  | .seqEvent k entry => Sys2Proof.Machine.execSeqEvent k entry s
  | .seqDataAccess m k second write v => Sys2Proof.Machine.execSeqDataAccess m k second write v s
  | .seqRun m k v => Sys2Proof.Machine.execSeqRun m k v s
  | .seqStart k => Sys2Proof.Machine.execSeqStart k s
  | .seqStop m k v => Sys2Proof.Machine.execSeqStop m k v s
  | .seqCommit m k v => Sys2Proof.Machine.execSeqCommit m k v s
  | .seqTableLive k => Sys2Proof.Machine.execSeqTableLive k s
  | .rffeCmdAccess m k second write v => Sys2Proof.Machine.execRffeCmdAccess m k second write v s
  | .rffeFrameStart b => Sys2Proof.Machine.execRffeFrameStart b s
  | .rffeFrameDone b => Sys2Proof.Machine.execRffeFrameDone b s
  | .rffeRead m k v => Sys2Proof.Machine.execRffeRead m k v s
  | .rffeReadDone k data parityError => Sys2Proof.Machine.execRffeReadDone k data parityError s
  | .tbCtlWrite m v => Sys2Proof.Machine.execTbCtlWrite m v s
  | .timebaseEpoch offset => Sys2Proof.Machine.execTimebaseEpoch offset s
  | .timebaseSecond pps => Sys2Proof.Machine.execTimebaseSecond pps s
  | .patEdgeAccess m write v => Sys2Proof.Machine.execPatEdgeAccess m write v s
  | .patternCommit m v => Sys2Proof.Machine.execPatternCommit m v s
  | .patternLive p => Sys2Proof.Machine.execPatternLive p s
  | .syncBurstFound p err cell => Sys2Proof.Machine.execSyncBurstFound p err cell s
  | .syncBurstMiss p => Sys2Proof.Machine.execSyncBurstMiss p s
  | .switchingInstant p edge => Sys2Proof.Machine.execSwitchingInstant p edge s
  | .divCfgWrite m d v => Sys2Proof.Machine.execDivCfgWrite m d v s
  | .diversityDecision d diff => Sys2Proof.Machine.execDiversityDecision d diff s
  | .diversitySwitchUl d => Sys2Proof.Machine.execDiversitySwitchUl d s
  | .diversitySwitchDl d => Sys2Proof.Machine.execDiversitySwitchDl d s
  | .pwtDataAccess m prof write v => Sys2Proof.Machine.execPwtDataAccess m prof write v s
  | .pwtCommit m v => Sys2Proof.Machine.execPwtCommit m v s
  | .pwtTableLive p => Sys2Proof.Machine.execPwtTableLive p s
  | .pwtStep p => Sys2Proof.Machine.execPwtStep p s
  | .pwtPortCfgWrite m p v => Sys2Proof.Machine.execPwtPortCfgWrite m p v s
  | .txenWrite m v => Sys2Proof.Machine.execTxenWrite m v s
  | .txenPendingApply p => Sys2Proof.Machine.execTxenPendingApply p s
  | .txenPendingTimeout p => Sys2Proof.Machine.execTxenPendingTimeout p s
  | .powerWindowEnd p r powers => Sys2Proof.Machine.execPowerWindowEnd p r powers s
  | .pclampDecay j => Sys2Proof.Machine.execPclampDecay j s
  | .noiseEstimateUpdate n later => Sys2Proof.Machine.execNoiseEstimateUpdate n later s
  | .noiseRedDecay j => Sys2Proof.Machine.execNoiseRedDecay j s
  | .maskSegment p zone bins => Sys2Proof.Machine.execMaskSegment p zone bins s
  | .maskMuteEnd j => Sys2Proof.Machine.execMaskMuteEnd j s
  | .lockCopyCompare upsets => Sys2Proof.Machine.execLockCopyCompare upsets s
  | .reglCheck => Sys2Proof.Machine.execReglCheck s
  | .reglWrite => Sys2Proof.Machine.execReglWrite s
  | .biasSlewTick c => Sys2Proof.Machine.execBiasSlewTick c s
  | .biasSpanSwitch c => Sys2Proof.Machine.execBiasSpanSwitch c s
  | .biasValWrite m c v => Sys2Proof.Machine.execBiasValWrite m c v s
  | .biasGenWrite m c gen v => Sys2Proof.Machine.execBiasGenWrite m c gen v s
  | .biasResume m j v => Sys2Proof.Machine.execBiasResume m j v s
  | .biasSupplyLow => Sys2Proof.Machine.execBiasSupplyLow s
  | .biasSupplyPresent => Sys2Proof.Machine.execBiasSupplyPresent s
  | .monitorConversion core value => Sys2Proof.Machine.execMonitorConversion core value s
  | .monitorModeWrite m v => Sys2Proof.Machine.execMonitorModeWrite m v s
  | .monQueueRead m => Sys2Proof.Machine.execMonQueueRead m s
  | .monQueueFlush m v => Sys2Proof.Machine.execMonQueueFlush m v s
  | .sensorConversion j value => Sys2Proof.Machine.execSensorConversion j value s
  | .graceExpiry => Sys2Proof.Machine.execGraceExpiry s
  | .enforcementRise => Sys2Proof.Machine.execEnforcementRise s
  | .enforcementFall => Sys2Proof.Machine.execEnforcementFall s
  | .thermalHoldEnd => Sys2Proof.Machine.execThermalHoldEnd s
  | .faultSourceFire p b begins => Sys2Proof.Machine.execFaultSourceFire p b begins s
  | .shadowEnd p => Sys2Proof.Machine.execShadowEnd p s
  | .srcCfgWrite m v => Sys2Proof.Machine.execSrcCfgWrite m v s
  | .injKeyWrite m v => Sys2Proof.Machine.execInjKeyWrite m v s
  | .injClose m v => Sys2Proof.Machine.execInjClose m v s
  | .errForceWrite m p v => Sys2Proof.Machine.execErrForceWrite m p v s
  | .irqForceWrite m p v => Sys2Proof.Machine.execIrqForceWrite m p v s
  | .tansyBoot => Sys2Proof.Machine.execTansyBoot s
  | .qspiImageVerified image => Sys2Proof.Machine.execQspiImageVerified image s
  | .bootDoneNoFw => Sys2Proof.Machine.execBootDoneNoFw s
  | .mbxCmdWrite m v => Sys2Proof.Machine.execMbxCmdWrite m v s
  | .mbxDataWrite m v => Sys2Proof.Machine.execMbxDataWrite m v s
  | .mbxDataRead m => Sys2Proof.Machine.execMbxDataRead m s
  | .keypkg => Sys2Proof.Machine.execKeypkg s
  | .fwLoad => Sys2Proof.Machine.execFwLoad s
  | .challenge => Sys2Proof.Machine.execChallenge s
  | .dbgUnlock => Sys2Proof.Machine.execDbgUnlock s
  | .ftmAuth => Sys2Proof.Machine.execFtmAuth s
  | .setMinSvn => Sys2Proof.Machine.execSetMinSvn s
  | .jtagResponse ftm resp => Sys2Proof.Machine.execJtagResponse ftm resp s
  | .tamperAlarm src begins => Sys2Proof.Machine.execTamperAlarm src begins s
  | .sleepTamper src => Sys2Proof.Machine.execSleepTamper src s
  | .keyRegionZeroize => Sys2Proof.Machine.execKeyRegionZeroize s
  | .alarmLvlWrite m v => Sys2Proof.Machine.execAlarmLvlWrite m v s
  | .watchdogExpiry c => Sys2Proof.Machine.execWatchdogExpiry c s
  | .wdogKick m v => Sys2Proof.Machine.execWdogKick m v s
  | .mpuViolation c write exec a => Sys2Proof.Machine.execMpuViolation c write exec a s
  | .calDataAccess m write v => Sys2Proof.Machine.execCalDataAccess m write v s
  | .calCommit m v => Sys2Proof.Machine.execCalCommit m v s
  | .calRevert m v => Sys2Proof.Machine.execCalRevert m v s
  | .bptSave m v => Sys2Proof.Machine.execBptSave m v s
  | .hdrCommit m v => Sys2Proof.Machine.execHdrCommit m v s
  | .nvmWriteDone ok => Sys2Proof.Machine.execNvmWriteDone ok s
  | .counterWrite => Sys2Proof.Machine.execCounterWrite s
  | .eventDirectWrite => Sys2Proof.Machine.execEventDirectWrite s
  | .evtFlushCommand m v => Sys2Proof.Machine.execEvtFlushCommand m v s
  | .eventAgeLimit => Sys2Proof.Machine.execEventAgeLimit s
  | .eventFlushDone => Sys2Proof.Machine.execEventFlushDone s
  | .eventRetry => Sys2Proof.Machine.execEventRetry s
  | .eventLogScanDone ce ue => Sys2Proof.Machine.execEventLogScanDone s ce ue
  | .eventCursorWrite m v => Sys2Proof.Machine.execEventCursorWrite m v s
  | .eventWindowReady ce ue => Sys2Proof.Machine.execEventWindowReady s ce ue
  | .tokenRefill code => Sys2Proof.Machine.execTokenRefill code s
  | .laneBlockLockGained l remote => Sys2Proof.Machine.execLaneBlockLockGained l s remote
  | .extRefStreamLoss k => Sys2Proof.Machine.execExtRefStreamLoss k s
  | .configSpaceAccess cor bits => Sys2Proof.Machine.execConfigSpaceAccess cor bits s
  | .jtagDebugAccess act => Sys2Proof.Machine.execJtagDebugAccess act s
  | .nvmWordGroupDone => Sys2Proof.Machine.execNvmWordGroupDone s
  | .sleepRailFall rail => Sys2Proof.Machine.execSleepRailFall rail s
  | .wakeRailRise rail => Sys2Proof.Machine.execWakeRailRise rail s

end Sys2Proof.Machine
end

