-- ==== Sys2Proof/Machine/Pads.lean ====
section
/-! DEFINITION. What each pad group does in reset, in each power state and in a wake (R37 to R46, R50). -/
namespace Sys2Proof.Machine
open Sys2Proof

/-- The columns of the table of pad states (R37). -/
inductive PadPhase where
  | reset | run | quiet | standby | sleep | wake
  deriving DecidableEq, Repr

/-- The column in force: "reset" lasts to the end of the NVM load, "wake" from the wake's start to its release (R37, R93). -/
def State.padPhase (s : State) : PadPhase :=
  if s.aon.asleep then .sleep
  else if s.rst.wake || s.aon.waking then .wake
  else if s.inReset || !s.rst.loaded then .reset
  else if s.get PWR.PWR_CMD.STATE = pStandby then .standby
  else if s.get PWR.PWR_CMD.STATE = pQuiet then .quiet
  else .run

/-- What a pad does. -/
inductive Pad where
  /-- Terminated and not sampled; terminated without power; terminated and sampled. -/
  | terminated | unpowered | sampled
  /-- No RF output; a DAC clocked at zero code; RF as the slots have it. -/
  | noRf | noRfUnpowered | zeroCode | perSlot
  /-- High impedance; driven low; floating; electrical idle. -/
  | highZ | highZUnpowered | low | floats | idle
  /-- As the block's registers and protocol command; a link without streams. -/
  | perPage | linkOnly
  /-- Released by an open-drain driver. -/
  | released
  /-- Not defined until a power-on reset. -/
  | undefined
  deriving DecidableEq, Repr

/-- An open-drain line: low, or released. -/
def openDrain (low : Bool) : Pad := if low then .low else .released

/-- A receive ball: sampled in RUN and QUIET, after a wake from the first calibration on (R37). -/
def State.rxPad (s : State) (c : Nat) : Pad :=
  match s.padPhase with
  | .reset | .standby | .wake => .terminated
  | .sleep => .unpowered
  | .run | .quiet =>
    if s.aon.padsHeld && !tbit (s.get (CNV.CAL_STAT.FG_DONE (c / 4))) (c % 4) then .terminated else .sampled

/-- A transmit ball: RF only in RUN, through the permit gate (R37, R54). -/
def State.txPad (s : State) (p : Nat) : Pad :=
  match s.padPhase with
  | .reset | .standby | .wake => .noRf
  | .sleep => .noRfUnpowered
  | .quiet => .zeroCode
  | .run => if s.portOpen p then .perSlot else .noRf

/-- An RFFE bus: SCLK, SDATA and VIO (R37). -/
def State.rffePad (s : State) : Pad :=
  match s.padPhase with
  | .reset => .low
  | .run | .quiet | .standby => .perPage
  | .sleep | .wake => .floats

/-- A monitor input (R37). -/
def State.monPad (s : State) : Pad :=
  match s.padPhase with
  | .reset | .wake => .highZ
  | .sleep => .highZUnpowered
  | .run | .quiet | .standby => .sampled

/-- The transmit pairs of PCIe and Chicory (R37). -/
def State.serdesPad (s : State) : Pad :=
  match s.padPhase with
  | .reset => .idle
  | .run | .quiet => .perPage
  | .standby => .linkOnly
  | .sleep | .wake => .floats

/-- MISO and TDO (R37). -/
def State.misoPad (s : State) : Pad :=
  match s.padPhase with
  | .reset => .highZ
  | .run | .quiet | .standby => .perPage
  | .sleep | .wake => .floats

/-- QSPI drives only while Tansy boots before the NVM load has ended (R37). -/
def State.qspiPad (s : State) : Pad :=
  match s.padPhase with
  | .reset => if s.tansy.reading != 0 then .perPage else .highZ
  | .run | .quiet | .standby => .perPage
  | .sleep | .wake => .floats

/-- The acknowledge bit of a matching address byte: it ends before the clock moves on. (DESIGN CHOICE: log 69) -/
def State.ackBit (s : State) : Bool := s.aon.wakeAck && s.now == s.aon.ackAt

/-- I2C_SDA: outside RUN to STANDBY, and in a SLEEP entry, it is low for the acknowledge bit of a matching address byte alone (R37, R44,
R91). -/
def State.sdaPad (s : State) : Pad :=
  match s.padPhase with
  | .reset => .released
  | .sleep | .wake => openDrain s.ackBit
  | .run | .quiet | .standby => if s.i2cAnswers then .perPage else openDrain s.ackBit

/-- CLKREQ_N, PMB_SCL, PMB_SDA and the AVS outputs (R37). -/
def State.sidePad (s : State) : Pad :=
  match s.padPhase with
  | .reset => .released
  | .run | .quiet | .standby => .perPage
  | .sleep | .wake => .floats

/-- ERR_N, SEC_ALARM_N and INT_N: low, or released (R37, R46). -/
def State.errPad (s : State) : Pad := openDrain s.errNLow
def State.alarmPad (s : State) : Pad := openDrain s.secAlarmNLow
def State.intPad (s : State) (m : Nat) : Pad := openDrain (s.intNLow m)

/-- A FE_CTL line: low, high or high impedance as 0, 1 or 2, latched in SLEEP and until the release; none once VIO18 has left its range in
SLEEP (R37, R38, R40, R42, R43). -/
def State.fePad (s : State) (l : Nat) : Option Nat := if s.aon.feLost then none else some (s.ball l)

/-- A bias output, as code and span: held by the latch; else clamped to the safe end of the default span while a chip reset lasts and up to
the end of the NVM load; else as its channel has it. None while a bias rail is out of its range, or once one left it in SLEEP
(R37, R39, R41, R43, R50). -/
def State.biasPad (s : State) (c : Nat) : Option (Nat × Nat) :=
  if s.aon.biasLost || s.board.supLow / 512 % 4 != 0 then none
  else if s.aon.padsHeld then
    let h := Tab.get 0x30000 s.aon.biasHeld c
    some (bits h 0 16, bits h 16 2)
  else if s.inReset || !s.rst.loaded then some (s.safeEnd c, 3)
  else some (s.get (bCode c), s.get (bSpan c))

end Sys2Proof.Machine
end

