-- ==== Sys2Proof/Safety.lean ====
section
/-! DEFINITION. The terms in which the statements are made: what it is for a command to answer, what a command leaves, and the
forms that a sound state keeps. -/
namespace Sys2Proof.Machine
open Sys2Proof

/-- A command answers a next state of which `P` holds. -/
def Answers (c : Instr) (s : State) (P : State → Prop) : Prop := ∃ t, exec c s = .next t ∧ P t

/-- A command answers a next state: one of which `P` holds, in which the sources HELD and PROT_MUTE have then followed the
slots (R444). -/
def AnswersSettled (c : Instr) (s : State) (P : State → Prop) : Prop := ∃ t, exec c s = .next t.settle ∧ P t

/-- A command answers the state that a shared operation `g` (a source that fires, a clock that follows) makes of one of which `P`
holds. -/
def AnswersVia (c : Instr) (s : State) (g : State → State) (P : State → Prop) : Prop := ∃ t, exec c s = .next (g t) ∧ P t

/-- The fabric comes to a verdict on a write that a master sends while nothing is due in the ownership of the part (R6, R101, R116, R123,
R125 to R127). -/
abbrev State.verdict (s : State) (m : Master) (a : Nat) (v : Word) (fs : List Fld) (ok : Bool) (w : Verdict) : Prop :=
  s.ownCalm = true ∧ s.judge m a v fs ok = w

/-- The fabric takes a write: the master has access and rights, the page is on, and every value is a listed one (R6, R101,
R125 to R127). -/
abbrev State.takes (s : State) (m : Master) (a : Nat) (v : Word) : Prop := s.verdict m a v (fieldsAt a) true .take

/-- A master reaches the fabric while nothing is due in the ownership of the part (R101, R116, R123). -/
abbrev State.reaches (s : State) (m : Master) : Prop := s.ownCalm = true ∧ s.canAccess m = true

/-- An occurrence of a source will fire alone: its page is on, no reset shadow covers it, its status bit is clear, and no permit stands
that the terminal latch withdraws (R299, R340, R350, R357). -/
abbrev State.armed (s : State) (p b : Nat) : Prop :=
  s.canFire p b = true ∧ s.shadowed p b = false ∧ s.gated p b = false ∧ (s.flag FLT.TERM.SET && s.flag GOV.PERMIT.PERMIT) = false

/-- A source that fires neither resets anything, nor traps, nor moves the bias outputs, nor sets the terminal latch, and no permit stands
that the latch withdraws (R299, R341, R342). -/
abbrev State.mild (s : State) (p b : Nat) : Prop :=
  s.srcReact p b % 8 = 0 ∧ s.srcReact p b < 16 ∧ s.srcCls p b < 4 ∧ (s.flag FLT.TERM.SET && s.flag GOV.PERMIT.PERMIT) = false

/-- So many further records find places and numbers in the recorder (R408, R412). -/
abbrev State.hasRoom (s : State) (n : Nat) : Prop :=
  s.evt.buf.length + n ≤ 256 ∧ ∀ k < n, (s.get EVT.LAST.SEQ + k) % 2 ^ 32 ≠ 0xFFFFFFFE

/-- Every register field but those under the given keys reads as before. -/
def Keeps (s t : State) (keys : List Nat) : Prop := ∀ f : Fld, f.key ∉ keys → t.get f = s.get f

/-- The register file is in canonical order: its keys rise strictly, so that equal register files are equal data. -/
abbrev State.regsRise (s : State) : Prop := s.reg.Pairwise fun a b => a.1 < b.1

end Sys2Proof.Machine
end

