-- ==== Sys2Proof/Certificates/Slice0/Obligations.lean ====
section
/-! DEFINITION. The statements for the provers: what the block's commands do, what a step keeps, and what it leaves. -/

open Sys2Proof Sys2Proof.Machine

/-- A step takes the command at the front of the queue and is exec of it on the state with the queue's rest; with an empty queue
the model's clock goes on by one tick, and inside a reset nothing else changes (the model's choice, log entry 1). (INDEX.md,
00_scope.md) -/
def Obligations.StepRunsFront : Prop :=
  (∀ (s : State) (c : Instr) (rest : List Instr), s.pending = c :: rest → step s = exec c { s with pending := rest }) ∧
  (∀ s : State, s.pending = [] → step s = .next ({ s with now := s.now + 1 } : State).due) ∧
  (∀ s : State, s.pending = [] → s.inReset = true → step s = .next { s with now := s.now + 1 })

/-- Every command of the opcode table, whatever its operands, answers a next state in every state: none ends in a fault or a
refusal, an event whose conditions are not met leaving the part as it is. (INDEX.md, 00_scope.md) -/
def Obligations.EveryCommandCompletes : Prop :=
  ∀ (c : Instr) (s : State), ∃ t, exec c s = .next t

/-- In State.reset every register field reads the reset value of its description: the active profile is Balanced, of the reset
causes AON_POR alone is set, the engine rails are commanded to 0.750 V, and no slot is enabled; no command waits. (R20, R56,
R71, R157, R299) -/
def Obligations.ResetFields : Prop :=
  (∀ f : Fld, State.reset.get f = f.rst) ∧
    State.reset.get IDN.PROFILE.ACTIVE = 1 ∧ State.reset.get PWR.RESET_CAUSE.AON_POR = 1 ∧
    State.reset.get PWR.RESET_CAUSE.CHIP_POR = 0 ∧ (∀ k, State.reset.get (PWR.ENG_RAIL.VTARGET k) = 0x1E) ∧
    (∀ i, State.reset.get (SLP.SLOT_STAT.STATE i) = 0) ∧ State.reset.get GOV.PERMIT.PERMIT = 0 ∧
    State.reset.pending = [] ∧ State.reset.active = []

/-- From every state whose register file is in canonical order (its keys rise strictly), a step answers a next state whose
register file is in canonical order, whatever the command. (00_scope.md, 05_control_ownership.md) -/
def Obligations.RegistersRise : Prop :=
  ∀ s t : State, s.regsRise → step s = .next t → t.regsRise

/-- State.reset has its register file in canonical order. (00_scope.md) -/
def Obligations.ResetRises : Prop :=
  State.reset.regsRise

/-- AON_POWER_ON_RESET answers a state in which a reset is in force, no slot is enabled and the stored events and the one-time-
programmable memory are as before; every register field reads its reset value, where VDD_AON has fallen below 0.4 V, and
otherwise every field but FLT.TERM and its copy in PWR.RESET_CAUSE.TERMINAL, FLT.TERM reading as before.
(03_power_clocks_islands.md, R52, R56) -/
def Obligations.AonPowerOnResetRestarts : Prop :=
  ∀ (s : State) (below : Bool), Answers (.aonPowerOnReset below) s fun t =>
    t.rst.aon = true ∧ t.inReset = true ∧ t.active = [] ∧ t.otp = s.otp ∧ t.evt.store = s.evt.store ∧
    (below = true → ∀ f : Fld, t.get f = f.rst) ∧
    (below = false → ∀ f : Fld, f.lo < 32 → f.key ≠ PWR.RESET_CAUSE.TERMINAL.key →
      t.get f = if f.addr = 0x4070 then s.get f else f.rst)

/-- CHIP_POWER_ON_RESET outside SLEEP, PIN_RESET outside every reset, and POWER_FAIL_RESET_START at the end of the power-fail
sequence, each answer a state in which the reset is in force, its bit of PWR.RESET_CAUSE is set and the other cause bits are
as before, no slot is enabled, every register field outside the ones that I00 and the NVM keep reads its reset value, and the
one-time-programmable memory and the event store are as before; the event buffer is kept by all but the chip power-on reset.
(03_power_clocks_islands.md, R52, R54, R56, R76) -/
def Obligations.ChipResetsReach : Prop :=
  (∀ (s : State) (r : Fin 4), s.porArmed = true → s.pfRuns = false → Answers (.chipPowerOnReset r) s fun t =>
    t.rst.por = true ∧ t.get PWR.RESET_CAUSE.CHIP_POR = 1 ∧ t.evt.buf = [] ∧ t.active = [] ∧ t.otp = s.otp ∧
    t.evt.store = s.evt.store ∧
    (∀ f : Fld, f.lo < 32 → f.key ≠ PWR.RESET_CAUSE.CHIP_POR.key → t.get f = if keptAddr f.addr then s.get f else f.rst)) ∧
  (∀ s : State, s.inReset = false → s.pfRuns = false → Answers .pinReset s fun t =>
    t.rst.pin = true ∧ t.get PWR.RESET_CAUSE.PIN = 1 ∧ t.evt.buf = s.evt.buf ∧ t.active = [] ∧ t.otp = s.otp ∧
    t.evt.store = s.evt.store ∧
    (∀ f : Fld, f.lo < 32 → f.key ≠ PWR.RESET_CAUSE.PIN.key → t.get f = if keptAddr f.addr then s.get f else f.rst)) ∧
  (∀ s : State, s.pfRuns = true → s.nvm.group = false → s.rst.faultWaits = false → Answers .powerFailResetStart s fun t =>
    t.rst.pfail = true ∧ t.rst.pf = .held ∧ t.get PWR.RESET_CAUSE.PFAIL = 1 ∧ t.evt.buf = s.evt.buf ∧ t.active = [] ∧ t.otp = s.otp ∧
    (∀ f : Fld, f.lo < 32 → f.key ≠ PWR.RESET_CAUSE.PFAIL.key → t.get f = if keptAddr f.addr then s.get f else f.rst))

/-- CHIP_POR_RELEASE, PIN_RESET_RELEASE, FAULT_RESET_RELEASE and POWER_FAIL_RESET_RELEASE each answer a state in which their
reset is no longer in force; where REFCLK has edges, it was the only one, and no thermal trip raised it, the straps are
sampled from the board, REF_OK reads 1 and the NVM load has still to end; WAKE_RESET_RELEASE with every monitored rail
present ends the wake reset and sets RESET_CAUSE.WAKE. (03_power_clocks_islands.md, R34, R53, R57, R77, R93) -/
def Obligations.ResetsRelease : Prop :=
  (∀ s : State, s.rst.por = true → s.aon.trip = false → s.board.refclk = true → Answers .chipPorRelease s fun t => t.rst = { s.rst with por := false, aon := false } ∧
    (s.rst.pin = false → s.rst.fault = false → s.rst.pfail = false → s.rst.wake = false → s.aon.asleep = false →
      t.straps = s.board.straps ∧ t.inReset = false)) ∧
  (∀ s : State, s.board.refclk = true → Answers .pinResetRelease s fun t => (s.aon.trip = false → t.rst = { s.rst with pin := false, pinInPf := false }) ∧ t.board.resetN = true ∧
    (s.rst.pin = true → s.rst.por = false → s.rst.aon = false → s.rst.fault = false → s.rst.pfail = false → s.rst.wake = false →
      s.aon.asleep = false → s.aon.trip = false → t.straps = s.board.straps ∧ t.inReset = false)) ∧
  (∀ s : State, s.rst.fault = true → s.aon.trip = false → s.board.refclk = true → Answers .faultResetRelease s fun t => t.rst = { s.rst with fault := false } ∧
    (s.rst.por = false → s.rst.aon = false → s.rst.pin = false → s.rst.pfail = false → s.rst.wake = false → s.aon.asleep = false →
      t.straps = s.board.straps ∧ t.inReset = false)) ∧
  (∀ s : State, s.rst.pf = .held → s.board.railsLow = 0 → s.aon.trip = false → s.board.refclk = true → Answers .powerFailResetRelease s fun t =>
    t.rst = { s.rst with pfail := false, pf := .idle } ∧ t.board.pfailN = true ∧
    (s.rst.pfail = true → s.rst.por = false → s.rst.aon = false → s.rst.pin = false → s.rst.fault = false → s.rst.wake = false →
      s.aon.asleep = false → t.straps = s.board.straps ∧ t.inReset = false)) ∧
  (∀ s : State, s.rst.wake = true → s.board.railsLow = 0 → s.board.refclk = true → Answers .wakeResetRelease s fun u =>
    u.rst.wake = false ∧ u.get PWR.RESET_CAUSE.WAKE = 1 ∧ u.aon.waking = false)

/-- SUPPLY_RAIL_LOW of a rail that feeds islands, outside every reset, answers with SUPPLY_LOW raised from a state in which each
island of the rail reads PWR_ON = 0 and waits for a new request; SUPPLY_RAIL_PRESENT answers a state in which the rail is no
longer low and each of its islands still waits for a new request; SLEEP_RAIL_FALL and WAKE_RAIL_RISE only mark the rail, and
in SLEEP what its loss costs. (R43, R93, R445, R452) -/
def Obligations.SupplyMonitors : Prop :=
  (∀ (s : State) (r : Fin 11), r.val < 9 → s.inReset = false → s.holds 0x02 PWR.src.SUPPLY_LOW = false →
    AnswersVia (.supplyRailLow r) s (fun u => (u.condBegin 0x02 PWR.src.SUPPLY_LOW {}).settle) fun u =>
      u.board = { s.board with supLow := setBit s.board.supLow r.val } ∧
      ∀ n < 48, tbit (islandRails n) r.val = true → u.powered n = false ∧ n ∈ u.needReq) ∧
  (∀ (s : State) (r : Fin 11), r.val < 9 → s.inReset = false → tbit s.board.supLow r.val = true →
    AnswersSettled (.supplyRailPresent r) s fun u =>
      u.board = { s.board with supLow := clrBit s.board.supLow r.val } ∧ ∀ n < 48, tbit (islandRails n) r.val = true → n ∈ u.needReq) ∧
  (∀ (s : State) (r : Fin 4), s.porArmed = false →
    (Answers (.sleepRailFall r) s fun u => u = { s with board := u.board, aon := u.aon } ∧
      u.board = { s.board with railsLow := setBit s.board.railsLow r.val } ∧
      u.aon = if s.aon.asleep = true then { s.aon with feLost := s.aon.feLost || r.val == 1, i2cLost := s.aon.i2cLost || r.val == 2 } else s.aon) ∧
    (Answers (.wakeRailRise r) s fun u => u.board = { s.board with railsLow := clrBit s.board.railsLow r.val } ∧ u.rst = s.rst ∧ Keeps s u []))

/-- REFCLK_FAULT of a lost REFCLK, or once the oscillator is trimmed of one more than 4.5 % off, answers a state in which REF_OK
is 0, whatever its sources' reactions do, and of one within 4.5 % shows the deviation alone; REFCLK_RETURN outside every
reset, of a REFCLK less than 5.5 % off or before the trim, answers a state in which REF_OK is 1, DEV is the deviation
measured, and every enabled PLL reads LOCK = 1, from which the permit and the clocks then follow. (R58, R60) -/
def Obligations.ReferenceMonitor : Prop :=
  (∀ (s : State) (lost : Bool) (dev : BitVec 16), s.inReset = false →
    (lost = true ∨ (s.flag CLK.OSC_STAT.TRIMMED = true ∧ s.board.refclk = true ∧ 450 < devSize dev.toNat)) →
    Answers (.refclkFault lost dev) s fun t => t.get CLK.OSC_STAT.REF_OK = 0) ∧
  (∀ (s : State) (dev : BitVec 16), s.inReset = false → s.board.refclk = true → devSize dev.toNat ≤ 450 →
    AnswersSettled (.refclkFault false dev) s fun u => u.get CLK.OSC_STAT.DEV = dev.toNat ∧ Keeps s u [CLK.OSC_STAT.DEV.key]) ∧
  (∀ (s : State) (dev : BitVec 16), s.inReset = false → (s.flag CLK.OSC_STAT.TRIMMED = false ∨ devSize dev.toNat < 550) →
    AnswersVia (.refclkReturn dev) s (fun u => u.updPermit.syncClocks.settle) fun u =>
      u.get CLK.OSC_STAT.REF_OK = 1 ∧ u.get CLK.OSC_STAT.DEV = dev.toNat ∧ u.holds 0x03 CLK.src.REFCLK_FAULT = false ∧
      (∀ p < 7, s.flag (CLK.PLL_CTL.EN p) = true → u.get (CLK.PLL_CTL.LOCK p) = 1) ∧
      ∀ n < 48, u.get (CLK.ISL_CLK.SRC_NOW n) = s.get (CLK.ISL_CLK.SRC_NOW n))

/-- PLL_ENABLE taken by the fabric sets EN as written unless it would stop a PLL from which an island runs, and then leaves EN as
it was; PLL_LOCKED sets LOCK of an enabled PLL while REFCLK is within tolerance; PLL_UNLOCK of a locked, enabled PLL raises
PLL_UNLOCK from a state in which LOCK is 0, UNLOCK_SEEN is 1 and no island of that PLL has it as its source. (R61, R62) -/
def Obligations.PllCommands : Prop :=
  (∀ (s : State) (m : Master) (p : Fin 7) (v : Word), s.takes m (0x3080 + 4 * p.val) v →
    AnswersSettled (.pllEnable m p v) s fun u =>
      u.get (CLK.PLL_CTL.EN p) =
        if s.flag (CLK.PLL_CTL.EN p) = true ∧ v.toNat % 2 = 0 ∧ s.pllUsed p = true then 1 else v.toNat % 2) ∧
  (∀ (s : State) (p : Fin 7), s.inReset = false → s.flag (CLK.PLL_CTL.EN p) = true → s.flag CLK.OSC_STAT.REF_OK = true →
    Answers (.pllLocked p) s fun t => t.get (CLK.PLL_CTL.LOCK p) = 1) ∧
  (∀ (s : State) (p : Fin 7), s.inReset = false → s.flag (CLK.PLL_CTL.EN p) = true → s.flag (CLK.PLL_CTL.LOCK p) = true →
    AnswersVia (.pllUnlock p) s (fun u => (u.syncClocks.fire 0x03 CLK.src.PLL_UNLOCK {}).settle) fun u =>
      u.get (CLK.PLL_CTL.LOCK p) = 0 ∧ u.get (CLK.PLL_CTL.UNLOCK_SEEN p) = 1 ∧
      ∀ n < 48, pllOf n = some p.val → u.get (CLK.ISL_CLK.SRC_NOW n) ≠ 1)

/-- ISLAND_CLOCK_WRITE taken by the fabric: where a cause of refusal holds, REFUSE names it and every other register field is as
before; otherwise SRC and SRC_NOW take the source written and REFUSE reads 0, and the clocks and the link follow. (R63, R64) -/
def Obligations.IslandClockWrites : Prop :=
  ∀ (s : State) (m : Master) (n : Fin 48) (v : Word),
    s.verdict m (0x3100 + 4 * n.val) v (clockFlds n) true .take →
    AnswersVia (.islandClockWrite m n v) s (fun u =>
      if s.clockCause n ((CLK.ISL_CLK.SRC n).of v) ((CLK.ISL_CLK.DIV_REQ n).of v) ≠ 0 then u.settle else u.syncClocks.followLink.settle) fun u =>
      if s.clockCause n ((CLK.ISL_CLK.SRC n).of v) ((CLK.ISL_CLK.DIV_REQ n).of v) ≠ 0 then
        u.get (CLK.ISL_CLK.REFUSE n) = s.clockCause n ((CLK.ISL_CLK.SRC n).of v) ((CLK.ISL_CLK.DIV_REQ n).of v) ∧
          Keeps s u [(CLK.ISL_CLK.REFUSE n).key]
      else u.get (CLK.ISL_CLK.SRC n) = (CLK.ISL_CLK.SRC n).of v ∧ u.get (CLK.ISL_CLK.SRC_NOW n) = (CLK.ISL_CLK.SRC n).of v ∧
        u.get (CLK.ISL_CLK.REFUSE n) = 0

/-- HANDSHAKE_DETECTOR_TRIP, of the temperature kind where the sensors of an island of a channel lie beyond 240 of R68's limit,
and where its source is armed, not already held, its record finds room and it has neither a chip reset nor a block reset nor
bias safe nor a trap among its reactions, answers with the source's bit of CLK.IRQ_STAT set; HS_PARITY of an active slot's
word counts one invalid sample, raises INVALID and restarts the slot's estimator before its own source fires, and of no
active slot, where its source is armed and unmasked with chip reset among its reactions, and neither a region write nor the
power-fail sequence runs nor another chip reset waits, answers with a fault chip reset in force, its cause set and FAULT_PAGE
naming page CLK. (R68, R340, R344) -/
def Obligations.ChannelDetectors : Prop :=
  (∀ (s : State) (k : HsKind), (k = .temp → s.hsBeyond 240 = true) → s.holds 0x03 (hsBit k) = false → s.armed 0x03 (hsBit k) → s.srcReact 0x03 (hsBit k) % 8 = 0 →
    s.srcReact 0x03 (hsBit k) < 16 → s.srcCls 0x03 (hsBit k) < 4 → s.hasRoom 1 →
    AnswersSettled (.handshakeDetectorTrip k) s fun u => tbit (u.get (HDR.IRQ_STAT.BITS 0x03)) (hsBit k) = true) ∧
  (∀ (s : State) (i : Fin 512), i.val ∈ s.active →
    AnswersVia (.hsParity i) s (fun u => (((u.fire (0x40 + i / 8) SLP.src.INVALID { slot := some i.val }).obsReset i).fire 0x03 CLK.src.HS_PARITY {}).settle)
      fun u => u.get (SLP.SLOT_CNT.INVALID i) = satAdd 16 (s.get (SLP.SLOT_CNT.INVALID i)) 1 % 2 ^ 16 ∧
        Keeps s u [(SLP.SLOT_CNT.INVALID i).key]) ∧
  (∀ (s : State) (i : Fin 512), i.val ∉ s.active → s.armed 0x03 CLK.src.HS_PARITY → s.masked 0x03 CLK.src.HS_PARITY = false →
    tbit (s.srcReact 0x03 CLK.src.HS_PARITY) 2 = true → s.pfRuns = false → s.nvm.group = false → s.rst.faultWaits = false →
    AnswersSettled (.hsParity i) s fun u =>
      u.rst.fault = true ∧ u.get PWR.RESET_CAUSE.FAULT = 1 ∧ u.get PWR.RESET_CAUSE.FAULT_PAGE = 3 ∧ u.active = [])

/-- POWER_STATE_REQUEST taken by the fabric while no transition runs: naming the state in force it changes no register; with a
veto it answers, PWR_REFUSED raised, from a state in which REFUSE_CNT has counted, REFUSER names the veto, the state asked
for and no abort, and BUSY and STATE are as before; otherwise REQ takes the state asked for, BUSY is 1 and the transition
begins, and a transition that leaves RUN sets HOLD.POWER on every enabled slot. (R83, R84, R85, R86, R158) -/
def Obligations.PowerStateRequests : Prop :=
  ∀ (s : State) (m : Master) (v : Word), s.takes m 0x2040 v → s.flag PWR.PWR_CMD.BUSY = false →
    (s.get PWR.PWR_CMD.STATE = v.toNat % 4 → AnswersSettled (.powerStateRequest m v) s fun u => Keeps s u []) ∧
    (s.get PWR.PWR_CMD.STATE ≠ v.toNat % 4 → ∀ c, s.pwrVeto = some c →
      AnswersVia (.powerStateRequest m v) s
        (fun u => (u.fire 0x02 PWR.src.PWR_REFUSED { master := m.num, detail := u.pwrDetail (v.toNat % 4) }).settle) fun u =>
        u.get PWR.REFUSE_CNT.COUNT = satAdd 16 (s.get PWR.REFUSE_CNT.COUNT) 1 % 2 ^ 16 ∧ u.get PWR.REFUSER.CODE = c % 256 ∧
        u.get PWR.REFUSER.REQ_STATE = v.toNat % 4 ∧ u.get PWR.REFUSER.ABORT = 0 ∧
        Keeps s u [PWR.REFUSE_CNT.COUNT.key, PWR.REFUSER.CODE.key, PWR.REFUSER.REQ_STATE.key, PWR.REFUSER.ABORT.key]) ∧
    (s.get PWR.PWR_CMD.STATE ≠ v.toNat % 4 → s.pwrVeto = none →
      AnswersSettled (.powerStateRequest m v) s fun u =>
        u.get PWR.PWR_CMD.REQ = v.toNat % 4 ∧ u.get PWR.PWR_CMD.BUSY = 1 ∧ u.get PWR.PWR_CMD.STATE = s.get PWR.PWR_CMD.STATE ∧
        u.tr = some { origin := s.get PWR.PWR_CMD.STATE, target := v.toNat % 4, at_ := s.now, phase := 0 } ∧
        (s.get PWR.PWR_CMD.STATE = 0 → ∀ i ∈ s.enabled, tbit (u.get (SLP.SLOT_STAT.HOLD i)) hPower = true))

/-- Each step of an entry, at its place in the transition, has its effect: LEAVING_RUN_RAMP_START, from 20 µs, ramps every slot
under HOLD.POWER to silence within 65 of its samples; QUIET_ENTERED, once every slot is silent, and STANDBY_ENTERED raise
PWR_DONE from a state in which STATE is the state entered, BUSY is 0 and no transition runs, the synthesisers of STANDBY
reading READY, LOCK and CONV_RDY as 0; STANDBY_GATING, once the slots are silent and no engine holds a job, stops every
sequencer and freezes the bias limiters where they are not frozen yet; PAD_LATCH_CLOSE closes both pad latches;
SLEEP_FLUSH_CUT stops the flush and notes it; SLEEP_ISOLATION puts the part asleep with every register but those of I00 and
the NVM at its reset value, and the wake cause, the pad release, the alarm level and the power-cycle count as they were, or
wakes it at once where a wake event was latched; POWER_TRANSITION_ABORT raises PWR_REFUSED from a state in which BUSY is 0,
REQ names the state left, and REFUSER carries the code and ABORT; POWER_EXIT_BOUNDARY, not before 20 µs, raises PWR_DONE from
a state in which STATE is the target, after which the slots resume in RUN and the held ADAPT jobs run in QUIET;
STANDBY_EXIT_CAL_DONE, where no channel change is recorded, or where CHG_DONE resets nothing and its records find room,
applies every recorded channel change, and leaves its chiplet and every one that ran READY. (R40, R79, R80, R85, R86, R87,
R89, R91) -/
def Obligations.PowerStateEntry : Prop :=
  (∀ (s : State) (t : PwrTr), s.tr = some t → s.resetting 0x02 = false → t.origin = 0 → t.target ≠ 0 → t.phase = 0 →
    AnswersSettled .leavingRunRampStart s fun u => u.tr = some { t with phase := 1 } ∧ t.at_ + us 20 ≤ u.now ∧
      ∀ i ∈ s.enabled, tbit (s.get (SLP.SLOT_STAT.HOLD i)) hPower = true → (s.slot i).weight ≤ 64 →
        (u.slot i).weightAt (u.sampleT i) (u.now + 65 * u.sampleT i) = 0) ∧
  (∀ (s : State) (t : PwrTr), s.tr = some t → s.resetting 0x02 = false → t.origin = 0 → t.target = 1 → t.phase = 1 →
    AnswersVia .quietEntered s (fun u => (u.fire 0x02 PWR.src.PWR_DONE { detail := u.pwrDetail 1 }).settle) fun u =>
      u.get PWR.PWR_CMD.STATE = 1 ∧ u.get PWR.PWR_CMD.BUSY = 0 ∧ u.tr = none ∧ s.allSilent ≤ u.now ∧
      Keeps s u [PWR.PWR_CMD.STATE.key, PWR.PWR_CMD.BUSY.key]) ∧
  (∀ (s : State) (t : PwrTr), s.tr = some t → s.resetting 0x02 = false → s.jobsOver = true → s.iced = false →
    (∀ i ∈ s.active, (s.slot i).badAt = none) → t.target = 2 ∨ t.target = 3 →
    (t.origin = 0 ∧ t.phase = 1) ∨ (t.origin = 1 ∧ t.phase = 0) →
    AnswersSettled .standbyGating s fun u => u.tr = some { t with phase := 3 } ∧ s.allSilent ≤ u.now ∧ u.iced = true ∧ ∀ k < 4, u.flag (FEC.SEQ_CTL.RUNNING k) = false) ∧
  (∀ (s : State) (t : PwrTr), s.tr = some t → s.resetting 0x02 = false → t.target = 3 → t.phase = 3 ∨ (t.origin = 2 ∧ t.phase = 0) →
    Answers .padLatchClose s fun u => u.tr = some { t with phase := 4 } ∧ u.aon.padsHeld = true ∧
      u.get PWR.PAD_RELEASE.FE_HELD = 1 ∧ u.get PWR.PAD_RELEASE.BIAS_HELD = 1 ∧
      Keeps s u [PWR.PAD_RELEASE.FE_HELD.key, PWR.PAD_RELEASE.BIAS_HELD.key]) ∧
  (∀ (s : State) (t : PwrTr), s.tr = some t → s.resetting 0x02 = false → t.target = 2 → t.phase = 3 →
    AnswersVia .standbyEntered s (fun u => (u.fire 0x02 PWR.src.PWR_DONE { detail := u.pwrDetail 2 }).settle) fun u =>
      u.get PWR.PWR_CMD.STATE = 2 ∧ u.get PWR.PWR_CMD.BUSY = 0 ∧ u.tr = none ∧
      ∀ n < 8, u.get (SYN.SYN_STAT.READY n) = 0 ∧ u.get (SYN.SYN_STAT.LOCK n) = 0 ∧ u.get (SYN.SYN_STAT.CONV_RDY n) = 0) ∧
  (∀ s : State, s.latchedEntry = true → s.pfRuns = false → s.privCount ≠ 0 →
    Answers .sleepFlushCut s fun u => u.aon = { s.aon with flushCut := true } ∧ u.evt = { s.evt with flushing := false } ∧ Keeps s u []) ∧
  (∀ s : State, s.latchedEntry = true → s.pfRuns = false →
    Answers .sleepIsolation s fun u =>
      (s.aon.wakeLatch = 0 → u.aon.asleep = true ∧ u.active = [] ∧ u.aon.padsHeld = s.aon.padsHeld ∧
        (∀ f : Fld, f.lo < 32 → keptAddr f.addr = false → u.get f = f.rst) ∧
        ∀ f : Fld, f.lo < 32 → f.addr = 0x204C ∨ f.addr = 0x2050 ∨ f.addr = 0x8068 ∨ f.addr = 0x7098 → u.get f = s.get f) ∧
      (s.aon.wakeLatch ≠ 0 → u.aon.asleep = false ∧ u.rst.wake = true ∧ u.inReset = true)) ∧
  (∀ (s : State) (t : PwrTr) (c : BitVec 8), s.tr = some t → s.latchedEntry = false → c = 8 ∨ c = 9 ∨ c = 10 →
    AnswersVia (.powerTransitionAbort c) s
      (fun u => (u.fire 0x02 PWR.src.PWR_REFUSED { master := 7, detail := u.pwrDetail t.target }).settle) fun u =>
      u.get PWR.PWR_CMD.BUSY = 0 ∧ u.get PWR.PWR_CMD.REQ = t.origin % 4 ∧ u.tr = none ∧
      u.get PWR.PWR_CMD.STATE = s.get PWR.PWR_CMD.STATE ∧ u.get PWR.REFUSER.CODE = c.toNat ∧ u.get PWR.REFUSER.ABORT = 1) ∧
  (∀ (s : State) (t : PwrTr), s.tr = some t → s.resetting 0x02 = false → t.target < t.origin → t.target = 0 ∨ t.target = 1 →
    t.phase = 2 ∨ t.origin = 1 →
    AnswersVia .powerExitBoundary s
      (fun u => ((u.fire 0x02 PWR.src.PWR_DONE { detail := u.pwrDetail t.target }).exited t.target).settle) fun u =>
      t.at_ + us 20 ≤ u.now ∧ u.get PWR.PWR_CMD.STATE = t.target ∧ u.get PWR.PWR_CMD.BUSY = 0 ∧ u.tr = none ∧
      Keeps s u [PWR.PWR_CMD.STATE.key, PWR.PWR_CMD.BUSY.key]) ∧
  (∀ (s : State) (t : PwrTr), s.tr = some t → s.resetting 0x02 = false → t.origin = 2 → t.target = 0 ∨ t.target = 1 → t.phase = 0 →
    ((∃ n < 8, s.flag (SYN.SYN_STAT.PEND n) = true) → s.mild 0x0D SYN.src.CHG_DONE ∧ s.hasRoom 8) →
    AnswersSettled .standbyExitCalDone s fun u => u.tr = some { t with phase := 2 } ∧
      (∀ n < 8, s.flag (SYN.SYN_STAT.PEND n) = false → s.get (SYN.SYN_STAT.STEP n) = 8 → u.get (SYN.SYN_STAT.READY n) = 1 ∧
        u.get (SYN.SYN_STAT.LOCK n) = 1 ∧ u.get (SYN.SYN_STAT.CONV_RDY n) = 1 ∧ u.get (SYN.SYN_STAT.PLAN_NOW n) = s.get (SYN.SYN_STAT.PLAN_NOW n)) ∧
      ∀ n < 8, s.flag (SYN.SYN_STAT.PEND n) = true → u.get (SYN.SYN_STAT.PEND n) = 0 ∧ u.get (SYN.SYN_STAT.STEP n) = 8 ∧
        u.get (SYN.SYN_STAT.READY n) = 1 ∧ u.get (SYN.SYN_STAT.PLAN_NOW n) = s.get (SYN.SYN_CTL.PLAN n) % 4)

/-- I2C_WAKE_MATCH of the strapped address in SLEEP is acknowledged, begins the wake reset and names its cause, and of another
address, or with VIO33 lost, is not acknowledged; in the entry to SLEEP the strapped address is acknowledged and latched for
the entry's end; PAD_RELEASE with RELEASE = 1 opens the latches and makes its record. (R44, R91, R92, R93, R94, R95) -/
def Obligations.PowerStateExit : Prop :=
  (∀ (s : State) (a : BitVec 7), s.aon.asleep = true → a.toNat = s.i2cOwn → s.aon.i2cLost = false → Answers (.i2cWakeMatch a) s fun u => u.aon.asleep = false ∧ u.rst.wake = true ∧ u.ackBit = true ∧
    u.get PWR.WAKE_CAUSE.MATCH = 1 ∧ u.get PWR.WAKE_CAUSE.FROM_STATE = s.aon.fromState % 4) ∧
  (∀ (s : State) (a : BitVec 7), s.aon.asleep = true → a.toNat ≠ s.i2cOwn ∨ s.aon.i2cLost = true →
    Answers (.i2cWakeMatch a) s fun u => u = { s with aon := { s.aon with wakeAck := false } }) ∧
  (∀ (s : State) (a : BitVec 7) (t : PwrTr), s.aon.asleep = false → s.tr = some t → t.target = 3 → a.toNat = s.i2cOwn → s.aon.i2cLost = false →
    Answers (.i2cWakeMatch a) s fun u =>
      u.aon = { s.aon with wakeAck := true, ackAt := s.now, wakeLatch := setBit s.aon.wakeLatch 0 } ∧ u.ackBit = true ∧ Keeps s u []) ∧
  (∀ (s : State) (m : Master) (v : Word), s.takes m 0x2050 v →
    (v.getLsbD 0 = true → s.aon.padsHeld = false → AnswersVia (.padRelease m v) s (fun u => u.log (s.padRec m.num)) fun u => Keeps s u []) ∧
    (v.getLsbD 0 = true → s.aon.padsHeld = true → AnswersVia (.padRelease m v) s (fun u => u.log (s.padRec m.num)) fun u =>
      u.aon.padsHeld = false ∧ u.get PWR.PAD_RELEASE.FE_HELD = 0 ∧ u.get PWR.PAD_RELEASE.BIAS_HELD = 0) ∧
    (v.getLsbD 0 = false → Answers (.padRelease m v) s fun u => Keeps s u []))

/-- PROFILE_REQUEST taken by the fabric: naming the active profile while PENDING is 0 it changes no register; refused, it raises
PROF_REFUSED from a state in which REFUSE names the cause and OFFENDER the slot and nothing else has changed; accepted, REQ
takes the profile, PENDING is 1, REFUSE is 0 and the raising steps are to begin. (R20, R21, R22, R23, R24, R90, R449) -/
def Obligations.ProfileRequests : Prop :=
  ∀ (s : State) (m : Master) (v : Word), s.takes m 0x50 v →
    (s.get IDN.PROFILE.ACTIVE = v.toNat % 4 → s.flag IDN.PROFILE.PENDING = false →
      AnswersSettled (.profileRequest m v) s fun u => Keeps s u []) ∧
    ((s.get IDN.PROFILE.ACTIVE ≠ v.toNat % 4 ∨ s.flag IDN.PROFILE.PENDING = true) → ∀ c i, s.profRefusal (v.toNat % 4) = some (c, i) →
      AnswersVia (.profileRequest m v) s (fun u => (u.fire 0x00 IDN.src.PROF_REFUSED { master := m.num }).settle) fun u =>
        u.get IDN.PROFILE.REFUSE = c % 16 ∧ u.get IDN.PROFILE.OFFENDER = i % 512 ∧
        Keeps s u [IDN.PROFILE.REFUSE.key, IDN.PROFILE.OFFENDER.key]) ∧
    ((s.get IDN.PROFILE.ACTIVE ≠ v.toNat % 4 ∨ s.flag IDN.PROFILE.PENDING = true) → s.profRefusal (v.toNat % 4) = none →
      AnswersSettled (.profileRequest m v) s fun u =>
        u.get IDN.PROFILE.REQ = v.toNat % 4 ∧ u.get IDN.PROFILE.PENDING = 1 ∧ u.get IDN.PROFILE.REFUSE = 0 ∧
        u.get IDN.PROFILE.ACTIVE = s.get IDN.PROFILE.ACTIVE ∧ u.prof.target = v.toNat % 4 ∧ u.prof.phase = 1 ∧
        u.prof.begun = false ∧ u.prof.at_ = s.now)

/-- Each step of a profile change first begins the raising steps where they are due, and then: RAIL_RISE_CONFIRMED sets
VCONFIRMED to VTARGET and VCONF to 1; VRM_TIMEOUT raises its source from a state with REFUSE = TIMEOUT, in which a start-up
rise keeps its target and waits on and another rise has taken its previous target back or aborted the change with cause VRM;
PROFILE_COMMIT, at a common frame boundary at least 200 µs after the last step, makes the requested profile the active one
and starts a crossfade on every slot past its checks; PROFILE_CROSSFADE_END ends the slot's crossfade and sets its balancing
delay, and nothing else; PROFILE_DONE ends every crossfade, clears PENDING and raises PROF_DONE, or PROF_REFUSED after an
abort; CHANNEL_POWER_UP_DONE powers the channel. (R19, R24, R25, R72, R74, R449) -/
def Obligations.ProfileChange : Prop :=
  (∀ (r s : State) (k : Fin 4), s = r.profBegin → s.inReset = false → tbit s.board.supLow k.val = false → (s.rail k).rising = true →
    AnswersVia (.railRiseConfirmed k) r (fun u => u.applyDivs.profAdvance.settle) fun u =>
      u.get (PWR.ENG_RAIL.VCONFIRMED k) = s.get (PWR.ENG_RAIL.VTARGET k) % 256 ∧ (u.rail k).rising = false ∧
      Keeps s u [(PWR.ENG_RAIL.VCONFIRMED k).key, (PWR.ENG_RAIL.VCONF k).key]) ∧
  (∀ (r s : State) (k : Fin 4), s = r.profBegin → s.inReset = false → (s.rail k).rising = true → (s.rail k).raised = false →
    (s.rail k).late = false →
    AnswersVia (.vrmTimeout k) r (fun u => (u.fire 0x02 PWR.src.VRM_TIMEOUT {}).settle) fun u =>
      u.get (PWR.ENG_RAIL.REFUSE k) = 2 ∧ (u.rail k).rising = true ∧ (u.rail k).late = true ∧ Keeps s u [(PWR.ENG_RAIL.REFUSE k).key]) ∧
  (∀ (r s : State) (k : Fin 4), s = r.profBegin → s.inReset = false → (s.rail k).rising = true → (s.rail k).raised = true →
    AnswersVia (.vrmTimeout k) r (fun u => (u.fire 0x02 PWR.src.VRM_TIMEOUT {}).settle) fun u =>
      if s.prof.phase = 1 ∧ tbit s.prof.rails k = true then u.get IDN.PROFILE.REFUSE = 6 ∧ u.prof.phase = 4
      else u.get (PWR.ENG_RAIL.REFUSE k) = 2 ∧ u.get (PWR.ENG_RAIL.VTARGET k) = (s.rail k).prev % 256 ∧
        (u.rail k).rising = (s.rail k).startup ∧
        u.get (PWR.ENG_RAIL.VCONFIRMED k) = min (s.rail k).prev (s.get (PWR.ENG_RAIL.VCONFIRMED k)) % 256) ∧
  (∀ s : State, s.inReset = false → s.resetting 0x00 = false → s.prof.phase = 2 →
    AnswersVia .profileCommit s (fun u => ((u.applyDivs.commandAll (railTarget s.prof.target)).syncCap).settle) fun u =>
      u.get IDN.PROFILE.ACTIVE = s.prof.target % 4 ∧ u.prof.phase = 3 ∧ s.prof.ready + us 200 ≤ u.now ∧
      u.get IDN.PROFILE.PENDING = s.get IDN.PROFILE.PENDING ∧
      ∀ i ∈ s.active, s.get (SLP.SLOT_STAT.STATE i) ≠ stCheck → (u.slot i).xfadeProf = true) ∧
  (∀ (s : State) (i : Fin 512), (s.slot i).xfadeProf = true →
    Answers (.profileCrossfadeEnd i) s fun u => u.slot i = { s.slot i with xfadeProf := false } ∧
      (∀ j, j ≠ i.val → u.slot j = s.slot j) ∧
      u.get (SLP.LAT_STAT.BAL i) = s.balance i (s.get IDN.PROFILE.ACTIVE) (s.liveOf i).firLen % 2 ^ 16 ∧
      Keeps s u [(SLP.LAT_STAT.BAL i).key] ∧ u = { s with slots := u.slots, reg := u.reg, now := max s.now (s.slot i).xEnd }) ∧
  (∀ s : State, s.inReset = false → s.resetting 0x00 = false → s.prof.phase = 3 →
    AnswersVia .profileDone s (fun u => (u.trimChannels.fire 0x00 IDN.src.PROF_DONE {}).settle) fun u =>
      u.get IDN.PROFILE.PENDING = 0 ∧ u.prof.phase = 0 ∧ (∀ i ∈ s.active, (u.slot i).xfadeProf = false) ∧
      Keeps s u (IDN.PROFILE.PENDING.key :: s.active.map fun i => (SLP.LAT_STAT.BAL i).key)) ∧
  (∀ s : State, s.inReset = false → s.resetting 0x00 = false → s.prof.phase = 4 →
    AnswersVia .profileDone s (fun u => (u.trimChannels.fire 0x00 IDN.src.PROF_REFUSED {}).settle) fun u =>
      u.get IDN.PROFILE.PENDING = 0 ∧ u.prof.phase = 0 ∧ Keeps s u [IDN.PROFILE.PENDING.key]) ∧
  (∀ (r s : State) (n : Fin 8) (c : Fin 10) (k : Nat), k = chanNo n c → s = r.profBegin → s.inReset = false → k ∈ s.chanUp →
    AnswersVia (.channelPowerUpDone n c) r (fun u => u.profAdvance.settle) fun u =>
      (k < 64 → u.get (chanPwr k) = 1) ∧ k ∉ u.chanUp ∧ k ∉ u.chanDown)

/-- OWN_CLAIM taken with RELEASE = 0, while no heartbeat, election window or offer has run out: after the NVM load, while
ownership is vacant or in election, STATE is ELECTION, the claim with its nonce stands for the master, replacing an earlier
one, and nothing else of the register file changes; while STATE is OWNED or HANDOVER, or before the load, CLAIM_REFUSED is
raised with the register file unchanged. One that comes once the window is over finds its winner owner, and is refused.
(R116, R117, R118) -/
def Obligations.OwnershipClaims : Prop :=
  (∀ (s : State) (m : Master) (v : Word), s.takes m 0x1040 v → v.getLsbD 16 = false →
    s.beatOver = false → s.windowOver = false → s.offerOver = false →
    (s.rst.loaded = true → s.get OWN.OWN_STAT.STATE < 2 → AnswersSettled (.ownClaim m v) s fun u =>
      (s.get OWN.OWN_STAT.STATE = 0 → u.get OWN.OWN_STAT.STATE = 1 ∧ u.own.windowAt = s.now) ∧
      (∀ k, Tab.get 0 u.own.claims k = if k = m.num then v.toNat % 65536 else Tab.get 0 s.own.claims k) ∧
      Keeps s u [OWN.OWN_STAT.STATE.key]) ∧
    (s.rst.loaded = false ∨ 2 ≤ s.get OWN.OWN_STAT.STATE →
      AnswersVia (.ownClaim m v) s (fun u => (u.ownNote OWN.src.CLAIM_REFUSED m.num).settle) fun u => Keeps s u [] ∧ u.own = s.own)) ∧
  (∀ (s : State) (m : Master) (v : Word) (w n : Nat), s.ownDue.judge m 0x1040 v (fieldsAt 0x1040) true = .take → v.getLsbD 16 = false →
    s.inReset = false → s.windowOver = true → s.winner = some (w, n) → s.now < s.own.windowAt + ms 10 + ms (s.get OWN.BEAT_MAX.MS) →
    AnswersVia (.ownClaim m v) s (fun u => ((((u.mbxEpoch.ownNote OWN.src.OWN_CHANGED w).outcome m 0).breakKey m 0x1040).ownNote
        OWN.src.CLAIM_REFUSED m.num).settle) fun u =>
      u.own.beatAt = s.own.windowAt + ms 10 ∧
      u.get OWN.OWN_STAT.STATE = 2 ∧ u.get OWN.OWN_STAT.OWNER = w % 8 ∧ u.get OWN.OWN_STAT.NONCE = n % 65536 ∧ u.now = s.now)

/-- Where the claims stand in rising order of master, the winner of the election is one of the claims, no claim has a higher
MPRIO value, and a claim with the same value has no lower number. (R116) -/
def Obligations.ElectionWinner : Prop :=
  ∀ (s : State) (m n : Nat), s.own.claims.Pairwise (fun a b => a.1 < b.1) → s.winner = some (m, n) →
    (m, n) ∈ s.own.claims ∧ ∀ e ∈ s.own.claims, s.prio e.1 ≤ s.prio m ∧ (s.prio e.1 = s.prio m → m ≤ e.1)

/-- ELECTION_END makes the winner owner with its nonce, ten milliseconds after the window opened; OWN_RELEASE and OWNERSHIP_LAPSE
leave ownership vacant, and cancel an offer with RESULT = 4, while an offer whose time ended before the heartbeat's fails
with RESULT = 2 first; HANDOVER_ACCEPT at or after the end of the owner's heartbeat is refused after the lapse, and by the
target within the offer's time makes it owner with its nonce, RESULT = 1 and no target; each increments EPOCH, closes the
injection gate and restarts or drops the heartbeat, and leaves the slots, the delegation, the profile, the power state and
RF_STOP as they are. OWN_CHANGED, or LAPSED, then fires. (R116, R120, R121, R122, R123, R352) -/
def Obligations.OwnershipChanges : Prop :=
  (∀ (s : State) (m n : Nat), s.inReset = false → s.get OWN.OWN_STAT.STATE = 1 → s.winner = some (m, n) →
    AnswersVia .electionEnd s (fun u => (u.mbxEpoch.ownNote OWN.src.OWN_CHANGED m).settle) fun u =>
      u.get OWN.OWN_STAT.STATE = 2 ∧ u.get OWN.OWN_STAT.OWNER = m % 8 ∧ u.get OWN.OWN_STAT.NONCE = n % 65536 ∧
      u.get OWN.OWN_STAT.EPOCH = (s.get OWN.OWN_STAT.EPOCH + 1) % 256 ∧ u.get FLT.INJ.EN = 0 ∧ u.own.beatAt = s.own.windowAt + ms 10 ∧
      s.own.windowAt + ms 10 ≤ u.now ∧ u.slots = s.slots ∧
      Keeps s u [OWN.OWN_STAT.STATE.key, OWN.OWN_STAT.OWNER.key, OWN.OWN_STAT.NONCE.key, OWN.OWN_STAT.EPOCH.key, FLT.INJ.EN.key]) ∧
  (∀ (s : State) (m : Master) (v : Word), s.takes m 0x1040 v → v.getLsbD 16 = true →
    AnswersVia (.ownRelease m v) s (fun u => (u.mbxEpoch.ownNote OWN.src.OWN_CHANGED m.num).settle) fun u =>
      u.get OWN.OWN_STAT.STATE = 0 ∧ u.get OWN.OWN_STAT.OWNER = 7 ∧ u.get OWN.OWN_STAT.NONCE = 0 ∧
      u.get OWN.OWN_STAT.EPOCH = (s.get OWN.OWN_STAT.EPOCH + 1) % 256 ∧ u.get FLT.INJ.EN = 0 ∧
      (s.get OWN.OWN_STAT.STATE = 3 → u.get OWN.HANDOVER.RESULT = 4 ∧ u.get OWN.HANDOVER.TARGET = 7) ∧ u.slots = s.slots ∧
      Keeps s u [OWN.OWN_STAT.STATE.key, OWN.OWN_STAT.OWNER.key, OWN.OWN_STAT.NONCE.key, OWN.OWN_STAT.EPOCH.key, FLT.INJ.EN.key,
        OWN.HANDOVER.RESULT.key, OWN.HANDOVER.TARGET.key]) ∧
  (∀ s : State, s.inReset = false → 2 ≤ s.get OWN.OWN_STAT.STATE → s.offerFirst = true →
    AnswersVia .ownershipLapse s (fun u => ((u.ownNote OWN.src.HANDOVER_FAIL 7).lapseNow).settle) fun u =>
      u.get OWN.HANDOVER.RESULT = 2 ∧ u.get OWN.HANDOVER.TARGET = 7 ∧ s.own.beatAt + ms (s.get OWN.BEAT_MAX.MS) ≤ u.now ∧
      Keeps s u [OWN.OWN_STAT.STATE.key, OWN.HANDOVER.RESULT.key, OWN.HANDOVER.TARGET.key]) ∧
  (∀ s : State, s.inReset = false → 2 ≤ s.get OWN.OWN_STAT.STATE → s.offerFirst = false →
    AnswersVia .ownershipLapse s (fun u => (u.mbxEpoch.ownNote OWN.src.LAPSED 7).settle) fun u =>
      u.get OWN.OWN_STAT.STATE = 0 ∧ u.get OWN.OWN_STAT.OWNER = 7 ∧ u.get OWN.OWN_STAT.NONCE = 0 ∧
      u.get OWN.OWN_STAT.EPOCH = (s.get OWN.OWN_STAT.EPOCH + 1) % 256 ∧ s.own.beatAt + ms (s.get OWN.BEAT_MAX.MS) ≤ u.now ∧
      (s.get OWN.OWN_STAT.STATE = 3 → u.get OWN.HANDOVER.RESULT = 4 ∧ u.get OWN.HANDOVER.TARGET = 7) ∧ u.slots = s.slots ∧
      Keeps s u [OWN.OWN_STAT.STATE.key, OWN.OWN_STAT.OWNER.key, OWN.OWN_STAT.NONCE.key, OWN.OWN_STAT.EPOCH.key, FLT.INJ.EN.key,
        OWN.HANDOVER.RESULT.key, OWN.HANDOVER.TARGET.key]) ∧
  (∀ (s : State) (m : Master) (v : Word), s.ownDue.judge m 0x1054 v (fieldsAt 0x1054) true = .take → s.inReset = false →
    s.beatOver = true → s.offerOver = false →
    AnswersVia (.handoverAccept m v) s (fun u => ((((u.mbxEpoch.ownNote OWN.src.LAPSED 7).outcome m 0).breakKey m 0x1054).ownNote
        OWN.src.CLAIM_REFUSED m.num).settle) fun u =>
      u.get OWN.OWN_STAT.STATE = 0 ∧ u.get OWN.OWN_STAT.OWNER = 7 ∧ u.get OWN.OWN_STAT.EPOCH = (s.get OWN.OWN_STAT.EPOCH + 1) % 256 ∧
      u.now = s.now) ∧
  (∀ (s : State) (m : Master) (v : Word), s.takes m 0x1054 v → s.get OWN.OWN_STAT.STATE = 3 → s.get OWN.HANDOVER.TARGET = m.num →
    s.beatOver = false → s.offerOver = false →
    AnswersVia (.handoverAccept m v) s (fun u => (u.mbxEpoch.ownNote OWN.src.OWN_CHANGED m.num).settle) fun u =>
      u.get OWN.OWN_STAT.STATE = 2 ∧ u.get OWN.OWN_STAT.OWNER = m.num ∧ u.get OWN.OWN_STAT.NONCE = v.toNat % 65536 ∧
      u.get OWN.OWN_STAT.EPOCH = (s.get OWN.OWN_STAT.EPOCH + 1) % 256 ∧ u.get OWN.HANDOVER.RESULT = 1 ∧
      u.get OWN.HANDOVER.TARGET = 7 ∧ u.own.beatAt = s.now ∧ u.slots = s.slots ∧
      Keeps s u [OWN.OWN_STAT.STATE.key, OWN.OWN_STAT.OWNER.key, OWN.OWN_STAT.NONCE.key, OWN.OWN_STAT.EPOCH.key, FLT.INJ.EN.key,
        OWN.HANDOVER.RESULT.key, OWN.HANDOVER.TARGET.key])

/-- OWN_BEAT and BEAT_MAX_WRITE taken while ownership is held restart the heartbeat timer, the latter with the new limit;
HANDOVER_START, while no offer has run out, with a target offers ownership to it and raises OWN_CHANGED, and with 0b111
cancels an offer with RESULT = 3; an ACCEPT by any other master than the target is refused with the register file unchanged;
HANDOVER_TIMEOUT ends the offer after 100 ms with RESULT = 2, or, where the heartbeat runs out no later, by the lapse with
RESULT = 4. RF_STOP_SET by any master sets STOP and names it, once; RF_STOP_CLEAR, with SET = 0, ends the stop and leaves
SETTER; each change fires RF_STOP_CHG. (R119, R123, R124, R128, R129) -/
def Obligations.HeartbeatAndOffers : Prop :=
  (∀ (s : State) (m : Master) (v : Word), s.takes m 0x1048 v → 2 ≤ s.get OWN.OWN_STAT.STATE →
    AnswersSettled (.ownBeat m v) s fun u => u.own = { s.own with beatAt := s.now } ∧ Keeps s u []) ∧
  (∀ (s : State) (m : Master) (v : Word), s.takes m 0x104C v → AnswersSettled (.beatMaxWrite m v) s fun u =>
    u.get OWN.BEAT_MAX.MS = v.toNat % 65536 ∧ u.own = { s.own with beatAt := s.now } ∧ Keeps s u [OWN.BEAT_MAX.MS.key]) ∧
  (∀ (s : State) (m : Master) (v : Word), s.takes m 0x1050 v → v.toNat % 8 ≠ s.get OWN.OWN_STAT.OWNER → s.offerOver = false →
    (v.toNat % 8 ≠ 7 → AnswersVia (.handoverStart m v) s (fun u => (u.ownNote OWN.src.OWN_CHANGED m.num).settle) fun u =>
      u.get OWN.OWN_STAT.STATE = 3 ∧ u.get OWN.HANDOVER.TARGET = v.toNat % 8 ∧ u.own = { s.own with offerAt := s.now } ∧
      Keeps s u [OWN.OWN_STAT.STATE.key, OWN.HANDOVER.TARGET.key]) ∧
    (v.toNat % 8 = 7 → s.get OWN.OWN_STAT.STATE = 3 → AnswersSettled (.handoverStart m v) s fun u =>
      u.get OWN.OWN_STAT.STATE = 2 ∧ u.get OWN.HANDOVER.RESULT = 3 ∧ u.get OWN.HANDOVER.TARGET = 7 ∧
      Keeps s u [OWN.OWN_STAT.STATE.key, OWN.HANDOVER.RESULT.key, OWN.HANDOVER.TARGET.key])) ∧
  (∀ (s : State) (m : Master) (v : Word), s.takes m 0x1054 v →
    (s.get OWN.OWN_STAT.STATE ≠ 3 ∨ s.get OWN.HANDOVER.TARGET ≠ m.num) → s.beatOver = false → s.windowOver = false → s.offerOver = false →
    AnswersVia (.handoverAccept m v) s (fun u => (u.ownNote OWN.src.CLAIM_REFUSED m.num).settle) fun u => Keeps s u []) ∧
  (∀ s : State, s.inReset = false → s.get OWN.OWN_STAT.STATE = 3 → s.offerFirst = false →
    AnswersVia .handoverTimeout s (fun u => (u.mbxEpoch.ownNote OWN.src.LAPSED 7).settle) fun u =>
      u.get OWN.OWN_STAT.STATE = 0 ∧ u.get OWN.HANDOVER.RESULT = 4 ∧ u.get OWN.HANDOVER.TARGET = 7) ∧
  (∀ s : State, s.inReset = false → s.get OWN.OWN_STAT.STATE = 3 → s.offerFirst = true →
    AnswersVia .handoverTimeout s (fun u => (u.ownNote OWN.src.HANDOVER_FAIL 7).settle) fun u =>
      u.get OWN.OWN_STAT.STATE = 2 ∧ u.get OWN.HANDOVER.RESULT = 2 ∧ u.get OWN.HANDOVER.TARGET = 7 ∧ s.own.offerAt + ms 100 ≤ u.now ∧
      Keeps s u [OWN.OWN_STAT.STATE.key, OWN.HANDOVER.RESULT.key, OWN.HANDOVER.TARGET.key]) ∧
  (∀ (s : State) (m : Master) (v : Word), s.takes m 0x48 v → v.getLsbD 8 = true →
    (s.flag IDN.RF_STOP.STOP = false →
      AnswersVia (.rfStopSet m v) s (fun u => ((u.syncGate).stopNote m.num).settle) fun u =>
        u.get IDN.RF_STOP.STOP = 1 ∧ u.get IDN.RF_STOP.SETTER = m.num ∧ Keeps s u [IDN.RF_STOP.STOP.key, IDN.RF_STOP.SETTER.key]) ∧
    (s.flag IDN.RF_STOP.STOP = true → AnswersSettled (.rfStopSet m v) s fun u => Keeps s u [])) ∧
  (∀ (s : State) (m : Master) (v : Word), s.takes m 0x48 v → v.getLsbD 8 = false → v.getLsbD 9 = true → s.flag IDN.RF_STOP.STOP = true →
    AnswersVia (.rfStopClear m v) s (fun u => ((u.syncGate).stopNote m.num).settle) fun u =>
      u.get IDN.RF_STOP.STOP = 0 ∧ Keeps s u [IDN.RF_STOP.STOP.key])

/-- syncGate, through which RF_STOP, a withdrawn permit and the terminal latch act on the slots: with the gate shut every enabled
slot has HOLD.GATE set afterwards, and no output weight, and every one that was in RAMP_UP or ON reads HELD; with the gate
open no enabled slot has HOLD.GATE. (R158, R172, R173) -/
def Obligations.GateHoldsSlots : Prop :=
  ∀ (s : State), ∀ i ∈ s.enabled,
    (s.gateShut = true → tbit (s.syncGate.get (SLP.SLOT_STAT.HOLD i)) hGate = true ∧
      (s.get (SLP.SLOT_STAT.STATE i) = 3 ∨ s.get (SLP.SLOT_STAT.STATE i) = 4 →
        s.syncGate.get (SLP.SLOT_STAT.STATE i) = 5) ∧ s.syncGate.weightNow i = 0) ∧
    (s.gateShut = false → tbit (s.syncGate.get (SLP.SLOT_STAT.HOLD i)) hGate = false)

/-- A guarded write that the fabric drops for want of rights, whatever its register and its effect, leaves the state that
dropWrite gives, in which the master's DROP_CNT has counted and names the page, NONOWNER_WR has occurred, and before that
source fires no other register field has changed; one dropped at an off page or for a reserved value raises its notice, and
before that notice only FLT.ACCESS_NOTE has changed. (R6, R101, R125, R358) -/
def Obligations.WritesWithoutRights : Prop :=
  (∀ (s : State) (m : Master) (a : Nat) (v : Word) (fs : List Fld) (ok : Bool) (f : State → State), s.verdict m a v fs ok .rights →
    ∃ u : State, s.guardedBy m a v fs ok f = (u.fire 0x01 OWN.src.NONOWNER_WR { master := m.num }).settle ∧
      u.get (OWN.DROP_CNT.COUNT m.num) = satAdd 16 (s.get (OWN.DROP_CNT.COUNT m.num)) 1 % 2 ^ 16 ∧
      u.get (OWN.DROP_CNT.LAST_PAGE m.num) = pageOf a % 256 ∧
      Keeps s u [(OWN.DROP_CNT.COUNT m.num).key, (OWN.DROP_CNT.LAST_PAGE m.num).key] ∧ u = { s with reg := u.reg, ports := u.ports }) ∧
  (∀ (s : State) (m : Master) (a : Nat) (v : Word) (fs : List Fld) (ok : Bool) (f : State → State),
    s.verdict m a v fs ok .off ∨ s.verdict m a v fs ok .value →
    ∃ (u : State) (b : Nat), s.guardedBy m a v fs ok f = (u.fire 0x04 b { master := m.num }).settle ∧
      (b = FLT.src.ACCESS_OFF ∨ b = FLT.src.ACCESS_VALUE) ∧ u.get FLT.ACCESS_NOTE.MASTER = m.num ∧
      Keeps s u [FLT.ACCESS_NOTE.MASTER.key, FLT.ACCESS_NOTE.CAUSE.key, FLT.ACCESS_NOTE.PAGE.key, FLT.ACCESS_NOTE.OFFSET.key])

/-- SLOT_ENABLE taken with EN = 1 on a slot that is OFF, while no earlier request's checks are over: EN reads 1 and STATE reads
CHECK, the slot counts, no live copy changes, and what the checks will report is decided. Once they are over, 20 µs after the
request, SLOT_HISTORY_FILLED finds them ended: where every check passed, RESULT is OK, STATE is PREP, its live copy is its
shadow, its history restarts and it starts cold, before the band comparator's check; where one failed, RESULT names it, EN is
0, STATE is OFF, the slot no longer counts and ENABLE_REFUSED fires. A request with COMMIT on an enabled slot sets
COMMIT_PEND, or CREFUSE with the cause and COMMIT_REFUSED, and where it has EN = 0 the disable follows. SLOT_DISABLE with EN
= 0 from PREP to HELD clears EN and COMMIT_PEND and puts the slot in RAMP_DOWN, or in DRAIN at once where its output weight
is zero; during the checks it waits for their end. (R156, R166, R167, R169, R174, R175) -/
def Obligations.SlotRequests : Prop :=
  (∀ (s : State) (m : Master) (i : Fin 512) (v : Word), s.takes m (slotBase i) v → v.getLsbD 0 = true → s.checksOver = [] →
    s.get (SLP.SLOT_STAT.STATE i) = 0 → AnswersSettled (.slotEnable m i v) s fun u =>
      u.get (SLP.SLOT_CTL.EN i) = 1 ∧ u.get (SLP.SLOT_STAT.STATE i) = 1 ∧ i.val ∈ u.active ∧ u.live = s.live ∧
      (u.slot i).acceptAt = s.now ∧ (u.slot i).checkRes = s.enableResult i ∧ (u.slot i).checkBy = m.num ∧
      (u.slot i).offInCheck = false ∧ ∀ j, j ≠ i.val → u.slot j = s.slot j) ∧
  (∀ (s : State) (i : Fin 512), s.get (SLP.SLOT_STAT.STATE i) = 1 → (s.slot i).checkRes = 1 → (s.slot i).offInCheck = false →
    AnswersVia (.slotHistoryFilled i) s (fun u =>
        let v := (u.bandCheck i).exportBegin i
        ((if (List.range 4).any (v.aggIdle i) then v.canNote i CAN.src.REACH_IDLE 7 else v).historyFilled i).settle) fun u =>
      u.get (SLP.SLOT_STAT.RESULT i) = 1 ∧ u.get (SLP.SLOT_STAT.STATE i) = 2 ∧ u.get (SLP.SLOT_STAT.HIST_VALID i) = 0 ∧
      u.get (SLP.SLOT_CNT.COMMITS i) = 0 ∧ u.get (GOV.SLOT_GOV.COLD i) = 1 ∧ (s.slot i).acceptAt + us 20 ≤ u.now ∧
      u.active = s.active ∧ u.liveOf i = s.shadowOf i) ∧
  (∀ (s : State) (i : Fin 512), s.get (SLP.SLOT_STAT.STATE i) = 1 → (s.slot i).checkRes ≠ 1 → (s.slot i).checkRes < 16 →
    AnswersVia (.slotHistoryFilled i) s (fun u =>
        let x := s.slot i
        (((if x.checkRes = 4 then u.reglRefuse i 0 x.checkRegl.1 x.checkRegl.2 else u).fwdNote i FWD.src.ENABLE_REFUSED x.checkBy).historyFilled
          i).settle) fun u =>
      u.get (SLP.SLOT_STAT.RESULT i) = (s.slot i).checkRes ∧ u.get (SLP.SLOT_CTL.EN i) = 0 ∧ u.get (SLP.SLOT_STAT.STATE i) = 0 ∧
      (s.slot i).acceptAt + us 20 ≤ u.now ∧ i.val ∉ u.active ∧ u.slot i = {}) ∧
  (∀ (s : State) (m : Master) (i : Fin 512) (v : Word), s.takes m (slotBase i) v → v.getLsbD 8 = true → s.checksOver = [] →
    (v.getLsbD 0 = true → 1 ≤ s.get (SLP.SLOT_STAT.STATE i) → s.get (SLP.SLOT_STAT.STATE i) ≤ 5 → s.commitRefusal i = 0 →
      AnswersSettled (.slotCommitRequest m i v) s fun u => u.get (SLP.SLOT_STAT.COMMIT_PEND i) = 1 ∧ (u.slot i).commitAt = s.now ∧
        Keeps s u [(SLP.SLOT_STAT.COMMIT_PEND i).key]) ∧
    (1 ≤ s.get (SLP.SLOT_STAT.STATE i) → s.get (SLP.SLOT_STAT.STATE i) ≤ 5 → s.commitRefusal i ≠ 0 →
      AnswersVia (.slotCommitRequest m i v) s (fun u =>
          let x := (s.reglCause i).getD (0, 0)
          let w := (if s.commitRefusal i = 2 then u.reglRefuse i 1 x.1 x.2 else u).fwdNote i FWD.src.COMMIT_REFUSED m.num
          (if v.getLsbD 0 then w else w.disableSlot i).settle) fun u =>
        u.get (SLP.SLOT_STAT.CREFUSE i) = s.commitRefusal i ∧ Keeps s u [(SLP.SLOT_STAT.CREFUSE i).key])) ∧
  (∀ (s : State) (m : Master) (i : Fin 512) (v : Word), s.takes m (slotBase i) v → v.getLsbD 0 = false → s.checksOver = [] →
    v.getLsbD 8 = false ∨ s.commitRefusal i = 0 →
    (2 ≤ s.get (SLP.SLOT_STAT.STATE i) → s.get (SLP.SLOT_STAT.STATE i) ≤ 5 → AnswersSettled (.slotDisable m i v) s fun u =>
      u.get (SLP.SLOT_CTL.EN i) = 0 ∧ u.get (SLP.SLOT_STAT.COMMIT_PEND i) = 0 ∧ (u.slot i).offAt = s.now ∧ u.active = s.active ∧
      ((s.slot i).old = none → u.liveOf i = s.liveOf i) ∧
      u.get (SLP.SLOT_STAT.STATE i) = if s.weightNow i = 0 ∧ s.get (SLP.SLOT_STAT.STATE i) ≠ 3 then 7 else 6) ∧
    (s.get (SLP.SLOT_STAT.STATE i) = 1 → AnswersSettled (.slotDisable m i v) s fun u =>
      u.get (SLP.SLOT_CTL.EN i) = 0 ∧ (u.slot i).offInCheck = true ∧ u.get (SLP.SLOT_STAT.STATE i) = 1))

/-- SLOT_HISTORY_FILLED sets HIST_VALID of a running slot, unless the datapath's clocks are gated; SLOT_START at the slot's
boundary puts it in RAMP_UP, or in HELD and silent where a HOLD bit is set; SLOT_RAMP_COMPLETE puts it in ON at full weight,
64 samples after the ramp's first, and fires ENABLED; SLOT_RAMP_DOWN_BEGIN is the first sample of the ramp to zero, and
changes nothing but the time; SLOT_DRAIN_START, at that ramp's end, takes it to DRAIN, without weight and silent, for one
latency; SLOT_DRAIN_END, after the last export frame, takes it to OFF, out of the counting slots, its holds cleared, and
fires OFF; SLOT_DRAIN_LATE leaves it OFF whatever fires; SLOT_RESUME ramps up a held slot whose last reason has ended. (R167,
R173, R174) -/
def Obligations.SlotLife : Prop :=
  (∀ (s : State) (i : Fin 512), s.running i = true →
    (s.clocksGated = false → AnswersSettled (.slotHistoryFilled i) s fun u =>
      u.get (SLP.SLOT_STAT.HIST_VALID i) = 1 ∧ Keeps s u [(SLP.SLOT_STAT.HIST_VALID i).key] ∧ u = { s with reg := u.reg, exps := u.exps }) ∧
    (s.clocksGated = true → AnswersSettled (.slotHistoryFilled i) s fun u => u = s)) ∧
  (∀ (s : State) (i : Fin 512) (t : Nat), s.running i = true → s.get (SLP.SLOT_STAT.STATE i) = 2 → (s.slot i).waitsUp = false →
    s.rampAt i (max s.now ((s.slot i).acceptAt + us 200)) = some t →
    AnswersSettled (.slotStart i) s fun u => t ≤ u.now ∧
      (s.get (SLP.SLOT_STAT.HOLD i) = 0 → u.get (SLP.SLOT_STAT.STATE i) = 3 ∧ u.weightNow i = 0 ∧ (u.slot i).upAt = some (s.sampleAt i u.now)) ∧
      (s.get (SLP.SLOT_STAT.HOLD i) ≠ 0 → u.get (SLP.SLOT_STAT.STATE i) = 5 ∧ u.get (SLP.GAIN_STAT.APPLIED i) = 0x800 ∧
        u.get (SLP.GAIN_STAT.LIMIT i) = if 0 < (s.gv i).pclamp then 4 else 5)) ∧
  (∀ (s : State) (i : Fin 512), s.running i = true → s.get (SLP.SLOT_STAT.STATE i) = 3 →
    AnswersVia (.slotRampComplete i) s (fun u => (u.fire (0x40 + i / 8) SLP.src.ENABLED { slot := some i.val }).settle) fun u =>
      u.get (SLP.SLOT_STAT.STATE i) = 4 ∧ u.slot i = { s.slot i with
        weight := 64, upAt := none, downAt := none, wasTill := u.now, wasGain := sext 12 (s.get (SLP.GAIN_STAT.APPLIED i))
        wasRamp := ((s.slot i).weight, (s.slot i).upAt, (s.slot i).downAt) } ∧
      (∀ t, (s.slot i).upAt = some t → t + 64 * s.sampleT i ≤ u.now) ∧ Keeps s u [(SLP.SLOT_STAT.STATE i).key]) ∧
  (∀ (s : State) (i : Fin 512), s.get (SLP.SLOT_STAT.STATE i) = 6 →
    (Answers (.slotRampDownBegin i) s fun u => u = { s with now := max s.now ((s.slot i).downAt.getD s.now) }) ∧
    (Answers (.slotDrainStart i) s fun u => u.get (SLP.SLOT_STAT.STATE i) = 7 ∧ u.weightNow i = 0 ∧ s.silentAt i ≤ u.now ∧
      (u.slot i).endAt = some (u.now + s.drainLat) ∧ u.get (SLP.GAIN_STAT.APPLIED i) = 0x800 ∧
      Keeps s u [(SLP.SLOT_STAT.STATE i).key, (SLP.GAIN_STAT.APPLIED i).key, (SLP.GAIN_STAT.LIMIT i).key])) ∧
  (∀ (s : State) (i : Fin 512), s.get (SLP.SLOT_STAT.STATE i) = 7 → (s.slot i).inReset = false →
    AnswersVia (.slotDrainEnd i) s (fun u => ((u.exportEnd i).slotGone i).settle) fun u =>
      u = { s with now := max s.now (min ((s.slot i).endAt.getD s.now) ((s.slot i).offAt + s.drainTicks i)) }) ∧
  (∀ (s : State) (i : Fin 512), ∃ u : State, s.slotGone i = u.fire (0x40 + i / 8) SLP.src.OFF { slot := some i.val } ∧
      u.get (SLP.SLOT_STAT.STATE i) = 0 ∧ u.get (SLP.SLOT_STAT.HOLD i) = 0 ∧ u.get (SLP.SLOT_STAT.COMMIT_PEND i) = 0 ∧
      u.get (SLP.GAIN_STAT.APPLIED i) = 0x800 ∧ u.slot i = {} ∧ i.val ∉ u.active ∧ u.now = s.now) ∧
  (∀ (s : State) (i : Fin 512), s.get (SLP.SLOT_STAT.STATE i) = 6 ∨ s.get (SLP.SLOT_STAT.STATE i) = 7 →
    Answers (.slotDrainLate i) s fun t => t.get (SLP.SLOT_STAT.STATE i) = 0 ∧ i.val ∉ t.active) ∧
  (∀ (s : State) (i : Fin 512) (t : Nat), s.get (SLP.SLOT_STAT.STATE i) = 5 → s.get (SLP.SLOT_STAT.HOLD i) = 0 → (s.slot i).resume = true →
    (s.slot i).inReset = false → (∀ n ∈ s.chiplets i, (s.chip n).resume = false) → s.rampAt i s.now = some t →
    AnswersSettled (.slotResume i) s fun u => u.get (SLP.SLOT_STAT.STATE i) = 3 ∧ (u.slot i).resume = false ∧ t ≤ u.now)

/-- COMMIT_POINT of a running slot between crossfades, while the datapath's clocks run, waits for the slot's next commit point;
an accepted commit that is then at least 10 µs old makes its shadow live and begins the commit's crossfade before clamps,
comparator and sync follow; with nothing due it changes neither the slot nor a register before they follow. CROSSFADE_END
counts in COMMITS, ends the crossfade and, for a slot commit, clears COMMIT_PEND and fires COMMIT_DONE. HOLD_REASON_ARISES
sets the bit and takes a slot in RAMP_UP or ON to HELD, whose output, where it has any, then ramps to zero from the next
sample on, and for POWER 20 µs later; HOLD_CLEARED clears a bit whose condition no longer holds and arms the resume with the
last. FIR_DATA_ACCESS writes the selected shadow tap of a slot with SRC = 1, or drops the write with FIR_SRC, and steps the
index; a read returns the tap, and steps the index for the owner alone. (R156, R168, R169, R170, R171, R173, R176) -/
def Obligations.SlotCommitsAndHolds : Prop :=
  (∀ (s : State) (i : Fin 512), s.running i = true → s.clocksGated = false → (s.slot i).xfade = false →
    AnswersVia (.commitPoint i) s (fun u => (((u.releaseClamps i).bandCheck i).syncHold i).settle) fun u =>
      s.commitPointAt i s.now ≤ u.now ∧
      (s.flag (SLP.SLOT_STAT.COMMIT_PEND i) = true → (s.slot i).commitAt + us 10 ≤ max s.now (s.commitPointAt i s.now) →
        u.liveOf i = s.shadowOf i ∧ (u.slot i).xfade = true ∧ (u.slot i).xcommit = true ∧
        ∃ o, (u.slot i).old = some o ∧ o.live = s.liveOf i) ∧
      (s.flag (SLP.SLOT_STAT.COMMIT_PEND i) = false → (s.slot i).result = false → (s.cs i).adaptAt = none → (s.cs i).warmAt = none →
        (s.cs i).zeroDue = false → (s.cs i).resizeAt = none → (s.cs i).parkDue = [] → (s.cs i).unparkDue = [] → (s.cs i).swapDue = false →
        (s.cs i).mode = s.get (SLP.CAN_CFG.MODE i) → u.slot i = s.slot i ∧ u.liveOf i = s.liveOf i ∧ Keeps s u [])) ∧
  (∀ (s : State) (i : Fin 512), (s.slot i).xfade = true → (s.cs i).resized = false →
    AnswersVia (.crossfadeEnd i) s (fun u => (if (s.slot i).xcommit then
        u.fire (0x40 + i / 8) SLP.src.COMMIT_DONE { slot := some i.val } else u).settle) fun u =>
      u.get (SLP.SLOT_CNT.COMMITS i) = (s.get (SLP.SLOT_CNT.COMMITS i) + 1) % 65536 ∧ (u.slot i).xfade = false ∧ (u.slot i).old = none ∧
      (s.slot i).xEnd ≤ u.now ∧
      ((s.slot i).xcommit = true → u.get (SLP.SLOT_STAT.COMMIT_PEND i) = 0) ∧
      u.get (SLP.LAT_STAT.FIR_LIVE i) = (s.liveOf i).firLen % 512) ∧
  (∀ (s : State) (i : Fin 512) (b : Fin 8), i.val ∈ s.enabled → b.val ≠ hGate → s.holdArises b i = true →
    AnswersSettled (.holdReasonArises i b) s fun u => tbit (u.get (SLP.SLOT_STAT.HOLD i)) b = true ∧
      (s.get (SLP.SLOT_STAT.STATE i) = 3 ∨ s.get (SLP.SLOT_STAT.STATE i) = 4 →
        u.get (SLP.SLOT_STAT.STATE i) = 5 ∧ (u.slot i).muteGain = some (sext 12 (s.get (SLP.GAIN_STAT.APPLIED i))) ∧
        (s.weightNow i ≠ 0 → ∃ d, (u.slot i).downAt = some d ∧
          d ≤ s.sampleAt i (if b.val = hPower then s.now + us 20 else s.now))) ∧
      Keeps s u [(SLP.SLOT_STAT.HOLD i).key, (SLP.SLOT_STAT.STATE i).key]) ∧
  (∀ (s : State) (i : Fin 512) (b : Fin 8), i.val ∈ s.enabled → tbit (s.get (SLP.SLOT_STAT.HOLD i)) b = true → s.holdCond b i = false →
    AnswersSettled (.holdCleared i b) s fun u => tbit (u.get (SLP.SLOT_STAT.HOLD i)) b = false ∧
      (u.get (SLP.SLOT_STAT.HOLD i) = 0 → s.get (SLP.SLOT_STAT.STATE i) = 5 → (u.slot i).resume = true) ∧
      Keeps s u [(SLP.SLOT_STAT.HOLD i).key]) ∧
  (∀ (s : State) (m : Master) (n : Fin 8) (v : Word), s.takes m (0x18048 + 0x1000 * n.val) v →
    (s.flag (SLP.FIR_CTL.SRC (s.firSlot n)) = true → s.flag (SLP.SLOT_STAT.COMMIT_PEND (s.firSlot n)) = false →
      AnswersSettled (.firDataAccess m n true v) s fun u =>
        (∀ k, Tab.get 0 u.fir k = if k = 256 * s.firSlot n + s.get (FWD.FIR_SEL.TAP n) then v.toNat else Tab.get 0 s.fir k) ∧
        u.get (FWD.FIR_SEL.TAP n) = (s.get (FWD.FIR_SEL.TAP n) + 1) % 256 ∧ Keeps s u [(FWD.FIR_SEL.TAP n).key]) ∧
    (s.flag (SLP.FIR_CTL.SRC (s.firSlot n)) = false →
      AnswersVia (.firDataAccess m n true v) s (fun u => (u.fwdNote (s.firSlot n) FWD.src.FIR_SRC m.num).settle) fun u =>
        u.fir = s.fir ∧ u.get (FWD.FIR_SEL.TAP n) = (s.get (FWD.FIR_SEL.TAP n) + 1) % 256)) ∧
  (∀ (s : State) (m : Master) (n : Fin 8) (v : Word), s.reaches m → s.pageOff (0x18 + n.val) = false →
    AnswersSettled (.firDataAccess m n false v) s fun u =>
      u.out = [BitVec.ofNat 32 (Tab.get 0 s.fir (256 * s.firSlot n + s.get (FWD.FIR_SEL.TAP n)))] ∧ u.fir = s.fir ∧
      u.get (FWD.FIR_SEL.TAP n) = if s.readsWithEffect m (0x18 + n.val) then (s.get (FWD.FIR_SEL.TAP n) + 1) % 256
        else s.get (FWD.FIR_SEL.TAP n))

/-- BLOCK_RESET_START, taken for a page other than OWN whose island runs, while no failure of the PCIe link has still to be
shown, sets RESET_ACTIVE and SOFT_RESET and opens the reset shadow of the page; BLOCK_RESET_END, once the invalid samples so
far are counted and where no covered slot is in RAMP_DOWN or DRAIN, clears both, lets the shadow run on for 10 µs and leaves
no covered slot in reset, from which the block's restart and the clocks follow; OWN_SOFT_RESET clears COUNT and LAST_PAGE of
every drop counter and leaves RESET_ACTIVE and the ownership as they are. (R55, R350, R447, R450) -/
def Obligations.BlockResets : Prop :=
  (∀ (s : State) (m : Master) (p : Fin 128),
    s.takes m (0x1000 * p.val + 8) (BitVec.ofNat 32 (2 + 4 * s.get (HDR.PAGE_CTL.CLK_REQ p) + s.get (HDR.PAGE_CTL.EN p))) →
    s.get (HDR.PAGE_CTL.CLK_REQ p) < 2 → s.get (HDR.PAGE_CTL.EN p) < 2 → p.val ≠ 1 → s.clkReqOnly m (0x1000 * p.val + 8) = false →
    s.flag (HDR.PAGE_STAT.RESET_ACTIVE p) = false → s.clkOn (pageIsland p) = true →
    s.powered (pageIsland p) = true →
    s.flag PCI.LINK_STAT.UP = true ∨ s.board.perstN = false ∨ s.holds 0x2C PCI.src.LINK_DOWN = true →
    AnswersSettled (.blockResetStart m p) s fun u =>
      u.get (HDR.PAGE_STAT.RESET_ACTIVE p) = 1 ∧ u.get (HDR.PAGE_CTL.SOFT_RESET p) = 1 ∧ u.shadowOpen p = true) ∧
  (∀ (r s : State) (p : Fin 128), r.flag (HDR.PAGE_STAT.RESET_ACTIVE p) = true → s = r.countBads →
    s.flag (HDR.PAGE_STAT.RESET_ACTIVE p) = true →
    (∀ i ∈ s.covered p, s.get (SLP.SLOT_STAT.STATE i) ≠ 6 ∧ s.get (SLP.SLOT_STAT.STATE i) ≠ 7) →
    AnswersVia (.blockResetEnd p) r (fun u => (u.resetOver p).syncClocks.countBads.settle) fun u =>
      u.get (HDR.PAGE_STAT.RESET_ACTIVE p) = 0 ∧ u.get (HDR.PAGE_CTL.SOFT_RESET p) = 0 ∧
      Tab.get none u.flt.shadows p = some (s.now + us 10) ∧ ∀ i ∈ s.covered p, (u.slot i).inReset = false) ∧
  (∀ (s : State) (m : Master),
    s.takes m 0x1008 (BitVec.ofNat 32 (2 + 4 * s.get (HDR.PAGE_CTL.CLK_REQ 1) + s.get (HDR.PAGE_CTL.EN 1))) →
    s.get (HDR.PAGE_CTL.CLK_REQ 1) < 2 → s.get (HDR.PAGE_CTL.EN 1) < 2 →
    s.flag PCI.LINK_STAT.UP = true ∨ s.board.perstN = false ∨ s.holds 0x2C PCI.src.LINK_DOWN = true →
    Answers (.ownSoftReset m) s fun u => (∀ k < 5, u.get (OWN.DROP_CNT.COUNT k) = 0 ∧ u.get (OWN.DROP_CNT.LAST_PAGE k) = 0) ∧
      u.get (HDR.PAGE_STAT.RESET_ACTIVE 1) = s.get (HDR.PAGE_STAT.RESET_ACTIVE 1) ∧
      u.get OWN.OWN_STAT.STATE = s.get OWN.OWN_STAT.STATE ∧ u.get OWN.OWN_STAT.OWNER = s.get OWN.OWN_STAT.OWNER ∧ u.flt = s.flt)

/-- SYNTH_ENABLE, SYNTH_PLAN_CHANGE and SYNTH_RECAL, taken with EN = 1 and asking for a channel change: where no cause of refusal
holds, the register takes the values written, and outside STANDBY the change begins with BUSY = 1, STEP = DRAIN and
HOLD.CHANNEL on every enabled slot of the chiplet, while in STANDBY it sets PEND and no other register field; where a cause
holds, REFUSE names it before CHG_REFUSED fires and every other register field is as before. SYNTH_DISABLE, taken with EN = 0
while EN is 1, powers the chiplet down, or is refused in the same way. A write that asks for nothing new is accepted, or with
EN = 1 during a change refused with BUSY. (R138, R141, R142, R145) -/
def Obligations.ChannelChangeWrites : Prop :=
  (∀ (s : State) (m : Master) (n : Fin 8) (v : Word) (c : Instr),
    c = .synthEnable m n v ∨ c = .synthPlanChange m n v ∨ c = .synthRecal m n v →
    s.takes m (0xD040 + 4 * n.val) v → (SYN.SYN_CTL.EN n).of v = 1 →
    (s.get (SYN.SYN_CTL.EN n) ≠ 1 ∨ (SYN.SYN_CTL.PLAN n).of v ≠ s.get (SYN.SYN_CTL.PLAN n) ∨ v.getLsbD 8 = true) →
    (s.changeCause n = 0 → s.get PWR.PWR_CMD.STATE ≠ pStandby → AnswersSettled c s fun u =>
      u.get (SYN.SYN_CTL.EN n) = 1 ∧ u.get (SYN.SYN_CTL.PLAN n) = (SYN.SYN_CTL.PLAN n).of v ∧ u.get (SYN.SYN_CTL.REFUSE n) = 0 ∧
      u.get (SYN.SYN_STAT.BUSY n) = 1 ∧ u.get (SYN.SYN_STAT.STEP n) = yDrain ∧ u.get (CNV.CAL_STAT.FG_DONE n) = 0 ∧
      (u.chip n).at_ = s.now ∧ (∀ i ∈ s.enabled, s.onChiplet n i = true → tbit (u.get (SLP.SLOT_STAT.HOLD i)) hChannel = true) ∧
      ∀ k < 8, k ≠ n.val → u.get (SYN.SYN_STAT.STEP k) = s.get (SYN.SYN_STAT.STEP k)) ∧
    (s.changeCause n = 0 → s.get PWR.PWR_CMD.STATE = pStandby → AnswersSettled c s fun u =>
      u.get (SYN.SYN_STAT.PEND n) = 1 ∧ u.get (SYN.SYN_CTL.EN n) = 1 ∧ u.get (SYN.SYN_CTL.PLAN n) = (SYN.SYN_CTL.PLAN n).of v ∧
      u.get (SYN.SYN_CTL.REFUSE n) = 0 ∧
      Keeps s u [(SYN.SYN_STAT.PEND n).key, (SYN.SYN_CTL.EN n).key, (SYN.SYN_CTL.PLAN n).key, (SYN.SYN_CTL.REFUSE n).key]) ∧
    (s.changeCause n ≠ 0 → AnswersVia c s (fun u => (u.fire 0x0D SYN.src.CHG_REFUSED { master := m.num }).settle) fun u =>
      u.get (SYN.SYN_CTL.REFUSE n) = s.changeCause n ∧ Keeps s u [(SYN.SYN_CTL.REFUSE n).key])) ∧
  (∀ (s : State) (m : Master) (n : Fin 8) (v : Word), s.takes m (0xD040 + 4 * n.val) v → (SYN.SYN_CTL.EN n).of v = 0 →
    s.get (SYN.SYN_CTL.EN n) = 1 →
    (s.stopCause n = 0 → AnswersSettled (.synthDisable m n v) s fun u =>
      u.get (SYN.SYN_CTL.EN n) = 0 ∧ u.get (SYN.SYN_STAT.STEP n) = yOff ∧ u.get (SYN.SYN_STAT.READY n) = 0 ∧
      u.get (SYN.SYN_STAT.LOCK n) = 0 ∧ u.get (SYN.SYN_STAT.CONV_RDY n) = 0 ∧ u.get (SYN.SYN_STAT.PEND n) = 0 ∧
      u.get (SYN.SYN_CTL.PLAN n) = (SYN.SYN_CTL.PLAN n).of v ∧ u.get (SYN.SYN_STAT.PLAN_NOW n) = s.get (SYN.SYN_STAT.PLAN_NOW n)) ∧
    (s.stopCause n ≠ 0 → AnswersVia (.synthDisable m n v) s (fun u => (u.fire 0x0D SYN.src.CHG_REFUSED { master := m.num }).settle) fun u =>
      u.get (SYN.SYN_CTL.REFUSE n) = s.stopCause n ∧ Keeps s u [(SYN.SYN_CTL.REFUSE n).key])) ∧
  (∀ (s : State) (m : Master) (n : Fin 8) (v : Word), s.takes m (0xD040 + 4 * n.val) v → (SYN.SYN_CTL.EN n).of v = 1 →
    s.get (SYN.SYN_CTL.EN n) = 1 → (SYN.SYN_CTL.PLAN n).of v = s.get (SYN.SYN_CTL.PLAN n) → v.getLsbD 8 = false →
    (s.flag (SYN.SYN_STAT.BUSY n) = true →
      AnswersVia (.synthEnable m n v) s (fun u => (u.fire 0x0D SYN.src.CHG_REFUSED { master := m.num }).settle) fun u =>
        u.get (SYN.SYN_CTL.REFUSE n) = 1 ∧ Keeps s u [(SYN.SYN_CTL.REFUSE n).key]) ∧
    (s.flag (SYN.SYN_STAT.BUSY n) = false → AnswersSettled (.synthEnable m n v) s fun u =>
      u.get (SYN.SYN_CTL.REFUSE n) = 0 ∧ Keeps s u [(SYN.SYN_CTL.REFUSE n).key])) ∧
  (∀ (s : State) (m : Master) (n : Fin 8) (v : Word), s.takes m (0xD040 + 4 * n.val) v → (SYN.SYN_CTL.EN n).of v = 0 →
    s.get (SYN.SYN_CTL.EN n) = 0 → AnswersSettled (.synthDisable m n v) s fun u =>
      u.get (SYN.SYN_CTL.PLAN n) = (SYN.SYN_CTL.PLAN n).of v ∧ u.get (SYN.SYN_CTL.REFUSE n) = 0 ∧
      Keeps s u [(SYN.SYN_CTL.PLAN n).key, (SYN.SYN_CTL.REFUSE n).key])

/-- Outside the power-fail sequence and a block reset of page SYN each step's command, at that step, takes the change to the
next: the drain ends after 40 µs with the island stopped; band, amplitude and lock follow one another, changing STEP (and
LOCK) alone; settling lasts 20 µs; at the ALIGN pulse READY is 1 and PLAN_NOW is the plan requested; CONVCAL ends with
CONV_RDY = 1, BUSY = 0, CHG_CNT counted and FG_DONE set for every powered pair before CHG_DONE fires. A step that exceeds its
bound leaves STEP = FAILED and BUSY = 0 before SYNTH_FAIL fires. LOCK lost outside a retry, with REFCLK within tolerance,
sets UNLOCK_SEEN and restarts the sequence at BAND before SYNTH_UNLOCK fires. (R139, R141, R143, R144, R145, R146) -/
def Obligations.ChannelChangeSteps : Prop :=
  (∀ (s : State) (n : Fin 8), s.pfRuns = false → s.resetting 0x0D = false → s.get (SYN.SYN_STAT.STEP n) = yDrain →
    AnswersSettled (.synthDrainDone n) s fun u => u.get (SYN.SYN_STAT.STEP n) = yBand ∧ u.get (SYN.SYN_STAT.READY n) = 0 ∧
      u.get (SYN.SYN_STAT.LOCK n) = 0 ∧ u.clkOn (35 + n) = false ∧ (s.chip n).at_ + us 40 ≤ u.now ∧ u.active = s.active) ∧
  (∀ (s : State) (n : Fin 8), s.pfRuns = false → s.resetting 0x0D = false → s.get (SYN.SYN_STAT.STEP n) = yBand →
    Answers (.synthBandDone n) s fun u => u.get (SYN.SYN_STAT.STEP n) = yAmpl ∧ Keeps s u [(SYN.SYN_STAT.STEP n).key] ∧ u.now = s.now) ∧
  (∀ (s : State) (n : Fin 8), s.pfRuns = false → s.resetting 0x0D = false → s.get (SYN.SYN_STAT.STEP n) = yAmpl →
    Answers (.synthAmplDone n) s fun u => u.get (SYN.SYN_STAT.STEP n) = yLock ∧ Keeps s u [(SYN.SYN_STAT.STEP n).key] ∧ u.now = s.now) ∧
  (∀ (s : State) (n : Fin 8), s.pfRuns = false → s.resetting 0x0D = false → s.get (SYN.SYN_STAT.STEP n) = yLock →
    Answers (.synthLockAcquired n) s fun u => u.get (SYN.SYN_STAT.STEP n) = ySettle ∧ u.get (SYN.SYN_STAT.LOCK n) = 1 ∧
      Keeps s u [(SYN.SYN_STAT.STEP n).key, (SYN.SYN_STAT.LOCK n).key]) ∧
  (∀ (s : State) (n : Fin 8), s.pfRuns = false → s.resetting 0x0D = false → s.get (SYN.SYN_STAT.STEP n) = ySettle →
    Answers (.synthSettleDone n) s fun u => u.get (SYN.SYN_STAT.STEP n) = yAlign ∧ (s.chip n).at_ + us 20 ≤ u.now ∧
      Keeps s u [(SYN.SYN_STAT.STEP n).key]) ∧
  (∀ (s : State) (n : Fin 8), s.pfRuns = false → s.resetting 0x0D = false → s.get (SYN.SYN_STAT.STEP n) = yAlign →
    AnswersSettled (.synthAligned n) s fun u => u.get (SYN.SYN_STAT.STEP n) = yConvcal ∧ u.get (SYN.SYN_STAT.READY n) = 1 ∧
      u.get (SYN.SYN_STAT.PLAN_NOW n) = s.get (SYN.SYN_CTL.PLAN n) ∧ u.now = max s.now (ceilTo 4096 s.now)) ∧
  (∀ (s : State) (n : Fin 8), s.pfRuns = false → s.resetting 0x0D = false → s.get (SYN.SYN_STAT.STEP n) = yConvcal →
    AnswersVia (.convcalDone n) s (fun u => (u.fire 0x0D SYN.src.CHG_DONE {}).settle) fun u =>
      u.get (SYN.SYN_STAT.STEP n) = yRunning ∧ u.get (SYN.SYN_STAT.CONV_RDY n) = 1 ∧ u.get (SYN.SYN_STAT.BUSY n) = 0 ∧
      u.get (SYN.SYN_STAT.CHG_CNT n) = (s.get (SYN.SYN_STAT.CHG_CNT n) + 1) % 256 ∧ (u.chip n).resume = true ∧
      ∀ c < 4, s.flag (CNV.RX_CFG.PWR n c) = true → tbit (u.get (CNV.CAL_STAT.FG_DONE n)) c = true) ∧
  (∀ (s : State) (n : Fin 8), s.pfRuns = false → yDrain ≤ s.get (SYN.SYN_STAT.STEP n) → s.get (SYN.SYN_STAT.STEP n) ≤ yConvcal →
    AnswersVia (.synthStepTimeout n) s (fun u => (u.fire 0x0D SYN.src.SYNTH_FAIL {}).settle) fun u =>
      u.get (SYN.SYN_STAT.STEP n) = yFailed ∧ u.get (SYN.SYN_STAT.BUSY n) = 0 ∧ u.get (SYN.SYN_STAT.READY n) = 0 ∧
      u.clkOn (35 + n) = false ∧ u.active = s.active ∧
      (s.chip n).at_ + stepBound (s.get (SYN.SYN_STAT.STEP n)) ≤ u.now) ∧
  (∀ (s : State) (n : Fin 8), s.pfRuns = false → ySettle ≤ s.get (SYN.SYN_STAT.STEP n) → s.get (SYN.SYN_STAT.STEP n) ≤ yRunning →
    s.flag (SYN.SYN_STAT.LOCK n) = true → (s.chip n).retry = false → s.flag CLK.OSC_STAT.REF_OK = true →
    AnswersVia (.synthUnlock n) s (fun u => (u.fire 0x0D SYN.src.SYNTH_UNLOCK {}).settle) fun u =>
      u.get (SYN.SYN_STAT.UNLOCK_SEEN n) = 1 ∧ u.get (SYN.SYN_STAT.STEP n) = yBand ∧ u.get (SYN.SYN_STAT.BUSY n) = 1 ∧
      u.get (SYN.SYN_STAT.READY n) = 0 ∧ u.clkOn (35 + n) = false ∧ (u.chip n).retry = true)

/-- DSA_CHANGE_APPLY brings each attenuator of a clocked chiplet to its register at the ALIGN pulse and moves no field but the
applied gains and what limits them. OBS_PLAN_COMMIT with COMMIT = 1 sets PENDING where the shadow leaves no enabled slot
uncovered, and otherwise names the lowest such slot and COVERAGE (or BUSY while PENDING) before OBS_REFUSED fires;
OBS_PLAN_LIVE makes the shadow live at the frame boundary, starts each receiver at its lowest valid entry and clears PENDING;
OBS_DWELL_ADVANCE takes a receiver to its next valid entry after the dwell. CHANNEL_CHANGE_RESUME after a change restarts the
plan at the frame boundary. BG_CAL_WINDOW_END with a low input sets HOLD, and otherwise moves a correction by at most one
step. (R133, R147, R149, R150, R151, R152) -/
def Obligations.ObservationAndCalibration : Prop :=
  (∀ (s : State) (n : Fin 8), s.clkOn (35 + n) = true → Answers (.dsaChangeApply n) s fun u =>
    (∀ c < 4, u.dsaOf (4 * n + c) = s.get (CNV.RX_CFG.DSA n c)) ∧ u.now = max s.now (ceilTo 4096 s.now) ∧
    Keeps s u (s.active.flatMap fun i => [(SLP.GAIN_STAT.APPLIED i).key, (SLP.GAIN_STAT.LIMIT i).key])) ∧
  (∀ (s : State) (m : Master) (n : Fin 8) (v : Word), s.takes m (0x100C0 + 0x1000 * n.val) v → v.getLsbD 0 = true →
    (s.flag (CNV.OBS_CTL.PENDING n) = true →
      AnswersVia (.obsPlanCommit m n v) s (fun u => (u.fire (0x10 + n) CNV.src.OBS_REFUSED { master := m.num }).settle) fun u =>
        u.get (CNV.OBS_CTL.REFUSE n) = 2 ∧ Keeps s u [(CNV.OBS_CTL.REFUSE n).key] ∧ u.obsLive = s.obsLive) ∧
    (∀ i l, s.flag (CNV.OBS_CTL.PENDING n) = false →
      s.uncovered n (fun k r => if k = n.val then s.shadowPlan k r else s.plan k r) = i :: l →
      AnswersVia (.obsPlanCommit m n v) s (fun u => (u.fire (0x10 + n) CNV.src.OBS_REFUSED { master := m.num }).settle) fun u =>
        u.get (CNV.OBS_CTL.REFUSE n) = 1 ∧ u.get (CNV.OBS_CTL.OFFENDER n) = i % 512 ∧
        Keeps s u [(CNV.OBS_CTL.REFUSE n).key, (CNV.OBS_CTL.OFFENDER n).key] ∧ u.obsLive = s.obsLive) ∧
    (s.flag (CNV.OBS_CTL.PENDING n) = false →
      s.uncovered n (fun k r => if k = n.val then s.shadowPlan k r else s.plan k r) = [] →
      AnswersSettled (.obsPlanCommit m n v) s fun u => u.get (CNV.OBS_CTL.PENDING n) = 1 ∧ u.get (CNV.OBS_CTL.REFUSE n) = 0 ∧
        Keeps s u [(CNV.OBS_CTL.PENDING n).key, (CNV.OBS_CTL.REFUSE n).key] ∧ u.obsLive = s.obsLive)) ∧
  (∀ (s : State) (n : Fin 8), s.flag (CNV.OBS_CTL.PENDING n) = true → AnswersSettled (.obsPlanLive n) s fun u =>
    u.get (CNV.OBS_CTL.PENDING n) = 0 ∧ u.now = max s.now (s.frameAt s.now) ∧
    u.get (CNV.OBS_STAT.ENT_0 n) = firstEntry (s.shadowPlan n 0) % 8 ∧ u.get (CNV.OBS_STAT.ENT_1 n) = firstEntry (s.shadowPlan n 1) % 8 ∧
    ∀ r < 2, Tab.get [] u.obsLive (2 * n + r) = s.shadowPlan n r) ∧
  (∀ (s : State) (n : Fin 8) (r : Fin 2), s.clkOn (35 + n) = true → s.resetting (0x10 + n) = false → ((s.plan n r).any fun w => tbit w 31) = true →
    Answers (.obsDwellAdvance n r) s fun u =>
      u.get (obsEnt n r) = nextEntry (s.plan n r) (s.get (obsEnt n r)) % 8 ∧ Keeps s u [(obsEnt n r).key] ∧
      Tab.get 0 (s.chip n).dwellAt r + us (10 * bits ((s.plan n r).getD (s.get (obsEnt n r)) 0) 0 8) ≤ u.now) ∧
  (∀ (s : State) (n : Fin 8), s.pfRuns = false → s.resetting 0x0D = false → s.get (SYN.SYN_STAT.STEP n) = yRunning → (s.chip n).resume = true →
    (∀ i ∈ s.enabled, s.onChiplet n i = true → s.coverOk i (s.liveOf i).txCentre = true) →
    AnswersSettled (.channelChangeResume n) s fun u => (u.chip n).resume = false ∧ s.frameAt s.now ≤ u.now ∧
      u.get (CNV.OBS_STAT.ENT_0 n) = firstEntry (s.plan n 0) % 8 ∧ u.active = s.active) ∧
  (∀ (s : State) (n : Fin 8) (obs : List CalObs), s.clkOn (35 + n) = true → s.resetting (0x10 + n) = false → s.flag (SYN.SYN_STAT.CONV_RDY n) = true →
    Answers (.bgCalWindowEnd n obs) s fun u => ∀ c (o : CalObs), obs[c]? = some o → c < 4 →
      (tbit (s.get (CNV.CAL_CTL.BG_EN n)) c = false ∨ s.flag (CNV.RX_CFG.PWR n c) = false ∨ o.low = true →
        u.get (CNV.ILV.OFFSET n c) = s.get (CNV.ILV.OFFSET n c) ∧ u.get (CNV.ILV.GAIN n c) = s.get (CNV.ILV.GAIN n c) ∧
        u.get (CNV.ILV.SKEW n c) = s.get (CNV.ILV.SKEW n c)) ∧
      (tbit (s.get (CNV.CAL_CTL.BG_EN n)) c = true → s.flag (CNV.RX_CFG.PWR n c) = true →
        tbit (u.get (CNV.CAL_STAT.HOLD n)) c = o.low ∧
        (o.low = false → (sext 10 (u.get (CNV.ILV.GAIN n c)) - sext 10 (s.get (CNV.ILV.GAIN n c))).natAbs ≤ 1)))

/-- EXPORT_WRITE taken: where it would bring its lane above 737.28 MS/s, every register field stays as it is but the slot named
by LANE_FULL, which fires; otherwise the fields take the written values and the change waits. EXPORT_CHANGE_APPLY puts the
written word in force at the frame boundary, its frames counting from 0, after the last frame of a stream that runs, which
FRAME_DROP reports where its lane is off, down or congested. EXPORT_FRAME_SEND of a running stream, once the frame's last
sample is there, counts the frame in SENT and sends its bytes, or counts it in DISCARDED before FRAME_DROP fires where the
lane is off, down or congested, and counts SEQ either way. Block lock lost clears UP and shows a local fault before LANE_FAIL
fires; block lock gained on an enabled, clocked lane sets UP, ends the local fault and shows the partner's. A frame received
with a bad FCS counts in BAD; a transmit-point export frame of the stream of one external reference, on a lane that takes it,
sets LIVE within 100 µs of its TIME, and later clears it and counts LATE before EXTREF_LATE fires; the loss of its stream
clears LIVE. (R177, R178, R179, R181, R187) -/
def Obligations.ExportsAndLanes : Prop :=
  (∀ (s : State) (m : Master) (i : Fin 512) (v : Word), s.takes m (slotBase i + 0x24) v →
    (v.getLsbD 31 = true → 384 < s.laneOthers i (bits v.toNat 24 4) + s.expWeight i v.toNat →
      AnswersVia (.exportWrite m i v) s (fun u => (u.fwdNote i FWD.src.LANE_FULL m.num).settle) fun u => Keeps s u [] ∧ u.exps = s.exps) ∧
    (v.getLsbD 31 = false ∨ s.laneOthers i (bits v.toNat 24 4) + s.expWeight i v.toNat ≤ 384 →
      AnswersSettled (.exportWrite m i v) s fun u =>
        u.get (SLP.EXPORT.EN i) = bits v.toNat 31 1 ∧ u.get (SLP.EXPORT.POINT i) = bits v.toNat 29 2 ∧
        u.get (SLP.EXPORT.FMT i) = bits v.toNat 28 1 ∧ u.get (SLP.EXPORT.LANE i) = bits v.toNat 24 4 ∧
        Keeps s u [(SLP.EXPORT.EN i).key, (SLP.EXPORT.POINT i).key, (SLP.EXPORT.FMT i).key, (SLP.EXPORT.LANE i).key] ∧
        (u.exp i).live = (s.exp i).live ∧ (u.exp i).changeAt = some s.now)) ∧
  (∀ (s : State) (i : Fin 512) (t : Nat) (lost : Bool), (s.exp i).changeAt = some t → lost = ((s.until (s.frameAt t)).exportLast i).2 →
    AnswersVia (.exportChangeApply i) s (fun u => (u.frameDrop i lost).settle) fun u => u.now = max s.now (s.frameAt t) ∧
      (s.streams i = false → lost = false) ∧ (s.streams i = true → s.laneUp (expLane (s.exp i).live) = false → lost = true) ∧
      (u.exp i).live = s.assemble (fieldsAt (slotBase i + 0x24)) ∧ (u.exp i).seq = 0 ∧ (u.exp i).changeAt = none ∧
      Keeps s u ((LNK.TX_CNT.SENT (expLane (s.exp i).live)).key :: (LNK.TX_CNT.DISCARDED (expLane (s.exp i).live)).key ::
        (List.range 16).map fun l => (LNK.LANE_STAT.LOAD l).key)) ∧
  (∀ (s r : State) (i : Fin 512) (fits : Bool) (l : Nat), l = expLane (s.exp i).live →
    r = s.until (((s.exp i).first + frameLen (s.exp i).live) * s.sampleT i) → s.active.contains i = true →
    s.get (SLP.SLOT_STAT.STATE i) ≠ 1 → (s.slot i).inReset = false → s.clocksGated = false → tbit (s.exp i).live 31 = true →
    (fits = true → s.laneUp l = true → AnswersSettled (.exportFrameSend i fits) s fun u => u.now = r.now ∧
      Tab.get [] u.lnk.sent l = r.frameBytes i (min (frameLen (s.exp i).live) (r.now / s.sampleT i - (s.exp i).first)) false ∧
      u.get (LNK.TX_CNT.SENT l) = (s.get (LNK.TX_CNT.SENT l) + 1) % 65536 ∧ Keeps s u [(LNK.TX_CNT.SENT l).key] ∧
      (u.exp i).seq = ((s.exp i).seq + 1) % 2 ^ 32) ∧
    (fits = false ∨ s.laneUp l = false →
      AnswersVia (.exportFrameSend i fits) s (fun u => (u.fire 0x2B LNK.src.FRAME_DROP { slot := some i.val }).settle) fun u =>
        u.get (LNK.TX_CNT.DISCARDED l) = min (s.get (LNK.TX_CNT.DISCARDED l) + 1) 65535 ∧ Keeps s u [(LNK.TX_CNT.DISCARDED l).key] ∧
        (u.exp i).seq = ((s.exp i).seq + 1) % 2 ^ 32 ∧ (u.exp i).gap = true)) ∧
  (∀ (s : State) (l : Fin 16),
    (s.flag (LNK.LANE_STAT.UP l) = true →
      AnswersVia (.laneBlockLockLoss l) s (fun u => (u.fire 0x2B LNK.src.LANE_FAIL {}).settle) fun u =>
        u.get (LNK.LANE_STAT.UP l) = 0 ∧ u.get (LNK.LANE_STAT.LFAULT l) = 1 ∧ u.get (LNK.LANE_STAT.RFAULT l) = 0 ∧
        Keeps s u [(LNK.LANE_STAT.UP l).key, (LNK.LANE_STAT.LFAULT l).key, (LNK.LANE_STAT.RFAULT l).key] ∧ u = { s with reg := u.reg }) ∧
    (∀ remote, s.flag (LNK.LANE_CTL.EN l) = true → s.clkOn 3 = true → s.resetting 0x2B = false → Answers (.laneBlockLockGained l remote) s fun u =>
      u.get (LNK.LANE_STAT.UP l) = 1 ∧ u.get (LNK.LANE_STAT.LFAULT l) = 0 ∧ u.get (LNK.LANE_STAT.RFAULT l) = remote.toNat ∧
      Keeps s u [(LNK.LANE_STAT.UP l).key, (LNK.LANE_STAT.LFAULT l).key, (LNK.LANE_STAT.RFAULT l).key] ∧ u = { s with reg := u.reg })) ∧
  (∀ (s : State) (l k : Fin 16) (data : List Byte) (d : List Nat), d = data.map (·.toNat) → s.laneUp l = true →
    (d.length < 18 ∨ fcsOk d = false → AnswersSettled (.cascadeFrameReceive l data) s fun u =>
      u.get (LNK.RX_CNT.BAD l) = min (s.get (LNK.RX_CNT.BAD l) + 1) 65535 ∧ Keeps s u [(LNK.RX_CNT.BAD l).key]) ∧
    (18 ≤ d.length → fcsOk d = true → beAt d 12 2 ≠ 0x88F7 → beAt d 12 2 = s.get (LNK.LANE_CTL.ETYPE l) → beAt d 14 1 / 16 = 1 →
      s.flag (LNK.LANE_CTL.RX_EN l) = true → s.stopped 0x20 = false → s.extRefs l (beAt d 16 2 % 512) = [k.val] → beAt d 15 1 / 64 = 2 →
      ∀ age : Int, age = s.linkNum / 3072000000000000 - ((beAt d 22 6 * 1000000000 + beAt d 28 4 : Nat) : Int) →
      (-100000 ≤ age → age ≤ 100000 → AnswersSettled (.cascadeFrameReceive l data) s fun u =>
        u.get (CAN.EXT_REF.LIVE k) = 1 ∧ Keeps s u [(CAN.EXT_REF.LIVE k).key]) ∧
      (100000 < age →
        AnswersVia (.cascadeFrameReceive l data) s (fun u => (u.fire 0x20 CAN.src.EXTREF_LATE {}).settle) fun u =>
          u.get (CAN.EXT_REF.LIVE k) = 0 ∧ u.get (LNK.RX_CNT.LATE l) = min (s.get (LNK.RX_CNT.LATE l) + 1) 65535 ∧
          Keeps s u [(CAN.EXT_REF.LIVE k).key, (LNK.RX_CNT.LATE l).key]))) ∧
  (∀ (s : State) (k : Fin 16),
    Answers (.extRefStreamLoss k) s fun u => u.get (CAN.EXT_REF.LIVE k) = 0 ∧ Keeps s u [(CAN.EXT_REF.LIVE k).key] ∧ u = { s with reg := u.reg })

/-- While I03 runs: PTP_LOAD_NOW taken sets the time to PTP_LD at once, and PPS_IN_EDGE with a load pending does the same, after
it has latched the time for the PPS words, and ends LPEND; PTP_LOAD_PPS sets LPEND alone; PTP_STEP moves the time by the
signed PTP_STEP where it stays positive. Each of the three sets SET. PTP_BEAT sets VALID, which PTP_VALID_EXPIRY clears no
earlier than 2 s later. PTP_TIME_READ returns bits 47:32 of the present seconds and, for the owner or a delegate alone,
latches the three time words. A write that sets more than one of LOAD_NOW, LOAD_PPS and STEP is dropped under R6. (R9, R182) -/
def Obligations.PtpTime : Prop :=
  (∀ (s : State) (m : Master) (v : Word), s.verdict m 0x2B040 v (fieldsAt 0x2B040) (ptpOne v) .take → s.lnk.on = true →
    (v.getLsbD 0 = true → v.getLsbD 3 = false → s.get LNK.PTP_LD_NS.NS < 1000000000 → AnswersSettled (.ptpLoadNow m v) s fun u =>
      u.linkTime = ((s.get LNK.PTP_LD_SEC_HI.SEC * 2 ^ 32 + s.get LNK.PTP_LD_SEC_LO.SEC) % 2 ^ 48, s.get LNK.PTP_LD_NS.NS) ∧
      u.get LNK.PTP_CTL.SET = 1 ∧ Keeps s u [LNK.PTP_CTL.SET.key]) ∧
    (v.getLsbD 1 = true → v.getLsbD 3 = false → AnswersSettled (.ptpLoadPps m v) s fun u =>
      u.get LNK.PTP_CTL.LPEND = 1 ∧ Keeps s u [LNK.PTP_CTL.LPEND.key] ∧ u.lnk = s.lnk) ∧
    (v.getLsbD 2 = true → v.getLsbD 3 = false → 0 ≤ s.linkNum + sext 32 (s.get LNK.PTP_STEP.NS) * nsUnit →
      AnswersSettled (.ptpStep m v) s fun u =>
        u.linkNum = s.linkNum + sext 32 (s.get LNK.PTP_STEP.NS) * nsUnit ∧ u.get LNK.PTP_CTL.SET = 1 ∧ Keeps s u [LNK.PTP_CTL.SET.key]) ∧
    (v.getLsbD 3 = true → v.toNat % 8 = 0 → AnswersSettled (.ptpBeat m v) s fun u =>
      u.get LNK.PTP_CTL.VALID = 1 ∧ u.lnk.beatAt = s.now ∧ u.linkNum = s.linkNum ∧ Keeps s u [LNK.PTP_CTL.VALID.key])) ∧
  (∀ (s : State) (m : Master) (v : Word), s.verdict m 0x2B040 v (fieldsAt 0x2B040) (ptpOne v) .value →
    v.getLsbD 0 = true → v.getLsbD 1 = true →
    AnswersVia (.ptpLoadNow m v) s (fun u => (u.accNotice m 0x2B040 1).settle.settle) fun u => Keeps s u [] ∧ u.lnk = s.lnk) ∧
  (∀ s : State, s.flag LNK.PTP_CTL.VALID = true → Answers .ptpValidExpiry s fun u =>
    u.get LNK.PTP_CTL.VALID = 0 ∧ u.now = max s.now (s.lnk.beatAt + ms 2000) ∧ Keeps s u [LNK.PTP_CTL.VALID.key]) ∧
  (∀ s : State, s.clkOn 3 = true → s.resetting 0x2B = false → s.lnk.on = true → s.get LNK.PTP_LD_NS.NS < 1000000000 → Answers .ppsInEdge s fun u => u.lnk.pps = s.linkTime ∧
    (s.flag LNK.PTP_CTL.LPEND = true →
      u.linkTime = ((s.get LNK.PTP_LD_SEC_HI.SEC * 2 ^ 32 + s.get LNK.PTP_LD_SEC_LO.SEC) % 2 ^ 48, s.get LNK.PTP_LD_NS.NS) ∧
      u.get LNK.PTP_CTL.LPEND = 0 ∧ u.get LNK.PTP_CTL.SET = 1) ∧
    (s.flag LNK.PTP_CTL.LPEND = false → u.linkTime = s.linkTime) ∧ Keeps s u [LNK.PTP_CTL.LPEND.key, LNK.PTP_CTL.SET.key]) ∧
  (∀ (s : State) (m : Master), s.reaches m → s.pageOff 0x2B = false → Answers (.ptpTimeRead m) s fun u =>
    u.out = [BitVec.ofNat 32 (s.linkTime.1 / 2 ^ 32)] ∧ Keeps s u [LNK.TIME_SEC_HI.SEC.key, LNK.TIME_SEC_LO.SEC.key, LNK.TIME_NS.NS.key] ∧
    (s.readsWithEffect m 0x2B = true → u.get LNK.TIME_SEC_LO.SEC = s.linkTime.1 % 2 ^ 32 ∧ u.get LNK.TIME_NS.NS = s.linkTime.2 % 2 ^ 30) ∧
    (s.readsWithEffect m 0x2B = false → Keeps s u []))

/-- PTP_FRAME_RECEIVE on an enabled lane puts a frame of at most 128 bytes at the end of a queue of fewer than 16 frames, with
its lane and the present time, and otherwise counts it in DROP. RXQ_DATA_READ returns the next four bytes of the head frame
and advances for the owner or a delegate alone; RXQ_POP removes the head frame and restarts the pointer. TXQ_DATA_WRITE
appends four bytes; TXQ_SEND with GO while not BUSY takes LANE and LEN and sets BUSY, and while BUSY is dropped without
effect; TXQ_FRAME_SENT writes the timestamp, clears BUSY, sends and counts the frame on the lane that GO named where it is
up, and leaves the buffer empty. (R9, R183) -/
def Obligations.FrameQueues : Prop :=
  (∀ (s : State) (l : Fin 16) (data : List Byte), s.flag (LNK.LANE_CTL.EN l) = true → s.clkOn 3 = true → s.resetting 0x2B = false →
    (data.length ≤ 128 → s.lnk.rxq.length < 16 → Answers (.ptpFrameReceive l data) s fun u =>
      u.lnk.rxq = s.lnk.rxq ++ [{ lane := l.val, sec := s.linkTime.1, ns := s.linkTime.2, data := data.map (·.toNat) }] ∧
      u.lnk.rxPos = s.lnk.rxPos ∧ u.get LNK.RXQ_STAT.LEVEL = s.lnk.rxq.length + 1 ∧ u.get LNK.RXQ_STAT.VALID = 1 ∧
      (s.lnk.rxq = [] → u.get LNK.RXQ_STAT.LANE = l.val ∧ u.get LNK.RXQ_STAT.LEN = data.length) ∧
      u.get LNK.RXQ_STAT.DROP = s.get LNK.RXQ_STAT.DROP) ∧
    (128 < data.length ∨ 16 ≤ s.lnk.rxq.length → Answers (.ptpFrameReceive l data) s fun u =>
      u.get LNK.RXQ_STAT.DROP = min (s.get LNK.RXQ_STAT.DROP + 1) 255 ∧ Keeps s u [LNK.RXQ_STAT.DROP.key] ∧ u = { s with reg := u.reg })) ∧
  (∀ (s : State) (m : Master), s.reaches m → s.pageOff 0x2B = false → Answers (.rxqDataRead m) s fun u =>
    u.out = [BitVec.ofNat 32 (beWord ((s.lnk.rxq.headD {}).data.drop s.lnk.rxPos))] ∧ Keeps s u [] ∧ u.lnk.rxq = s.lnk.rxq ∧
    u.lnk.rxPos = if s.readsWithEffect m 0x2B = true ∧ s.lnk.rxq ≠ [] then s.lnk.rxPos + 4 else s.lnk.rxPos) ∧
  (∀ (s : State) (m : Master) (v : Word), s.takes m 0x2B084 v → v.getLsbD 0 = true → AnswersSettled (.rxqPop m v) s fun u =>
    u.lnk.rxq = s.lnk.rxq.drop 1 ∧ u.lnk.rxPos = 0 ∧ u.get LNK.RXQ_STAT.LEVEL = (s.lnk.rxq.length - 1) % 32 ∧
    u.get LNK.RXQ_STAT.DROP = s.get LNK.RXQ_STAT.DROP) ∧
  (∀ (s : State) (m : Master) (v : Word), s.takes m 0x2B08C v → s.lnk.tx.length < 128 → AnswersSettled (.txqDataWrite m v) s fun u =>
    u.lnk.tx = s.lnk.tx ++ [bits v.toNat 24 8, bits v.toNat 16 8, bits v.toNat 8 8, bits v.toNat 0 8] ∧ Keeps s u []) ∧
  (∀ (s : State) (m : Master) (v : Word), s.takes m 0x2B088 v → v.getLsbD 8 = true →
    (s.flag LNK.TXQ_CTL.BUSY = false → AnswersSettled (.txqSend m v) s fun u => u.get LNK.TXQ_CTL.BUSY = 1 ∧
      u.get LNK.TXQ_CTL.LANE = bits v.toNat 16 4 ∧ u.get LNK.TXQ_CTL.LEN = bits v.toNat 0 8 ∧
      Keeps s u [LNK.TXQ_CTL.BUSY.key, LNK.TXQ_CTL.LANE.key, LNK.TXQ_CTL.LEN.key] ∧
      u.lnk = { s.lnk with txGo := (bits v.toNat 16 4, bits v.toNat 0 8) }) ∧
    (s.flag LNK.TXQ_CTL.BUSY = true → AnswersSettled (.txqSend m v) s fun u => Keeps s u [] ∧ u.lnk = s.lnk)) ∧
  (∀ s : State, s.flag LNK.TXQ_CTL.BUSY = true → Answers .txqFrameSent s fun u => u.get LNK.TXQ_CTL.BUSY = 0 ∧ u.lnk.tx = [] ∧
    u.get LNK.TXQ_TS_SEC_LO.SEC = s.linkTime.1 % 2 ^ 32 ∧ u.get LNK.TXQ_TS_NS.NS = s.linkTime.2 % 2 ^ 30 ∧
    (s.laneUp s.lnk.txGo.1 = true → u.get (LNK.TX_CNT.SENT s.lnk.txGo.1) = (s.get (LNK.TX_CNT.SENT s.lnk.txGo.1) + 1) % 65536 ∧
      Tab.get [] u.lnk.txSent s.lnk.txGo.1 = s.txqBytes))

/-- A write of CAN_CFG that changes the layout of a slot in PREP or later: where no cause of refusal holds, RESULT is OK, PENDING
is 1, the register takes the values written, and mode, layout and extents in force stay until a commit point; where one
holds, RESULT names it before RESIZE_REFUSED fires and every other register field but NOTE_SLOT is as before. A write that
keeps the layout, or of a slot that is OFF, takes its values at once and leaves the mode in force; a write in CHECK is
dropped before CFG_LOCKED fires. EXTENT_RETURN_DONE frees the extents that the slot returned, but retires those with a
double-bit error. (R190, R194, R196, R198) -/
def Obligations.CancellerWrites : Prop :=
  (∀ (s : State) (m : Master) (i : Fin 512) (v : Word), s.takes m (slotBase i + 0x28) v →
    (2 ≤ s.get (SLP.SLOT_STAT.STATE i) → (canLay i v ≠ s.extCfg i ∨ v.getLsbD 29 ≠ s.flag (SLP.CAN_CFG.ALT i)) →
      s.resizeResult i (canLay i v) (v.getLsbD 29) = 1 → AnswersSettled (.canResizeRequest m i v) s fun u =>
        u.get CAN.RESIZE.RESULT = 1 ∧ u.get CAN.RESIZE.PENDING = 1 ∧ u.get CAN.RESIZE.SLOT = i.val ∧
        u.get (SLP.CAN_CFG.MODE i) = bits v.toNat 30 2 ∧ u.extCfg i = canLay i v ∧
        (u.cs i).resizeAt = some s.now ∧ (u.cs i).mode = (s.cs i).mode ∧ (u.cs i).xts = (s.cs i).xts ∧
        (u.cs i).lay = (s.cs i).lay ∧ u.active = s.active ∧ u.can.pool = s.can.pool) ∧
    (2 ≤ s.get (SLP.SLOT_STAT.STATE i) → (canLay i v ≠ s.extCfg i ∨ v.getLsbD 29 ≠ s.flag (SLP.CAN_CFG.ALT i)) →
      s.resizeResult i (canLay i v) (v.getLsbD 29) ≠ 1 →
      AnswersVia (.canResizeRequest m i v) s (fun u => (u.canNote i CAN.src.RESIZE_REFUSED m.num).settle) fun u =>
        u.get CAN.RESIZE.RESULT = s.resizeResult i (canLay i v) (v.getLsbD 29) ∧ u.get CAN.RESIZE.SLOT = i.val ∧
        Keeps s u [CAN.RESIZE.RESULT.key, CAN.RESIZE.SLOT.key] ∧ u.canS = s.canS ∧ u.can = s.can) ∧
    (s.get (SLP.SLOT_STAT.STATE i) = 0 ∨
        (s.get (SLP.SLOT_STAT.STATE i) ≠ 1 ∧ canLay i v = s.extCfg i ∧ v.getLsbD 29 = s.flag (SLP.CAN_CFG.ALT i)) →
      AnswersSettled (.canModeWrite m i v) s fun u => u.get (SLP.CAN_CFG.MODE i) = bits v.toNat 30 2 ∧
        u.get (SLP.CAN_CFG.WARM i) = bits v.toNat 28 1 ∧ u.get (SLP.CAN_CFG.ALT i) = bits v.toNat 29 1 ∧ u.extCfg i = canLay i v ∧
        u.canS = s.canS ∧ Keeps s u [(SLP.CAN_CFG.MODE i).key, (SLP.CAN_CFG.WARM i).key, (SLP.CAN_CFG.ALT i).key,
          (SLP.CAN_CFG.EXT0 i).key, (SLP.CAN_CFG.EXT1 i).key, (SLP.CAN_CFG.EXT2 i).key, (SLP.CAN_CFG.EXT3 i).key]) ∧
    (s.get (SLP.SLOT_STAT.STATE i) = 1 →
      AnswersVia (.canModeWrite m i v) s (fun u => (u.fwdNote i FWD.src.CFG_LOCKED m.num).settle) fun u => Keeps s u [] ∧ u.canS = s.canS)) ∧
  (∀ (s : State) (i : Fin 512), Answers (.extentReturnDone i) s fun u =>
    Tab.get [] u.can.zeroing i = [] ∧
    (∀ e ∈ Tab.get [] s.can.zeroing i, s.can.bad.contains e = true → u.can.retired.contains e = true) ∧
    u.get CAN.POOL_ERR.RETIRED = min 255 u.can.retired.length ∧ u.get CAN.POOL.FREE = u.freeCount % 65536 ∧
    u.can.pool = s.can.pool ∧ u.canS = s.canS ∧ u.active = s.active)

/-- A write of POOL_DATA steps ENTRY; it changes the one entry that POOL_ADDR names where that lies in the shadow of a slot in
OWNER mode with no commit accepted, is dropped before SHADOW_LOCKED fires where a commit is accepted, and is dropped before
POOL_WR fires in the live view, for a free extent, and outside OWNER mode. A read returns the entry named and steps ENTRY for
the owner or a delegate alone. An entry with a single-bit error is counted before POOL_CE fires; with a double-bit error it
reads zero in the live view, its extent is to be retired, and POOL_UE fires. A write of XT_DATA sets SHIFT through the first
extent of an aggressor in OWNER mode, and is dropped otherwise before POOL_WR fires. Reads of XT_DATA and DESC_DATA return
the word selected and step on for the owner or a delegate alone. (R193, R195, R196, R201, R216, R217) -/
def Obligations.PoolAccess : Prop :=
  (∀ (s : State) (m : Master) (v : Word), s.takes m 0x20074 v →
    (∀ i, s.flag CAN.POOL_ADDR.BANK = true → s.extOwner (s.get CAN.POOL_ADDR.ENTRY / 64) = some i → (s.cs i).mode = 3 →
      (s.shadowLocked i = false → AnswersSettled (.poolDataAccess m true v) s fun u =>
        (∀ k, Tab.get 0 u.can.pool k = if k = s.poolKey false (s.get CAN.POOL_ADDR.ENTRY) then v.toNat else Tab.get 0 s.can.pool k) ∧
        u.get CAN.POOL_ADDR.ENTRY = (s.get CAN.POOL_ADDR.ENTRY + 1) % 2 ^ 21 ∧ Keeps s u [CAN.POOL_ADDR.ENTRY.key]) ∧
      (s.shadowLocked i = true →
        AnswersVia (.poolDataAccess m true v) s (fun u => (u.fwdNote i FWD.src.SHADOW_LOCKED m.num).settle) fun u =>
          u.can.pool = s.can.pool ∧ Keeps s u [CAN.POOL_ADDR.ENTRY.key])) ∧
    (s.flag CAN.POOL_ADDR.BANK = false ∨ s.extOwner (s.get CAN.POOL_ADDR.ENTRY / 64) = none ∨
        (∃ i, s.extOwner (s.get CAN.POOL_ADDR.ENTRY / 64) = some i ∧ (s.cs i).mode ≠ 3) →
      AnswersVia (.poolDataAccess m true v) s (fun u => (u.poolNote (s.get CAN.POOL_ADDR.ENTRY) CAN.src.POOL_WR m.num).settle) fun u =>
        u.can.pool = s.can.pool ∧ u.get CAN.POOL_ADDR.ENTRY = (s.get CAN.POOL_ADDR.ENTRY + 1) % 2 ^ 21 ∧
        Keeps s u [CAN.POOL_ADDR.ENTRY.key])) ∧
  (∀ (s : State) (m : Master) (v : Word), s.reaches m → s.pageOff 0x20 = false →
    (AnswersSettled (.poolDataAccess m false v) s fun u =>
      u.out = [BitVec.ofNat 32 (s.poolRead (!s.flag CAN.POOL_ADDR.BANK) (s.get CAN.POOL_ADDR.ENTRY))] ∧ u.can = s.can ∧
      u.get CAN.POOL_ADDR.ENTRY = (if s.readsWithEffect m 0x20 then (s.get CAN.POOL_ADDR.ENTRY + 1) % 2 ^ 21 else s.get CAN.POOL_ADDR.ENTRY) ∧
      Keeps s u [CAN.POOL_ADDR.ENTRY.key]) ∧
    AnswersSettled (.xtDataAccess m false v) s fun u => u.out = [BitVec.ofNat 32 s.xtData] ∧ u.canS = s.canS ∧
      u.get CAN.XT_SEL.INDEX = (if s.readsWithEffect m 0x20 then (s.get CAN.XT_SEL.INDEX + 1) % 128 else s.get CAN.XT_SEL.INDEX) ∧
      Keeps s u [CAN.XT_SEL.INDEX.key]) ∧
  (∀ (s : State) (e : BitVec 21),
    (AnswersVia (.poolEccError e false) s (fun u => (u.poolNote e.toNat CAN.src.POOL_CE 7).settle) fun u =>
      u.get CAN.POOL_ERR.CE_CNT = min (s.get CAN.POOL_ERR.CE_CNT + 1) 255 ∧ Keeps s u [CAN.POOL_ERR.CE_CNT.key] ∧ u.can = s.can) ∧
    AnswersVia (.poolEccError e true) s (fun u => (u.poolNote e.toNat CAN.src.POOL_UE 7).settle) fun u =>
      u.poolRead true e.toNat = 0 ∧ u.can.bad.contains (e.toNat / 64) = true ∧ Keeps s u [] ∧ u.canS = s.canS ∧
      ∀ k, k ≠ s.poolKey true e.toNat → Tab.get 0 u.can.pool k = Tab.get 0 s.can.pool k) ∧
  (∀ (s : State) (m : Master) (v : Word), s.takes m 0x20064 v →
    (∀ x, s.xtNow = some x → (s.cs (s.get CAN.XT_SEL.SLOT)).mode = 3 →
      ((s.cs (s.get CAN.XT_SEL.SLOT)).xts.findIdx? fun y => y.agg == x.agg) = some (s.get CAN.XT_SEL.INDEX) →
      AnswersSettled (.xtDataAccess m true v) s fun u => Keeps s u [] ∧ u.can = s.can ∧
        (u.cs (s.get CAN.XT_SEL.SLOT)).shift = (s.cs (s.get CAN.XT_SEL.SLOT)).shift.set x.agg (bits v.toNat 18 4)) ∧
    ((∀ x, s.xtNow = some x → (s.cs (s.get CAN.XT_SEL.SLOT)).mode = 3 →
        ((s.cs (s.get CAN.XT_SEL.SLOT)).xts.findIdx? fun y => y.agg == x.agg) ≠ some (s.get CAN.XT_SEL.INDEX)) →
      AnswersVia (.xtDataAccess m true v) s (fun u => (u.canNote (s.get CAN.XT_SEL.SLOT) CAN.src.POOL_WR m.num).settle) fun u =>
        Keeps s u [] ∧ u.canS = s.canS)) ∧
  (∀ (s : State) (m : Master) (k : Fin 16), s.reaches m → s.pageOff (0x30 + k.val) = false →
    Answers (.descDataRead m k) s fun u => u.out = [BitVec.ofNat 32 (s.descData k)] ∧ u.can = s.can ∧
      u.get (YCL.DESC_SEL.WORD k) = (if s.readsWithEffect m (0x30 + k.val) then (s.get (YCL.DESC_SEL.WORD k) + 1) % 16
        else s.get (YCL.DESC_SEL.WORD k)) ∧ Keeps s u [(YCL.DESC_SEL.WORD k).key])

/-- ENGINE_JOB_START on a free engine with a current job of its own to run, where no urgent job of a peer comes first, takes that
job from its deque and holds it; JOB_STEAL by a free engine with an empty deque takes a job from a peer, one off the victim's
deque and counted, or where none is eligible starts the retry wait of STEAL_CFG.RETRY, which STEAL_RETRY_EXPIRY ends at its
instant. JOB_COMPLETE frees the engine and counts the job; the result of one whose generations are stale is discarded,
counted, and changes no canceller, and a SYNTH of a superseded profile is wanted again; an ADAPT result more than 0.5 dB
worse than the live set is rejected and counted, and one that comes while a zeroed shadow waits for its commit, or on an
invalid input, writes nothing; JOB_TIMEOUT frees the engine and counts the job before JOB_TIMEOUT fires. CLUSTER_HANDOFF_DONE
leaves the cluster's deques empty and its hand-off done before HANDOFF_DONE fires. (R203, R204, R206, R207, R208, R210) -/
def Obligations.JobLife : Prop :=
  (∀ (s : State) (e : Fin 256) (n : Nat) (j : Job), s.engineFree e = true → s.popOwn (s.deque e) = some n → (s.deque e)[n]? = some j →
    s.current j = true → s.victim (peers e) = none → AnswersSettled (.engineJobStart e false) s fun u =>
      u.runOf e = some { job := j, at_ := s.now } ∧ u.deque e = (s.deque e).eraseIdx n ∧
      tbit (u.get (YCL.ENG_STAT.BUSY (e.val / 16))) (e.val % 16) = true ∧ Keeps s u [(YCL.ENG_STAT.BUSY (e.val / 16)).key] ∧
      u.canS = s.canS ∧ u.can.pool = s.can.pool) ∧
  (∀ (s : State) (e : Fin 256), Tab.get 0 s.can.retry e ≤ s.now → s.engineFree e = true → s.deque e = [] →
    (s.stealFrom e = none → (AnswersSettled (.jobSteal e false) s fun u =>
      Tab.get 0 u.can.retry e = s.now + s.get CAN.STEAL_CFG.RETRY * 98304 / 1000 ∧ Keeps s u [])) ∧
    (∀ v n c j, s.stealFrom e = some (v, n, c) → v ≠ e.val → (s.deque v)[n]? = some j → s.current { j with steals := min 255 (j.steals + 1) } = true →
      AnswersSettled (.jobSteal e false) s fun u => u.deque v = (s.deque v).eraseIdx n ∧
        u.runOf e = some { job := { j with steals := min 255 (j.steals + 1) }, at_ := s.now } ∧ u.canS = s.canS ∧
        (v / 16 = e.val / 16 → u.get (YCL.STEAL_CNT.LOCAL (e.val / 16)) = min (s.get (YCL.STEAL_CNT.LOCAL (e.val / 16)) + 1) 65535) ∧
        (v / 16 ≠ e.val / 16 → u.get (YCL.STEAL_CNT.RING (e.val / 16)) = min (s.get (YCL.STEAL_CNT.RING (e.val / 16)) + 1) 65535))) ∧
  (∀ (s : State) (e : Fin 256), Tab.get 0 s.can.retry e ≠ 0 → s.engineFree e = false →
    AnswersSettled (.stealRetryExpiry e false) s fun u => Tab.get 0 u.can.retry e = 0 ∧ Tab.get 0 s.can.retry e ≤ u.now ∧ Keeps s u [] ∧ u.can.deques = s.can.deques) ∧
  (∀ (s : State) (e : Fin 256) (r : Run) (post live : Int) (iphys : Option Int), s.runOf e = some r →
    (s.current r.job = false → AnswersSettled (.jobComplete e post live iphys) s fun u => u.runOf e = none ∧
      u.get CAN.JOB_CNT_0.DISCARDED = min (s.get CAN.JOB_CNT_0.DISCARDED + 1) 65535 ∧
      u.get (YCL.JOB_DONE.COUNT (e.val / 16)) = (s.get (YCL.JOB_DONE.COUNT (e.val / 16)) + 1) % 2 ^ 32 ∧
      u.canS = s.canS ∧ u.can.pool = s.can.pool ∧ u.slots = s.slots ∧ (r.job.pgen = s.can.pgen → u.gov = s.gov) ∧
      (r.job.pgen ≠ s.can.pgen → r.job.kind = 3 → s.enabled.contains r.job.slot = true → r.job.sgen = (s.cs r.job.slot).sgen →
        (u.gv r.job.slot).synthDue = true)) ∧
    (s.current r.job = true → r.job.kind = 1 → live + 50 < post → AnswersSettled (.jobComplete e post live iphys) s fun u =>
      u.runOf e = none ∧ u.get CAN.JOB_CNT_2.REJECTED = min (s.get CAN.JOB_CNT_2.REJECTED + 1) 65535 ∧
      (∀ j, (u.cs j).adaptAt = (s.cs j).adaptAt ∧ (u.cs j).shift = (s.cs j).shift ∧ (u.cs j).xts = (s.cs j).xts) ∧
      u.can.pool = s.can.pool) ∧
    (s.current r.job = true → r.job.kind = 1 → post ≤ live + 50 →
      (s.cs r.job.slot).zeroDue = true ∨ s.inputBad r.job.slot = true ∨ s.canBad r.job.slot = true →
      AnswersSettled (.jobComplete e post live iphys) s fun u => u.runOf e = none ∧
        (u.cs r.job.slot).adaptAt = (s.cs r.job.slot).adaptAt ∧ u.can.pool = s.can.pool) ∧
    (s.current r.job = true → r.job.kind = 1 → post ≤ live + 50 → (s.cs r.job.slot).mode = 1 → (s.cs r.job.slot).zeroDue = false →
      s.inputBad r.job.slot = false → s.canBad r.job.slot = false →
      AnswersSettled (.jobComplete e post live iphys) s fun u => u.runOf e = none ∧ (u.cs r.job.slot).adaptAt = some s.now ∧
        (u.cs r.job.slot).bank = (s.cs r.job.slot).bank ∧ (u.cs r.job.slot).xts = (s.cs r.job.slot).xts) ∧
    AnswersVia (.jobTimeout e) s (fun u => (u.fire (0x30 + e.val / 16) YCL.src.JOB_TIMEOUT { slot := some r.job.slot }).settle) fun u =>
      u.runOf e = none ∧ r.at_ + ms 2 ≤ u.now ∧ u.get CAN.JOB_CNT_1.TIMEOUT = min (s.get CAN.JOB_CNT_1.TIMEOUT + 1) 65535 ∧
      u.canS = s.canS) ∧
  (∀ (s : State) (k : Fin 16), s.can.handDue.contains k.val = true → s.stopped (0x30 + k) = false → (s.nextUsable k).isSome = true →
    AnswersVia (.clusterHandoffDone k) s (fun u => (u.fire (0x30 + k) YCL.src.HANDOFF_DONE {}).settle) fun u =>
      (s.can.clOff.contains k.val = true → u.can.handDue.contains k.val = false) ∧ (∀ g < 16, u.deque (16 * k.val + g) = []) ∧
      u.canS = s.canS ∧ u.can.pool = s.can.pool ∧ u.can.run = s.can.run ∧ u.active = s.active)

/-- DIVERGENCE_WINDOW of a running slot, while the canceller runs: a residual within the threshold restarts the count, a first
excess is counted, and a second in a row clears the slot's shadow, sets DIVERGED and makes the slot cold before DIVERGE
fires. WARM_LOAD_DONE of the load in progress, while it runs, ends WARM_PEND and leaves the set that the enable found waiting
for its commit. SNAPSHOT_SAVE and SNAPSHOT_AUTO put a save in the NVM controller's queue where it takes one, and a save
requested while BUSY changes nothing more; SNAPSHOT_SAVE_DONE replaces the stored snapshot and sets RESULT to done, or leaves
it and sets cut short, before the notices fire. (R211, R213, R214, R215, R396) -/
def Obligations.DivergenceWarmAndSnapshots : Prop :=
  (∀ (s : State) (i : Fin 512) (x : Int), s.running i = true → s.stopped 0x20 = false →
    (x ≤ 100 * (s.get CAN.ADAPT_CFG.DIV_DB : Int) → AnswersSettled (.divergenceWindow i x) s fun u => (u.cs i).divWin = 0 ∧ Keeps s u []) ∧
    (100 * (s.get CAN.ADAPT_CFG.DIV_DB : Int) < x → (s.cs i).divWin = 0 → AnswersSettled (.divergenceWindow i x) s fun u =>
      (u.cs i).divWin = 1 ∧ Keeps s u []) ∧
    (100 * (s.get CAN.ADAPT_CFG.DIV_DB : Int) < x → 1 ≤ (s.cs i).divWin →
      AnswersVia (.divergenceWindow i x) s (fun u => (u.canNote i CAN.src.DIVERGE 7).settle) fun u =>
        u.get (CAN.SLOT_INFO.DIVERGED i) = 1 ∧ u.get (GOV.SLOT_GOV.COLD i) = 1 ∧ u.get (GOV.SLOT_GOV.URG i) = 3 ∧
        (u.cs i).zeroDue = true ∧ (u.cs i).adaptAt = none ∧ (u.cs i).xts = (s.cs i).xts ∧ u.active = s.active ∧
        ∀ t ∈ (s.cs i).xts, ∀ k < 64, Tab.get 0 u.can.pool (s.bankAt i t.ext false + k) = 0)) ∧
  (∀ (s : State) (i : Fin 512) (x : SnapSlot), s.can.warmQ.head? = some i.val → (s.cs i).warm = some x → s.stopped 0x20 = false →
    Answers (.warmLoadDone i) s fun u => u.get (CAN.SLOT_INFO.WARM_PEND i) = 0 ∧ (u.cs i).warmAt = some s.now ∧
      (u.cs i).bank = (s.cs i).bank ∧ u.can.warmQ.contains i.val = false ∧ u.nvm = s.nvm) ∧
  (∀ (s : State) (m : Master) (v : Word), s.takes m 0x2007C v → v.getLsbD 0 = true →
    (s.flag CAN.SNAP_STAT.BUSY = true → AnswersSettled (.snapshotSave m v) s fun u => u.nvm = s.nvm ∧
      u.get CAN.SNAP_CTL.AUTO = bits v.toNat 8 8 ∧ Keeps s u [CAN.SNAP_CTL.AUTO.key]) ∧
    (s.flag CAN.SNAP_STAT.BUSY = false → s.nvmCause rgSnap = 0 → AnswersSettled (.snapshotSave m v) s fun u =>
      u.get CAN.SNAP_STAT.BUSY = 1 ∧ u.get NVM.STAT.BUSY = 1 ∧ u.nvm.queue.length = s.nvm.queue.length + 1 ∧ u.nvm.snap = s.nvm.snap)) ∧
  (∀ s : State, s.get CAN.SNAP_CTL.AUTO ≠ 0 → s.inReset = false → s.rst.loaded = true → s.flag CAN.SNAP_STAT.BUSY = false →
    s.nvmCause rgSnap = 0 → AnswersSettled .snapshotAuto s fun u => u.get CAN.SNAP_STAT.BUSY = 1 ∧
      u.nvm.queue.length = s.nvm.queue.length + 1 ∧ s.can.autoAt + s.get CAN.SNAP_CTL.AUTO * ms 360000 ≤ u.now ∧ u.can.autoAt = u.now) ∧
  (∀ (s : State) (q : NvmReq) (l : List NvmReq), s.nvm.queue = q :: l → q.region = rgSnap →
    (AnswersVia (.snapshotSaveDone true) s (fun u => ((u.nvmEnd 7 rgSnap 1).fire 0x20 CAN.src.SNAP_DONE {}).settle) fun u =>
      u.nvm.snap = q.snap ∧ u.nvm.queue = l ∧ u.get CAN.SNAP_STAT.RESULT = 1) ∧
    AnswersVia (.snapshotSaveDone false) s (fun u => ((u.nvmEnd 7 rgSnap 6).fire 0x20 CAN.src.SNAP_FAIL {}).settle) fun u =>
      u.nvm.snap = s.nvm.snap ∧ u.nvm.queue = l ∧ u.get CAN.SNAP_STAT.RESULT = 3)

/-- CLOVER_PERIOD_START outside reset with Clover and the governor on and the datapath clocked, no mode change pending, no
injection to end and no loop capture running, moves to the next 100 µs boundary, counts the period, takes the timing written,
writes every slot loop's reference with −M_s, and gives every enabled slot the highest of its grade, URG_MIN and its loop's
demand as urgency; while the datapath's clocks are gated only the time goes on. CLOVER_WRITE_PHASE in native timing, once per
period and no earlier than 75 µs into it, writes the outputs of every loop that has worked and leaves those of the held ones,
before the ports decide their steps. COMPAT_LOOP_COMPLETE does nothing on a lane that does not serve the loop; on the one
that does it comes at the cycle that the order of deadlines gives the loop, writes its outputs in time, and when that cycle
lies after the deadline keeps them and sets both MISS bits before LOOP_MISS fires. (R225, R234, R238, R239, R240) -/
def Obligations.CloverPeriods : Prop :=
  (∀ (s : State) (obs : List LoopObs), s.inReset = false → s.clocksGated = true → AnswersSettled (.cloverPeriodStart obs) s fun u =>
    u = { s with now := max s.now (s.periodAt (max s.now (s.clv.start + 1))) }) ∧
  (∀ (s : State) (obs : List LoopObs), s.inReset = false → s.clocksGated = false → s.pageOff 0x22 = false → s.pageOff 0x23 = false → (∀ l, (s.loop l).modeAt = none) →
    s.injOver = false → s.flag CAP.LCAP_CTL.ARMED = false → AnswersSettled (.cloverPeriodStart obs) s fun u =>
      u.now = max s.now (s.periodAt (max s.now (s.clv.start + 1))) ∧ u.clv.start = u.now ∧ u.clv.writeDue = true ∧
      u.get CLV.PERIOD.COUNT = (s.get CLV.PERIOD.COUNT + 1) % 2 ^ 32 ∧
      u.get CLV.TIMING.NOW = s.get CLV.TIMING.MODE % 2 ∧ u.get CLV.TIMING.PEND = 0 ∧
      (∀ i < 512, u.get (CLV.LOOP_REF0.VALUE i) = toField 32 (ofCenti (-s.margin i))) ∧
      (∀ i ∈ s.enabled, i < 512 → u.get (GOV.SLOT_GOV.URG i) = max (max (s.grade i) (s.get (SLP.GOV_CFG.URG_MIN i))) (s.loopUrgency i) % 4) ∧
      (∀ l < 544, u.get (CLV.LOOP_OUT0.VALUE l) = s.get (CLV.LOOP_OUT0.VALUE l)) ∧ u.active = s.active ∧ u.slots = s.slots) ∧
  (∀ s : State, s.clv.writeDue = true → s.stopped 0x22 = false → s.flag CLV.TIMING.NOW = false →
    AnswersVia .cloverWritePhase s (fun u => ((List.range 32).foldl (fun t p => t.pwtDecide p) u).settle) fun u =>
    u.now = max s.now (s.clv.start + 73728) ∧ u.clv.writeDue = false ∧ u.active = s.active ∧
    ∀ l < 544, (∀ x, (s.loop l).nxt = some x → u.get (CLV.LOOP_OUT0.VALUE l) = toField 32 x.u0 ∧
        u.get (CLV.LOOP_OUT1.VALUE l) = toField 32 x.u1 ∧ u.get (CLV.LOOP_STAT.SAT l) = x.sat.toNat ∧ (u.loop l).z = x.z) ∧
      ((s.loop l).nxt = none → u.get (CLV.LOOP_OUT0.VALUE l) = s.get (CLV.LOOP_OUT0.VALUE l) ∧
        u.get (CLV.LOOP_OUT1.VALUE l) = s.get (CLV.LOOP_OUT1.VALUE l) ∧ u.loop l = s.loop l)) ∧
  (∀ (s : State) (l : Fin 544) (k : Fin 4), s.stopped 0x22 = false → s.flag CLV.TIMING.NOW = true → (s.loop l).due = true →
    (s.laneOf l ≠ k → AnswersSettled (.compatLoopComplete l k) s fun u => u = s) ∧
    (s.laneOf l = k → 200 * s.doneCycle l ≤ s.get (CLV.LOOP_CTL.DEADLINE l) * 98304 → ∀ x, (s.loop l).nxt = some x →
      AnswersVia (.compatLoopComplete l k) s (fun u => (if l.val < 512 then u else u.pwtDecide (l.val - 512)).settle) fun u =>
        u.get (CLV.LOOP_OUT0.VALUE l) = toField 32 x.u0 ∧ u.get (CLV.LOOP_OUT1.VALUE l) = toField 32 x.u1 ∧ (u.loop l).due = false ∧
        (u.loop l).xh = x.xh ∧ u.now = max s.now (s.clv.start + 2 * s.doneCycle l)) ∧
    (s.laneOf l = k → s.get (CLV.LOOP_CTL.DEADLINE l) * 98304 < 200 * s.doneCycle l →
      AnswersVia (.compatLoopComplete l k) s (fun u => (u.fire 0x22 CLV.src.LOOP_MISS {}).settle) fun u =>
        tbit (u.get (CLV.MISS.MISS (l.val / 32))) (l.val % 32) = true ∧ u.get (CLV.LOOP_STAT.MISS l) = 1 ∧ (u.loop l).due = false ∧
        (u.loop l).xh = (s.loop l).xh ∧ u.now = max s.now (s.clv.start + 2 * s.doneCycle l) ∧
        Keeps s u [(CLV.MISS.MISS (l.val / 32)).key, (CLV.LOOP_STAT.MISS l).key]))

/-- A write of LOOP_CTL taken without MAT_COMMIT sets MODE and DEADLINE of the selected loop and leaves MODE_NOW and both banks
as they are; with MAT_COMMIT it also sets MAT_PEND where the loop is open, and otherwise sets CREF before COEF_REFUSED fires,
and nothing else. A write of MAT_DATA to an open loop sets the selected word of the shadow bank and no other word of either
bank, and steps WORD; one to a closed loop, or with the live bank selected, changes no word and no WORD and sets CREF before
COEF_REFUSED fires. A read returns the selected word, and steps WORD for the owner or a delegate alone. A write of TIMING
sets MODE and shows in PEND whether it differs from the timing in force. (R236, R240, R241, R244, R245) -/
def Obligations.LoopControl : Prop :=
  (∀ (s : State) (m : Master) (v : Word), s.verdict m 0x2204C v (fieldsAt (0x100000 + 0x40 * s.selLoop)) true .take →
    (v.getLsbD 8 = false → AnswersSettled (.loopModeWrite m v) s fun u =>
      u.get (CLV.LOOP_CTL.MODE s.selLoop) = bits v.toNat 0 1 ∧ u.get (CLV.LOOP_CTL.DEADLINE s.selLoop) = bits v.toNat 16 8 ∧
      Keeps s u [(CLV.LOOP_CTL.MODE s.selLoop).key, (CLV.LOOP_CTL.DEADLINE s.selLoop).key] ∧ u.mat = s.mat ∧
      (bits v.toNat 0 1 ≠ s.get (CLV.LOOP_CTL.MODE s.selLoop) → bits v.toNat 0 1 ≠ s.get (CLV.LOOP_STAT.MODE_NOW s.selLoop) →
        (u.loop s.selLoop).modeAt = some s.now)) ∧
    (v.getLsbD 8 = true → s.coefLocked s.selLoop = false → AnswersSettled (.matCommit m v) s fun u =>
      u.get (CLV.LOOP_STAT.MAT_PEND s.selLoop) = 1 ∧ u.get (CLV.LOOP_CTL.MODE s.selLoop) = bits v.toNat 0 1 ∧ u.mat = s.mat ∧
      Keeps s u [(CLV.LOOP_CTL.MODE s.selLoop).key, (CLV.LOOP_CTL.DEADLINE s.selLoop).key, (CLV.LOOP_STAT.MAT_PEND s.selLoop).key]) ∧
    (v.getLsbD 8 = true → s.coefLocked s.selLoop = true →
      AnswersVia (.matCommit m v) s (fun u => (u.fire 0x22 CLV.src.COEF_REFUSED { master := m.num }).settle) fun u =>
        u.get (CLV.LOOP_STAT.CREF s.selLoop) = 1 ∧ u.mat = s.mat ∧ u.loops = s.loops ∧ Keeps s u [(CLV.LOOP_STAT.CREF s.selLoop).key])) ∧
  (∀ (s : State) (m : Master) (v : Word), s.takes m 0x22070 v →
    (s.coefLocked s.selLoop = false → s.get CLV.MAT_ADDR.WORD < 140 → AnswersSettled (.matDataAccess m true v) s fun u =>
      (∀ l < 544, ∀ w < 160, ∀ live, u.matWord l live w =
        if l = s.selLoop ∧ live = false ∧ w = s.get CLV.MAT_ADDR.WORD then v.toNat else s.matWord l live w) ∧
      u.get CLV.MAT_ADDR.WORD = s.get CLV.MAT_ADDR.WORD + 1 ∧ Keeps s u [CLV.MAT_ADDR.WORD.key]) ∧
    (s.coefLocked s.selLoop = true →
      AnswersVia (.matDataAccess m true v) s (fun u => (u.fire 0x22 CLV.src.COEF_REFUSED { master := m.num }).settle) fun u =>
        u.mat = s.mat ∧ u.get (CLV.LOOP_STAT.CREF s.selLoop) = 1 ∧ Keeps s u [(CLV.LOOP_STAT.CREF s.selLoop).key])) ∧
  (∀ (s : State) (m : Master) (v : Word), s.reaches m → s.pageOff 0x22 = false → AnswersSettled (.matDataAccess m false v) s fun u =>
    u.out = [BitVec.ofNat 32 s.matData] ∧ u.mat = s.mat ∧ Keeps s u [CLV.MAT_ADDR.WORD.key] ∧
    u.get CLV.MAT_ADDR.WORD = if s.readsWithEffect m 0x22 then (s.get CLV.MAT_ADDR.WORD + 1) % 160 else s.get CLV.MAT_ADDR.WORD) ∧
  (∀ (s : State) (m : Master) (v : Word), s.takes m 0x22040 v → Answers (.timingModeWrite m v) s fun u =>
    u.get CLV.TIMING.MODE = bits v.toNat 0 1 ∧ u.get CLV.TIMING.PEND = (bits v.toNat 0 1 != s.get CLV.TIMING.NOW).toNat ∧
    Keeps s u [CLV.TIMING.MODE.key, CLV.TIMING.PEND.key] ∧ u.loops = s.loops)

/-- A write of INJ_CTL with EN = 1 while EN was 0 takes the fields written and waits for a period start; one with EN = 0 while it
runs ends it at once, and INJECTION_END at a period start, EN and ACTIVE cleared before INJ_DONE fires. A write of LCAP_CTL
or IQ_CTL with ARM = 1 sets ARMED, clears DONE and starts the capture anew; LOOP_CAPTURE_TRIGGER of an armed loop capture
whose trigger has come changes no register and starts the count of the periods that remain; IQ_CAPTURE_TRIGGER of an armed
I/Q capture whose trigger has come clears ARMED and sets DONE once the buffer has filled, before IQ_DONE fires. Reads of
LCAP_DATA and IQ_DATA return the word selected, 0 while ARMED, and step WORD for the owner or a delegate alone. (R246, R247,
R248, R254) -/
def Obligations.InjectionAndCaptures : Prop :=
  (∀ (s : State) (m : Master) (v : Word), s.takes m 0x24040 v → v.getLsbD 0 = true → s.flag CAP.INJ_CTL.EN = false →
    AnswersSettled (.injectionStart m v) s fun u => u.get CAP.INJ_CTL.EN = 1 ∧ u.clv.injDue = true ∧
      u.get CAP.INJ_CTL.LOOP = bits v.toNat 16 10 ∧ u.get CAP.INJ_CTL.POINT = bits v.toNat 12 2 ∧ u.get CAP.INJ_CTL.WAVE = bits v.toNat 8 3 ∧
      Keeps s u [CAP.INJ_CTL.EN.key, CAP.INJ_CTL.LOOP.key, CAP.INJ_CTL.POINT.key, CAP.INJ_CTL.WAVE.key]) ∧
  (∀ (s : State) (m : Master) (v : Word), s.takes m 0x24040 v → v.getLsbD 0 = false → s.flag CAP.INJ_CTL.ACTIVE = true →
    AnswersVia (.injectionStart m v) s (fun u => (u.fire 0x24 CAP.src.INJ_DONE {}).settle) fun u =>
      u.get CAP.INJ_CTL.EN = 0 ∧ u.get CAP.INJ_CTL.ACTIVE = 0 ∧ u.clv.inj = 0 ∧ u.clv.injDue = false ∧ u.now = s.now) ∧
  (∀ s : State, s.injOver = true → s.stopped 0x24 = false → AnswersVia .injectionEnd s (fun u => (u.fire 0x24 CAP.src.INJ_DONE {}).settle) fun u =>
    u.get CAP.INJ_CTL.EN = 0 ∧ u.get CAP.INJ_CTL.ACTIVE = 0 ∧ u.clv.inj = 0 ∧ Keeps s u [CAP.INJ_CTL.EN.key, CAP.INJ_CTL.ACTIVE.key] ∧
    u.now = max s.now (s.periodAt (max s.now (s.clv.start + 1)))) ∧
  (∀ (s : State) (m : Master) (v : Word), s.verdict m 0x24050 v (fieldsAt 0x24050) (lcapPreOk v) .take → v.getLsbD 0 = true →
    Answers (.loopCaptureArm m v) s fun u => u.get CAP.LCAP_CTL.ARMED = 1 ∧ u.get CAP.LCAP_CTL.DONE = 0 ∧ u.clv.lcap = [] ∧
      u.clv.lcapLeft = none ∧ u.get CAP.LCAP_CTL.PRE = bits v.toNat 10 14 ∧
      Keeps s u [CAP.LCAP_CTL.ARMED.key, CAP.LCAP_CTL.DONE.key, CAP.LCAP_CTL.NSIG.key, CAP.LCAP_CTL.TRIG.key, CAP.LCAP_CTL.PRE.key]) ∧
  (∀ s : State, s.stopped 0x24 = false → s.flag CAP.LCAP_CTL.ARMED = true → s.clv.lcapHit = true → s.clv.lcapLeft = none → Answers .loopCaptureTrigger s fun u =>
    u = { s with clv := u.clv } ∧ u.clv.lcap = s.clv.lcap ∧
    u.clv.lcapLeft = some (16384 / 2 ^ s.get CAP.LCAP_CTL.NSIG - min (s.get CAP.LCAP_CTL.PRE) s.clv.lcapN)) ∧
  (∀ (s : State) (m : Master) (v : Word), s.takes m 0x24070 v → v.getLsbD 0 = true → Answers (.iqCaptureArm m v) s fun u =>
    u.get CAP.IQ_CTL.ARMED = 1 ∧ u.get CAP.IQ_CTL.DONE = 0 ∧ u.get CAP.IQ_CTL.SLOT = bits v.toNat 8 9 ∧ u.clv.iqAt = s.now ∧
    u.clv.iqId = s.clv.iqId) ∧
  (∀ (s : State) (t : Nat), s.stopped 0x24 = false → s.flag CAP.IQ_CTL.ARMED = true → s.clv.iqTrig = some t → AnswersVia .iqCaptureTrigger s (fun u => (u.fire 0x24 CAP.src.IQ_DONE {}).settle) fun u =>
    u.get CAP.IQ_CTL.ARMED = 0 ∧ u.get CAP.IQ_CTL.DONE = 1 ∧ u.clv.iqTrig = none ∧ u.clv.iqId = s.clv.iqId + 1 ∧
    u.now = max s.now (t + s.iqSpan (16 - s.get CAP.IQ_CTL.PRE)) ∧ u.clv.iqSlot = s.get CAP.IQ_CTL.SLOT ∧
    u.clv.iqA = s.get CAP.IQ_CTL.POINTA ∧
    Keeps s u [CAP.IQ_CTL.ARMED.key, CAP.IQ_CTL.DONE.key, CAP.IQ_STAT.START.key]) ∧
  (∀ (s : State) (m : Master), s.reaches m → s.pageOff 0x24 = false →
    (Answers (.lcapDataRead m) s fun u => Keeps s u [CAP.LCAP_ADDR.WORD.key] ∧ u.clv = s.clv ∧
      u.out = [BitVec.ofNat 32 (if s.flag CAP.LCAP_CTL.ARMED then 0 else Tab.get 0 s.clv.lcap (s.get CAP.LCAP_ADDR.WORD))] ∧
      u.get CAP.LCAP_ADDR.WORD = if s.readsWithEffect m 0x24 then (s.get CAP.LCAP_ADDR.WORD + 1) % 2 ^ 14 else s.get CAP.LCAP_ADDR.WORD) ∧
    (Answers (.iqDataRead m) s fun u => Keeps s u [CAP.IQ_ADDR.WORD.key] ∧ u.clv = s.clv ∧
      u.out = [BitVec.ofNat 32 s.iqData] ∧ (s.flag CAP.IQ_CTL.ARMED = true → u.out = [0]) ∧
      u.get CAP.IQ_ADDR.WORD = if s.readsWithEffect m 0x24 then (s.get CAP.IQ_ADDR.WORD + 1) % 2 ^ 21 else s.get CAP.IQ_ADDR.WORD))

/-- ANALYSIS_FRAME_COMPLETE of a running slot, of a frame that begins at or after the end of the last: a frame with an invalid
sample restarts the history; of the others one that overlaps a crossfade or a clamp's fade, or leaves the slot's interval,
changes nothing but the end of the last frame; one after which no bin of it lies above −3 dB counts, takes the averages of
its bins and clamps nothing; a bin then above −3 dB that no notch covers, from the fourth frame on, while no hold silences
the slot and before R286 applies, gets a notch, deepens its cut to the margin and raises the urgency to 3 before CLAMP fires.
OSC_MUTE_END after the hold ends the OSC mute, and with it HOLD.PROTECT where no other reason stands; PROT_UNLATCH taken ends
the latch of the selected slot and its count. Reads of the bin words, SUM0 and SUB_DATA return the selected words, with their
side effects for the owner or a delegate alone; a write of SUB_DATA sets the owner's gain and leaves the governor's cut.
(R220, R221, R227, R228, R230, R250, R251, R287) -/
def Obligations.EstimatesAndClamps : Prop :=
  (∀ (s v : State) (i : Fin 512) (wait : Fin 9831) (invalid : Bool) (est bins : List BinEst) (t1 t0 : Nat), t1 = s.now - wait →
    t0 = t1 - 512 * s.sampleT i → bins = s.frameOf i t0 est → v = (s.modGv i fun g => { g with frameEnd := t1 }) →
    s.running i = true → s.stopped 0x21 = false → (s.gv i).frameEnd ≤ t0 →
    (invalid = true ∨ s.estBad i = true → AnswersSettled (.analysisFrameComplete i invalid est wait) s fun u =>
      u.get (OBS.SUM1.HIST i) = 0 ∧ (u.gv i).frames = 0 ∧ u.get (OBS.SUM1.VALID_BINS i) = 0 ∧ (u.gv i).notches = (s.gv i).notches ∧
      u.slots = s.slots) ∧
    (invalid = false → s.estBad i = false → (s.faded i t0 t1 = true ∨ s.inWindow i t0 t1 = false) →
      AnswersSettled (.analysisFrameComplete i invalid est wait) s fun u => u = v) ∧
    (∀ r : State, r = v.takeFrame i t0 bins → invalid = false → s.estBad i = false → s.faded i t0 t1 = false → s.inWindow i t0 t1 = true →
      r.oscDue i = false →
      (r.highBins i bins = [] → AnswersSettled (.analysisFrameComplete i invalid est wait) s fun u =>
        (u.gv i).frames = (s.gv i).frames + 1 ∧ (u.gv i).notches = (s.gv i).notches ∧ (u.gv i).cut = (s.gv i).cut ∧
        u.get (OBS.SUM1.HIST i) = (decide (4 * 2 ^ s.get OBS.EST_CFG.AVG ≤ (s.gv i).frames + 1)).toNat ∧ u.slots = s.slots ∧
        ∀ e, est = [e] → (Tab.get {} (u.gv i).est e.bin.val).lg = (s.formed i e.bin ((Tab.get {} (s.gv i).est e.bin.val).take e
          ((s.gv i).frames == 0) (if 0 < (s.gv i).reseed then 1 else s.get OBS.EST_CFG.AVG))).lg) ∧
      (∀ (b : Nat) (lg : Int), r.highBins i bins = [(b, lg)] → 3 ≤ (s.gv i).frames → s.get (SLP.SLOT_STAT.HOLD i) = 0 →
        (s.gv i).notches.length < 8 → ((s.gv i).notches.any fun x => s.notchCovers i x.bin b) = false →
        AnswersVia (.analysisFrameComplete i invalid est wait) s (fun u => (u.fire 0x23 GOV.src.CLAMP
            { slot := some i.val, detail := clampDetail b lg }).settle) fun u =>
          u.get (GOV.SLOT_GOV.NOTCHES i) = (s.gv i).notches.length + 1 ∧ u.get (GOV.SLOT_GOV.URG i) = 3 ∧
          Tab.get 0 (u.gv i).cut b = min (Tab.get 0 (s.gv i).cut b) (s.cutL i b - (lg + s.margin i)) ∧
          u.get GOV.CLAMP_CNT.NOTCH = min (s.get GOV.CLAMP_CNT.NOTCH + 1) 65535 ∧ u.slots = s.slots))) ∧
  (∀ (s : State) (i : Fin 512), s.flag (GOV.PROT_STAT.OSC i) = true → AnswersSettled (.oscMuteEnd i) s fun u =>
    u.get (GOV.PROT_STAT.OSC i) = 0 ∧ u.now = max s.now (s.gv i).oscEnd ∧
    (s.flag (GOV.PROT_STAT.LATCHED i) = false → s.flag (GOV.PROT_STAT.MASK i) = false → s.flag (GOV.PROT_STAT.DUTY i) = false →
      s.flag (GOV.PROT_STAT.BAND i) = false → i.val ∈ s.enabled → tbit (u.get (SLP.SLOT_STAT.HOLD i)) hProtect = false) ∧
    Keeps s u [(GOV.PROT_STAT.OSC i).key, (SLP.SLOT_STAT.HOLD i).key]) ∧
  (∀ (s : State) (m : Master) (v : Word) (i : Nat), i = s.get GOV.PROT_SEL.SLOT → s.takes m 0x2306C v → v.getLsbD 0 = true →
    s.flag (GOV.PROT_STAT.LATCHED i) = true → AnswersSettled (.protUnlatch m v) s fun u =>
      u.get (GOV.PROT_STAT.LATCHED i) = 0 ∧ u.get (GOV.PROT_STAT.MUTES i) = 0 ∧ (u.gv i).mutes = [] ∧
      Keeps s u [(GOV.PROT_STAT.LATCHED i).key, (GOV.PROT_STAT.MUTES i).key, (SLP.SLOT_STAT.HOLD i).key]) ∧
  (∀ (s : State) (m : Master), s.reaches m → s.pageOff 0x21 = false →
    (Answers (.binDataRead m false) s fun u => u.out = [BitVec.ofNat 32 s.binWord0] ∧ u.get OBS.BIN_SEL.BIN = s.get OBS.BIN_SEL.BIN ∧
      (s.readsWithEffect m 0x21 = true → u.get OBS.BIN_DATA1.IPHYS = bits s.binWord1 16 16 ∧
        u.get OBS.BIN_DATA1.VALID = bits s.binWord1 7 1) ∧
      (s.readsWithEffect m 0x21 = false → Keeps s u [])) ∧
    (Answers (.binDataRead m true) s fun u => u.out = [BitVec.ofNat 32 (s.assemble (fieldsAt 0x21048))] ∧ Keeps s u [OBS.BIN_SEL.BIN.key] ∧
      u.get OBS.BIN_SEL.BIN = if s.readsWithEffect m 0x21 then (s.get OBS.BIN_SEL.BIN + 1) % 512 else s.get OBS.BIN_SEL.BIN) ∧
    (Answers (.obsSumRead m) s fun u => u.out = [BitVec.ofNat 32 s.sumWord0] ∧ Keeps s u [] ∧
      u.clv.sum1 = if s.readsWithEffect m 0x21 then s.sumWord1 else s.clv.sum1)) ∧
  (∀ (s : State) (m : Master) (v : Word) (i b : Nat), i = s.get GOV.SUB_SEL.SLOT → b = s.get GOV.SUB_SEL.BIN →
    (s.takes m 0x23054 v → Answers (.subDataAccess m true v) s fun u =>
      Tab.get 0 (u.gv i).owner b = bits v.toNat 16 12 ∧ (u.gv i).cut = (s.gv i).cut ∧
      u.get GOV.SUB_SEL.BIN = (b + 1) % 512 ∧ Keeps s u [GOV.SUB_SEL.BIN.key]) ∧
    (s.reaches m → s.pageOff 0x23 = false → Answers (.subDataAccess m false v) s fun u =>
      u.out = [BitVec.ofNat 32 s.subWord] ∧ u.gov = s.gov ∧ Keeps s u [GOV.SUB_SEL.BIN.key] ∧
      u.get GOV.SUB_SEL.BIN = if s.readsWithEffect m 0x23 then (b + 1) % 512 else b))

/-- A write of SEQ_DATA or RFFE_CMD taken for the shadow bank sets the word selected and no other (reserved bits of a first word
aside), and the selection steps on after the second word; one for the live bank, or of SEQ_DATA while PEND is 1, changes no
word; a read returns the word. A commit is refused with PATTERN, TURN or BUSY in that order, PEND as before, before
SEQ_REFUSED fires, and otherwise sets PEND. SEQ_TABLE_LIVE at the next frame boundary copies both shadow tables of the page
to the live bank and clears PEND. RUN = 1 waits for a frame boundary, at which SEQ_START sets RUNNING with every line that no
diversity port owns at IDLE; RUN = 0 stops the table at the next tick. (R255, R256, R258, R261, R262, R263) -/
def Obligations.SequencerTables : Prop :=
  (∀ (s : State) (m : Master) (k : Fin 4) (w : Bool) (v : Word),
    s.verdict m (0x25048 + 0x1000 * k.val + 4 * w.toNat) v [] (if w.toNat = 0 then entryOk v.toNat
      else offsetOk (s.seqWord k (s.seqSel k) 0 false) v.toNat) .take →
    Answers (.seqDataAccess m k w true v) s fun u => Keeps s u [(FEC.SEQ_SEL.ENTRY k).key] ∧
      (w = true → u.seqSel k = (s.seqSel k + 1) % 1024) ∧ (w = false → u.seqSel k = s.seqSel k) ∧
      (s.flag (FEC.SEQ_SEL.BANK k) = true ∨ s.flag (FEC.SEQ_CTL.PEND k) = true → u.seqTab = s.seqTab) ∧
      (s.flag (FEC.SEQ_SEL.BANK k) = false → s.flag (FEC.SEQ_CTL.PEND k) = false → ∀ j < 4, ∀ e < 1024, ∀ x < 2, ∀ live,
        u.seqWord j e x live = if j = k.val ∧ e = s.seqSel k ∧ x = w.toNat ∧ live = false
          then (if w then v.toNat else v.toNat - bits v.toNat 8 12 * 256) else s.seqWord j e x live)) ∧
  (∀ (s : State) (m : Master) (k : Fin 4) (w : Bool) (v : Word),
    s.verdict m (0x25088 + 0x1000 * k.val + 4 * w.toNat) v [] (if w.toNat = 0 then cmd0Ok v.toNat
      else cmd1Ok (s.cmdWord k (s.cmdSel k) 0 false) v.toNat) .take →
    Answers (.rffeCmdAccess m k w true v) s fun u => Keeps s u [(FEC.RFFE_CMD_SEL.INDEX k).key] ∧
      (w = true → u.cmdSel k = (s.cmdSel k + 1) % 256 ∧ (s.flag (FEC.RFFE_CMD_SEL.BANK k) = false →
        u.cmdWord k (s.cmdSel k) 1 false = v.toNat)) ∧
      (s.flag (FEC.RFFE_CMD_SEL.BANK k) = true → u.cmdTab = s.cmdTab)) ∧
  (∀ (s : State) (m : Master) (k : Fin 4) (w : Bool) (v : Word), s.reaches m → s.pageOff (0x25 + k.val) = false →
    (Answers (.seqDataAccess m k w false v) s fun u =>
      u.out = [BitVec.ofNat 32 (s.seqWord k (s.seqSel k) w.toNat (s.flag (FEC.SEQ_SEL.BANK k)))] ∧ u.seqTab = s.seqTab ∧
      u.seqSel k = (if w = true ∧ s.readsWithEffect m (0x25 + k.val) = true then (s.seqSel k + 1) % 1024 else s.seqSel k)) ∧
    Answers (.rffeCmdAccess m k w false v) s fun u =>
      u.out = [BitVec.ofNat 32 (s.cmdWord k (s.cmdSel k) w.toNat (s.flag (FEC.RFFE_CMD_SEL.BANK k)))] ∧ u.cmdTab = s.cmdTab ∧
      u.cmdSel k = (if w = true ∧ s.readsWithEffect m (0x25 + k.val) = true then (s.cmdSel k + 1) % 256 else s.cmdSel k)) ∧
  (∀ (s : State) (m : Master) (k : Fin 4) (v : Word), s.takes m (0x25040 + 0x1000 * k.val) v → v.getLsbD 8 = true → v.getLsbD 0 = true →
    s.flag (FEC.SEQ_CTL.RUNNING k) = true →
    let es := (List.range 1024).filter fun e => eValid (s.seqWord k e 0 false)
    let pattern := es.any fun e => eRef (s.seqWord k e 0 false) != 0 && !s.patKnown (ePat (s.seqWord k e 0 false))
    let turn := es.any (s.breaksTurn k)
    (pattern = false → turn = false → s.flag (FEC.SEQ_CTL.PEND k) = false → AnswersSettled (.seqCommit m k v) s fun u =>
      u.get (FEC.SEQ_CTL.PEND k) = 1 ∧ u.get (FEC.SEQ_CTL.REFUSE k) = 0 ∧ (u.fec k).commitAt = s.now ∧ u.seqTab = s.seqTab ∧
      Keeps s u [(FEC.SEQ_CTL.PEND k).key, (FEC.SEQ_CTL.REFUSE k).key, (FEC.SEQ_CTL.RUN k).key]) ∧
    (pattern = true ∨ turn = true ∨ s.flag (FEC.SEQ_CTL.PEND k) = true →
      AnswersVia (.seqCommit m k v) s (fun u => (u.fire (0x25 + k.val) FEC.src.SEQ_REFUSED { master := m.num }).settle) fun u =>
        u.get (FEC.SEQ_CTL.REFUSE k) = (if pattern then 2 else if turn then 1 else 3) ∧ u.seqTab = s.seqTab ∧
        Keeps s u [(FEC.SEQ_CTL.REFUSE k).key, (FEC.SEQ_CTL.RUN k).key])) ∧
  (∀ (s : State) (k : Fin 4), s.flag (FEC.SEQ_CTL.PEND k) = true → s.inReset = false → s.resetting (0x25 + k) = false → Answers (.seqTableLive k) s fun u =>
    u.get (FEC.SEQ_CTL.PEND k) = 0 ∧ u.now = max s.now (s.frameAt (max s.now ((s.fec k).commitAt + 1))) ∧
    (∀ j < 4, ∀ e < 1024, ∀ w < 2, u.seqWord j e w true = s.seqWord j e w (decide (j ≠ k.val)) ∧
      u.seqWord j e w false = s.seqWord j e w false) ∧
    (∀ e < 256, ∀ w < 2, u.cmdWord k e w true = s.cmdWord k e w false) ∧
    Keeps s u [(FEC.SEQ_CTL.PEND k).key, (FEC.LEVEL.NOW k).key]) ∧
  (∀ (s : State) (m : Master) (k : Fin 4) (v : Word), s.takes m (0x25040 + 0x1000 * k.val) v → v.getLsbD 8 = false →
    (v.getLsbD 0 = true → s.flag (FEC.SEQ_CTL.RUNNING k) = false → (s.fec k).startDue = false → AnswersSettled (.seqRun m k v) s fun u =>
      u.get (FEC.SEQ_CTL.RUN k) = 1 ∧ (u.fec k).startDue = true ∧ (u.fec k).startAt = s.now ∧ Keeps s u [(FEC.SEQ_CTL.RUN k).key]) ∧
    (v.getLsbD 0 = false → s.flag (FEC.SEQ_CTL.RUNNING k) = true → AnswersSettled (.seqStop m k v) s fun u =>
      u.get (FEC.SEQ_CTL.RUN k) = 0 ∧ u.get (FEC.SEQ_CTL.RUNNING k) = 0 ∧ u.now = s.now + 1 ∧
      (∀ j < 32, s.lineDiv (32 * k.val + j) = none →
        tbit (u.get (FEC.LEVEL.NOW k)) j = tbit (s.get (FEC.IDLE.LEVEL k)) j) ∧
      Keeps s u [(FEC.SEQ_CTL.RUN k).key, (FEC.SEQ_CTL.RUNNING k).key, (FEC.LEVEL.NOW k).key])) ∧
  (∀ (s : State) (k : Fin 4), (s.fec k).startDue = true → s.flag PWR.PAD_RELEASE.FE_HELD = false → s.get PWR.PWR_CMD.STATE < 2 →
    s.stopped (0x25 + k) = false → s.inReset = false → (∀ e ∈ s.lineAt, e.1 / 32 ≠ k.val) → Answers (.seqStart k) s fun u =>
      u.get (FEC.SEQ_CTL.RUNNING k) = 1 ∧ u.now = max s.now (s.frameAt (max s.now ((s.fec k).startAt + 1))) ∧
      (∀ j < 32, s.lineDiv (32 * k.val + j) = none →
        tbit (u.get (FEC.LEVEL.NOW k)) j = tbit (s.get (FEC.IDLE.LEVEL k)) j) ∧
      Keeps s u [(FEC.SEQ_CTL.RUNNING k).key, (FEC.LEVEL.NOW k).key])

/-- SEQ_EVENT of a running table takes the entry's next event at its tick, each occurrence of the live table once: a LOW or HIGH
action on a line that no event has touched sets the level of that line and nothing else; one on a line that a higher entry
has set in the same tick is counted in CLASH before SEQ_CLASH fires, the level kept; an RFFE action with a valid command adds
its frame to the waiting queue of the command's bus, and a 17th frame of those due by then is discarded and counted before
RFFE_LATE fires. A bus that is idle, enabled for 100 µs, starts the first frame on the first SCLK boundary from its instant
on, for the length of its type, and one that starts more than 1 µs late is counted before RFFE_LATE fires; RFFE_FRAME_DONE
frees the bus, or hands it to a waiting read. RFFE_RD with GO sets BUSY and takes the bus where it is ready, and
RFFE_READ_DONE at the read's end clears BUSY with the data and the parity verdict, before RFFE_PARITY fires where the parity
is wrong. (R257, R259, R263, R264, R265) -/
def Obligations.EventsAndRffeFrames : Prop :=
  (∀ (s : State) (k : Fin 4) (e : Fin 1024) (t : Nat) (x : Sched) (old : Option Nat), s.flag (FEC.SEQ_CTL.RUNNING k) = true →
    s.resetting (0x25 + k) = false →
    s.nextEvent k e = some (t, x, old) →
    (eAct x.w0 < 2 → s.lineDiv (32 * k.val + eTarget x.w0) = none →
      (Tab.get 0 s.lineAt (32 * k.val + eTarget x.w0) = 0 → eTarget x.w0 < 32 → AnswersSettled (.seqEvent k e) s fun u => u.now = max s.now t ∧
        (∀ j < 32, tbit (u.get (FEC.LEVEL.NOW k)) j = if j = eTarget x.w0 then eAct x.w0 == 1 else tbit (s.get (FEC.LEVEL.NOW k)) j) ∧
        (∀ r, old = some r → Tab.get 0 (u.fec k).served e = r + 1) ∧ Keeps s u [(FEC.LEVEL.NOW k).key]) ∧
      (∀ e' : Fin 1024, e.val < e'.val → t ≤ s.now → Tab.get 0 s.lineAt (32 * k.val + eTarget x.w0) = 1 + 1024 * s.now + e'.val →
        eTarget x.w0 < 32 →
        AnswersVia (.seqEvent k e) s (fun u => (u.fire (0x25 + k.val) FEC.src.SEQ_CLASH {}).settle) fun u =>
          u.get (FEC.SEQ_CNT.CLASH k) = satAdd 16 (s.get (FEC.SEQ_CNT.CLASH k)) 1 % 2 ^ 16 ∧ Keeps s u [(FEC.SEQ_CNT.CLASH k).key])) ∧
    (∀ b, eAct x.w0 = 2 → tbit x.c0 31 = true → b = 2 * k.val + bits x.c0 30 1 →
      ((s.bus b).queue.length < 16 → AnswersSettled (.seqEvent k e) s fun u => u.now = max s.now t ∧ Keeps s u [] ∧
        (∀ r, old = some r → Tab.get 0 (u.fec k).served e = r + 1) ∧
        (∃ f ∈ (u.bus b).queue, f.inst = u.now ∧ f.page = k.val ∧ f.entry = e.val ∧ f.w0 = x.c0 ∧ f.w1 = x.c1) ∧
        (u.bus b).queue.length = (s.bus b).queue.length + 1 ∧ ∀ c ≠ b, u.bus c = s.bus c) ∧
      (16 ≤ ((s.bus b).queue.filter fun f => decide (f.inst ≤ max s.now t)).length →
        AnswersVia (.seqEvent k e) s (fun u => (u.fire (0x25 + k.val) FEC.src.RFFE_LATE {}).settle) fun u => u.buses = s.buses ∧
          u.get (FEC.SEQ_CNT.LATE k) = satAdd 16 (s.get (FEC.SEQ_CNT.LATE k)) 1 % 2 ^ 16 ∧ Keeps s u [(FEC.SEQ_CNT.LATE k).key]))) ∧
  (∀ (s : State) (b : Fin 8) (f : Frame) (rest : List Frame) (w : Nat × Nat), s.busReady b = true → (s.bus b).readWait = false →
    s.resetting (0x25 + b / 2) = false →
    (s.bus b).queue = f :: rest → w = s.frameTime b (framePeriods f.w0) (max s.now f.inst) false →
    (max s.now w.1 < f.inst + us 1 → AnswersSettled (.rffeFrameStart b) s fun u => u.now = max s.now w.1 ∧ (u.bus b).queue = rest ∧
      (u.bus b).cur = some f ∧ (u.bus b).endAt = w.2 ∧ Keeps s u []) ∧
    (f.inst + us 1 ≤ max s.now w.1 →
      AnswersVia (.rffeFrameStart b) s (fun u => (u.fire (0x25 + f.page) FEC.src.RFFE_LATE {}).settle) fun u =>
        (u.bus b).cur = some f ∧ (u.bus b).queue = rest ∧ (u.bus b).endAt = w.2 ∧ Keeps s u [(FEC.SEQ_CNT.LATE f.page).key] ∧
        u.get (FEC.SEQ_CNT.LATE f.page) = satAdd 16 (s.get (FEC.SEQ_CNT.LATE f.page)) 1 % 2 ^ 16)) ∧
  (∀ (s : State) (b : Fin 8) (f : Frame), (s.bus b).cur = some f → Answers (.rffeFrameDone b) s fun u => (u.bus b).cur = none ∧
    u.now = max s.now (s.bus b).endAt ∧ (u.bus b).queue = (s.bus b).queue ∧ Keeps s u [] ∧
    ((s.bus b).readWait = false → (u.bus b).readRun = (s.bus b).readRun) ∧
    ((s.bus b).readWait = true → (s.bus b).readRun = false → s.busEn b = true → (s.bus b).enAt + us 100 ≤ u.now →
      (u.bus b).readRun = true ∧ (u.bus b).readWait = false)) ∧
  (∀ (s : State) (m : Master) (k : Fin 4) (v : Word) (b : Nat), b = 2 * k.val + (v.getLsbD 29).toNat →
    s.verdict m (0x25090 + 0x1000 * k.val) v (fieldsAt (0x25090 + 0x1000 * k.val)) (v.getLsbD 28 || decide (bits v.toNat 16 8 < 0x20)) .take →
    v.getLsbD 8 = true → s.flag (FEC.RFFE_RD.BUSY k) = false → Answers (.rffeRead m k v) s fun u =>
      u.get (FEC.RFFE_RD.BUSY k) = 1 ∧ (s.busReady b = true → (u.bus b).readRun = true ∧ (u.bus b).readWait = false) ∧
      (s.busReady b = false → (u.bus b).readRun = (s.bus b).readRun ∧ (u.bus b).readWait = true) ∧
      (u.bus b).queue = (s.bus b).queue ∧ u.get (FEC.RFFE_RD.ADDR k) = bits v.toNat 16 8 ∧
      Keeps s u [(FEC.RFFE_RD.BUSY k).key, (FEC.RFFE_RD.BUS k).key, (FEC.RFFE_RD.EXT k).key, (FEC.RFFE_RD.USID k).key,
        (FEC.RFFE_RD.ADDR k).key]) ∧
  (∀ (s : State) (k : Fin 4) (b : Nat) (data : Byte), b = 2 * k.val ∨ b = 2 * k.val + 1 → (s.bus b).readRun = true →
    (AnswersSettled (.rffeReadDone k data false) s fun u => u.get (FEC.RFFE_RD.BUSY k) = 0 ∧ u.get (FEC.RFFE_RD.DATA k) = data.toNat ∧
      u.get (FEC.RFFE_RD.PERR k) = 0 ∧ Keeps s u [(FEC.RFFE_RD.BUSY k).key, (FEC.RFFE_RD.DATA k).key, (FEC.RFFE_RD.PERR k).key] ∧
      ((∀ c, c = 2 * k.val ∨ c = 2 * k.val + 1 → c ≠ b → (s.bus c).readRun = false ∧ (s.bus c).readWait = false) →
        (u.bus b).readRun = false ∧ (s.bus b).endAt ≤ u.now)) ∧
    AnswersVia (.rffeReadDone k data true) s (fun u => (u.fire (0x25 + k.val) FEC.src.RFFE_PARITY {}).settle) fun u =>
      u.get (FEC.RFFE_RD.BUSY k) = 0 ∧ u.get (FEC.RFFE_RD.DATA k) = data.toNat ∧ u.get (FEC.RFFE_RD.PERR k) = 1 ∧
      Keeps s u [(FEC.RFFE_RD.BUSY k).key, (FEC.RFFE_RD.DATA k).key, (FEC.RFFE_RD.PERR k).key])

/-- A write of TB_CTL while no slot is active takes source and pattern, SRC = DONOR only where the pattern is a live DONOR
pattern; otherwise REFUSE shows BUSY or PATTERN and source, pattern and epoch stay, before TB_REFUSED fires. TIMEBASE_EPOCH
makes the ALIGN pulse nearest to the source's next reference instant (a pulse, a whole second or a frame start) the start of
a second. TIMEBASE_SECOND at a second's boundary shows the offset, and one beyond 10 µs fires TB_DRIFT. PAT_EDGE is written
unless PEND is 1, and EDGE steps on either way. A commit sets REFUSE to the first of EDGES, GAP, SYNC, BUSY and INUSE that
holds before PAT_REFUSED fires, and with none sets PEND; PATTERN_LIVE then makes the shadow the live form at its instant.
(R266, R267, R268, R270) -/
def Obligations.TimebaseAndPatterns : Prop :=
  (∀ (s : State) (m : Master) (v : Word), s.takes m 0xE040 v →
    (s.active = [] → (bits v.toNat 0 2 = 3 → s.donorPat (bits v.toNat 4 4) = true) → AnswersSettled (.tbCtlWrite m v) s fun u =>
      u.get TDD.TB_CTL.SRC = bits v.toNat 0 2 ∧ u.get TDD.TB_CTL.PAT = bits v.toNat 4 4 ∧ u.get TDD.TB_CTL.REFUSE = 0 ∧
      (u.tb.epochDue = true ↔ bits v.toNat 0 2 ≠ 0) ∧ u.tb.epoch = s.tb.epoch ∧ u.tb.frame = s.tb.frame ∧
      Keeps s u [TDD.TB_CTL.SRC.key, TDD.TB_CTL.PAT.key, TDD.TB_CTL.REFUSE.key]) ∧
    (s.active ≠ [] ∨ (bits v.toNat 0 2 = 3 ∧ s.donorPat (bits v.toNat 4 4) = false) →
      AnswersVia (.tbCtlWrite m v) s (fun u => (u.fire 0x0E TDD.src.TB_REFUSED { master := m.num }).settle) fun u =>
        u.get TDD.TB_CTL.REFUSE = (if s.active = [] then 2 else 1) ∧ u.tb = s.tb ∧ Keeps s u [TDD.TB_CTL.REFUSE.key])) ∧
  (∀ (s : State) (off : Nat), s.tb.epochDue = true → s.tbValid = true → AnswersSettled (.timebaseEpoch off) s fun u =>
    u.now = max s.now (s.tbRef off) ∧ u.tb.measuredAt = u.now ∧ u.tb.epochDue = false ∧ (∃ b, u.tb.epoch = some b ∧ b % 4096 = 0 ∧ b ≤ u.now + 2048 ∧ u.now < b + 2048 + 1 ∧
      u.tb.frame = b % 983040 ∧ u.frameAt b = b) ∧ Keeps s u [] ∧ u.slots = s.slots) ∧
  (∀ (s : State) (e n : Nat) (pps off : Int), s.tb.epoch = some e → s.tb.epochDue = false → s.tbValid = true → e ≤ s.now →
    n = e + ceilTo 983040000 (max s.now (s.tb.measuredAt + 2049) - e) → off = (s.until n).tbError pps →
    (s.get TDD.TB_CTL.SRC = 1 → off = pps) ∧ (n - e) % 983040000 = 0 ∧ s.now ≤ n ∧
    (-10000 ≤ off → off ≤ 10000 → AnswersSettled (.timebaseSecond pps) s fun u => u.get TDD.TB_OFFSET.NS = toField 32 off ∧
      u.now = n ∧ u.tb.measuredAt = n ∧ u.tb.epoch = some e ∧ u.tb.frame = s.tb.frame ∧ Keeps s u [TDD.TB_OFFSET.NS.key]) ∧
    (off < -10000 ∨ 10000 < off → AnswersVia (.timebaseSecond pps) s (fun u => (u.fire 0x0E TDD.src.TB_DRIFT {}).settle) fun u =>
      u.get TDD.TB_OFFSET.NS = toField 32 off ∧ u.tb.frame = s.tb.frame ∧ Keeps s u [TDD.TB_OFFSET.NS.key])) ∧
  (∀ (s : State) (m : Master) (v : Word), s.takes m 0xE050 v → Answers (.patEdgeAccess m true v) s fun u =>
    (∀ k, Tab.get 0 u.patEdge k = if k = 16 * s.patSel + s.get TDD.PAT_SEL.EDGE ∧ s.flag (TDD.PAT_CTL.PEND s.patSel) = false
      then v.toNat / 2 ^ 30 * 2 ^ 30 + bits v.toNat 0 24 else Tab.get 0 s.patEdge k) ∧
    u.get TDD.PAT_SEL.EDGE = (s.get TDD.PAT_SEL.EDGE + 1) % 16 ∧ Keeps s u [TDD.PAT_SEL.EDGE.key]) ∧
  (∀ (s : State) (m : Master) (v : Word), s.reaches m → s.pageOff 0x0E = false → Answers (.patEdgeAccess m false v) s fun u =>
    u.out = [BitVec.ofNat 32 s.edgeWord] ∧ u.patEdge = s.patEdge ∧ Keeps s u [TDD.PAT_SEL.EDGE.key] ∧
    u.get TDD.PAT_SEL.EDGE = if s.readsWithEffect m 0x0E then (s.get TDD.PAT_SEL.EDGE + 1) % 16 else s.get TDD.PAT_SEL.EDGE) ∧
  (∀ (s : State) (m : Master) (v : Word) (p : Nat), p = s.patSel → s.verdict m 0xE054 v (fieldsAt (0x11000C + 0x200 * p)) true .take →
    v.getLsbD 0 = true →
    let l := s.patShadow p
    let c := if l.badEdges then 1 else if l.badGap then 2 else if s.badSync l then 3 else if s.flag (TDD.PAT_CTL.PEND p) then 4
      else if s.patInUse p l then 5 else 0
    (c = 0 → AnswersSettled (.patternCommit m v) s fun u => u.get (TDD.PAT_CTL.PEND p) = 1 ∧ u.get (TDD.PAT_CTL.REFUSE p) = 0 ∧
      (u.pat p).live = (s.pat p).live ∧ (u.pat p).acceptAt = s.now ∧
      Keeps s u [(TDD.PAT_CTL.PEND p).key, (TDD.PAT_CTL.REFUSE p).key]) ∧
    (c ≠ 0 → AnswersVia (.patternCommit m v) s (fun u => (u.fire 0x0E TDD.src.PAT_REFUSED { master := m.num }).settle) fun u =>
      u.get (TDD.PAT_CTL.REFUSE p) = c ∧ u.pats = s.pats ∧ Keeps s u [(TDD.PAT_CTL.REFUSE p).key])) ∧
  (∀ (s : State) (p : Fin 16), s.flag (TDD.PAT_CTL.PEND p) = true → s.patSlots p = [] → AnswersSettled (.patternLive p) s fun u =>
    u.get (TDD.PAT_CTL.PEND p) = 0 ∧ (u.pat p).live = s.patShadow p ∧ u.now = max s.now (s.patLiveAt p) ∧
    ((s.patShadow p).src = 1 → (u.pat p).timing = true) ∧
    ((s.patShadow p).src ≠ 1 → (s.pat p).live.restarts (s.patShadow p) = true → (u.pat p).timing = false ∧
      u.get (TDD.SYNC_STAT.STATE p) = 0) ∧
    ((s.patShadow p).src ≠ 1 → (s.pat p).live.restarts (s.patShadow p) = false → (u.pat p).timing = (s.pat p).timing ∧
      u.get (TDD.SYNC_STAT.STATE p) = s.get (TDD.SYNC_STAT.STATE p)) ∧
    (∀ q < 16, q ≠ p.val → u.pat q = s.pat q) ∧ u.slots = s.slots)

/-- SYNC_BURST_FOUND where the detector has samples: in SEARCH an accepted cell enters ACQUIRE; in ACQUIRE a burst outside ±8
ticks returns to SEARCH and the third inside enters TRACK with timing before SYNC_ACQ fires; in TRACK one inside ±256 ticks
clears MISSES and sets a correction of at most 32 ticks, one outside changes nothing. SYNC_BURST_MISS in TRACK counts, and at
MISS_MAX enters HOLDOVER before SYNC_LOST fires. SWITCHING_INSTANT turns the pattern to the direction of its edge. A write of
DIV.CFG is refused with the register file unchanged where the rule refuses it, and otherwise sets the port to aerial 0; a
decision, once a burst at its window's end, shows the difference and sets PEND where it reaches HYST and HOLD allows; at S1
the switch line is to change SW_TICK later, and changes once that is over, and ACTIVE, PEND and SWITCHES at S2 before
DIV_SWITCH fires. (R269, R272, R274, R276, R277, R278, R279) -/
def Obligations.DonorSyncAndDiversity : Prop :=
  (∀ (s : State) (p : Fin 16) (err : Int) (cell : Fin 1024), s.detects p = true →
    (s.get (TDD.SYNC_STAT.STATE p) = 0 → s.cellOk p cell = true → AnswersSettled (.syncBurstFound p err cell) s fun u =>
      u.get (TDD.SYNC_STAT.STATE p) = 1 ∧ u.get (TDD.SYNC_STAT.CELL p) = cell.val ∧
      Keeps s u [(TDD.SYNC_STAT.STATE p).key, (TDD.SYNC_STAT.CELL p).key]) ∧
    (s.get (TDD.SYNC_STAT.STATE p) ≠ 0 → s.get (TDD.SYNC_STAT.CELL p) ≠ cell.val →
      AnswersSettled (.syncBurstFound p err cell) s fun u => u = s) ∧
    (s.get (TDD.SYNC_STAT.STATE p) = 1 → s.get (TDD.SYNC_STAT.CELL p) = cell.val →
      (err < -8 ∨ 8 < err → AnswersSettled (.syncBurstFound p err cell) s fun u => u.get (TDD.SYNC_STAT.STATE p) = 0 ∧
        Keeps s u [(TDD.SYNC_STAT.STATE p).key, (TDD.SYNC_STAT.ERR p).key]) ∧
      (-8 ≤ err → err ≤ 8 → (s.pat p).good < 2 → AnswersSettled (.syncBurstFound p err cell) s fun u =>
        (u.pat p).good = (s.pat p).good + 1 ∧ u.get (TDD.SYNC_STAT.ERR p) = toField 16 err ∧ Keeps s u [(TDD.SYNC_STAT.ERR p).key]) ∧
      (-8 ≤ err → err ≤ 8 → 2 ≤ (s.pat p).good →
        AnswersVia (.syncBurstFound p err cell) s (fun u => (u.fire 0x0E TDD.src.SYNC_ACQ { detail := u.syncDetail p }).settle) fun u =>
          u.get (TDD.SYNC_STAT.STATE p) = 2 ∧ u.get (TDD.SYNC_STAT.MISSES p) = 0 ∧ (u.pat p).timing = true)) ∧
    (s.get (TDD.SYNC_STAT.STATE p) = 2 → s.get (TDD.SYNC_STAT.CELL p) = cell.val → AnswersSettled (.syncBurstFound p err cell) s fun u =>
      (-256 ≤ err ∧ err ≤ 256 → u.get (TDD.SYNC_STAT.MISSES p) = 0 ∧ u.get (TDD.SYNC_STAT.ERR p) = toField 16 err ∧
        (u.pat p).step = max (-32) (min 32 err) ∧ Keeps s u [(TDD.SYNC_STAT.MISSES p).key, (TDD.SYNC_STAT.ERR p).key]) ∧
      (err < -256 ∨ 256 < err → u = s))) ∧
  (∀ (s : State) (p : Fin 16), s.donorPat p = true → s.resetting 0x0E = false → s.get (TDD.SYNC_STAT.STATE p) = 2 →
    s.get (TDD.SYNC_STAT.MISSES p) < 15 →
    (s.get (TDD.SYNC_STAT.MISSES p) + 1 < bits (s.pat p).live.sync 20 4 → AnswersSettled (.syncBurstMiss p) s fun u =>
      u.get (TDD.SYNC_STAT.MISSES p) = s.get (TDD.SYNC_STAT.MISSES p) + 1 ∧ Keeps s u [(TDD.SYNC_STAT.MISSES p).key] ∧
      (u.pat p).timing = (s.pat p).timing ∧ (u.pat p).start = (s.pat p).start ∧ (u.pat p).live = (s.pat p).live) ∧
    (bits (s.pat p).live.sync 20 4 ≤ s.get (TDD.SYNC_STAT.MISSES p) + 1 →
      AnswersVia (.syncBurstMiss p) s (fun u => (u.fire 0x0E TDD.src.SYNC_LOST { detail := u.syncDetail p }).settle) fun u =>
        u.get (TDD.SYNC_STAT.STATE p) = 3 ∧ u.get (TDD.SYNC_STAT.MISSES p) = s.get (TDD.SYNC_STAT.MISSES p) + 1 ∧
        (u.pat p).timing = (s.pat p).timing ∧ (u.pat p).start = (s.pat p).start)) ∧
  (∀ (s : State) (p e : Fin 16), (s.pat p).live.valid = true → (s.pat p).timing = true → tbit ((s.pat p).live.edges.getD e 0) 31 = true →
    Answers (.switchingInstant p e) s fun u => u.now = max s.now ((s.pat p).edgeAt e (max s.now ((s.pat p).dirAt + 1))) ∧
      (u.pat p).dir = 1 + bits ((s.pat p).live.edges.getD e 0) 30 1 ∧ (u.pat p).dirAt = u.now ∧ (u.pat p).live = (s.pat p).live ∧
      Keeps s u [] ∧ u.slots = s.slots) ∧
  (∀ (s : State) (m : Master) (d : Fin 8) (v : Word), s.takes m (0x29040 + 4 * d.val) v →
    (s.divRefused v = true → AnswersVia (.divCfgWrite m d v) s (fun u => (u.fire 0x29 DIV.src.DIV_REFUSED { master := m.num }).settle)
      fun u => Keeps s u [] ∧ u.divs = s.divs) ∧
    (s.divRefused v = false → AnswersSettled (.divCfgWrite m d v) s fun u =>
      u.get (DIV.CFG.EN d) = bits v.toNat 31 1 ∧ u.get (DIV.CFG.PAT d) = bits v.toNat 24 4 ∧ u.get (DIV.CFG.LINE d) = bits v.toNat 15 7 ∧
      u.get (DIV.CFG.TXD d) = bits v.toNat 10 5 ∧ u.get (DIV.CFG.RXB d) = bits v.toNat 5 5 ∧ u.get (DIV.CFG.RXA d) = bits v.toNat 0 5 ∧
      u.get (DIV.STAT.ACTIVE d) = 0 ∧ u.get (DIV.STAT.PEND d) = 0 ∧ u.get (DIV.STAT.SWITCHES d) = 0 ∧
      (v.getLsbD 31 = true → tbit (u.get (FEC.LEVEL.NOW (bits v.toNat 15 7 / 32))) (bits v.toNat 15 7 % 32) = false) ∧
      ∀ e : Fin 8, e ≠ d → u.get (DIV.STAT.ACTIVE e) = s.get (DIV.STAT.ACTIVE e) ∧ u.get (DIV.CFG.LINE e) = s.get (DIV.CFG.LINE e))) ∧
  (∀ (s : State) (d : Fin 8) (diff shown : Int), shown = max (-128) (min 127 diff) → s.divReady d = true → s.get DIV.POLICY.AVG = 0 →
    (s.dv d).seen ≠ s.divBurst d + 1 →
    Answers (.diversityDecision d diff) s fun u => u.get (DIV.STAT.DIFF d) = toField 8 shown ∧
      s.divBurst d + 256 ≤ u.now ∧ (u.dv d).seen = s.divBurst d + 1 ∧
      (u.get (DIV.STAT.PEND d) = 1 ↔ s.get (DIV.STAT.PEND d) = 1 ∨
        ((s.get DIV.POLICY.HYST : Int) ≤ shown ∧ s.get DIV.POLICY.HOLD ≤ min 15 ((s.dv d).bursts + 1))) ∧
      u.get (DIV.STAT.ACTIVE d) = s.get (DIV.STAT.ACTIVE d) ∧ Keeps s u [(DIV.STAT.DIFF d).key, (DIV.STAT.PEND d).key]) ∧
  (∀ (s : State) (d : Fin 8), s.divReady d = true → (s.dv d).seen = s.divBurst d + 1 → ∀ diff, Answers (.diversityDecision d diff) s fun u => u = s) ∧
  (∀ (s : State) (d : Fin 8) (t : Nat), (s.dv d).lineAt = some t → t ≤ s.now → (∀ e : Fin 8, e ≠ d → (s.dv e).lineAt = none) →
    (s.divLines.dv d).lineAt = none ∧
    tbit (s.divLines.get (FEC.LEVEL.NOW (s.get (DIV.CFG.LINE d) / 32))) (s.get (DIV.CFG.LINE d) % 32)
      = (s.flag (DIV.STAT.ACTIVE d) != (s.dv d).pastS1)) ∧
  (∀ (s : State) (d : Fin 8), s.inReset = false → s.resetting 0x29 = false → s.flag (DIV.CFG.EN d) = true → s.flag (DIV.STAT.PEND d) = true →
    ((s.dv d).pastS1 = false → (∀ i ∈ s.divSlots d true, (s.cs i).layAlt = false) → AnswersSettled (.diversitySwitchUl d) s fun u =>
      (u.dv d).pastS1 = true ∧ u.now = (u.dv d).s1At ∧ s.now ≤ (u.dv d).s1At ∧ u.canS = s.canS ∧
      (0 < s.get DIV.POLICY.SW_TICK → (u.dv d).lineAt = some ((u.dv d).s1At + s.get DIV.POLICY.SW_TICK)) ∧
      u.get (DIV.STAT.ACTIVE d) = s.get (DIV.STAT.ACTIVE d) ∧ u.get (DIV.STAT.PEND d) = 1) ∧
    ((s.dv d).pastS1 = true → (∀ i ∈ s.divSlots d false, (s.cs i).layAlt = false) →
      AnswersVia (.diversitySwitchDl d) s (fun u => (u.fire 0x29 DIV.src.DIV_SWITCH {}).settle) fun u =>
        u.flag (DIV.STAT.ACTIVE d) = (!s.flag (DIV.STAT.ACTIVE d)) ∧ u.get (DIV.STAT.PEND d) = 0 ∧
        u.get (DIV.STAT.SWITCHES d) = (s.get (DIV.STAT.SWITCHES d) + 1) % 256 ∧ u.canS = s.canS ∧ (u.dv d).bursts = 0))

/-- A write of DATA or PROF_DATA to the shadow of a port with no commit pending sets the entry selected and no other; with a
commit pending it changes none and PWT_LOCKED fires; the selection steps on in every case. COMMIT sets PEND of the ports
named; at the next frame boundary a port's shadow table and profiles become its live ones. A loop of a port that completes
with another index decides a step at the first grid boundary at least 5 µs later and queues the attenuator frame of the new
entry, its byte first, so that its last SCLK edge is the last at or before that boundary. At the boundary the step puts its
entry in force and takes the bias code of the entry's live profile where the port drives a bias channel. A PORT_CFG that
would bind a channel bound to another port is dropped, names the channel in NOTE_CH and raises BIAS_BOUND; any other is
taken, and the channel that it binds reads BOUND. (R280, R282, R312) -/
def Obligations.PowerTableCommands : Prop :=
  (∀ (s : State) (m : Master) (v : Word), s.takes m 0x2A044 v →
    (s.flag PWT.SEL.BANK = true ∨ s.pwtPend (s.get PWT.SEL.PORT) = false → AnswersSettled (.pwtDataAccess m false true v) s fun u =>
      (∀ k, Tab.get 0 u.pwt k = if k = s.pwtKey ∧ s.flag PWT.SEL.BANK = false then v.toNat - bits v.toNat 12 8 * 4096 else Tab.get 0 s.pwt k) ∧
      u.get PWT.SEL.INDEX = (s.get PWT.SEL.INDEX + 1) % 256 ∧ Keeps s u [PWT.SEL.INDEX.key]) ∧
    (s.flag PWT.SEL.BANK = false → s.pwtPend (s.get PWT.SEL.PORT) = true →
      AnswersVia (.pwtDataAccess m false true v) s (fun u => (u.fire 0x2A PWT.src.PWT_LOCKED { master := m.num }).settle) fun u =>
        u.pwt = s.pwt ∧ u.get PWT.SEL.INDEX = (s.get PWT.SEL.INDEX + 1) % 256 ∧ Keeps s u [PWT.SEL.INDEX.key])) ∧
  (∀ (s : State) (m : Master) (v : Word), s.takes m 0x2A054 v →
    (s.pwtPend (s.get PWT.PROF_SEL.PORT) = false → AnswersSettled (.pwtDataAccess m true true v) s fun u =>
      (∀ k, Tab.get 0 u.pwtProf k = if k = s.profKey then bits v.toNat 0 16 else Tab.get 0 s.pwtProf k) ∧ Keeps s u [PWT.PROF_SEL.PROF.key]) ∧
    (s.pwtPend (s.get PWT.PROF_SEL.PORT) = true →
      AnswersVia (.pwtDataAccess m true true v) s (fun u => (u.fire 0x2A PWT.src.PWT_LOCKED { master := m.num }).settle) fun u =>
        u.pwtProf = s.pwtProf ∧ Keeps s u [PWT.PROF_SEL.PROF.key])) ∧
  (∀ (s : State) (m : Master) (v : Word), s.reaches m → s.pageOff 0x2A = false →
    (AnswersSettled (.pwtDataAccess m false false v) s fun u => u.out = [BitVec.ofNat 32 s.pwtRead] ∧ u.pwt = s.pwt ∧
      Keeps s u [PWT.SEL.INDEX.key]) ∧
    AnswersSettled (.pwtDataAccess m true false v) s fun u => u.out = [BitVec.ofNat 32 (Tab.get 0 s.pwtProf s.profKey)] ∧
      u.pwtProf = s.pwtProf ∧ Keeps s u [PWT.PROF_SEL.PROF.key]) ∧
  (∀ (s : State) (m : Master) (v : Word), s.takes m 0x2A048 v → AnswersSettled (.pwtCommit m v) s fun u =>
    (∀ p < 32, u.pwtPend p = (s.pwtPend p || v.getLsbD p) ∧ (v.getLsbD p = true → s.pwtPend p = false → Tab.get 0 u.pwtAt p = s.now)) ∧
    u.pwt = s.pwt ∧ u.pwtProf = s.pwtProf ∧ Keeps s u [PWT.PEND.PORTS.key]) ∧
  (∀ (s : State) (p : Fin 32), s.pwtPend p = true → s.resetting 0x2A = false → Answers (.pwtTableLive p) s fun u => u.pwtPend p = false ∧
    u.now = max s.now (s.frameAt (max s.now (Tab.get 0 s.pwtAt p + 1))) ∧
    (∀ q < 32, ∀ i < 256, Tab.get 0 u.pwt (8192 + 256 * q + i) =
        Tab.get 0 s.pwt (if q = p.val then 256 * q + i else 8192 + 256 * q + i) ∧
      Tab.get 0 u.pwt (256 * q + i) = Tab.get 0 s.pwt (256 * q + i)) ∧
    (∀ i < 16, Tab.get 0 u.pwtProf (512 + 16 * p + i) = Tab.get 0 s.pwtProf (16 * p + i)) ∧ Keeps s u [PWT.PEND.PORTS.key]) ∧
  (∀ (s : State) (p : Fin 32) (e at_ w : Nat), Tab.get 0 s.pwtStepAt p = 256 * at_ + e + 1 → e < 256 →
    w = Tab.get 0 s.pwt (8192 + 256 * p + e) → s.pageOff 0x2A = false → AnswersSettled (.pwtStep p) s fun u =>
      u.get (PWT.PORT_STAT.INDEX p) = e ∧ Tab.get 0 u.pwtWord p = w ∧ Tab.get 0 u.pwtStepAt p = 0 ∧ u.now = max s.now at_ ∧
      (s.flag (PWT.PORT_CFG.BIAS_EN p) = true → Tab.get 0 u.pwtCode p = Tab.get 0 s.pwtProf (512 + 16 * p + bits w 28 4)) ∧
      u.buses = s.buses ∧ u.slots = s.slots) ∧
  (∀ (s : State) (p : Fin 32) (x : LoopNext) (idx t w : Nat) (k : Fin 4), s.flag CLV.TIMING.NOW = true → s.stopped 0x22 = false →
    (s.loop (512 + p)).due = true → s.laneOf (512 + p) = k →
    200 * s.doneCycle (512 + p) ≤ s.get (CLV.LOOP_CTL.DEADLINE (512 + p)) * 98304 → (s.loop (512 + p)).nxt = some x →
    idx = (clampInt 0 255 ((64 * sext 32 (toField 32 x.u0) + 134217728) / 268435456)).toNat → idx ≠ s.get (PWT.PORT_STAT.INDEX p) →
    t = s.gridAt p (max s.now (s.clv.start + 2 * s.doneCycle (512 + p)) + us 5) → w = Tab.get 0 s.pwt (8192 + 256 * p + idx) →
    (∀ f, s.attFrame p w = some f → (s.bus (2 * f.page + bits f.w0 30 1)).queue.length < 16) →
    AnswersSettled (.compatLoopComplete ⟨512 + p.val, by omega⟩ k) s fun u =>
      Tab.get 0 u.pwtStepAt p = 256 * t + idx + 1 ∧ u.get (PWT.PORT_STAT.INDEX p) = s.get (PWT.PORT_STAT.INDEX p) ∧
      (s.attFrame p w = none → u.buses = s.buses) ∧
      ∀ f, s.attFrame p w = some f → f.w1 % 256 = bits w 20 8 ∧
        ∃ g ∈ (u.bus (2 * f.page + bits f.w0 30 1)).queue, g.w0 = f.w0 ∧ g.w1 = f.w1 ∧ ∃ mhz,
          mhz = s.sclkMhz (2 * f.page + bits f.w0 30 1) false ∧ g.inst = sclkTick mhz (sclkBefore mhz t - framePeriods f.w0)) ∧
  (∀ (s : State) (m : Master) (p : Fin 32) (v : Word), s.takes m (0x2A100 + 4 * p.val) v →
    (s.bindClash p v = true → AnswersVia (.pwtPortCfgWrite m p v) s
      (fun u => (u.fire (0x0B + bits v.toNat 24 6 / 32) BIA.src.BIAS_BOUND { master := m.num }).settle) fun u =>
        u.get (BIA.NOTE_CH.CH (bits v.toNat 24 6 / 32)) = bits v.toNat 24 6 ∧ Keeps s u [(BIA.NOTE_CH.CH (bits v.toNat 24 6 / 32)).key]) ∧
    (s.bindClash p v = false → AnswersSettled (.pwtPortCfgWrite m p v) s fun u =>
      u.get (PWT.PORT_CFG.BIAS_EN p) = bits v.toNat 30 1 ∧ u.get (PWT.PORT_CFG.BIAS_CH p) = bits v.toNat 24 6 ∧
      u.get (PWT.PORT_CFG.ATT_EN p) = bits v.toNat 23 1 ∧ u.get (PWT.PORT_CFG.GRID p) = bits v.toNat 0 4 ∧
      u.get (PWT.PORT_CFG.SCS p) = bits v.toNat 16 2 ∧ (v.getLsbD 30 = true → u.get (bBound (bits v.toNat 24 6)) = 1) ∧
      (∀ c < 64, u.get (bCode c) = s.get (bCode c)) ∧ u.slots = s.slots))

/-- A write of TXEN: a port whose bit is 0 has REQ, TXPEND and ON cleared; one whose REQ was 1 already stays; a new enable is
applied where the chiplet is READY in CONVCAL or RUNNING, pends from DRAIN to RUNNING otherwise, and in any other step has
REQ and TXPEND cleared and SNR set before TXEN_REFUSED fires for it. A pending enable is applied when READY, within 500 µs;
after 500 µs without READY outside STANDBY it is refused in the same way. Nothing else of the register file changes. (R283) -/
def Obligations.TransmitEnables : Prop :=
  (∀ (s : State) (m : Master) (v : Word), s.takes m 0x2A058 v →
    AnswersVia (.txenWrite m v) s (fun u => (((List.range 32).filter (s.txBad v)).foldl (fun u p => u.txRefused m.num p) u).settle) fun u =>
      (∀ p < 32, tbit (u.get PWT.TXEN.REQ) p = (v.getLsbD p && !s.txBad v p) ∧
        tbit (u.get PWT.TXREFUSED.SNR) p = (tbit (s.get PWT.TXREFUSED.SNR) p || s.txBad v p) ∧
        (v.getLsbD p = false → tbit (u.get PWT.TXON.ON) p = false ∧ s.txBad v p = false ∧ u.txPending p = false) ∧
        (v.getLsbD p = true → tbit (s.get PWT.TXEN.REQ) p = true →
          tbit (u.get PWT.TXON.ON) p = tbit (s.get PWT.TXON.ON) p ∧ u.txPending p = s.txPending p ∧ s.txBad v p = false) ∧
        (v.getLsbD p = true → tbit (s.get PWT.TXEN.REQ) p = false →
          (7 ≤ s.synStep (p / 4) → s.synStep (p / 4) ≤ 8 → s.flag (SYN.SYN_STAT.READY (p / 4)) = true →
            tbit (u.get PWT.TXON.ON) p = true ∧ u.txPending p = false ∧ s.txBad v p = false) ∧
          (1 ≤ s.synStep (p / 4) → s.synStep (p / 4) ≤ 8 → s.synStep (p / 4) ≤ 6 ∨ s.flag (SYN.SYN_STAT.READY (p / 4)) = false →
            u.txPending p = true ∧ s.txBad v p = false ∧ tbit (u.get PWT.TXON.ON) p = tbit (s.get PWT.TXON.ON) p) ∧
          (s.synStep (p / 4) = 0 ∨ s.synStep (p / 4) = 9 → s.txBad v p = true ∧ u.txPending p = false))) ∧
      Keeps s u [PWT.TXEN.REQ.key, PWT.TXON.ON.key, PWT.TXPEND.PEND.key, PWT.TXREFUSED.SNR.key]) ∧
  (∀ (s : State) (p : Fin 32), s.txPending p = true → s.flag (SYN.SYN_STAT.READY (p.val / 4)) = true →
    s.now + 1 ≤ Tab.get 0 s.txenAt p + us 500 → Answers (.txenPendingApply p) s fun u =>
      (∀ q < 32, tbit (u.get PWT.TXON.ON) q = (tbit (s.get PWT.TXON.ON) q || q == p.val) ∧ u.txPending q = (s.txPending q && q != p.val)) ∧
      Keeps s u [PWT.TXON.ON.key, PWT.TXPEND.PEND.key]) ∧
  (∀ (s : State) (p : Fin 32), s.get PWR.PWR_CMD.STATE = pStandby → AnswersSettled (.txenPendingTimeout p) s fun u => u = s) ∧
  (∀ (s : State) (p : Fin 32), s.txPending p = true → s.get PWR.PWR_CMD.STATE ≠ pStandby → s.flag (SYN.SYN_STAT.READY (p.val / 4)) = false →
    AnswersVia (.txenPendingTimeout p) s (fun u => (u.txRefused 7 p).settle) fun u =>
      u.now = max s.now (Tab.get 0 s.txenAt p - 1 + us 500) ∧ tbit (u.get PWT.TXREFUSED.SNR) p = true ∧
      (∀ q < 32, tbit (u.get PWT.TXEN.REQ) q = (tbit (s.get PWT.TXEN.REQ) q && q != p.val) ∧ u.txPending q = (s.txPending q && q != p.val)) ∧
      Keeps s u [PWT.TXEN.REQ.key, PWT.TXPEND.PEND.key, PWT.TXREFUSED.SNR.key])

/-- A window whose sum lies at or below the port power limit raises no clamp; one above it by E raises the clamp of every slot
that contributes to E + 0.5 dB above the value that was in force at the first trip of that instant, and of no other, before
PWR_CLAMP fires for each. After 10 ms without a trip, and with every sum 1 dB below its limit for 10 ms, a clamp falls by 0.5
dB. A noise estimate above the ceiling by E raises the reduction by E + 0.5 dB before NOISE_RED fires, one at or below it
raises none, and the reduction falls by 0.5 dB after 100 ms. A protected bin over its limit is remembered at its first
segment; at a second one 10 µs later it mutes every enabled slot of that port and zone before MASK_MUTE fires. The mute ends
at its time, and with the last reason HOLD.PROTECT. A comparison that finds a comparator copy changed withdraws a permit that
nothing else withheld, with cause 6. (R288, R289, R290, R291, R292, R293, R294, R298, R299) -/
def Obligations.ProtectionTrips : Prop :=
  (∀ (s : State) (p : Fin 32) (r : Fin 64) (powers : List (Nat × Int)) (sum : Int), s.active.Nodup → sum = s.portSum p r powers →
    (sum ≤ s.portLimit p r → AnswersSettled (.powerWindowEnd p r powers) s fun u => Keeps s u [] ∧ (∀ i, (u.gv i).pclamp = (s.gv i).pclamp) ∧
      u.slots = s.slots) ∧
    (s.portLimit p r < sum → AnswersVia (.powerWindowEnd p r powers) s (fun u => ((s.sumSlots p r).foldl (fun u i => u.fire 0x23 GOV.src.PWR_CLAMP
        { slot := some i, detail := [p.val, r.val] ++ leBytes 2 (min 0x7FFF (sum - s.portLimit p r).toNat) }) u).settle) fun u =>
      (∀ i, (u.gv i).pclamp = if i ∈ s.sumSlots p r then max (s.gv i).pclamp
        ((if (s.gv i).tripAt = some s.now then (s.gv i).tripBase else (s.gv i).pclamp) + (sum - s.portLimit p r).toNat + 50)
        else (s.gv i).pclamp) ∧
      (∀ i, u.get (SLP.SLOT_STAT.STATE i) = s.get (SLP.SLOT_STAT.STATE i)) ∧ u.active = s.active)) ∧
  (∀ (s : State) (i : Fin 512), s.stopped 0x23 = false → (s.gv i).pclamp ≠ 0 → i.val ∈ s.active → (∀ t, (s.gv i).pLow = some t → t ≤ (s.gv i).pAt) →
    Answers (.pclampDecay i) s fun u => (u.gv i).pclamp = (s.gv i).pclamp - 50 ∧ u.now = max s.now ((s.gv i).pAt + ms 10) ∧
      u.get (GOV.PROT_STAT.PCLAMP i) = quarter ((s.gv i).pclamp - 50) ∧ ∀ j, j ≠ i.val → (u.gv j).pclamp = (s.gv j).pclamp) ∧
  (∀ (s : State) (i : Fin 512) (n later : Nat), s.running i = true → s.uplink i = true → s.stopped 0x23 = false →
    n = max s.now (s.frameAt (max s.now ((s.gv i).noiseAt + 1)) + 983040 * later) →
    (s.noiseCeiling i = none ∨ (s.until n).noiseEst i = none → AnswersSettled (.noiseEstimateUpdate i later) s fun u => u.now = n ∧
      (u.gv i).nred = (s.gv i).nred ∧ Keeps s u [] ∧ u.slots = s.slots) ∧
    ∀ est c : Int, s.noiseCeiling i = some c → (s.until n).noiseEst i = some est →
    (est ≤ c → AnswersSettled (.noiseEstimateUpdate i later) s fun u => u.now = n ∧ (u.gv i).nred = (s.gv i).nred ∧ Keeps s u [] ∧
      u.slots = s.slots) ∧
    (c < est → AnswersVia (.noiseEstimateUpdate i later) s (fun u => (u.fire 0x23 GOV.src.NOISE_RED
        { slot := some i.val, detail := leBytes 2 (toField 16 (clampInt (-32768) 32767 est)) ++ [u.get (GOV.PROT_STAT.NRED i)] }).settle) fun u =>
      (u.gv i).nred = (s.gv i).nred + (est - c).toNat + 50 ∧ u.get (GOV.PROT_STAT.NRED i) = quarter (u.gv i).nred ∧
      Keeps s u [(GOV.PROT_STAT.NRED i).key])) ∧
  (∀ (s : State) (i : Fin 512), s.stopped 0x23 = false → (s.gv i).nred ≠ 0 → i.val ∈ s.active → (∀ t, (s.gv i).nLow = some t → t ≤ (s.gv i).nAt) →
    Answers (.noiseRedDecay i) s fun u => (u.gv i).nred = (s.gv i).nred - 50 ∧ u.now = max s.now ((s.gv i).nAt + ms 100) ∧
      u.get (GOV.PROT_STAT.NRED i) = quarter ((s.gv i).nred - 50) ∧ Keeps s u [(GOV.PROT_STAT.NRED i).key]) ∧
  (∀ (s : State) (p : Fin 32) (zone : Bool) (b : Nat) (x : Int) (k : Nat), k = 8192 * (2 * p.val + zone.toNat) + b → b < 8192 →
    s.dwelling p zone.toNat = true → s.inZone p zone.toNat b = true → s.overMask p (b, x) = true →
    (Tab.get 0 s.maskSeen k = 0 → AnswersSettled (.maskSegment p zone [(b, x)]) s fun u => Tab.get 0 u.maskSeen k = s.now + 1 ∧
      Keeps s u [] ∧ u.gov = s.gov ∧ u.slots = s.slots) ∧
    (Tab.get 0 s.maskSeen k ≠ 0 → Tab.get 0 s.maskSeen k + us 10 ≤ s.now + 1 →
      let l := (s.onBranch p).filter fun i => s.zoneOf p i == zone.toNat
      AnswersVia (.maskSegment p zone [(b, x)]) s (fun u =>
          let w := l.foldl (fun u i => u.latchNote (s.flag (GOV.PROT_STAT.LATCHED i)) i) u
          (w.fire 0x23 GOV.src.MASK_MUTE { detail := leBytes 4 (w.assemble (fieldsAt 0x23074)) }).settle) fun u =>
        (∀ i ∈ l, u.get (GOV.PROT_STAT.MASK i) = 1 ∧ (s.flag (GOV.PROT_STAT.MASK i) = false →
          tbit (u.get (SLP.SLOT_STAT.HOLD i)) hProtect = true ∧
          (s.get (SLP.SLOT_STAT.STATE i) = 4 → u.get (SLP.SLOT_STAT.STATE i) = 5 ∧
            (s.weightNow i ≠ 0 → ∃ d, (u.slot i).downAt = some d ∧ d ≤ s.sampleAt i s.now)))) ∧
        u.get GOV.MASK_NOTE.TX = p.val ∧ u.get GOV.MASK_NOTE.ZONE = zone.toNat ∧ u.get GOV.MASK_NOTE.MHZ = b)) ∧
  (∀ (s : State) (i : Fin 512), s.flag (GOV.PROT_STAT.MASK i) = true → AnswersSettled (.maskMuteEnd i) s fun u =>
    u.get (GOV.PROT_STAT.MASK i) = 0 ∧ u.now = max s.now (s.gv i).maskEnd ∧
    (s.flag (GOV.PROT_STAT.LATCHED i) = false → s.flag (GOV.PROT_STAT.OSC i) = false → s.flag (GOV.PROT_STAT.DUTY i) = false →
      s.flag (GOV.PROT_STAT.BAND i) = false → i.val ∈ s.enabled → tbit (u.get (SLP.SLOT_STAT.HOLD i)) hProtect = false) ∧
    Keeps s u [(GOV.PROT_STAT.MASK i).key, (SLP.SLOT_STAT.HOLD i).key]) ∧
  (∀ (s : State) (l : List (Nat × Nat)), s.tansy.booted = true → s.inReset = false → s.flag GOV.PERMIT.PERMIT = true → s.permitFails = none →
    ((∃ g, g < 8 ∧ ∃ r, r < 64 ∧ (s.upsetCopies l).copySame g r = false) → AnswersVia (.lockCopyCompare l) s (fun u => (u.syncGate.fire 0x23 GOV.src.PERMIT_CHG { detail := [0, 6] }).settle) fun u =>
      u.get GOV.PERMIT.PERMIT = 0 ∧ u.get GOV.PERMIT.CAUSE = 6 ∧ u.lockSame = false ∧
      u.lockCmpAt = u.now ∧ u.now = max s.now (s.lockCmpAt + ms 1000) ∧ Keeps s u [GOV.PERMIT.PERMIT.key, GOV.PERMIT.CAUSE.key]) ∧
    ((∀ g, g < 8 → ∀ r, r < 64 → (s.upsetCopies l).copySame g r = true) → AnswersSettled (.lockCopyCompare l) s fun u =>
      u.lockSame = true ∧ u.lockCmpAt = u.now ∧ u.now = max s.now (s.lockCmpAt + ms 1000) ∧ Keeps s u [] ∧ u.slots = s.slots))

/-- BIAS_SLEW_TICK on a channel that may move, unbound, not SAFE, with no waveform and no range change or in step 3 of one, moves
CODE_NOW to VAL.CODE by the lesser of STEP + 1 and the distance, STEP and RATE being those of CFG, or those that CFG held
when a write of CFG came in the interval that this tick ends; in step 1 of a range change it moves towards the crossover
code; a clamped, frozen or held channel keeps its code; no other channel's code changes. BIAS_SPAN_SWITCH after the hold puts
the new span in force with the crossover code in it. A VAL written to a bound channel is dropped with BIAS_BOUND and NOTE_CH;
a free one takes it, CODE_NOW staying for the limiter; the same for a CFG that starts a waveform; GEN is taken where LO lies
below HI. RESUME ends SAFE of the channels named and of no other. A bias rail that leaves its range sets LOW in both pages
and, where both were in range since the reset, raises SUPPLY_LOST; its return samples BIAS_SAFE and puts every channel that
the pad latch does not hold at the safe end of the default span, a held one keeping its code; in SLEEP its loss is kept in
the AON. (R308, R309, R310, R311, R312, R314, R317, R318) -/
def Obligations.BiasOutputs : Prop :=
  (∀ (s : State) (c : Fin 64), s.inReset = false →
    (s.biasFree c = false → AnswersSettled (.biasSlewTick c) s fun u => u = s) ∧
    (∀ p r : Nat, s.biasFree c = true → s.resetting (0x0B + c.val / 32) = false → s.isSafe c = false → s.boundPort c = none → s.get (bGen c) = 0 →
      (s.ch c).range = 0 ∨ (s.ch c).range = 3 → s.get (bCode c) < 65536 → s.get (BIA.VAL.CODE (c.val / 32) (c.val % 32)) < 65536 →
      (p, r) = (s.ch c).hold.getD (s.get (BIA.CFG.STEP (c.val / 32) (c.val % 32)), s.get (BIA.CFG.RATE (c.val / 32) (c.val % 32))) →
      AnswersSettled (.biasSlewTick c) s fun u =>
        u.get (bCode c) = (let cur := s.get (bCode c); let goal := s.get (BIA.VAL.CODE (c.val / 32) (c.val % 32)); let step := 1 + p
          if cur < goal then min (cur + step) goal else if goal + step < cur then cur - step else goal) ∧
        u.now = max s.now (max (s.ch c).changedAt (s.ch c).tickAt + us r) ∧
        Keeps s u [(bCode c).key, (bState c).key]) ∧
    (s.biasFree c = true → s.resetting (0x0B + c.val / 32) = false → (s.ch c).range = 1 → s.get (bCode c) < 65536 → AnswersSettled (.biasSlewTick c) s fun u =>
        u.get (bCode c) = slewTo (s.get (bCode c)) (codeOf (s.get (bSpan c)) (s.crossV c (s.get (bSpan c)) (s.ch c).spanTo))
          (s.biasStep c) ∧ ((u.ch c).range = 2 ∨ (u.ch c).range = 1) ∧ Keeps s u [(bCode c).key]) ∧
    (s.biasFree c = true → (s.ch c).range = 2 → AnswersSettled (.biasSpanSwitch c) s fun u =>
        u.get (bSpan c) = (s.ch c).spanTo % 4 ∧
        u.get (bCode c) = codeOf (s.ch c).spanTo (s.crossV c (s.get (bSpan c)) (s.ch c).spanTo) % 65536 ∧
        u.now = max s.now ((s.ch c).heldAt + us 20) ∧ (u.ch c).range = 3 ∧ Keeps s u [(bSpan c).key, (bCode c).key])) ∧
  (∀ (s : State) (m : Master) (c : Fin 64) (v : Word), s.takes m (biasAddr c 1) v →
    (s.bindActs c = true → AnswersVia (.biasValWrite m c v) s
      (fun u => (u.fire (0x0B + c.val / 32) BIA.src.BIAS_BOUND { master := m.num }).settle) fun u =>
        u.get (BIA.NOTE_CH.CH (c.val / 32)) = c.val ∧ Keeps s u [(BIA.NOTE_CH.CH (c.val / 32)).key]) ∧
    (s.bindActs c = false → s.boundPort c = none → s.isSafe c = false → (s.ch c).range = 0 → s.get (bGen c) = 0 → AnswersSettled (.biasValWrite m c v) s fun u =>
      u.get (BIA.VAL.SPAN (c.val / 32) (c.val % 32)) = bits v.toNat 16 2 ∧ u.get (BIA.VAL.CODE (c.val / 32) (c.val % 32)) = bits v.toNat 0 16 ∧
      (s.biasFree c = true → bits v.toNat 16 2 ≠ s.get (bSpan c) → u.get (bState c) = 2 ∧ (u.ch c).range = 1) ∧
      Keeps s u [(BIA.VAL.SPAN (c.val / 32) (c.val % 32)).key, (BIA.VAL.CODE (c.val / 32) (c.val % 32)).key, (bState c).key]) ∧
    (s.isSafe c = true → AnswersSettled (.biasValWrite m c v) s fun u =>
      u.get (BIA.VAL.CODE (c.val / 32) (c.val % 32)) = bits v.toNat 0 16 ∧ u.bias = s.bias ∧
      Keeps s u [(BIA.VAL.SPAN (c.val / 32) (c.val % 32)).key, (BIA.VAL.CODE (c.val / 32) (c.val % 32)).key])) ∧
  (∀ (s : State) (m : Master) (c : Fin 64) (v : Word),
    (s.verdict m (biasAddr c 3) v (fieldsAt (biasAddr c 3)) (bits v.toNat 0 16 < bits v.toNat 16 16) .take →
      AnswersSettled (.biasGenWrite m c true v) s fun u => u.get (BIA.GEN.LO (c.val / 32) (c.val % 32)) = bits v.toNat 0 16 ∧
        u.get (BIA.GEN.HI (c.val / 32) (c.val % 32)) = bits v.toNat 16 16 ∧
        Keeps s u [(BIA.GEN.LO (c.val / 32) (c.val % 32)).key, (BIA.GEN.HI (c.val / 32) (c.val % 32)).key]) ∧
    (s.takes m (biasAddr c 0) v → bits v.toNat 28 2 ≠ 0 → s.bindActs c = true → AnswersVia (.biasGenWrite m c false v) s
      (fun u => (u.fire (0x0B + c.val / 32) BIA.src.BIAS_BOUND { master := m.num }).settle) fun u =>
        u.get (BIA.NOTE_CH.CH (c.val / 32)) = c.val ∧ Keeps s u [(BIA.NOTE_CH.CH (c.val / 32)).key]) ∧
    (s.takes m (biasAddr c 0) v → s.bindActs c = false → (s.ch c).range = 0 → AnswersSettled (.biasGenWrite m c false v) s fun u =>
      u.get (bGen c) = bits v.toNat 28 2 ∧ u.get (BIA.CFG.STEP (c.val / 32) (c.val % 32)) = bits v.toNat 12 12 ∧
      u.get (BIA.CFG.RATE (c.val / 32) (c.val % 32)) = bits v.toNat 0 10 ∧
      (s.biasMoves c = true → s.isSafe c = false → (u.ch c).hold = some ((s.ch c).hold.getD (s.get (BIA.CFG.STEP (c.val / 32) (c.val % 32)), s.get (BIA.CFG.RATE (c.val / 32) (c.val % 32))))) ∧
      ∀ d < 64, u.get (bCode d) = s.get (bCode d))) ∧
  (∀ (s : State) (m : Master) (i : Fin 2) (v : Word), s.takes m (0xB048 + 0x1000 * i.val) v → AnswersSettled (.biasResume m i v) s fun u =>
    (∀ c < 64, u.isSafe c = (s.isSafe c && !(c / 32 == i.val && v.getLsbD (c % 32)))) ∧ ∀ c < 64, u.get (bCode c) = s.get (bCode c)) ∧
  (∀ s : State, s.aon.asleep = true → AnswersSettled .biasSupplyLow s fun u => u.aon.biasLost = true ∧ Keeps s u [] ∧ u.bias = s.bias) ∧
  (∀ s : State, s.inReset = false →
    (s.flag (BIA.SUPPLY.LOW 0) = false → s.biasOk = false → AnswersSettled .biasSupplyLow s fun u =>
      u.get (BIA.SUPPLY.LOW 0) = 1 ∧ u.get (BIA.SUPPLY.LOW 1) = 1 ∧ Keeps s u [(BIA.SUPPLY.LOW 0).key, (BIA.SUPPLY.LOW 1).key]) ∧
    (s.flag (BIA.SUPPLY.LOW 0) = false → s.biasOk = true → AnswersVia .biasSupplyLow s (fun u => (let w := u.condBegin 0x0B BIA.src.SUPPLY_LOST {}
        if w.inReset then w else w.condBegin 0x0C BIA.src.SUPPLY_LOST {}).settle) fun u =>
      u.get (BIA.SUPPLY.LOW 0) = 1 ∧ u.get (BIA.SUPPLY.LOW 1) = 1 ∧ Keeps s u [(BIA.SUPPLY.LOW 0).key, (BIA.SUPPLY.LOW 1).key]) ∧
    (s.flag (BIA.SUPPLY.LOW 0) = true → AnswersSettled .biasSupplyPresent s fun u =>
      u.get (BIA.SUPPLY.LOW 0) = 0 ∧ u.get (BIA.SUPPLY.LOW 1) = 0 ∧ u.biasOk = true ∧
      (∀ c < 64, s.get (bState c) ≠ bHeld → u.get (bSpan c) = 3 ∧ u.get (bCode c) = (if tbit s.board.biasSafe (c / 8) then 65535 else 0)) ∧
      (∀ c < 64, s.get (bState c) = bHeld → u.get (bSpan c) = s.get (bSpan c) ∧ u.get (bCode c) = s.get (bCode c) ∧ u.get (bState c) = bHeld) ∧
      u.slots = s.slots))

/-- MONITOR_CONVERSION shows its result in LAST of its input; a queued one enters the queue, or is counted in OVF before Q_OVF
fires; a read-back shows in RB and moves its group on. Q_DATA returns the oldest result and removes it, for the owner or a
delegate; an empty queue answers 0, and Q_UNDER fires; FLUSH empties it. SENSOR_CONVERSION shows a good reading; a bad one
fails the sensor with its cause and its bit in FAIL before SENSOR_FAIL fires; one of 118 °C or above fires THM_TRIP. Grace
that ends at or above 100 °C raises E to 1, ENFORCEMENT_RISE and ENFORCEMENT_FALL move it by 1 before THM_ENF fires, and
THERMAL_HOLD_END ends the part that one failed sensor has in HOLD, 10 s after its substitute has fallen to 97 °C, and HOLD
with the last of them. (R316, R321, R322, R323, R326, R327, R329, R330, R332, R334) -/
def Obligations.MonitorAndThermal : Prop :=
  (∀ (s : State) (core : Fin 2) (x : BitVec 16) (i : Nat), s.monRuns = true → s.monInput core = some i → i < 64 →
    (i < 48 ∨ 56 ≤ i → s.monQ i = false → AnswersVia (.monitorConversion core x) s (fun u => u.monThr.settle) fun u =>
      u.get (MON.LAST.ENTRY i) = (s.monTurn core).monWord core i x.toNat % 2 ^ 32 ∧ u.mon.queue = s.mon.queue ∧
      u.now = max s.now (Tab.get 0 s.mon.convAt core + us (if s.coreMode core = 2 then 16 else 1)) ∧ Keeps s u [(MON.LAST.ENTRY i).key]) ∧
    (i < 48 ∨ 56 ≤ i → s.monQ i = true → s.mon.queue.length < 1024 →
      AnswersVia (.monitorConversion core x) s (fun u => u.monThr.settle) fun u => u.mon.queue = s.mon.queue ++ [(s.monTurn core).monWord core i x.toNat] ∧
        u.get MON.Q_STAT.LEVEL = s.mon.queue.length + 1 ∧ u.get MON.Q_STAT.EMPTY = 0 ∧
        Keeps s u [(MON.LAST.ENTRY i).key, MON.Q_STAT.LEVEL.key, MON.Q_STAT.EMPTY.key]) ∧
    (i < 48 ∨ 56 ≤ i → s.monQ i = true → 1024 ≤ s.mon.queue.length →
      AnswersVia (.monitorConversion core x) s (fun u => (u.fire 0x0A MON.src.Q_OVF {}).settle) fun u => u.mon.queue = s.mon.queue ∧
        u.get MON.Q_STAT.OVF = satAdd 16 (s.get MON.Q_STAT.OVF) 1 % 2 ^ 16 ∧ Keeps s u [(MON.LAST.ENTRY i).key, MON.Q_STAT.OVF.key]) ∧
    (∀ c, 48 ≤ i → i < 56 → c = 8 * (i - 48) + Tab.get 0 s.mon.mux (i - 48) → (s.convTime core).rbCounts c = false →
      AnswersSettled (.monitorConversion core x) s fun u =>
        Tab.get 0 u.mon.mux (i - 48) = (Tab.get 0 s.mon.mux (i - 48) + 1) % 8 ∧ u.mon.queue = s.mon.queue ∧
        Keeps s u [(MON.LAST.ENTRY i).key, (BIA.RB.MV (c / 32) (c % 32)).key, (BIA.RB.CODE (c / 32) (c % 32)).key])) ∧
  (∀ (s : State) (m : Master) (v : Word), s.verdict m 0xA040 v (fieldsAt 0xA040) (s.monPairOk v) .take → AnswersSettled (.monitorModeWrite m v) s
    fun u => u.get MON.CTL.MODE = bits v.toNat 0 2 ∧ u.get MON.CTL.PAIR_IN = bits v.toNat 8 6 ∧ u.get MON.CTL.ALIGN = bits v.toNat 16 1 ∧
      u.mon.queue = s.mon.queue ∧
      (∀ core < 2, u.coreMode core = if (s.monPass core).isEmpty then bits v.toNat 0 2 else s.coreMode core) ∧
      Keeps s u [MON.CTL.MODE.key, MON.CTL.PAIR_IN.key, MON.CTL.ALIGN.key]) ∧
  (∀ (s : State) (m : Master), s.reaches m → s.pageOff 0x0A = false →
    (s.readsWithEffect m 0x0A = false → AnswersSettled (.monQueueRead m) s fun u =>
      u.out = [BitVec.ofNat 32 (s.mon.queue.headD 0)] ∧ u.mon = s.mon ∧ Keeps s u []) ∧
    (s.readsWithEffect m 0x0A = true → s.mon.queue = [] →
      AnswersVia (.monQueueRead m) s (fun u => ((u.fire 0x0A MON.src.Q_UNDER {}).reply 0).settle) fun u => Keeps s u [] ∧ u.mon = s.mon) ∧
    (∀ w rest, s.readsWithEffect m 0x0A = true → s.mon.queue = w :: rest →
      AnswersVia (.monQueueRead m) s (fun u => (u.monThr.reply w).settle) fun u => u.mon.queue = rest ∧
        u.get MON.Q_STAT.LEVEL = rest.length % 2 ^ 11 ∧ Keeps s u [MON.Q_STAT.LEVEL.key, MON.Q_STAT.EMPTY.key])) ∧
  (∀ (s : State) (m : Master) (v : Word), s.takes m 0xA060 v → v.getLsbD 16 = true →
    AnswersVia (.monQueueFlush m v) s (fun u => u.monThr.settle) fun u => u.mon.queue = [] ∧ u.get MON.Q_STAT.LEVEL = 0 ∧
      u.get MON.Q_STAT.EMPTY = 1 ∧ u.get MON.Q_CTL.THR = bits v.toNat 0 11 ∧
      Keeps s u [MON.Q_STAT.LEVEL.key, MON.Q_STAT.EMPTY.key, MON.Q_CTL.THR.key]) ∧
  (∀ (s : State) (i : Fin 72) (v : Int), s.inReset = false → s.resetting 0x09 = false → i.val < 40 → s.flag (THM.TEMP.FAILED i) = false →
    (s.failCause i v = 0 → s.flag THM.STAT.WARN = false → s.flag THM.REQ.REQ = false → v < 760 →
      (∀ j < 72, s.flag (THM.TEMP.VALID j) = true → s.shown j < 760) → AnswersVia (.sensorConversion i v) s (fun u => u.hsTemp.settle) fun u =>
        u.get (THM.TEMP.TEMP i) = toField 12 v ∧ u.get (THM.TEMP.VALID i) = 1 ∧ u.tempOf i = some v ∧
        Keeps s u [(THM.TEMP.TEMP i).key, (THM.TEMP.VALID i).key, THM.HOT.SENSOR.key, THM.HOT.TEMP.key, THM.STAT.NVM_OK.key] ∧
        (∀ j < 72, u.flag (THM.TEMP.VALID j) = true → u.shown j ≤ u.hot)) ∧
    (s.failCause i v = 0 → s.flag THM.STAT.WARN = true → s.flag THM.REQ.REQ = true → 944 ≤ v →
      AnswersVia (.sensorConversion i v) s (fun u => (u.hsTemp.fire 0x09 THM.src.THM_TRIP { detail := u.hsTemp.thmDetail }).settle) fun u =>
        u.get (THM.TEMP.TEMP i) = toField 12 v ∧ u.get THM.STAT.LEVEL = s.get THM.STAT.LEVEL ∧ u.slots = s.slots) ∧
    (s.failCause i v ≠ 0 → v < 944 → AnswersVia (.sensorConversion i v) s (fun u => (((u.fire 0x09 THM.src.SENSOR_FAIL
        { detail := [i.val, s.failCause i v] ++ leBytes 2 (toField 16 (u.shown i)) }).thresholds).nvmWindow).holdTrack i |>.hsTemp.settle) fun u =>
      u.get (THM.TEMP.FAILED i) = 1 ∧ u.get (THM.TEMP.CAUSE i) = s.failCause i v ∧ tbit (u.get (THM.FAIL.FAIL (i.val / 32))) (i.val % 32) = true ∧
      u.get THM.STAT.HOLD = 1 ∧ u.tempOf i = none ∧ Tab.get none u.thm.holds i.val = some (s.get THM.STAT.LEVEL, none))) ∧
  (∀ s : State, s.inReset = false →
    (s.thm.graceAt ≠ 0 → 800 ≤ s.hot → AnswersVia .graceExpiry s (fun u => (u.fire 0x09 THM.src.THM_ENF { detail := u.thmDetail }).settle) fun u =>
      u.get THM.STAT.LEVEL = 1 ∧ u.now = max s.now (s.thm.graceAt - 1) ∧ u.get CAN.BUDGET.THERM = 1 ∧ u.thm.graceAt = 0) ∧
    (s.thm.graceAt ≠ 0 → s.hot < 800 → AnswersSettled .graceExpiry s fun u => u.thm.graceAt = 0 ∧ Keeps s u []) ∧
    (1 ≤ s.get THM.STAT.LEVEL → s.get THM.STAT.LEVEL < 12 → 800 ≤ s.hot →
      AnswersVia .enforcementRise s (fun u => (u.fire 0x09 THM.src.THM_ENF { detail := u.thmDetail }).settle) fun u =>
        u.get THM.STAT.LEVEL = s.get THM.STAT.LEVEL + 1 ∧ u.thm.eAt = u.now ∧ s.now ≤ u.now) ∧
    (∀ c, s.thm.coolAt = some c → 1 ≤ s.get THM.STAT.LEVEL → s.get THM.STAT.LEVEL ≤ 12 → s.flag THM.STAT.HOLD = false →
      AnswersVia .enforcementFall s (fun u => ((u.fire 0x09 THM.src.THM_ENF { detail := u.thmDetail }).reqClear).settle) fun u =>
        u.get THM.STAT.LEVEL = s.get THM.STAT.LEVEL - 1 ∧ c + ms 1000 ≤ u.now ∧ u.thm.eAt = u.now)) ∧
  (∀ (s : State) (i t : Nat), s.holdNext = some (i, t) → AnswersSettled .thermalHoldEnd s fun u =>
    u.thm.holds = Tab.set none s.thm.holds i none ∧ u.flag THM.STAT.HOLD = !u.thm.holds.isEmpty ∧ u.now = max s.now (t + ms 10000) ∧ Keeps s u [THM.STAT.HOLD.key])

/-- FAULT_SOURCE_FIRE of an event source that may fire, of class 0 or 1 with no reaction, sets its IRQ_STAT bit and, for class 1,
its ERR_STAT bit and as the first one ERR_FIRST, and no other bit of the page; one whose status bit is still set, or that a
reset shadow covers, changes no status, a shadowed one counting in SHADOW; one of class 3 begins a fault chip reset with its
page in FAULT_PAGE. A condition that holds already changes nothing, and its end is no firing. SHADOW_END closes a shadow.
SRC_CFG of a source of fixed or security class is kept. The owner's two keys within 1 ms open injection, INJ closes it;
closed, ERR_FORCE and IRQ_FORCE do nothing; open, ERR_FORCE fires its source marked as forced, or counts a denial for one of
fixed class, and IRQ_FORCE sets the bits of implemented sources. (R340, R343, R344, R350, R352, R353) -/
def Obligations.FaultCollection : Prop :=
  (∀ (s : State) (p : Fin 128) (b : Fin 32), p.val < 0x40 → p.val ∉ [0x06, 0x07, 0x2C] ∧ ¬(0x18 ≤ p.val ∧ p.val < 0x20) →
    (srcOf (srcKey p b)).impl = true → (srcOf (srcKey p b)).cond = false → (srcOf (srcKey p b)).sec = false → s.inReset = false →
    s.pageOff p = false → (s.clocksGated && datapathSrc p b) = false → s.hasRoom 1 → (s.flag FLT.TERM.SET && s.flag GOV.PERMIT.PERMIT) = false →
    (s.shadowed p b = false → s.gated p b = false → s.srcCls p b < 2 → s.srcReact p b = 0 → s.masked p b = false →
      AnswersSettled (.faultSourceFire p b true) s fun u =>
        (∀ c < 32, tbit (u.get (HDR.IRQ_STAT.BITS p)) c = (tbit (s.get (HDR.IRQ_STAT.BITS p)) c || c == b.val)) ∧
        (∀ c < 32, tbit (u.get (HDR.ERR_STAT.BITS p)) c = (tbit (s.get (HDR.ERR_STAT.BITS p)) c || (c == b.val && s.srcCls p b == 1))) ∧
        (s.srcCls p b = 1 → s.get (HDR.ERR_STAT.BITS p) = 0 → u.get (HDR.ERR_FIRST.BIT p) = b.val ∧ u.get (HDR.ERR_FIRST.VALID p) = 1) ∧
        u.active = s.active ∧ u.slots = s.slots ∧ u.now = s.now ∧ u.nvm = s.nvm) ∧
    (s.shadowed p b = true ∨ s.gated p b = true → AnswersSettled (.faultSourceFire p b true) s fun u =>
      (∀ q, q ≠ 6 → u.get (HDR.IRQ_STAT.BITS q) = s.get (HDR.IRQ_STAT.BITS q) ∧ u.get (HDR.ERR_STAT.BITS q) = s.get (HDR.ERR_STAT.BITS q)) ∧
      u.get FLT.SHADOW.COUNT = (if s.shadowed p b then satAdd 16 (s.get FLT.SHADOW.COUNT) 1 % 2 ^ 16 else s.get FLT.SHADOW.COUNT) ∧
      u.active = s.active ∧ u.slots = s.slots) ∧
    (s.shadowed p b = false → s.gated p b = false → s.srcCls p b = 3 → s.srcReact p b = 0x0C → s.masked p b = false → s.rst.pf ≠ .running →
      s.nvm.group = false → s.rst.faultWaits = false → AnswersSettled (.faultSourceFire p b true) s fun u => u.inReset = true ∧ u.rst.fault = true ∧ u.active = [] ∧
        u.get PWR.RESET_CAUSE.FAULT = 1 ∧ u.get PWR.RESET_CAUSE.FAULT_PAGE = p.val)) ∧
  (∀ (s : State) (p : Fin 128) (b : Fin 32), (srcOf (srcKey p b)).impl = true → (srcOf (srcKey p b)).cond = true →
    ((srcOf (srcKey p b)).sec = false → s.holds p b = true → AnswersSettled (.faultSourceFire p b true) s fun u => u = s) ∧
    AnswersSettled (.faultSourceFire p b false) s fun u => u.holds p b = false ∧ Keeps s u [] ∧ u.slots = s.slots) ∧
  (∀ (s : State) (p : Fin 128) (t : Nat), Tab.get none s.flt.shadows p = some (t + 1) → s.flt.conds = [] → AnswersSettled (.shadowEnd p) s fun u =>
    Tab.get none u.flt.shadows p = none ∧ u.now = max s.now (t + 1) ∧ Keeps s u []) ∧
  (∀ (s : State) (m : Master) (v : Word), s.verdict m 0x4058 v (fieldsAt (0x150000 + 4 * s.srcSel)) (s.srcCfgOk s.srcSel v) .take →
    ((srcOf s.srcSel).fixed = true ∨ (srcOf s.srcSel).sec = true → AnswersSettled (.srcCfgWrite m v) s fun u => Keeps s u []) ∧
    ((srcOf s.srcSel).fixed = false → (srcOf s.srcSel).sec = false → AnswersSettled (.srcCfgWrite m v) s fun u =>
      u.get (FLT.SRC_CFG.CLASS s.srcSel) = bits v.toNat 20 3 ∧ u.get (FLT.SRC_CFG.CRST s.srcSel) = bits v.toNat 13 1 ∧
      u.get (FLT.SRC_CFG.BRST s.srcSel) = bits v.toNat 12 1 ∧ u.flt.conds = s.flt.conds)) ∧
  (∀ (s : State) (m : Master) (v : Word), s.takes m 0x4060 v → s.owns m = true →
    (bits v.toNat 0 16 = 0x4A3C → Answers (.injKeyWrite m v) s fun u => u.flt.keyAt = some s.now ∧ Keeps s u []) ∧
    (∀ t, bits v.toNat 0 16 = 0xC3B5 → s.flt.keyAt = some t → s.now ≤ t + ms 1 → Answers (.injKeyWrite m v) s fun u =>
      u.get FLT.INJ.EN = 1 ∧ u.flt.keyAt = none ∧ Keeps s u [FLT.INJ.EN.key]) ∧
    (bits v.toNat 0 16 ≠ 0x4A3C → bits v.toNat 0 16 ≠ 0xC3B5 ∨ s.flt.keyAt = none → Answers (.injKeyWrite m v) s fun u =>
      u.flt.keyAt = none ∧ Keeps s u [])) ∧
  (∀ (s : State) (m : Master) (v : Word), s.takes m 0x4064 v → Answers (.injClose m v) s fun u =>
    u.get FLT.INJ.EN = (if v.getLsbD 0 then 0 else s.get FLT.INJ.EN) ∧ Keeps s u [FLT.INJ.EN.key]) ∧
  (∀ (s : State) (m : Master) (p : Fin 128) (v : Word), s.takes m (0x1000 * p.val + 0x18) v →
    (s.flag FLT.INJ.EN = false → AnswersSettled (.errForceWrite m p v) s fun u => Keeps s u []) ∧
    (∀ b : Fin 32, s.flag FLT.INJ.EN = true → v = BitVec.twoPow 32 b → (srcOf (srcKey p b)).impl = true → s.inReset = false →
      (((srcOf (srcKey p b)).fixed = true ∨ (srcOf (srcKey p b)).sec = true ∨ s.srcCls p b = 4) → s.ftm = false →
        AnswersSettled (.errForceWrite m p v) s fun u =>
          u.get FLT.INJ.DENIED = satAdd 8 (s.get FLT.INJ.DENIED) 1 % 2 ^ 8 ∧ Keeps s u [FLT.INJ.DENIED.key]) ∧
      ((srcOf (srcKey p b)).fixed = false → (srcOf (srcKey p b)).sec = false → s.srcCls p b ≠ 4 →
        AnswersVia (.errForceWrite m p v) s (fun u => (u.fire p b { master := m.num, forced := true }).settle) fun u => Keeps s u []))) ∧
  (∀ (s : State) (m : Master) (p : Fin 128) (v : Word), s.takes m (0x1000 * p.val + 0x28) v → AnswersSettled (.irqForceWrite m p v) s fun u =>
    (∀ b < 32, tbit (u.get (HDR.IRQ_STAT.BITS p)) b =
      (tbit (s.get (HDR.IRQ_STAT.BITS p)) b || (s.flag FLT.INJ.EN && v.getLsbD b && (srcOf (srcKey p b)).impl))) ∧
    Keeps s u [(HDR.IRQ_STAT.BITS p).key])

/-- MBX_CMD is refused while BUSY; otherwise it ends at once with LOCKED or LENGTH, or starts BUSY and asks for its words.
MBX_DATA takes a word, the last clearing DATA_WAIT; a read removes the oldest output word. REGL_CHECK ends with SIGNATURE,
FORMAT or 1 without a write; REGL_WRITE with STATE not BLANK ends with its refusal, with the window closed with TEMP, after
NVM.RESULT and WR_REFUSED have said so too, and otherwise queues the region write. KEYPKG ends with FORMAT, SIGNATURE, or its
further causes, or queues the key region. FW_LOAD starts the cores on a verified image and drops any other. CHALLENGE puts
out eight words and remembers them. SET_MIN_SVN is refused outside its range. A passing response grants its scopes or FTM and
clears FAILS; a failing one uses up the nonce and counts, one of bad form does neither. Every end shows RESULT with BUSY
clear before MBX_DONE fires. (R303, R365, R368, R369, R370, R371, R376, R387, R388) -/
def Obligations.MailboxCommands : Prop :=
  (∀ (s : State) (m : Master) (v : Word) (cmd len : Nat), cmd = SEC.MBX_CMD.CMD.of v → len = SEC.MBX_CMD.LEN.of v →
    s.verdict m 0x8050 v (fieldsAt 0x8050) (decide (1 ≤ cmd) && decide (cmd ≤ 8)) .take →
    (s.flag SEC.MBX_STAT.BUSY = true → AnswersVia (.mbxCmdWrite m v) s (fun u => (u.fire 0x08 SEC.src.MBX_REFUSED {}).settle) fun u =>
      Keeps s u [] ∧ u.tansy = s.tansy) ∧
    (s.flag SEC.MBX_STAT.BUSY = false → s.flag SEC.STATE.LOCK = true ∨ mbxLenOk cmd len = false → AnswersVia (.mbxCmdWrite m v) s (fun u => (u.fire 0x08 SEC.src.MBX_DONE {}).settle) fun u =>
      u.get SEC.MBX_STAT.LAST = cmd ∧ u.get SEC.MBX_STAT.BUSY = 0 ∧
      u.get SEC.MBX_STAT.RESULT = (if s.flag SEC.STATE.LOCK then 0x0C else 0x02) ∧ u.tansy.keys = s.tansy.keys ∧ u.nvm = s.nvm) ∧
    (s.flag SEC.MBX_STAT.BUSY = false → s.flag SEC.STATE.LOCK = false → mbxLenOk cmd len = true → AnswersSettled (.mbxCmdWrite m v) s fun u =>
      u.get SEC.MBX_STAT.BUSY = 1 ∧ u.get SEC.MBX_STAT.LAST = cmd ∧ (u.get SEC.MBX_STAT.DATA_WAIT = 1 ↔ len ≠ 0) ∧ u.tansy.need = len ∧
      u.tansy.words = [] ∧ (cmd ≠ 4 → Keeps s u [SEC.MBX_STAT.BUSY.key, SEC.MBX_STAT.LAST.key, SEC.MBX_STAT.DATA_WAIT.key, SEC.MBX_STAT.OUT.key]))) ∧
  (∀ (s : State) (m : Master) (v : Word), s.takes m 0x805C v →
    (s.flag SEC.MBX_STAT.DATA_WAIT = false → AnswersVia (.mbxDataWrite m v) s (fun u => (u.fire 0x08 SEC.src.MBX_REFUSED {}).settle) fun u =>
      Keeps s u [] ∧ u.tansy = s.tansy) ∧
    (s.flag SEC.MBX_STAT.DATA_WAIT = true → AnswersSettled (.mbxDataWrite m v) s fun u => u.tansy.words = v.toNat :: s.tansy.words ∧
      (u.get SEC.MBX_STAT.DATA_WAIT = 1 ↔ s.tansy.words.length + 1 < s.tansy.need) ∧ Keeps s u [SEC.MBX_STAT.DATA_WAIT.key])) ∧
  (∀ (s : State) (m : Master), s.reaches m → s.pageOff 0x08 = false → AnswersSettled (.mbxDataRead m) s fun u =>
    u.out = [BitVec.ofNat 32 s.mbxOut] ∧ u.tansy.outq = (if s.readsWithEffect m 0x08 then s.tansy.outq.drop 1 else s.tansy.outq) ∧
    Keeps s u [SEC.MBX_STAT.OUT.key]) ∧
  (∀ (s : State) (c : Nat), s.mbxReady 1 = true → c = (if s.lockSigned s.mbxBytes = false then 4 else if lockFormed s.mbxBytes = false then 3 else 1) →
    AnswersVia .reglCheck s (fun u => ((u.fire 0x0F REGL.src.LOCK_RESULT {}).fire 0x08 SEC.src.MBX_DONE {}).settle) fun u => u.get SEC.MBX_STAT.RESULT = c ∧ u.get SEC.MBX_STAT.BUSY = 0 ∧
      u.get REGL.STATE.WRES = (if c = 4 then 3 else if c = 3 then 4 else 1) ∧ u.nvm = s.nvm ∧
      Keeps s u [SEC.MBX_STAT.RESULT.key, SEC.MBX_STAT.BUSY.key, SEC.MBX_STAT.DATA_WAIT.key, REGL.STATE.WRES.key]) ∧
  (∀ s : State, s.mbxReady 2 = true →
    (s.get REGL.STATE.STATE ≠ 0 → AnswersVia .reglWrite s (fun u => ((u.fire 0x0F REGL.src.LOCK_RESULT {}).fire 0x08 SEC.src.MBX_DONE {}).settle) fun u => u.get SEC.MBX_STAT.RESULT = 9 ∧ u.get REGL.STATE.WRES = 2 ∧
      u.nvm = s.nvm) ∧
    (s.get REGL.STATE.STATE = 0 → s.lockSigned s.mbxBytes = true → lockFormed s.mbxBytes = true →
      (s.flag THM.STAT.NVM_OK = false → AnswersVia .reglWrite s (fun u => (let w := u.fire 0x07 NVM.src.WR_REFUSED { master := 7 }
          if w.inReset then w
          else (((w.set REGL.STATE.WRES 5).mbxOver 0x0A).fire 0x0F REGL.src.LOCK_RESULT {}).fire 0x08 SEC.src.MBX_DONE {}).settle) fun u =>
        u.get NVM.RESULT.CAUSE = 2 ∧ u.get NVM.RESULT.REGION = rgLock ∧ u.nvm = s.nvm ∧ u.tansy = s.tansy ∧
        Keeps s u [NVM.RESULT.CAUSE.key, NVM.RESULT.REGION.key]) ∧
      (s.flag THM.STAT.NVM_OK = true → s.nvmCause rgLock = 0 → AnswersSettled .reglWrite s fun u => u.get SEC.MBX_STAT.BUSY = 1 ∧
        u.nvm.queue = s.nvm.queue ++ [{ region := rgLock, bytes := s.mbxBytes, tansy := true }] ∧ u.nvm.lock = s.nvm.lock ∧
        u.get REGL.STATE.STATE = 0))) ∧
  (∀ (s : State) (bs : List Nat), s.mbxReady 3 = true → bs = s.mbxBytes →
    (slice bs 0 4 ≠ [0x4B, 0x50, 0x4B, 0x47] → AnswersVia .keypkg s (fun u => (u.fire 0x08 SEC.src.MBX_DONE {}).settle) fun u => u.get SEC.MBX_STAT.RESULT = 3 ∧ u.nvm = s.nvm ∧
      u.tansy.keys = s.tansy.keys) ∧
    (slice bs 0 4 = [0x4B, 0x50, 0x4B, 0x47] → field bs 4 2 = 1 → Config.sigOk s.otp.rootKey (slice bs 0 832) (slice bs 832 96) = false →
      AnswersVia .keypkg s (fun u => (u.fire 0x08 SEC.src.MBX_DONE {}).settle) fun u => u.get SEC.MBX_STAT.RESULT = 4 ∧ u.nvm = s.nvm ∧ u.tansy.keys = s.tansy.keys) ∧
    (∀ p, slice bs 0 4 = [0x4B, 0x50, 0x4B, 0x47] → field bs 4 2 = 1 → Config.sigOk s.otp.rootKey (slice bs 0 832) (slice bs 832 96) = true →
      field bs 8 8 = s.otp.uidHi * 2 ^ 32 + s.otp.uidLo → field bs 16 2 = s.otp.epoch → s.otp.provDead = false →
      Config.unwrap (Config.kdf s.otp.secret Config.labelKt s.otp.epoch) (slice bs 20 12) (slice bs 32 16) (slice bs 0 20 ++ slice bs 48 16)
        (slice bs 64 768) = some p → kpFormed bs p = true → s.flag THM.STAT.NVM_OK = true → s.nvmCause rgKeys = 0 →
      AnswersSettled .keypkg s fun u => (∃ r, u.nvm.queue = s.nvm.queue ++ [r] ∧ r.region = rgKeys ∧ r.tansy = true ∧
          r.alarms = tbit (field bs 6 2) 0) ∧
        u.nvm.keys = s.nvm.keys ∧ u.tansy.keys = s.tansy.keys ∧ u.get SEC.MBX_STAT.BUSY = s.get SEC.MBX_STAT.BUSY)) ∧
  (∀ (s : State) (bs : List Nat), s.mbxReady 4 = true → bs = s.mbxBytes →
    (bs.length ≠ 352 + fwLength bs → AnswersVia .fwLoad s (fun u => (u.fire 0x08 SEC.src.MBX_DONE {}).settle) fun u => u.get SEC.MBX_STAT.RESULT = 2 ∧ u.get SEC.BOOT_STAT.RESULT = 3 ∧
      u.tansy.mem = []) ∧
    (bs.length = 352 + fwLength bs → (s.verifyFw bs).1 ≠ 1 → AnswersVia .fwLoad s (fun u => (u.fire 0x08 SEC.src.MBX_DONE {}).settle) fun u =>
      u.get SEC.MBX_STAT.RESULT = mbxOfBoot (s.verifyFw bs).1 % 256 ∧ u.tansy.mem = [] ∧ u.get SEC.BOOT_STAT.RESULT = (s.verifyFw bs).1 % 16) ∧
    (bs.length = 352 + fwLength bs → (s.verifyFw bs).1 = 1 → s.trapHold = false → s.flag SEC.STATE.LOCK = false →
      AnswersVia .fwLoad s (fun u => (u.updPermit.tansyEnd 1).settle) fun u => u.tansy.mem = (s.verifyFw bs).2 ∧ u.get APC.CORE_STAT.RUN = 15 ∧
        u.get SEC.BOOT_STAT.CORES = 1 ∧ u.get SEC.BOOT_STAT.DONE = 1 ∧ u.get SEC.BOOT_STAT.COPY = 3)) ∧
  (∀ s : State, s.mbxReady 5 = true → AnswersVia .challenge s (fun u => (u.fire 0x08 SEC.src.MBX_DONE {}).settle) fun u => u.get SEC.MBX_STAT.RESULT = 1 ∧ u.get SEC.MBX_STAT.OUT = 8 ∧
    u.tansy.outq.length = 8 ∧ (if tbit (s.get SEC.MBX_ARG.ARG) 0 then u.tansy.nonceFtm = some u.tansy.outq ∧ u.tansy.nonceDbg = s.tansy.nonceDbg
      else u.tansy.nonceDbg = some u.tansy.outq ∧ u.tansy.nonceFtm = s.tansy.nonceFtm)) ∧
  (∀ s : State, s.mbxReady 8 = true →
    (s.get SEC.MBX_ARG.ARG < s.nvm.minSvn ∨ s.get SEC.BOOT_STAT.SVN < s.get SEC.MBX_ARG.ARG → AnswersVia .setMinSvn s (fun u => (u.fire 0x08 SEC.src.MBX_DONE {}).settle) fun u =>
      u.get SEC.MBX_STAT.RESULT = 9 ∧ u.nvm = s.nvm) ∧
    (s.nvm.minSvn ≤ s.get SEC.MBX_ARG.ARG → s.get SEC.MBX_ARG.ARG ≤ s.get SEC.BOOT_STAT.SVN → s.flag THM.STAT.NVM_OK = true →
      s.nvmCause rgHeader = 0 → AnswersSettled .setMinSvn s fun u => u.nvm.minSvn = s.nvm.minSvn ∧
        ∃ r, u.nvm.queue = s.nvm.queue ++ [r] ∧ r.region = rgHeader ∧ Tab.get 0 r.data 8 = s.get SEC.MBX_ARG.ARG)) ∧
  (∀ (s : State) (r : Nat), s.mbxReady 6 = true → r = s.judgeResp false s.mbxBytes →
    (r = 1 → AnswersVia .dbgUnlock s (fun u => (u.fire 0x08 SEC.src.MBX_DONE {}).settle) fun u => u.get SEC.MBX_STAT.RESULT = 1 ∧ u.get SEC.DBG.FAILS = 0 ∧ u.tansy.nonceDbg = none ∧
      u.get SEC.STATE.SCOPE = (s.get SEC.STATE.SCOPE ||| (if s.flag SEC.STATE.FTM then s.mbxBytes.getD 0 0 else s.mbxBytes.getD 0 0 % 4)) % 8) ∧
    (r = 3 → AnswersVia .dbgUnlock s (fun u => (u.fire 0x08 SEC.src.MBX_DONE {}).settle) fun u => u.get SEC.MBX_STAT.RESULT = 3 ∧ u.get SEC.DBG.FAILS = s.get SEC.DBG.FAILS ∧
      u.tansy.nonceDbg = s.tansy.nonceDbg ∧ u.get SEC.STATE.SCOPE = s.get SEC.STATE.SCOPE) ∧
    (r ≠ 1 → r ≠ 3 → s.get SEC.DBG.FAILS < 2 → AnswersVia .dbgUnlock s (fun u => (u.fire 0x08 SEC.src.MBX_DONE {}).settle) fun u => u.get SEC.DBG.FAILS = s.get SEC.DBG.FAILS + 1 ∧
      u.tansy.nonceDbg = none ∧ u.get SEC.STATE.SCOPE = s.get SEC.STATE.SCOPE) ∧
    (r ≠ 1 → r ≠ 3 → 2 ≤ s.get SEC.DBG.FAILS → AnswersVia .dbgUnlock s
      (fun u => ((u.fire 0x08 SEC.src.MBX_DONE {}).tamper SEC.src.DEBUG false).settle) fun u => u.get SEC.DBG.FAILS = 0 ∧ u.tansy.nonceDbg = none)) ∧
  (∀ s : State, s.mbxReady 7 = true →
    (s.straps.testMode = false → AnswersVia .ftmAuth s (fun u => (u.fire 0x08 SEC.src.MBX_DONE {}).settle) fun u => u.get SEC.MBX_STAT.RESULT = 0x0C ∧ u.tansy.nonceFtm = s.tansy.nonceFtm ∧
      u.get SEC.STATE.FTM = s.get SEC.STATE.FTM) ∧
    (s.straps.testMode = true → s.judgeResp true s.mbxBytes = 1 → AnswersVia .ftmAuth s (fun u => (u.fire 0x08 SEC.src.MBX_DONE {}).settle) fun u => u.get SEC.MBX_STAT.RESULT = 1 ∧
      u.get SEC.STATE.FTM = 1 ∧ u.tansy.nonceFtm = none ∧ u.get SEC.DBG.FAILS = 0)) ∧
  (∀ (s : State) (resp : List Word) (bs : List Nat), bs = wordBytes (resp.map (·.toNat)) → s.inReset = false → s.tansy.booted = true →
    (s.judgeResp false bs = 1 → AnswersSettled (.jtagResponse false resp) s fun u => u.tansy.nonceDbg = none ∧
      u.get SEC.STATE.SCOPE = (s.get SEC.STATE.SCOPE ||| (if s.flag SEC.STATE.FTM then bs.getD 0 0 else bs.getD 0 0 % 4)) % 8 ∧
      Keeps s u [SEC.STATE.SCOPE.key, SEC.DBG.FAILS.key]) ∧
    (s.judgeResp false bs = 3 → AnswersSettled (.jtagResponse false resp) s fun u => u = s))

/-- TANSY_BOOT shows the identifiers, takes the keys that unwrap and begins on the boot source before KEY_INT fires for one that
does not and the permit follows; BOOT_DONE_NO_FW sets DONE; a verified image runs the cores, a failed first copy leads to the
other, and a failed second one to BOOT_FAIL. A tamper source at level LOG is noted; at LOCK or ERASE it locks, holds the
cores and ends the mailbox, and ERASE on a provisioned part clears the key store, advances the epoch or blows PROV_DEAD, and
marks the region; in SLEEP the same fuse step latches with an alarm. The key region is overwritten once the window is open.
ALARM_LVL is raised or refused whole. A watchdog expires, restarts its core with RST, and fires WDOG; a kick restarts the
ones named. An MPU break is noted once and fires. JTAG halts and resumes cores only with the scope. (R363, R365, R366, R377,
R378, R379, R380, R382, R385, R386) -/
def Obligations.BootAlarmsAndCores : Prop :=
  (∀ s : State, s.rst.loaded = true → s.tansy.booted = false → s.inReset = false → AnswersVia .tansyBoot s (fun u =>
      (if !s.nvm.zeroDue && s.nvm.keys.any (fun e => e.2.kw != s.wrapKey) then u.tamper SEC.src.KEY_INT false else u).updPermit.settle) fun u =>
    u.tansy.booted = true ∧ u.now = max s.now (s.tansy.startAt + ms 2) ∧ u.get SEC.UID_LO.UID = s.otp.uidLo % 2 ^ 32 ∧
    u.get SEC.STATE.EPOCH = s.otp.epoch % 64 ∧ u.tansy.keys = (if s.nvm.zeroDue then [] else s.nvm.keys.filter fun e => e.2.kw == s.wrapKey) ∧
    (s.straps.bootSrc = 0 → u.tansy.reading = s.nvm.copy + 1 ∧ u.tansy.second = false) ∧
    (s.straps.bootSrc = 1 ∨ s.straps.bootSrc = 2 → u.get SEC.BOOT_STAT.RESULT = 8)) ∧
  (∀ s : State, s.tansy.booted = true → s.inReset = false → s.straps.bootSrc = 3 →
    AnswersVia .bootDoneNoFw s (fun u => u.updPermit.settle) fun u => u.get SEC.BOOT_STAT.DONE = 1 ∧ Keeps s u [SEC.BOOT_STAT.DONE.key]) ∧
  (∀ (s : State) (image : List Word) (bs : List Nat), bs = wordBytes (image.map (·.toNat)) → s.inReset = false → s.tansy.reading ≠ 0 →
    ((s.verifyFw bs).1 = 1 → s.trapHold = false → s.flag SEC.STATE.LOCK = false →
      AnswersVia (.qspiImageVerified image) s (fun u => u.updPermit.settle) fun u => u.tansy.mem = (s.verifyFw bs).2 ∧
        u.get APC.CORE_STAT.RUN = 15 ∧ u.get SEC.BOOT_STAT.DONE = 1 ∧ u.get SEC.BOOT_STAT.COPY = s.tansy.reading % 4 ∧ u.tansy.reading = 0) ∧
    ((s.verifyFw bs).1 ≠ 1 → s.tansy.second = false → AnswersSettled (.qspiImageVerified image) s fun u =>
      u.tansy.reading = 3 - s.tansy.reading ∧ u.tansy.second = true ∧ u.tansy.mem = [] ∧ Keeps s u []) ∧
    ((s.verifyFw bs).1 ≠ 1 → s.tansy.second = true →
      AnswersVia (.qspiImageVerified image) s (fun u => (u.fire 0x08 SEC.src.BOOT_FAIL {}).settle) fun u =>
        u.get SEC.BOOT_STAT.RESULT = (s.verifyFw bs).1 % 16 ∧ u.tansy.reading = 0 ∧ Keeps s u [SEC.BOOT_STAT.RESULT.key])) ∧
  (∀ (s : State) (src : Fin 6), s.hasRoom 1 → (s.flag FLT.TERM.SET && s.flag GOV.PERMIT.PERMIT) = false → s.canFire 0x08 src = true → s.gated 0x08 src = false → s.holds 0x08 src = false → (srcOf (srcKey 0x08 src)).sec = true →
    (s.alarmLvl src < 2 → AnswersSettled (.tamperAlarm src true) s fun u => tbit (u.get SEC.ALARM_STAT.SRC) src = true ∧
      u.get SEC.STATE.LOCK = s.get SEC.STATE.LOCK ∧ u.tansy.keys = s.tansy.keys ∧ u.otp = s.otp) ∧
    (2 ≤ s.alarmLvl src → AnswersVia (.tamperAlarm src true) s (fun u =>
        (if s.flag SEC.MBX_STAT.BUSY then u.updPermit.fire 0x08 SEC.src.MBX_DONE {} else u.updPermit).settle) fun u =>
      tbit (u.get SEC.ALARM_STAT.SRC) src = true ∧ u.get SEC.STATE.LOCK = 1 ∧ u.get APC.CORE_STAT.RUN = 0 ∧ u.get SEC.BOOT_STAT.CORES = 0 ∧
      u.flag SEC.MBX_STAT.BUSY = false ∧ (s.alarmLvl src = 2 → u.tansy.keys = s.tansy.keys ∧ u.otp = s.otp) ∧
      (s.alarmLvl src = 3 → s.provisioned = true → u.tansy.keys = [] ∧ u.get SEC.STATE.ERASED = 1 ∧ u.get SEC.STATE.SLOTS = 0 ∧
        u.nvm.zeroDue = true ∧ (s.otp.epoch < 63 → u.otp = { s.otp with epoch := s.otp.epoch + 1 }) ∧
        (63 ≤ s.otp.epoch → u.otp = { s.otp with provDead := true })))) ∧
  (∀ (s : State) (src : Fin 6), src.val = SEC.src.MESH ∨ src.val = SEC.src.TEMP_AON → s.aon.asleep = true → tbit s.aon.sleepAlarm src = false →
    s.nvm.zeroDue = false → s.nvm.keys ≠ [] → AnswersSettled (.sleepTamper src) s fun u => Keeps s u [] ∧
      (bits s.nvm.alarmLvl (2 * src) 2 < 2 → u = s) ∧ (2 ≤ bits s.nvm.alarmLvl (2 * src) 2 → tbit u.aon.sleepAlarm src = true) ∧
      (bits s.nvm.alarmLvl (2 * src) 2 = 3 → u.nvm.zeroDue = true ∧ (s.otp.epoch < 63 → u.otp.epoch = s.otp.epoch + 1) ∧
        (63 ≤ s.otp.epoch → u.otp.provDead = true)) ∧ (bits s.nvm.alarmLvl (2 * src) 2 < 3 → u.otp = s.otp)) ∧
  (∀ s : State, s.nvm.zeroDue = true → s.tansy.booted = true → s.inReset = false → s.flag SEC.STATE.ERASED = false → s.flag THM.STAT.NVM_OK = true →
    AnswersVia .keyRegionZeroize s (fun u => (u.fire 0x07 NVM.src.WR_DONE {}).settle) fun u => u.nvm.zeroDue = false ∧ u.nvm.keys = [] ∧
      u.nvm.alarmLvl = alarmLvlFactory ∧ u.get NVM.RESULT.CAUSE = 1 ∧ u.get NVM.RESULT.REGION = rgKeys ∧
      Keeps s u [NVM.RESULT.CAUSE.key, NVM.RESULT.REGION.key]) ∧
  (∀ (s : State) (m : Master) (v : Word), s.verdict m 0x804C v (fieldsAt 0x804C) ((List.range 6).all fun i => bits v.toNat (2 * i) 2 != 0) .take →
    ((∀ i < 6, s.alarmLvl i ≤ bits v.toNat (2 * i) 2 ∧ lvlAllowed i (bits v.toNat (2 * i) 2) = true) → AnswersSettled (.alarmLvlWrite m v) s fun u =>
      u.get SEC.ALARM_LVL.LVL = bits v.toNat 0 12 ∧ Keeps s u [SEC.ALARM_LVL.LVL.key]) ∧
    ((∃ i < 6, bits v.toNat (2 * i) 2 < s.alarmLvl i ∨ lvlAllowed i (bits v.toNat (2 * i) 2) = false) →
      AnswersVia (.alarmLvlWrite m v) s (fun u => (u.fire 0x08 SEC.src.LVL_REFUSED {}).settle) fun u => Keeps s u [])) ∧
  (∀ (s : State) (c : Fin 4), s.inReset = false → s.resetting 0x2E = false → s.flag (APC.WDOG.EN c) = true →
    AnswersVia (.watchdogExpiry c) s (fun u => (u.fire 0x2E APC.src.WDOG {}).settle) fun u =>
      u.now = max s.now (Tab.get 0 s.tansy.kickAt c + ms (s.get (APC.WDOG.MS c))) ∧ Tab.get 0 u.tansy.kickAt c = u.now ∧
      (s.flag (APC.WDOG.RST c) = false → Keeps s u []) ∧
      (s.flag (APC.WDOG.RST c) = true → tbit (u.get APC.CORE_STAT.WDR) c = true ∧ (s.flag SEC.BOOT_STAT.CORES = true →
        tbit (u.get APC.CORE_STAT.RUN) c = true ∧ tbit (u.get APC.CORE_STAT.HALTED) c = false))) ∧
  (∀ (s : State) (m : Master) (v : Word), s.takes m 0x2E058 v → AnswersSettled (.wdogKick m v) s fun u =>
    (∀ c < 4, Tab.get 0 u.tansy.kickAt c = if v.getLsbD c then s.now else Tab.get 0 s.tansy.kickAt c) ∧ Keeps s u []) ∧
  (∀ (s : State) (c : Fin 4) (write exec : Bool) (a : Word), s.inReset = false → tbit (s.get APC.CORE_STAT.RUN) c = true →
    AnswersVia (.mpuViolation c write exec a) s (fun u => (u.fire 0x2E APC.src.MPU_FAULT {}).settle) fun u => u.flag APC.MPU_NOTE.VALID = true ∧
      (s.flag APC.MPU_NOTE.VALID = true → u = s) ∧
      (s.flag APC.MPU_NOTE.VALID = false → u.get APC.MPU_NOTE.CORE = c.val ∧ u.get APC.MPU_NOTE.WRITE = write.toNat ∧
        u.get APC.MPU_ADDR.ADDR = a.toNat)) ∧
  (∀ (s : State) (c : Fin 4), s.inReset = false →
    (tbit (s.get SEC.STATE.SCOPE) 0 = false → AnswersSettled (.jtagDebugAccess (.halt c)) s fun u => u = s) ∧
    (tbit (s.get SEC.STATE.SCOPE) 0 = true → tbit (s.get APC.CORE_STAT.RUN) c = true → AnswersSettled (.jtagDebugAccess (.halt c)) s fun u =>
      tbit (u.get APC.CORE_STAT.RUN) c = false ∧ tbit (u.get APC.CORE_STAT.HALTED) c = true ∧
      Keeps s u [APC.CORE_STAT.RUN.key, APC.CORE_STAT.HALTED.key]) ∧
    (tbit (s.get SEC.STATE.SCOPE) 0 = true → tbit (s.get APC.CORE_STAT.HALTED) c = true → AnswersSettled (.jtagDebugAccess (.resume c)) s fun u =>
      tbit (u.get APC.CORE_STAT.RUN) c = true ∧ tbit (u.get APC.CORE_STAT.HALTED) c = false ∧
      Keeps s u [APC.CORE_STAT.RUN.key, APC.CORE_STAT.HALTED.key]))

/-- NVM_LOAD_DONE, with a valid calibration set and REFCLK within 5.5 %, counts the errors it met, puts the stored set in force
and stages it, trims the oscillator, follows the reference, and gives each channel its stored power-up entry, before the
alarms that SLEEP or the reset kept are told and the START record follows; an uncorrectable word group in the calibration set
makes it take the set before it, with NVM_UE. A write of CAL_DATA stages the entry and advances INDEX, or with PEND set only
advances it; a read returns the entry. A commit queues the staged set, or ends with CHECK, or with the cause that refuses it;
REVERT stages the stored set. BPT_CTL.SAVE and HDR_CTL.WRITE queue all channels' registers and the staged header.
NVM_WRITE_DONE ends the front request: stored, the region holds its data, a changed calibration entry has USER origin, and
CAUSE is 1 with WR_DONE; otherwise the store is as before and CAUSE is 6 with WR_REFUSED. COUNTER_WRITE writes both counters
at the next 360 s boundary in an open window. A word group's end begins the fault reset that waits. PFAIL_WARN turns every
slot's output off before its notices. (R57, R76, R313, R395, R396, R399, R400, R401, R402, R403, R404) -/
def Obligations.NvmRegionsAndLoad : Prop :=
  (∀ (s : State) (ce : Nat) (ue : List (Fin 9)), s.inReset = false → s.rst.loaded = false → s.nvm.calBad = false →
    (s.board.refclk = true → devSize s.board.refDev < 550) → (∀ r ∈ ue, loaderRegion r = false) →
    AnswersVia (.nvmLoadDone ce ue) s (fun u => (let w := u.sleepAlarms.tellTampers; if w.inReset then w else w.startRec).settle) fun u =>
      u.get NVM.ECC.CE_CNT = satAdd 16 (s.get NVM.ECC.CE_CNT) ce % 2 ^ 16 ∧ u.get NVM.ECC.UE_CNT = satAdd 16 (s.get NVM.ECC.UE_CNT) 0 % 2 ^ 16 ∧
      u.rst.loaded = true ∧ u.nvm.calLive = s.nvm.cal ∧ u.nvm.staged = s.nvm.cal ∧ u.get CLK.OSC_STAT.TRIMMED = 1 ∧
      u.get CLK.OSC_STAT.REF_OK = s.board.refclk.toNat ∧ u.get NVM.HDR_CTL.COPY = s.nvm.copy % 2 ∧
      u.get NVM.HDR_SVN.MIN_SVN = s.nvm.minSvn % 65536 ∧
      (∀ c < 64, (u.ch c).valP = s.bptWord c 0 ∧ (u.ch c).cfgP = s.bptWord c 1 ∧
        u.get (BIA.VAL.SPAN (c / 32) (c % 32)) = bits (s.bptWord c 0) 16 2 ∧ u.get (BIA.VAL.CODE (c / 32) (c % 32)) = bits (s.bptWord c 0) 0 16 ∧
        tbit (u.get (BIA.SAFE_MASK.MASK (c / 32))) (c % 32) = tbit (s.bptWord c 3) 0)) ∧
  (∀ (s : State) (i : NvmImage), s.inReset = false → s.rst.loaded = false → s.nvm.calBad = false →
    (s.board.refclk = true → devSize s.board.refDev < 550) → Tab.get none s.nvm.old rgCal = some i →
    AnswersVia (.nvmLoadDone 0 [3]) s (fun u => (let t := u.fire 0x07 NVM.src.NVM_UE {}
        let w := if t.inReset then t else t.sleepAlarms.tellTampers
        if w.inReset then w else w.startRec).settle) fun u =>
      u.nvm.cal = i.cal ∧ u.nvm.calLive = i.cal ∧ u.nvm.staged = i.cal ∧ u.nvm.calUser = i.calUser ∧ Tab.get none u.nvm.old rgCal = none ∧
      u.get NVM.ECC.UE_CNT = satAdd 16 (s.get NVM.ECC.UE_CNT) 1 % 2 ^ 16) ∧
  (∀ (s : State) (m : Master) (v : Word),
    (s.takes m 0x7054 v → Answers (.calDataAccess m true v) s fun u => u.get NVM.CAL_SEL.INDEX = (s.get NVM.CAL_SEL.INDEX + 1) % 2048 ∧
      u.nvm.cal = s.nvm.cal ∧ (∀ e, Tab.get 0 u.nvm.staged e =
        if e = s.get NVM.CAL_SEL.INDEX ∧ s.flag NVM.CAL_CTL.PEND = false then v.toNat else Tab.get 0 s.nvm.staged e) ∧
      Keeps s u [NVM.CAL_SEL.INDEX.key]) ∧
    (s.reaches m → s.pageOff 0x07 = false → Answers (.calDataAccess m false v) s fun u =>
      u.out = [BitVec.ofNat 32 (Tab.get 0 s.nvm.staged (s.get NVM.CAL_SEL.INDEX))] ∧ u.nvm = s.nvm ∧
      (s.readsWithEffect m 0x07 = true → u.get NVM.CAL_SEL.INDEX = (s.get NVM.CAL_SEL.INDEX + 1) % 2048) ∧
      (s.readsWithEffect m 0x07 = false → Keeps s u []) ∧ Keeps s u [NVM.CAL_SEL.INDEX.key]) ∧
    (s.takes m 0x705C v → v.getLsbD 0 = true → v.getLsbD 1 = false →
      (v.getLsbD 2 = true → s.calCrc ≠ s.get NVM.CAL_CRC_EXP.CRC → AnswersVia (.calCommit m v) s
        (fun u => (u.fire 0x07 NVM.src.WR_REFUSED { master := m.num }).settle) fun u => u.get NVM.RESULT.CAUSE = 5 ∧ u.get NVM.RESULT.REGION = 3 ∧
          u.nvm = s.nvm ∧ Keeps s u [NVM.RESULT.CAUSE.key, NVM.RESULT.REGION.key, NVM.CAL_CTL.CHECK_EN.key]) ∧
      (v.getLsbD 2 = false ∨ s.calCrc = s.get NVM.CAL_CRC_EXP.CRC →
        (s.nvmCause 3 = 0 → AnswersSettled (.calCommit m v) s fun u => u.nvm.queue = s.nvm.queue ++ [{ region := 3, data := s.nvm.staged }] ∧
          u.nvm.cal = s.nvm.cal ∧ u.nvm.staged = s.nvm.staged ∧ u.get NVM.CAL_CTL.PEND = 1 ∧ u.get NVM.STAT.BUSY = 1) ∧
        (s.nvmCause 3 ≠ 0 → AnswersVia (.calCommit m v) s (fun u => (u.fire 0x07 NVM.src.WR_REFUSED { master := m.num }).settle) fun u =>
          u.get NVM.RESULT.CAUSE = s.nvmCause 3 ∧ u.nvm = s.nvm))) ∧
    (s.takes m 0x705C v → v.getLsbD 0 = false → v.getLsbD 1 = true → AnswersSettled (.calRevert m v) s fun u =>
      u.nvm = { s.nvm with staged := s.nvm.cal } ∧ Keeps s u [NVM.CAL_CTL.CHECK_EN.key]) ∧
    (s.takes m 0x7070 v → v.getLsbD 0 = true → s.nvmCause 4 = 0 → AnswersSettled (.bptSave m v) s fun u =>
      u.nvm.queue = s.nvm.queue ++ [{ region := 4, data := s.bptImage }] ∧ u.nvm.bpt = s.nvm.bpt ∧ u.get NVM.BPT_CTL.PEND = 1) ∧
    (s.takes m 0x7074 v → v.getLsbD 0 = true → s.nvmCause 0 = 0 → AnswersSettled (.hdrCommit m v) s fun u =>
      (∃ r, u.nvm.queue = s.nvm.queue ++ [r] ∧ r.region = 0 ∧ r.tansy = false ∧ Tab.get 0 r.data 0 = (v.getLsbD 4).toNat ∧
        ∀ d < 4, Tab.get 0 r.data (d + 1) = s.get (NVM.HDR_DELEG.MASK d)) ∧
      u.get NVM.HDR_CTL.COPY = (v.getLsbD 4).toNat ∧ u.get NVM.HDR_CTL.PEND = 1 ∧ u.nvm.copy = s.nvm.copy)) ∧
  (∀ (s : State) (q : NvmReq) (rest : List NvmReq), s.nvm.queue = q :: rest → q.region ≠ 8 → q.tansy = false →
    AnswersVia (.nvmWriteDone true) s (fun u => (u.fire 0x07 NVM.src.WR_DONE { master := 7 }).settle) (fun u =>
      u.get NVM.RESULT.CAUSE = 1 ∧ u.get NVM.RESULT.REGION = q.region % 16 ∧ u.nvm.queue = rest ∧ u.nvm.calLive = s.nvm.calLive ∧
      (q.region = 3 → u.nvm.cal = q.data ∧ ∀ e < 2048, u.nvm.calUser.contains e = true ↔
        s.nvm.calUser.contains e = true ∨ Tab.get 0 q.data e ≠ Tab.get 0 s.nvm.cal e) ∧
      (q.region = 4 → ∀ c < 64, ∀ w < 4, u.bptWord c w = Tab.get 0 q.data (4 * c + w)) ∧
      (q.region = 0 → u.nvm.copy = Tab.get 0 q.data 0 ∧ u.nvm.minSvn = s.nvm.minSvn ∧
        ∀ d < 4, Tab.get (delegFactory d) u.nvm.deleg d = Tab.get 0 q.data (d + 1))) ∧
    AnswersVia (.nvmWriteDone false) s (fun u => (u.fire 0x07 NVM.src.WR_REFUSED { master := 7 }).settle) fun u =>
      u.get NVM.RESULT.CAUSE = 6 ∧ u.get NVM.RESULT.REGION = q.region % 16 ∧ u.nvm = { s.nvm with queue := rest }) ∧
  (∀ s : State, s.inReset = false → s.rst.loaded = true → s.pfRuns = false → s.rst.faultWaits = false → AnswersSettled .counterWrite s fun u =>
    s.now ≤ u.now ∧ Keeps s u [] ∧ (s.flag THM.STAT.NVM_OK = true → u.nvm.opSec = u.opSec ∧ u.nvm.pcyc = s.get NVM.PCYC.COUNT) ∧
    (s.flag THM.STAT.NVM_OK = false → u.nvm = { s.nvm with opAt := u.nvm.opAt }) ∧ u.nvm.opAt % 360 = 0) ∧
  (∀ s : State, s.rst.faultWaits = true → s.pfRuns = false → AnswersSettled .nvmWordGroupDone s fun u => u.rst.fault = true) ∧
  (∀ s : State, s.aon.asleep = false → s.inReset = false → s.rst.loaded = true → s.rst.pf = .idle →
    (∀ i ∈ s.active, i < 512) →
    AnswersVia .pfailWarn s (fun u => (u.pfailTell (if s.latchedEntry then none else s.tr)).settle) fun u =>
      u.rst.pf = .running ∧ u.board.pfailN = false ∧ u.pfRuns = true ∧
      (s.tr = none → ∀ i ∈ s.active, 1 < s.get (SLP.SLOT_STAT.STATE i) → s.get (SLP.SLOT_STAT.STATE i) < 7 → (u.slot i).weight = 0) ∧ (∀ p, u.portOpen p = false))

/-- EVENT_DIRECT_WRITE moves the oldest direct record from the buffer to its position, or counts it in LOST with EVT_LOST where a
higher number stands there. EVT.CTL.FLUSH and a privileged record of 10 s start a flush; EVENT_FLUSH_DONE writes every
numbered privileged record with FLUSHED set and ends the flush where none is left; EVENT_RETRY writes the direct records, and
in a flush the privileged ones too. EVENT_LOG_SCAN_DONE sets LAST to the highest number of a valid stored record and makes
LOG_INIT the next one. A write of CURSOR clears the window and its status; EVENT_WINDOW_READY shows the record that the
number names, with READY, SRC, MATCH, CRC_OK, and counts LOADS; a stored record with an uncorrectable error shows MATCH and
CRC_OK 0 and raises NVM_UE. TOKEN_REFILL goes to the bucket's next token and gives it the tokens due by then, up to DEPTH.
None of them touches another register. (R408, R410, R411, R413, R414, R415, R419, R421, R422) -/
def Obligations.EventRecorder : Prop :=
  (∀ (s : State) (a b : List Rec) (r : Rec) (q : Nat), s.evtOpen = true → s.pfRuns = false → s.evt.buf = a ++ r :: b → r.seq = some q → r.priv = false →
    (∀ x ∈ a, x.priv = true) → (∀ x ∈ a ++ b, x.seq ≠ some q) →
    (s.outRun r = false → AnswersSettled .eventDirectWrite s fun u => u.evt.buf = a ++ b ∧ Keeps s u [] ∧
      ∀ p, Tab.get none u.evt.store p = if p = recPos q then some { r with flushed := false } else Tab.get none s.evt.store p) ∧
    (s.outRun r = true → AnswersVia .eventDirectWrite s (fun u => (u.fire 0x06 EVT.src.EVT_LOST {}).settle) fun u => u.evt.buf = a ++ b ∧
      u.evt.store = s.evt.store ∧ (s.get EVT.LOSS.LOST < 65535 → u.get EVT.LOSS.LOST = s.get EVT.LOSS.LOST + 1) ∧ Keeps s u [EVT.LOSS.LOST.key])) ∧
  (∀ (s : State) (m : Master) (v : Word), s.takes m 0x6040 v → AnswersSettled (.evtFlushCommand m v) s fun u =>
    u.evt = { s.evt with flushing := s.evt.flushing || v.getLsbD 0 && s.privCount != 0 } ∧ Keeps s u []) ∧
  (∀ (s : State) (a b : List Rec) (r : Rec), s.evt.buf = a ++ r :: b → (∀ x ∈ a, x.priv = false) → r.priv = true → s.inReset = false →
    s.evt.flushing = false → AnswersSettled .eventAgeLimit s fun u => u.evt = { s.evt with flushing := true } ∧ Keeps s u [] ∧
      u.now = max s.now (s.aon.opFrom + (r.opSec + 10 - s.aon.opBase) * 983040000 + r.tick * 30000)) ∧
  (∀ s : State, s.evt.flushing = true → s.evt.scanDue = false → s.evtOpen = true →
    AnswersVia .eventFlushDone s (fun u => (u.lostNotices (s.writeOut fun r => r.priv).2).settle) fun u =>
      u.evt.buf = s.evt.buf.filter (fun r => !(r.seq.isSome && r.priv)) ∧ (u.evt.flushing = true ↔ ∃ r ∈ s.evt.buf, r.priv = true ∧ r.seq = none) ∧
      Keeps s u [EVT.LOSS.LOST.key] ∧
      (∀ (r : Rec) (q : Nat), s.evt.buf.filter (fun r => r.seq.isSome && r.priv) = [r] → r.seq = some q → s.outRun r = false →
        ∀ p, Tab.get none u.evt.store p = if p = recPos q then some { r with flushed := true } else Tab.get none s.evt.store p)) ∧
  (∀ s : State, s.evt.scanDue = false → s.evtOpen = true → s.pfRuns = false →
    AnswersVia .eventRetry s (fun u => (u.lostNotices (s.writeOut fun r => !r.priv || s.evt.flushing).2).settle) fun u =>
      u.evt.buf = s.evt.buf.filter (fun r => !(r.seq.isSome && (!r.priv || s.evt.flushing))) ∧ Keeps s u [EVT.LOSS.LOST.key] ∧
      (s.evt.flushing = false → u.evt.flushing = false)) ∧
  (∀ (s t : State) (ce : Nat) (ue : List (Fin 33792)), s.inReset = false → s.rst.loaded = true → s.evt.scanDue = true → s.evt.buf = [] →
    t = s.storeRead ce (ue.map (·.val)) → t.lastStored < 2 ^ 32 → t.lastStored ≠ 0xFFFFFFFE →
    AnswersVia (.eventLogScanDone ce ue) s (fun u => (u.storeErrors t.badRecs).settle) fun u =>
      u.evt.scanDue = false ∧ u.get EVT.LAST.SEQ = (t.lastStored + 1) % 2 ^ 32 ∧ u.get NVM.ECC.CE_CNT = satAdd 16 (s.get NVM.ECC.CE_CNT) ce ∧
      (∀ p, Tab.get none u.evt.store p = if p ∈ ue.map (·.val) then (Tab.get none s.evt.store p).map (fun r => { r with bad := true })
        else Tab.get none s.evt.store p) ∧
      Keeps s u [EVT.LAST.SEQ.key, NVM.ECC.CE_CNT.key, (EVT.RL_STAT.TOKENS 2).key, (EVT.RL_STAT.PENDING 2).key] ∧
      ∃ r, u.evt.buf = [r] ∧ r.seq = some ((t.lastStored + 1) % 2 ^ 32) ∧ r.code = 2 ∧ r.priv = false ∧
        r.payload.take 6 = leBytes 4 t.lastStored ++ [0, 0]) ∧
  (∀ (s : State) (m : Master) (v : Word), s.takes m 0x6058 v → Answers (.eventCursorWrite m v) s fun u => u.get EVT.CURSOR.SEQ = v.toNat ∧
    u.get EVT.WIN_STAT.READY = 0 ∧ u.get EVT.WIN_STAT.SRC = 0 ∧ u.get EVT.WIN_STAT.MATCH = 0 ∧ u.get EVT.WIN_STAT.CRC_OK = 0 ∧
    (∀ w < 16, u.get (EVT.WIN.DATA w) = 0) ∧ u.get EVT.WIN_STAT.LOADS = s.get EVT.WIN_STAT.LOADS ∧ u.evt = { s.evt with latching := true } ∧
    Keeps s u ([EVT.CURSOR.SEQ.key, EVT.WIN_STAT.READY.key, EVT.WIN_STAT.SRC.key, EVT.WIN_STAT.MATCH.key, EVT.WIN_STAT.CRC_OK.key]
      ++ (List.range 16).map fun w => (EVT.WIN.DATA w).key)) ∧
  (∀ (s : State) (q src ce : Nat) (ue : Bool) (r : Option Rec), s.inReset = false → s.evt.latching = true → q = s.get EVT.CURSOR.SEQ →
    s.locate q = (src, r) → (∀ x, r = some x → x.bad = false) → (ue = true → src ≠ 1 ∧ src ≠ 2) →
    AnswersSettled (.eventWindowReady ce ue) s fun u => u.get EVT.WIN_STAT.READY = 1 ∧ u.get EVT.WIN_STAT.SRC = src ∧
      u.get NVM.ECC.CE_CNT = (if src = 1 ∨ src = 2 then satAdd 16 (s.get NVM.ECC.CE_CNT) ce else s.get NVM.ECC.CE_CNT) ∧
      Keeps s u ([EVT.WIN_STAT.READY.key, EVT.WIN_STAT.SRC.key, EVT.WIN_STAT.MATCH.key, EVT.WIN_STAT.CRC_OK.key, EVT.WIN_STAT.LOADS.key,
        NVM.ECC.CE_CNT.key] ++ (List.range 16).map fun w => (EVT.WIN.DATA w).key) ∧
      u.get EVT.WIN_STAT.CRC_OK = r.isSome.toNat ∧ (u.get EVT.WIN_STAT.MATCH = 1 ↔ ∃ x, r = some x ∧ x.seq = some q) ∧
      u.get EVT.WIN_STAT.LOADS = (s.get EVT.WIN_STAT.LOADS + 1) % 256 ∧ u.evt = { s.evt with latching := false } ∧
      (r = none → ∀ w < 16, u.get (EVT.WIN.DATA w) = 0) ∧
      (∀ x, r = some x → ∀ w < 16, u.get (EVT.WIN.DATA w) = ofLeBytes ((x.bytes.drop (4 * w)).take 4) % 2 ^ 32)) ∧
  (∀ (s : State) (code : BitVec 16), s.inReset = false → codeListed code.toNat = true → AnswersSettled (.tokenRefill code) s fun u =>
    (∀ r l, r = ms (s.get (EVT.RL_CFG.REFILL code.toNat)) → l = Tab.get 0 s.evt.refillAt code.toNat → u.now = max s.now ((l / r + 1) * r) ∧
      u.get (EVT.RL_STAT.TOKENS code.toNat) =
        min (s.get (EVT.RL_CFG.DEPTH code.toNat)) (s.get (EVT.RL_STAT.TOKENS code.toNat) + (u.now / r - l / r)) % 256 ∧
      (0 < r → s.now ≤ (l / r + 1) * r → u.now / r - l / r = 1)) ∧ Tab.get 0 u.evt.refillAt code.toNat = u.now ∧
    Keeps s u [(EVT.RL_STAT.TOKENS code.toNat).key]) ∧
  (∀ (s : State) (q src ce : Nat) (ue : Bool) (x : Rec), s.inReset = false → s.evt.latching = true → q = s.get EVT.CURSOR.SEQ →
    s.locate q = (src, some x) → (src = 1 ∨ src = 2) → (ue = true ∨ x.bad = true) →
    AnswersVia (.eventWindowReady ce ue) s (fun u => (u.fire 0x07 NVM.src.NVM_UE {}).settle) fun u => u.get EVT.WIN_STAT.READY = 1 ∧
      u.get EVT.WIN_STAT.SRC = src ∧ u.get EVT.WIN_STAT.CRC_OK = 0 ∧ u.get EVT.WIN_STAT.MATCH = 0 ∧
      u.get EVT.WIN_STAT.LOADS = (s.get EVT.WIN_STAT.LOADS + 1) % 256 ∧ u.get NVM.ECC.UE_CNT = satAdd 16 (s.get NVM.ECC.UE_CNT) 1 ∧
      u.get NVM.ECC.CE_CNT = satAdd 16 (s.get NVM.ECC.CE_CNT) ce ∧ u.evt.latching = false ∧
      Tab.get none u.evt.store (recPos q) = some { x with bad := true })

/-- A write of a whole word, by a master with rights, to a page that is not off, in which some field carries a value that the
field does not list, leaves the state as it was but for the note of the access, the port's status and, for a KEY of page NVM,
NVM.RESULT, and raises ACCESS_VALUE, whatever the register, its special effects included. (That a wrong KEY shows in RESULT
is R396; that the master's INJ_KEY sequence breaks is R352. DIV_REQ of an island without a divider is no field, R63.) (R6) -/
def Obligations.ReservedValuesDropped : Prop :=
  ∀ (s : State) (m : Master) (a : BitVec 19) (v : Word), a.toNat % 4 = 0 → s.reaches m → pageOf a.toNat ≠ 0x2F → s.mayWrite m a.toNat v = true →
    (0x10 ≤ a.toNat % 0x1000 → s.pageOff (pageOf a.toNat) = false) → listed (if 0x3100 ≤ a.toNat ∧ a.toNat < 0x31C0 then clockFlds ((a.toNat - 0x3100) / 4) else fieldsAt (s.home a.toNat)) v = false →
    AnswersVia (.registerWrite m a 15 v) s (fun u => (u.fire 0x04 FLT.src.ACCESS_VALUE { master := m.num }).settle.settle) fun u =>
      u = { s with reg := u.reg, ports := u.ports, flt := { s.flt with keyAt := u.flt.keyAt } } ∧
      u.get FLT.ACCESS_NOTE.MASTER = m.num ∧ u.get FLT.ACCESS_NOTE.CAUSE = 1 ∧ u.get FLT.ACCESS_NOTE.PAGE = pageOf a.toNat % 256 ∧
      u.get FLT.ACCESS_NOTE.OFFSET = a.toNat % 0x1000 ∧ Keeps s u [FLT.ACCESS_NOTE.MASTER.key, FLT.ACCESS_NOTE.CAUSE.key, FLT.ACCESS_NOTE.PAGE.key, FLT.ACCESS_NOTE.OFFSET.key, NVM.RESULT.CAUSE.key, NVM.RESULT.REGION.key]

/-- In SLEEP a fall or a rise of RESET_N and a fall of PFAIL_N change nothing but the level of the pin (a rise: where no reset of
that pin was in force); a match of the strapped I²C address begins the wake and is acknowledged, another address is not; and
VDD_AON below 0.4 V is an AON power-on reset, out of SLEEP, with every register field at its reset value. (R45) -/
def Obligations.SleepSensesNoPins : Prop :=
  (∀ s : State, s.aon.asleep = true →
    (∃ t, exec .pinReset s = .next t ∧ t = { s with board := { s.board with resetN := false } }) ∧
    (s.rst.pin = false → s.rst.pinInPf = false → ∃ t, exec .pinResetRelease s = .next t ∧ t = { s with board := { s.board with resetN := true } }) ∧
    (AnswersSettled .pfailWarn s fun u => u = { s with board := { s.board with pfailN := false } }) ∧
    (∀ addr : BitVec 7, (addr.toNat = s.i2cOwn ∧ s.aon.i2cLost = false → Answers (.i2cWakeMatch addr) s fun u => u.aon.asleep = false ∧
        u.ackBit = true ∧ u.rst.wake = true ∧ u.inReset = true) ∧
      (addr.toNat ≠ s.i2cOwn → Answers (.i2cWakeMatch addr) s fun u => u = { s with aon := { s.aon with wakeAck := false } }))) ∧
  (∀ s : State, Answers (.aonPowerOnReset true) s fun u => u.aon.asleep = false ∧ u.rst.aon = true ∧ u.rst.por = true ∧ u.inReset = true ∧
    ∀ f : Fld, u.get f = f.rst)

/-- REGISTER_WRITE of a register with no effect of its own (pages THM, OBS and HSI, and the AER copies) takes the word by the
access code of each field and touches nothing else; an access that does not carry a whole aligned word is dropped with
ACCESS_SIZE. RC_REGISTER_READ, where no invalid samples wait to be counted, returns the word and clears its RC fields for a
reader with rights, and leaves them for another. SNAPSHOT_PUBLISH shows the gathered words with SNAP_SEQ two higher, or
nothing where none has changed. Configuration space clears the copy's bits. RETRAIN takes an up link to Recovery; a link
change shows and counts, and begins or ends LINK_DOWN; an endpoint reset returns page PCI to its reset values and leaves
ownership alone. A BAR0 transaction is the accesses of its words in order; BAR2 reads the pool and the capture buffer, writes
the pool as POOL_DATA does, and drops other writes. (R4, R7, R9, R103, R106, R107, R108, R109, R195, R248) -/
def Obligations.RegisterAccess : Prop :=
  (∀ (s : State) (m : Master) (a : BitVec 19) (v : Word), a.toNat % 4 = 0 → 0x40 ≤ a.toNat % 0x1000 →
    pageOf a.toNat ∈ [0x09, 0x21, 0x2D] ∨ a.toNat = 0x2C04C ∨ a.toNat = 0x2C050 → s.takes m a.toNat v →
    AnswersSettled (.registerWrite m a 15 v) s fun u => Keeps s u ((fieldsAt a.toNat).map Fld.key) ∧
      ∀ f ∈ fieldsAt a.toNat, u.get f = (if f.acc = .rw then bits v.toNat f.lo f.w
        else if f.acc = .w1c then s.get f &&& (bits v.toNat f.lo f.w ^^^ (2 ^ f.w - 1)) else s.get f)) ∧
  (∀ (s : State) (m : Master) (a : BitVec 19) (be : BitVec 4) (v : Word), s.reaches m → a.toNat % 4 ≠ 0 ∨ be ≠ 15 →
    AnswersVia (.registerWrite m a be v) s (fun u => (u.fire 0x04 FLT.src.ACCESS_SIZE { master := m.num }).settle) fun u => u.get FLT.ACCESS_NOTE.CAUSE = 0 ∧ u.get FLT.ACCESS_NOTE.MASTER = m.num ∧
      u = { s with reg := u.reg, ports := u.ports } ∧ Keeps s u [FLT.ACCESS_NOTE.MASTER.key, FLT.ACCESS_NOTE.CAUSE.key, FLT.ACCESS_NOTE.PAGE.key, FLT.ACCESS_NOTE.OFFSET.key]) ∧
  (∀ (s : State) (m : Master) (a : BitVec 19) (be : BitVec 4), s.reaches m → a.toNat % 4 = 0 → pageOf a.toNat ≠ 0x2F → a.toNat ≠ 0xA05C →
    s.pageOff (pageOf a.toNat) = false → s.ask.window a.toNat = none → s.ask.catchUp a.toNat = s.ask → AnswersSettled (.rcRegisterRead m a be) s fun u =>
      u.out = [BitVec.ofNat 32 (lanes be (BitVec.ofNat 32 (s.ask.wordAt a.toNat)).toNat)] ∧
      (s.readsWithEffect m (pageOf a.toNat) = true → ∀ f ∈ fieldsAt (s.ask.home a.toNat), f.acc = .rc → u.get f = 0) ∧
      (s.readsWithEffect m (pageOf a.toNat) = false → Keeps s u []) ∧
      Keeps s u (((fieldsAt (s.ask.home a.toNat)).filter fun f => f.acc == .rc).map Fld.key)) ∧
  (∀ (s : State) (p : Fin 128), s.inReset = false → s.pageOff p = false → (Tab.get {} s.snap p).lastAt = none →
    ((∀ x ∈ s.groupOf p, s.get x.1 = x.2) → Answers (.snapshotPublish p) s fun u => u = s) ∧
    ((∃ x ∈ s.groupOf p, s.get x.1 ≠ x.2) → Answers (.snapshotPublish p) s fun u =>
      (∀ x ∈ s.groupOf p, u.get x.1 = x.2 % 2 ^ x.1.w) ∧ u.get (HDR.SNAP_SEQ.SEQ p) = (s.get (HDR.SNAP_SEQ.SEQ p) + 2) % 2 ^ 32 ∧
      (Tab.get {} u.snap p).lastAt = some s.now ∧ Keeps s u ((HDR.SNAP_SEQ.SEQ p).key :: (s.groupOf p).map fun x => x.1.key))) ∧
  (∀ (s : State) (cor : Bool) (bits : Word), s.inReset = false → Answers (.configSpaceAccess cor bits) s fun u =>
    (∀ i < 32, tbit (u.get (if cor then PCI.AER_COR.STATUS else PCI.AER_UNCOR.STATUS)) i =
      (tbit (s.get (if cor then PCI.AER_COR.STATUS else PCI.AER_UNCOR.STATUS)) i && !bits.getLsbD i)) ∧
    Keeps s u [(if cor then PCI.AER_COR.STATUS else PCI.AER_UNCOR.STATUS).key]) ∧
  (∀ (s : State) (m : Master) (v : Word), s.takes m 0x2C044 v →
    (v.getLsbD 2 = false ∨ s.flag PCI.LINK_STAT.UP = false → AnswersSettled (.pcieRetrain m v) s fun u =>
      u.get PCI.LINK_CTL.MAX_SPEED = bits v.toNat 0 2 ∧ Keeps s u [PCI.LINK_CTL.MAX_SPEED.key]) ∧
    (v.getLsbD 2 = true → s.flag PCI.LINK_STAT.UP = true → s.get PCI.LINK_STAT.LTSSM = 3 → s.get PCI.CNT.RECOVERY < 65535 →
      AnswersVia (.pcieRetrain m v) s (fun u => (if s.board.perstN then u.followLink else u.condEnd 0x2C PCI.src.LINK_DOWN).settle)
        fun u => u.get PCI.LINK_STAT.LTSSM = 4 ∧ u.get PCI.LINK_STAT.UP = 0 ∧ u.get PCI.CNT.RECOVERY = s.get PCI.CNT.RECOVERY + 1 ∧
          u.get PCI.LINK_CTL.MAX_SPEED = bits v.toNat 0 2 ∧ u.get PCI.CNT.DOWN = s.get PCI.CNT.DOWN)) ∧
  (∀ (s : State) (ltssm speed : BitVec 4) (width : BitVec 8) (perst : Bool), s.inReset = false →
    AnswersVia (.pcieLinkStateChange ltssm speed width perst) s
      (fun u => (if ltssm ≠ 3 ∧ perst = false then u.followLink else u.condEnd 0x2C PCI.src.LINK_DOWN).settle) fun u =>
      u.board.perstN = !perst ∧ u.get PCI.LINK_STAT.PERST = perst.toNat ∧ u.get PCI.LINK_STAT.LTSSM = ltssm.toNat ∧ u.get PCI.LINK_STAT.SPEED = speed.toNat ∧
      u.get PCI.LINK_STAT.WIDTH = width.toNat ∧ (u.get PCI.LINK_STAT.UP = 1 ↔ ltssm = 3) ∧
      (s.get PCI.CNT.DOWN < 65535 → u.get PCI.CNT.DOWN = s.get PCI.CNT.DOWN + if s.get PCI.LINK_STAT.LTSSM = 3 ∧ ltssm ≠ 3 ∧ ltssm ≠ 4 then 1 else 0) ∧
      (s.get PCI.CNT.RECOVERY < 65535 → u.get PCI.CNT.RECOVERY = s.get PCI.CNT.RECOVERY + if s.get PCI.LINK_STAT.LTSSM ≠ 4 ∧ ltssm = 4 then 1 else 0)) ∧
  (∀ s : State, s.inReset = false →
    AnswersVia .pcieEndpointReset s (fun u => (if s.board.perstN then u.followLink else u.condEnd 0x2C PCI.src.LINK_DOWN).settle) fun u =>
      u.get PCI.LINK_STAT.LTSSM = 0 ∧ u.get PCI.LINK_STAT.UP = 0 ∧ u.get PCI.LINK_STAT.WIDTH = 0 ∧ u.get PCI.LINK_CTL.MAX_SPEED = 3 ∧
      u.get PCI.AER_UNCOR.STATUS = 0 ∧ u.get PCI.CNT.DOWN = 0 ∧ u.get PCI.LINK_STAT.PERST = (!s.board.perstN).toNat ∧ u.own = s.own ∧
      ∀ f : Fld, f.key / 32 < 0x2C010 ∨ 0x2D000 ≤ f.key / 32 → f.key ∉ [FLT.FIRST.VALID.key, FLT.FIRST.PAGE.key] → u.get f = s.get f) ∧
  (∀ (s : State) (a : BitVec 19) (first last : BitVec 4) (v w : Word) (n : Nat),
    (AnswersSettled (.pcieBar0Tlp a first last true n [v]) s fun u => u = s.writeAccess .m0 a.toNat first v) ∧
    (a.toNat + 4 < 0x80000 → AnswersSettled (.pcieBar0Tlp a first last true n [v, w]) s fun u =>
      u = (s.writeAccess .m0 a.toNat first v).writeAccess .m0 (a.toNat + 4) last w) ∧
    (a.toNat + 8 < 0x80000 → AnswersSettled (.pcieBar0Tlp a first last true n [v, w, v]) s fun u =>
      u = ((s.writeAccess .m0 a.toNat first v).writeAccess .m0 (a.toNat + 4) 15 w).writeAccess .m0 (a.toNat + 8) last v) ∧
    (a.toNat + 4 < 0x80000 → AnswersSettled (.pcieBar0Tlp a first last false 2 []) s fun u =>
      u = (s.ask.readAccess .m0 a.toNat first).readAccess .m0 (a.toNat + 4) last)) ∧
  (∀ (s : State) (a : BitVec 25) (last : BitVec 4) (v : Word) (n : Nat),
    (a.toNat < 0x1000000 → s.takes .m0 0x20074 v → AnswersSettled (.pcieBar2Access a 15 last true n [v]) s fun u =>
      ∃ t, t = s.outcome .m0 0 ∧ u = t.poolWrite 0 (decide (a.toNat < 0x800000)) (a.toNat % 0x800000 / 4) v.toNat) ∧
    (0x1000000 ≤ a.toNat → AnswersSettled (.pcieBar2Access a 15 last true n [v]) s fun u => u = s) ∧
    (s.reaches .m0 →
      (a.toNat < 0x1000000 → s.pageOff 0x20 = false → AnswersSettled (.pcieBar2Access a 15 last false 1 []) s fun u =>
        u = { s with out := u.out } ∧ u.out = [BitVec.ofNat 32 (s.ask.poolRead (decide (a.toNat < 0x800000)) (a.toNat % 0x800000 / 4))]) ∧
      (0x1000000 ≤ a.toNat → a.toNat < 0x1800000 → s.pageOff 0x24 = false → AnswersSettled (.pcieBar2Access a 15 last false 1 []) s fun u =>
        u = { s with out := u.out } ∧ u.out = [BitVec.ofNat 32 (s.ask.iqWord ((a.toNat - 0x1000000) / 4))]) ∧
      (0x1800000 ≤ a.toNat → AnswersSettled (.pcieBar2Access a 15 last false 1 []) s fun u => u = { s with out := [0] })))

/-- An SPI WRITE or READ of words is the accesses of those words in order, the address staying in its page (after offset 0xFFC
comes 0x000); an address that breaks R110 performs no access, raises ACCESS_SIZE, counts the words of a write in CUT, and a
read then returns zeros. STATUS returns the owner bit and the outcome of the port's last write. A reserved opcode and a cut
word only count, the latter with ACCESS_SIZE. An I²C write sets the address and writes its words, a cut word counting in
PARTIAL with ACCESS_SIZE; a read returns words from the address set and moves it on; in SLEEP, or on the way into it, a
transfer is only a wake event. SCL low for 35 ms counts TIMEOUT with I2C_TIMEOUT. (R4, R91, R110, R111, R112, R113, R114) -/
def Obligations.SerialPorts : Prop :=
  (∀ (s : State) (port : Fin 2) (a : BitVec 24) (v w : Word) (m : Master) (next : Nat), m = (if port = 0 then .m1 else .m2) →
    next = (if a.toNat % 0x1000 = 0xFFC then a.toNat - 0xFFC else a.toNat + 4) →
    (a.toNat < 0x80000 → a.toNat % 4 = 0 →
      (AnswersSettled (.spiWrite port a [v]) s fun u => u = s.busWrite m a.toNat v) ∧
      (AnswersSettled (.spiWrite port a [v, w]) s fun u => u = (s.busWrite m a.toNat v).busWrite m next w) ∧
      (AnswersSettled (.spiRead port a 1) s fun u => u = s.ask.busRead m a.toNat) ∧
      (AnswersSettled (.spiRead port a 2) s fun u => u = (s.ask.busRead m a.toNat).busRead m next)) ∧
    (0x80000 ≤ a.toNat ∨ a.toNat % 4 ≠ 0 → s.reaches m →
      (∀ data : List Word, s.get (HSI.SPI_STAT.CUT port) + data.length < 65536 → AnswersVia (.spiWrite port a data) s (fun u => (u.fire 0x04 FLT.src.ACCESS_SIZE { master := m.num }).settle) fun u =>
        u.get (HSI.SPI_STAT.CUT port) = s.get (HSI.SPI_STAT.CUT port) + data.length ∧ u.get FLT.ACCESS_NOTE.CAUSE = 0 ∧
        u = { s with reg := u.reg } ∧ Keeps s u [(HSI.SPI_STAT.CUT port).key, FLT.ACCESS_NOTE.MASTER.key, FLT.ACCESS_NOTE.CAUSE.key, FLT.ACCESS_NOTE.PAGE.key, FLT.ACCESS_NOTE.OFFSET.key]) ∧
      (∀ n : Nat, s.get (HSI.SPI_STAT.CUT port) < 65536 → AnswersVia (.spiRead port a n) s (fun u => (u.fire 0x04 FLT.src.ACCESS_SIZE { master := m.num }).settle) fun u => u.out = List.replicate n 0 ∧
        Keeps s u [FLT.ACCESS_NOTE.MASTER.key, FLT.ACCESS_NOTE.CAUSE.key, FLT.ACCESS_NOTE.PAGE.key, FLT.ACCESS_NOTE.OFFSET.key])) ∧
    (s.reaches m →
      (Answers (.spiStatus port) s fun u => u.out = [BitVec.ofNat 32 (128 * (s.owns m).toNat + Tab.get 0 s.ports.lastWr m.num % 8)] ∧ Keeps s u []) ∧
      (s.get (HSI.SPI_STAT.OPCODE port) < 65535 → ∀ op, Answers (.spiReservedOpcode port op) s fun u =>
        u.get (HSI.SPI_STAT.OPCODE port) = s.get (HSI.SPI_STAT.OPCODE port) + 1 ∧ u = { s with reg := u.reg } ∧ Keeps s u [(HSI.SPI_STAT.OPCODE port).key]) ∧
      (s.get (HSI.SPI_STAT.CUT port) < 65535 → AnswersVia (.spiWordCut port a) s (fun u => (u.fire 0x04 FLT.src.ACCESS_SIZE { master := m.num }).settle) fun u =>
        u.get (HSI.SPI_STAT.CUT port) = s.get (HSI.SPI_STAT.CUT port) + 1 ∧ Keeps s u [(HSI.SPI_STAT.CUT port).key, FLT.ACCESS_NOTE.MASTER.key, FLT.ACCESS_NOTE.CAUSE.key, FLT.ACCESS_NOTE.PAGE.key, FLT.ACCESS_NOTE.OFFSET.key]))) ∧
  (∀ (s : State) (a : BitVec 24) (v : Word), s.i2cWakes = false → s.inReset = false → s.rst.loaded = true → a.toNat < 0x80000 → a.toNat % 4 = 0 →
    (AnswersSettled (.i2cWriteTransfer a [] false) s fun u => u = { s with ports := { s.ports with i2cSet := a.toNat } }) ∧
    (∀ t, t = s.busWrite .m3 a.toNat v → t.inReset = false → t.rst.loaded = true → AnswersSettled (.i2cWriteTransfer a [v] false) s fun u =>
      u = { t with ports := { t.ports with i2cSet := if a.toNat % 0x1000 = 0xFFC then a.toNat - 0xFFC else a.toNat + 4 } }) ∧
    (s.get HSI.I2C_STAT.PARTIAL < 65535 → AnswersVia (.i2cWriteTransfer a [] true) s (fun u => (u.fire 0x04 FLT.src.ACCESS_SIZE { master := Master.m3.num }).settle) fun u => u.ports.i2cSet = a.toNat ∧
      u.get HSI.I2C_STAT.PARTIAL = s.get HSI.I2C_STAT.PARTIAL + 1 ∧ Keeps s u [HSI.I2C_STAT.PARTIAL.key, FLT.ACCESS_NOTE.MASTER.key, FLT.ACCESS_NOTE.CAUSE.key, FLT.ACCESS_NOTE.PAGE.key, FLT.ACCESS_NOTE.OFFSET.key])) ∧
  (∀ (s : State) (a : BitVec 24) (data : List Word) (cut : Bool), s.i2cWakes = false → s.inReset = false → s.rst.loaded = true →
    0x80000 ≤ a.toNat ∨ a.toNat % 4 ≠ 0 → AnswersVia (.i2cWriteTransfer a data cut) s (fun u => (u.fire 0x04 FLT.src.ACCESS_SIZE { master := Master.m3.num }).settle) fun u => u.ports.i2cSet = a.toNat ∧ Keeps s u [FLT.ACCESS_NOTE.MASTER.key, FLT.ACCESS_NOTE.CAUSE.key, FLT.ACCESS_NOTE.PAGE.key, FLT.ACCESS_NOTE.OFFSET.key]) ∧
  (∀ s : State, s.i2cWakes = false → s.inReset = false → s.rst.loaded = true →
    (s.ports.i2cSet < 0x80000 → s.ports.i2cSet % 4 = 0 → AnswersSettled (.i2cReadTransfer 1) s fun u => ∃ t, t = s.ask.busRead .m3 s.ports.i2cSet ∧
      u = { t with ports := { t.ports with i2cSet := if s.ports.i2cSet % 0x1000 = 0xFFC then s.ports.i2cSet - 0xFFC else s.ports.i2cSet + 4 } }) ∧
    (0x80000 ≤ s.ports.i2cSet ∨ s.ports.i2cSet % 4 ≠ 0 → ∀ n, AnswersSettled (.i2cReadTransfer n) s fun u => u = { s with out := List.replicate n 0 })) ∧
  (∀ (s : State) (a : BitVec 24) (data : List Word) (cut : Bool) (n : Nat), s.aon.asleep = true → s.aon.i2cLost = false →
    (AnswersSettled (.i2cWriteTransfer a data cut) s fun u => u.aon.asleep = false ∧ u.rst.wake = true ∧ u.get PWR.WAKE_CAUSE.MATCH = 1) ∧
    (AnswersSettled (.i2cReadTransfer n) s fun u => u.aon.asleep = false ∧ u.rst.wake = true ∧ u.get PWR.WAKE_CAUSE.MATCH = 1)) ∧
  (∀ s : State, s.inReset = false → s.rst.loaded = true → s.get HSI.I2C_STAT.TIMEOUT < 65535 →
    (AnswersVia (.i2cSclTimeout false) s (fun u => (u.fire 0x2D HSI.src.I2C_TIMEOUT { master := 3 }).settle) fun u =>
      u.get HSI.I2C_STAT.TIMEOUT = s.get HSI.I2C_STAT.TIMEOUT + 1 ∧ u = { s with reg := u.reg } ∧ Keeps s u [HSI.I2C_STAT.TIMEOUT.key]) ∧
    (s.get HSI.I2C_STAT.PARTIAL < 65535 → s.i2cAnswers = true → AnswersVia (.i2cSclTimeout true) s
      (fun u => ((u.fire 0x04 FLT.src.ACCESS_SIZE { master := 3 }).fire 0x2D HSI.src.I2C_TIMEOUT { master := 3 }).settle) fun u =>
      u.get HSI.I2C_STAT.TIMEOUT = s.get HSI.I2C_STAT.TIMEOUT + 1 ∧ u.get HSI.I2C_STAT.PARTIAL = s.get HSI.I2C_STAT.PARTIAL + 1 ∧
      Keeps s u [HSI.I2C_STAT.TIMEOUT.key, HSI.I2C_STAT.PARTIAL.key, FLT.ACCESS_NOTE.MASTER.key, FLT.ACCESS_NOTE.CAUSE.key, FLT.ACCESS_NOTE.PAGE.key, FLT.ACCESS_NOTE.OFFSET.key]))
end

