-- ==== Sys2Proof/Laws/Keys.lean ====
section
/-! SUPPORT. The key and the width of every register field, so that no proof unfolds a field to tell two apart. -/
namespace Sys2Proof.Machine

@[simp] theorem key_IDN_PROFILE_REFUSE : Fld.key IDN.PROFILE.REFUSE = 32 * (0x50) + 24 := rfl
@[simp] theorem w_IDN_PROFILE_REFUSE : Fld.w IDN.PROFILE.REFUSE = 4 := rfl
@[simp] theorem key_IDN_PROFILE_OFFENDER : Fld.key IDN.PROFILE.OFFENDER = 32 * (0x50) + 12 := rfl
@[simp] theorem w_IDN_PROFILE_OFFENDER : Fld.w IDN.PROFILE.OFFENDER = 9 := rfl
@[simp] theorem key_IDN_PROFILE_PENDING : Fld.key IDN.PROFILE.PENDING = 32 * (0x50) + 8 := rfl
@[simp] theorem w_IDN_PROFILE_PENDING : Fld.w IDN.PROFILE.PENDING = 1 := rfl
@[simp] theorem key_IDN_PROFILE_ACTIVE : Fld.key IDN.PROFILE.ACTIVE = 32 * (0x50) + 4 := rfl
@[simp] theorem w_IDN_PROFILE_ACTIVE : Fld.w IDN.PROFILE.ACTIVE = 2 := rfl
@[simp] theorem key_IDN_PROFILE_REQ : Fld.key IDN.PROFILE.REQ = 32 * (0x50) + 0 := rfl
@[simp] theorem w_IDN_PROFILE_REQ : Fld.w IDN.PROFILE.REQ = 2 := rfl
@[simp] theorem key_PWR_RESET_CAUSE_FAULT_PAGE : Fld.key PWR.RESET_CAUSE.FAULT_PAGE = 32 * (0x2110) + 16 := rfl
@[simp] theorem w_PWR_RESET_CAUSE_FAULT_PAGE : Fld.w PWR.RESET_CAUSE.FAULT_PAGE = 8 := rfl
@[simp] theorem key_PWR_RESET_CAUSE_PFAIL : Fld.key PWR.RESET_CAUSE.PFAIL = 32 * (0x2110) + 6 := rfl
@[simp] theorem w_PWR_RESET_CAUSE_PFAIL : Fld.w PWR.RESET_CAUSE.PFAIL = 1 := rfl
@[simp] theorem key_PWR_RESET_CAUSE_WAKE : Fld.key PWR.RESET_CAUSE.WAKE = 32 * (0x2110) + 5 := rfl
@[simp] theorem w_PWR_RESET_CAUSE_WAKE : Fld.w PWR.RESET_CAUSE.WAKE = 1 := rfl
@[simp] theorem key_PWR_RESET_CAUSE_FAULT : Fld.key PWR.RESET_CAUSE.FAULT = 32 * (0x2110) + 4 := rfl
@[simp] theorem w_PWR_RESET_CAUSE_FAULT : Fld.w PWR.RESET_CAUSE.FAULT = 1 := rfl
@[simp] theorem key_PWR_RESET_CAUSE_PIN : Fld.key PWR.RESET_CAUSE.PIN = 32 * (0x2110) + 3 := rfl
@[simp] theorem w_PWR_RESET_CAUSE_PIN : Fld.w PWR.RESET_CAUSE.PIN = 1 := rfl
@[simp] theorem key_PWR_RESET_CAUSE_CHIP_POR : Fld.key PWR.RESET_CAUSE.CHIP_POR = 32 * (0x2110) + 2 := rfl
@[simp] theorem w_PWR_RESET_CAUSE_CHIP_POR : Fld.w PWR.RESET_CAUSE.CHIP_POR = 1 := rfl
@[simp] theorem key_PWR_RESET_CAUSE_AON_POR : Fld.key PWR.RESET_CAUSE.AON_POR = 32 * (0x2110) + 1 := rfl
@[simp] theorem w_PWR_RESET_CAUSE_AON_POR : Fld.w PWR.RESET_CAUSE.AON_POR = 1 := rfl
@[simp] theorem key_PWR_RESET_CAUSE_TERMINAL : Fld.key PWR.RESET_CAUSE.TERMINAL = 32 * (0x2110) + 0 := rfl
@[simp] theorem w_PWR_RESET_CAUSE_TERMINAL : Fld.w PWR.RESET_CAUSE.TERMINAL = 1 := rfl
@[simp] theorem key_CLK_OSC_STAT_TRIMMED : Fld.key CLK.OSC_STAT.TRIMMED = 32 * (0x3040) + 31 := rfl
@[simp] theorem w_CLK_OSC_STAT_TRIMMED : Fld.w CLK.OSC_STAT.TRIMMED = 1 := rfl
@[simp] theorem key_CLK_OSC_STAT_REF_OK : Fld.key CLK.OSC_STAT.REF_OK = 32 * (0x3040) + 30 := rfl
@[simp] theorem w_CLK_OSC_STAT_REF_OK : Fld.w CLK.OSC_STAT.REF_OK = 1 := rfl
@[simp] theorem key_CLK_OSC_STAT_LOST_SEEN : Fld.key CLK.OSC_STAT.LOST_SEEN = 32 * (0x3040) + 29 := rfl
@[simp] theorem w_CLK_OSC_STAT_LOST_SEEN : Fld.w CLK.OSC_STAT.LOST_SEEN = 1 := rfl
@[simp] theorem key_CLK_OSC_STAT_OFF_SEEN : Fld.key CLK.OSC_STAT.OFF_SEEN = 32 * (0x3040) + 28 := rfl
@[simp] theorem w_CLK_OSC_STAT_OFF_SEEN : Fld.w CLK.OSC_STAT.OFF_SEEN = 1 := rfl
@[simp] theorem key_CLK_OSC_STAT_DEV : Fld.key CLK.OSC_STAT.DEV = 32 * (0x3040) + 0 := rfl
@[simp] theorem w_CLK_OSC_STAT_DEV : Fld.w CLK.OSC_STAT.DEV = 16 := rfl
@[simp] theorem key_CLK_PLL_CTL_LOCK (j : Nat) : Fld.key (CLK.PLL_CTL.LOCK j) = 32 * (0x3080 + 4 * j) + 31 := rfl
@[simp] theorem w_CLK_PLL_CTL_LOCK (j : Nat) : Fld.w (CLK.PLL_CTL.LOCK j) = 1 := rfl
@[simp] theorem key_CLK_PLL_CTL_UNLOCK_SEEN (j : Nat) : Fld.key (CLK.PLL_CTL.UNLOCK_SEEN j) = 32 * (0x3080 + 4 * j) + 30 := rfl
@[simp] theorem w_CLK_PLL_CTL_UNLOCK_SEEN (j : Nat) : Fld.w (CLK.PLL_CTL.UNLOCK_SEEN j) = 1 := rfl
@[simp] theorem key_CLK_PLL_CTL_EN (j : Nat) : Fld.key (CLK.PLL_CTL.EN j) = 32 * (0x3080 + 4 * j) + 0 := rfl
@[simp] theorem w_CLK_PLL_CTL_EN (j : Nat) : Fld.w (CLK.PLL_CTL.EN j) = 1 := rfl
@[simp] theorem key_CLK_ISL_CLK_ON (j : Nat) : Fld.key (CLK.ISL_CLK.ON j) = 32 * (0x3100 + 4 * j) + 31 := rfl
@[simp] theorem w_CLK_ISL_CLK_ON (j : Nat) : Fld.w (CLK.ISL_CLK.ON j) = 1 := rfl
@[simp] theorem key_CLK_ISL_CLK_SRC_NOW (j : Nat) : Fld.key (CLK.ISL_CLK.SRC_NOW j) = 32 * (0x3100 + 4 * j) + 29 := rfl
@[simp] theorem w_CLK_ISL_CLK_SRC_NOW (j : Nat) : Fld.w (CLK.ISL_CLK.SRC_NOW j) = 2 := rfl
@[simp] theorem key_CLK_ISL_CLK_REFUSE (j : Nat) : Fld.key (CLK.ISL_CLK.REFUSE j) = 32 * (0x3100 + 4 * j) + 20 := rfl
@[simp] theorem w_CLK_ISL_CLK_REFUSE (j : Nat) : Fld.w (CLK.ISL_CLK.REFUSE j) = 4 := rfl
@[simp] theorem key_CLK_ISL_CLK_DIV_APPLIED (j : Nat) : Fld.key (CLK.ISL_CLK.DIV_APPLIED j) = 32 * (0x3100 + 4 * j) + 16 := rfl
@[simp] theorem w_CLK_ISL_CLK_DIV_APPLIED (j : Nat) : Fld.w (CLK.ISL_CLK.DIV_APPLIED j) = 4 := rfl
@[simp] theorem key_CLK_ISL_CLK_DIV_REQ (j : Nat) : Fld.key (CLK.ISL_CLK.DIV_REQ j) = 32 * (0x3100 + 4 * j) + 8 := rfl
@[simp] theorem w_CLK_ISL_CLK_DIV_REQ (j : Nat) : Fld.w (CLK.ISL_CLK.DIV_REQ j) = 4 := rfl
@[simp] theorem key_CLK_ISL_CLK_SRC (j : Nat) : Fld.key (CLK.ISL_CLK.SRC j) = 32 * (0x3100 + 4 * j) + 0 := rfl
@[simp] theorem w_CLK_ISL_CLK_SRC (j : Nat) : Fld.w (CLK.ISL_CLK.SRC j) = 2 := rfl
@[simp] theorem key_PWR_ENG_RAIL_VCONF (j : Nat) : Fld.key (PWR.ENG_RAIL.VCONF j) = 32 * (0x2100 + 4 * j) + 31 := rfl
@[simp] theorem w_PWR_ENG_RAIL_VCONF (j : Nat) : Fld.w (PWR.ENG_RAIL.VCONF j) = 1 := rfl
@[simp] theorem key_PWR_ENG_RAIL_REFUSE (j : Nat) : Fld.key (PWR.ENG_RAIL.REFUSE j) = 32 * (0x2100 + 4 * j) + 24 := rfl
@[simp] theorem w_PWR_ENG_RAIL_REFUSE (j : Nat) : Fld.w (PWR.ENG_RAIL.REFUSE j) = 4 := rfl
@[simp] theorem key_PWR_ENG_RAIL_VCONFIRMED (j : Nat) : Fld.key (PWR.ENG_RAIL.VCONFIRMED j) = 32 * (0x2100 + 4 * j) + 12 := rfl
@[simp] theorem w_PWR_ENG_RAIL_VCONFIRMED (j : Nat) : Fld.w (PWR.ENG_RAIL.VCONFIRMED j) = 8 := rfl
@[simp] theorem key_PWR_ENG_RAIL_VTARGET (j : Nat) : Fld.key (PWR.ENG_RAIL.VTARGET j) = 32 * (0x2100 + 4 * j) + 0 := rfl
@[simp] theorem w_PWR_ENG_RAIL_VTARGET (j : Nat) : Fld.w (PWR.ENG_RAIL.VTARGET j) = 8 := rfl
@[simp] theorem key_PWR_PWR_CMD_STATE : Fld.key PWR.PWR_CMD.STATE = 32 * (0x2040) + 8 := rfl
@[simp] theorem w_PWR_PWR_CMD_STATE : Fld.w PWR.PWR_CMD.STATE = 2 := rfl
@[simp] theorem key_PWR_PWR_CMD_BUSY : Fld.key PWR.PWR_CMD.BUSY = 32 * (0x2040) + 4 := rfl
@[simp] theorem w_PWR_PWR_CMD_BUSY : Fld.w PWR.PWR_CMD.BUSY = 1 := rfl
@[simp] theorem key_PWR_PWR_CMD_REQ : Fld.key PWR.PWR_CMD.REQ = 32 * (0x2040) + 0 := rfl
@[simp] theorem w_PWR_PWR_CMD_REQ : Fld.w PWR.PWR_CMD.REQ = 2 := rfl
@[simp] theorem key_PWR_REFUSE_CNT_COUNT : Fld.key PWR.REFUSE_CNT.COUNT = 32 * (0x2044) + 0 := rfl
@[simp] theorem w_PWR_REFUSE_CNT_COUNT : Fld.w PWR.REFUSE_CNT.COUNT = 16 := rfl
@[simp] theorem key_PWR_REFUSER_ABORT : Fld.key PWR.REFUSER.ABORT = 32 * (0x2048) + 12 := rfl
@[simp] theorem w_PWR_REFUSER_ABORT : Fld.w PWR.REFUSER.ABORT = 1 := rfl
@[simp] theorem key_PWR_REFUSER_REQ_STATE : Fld.key PWR.REFUSER.REQ_STATE = 32 * (0x2048) + 8 := rfl
@[simp] theorem w_PWR_REFUSER_REQ_STATE : Fld.w PWR.REFUSER.REQ_STATE = 2 := rfl
@[simp] theorem key_PWR_REFUSER_CODE : Fld.key PWR.REFUSER.CODE = 32 * (0x2048) + 0 := rfl
@[simp] theorem w_PWR_REFUSER_CODE : Fld.w PWR.REFUSER.CODE = 8 := rfl
@[simp] theorem key_PWR_WAKE_CAUSE_SLEEP_SEC : Fld.key PWR.WAKE_CAUSE.SLEEP_SEC = 32 * (0x204c) + 16 := rfl
@[simp] theorem w_PWR_WAKE_CAUSE_SLEEP_SEC : Fld.w PWR.WAKE_CAUSE.SLEEP_SEC = 16 := rfl
@[simp] theorem key_PWR_WAKE_CAUSE_FROM_STATE : Fld.key PWR.WAKE_CAUSE.FROM_STATE = 32 * (0x204c) + 8 := rfl
@[simp] theorem w_PWR_WAKE_CAUSE_FROM_STATE : Fld.w PWR.WAKE_CAUSE.FROM_STATE = 2 := rfl
@[simp] theorem key_PWR_WAKE_CAUSE_FLUSH_CUT : Fld.key PWR.WAKE_CAUSE.FLUSH_CUT = 32 * (0x204c) + 3 := rfl
@[simp] theorem w_PWR_WAKE_CAUSE_FLUSH_CUT : Fld.w PWR.WAKE_CAUSE.FLUSH_CUT = 1 := rfl
@[simp] theorem key_PWR_WAKE_CAUSE_RUN_REQ : Fld.key PWR.WAKE_CAUSE.RUN_REQ = 32 * (0x204c) + 2 := rfl
@[simp] theorem w_PWR_WAKE_CAUSE_RUN_REQ : Fld.w PWR.WAKE_CAUSE.RUN_REQ = 1 := rfl
@[simp] theorem key_PWR_WAKE_CAUSE_REPLAY : Fld.key PWR.WAKE_CAUSE.REPLAY = 32 * (0x204c) + 1 := rfl
@[simp] theorem w_PWR_WAKE_CAUSE_REPLAY : Fld.w PWR.WAKE_CAUSE.REPLAY = 1 := rfl
@[simp] theorem key_PWR_WAKE_CAUSE_MATCH : Fld.key PWR.WAKE_CAUSE.MATCH = 32 * (0x204c) + 0 := rfl
@[simp] theorem w_PWR_WAKE_CAUSE_MATCH : Fld.w PWR.WAKE_CAUSE.MATCH = 1 := rfl
@[simp] theorem key_PWR_PAD_RELEASE_FE_HELD : Fld.key PWR.PAD_RELEASE.FE_HELD = 32 * (0x2050) + 31 := rfl
@[simp] theorem w_PWR_PAD_RELEASE_FE_HELD : Fld.w PWR.PAD_RELEASE.FE_HELD = 1 := rfl
@[simp] theorem key_PWR_PAD_RELEASE_BIAS_HELD : Fld.key PWR.PAD_RELEASE.BIAS_HELD = 32 * (0x2050) + 30 := rfl
@[simp] theorem w_PWR_PAD_RELEASE_BIAS_HELD : Fld.w PWR.PAD_RELEASE.BIAS_HELD = 1 := rfl
@[simp] theorem key_PWR_PAD_RELEASE_KEY : Fld.key PWR.PAD_RELEASE.KEY = 32 * (0x2050) + 8 := rfl
@[simp] theorem w_PWR_PAD_RELEASE_KEY : Fld.w PWR.PAD_RELEASE.KEY = 8 := rfl
@[simp] theorem key_PWR_PAD_RELEASE_RELEASE : Fld.key PWR.PAD_RELEASE.RELEASE = 32 * (0x2050) + 0 := rfl
@[simp] theorem w_PWR_PAD_RELEASE_RELEASE : Fld.w PWR.PAD_RELEASE.RELEASE = 1 := rfl
@[simp] theorem key_HDR_PAGE_ID_INSTANCE (p : Nat) : Fld.key (HDR.PAGE_ID.INSTANCE p) = 32 * (0 + 0x1000 * p) + 16 := rfl
@[simp] theorem w_HDR_PAGE_ID_INSTANCE (p : Nat) : Fld.w (HDR.PAGE_ID.INSTANCE p) = 8 := rfl
@[simp] theorem key_HDR_PAGE_ID_BLOCK_TYPE (p : Nat) : Fld.key (HDR.PAGE_ID.BLOCK_TYPE p) = 32 * (0 + 0x1000 * p) + 8 := rfl
@[simp] theorem w_HDR_PAGE_ID_BLOCK_TYPE (p : Nat) : Fld.w (HDR.PAGE_ID.BLOCK_TYPE p) = 8 := rfl
@[simp] theorem key_HDR_PAGE_ID_PAGE (p : Nat) : Fld.key (HDR.PAGE_ID.PAGE p) = 32 * (0 + 0x1000 * p) + 0 := rfl
@[simp] theorem w_HDR_PAGE_ID_PAGE (p : Nat) : Fld.w (HDR.PAGE_ID.PAGE p) = 8 := rfl
@[simp] theorem key_HDR_PAGE_REV_MAJOR (p : Nat) : Fld.key (HDR.PAGE_REV.MAJOR p) = 32 * (4 + 0x1000 * p) + 8 := rfl
@[simp] theorem w_HDR_PAGE_REV_MAJOR (p : Nat) : Fld.w (HDR.PAGE_REV.MAJOR p) = 8 := rfl
@[simp] theorem key_HDR_PAGE_REV_MINOR (p : Nat) : Fld.key (HDR.PAGE_REV.MINOR p) = 32 * (4 + 0x1000 * p) + 0 := rfl
@[simp] theorem w_HDR_PAGE_REV_MINOR (p : Nat) : Fld.w (HDR.PAGE_REV.MINOR p) = 8 := rfl
@[simp] theorem key_HDR_PAGE_CTL_CLK_REQ (p : Nat) : Fld.key (HDR.PAGE_CTL.CLK_REQ p) = 32 * (8 + 0x1000 * p) + 2 := rfl
@[simp] theorem w_HDR_PAGE_CTL_CLK_REQ (p : Nat) : Fld.w (HDR.PAGE_CTL.CLK_REQ p) = 1 := rfl
@[simp] theorem key_HDR_PAGE_CTL_SOFT_RESET (p : Nat) : Fld.key (HDR.PAGE_CTL.SOFT_RESET p) = 32 * (8 + 0x1000 * p) + 1 := rfl
@[simp] theorem w_HDR_PAGE_CTL_SOFT_RESET (p : Nat) : Fld.w (HDR.PAGE_CTL.SOFT_RESET p) = 1 := rfl
@[simp] theorem key_HDR_PAGE_CTL_EN (p : Nat) : Fld.key (HDR.PAGE_CTL.EN p) = 32 * (8 + 0x1000 * p) + 0 := rfl
@[simp] theorem w_HDR_PAGE_CTL_EN (p : Nat) : Fld.w (HDR.PAGE_CTL.EN p) = 1 := rfl
@[simp] theorem key_HDR_PAGE_STAT_ISLAND (p : Nat) : Fld.key (HDR.PAGE_STAT.ISLAND p) = 32 * (0xc + 0x1000 * p) + 8 := rfl
@[simp] theorem w_HDR_PAGE_STAT_ISLAND (p : Nat) : Fld.w (HDR.PAGE_STAT.ISLAND p) = 6 := rfl
@[simp] theorem key_HDR_PAGE_STAT_RESET_ACTIVE (p : Nat) : Fld.key (HDR.PAGE_STAT.RESET_ACTIVE p) = 32 * (0xc + 0x1000 * p) + 3 := rfl
@[simp] theorem w_HDR_PAGE_STAT_RESET_ACTIVE (p : Nat) : Fld.w (HDR.PAGE_STAT.RESET_ACTIVE p) = 1 := rfl
@[simp] theorem key_HDR_PAGE_STAT_BUSY (p : Nat) : Fld.key (HDR.PAGE_STAT.BUSY p) = 32 * (0xc + 0x1000 * p) + 2 := rfl
@[simp] theorem w_HDR_PAGE_STAT_BUSY (p : Nat) : Fld.w (HDR.PAGE_STAT.BUSY p) = 1 := rfl
@[simp] theorem key_HDR_PAGE_STAT_PWR_ON (p : Nat) : Fld.key (HDR.PAGE_STAT.PWR_ON p) = 32 * (0xc + 0x1000 * p) + 1 := rfl
@[simp] theorem w_HDR_PAGE_STAT_PWR_ON (p : Nat) : Fld.w (HDR.PAGE_STAT.PWR_ON p) = 1 := rfl
@[simp] theorem key_HDR_PAGE_STAT_CLK_ON (p : Nat) : Fld.key (HDR.PAGE_STAT.CLK_ON p) = 32 * (0xc + 0x1000 * p) + 0 := rfl
@[simp] theorem w_HDR_PAGE_STAT_CLK_ON (p : Nat) : Fld.w (HDR.PAGE_STAT.CLK_ON p) = 1 := rfl
@[simp] theorem key_HDR_ERR_FIRST_VALID (p : Nat) : Fld.key (HDR.ERR_FIRST.VALID p) = 32 * (0x1c + 0x1000 * p) + 31 := rfl
@[simp] theorem w_HDR_ERR_FIRST_VALID (p : Nat) : Fld.w (HDR.ERR_FIRST.VALID p) = 1 := rfl
@[simp] theorem key_HDR_ERR_FIRST_BIT (p : Nat) : Fld.key (HDR.ERR_FIRST.BIT p) = 32 * (0x1c + 0x1000 * p) + 0 := rfl
@[simp] theorem w_HDR_ERR_FIRST_BIT (p : Nat) : Fld.w (HDR.ERR_FIRST.BIT p) = 5 := rfl
@[simp] theorem key_HDR_SNAP_SEQ_SEQ (p : Nat) : Fld.key (HDR.SNAP_SEQ.SEQ p) = 32 * (0x2c + 0x1000 * p) + 0 := rfl
@[simp] theorem w_HDR_SNAP_SEQ_SEQ (p : Nat) : Fld.w (HDR.SNAP_SEQ.SEQ p) = 32 := rfl
@[simp] theorem key_PCI_LINK_STAT_UP : Fld.key PCI.LINK_STAT.UP = 32 * (0x2c040) + 31 := rfl
@[simp] theorem w_PCI_LINK_STAT_UP : Fld.w PCI.LINK_STAT.UP = 1 := rfl
@[simp] theorem key_PCI_LINK_STAT_PERST : Fld.key PCI.LINK_STAT.PERST = 32 * (0x2c040) + 30 := rfl
@[simp] theorem w_PCI_LINK_STAT_PERST : Fld.w PCI.LINK_STAT.PERST = 1 := rfl
@[simp] theorem key_PCI_LINK_STAT_SPEED : Fld.key PCI.LINK_STAT.SPEED = 32 * (0x2c040) + 20 := rfl
@[simp] theorem w_PCI_LINK_STAT_SPEED : Fld.w PCI.LINK_STAT.SPEED = 4 := rfl
@[simp] theorem key_PCI_LINK_STAT_WIDTH : Fld.key PCI.LINK_STAT.WIDTH = 32 * (0x2c040) + 8 := rfl
@[simp] theorem w_PCI_LINK_STAT_WIDTH : Fld.w PCI.LINK_STAT.WIDTH = 8 := rfl
@[simp] theorem key_PCI_LINK_STAT_LTSSM : Fld.key PCI.LINK_STAT.LTSSM = 32 * (0x2c040) + 0 := rfl
@[simp] theorem w_PCI_LINK_STAT_LTSSM : Fld.w PCI.LINK_STAT.LTSSM = 4 := rfl
@[simp] theorem key_PCI_LINK_CTL_RETRAIN : Fld.key PCI.LINK_CTL.RETRAIN = 32 * (0x2c044) + 2 := rfl
@[simp] theorem w_PCI_LINK_CTL_RETRAIN : Fld.w PCI.LINK_CTL.RETRAIN = 1 := rfl
@[simp] theorem key_PCI_LINK_CTL_MAX_SPEED : Fld.key PCI.LINK_CTL.MAX_SPEED = 32 * (0x2c044) + 0 := rfl
@[simp] theorem w_PCI_LINK_CTL_MAX_SPEED : Fld.w PCI.LINK_CTL.MAX_SPEED = 2 := rfl
@[simp] theorem key_PCI_IDS_DEVICE : Fld.key PCI.IDS.DEVICE = 32 * (0x2c048) + 16 := rfl
@[simp] theorem w_PCI_IDS_DEVICE : Fld.w PCI.IDS.DEVICE = 16 := rfl
@[simp] theorem key_PCI_IDS_VENDOR : Fld.key PCI.IDS.VENDOR = 32 * (0x2c048) + 0 := rfl
@[simp] theorem w_PCI_IDS_VENDOR : Fld.w PCI.IDS.VENDOR = 16 := rfl
@[simp] theorem key_PCI_AER_UNCOR_STATUS : Fld.key PCI.AER_UNCOR.STATUS = 32 * (0x2c04c) + 0 := rfl
@[simp] theorem w_PCI_AER_UNCOR_STATUS : Fld.w PCI.AER_UNCOR.STATUS = 32 := rfl
@[simp] theorem key_PCI_AER_COR_STATUS : Fld.key PCI.AER_COR.STATUS = 32 * (0x2c050) + 0 := rfl
@[simp] theorem w_PCI_AER_COR_STATUS : Fld.w PCI.AER_COR.STATUS = 32 := rfl
@[simp] theorem key_PCI_CNT_DOWN : Fld.key PCI.CNT.DOWN = 32 * (0x2c054) + 16 := rfl
@[simp] theorem w_PCI_CNT_DOWN : Fld.w PCI.CNT.DOWN = 16 := rfl
@[simp] theorem key_PCI_CNT_RECOVERY : Fld.key PCI.CNT.RECOVERY = 32 * (0x2c054) + 0 := rfl
@[simp] theorem w_PCI_CNT_RECOVERY : Fld.w PCI.CNT.RECOVERY = 16 := rfl
@[simp] theorem key_HSI_SPI_STAT_CUT (j : Nat) : Fld.key (HSI.SPI_STAT.CUT j) = 32 * (0x2d040 + 4 * j) + 16 := rfl
@[simp] theorem w_HSI_SPI_STAT_CUT (j : Nat) : Fld.w (HSI.SPI_STAT.CUT j) = 16 := rfl
@[simp] theorem key_HSI_SPI_STAT_OPCODE (j : Nat) : Fld.key (HSI.SPI_STAT.OPCODE j) = 32 * (0x2d040 + 4 * j) + 0 := rfl
@[simp] theorem w_HSI_SPI_STAT_OPCODE (j : Nat) : Fld.w (HSI.SPI_STAT.OPCODE j) = 16 := rfl
@[simp] theorem key_HSI_I2C_STAT_TIMEOUT : Fld.key HSI.I2C_STAT.TIMEOUT = 32 * (0x2d048) + 16 := rfl
@[simp] theorem w_HSI_I2C_STAT_TIMEOUT : Fld.w HSI.I2C_STAT.TIMEOUT = 16 := rfl
@[simp] theorem key_HSI_I2C_STAT_PARTIAL : Fld.key HSI.I2C_STAT.PARTIAL = 32 * (0x2d048) + 0 := rfl
@[simp] theorem w_HSI_I2C_STAT_PARTIAL : Fld.w HSI.I2C_STAT.PARTIAL = 16 := rfl
@[simp] theorem key_HSI_I2C_ADDR_ADDR : Fld.key HSI.I2C_ADDR.ADDR = 32 * (0x2d04c) + 0 := rfl
@[simp] theorem w_HSI_I2C_ADDR_ADDR : Fld.w HSI.I2C_ADDR.ADDR = 7 := rfl
@[simp] theorem key_OWN_OWN_CLAIM_RELEASE : Fld.key OWN.OWN_CLAIM.RELEASE = 32 * (0x1040) + 16 := rfl
@[simp] theorem w_OWN_OWN_CLAIM_RELEASE : Fld.w OWN.OWN_CLAIM.RELEASE = 1 := rfl
@[simp] theorem key_OWN_OWN_CLAIM_NONCE : Fld.key OWN.OWN_CLAIM.NONCE = 32 * (0x1040) + 0 := rfl
@[simp] theorem w_OWN_OWN_CLAIM_NONCE : Fld.w OWN.OWN_CLAIM.NONCE = 16 := rfl
@[simp] theorem key_OWN_OWN_STAT_STATE : Fld.key OWN.OWN_STAT.STATE = 32 * (0x1044) + 30 := rfl
@[simp] theorem w_OWN_OWN_STAT_STATE : Fld.w OWN.OWN_STAT.STATE = 2 := rfl
@[simp] theorem key_OWN_OWN_STAT_OWNER : Fld.key OWN.OWN_STAT.OWNER = 32 * (0x1044) + 24 := rfl
@[simp] theorem w_OWN_OWN_STAT_OWNER : Fld.w OWN.OWN_STAT.OWNER = 3 := rfl
@[simp] theorem key_OWN_OWN_STAT_EPOCH : Fld.key OWN.OWN_STAT.EPOCH = 32 * (0x1044) + 16 := rfl
@[simp] theorem w_OWN_OWN_STAT_EPOCH : Fld.w OWN.OWN_STAT.EPOCH = 8 := rfl
@[simp] theorem key_OWN_OWN_STAT_NONCE : Fld.key OWN.OWN_STAT.NONCE = 32 * (0x1044) + 0 := rfl
@[simp] theorem w_OWN_OWN_STAT_NONCE : Fld.w OWN.OWN_STAT.NONCE = 16 := rfl
@[simp] theorem key_OWN_OWN_BEAT_NONCE : Fld.key OWN.OWN_BEAT.NONCE = 32 * (0x1048) + 0 := rfl
@[simp] theorem w_OWN_OWN_BEAT_NONCE : Fld.w OWN.OWN_BEAT.NONCE = 16 := rfl
@[simp] theorem key_OWN_BEAT_MAX_LEFT : Fld.key OWN.BEAT_MAX.LEFT = 32 * (0x104c) + 16 := rfl
@[simp] theorem w_OWN_BEAT_MAX_LEFT : Fld.w OWN.BEAT_MAX.LEFT = 16 := rfl
@[simp] theorem key_OWN_BEAT_MAX_MS : Fld.key OWN.BEAT_MAX.MS = 32 * (0x104c) + 0 := rfl
@[simp] theorem w_OWN_BEAT_MAX_MS : Fld.w OWN.BEAT_MAX.MS = 16 := rfl
@[simp] theorem key_OWN_HANDOVER_RESULT : Fld.key OWN.HANDOVER.RESULT = 32 * (0x1050) + 16 := rfl
@[simp] theorem w_OWN_HANDOVER_RESULT : Fld.w OWN.HANDOVER.RESULT = 3 := rfl
@[simp] theorem key_OWN_HANDOVER_TARGET : Fld.key OWN.HANDOVER.TARGET = 32 * (0x1050) + 0 := rfl
@[simp] theorem w_OWN_HANDOVER_TARGET : Fld.w OWN.HANDOVER.TARGET = 3 := rfl
@[simp] theorem key_OWN_ACCEPT_NONCE : Fld.key OWN.ACCEPT.NONCE = 32 * (0x1054) + 0 := rfl
@[simp] theorem w_OWN_ACCEPT_NONCE : Fld.w OWN.ACCEPT.NONCE = 16 := rfl
@[simp] theorem key_OWN_DROP_CNT_LAST_PAGE (j : Nat) : Fld.key (OWN.DROP_CNT.LAST_PAGE j) = 32 * (0x1070 + 4 * j) + 16 := rfl
@[simp] theorem w_OWN_DROP_CNT_LAST_PAGE (j : Nat) : Fld.w (OWN.DROP_CNT.LAST_PAGE j) = 8 := rfl
@[simp] theorem key_OWN_DROP_CNT_COUNT (j : Nat) : Fld.key (OWN.DROP_CNT.COUNT j) = 32 * (0x1070 + 4 * j) + 0 := rfl
@[simp] theorem w_OWN_DROP_CNT_COUNT (j : Nat) : Fld.w (OWN.DROP_CNT.COUNT j) = 16 := rfl
@[simp] theorem key_IDN_RF_STOP_SETTER : Fld.key IDN.RF_STOP.SETTER = 32 * (0x48) + 16 := rfl
@[simp] theorem w_IDN_RF_STOP_SETTER : Fld.w IDN.RF_STOP.SETTER = 3 := rfl
@[simp] theorem key_IDN_RF_STOP_CLEAR : Fld.key IDN.RF_STOP.CLEAR = 32 * (0x48) + 9 := rfl
@[simp] theorem w_IDN_RF_STOP_CLEAR : Fld.w IDN.RF_STOP.CLEAR = 1 := rfl
@[simp] theorem key_IDN_RF_STOP_SET : Fld.key IDN.RF_STOP.SET = 32 * (0x48) + 8 := rfl
@[simp] theorem w_IDN_RF_STOP_SET : Fld.w IDN.RF_STOP.SET = 1 := rfl
@[simp] theorem key_IDN_RF_STOP_STOP : Fld.key IDN.RF_STOP.STOP = 32 * (0x48) + 0 := rfl
@[simp] theorem w_IDN_RF_STOP_STOP : Fld.w IDN.RF_STOP.STOP = 1 := rfl
@[simp] theorem key_IRQ_PIN_CTL_PEND (j : Nat) : Fld.key (IRQ.PIN_CTL.PEND j) = 32 * (0x5040 + 4 * j) + 31 := rfl
@[simp] theorem w_IRQ_PIN_CTL_PEND (j : Nat) : Fld.w (IRQ.PIN_CTL.PEND j) = 1 := rfl
@[simp] theorem key_IRQ_PIN_CTL_MASK (j : Nat) : Fld.key (IRQ.PIN_CTL.MASK j) = 32 * (0x5040 + 4 * j) + 0 := rfl
@[simp] theorem w_IRQ_PIN_CTL_MASK (j : Nat) : Fld.w (IRQ.PIN_CTL.MASK j) = 1 := rfl
@[simp] theorem key_SYN_SYN_CTL_REFUSE (j : Nat) : Fld.key (SYN.SYN_CTL.REFUSE j) = 32 * (0xd040 + 4 * j) + 28 := rfl
@[simp] theorem w_SYN_SYN_CTL_REFUSE (j : Nat) : Fld.w (SYN.SYN_CTL.REFUSE j) = 4 := rfl
@[simp] theorem key_SYN_SYN_CTL_RECAL (j : Nat) : Fld.key (SYN.SYN_CTL.RECAL j) = 32 * (0xd040 + 4 * j) + 8 := rfl
@[simp] theorem w_SYN_SYN_CTL_RECAL (j : Nat) : Fld.w (SYN.SYN_CTL.RECAL j) = 1 := rfl
@[simp] theorem key_SYN_SYN_CTL_PLAN (j : Nat) : Fld.key (SYN.SYN_CTL.PLAN j) = 32 * (0xd040 + 4 * j) + 4 := rfl
@[simp] theorem w_SYN_SYN_CTL_PLAN (j : Nat) : Fld.w (SYN.SYN_CTL.PLAN j) = 2 := rfl
@[simp] theorem key_SYN_SYN_CTL_EN (j : Nat) : Fld.key (SYN.SYN_CTL.EN j) = 32 * (0xd040 + 4 * j) + 0 := rfl
@[simp] theorem w_SYN_SYN_CTL_EN (j : Nat) : Fld.w (SYN.SYN_CTL.EN j) = 1 := rfl
@[simp] theorem key_SYN_SYN_STAT_READY (j : Nat) : Fld.key (SYN.SYN_STAT.READY j) = 32 * (0xd060 + 4 * j) + 31 := rfl
@[simp] theorem w_SYN_SYN_STAT_READY (j : Nat) : Fld.w (SYN.SYN_STAT.READY j) = 1 := rfl
@[simp] theorem key_SYN_SYN_STAT_LOCK (j : Nat) : Fld.key (SYN.SYN_STAT.LOCK j) = 32 * (0xd060 + 4 * j) + 30 := rfl
@[simp] theorem w_SYN_SYN_STAT_LOCK (j : Nat) : Fld.w (SYN.SYN_STAT.LOCK j) = 1 := rfl
@[simp] theorem key_SYN_SYN_STAT_CONV_RDY (j : Nat) : Fld.key (SYN.SYN_STAT.CONV_RDY j) = 32 * (0xd060 + 4 * j) + 29 := rfl
@[simp] theorem w_SYN_SYN_STAT_CONV_RDY (j : Nat) : Fld.w (SYN.SYN_STAT.CONV_RDY j) = 1 := rfl
@[simp] theorem key_SYN_SYN_STAT_BUSY (j : Nat) : Fld.key (SYN.SYN_STAT.BUSY j) = 32 * (0xd060 + 4 * j) + 28 := rfl
@[simp] theorem w_SYN_SYN_STAT_BUSY (j : Nat) : Fld.w (SYN.SYN_STAT.BUSY j) = 1 := rfl
@[simp] theorem key_SYN_SYN_STAT_PEND (j : Nat) : Fld.key (SYN.SYN_STAT.PEND j) = 32 * (0xd060 + 4 * j) + 27 := rfl
@[simp] theorem w_SYN_SYN_STAT_PEND (j : Nat) : Fld.w (SYN.SYN_STAT.PEND j) = 1 := rfl
@[simp] theorem key_SYN_SYN_STAT_UNLOCK_SEEN (j : Nat) : Fld.key (SYN.SYN_STAT.UNLOCK_SEEN j) = 32 * (0xd060 + 4 * j) + 26 := rfl
@[simp] theorem w_SYN_SYN_STAT_UNLOCK_SEEN (j : Nat) : Fld.w (SYN.SYN_STAT.UNLOCK_SEEN j) = 1 := rfl
@[simp] theorem key_SYN_SYN_STAT_STEP (j : Nat) : Fld.key (SYN.SYN_STAT.STEP j) = 32 * (0xd060 + 4 * j) + 20 := rfl
@[simp] theorem w_SYN_SYN_STAT_STEP (j : Nat) : Fld.w (SYN.SYN_STAT.STEP j) = 4 := rfl
@[simp] theorem key_SYN_SYN_STAT_CHG_CNT (j : Nat) : Fld.key (SYN.SYN_STAT.CHG_CNT j) = 32 * (0xd060 + 4 * j) + 8 := rfl
@[simp] theorem w_SYN_SYN_STAT_CHG_CNT (j : Nat) : Fld.w (SYN.SYN_STAT.CHG_CNT j) = 8 := rfl
@[simp] theorem key_SYN_SYN_STAT_PLAN_NOW (j : Nat) : Fld.key (SYN.SYN_STAT.PLAN_NOW j) = 32 * (0xd060 + 4 * j) + 4 := rfl
@[simp] theorem w_SYN_SYN_STAT_PLAN_NOW (j : Nat) : Fld.w (SYN.SYN_STAT.PLAN_NOW j) = 2 := rfl
@[simp] theorem key_CNV_RX_CFG_PWR (n : Nat) (j : Nat) : Fld.key (CNV.RX_CFG.PWR n j) = 32 * (0x10040 + 0x1000 * n + 4 * j) + 31 := rfl
@[simp] theorem w_CNV_RX_CFG_PWR (n : Nat) (j : Nat) : Fld.w (CNV.RX_CFG.PWR n j) = 1 := rfl
@[simp] theorem key_CNV_RX_CFG_DSA (n : Nat) (j : Nat) : Fld.key (CNV.RX_CFG.DSA n j) = 32 * (0x10040 + 0x1000 * n + 4 * j) + 8 := rfl
@[simp] theorem w_CNV_RX_CFG_DSA (n : Nat) (j : Nat) : Fld.w (CNV.RX_CFG.DSA n j) = 5 := rfl
@[simp] theorem key_CNV_RX_CFG_ROLE (n : Nat) (j : Nat) : Fld.key (CNV.RX_CFG.ROLE n j) = 32 * (0x10040 + 0x1000 * n + 4 * j) + 1 := rfl
@[simp] theorem w_CNV_RX_CFG_ROLE (n : Nat) (j : Nat) : Fld.w (CNV.RX_CFG.ROLE n j) = 1 := rfl
@[simp] theorem key_CNV_TX_CFG_PWR (n : Nat) (j : Nat) : Fld.key (CNV.TX_CFG.PWR n j) = 32 * (0x10050 + 0x1000 * n + 4 * j) + 31 := rfl
@[simp] theorem w_CNV_TX_CFG_PWR (n : Nat) (j : Nat) : Fld.w (CNV.TX_CFG.PWR n j) = 1 := rfl
@[simp] theorem key_CNV_TX_CFG_FS (n : Nat) (j : Nat) : Fld.key (CNV.TX_CFG.FS n j) = 32 * (0x10050 + 0x1000 * n + 4 * j) + 8 := rfl
@[simp] theorem w_CNV_TX_CFG_FS (n : Nat) (j : Nat) : Fld.w (CNV.TX_CFG.FS n j) = 2 := rfl
@[simp] theorem key_CNV_TX_CFG_ROLE (n : Nat) (j : Nat) : Fld.key (CNV.TX_CFG.ROLE n j) = 32 * (0x10050 + 0x1000 * n + 4 * j) + 1 := rfl
@[simp] theorem w_CNV_TX_CFG_ROLE (n : Nat) (j : Nat) : Fld.w (CNV.TX_CFG.ROLE n j) = 1 := rfl
@[simp] theorem key_CNV_CAL_CTL_BG_EN (n : Nat) : Fld.key (CNV.CAL_CTL.BG_EN n) = 32 * (0x10060 + 0x1000 * n) + 0 := rfl
@[simp] theorem w_CNV_CAL_CTL_BG_EN (n : Nat) : Fld.w (CNV.CAL_CTL.BG_EN n) = 4 := rfl
@[simp] theorem key_CNV_CAL_STAT_DRIFT (n : Nat) : Fld.key (CNV.CAL_STAT.DRIFT n) = 32 * (0x10064 + 0x1000 * n) + 16 := rfl
@[simp] theorem w_CNV_CAL_STAT_DRIFT (n : Nat) : Fld.w (CNV.CAL_STAT.DRIFT n) = 4 := rfl
@[simp] theorem key_CNV_CAL_STAT_CONV (n : Nat) : Fld.key (CNV.CAL_STAT.CONV n) = 32 * (0x10064 + 0x1000 * n) + 12 := rfl
@[simp] theorem w_CNV_CAL_STAT_CONV (n : Nat) : Fld.w (CNV.CAL_STAT.CONV n) = 4 := rfl
@[simp] theorem key_CNV_CAL_STAT_HOLD (n : Nat) : Fld.key (CNV.CAL_STAT.HOLD n) = 32 * (0x10064 + 0x1000 * n) + 8 := rfl
@[simp] theorem w_CNV_CAL_STAT_HOLD (n : Nat) : Fld.w (CNV.CAL_STAT.HOLD n) = 4 := rfl
@[simp] theorem key_CNV_CAL_STAT_FG_DONE (n : Nat) : Fld.key (CNV.CAL_STAT.FG_DONE n) = 32 * (0x10064 + 0x1000 * n) + 0 := rfl
@[simp] theorem w_CNV_CAL_STAT_FG_DONE (n : Nat) : Fld.w (CNV.CAL_STAT.FG_DONE n) = 4 := rfl
@[simp] theorem key_CNV_CAL_IMG_IMG_3 (n : Nat) : Fld.key (CNV.CAL_IMG.IMG_3 n) = 32 * (0x10068 + 0x1000 * n) + 24 := rfl
@[simp] theorem w_CNV_CAL_IMG_IMG_3 (n : Nat) : Fld.w (CNV.CAL_IMG.IMG_3 n) = 8 := rfl
@[simp] theorem key_CNV_CAL_IMG_IMG_2 (n : Nat) : Fld.key (CNV.CAL_IMG.IMG_2 n) = 32 * (0x10068 + 0x1000 * n) + 16 := rfl
@[simp] theorem w_CNV_CAL_IMG_IMG_2 (n : Nat) : Fld.w (CNV.CAL_IMG.IMG_2 n) = 8 := rfl
@[simp] theorem key_CNV_CAL_IMG_IMG_1 (n : Nat) : Fld.key (CNV.CAL_IMG.IMG_1 n) = 32 * (0x10068 + 0x1000 * n) + 8 := rfl
@[simp] theorem w_CNV_CAL_IMG_IMG_1 (n : Nat) : Fld.w (CNV.CAL_IMG.IMG_1 n) = 8 := rfl
@[simp] theorem key_CNV_CAL_IMG_IMG_0 (n : Nat) : Fld.key (CNV.CAL_IMG.IMG_0 n) = 32 * (0x10068 + 0x1000 * n) + 0 := rfl
@[simp] theorem w_CNV_CAL_IMG_IMG_0 (n : Nat) : Fld.w (CNV.CAL_IMG.IMG_0 n) = 8 := rfl
@[simp] theorem key_CNV_ILV_SKEW (n : Nat) (j : Nat) : Fld.key (CNV.ILV.SKEW n j) = 32 * (0x10070 + 0x1000 * n + 4 * j) + 20 := rfl
@[simp] theorem w_CNV_ILV_SKEW (n : Nat) (j : Nat) : Fld.w (CNV.ILV.SKEW n j) = 10 := rfl
@[simp] theorem key_CNV_ILV_GAIN (n : Nat) (j : Nat) : Fld.key (CNV.ILV.GAIN n j) = 32 * (0x10070 + 0x1000 * n + 4 * j) + 10 := rfl
@[simp] theorem w_CNV_ILV_GAIN (n : Nat) (j : Nat) : Fld.w (CNV.ILV.GAIN n j) = 10 := rfl
@[simp] theorem key_CNV_ILV_OFFSET (n : Nat) (j : Nat) : Fld.key (CNV.ILV.OFFSET n j) = 32 * (0x10070 + 0x1000 * n + 4 * j) + 0 := rfl
@[simp] theorem w_CNV_ILV_OFFSET (n : Nat) (j : Nat) : Fld.w (CNV.ILV.OFFSET n j) = 10 := rfl
@[simp] theorem key_CNV_OBS_ENT_VALID (n : Nat) (j : Nat) : Fld.key (CNV.OBS_ENT.VALID n j) = 32 * (0x10080 + 0x1000 * n + 4 * j) + 31 := rfl
@[simp] theorem w_CNV_OBS_ENT_VALID (n : Nat) (j : Nat) : Fld.w (CNV.OBS_ENT.VALID n j) = 1 := rfl
@[simp] theorem key_CNV_OBS_ENT_ZONE (n : Nat) (j : Nat) : Fld.key (CNV.OBS_ENT.ZONE n j) = 32 * (0x10080 + 0x1000 * n + 4 * j) + 12 := rfl
@[simp] theorem w_CNV_OBS_ENT_ZONE (n : Nat) (j : Nat) : Fld.w (CNV.OBS_ENT.ZONE n j) = 1 := rfl
@[simp] theorem key_CNV_OBS_ENT_CPL (n : Nat) (j : Nat) : Fld.key (CNV.OBS_ENT.CPL n j) = 32 * (0x10080 + 0x1000 * n + 4 * j) + 8 := rfl
@[simp] theorem w_CNV_OBS_ENT_CPL (n : Nat) (j : Nat) : Fld.w (CNV.OBS_ENT.CPL n j) = 2 := rfl
@[simp] theorem key_CNV_OBS_ENT_DWELL (n : Nat) (j : Nat) : Fld.key (CNV.OBS_ENT.DWELL n j) = 32 * (0x10080 + 0x1000 * n + 4 * j) + 0 := rfl
@[simp] theorem w_CNV_OBS_ENT_DWELL (n : Nat) (j : Nat) : Fld.w (CNV.OBS_ENT.DWELL n j) = 8 := rfl
@[simp] theorem key_CNV_OBS_CTL_PENDING (n : Nat) : Fld.key (CNV.OBS_CTL.PENDING n) = 32 * (0x100c0 + 0x1000 * n) + 31 := rfl
@[simp] theorem w_CNV_OBS_CTL_PENDING (n : Nat) : Fld.w (CNV.OBS_CTL.PENDING n) = 1 := rfl
@[simp] theorem key_CNV_OBS_CTL_REFUSE (n : Nat) : Fld.key (CNV.OBS_CTL.REFUSE n) = 32 * (0x100c0 + 0x1000 * n) + 24 := rfl
@[simp] theorem w_CNV_OBS_CTL_REFUSE (n : Nat) : Fld.w (CNV.OBS_CTL.REFUSE n) = 4 := rfl
@[simp] theorem key_CNV_OBS_CTL_OFFENDER (n : Nat) : Fld.key (CNV.OBS_CTL.OFFENDER n) = 32 * (0x100c0 + 0x1000 * n) + 12 := rfl
@[simp] theorem w_CNV_OBS_CTL_OFFENDER (n : Nat) : Fld.w (CNV.OBS_CTL.OFFENDER n) = 9 := rfl
@[simp] theorem key_CNV_OBS_CTL_COMMIT (n : Nat) : Fld.key (CNV.OBS_CTL.COMMIT n) = 32 * (0x100c0 + 0x1000 * n) + 0 := rfl
@[simp] theorem w_CNV_OBS_CTL_COMMIT (n : Nat) : Fld.w (CNV.OBS_CTL.COMMIT n) = 1 := rfl
@[simp] theorem key_CNV_OBS_STAT_ENT_1 (n : Nat) : Fld.key (CNV.OBS_STAT.ENT_1 n) = 32 * (0x100c4 + 0x1000 * n) + 12 := rfl
@[simp] theorem w_CNV_OBS_STAT_ENT_1 (n : Nat) : Fld.w (CNV.OBS_STAT.ENT_1 n) = 3 := rfl
@[simp] theorem key_CNV_OBS_STAT_ENT_0 (n : Nat) : Fld.key (CNV.OBS_STAT.ENT_0 n) = 32 * (0x100c4 + 0x1000 * n) + 8 := rfl
@[simp] theorem w_CNV_OBS_STAT_ENT_0 (n : Nat) : Fld.w (CNV.OBS_STAT.ENT_0 n) = 3 := rfl
@[simp] theorem key_CNV_OBS_STAT_ACT_1 (n : Nat) : Fld.key (CNV.OBS_STAT.ACT_1 n) = 32 * (0x100c4 + 0x1000 * n) + 1 := rfl
@[simp] theorem w_CNV_OBS_STAT_ACT_1 (n : Nat) : Fld.w (CNV.OBS_STAT.ACT_1 n) = 1 := rfl
@[simp] theorem key_CNV_OBS_STAT_ACT_0 (n : Nat) : Fld.key (CNV.OBS_STAT.ACT_0 n) = 32 * (0x100c4 + 0x1000 * n) + 0 := rfl
@[simp] theorem w_CNV_OBS_STAT_ACT_0 (n : Nat) : Fld.w (CNV.OBS_STAT.ACT_0 n) = 1 := rfl
@[simp] theorem key_SLP_SLOT_CTL_COMMIT (s : Nat) : Fld.key (SLP.SLOT_CTL.COMMIT s) = 32 * (slotBase s + 0) + 8 := rfl
@[simp] theorem w_SLP_SLOT_CTL_COMMIT (s : Nat) : Fld.w (SLP.SLOT_CTL.COMMIT s) = 1 := rfl
@[simp] theorem key_SLP_SLOT_CTL_EN (s : Nat) : Fld.key (SLP.SLOT_CTL.EN s) = 32 * (slotBase s + 0) + 0 := rfl
@[simp] theorem w_SLP_SLOT_CTL_EN (s : Nat) : Fld.w (SLP.SLOT_CTL.EN s) = 1 := rfl
@[simp] theorem key_SLP_SLOT_STAT_RESULT (s : Nat) : Fld.key (SLP.SLOT_STAT.RESULT s) = 32 * (slotBase s + 4) + 28 := rfl
@[simp] theorem w_SLP_SLOT_STAT_RESULT (s : Nat) : Fld.w (SLP.SLOT_STAT.RESULT s) = 4 := rfl
@[simp] theorem key_SLP_SLOT_STAT_CREFUSE (s : Nat) : Fld.key (SLP.SLOT_STAT.CREFUSE s) = 32 * (slotBase s + 4) + 25 := rfl
@[simp] theorem w_SLP_SLOT_STAT_CREFUSE (s : Nat) : Fld.w (SLP.SLOT_STAT.CREFUSE s) = 3 := rfl
@[simp] theorem key_SLP_SLOT_STAT_COMMIT_PEND (s : Nat) : Fld.key (SLP.SLOT_STAT.COMMIT_PEND s) = 32 * (slotBase s + 4) + 24 := rfl
@[simp] theorem w_SLP_SLOT_STAT_COMMIT_PEND (s : Nat) : Fld.w (SLP.SLOT_STAT.COMMIT_PEND s) = 1 := rfl
@[simp] theorem key_SLP_SLOT_STAT_STATE (s : Nat) : Fld.key (SLP.SLOT_STAT.STATE s) = 32 * (slotBase s + 4) + 20 := rfl
@[simp] theorem w_SLP_SLOT_STAT_STATE (s : Nat) : Fld.w (SLP.SLOT_STAT.STATE s) = 4 := rfl
@[simp] theorem key_SLP_SLOT_STAT_HOLD (s : Nat) : Fld.key (SLP.SLOT_STAT.HOLD s) = 32 * (slotBase s + 4) + 12 := rfl
@[simp] theorem w_SLP_SLOT_STAT_HOLD (s : Nat) : Fld.w (SLP.SLOT_STAT.HOLD s) = 8 := rfl
@[simp] theorem key_SLP_SLOT_STAT_HIST_VALID (s : Nat) : Fld.key (SLP.SLOT_STAT.HIST_VALID s) = 32 * (slotBase s + 4) + 11 := rfl
@[simp] theorem w_SLP_SLOT_STAT_HIST_VALID (s : Nat) : Fld.w (SLP.SLOT_STAT.HIST_VALID s) = 1 := rfl
@[simp] theorem key_SLP_SLOT_STAT_DIR (s : Nat) : Fld.key (SLP.SLOT_STAT.DIR s) = 32 * (slotBase s + 4) + 10 := rfl
@[simp] theorem w_SLP_SLOT_STAT_DIR (s : Nat) : Fld.w (SLP.SLOT_STAT.DIR s) = 1 := rfl
@[simp] theorem key_SLP_SLOT_STAT_DIRTY (s : Nat) : Fld.key (SLP.SLOT_STAT.DIRTY s) = 32 * (slotBase s + 4) + 9 := rfl
@[simp] theorem w_SLP_SLOT_STAT_DIRTY (s : Nat) : Fld.w (SLP.SLOT_STAT.DIRTY s) = 1 := rfl
@[simp] theorem key_SLP_SLOT_CFG_RX (s : Nat) : Fld.key (SLP.SLOT_CFG.RX s) = 32 * (slotBase s + 8) + 28 := rfl
@[simp] theorem w_SLP_SLOT_CFG_RX (s : Nat) : Fld.w (SLP.SLOT_CFG.RX s) = 2 := rfl
@[simp] theorem key_SLP_SLOT_CFG_RATE (s : Nat) : Fld.key (SLP.SLOT_CFG.RATE s) = 32 * (slotBase s + 8) + 24 := rfl
@[simp] theorem w_SLP_SLOT_CFG_RATE (s : Nat) : Fld.w (SLP.SLOT_CFG.RATE s) = 3 := rfl
@[simp] theorem key_SLP_SLOT_CFG_MA_STAGES (s : Nat) : Fld.key (SLP.SLOT_CFG.MA_STAGES s) = 32 * (slotBase s + 8) + 20 := rfl
@[simp] theorem w_SLP_SLOT_CFG_MA_STAGES (s : Nat) : Fld.w (SLP.SLOT_CFG.MA_STAGES s) = 2 := rfl
@[simp] theorem key_SLP_SLOT_CFG_TDD (s : Nat) : Fld.key (SLP.SLOT_CFG.TDD s) = 32 * (slotBase s + 8) + 16 := rfl
@[simp] theorem w_SLP_SLOT_CFG_TDD (s : Nat) : Fld.w (SLP.SLOT_CFG.TDD s) = 4 := rfl
@[simp] theorem key_SLP_SLOT_TX_VALID3 (s : Nat) : Fld.key (SLP.SLOT_TX.VALID3 s) = 32 * (slotBase s + 0xc) + 31 := rfl
@[simp] theorem w_SLP_SLOT_TX_VALID3 (s : Nat) : Fld.w (SLP.SLOT_TX.VALID3 s) = 1 := rfl
@[simp] theorem key_SLP_SLOT_TX_TX3 (s : Nat) : Fld.key (SLP.SLOT_TX.TX3 s) = 32 * (slotBase s + 0xc) + 24 := rfl
@[simp] theorem w_SLP_SLOT_TX_TX3 (s : Nat) : Fld.w (SLP.SLOT_TX.TX3 s) = 5 := rfl
@[simp] theorem key_SLP_SLOT_TX_VALID2 (s : Nat) : Fld.key (SLP.SLOT_TX.VALID2 s) = 32 * (slotBase s + 0xc) + 23 := rfl
@[simp] theorem w_SLP_SLOT_TX_VALID2 (s : Nat) : Fld.w (SLP.SLOT_TX.VALID2 s) = 1 := rfl
@[simp] theorem key_SLP_SLOT_TX_TX2 (s : Nat) : Fld.key (SLP.SLOT_TX.TX2 s) = 32 * (slotBase s + 0xc) + 16 := rfl
@[simp] theorem w_SLP_SLOT_TX_TX2 (s : Nat) : Fld.w (SLP.SLOT_TX.TX2 s) = 5 := rfl
@[simp] theorem key_SLP_SLOT_TX_VALID1 (s : Nat) : Fld.key (SLP.SLOT_TX.VALID1 s) = 32 * (slotBase s + 0xc) + 15 := rfl
@[simp] theorem w_SLP_SLOT_TX_VALID1 (s : Nat) : Fld.w (SLP.SLOT_TX.VALID1 s) = 1 := rfl
@[simp] theorem key_SLP_SLOT_TX_TX1 (s : Nat) : Fld.key (SLP.SLOT_TX.TX1 s) = 32 * (slotBase s + 0xc) + 8 := rfl
@[simp] theorem w_SLP_SLOT_TX_TX1 (s : Nat) : Fld.w (SLP.SLOT_TX.TX1 s) = 5 := rfl
@[simp] theorem key_SLP_SLOT_TX_VALID0 (s : Nat) : Fld.key (SLP.SLOT_TX.VALID0 s) = 32 * (slotBase s + 0xc) + 7 := rfl
@[simp] theorem w_SLP_SLOT_TX_VALID0 (s : Nat) : Fld.w (SLP.SLOT_TX.VALID0 s) = 1 := rfl
@[simp] theorem key_SLP_SLOT_TX_TX0 (s : Nat) : Fld.key (SLP.SLOT_TX.TX0 s) = 32 * (slotBase s + 0xc) + 0 := rfl
@[simp] theorem w_SLP_SLOT_TX_TX0 (s : Nat) : Fld.w (SLP.SLOT_TX.TX0 s) = 5 := rfl
@[simp] theorem key_SLP_RX_CENTRE_FREQ (s : Nat) : Fld.key (SLP.RX_CENTRE.FREQ s) = 32 * (slotBase s + 0x10) + 0 := rfl
@[simp] theorem w_SLP_RX_CENTRE_FREQ (s : Nat) : Fld.w (SLP.RX_CENTRE.FREQ s) = 32 := rfl
@[simp] theorem key_SLP_TX_CENTRE_FREQ (s : Nat) : Fld.key (SLP.TX_CENTRE.FREQ s) = 32 * (slotBase s + 0x14) + 0 := rfl
@[simp] theorem w_SLP_TX_CENTRE_FREQ (s : Nat) : Fld.w (SLP.TX_CENTRE.FREQ s) = 32 := rfl
@[simp] theorem key_SLP_GAIN_TARGET (s : Nat) : Fld.key (SLP.GAIN.TARGET s) = 32 * (slotBase s + 0x18) + 0 := rfl
@[simp] theorem w_SLP_GAIN_TARGET (s : Nat) : Fld.w (SLP.GAIN.TARGET s) = 12 := rfl
@[simp] theorem key_SLP_GAIN_STAT_LIMIT (s : Nat) : Fld.key (SLP.GAIN_STAT.LIMIT s) = 32 * (slotBase s + 0x1c) + 28 := rfl
@[simp] theorem w_SLP_GAIN_STAT_LIMIT (s : Nat) : Fld.w (SLP.GAIN_STAT.LIMIT s) = 4 := rfl
@[simp] theorem key_SLP_GAIN_STAT_BACKOFF (s : Nat) : Fld.key (SLP.GAIN_STAT.BACKOFF s) = 32 * (slotBase s + 0x1c) + 27 := rfl
@[simp] theorem w_SLP_GAIN_STAT_BACKOFF (s : Nat) : Fld.w (SLP.GAIN_STAT.BACKOFF s) = 1 := rfl
@[simp] theorem key_SLP_GAIN_STAT_APPLIED (s : Nat) : Fld.key (SLP.GAIN_STAT.APPLIED s) = 32 * (slotBase s + 0x1c) + 0 := rfl
@[simp] theorem w_SLP_GAIN_STAT_APPLIED (s : Nat) : Fld.w (SLP.GAIN_STAT.APPLIED s) = 12 := rfl
@[simp] theorem key_SLP_FIR_CTL_SRC (s : Nat) : Fld.key (SLP.FIR_CTL.SRC s) = 32 * (slotBase s + 0x20) + 31 := rfl
@[simp] theorem w_SLP_FIR_CTL_SRC (s : Nat) : Fld.w (SLP.FIR_CTL.SRC s) = 1 := rfl
@[simp] theorem key_SLP_FIR_CTL_LEN (s : Nat) : Fld.key (SLP.FIR_CTL.LEN s) = 32 * (slotBase s + 0x20) + 0 := rfl
@[simp] theorem w_SLP_FIR_CTL_LEN (s : Nat) : Fld.w (SLP.FIR_CTL.LEN s) = 9 := rfl
@[simp] theorem key_SLP_EXPORT_EN (s : Nat) : Fld.key (SLP.EXPORT.EN s) = 32 * (slotBase s + 0x24) + 31 := rfl
@[simp] theorem w_SLP_EXPORT_EN (s : Nat) : Fld.w (SLP.EXPORT.EN s) = 1 := rfl
@[simp] theorem key_SLP_EXPORT_POINT (s : Nat) : Fld.key (SLP.EXPORT.POINT s) = 32 * (slotBase s + 0x24) + 29 := rfl
@[simp] theorem w_SLP_EXPORT_POINT (s : Nat) : Fld.w (SLP.EXPORT.POINT s) = 2 := rfl
@[simp] theorem key_SLP_EXPORT_FMT (s : Nat) : Fld.key (SLP.EXPORT.FMT s) = 32 * (slotBase s + 0x24) + 28 := rfl
@[simp] theorem w_SLP_EXPORT_FMT (s : Nat) : Fld.w (SLP.EXPORT.FMT s) = 1 := rfl
@[simp] theorem key_SLP_EXPORT_LANE (s : Nat) : Fld.key (SLP.EXPORT.LANE s) = 32 * (slotBase s + 0x24) + 24 := rfl
@[simp] theorem w_SLP_EXPORT_LANE (s : Nat) : Fld.w (SLP.EXPORT.LANE s) = 4 := rfl
@[simp] theorem key_SLP_LAT_STAT_FIR_LIVE (s : Nat) : Fld.key (SLP.LAT_STAT.FIR_LIVE s) = 32 * (slotBase s + 0x34) + 16 := rfl
@[simp] theorem w_SLP_LAT_STAT_FIR_LIVE (s : Nat) : Fld.w (SLP.LAT_STAT.FIR_LIVE s) = 9 := rfl
@[simp] theorem key_SLP_LAT_STAT_BAL (s : Nat) : Fld.key (SLP.LAT_STAT.BAL s) = 32 * (slotBase s + 0x34) + 0 := rfl
@[simp] theorem w_SLP_LAT_STAT_BAL (s : Nat) : Fld.w (SLP.LAT_STAT.BAL s) = 16 := rfl
@[simp] theorem key_SLP_SLOT_CNT_COMMITS (s : Nat) : Fld.key (SLP.SLOT_CNT.COMMITS s) = 32 * (slotBase s + 0x38) + 16 := rfl
@[simp] theorem w_SLP_SLOT_CNT_COMMITS (s : Nat) : Fld.w (SLP.SLOT_CNT.COMMITS s) = 16 := rfl
@[simp] theorem key_SLP_SLOT_CNT_INVALID (s : Nat) : Fld.key (SLP.SLOT_CNT.INVALID s) = 32 * (slotBase s + 0x38) + 0 := rfl
@[simp] theorem w_SLP_SLOT_CNT_INVALID (s : Nat) : Fld.w (SLP.SLOT_CNT.INVALID s) = 16 := rfl
@[simp] theorem key_FWD_RATE_SUM_PART (n : Nat) : Fld.key (FWD.RATE_SUM.PART n) = 32 * (0x18040 + 0x1000 * n) + 16 := rfl
@[simp] theorem w_FWD_RATE_SUM_PART (n : Nat) : Fld.w (FWD.RATE_SUM.PART n) = 12 := rfl
@[simp] theorem key_FWD_RATE_SUM_GROUP (n : Nat) : Fld.key (FWD.RATE_SUM.GROUP n) = 32 * (0x18040 + 0x1000 * n) + 0 := rfl
@[simp] theorem w_FWD_RATE_SUM_GROUP (n : Nat) : Fld.w (FWD.RATE_SUM.GROUP n) = 9 := rfl
@[simp] theorem key_FWD_FIR_SEL_SLOT (n : Nat) : Fld.key (FWD.FIR_SEL.SLOT n) = 32 * (0x18044 + 0x1000 * n) + 16 := rfl
@[simp] theorem w_FWD_FIR_SEL_SLOT (n : Nat) : Fld.w (FWD.FIR_SEL.SLOT n) = 6 := rfl
@[simp] theorem key_FWD_FIR_SEL_TAP (n : Nat) : Fld.key (FWD.FIR_SEL.TAP n) = 32 * (0x18044 + 0x1000 * n) + 0 := rfl
@[simp] theorem w_FWD_FIR_SEL_TAP (n : Nat) : Fld.w (FWD.FIR_SEL.TAP n) = 8 := rfl
@[simp] theorem key_FWD_FIR_DATA_I (n : Nat) : Fld.key (FWD.FIR_DATA.I n) = 32 * (0x18048 + 0x1000 * n) + 16 := rfl
@[simp] theorem w_FWD_FIR_DATA_I (n : Nat) : Fld.w (FWD.FIR_DATA.I n) = 16 := rfl
@[simp] theorem key_FWD_FIR_DATA_Q (n : Nat) : Fld.key (FWD.FIR_DATA.Q n) = 32 * (0x18048 + 0x1000 * n) + 0 := rfl
@[simp] theorem w_FWD_FIR_DATA_Q (n : Nat) : Fld.w (FWD.FIR_DATA.Q n) = 16 := rfl
@[simp] theorem key_FWD_NOTE_SLOT_SLOT (n : Nat) : Fld.key (FWD.NOTE_SLOT.SLOT n) = 32 * (0x1804c + 0x1000 * n) + 0 := rfl
@[simp] theorem w_FWD_NOTE_SLOT_SLOT (n : Nat) : Fld.w (FWD.NOTE_SLOT.SLOT n) = 9 := rfl
@[simp] theorem key_FWD_TX_SAT_COUNT (n : Nat) (j : Nat) : Fld.key (FWD.TX_SAT.COUNT n j) = 32 * (0x18050 + 0x1000 * n + 4 * j) + 0 := rfl
@[simp] theorem w_FWD_TX_SAT_COUNT (n : Nat) (j : Nat) : Fld.w (FWD.TX_SAT.COUNT n j) = 16 := rfl
@[simp] theorem key_LNK_LANE_CTL_EN (j : Nat) : Fld.key (LNK.LANE_CTL.EN j) = 32 * (0x2b100 + 0x20 * j) + 31 := rfl
@[simp] theorem w_LNK_LANE_CTL_EN (j : Nat) : Fld.w (LNK.LANE_CTL.EN j) = 1 := rfl
@[simp] theorem key_LNK_LANE_CTL_RX_EN (j : Nat) : Fld.key (LNK.LANE_CTL.RX_EN j) = 32 * (0x2b100 + 0x20 * j) + 30 := rfl
@[simp] theorem w_LNK_LANE_CTL_RX_EN (j : Nat) : Fld.w (LNK.LANE_CTL.RX_EN j) = 1 := rfl
@[simp] theorem key_LNK_LANE_CTL_ETYPE (j : Nat) : Fld.key (LNK.LANE_CTL.ETYPE j) = 32 * (0x2b100 + 0x20 * j) + 0 := rfl
@[simp] theorem w_LNK_LANE_CTL_ETYPE (j : Nat) : Fld.w (LNK.LANE_CTL.ETYPE j) = 16 := rfl
@[simp] theorem key_LNK_LANE_STAT_UP (j : Nat) : Fld.key (LNK.LANE_STAT.UP j) = 32 * (0x2b104 + 0x20 * j) + 31 := rfl
@[simp] theorem w_LNK_LANE_STAT_UP (j : Nat) : Fld.w (LNK.LANE_STAT.UP j) = 1 := rfl
@[simp] theorem key_LNK_LANE_STAT_LFAULT (j : Nat) : Fld.key (LNK.LANE_STAT.LFAULT j) = 32 * (0x2b104 + 0x20 * j) + 30 := rfl
@[simp] theorem w_LNK_LANE_STAT_LFAULT (j : Nat) : Fld.w (LNK.LANE_STAT.LFAULT j) = 1 := rfl
@[simp] theorem key_LNK_LANE_STAT_RFAULT (j : Nat) : Fld.key (LNK.LANE_STAT.RFAULT j) = 32 * (0x2b104 + 0x20 * j) + 29 := rfl
@[simp] theorem w_LNK_LANE_STAT_RFAULT (j : Nat) : Fld.w (LNK.LANE_STAT.RFAULT j) = 1 := rfl
@[simp] theorem key_LNK_LANE_STAT_LOAD (j : Nat) : Fld.key (LNK.LANE_STAT.LOAD j) = 32 * (0x2b104 + 0x20 * j) + 0 := rfl
@[simp] theorem w_LNK_LANE_STAT_LOAD (j : Nat) : Fld.w (LNK.LANE_STAT.LOAD j) = 9 := rfl
@[simp] theorem key_LNK_DST_LO_ADDR (j : Nat) : Fld.key (LNK.DST_LO.ADDR j) = 32 * (0x2b108 + 0x20 * j) + 0 := rfl
@[simp] theorem w_LNK_DST_LO_ADDR (j : Nat) : Fld.w (LNK.DST_LO.ADDR j) = 32 := rfl
@[simp] theorem key_LNK_DST_HI_ADDR (j : Nat) : Fld.key (LNK.DST_HI.ADDR j) = 32 * (0x2b10c + 0x20 * j) + 0 := rfl
@[simp] theorem w_LNK_DST_HI_ADDR (j : Nat) : Fld.w (LNK.DST_HI.ADDR j) = 16 := rfl
@[simp] theorem key_LNK_SRC_LO_ADDR (j : Nat) : Fld.key (LNK.SRC_LO.ADDR j) = 32 * (0x2b110 + 0x20 * j) + 0 := rfl
@[simp] theorem w_LNK_SRC_LO_ADDR (j : Nat) : Fld.w (LNK.SRC_LO.ADDR j) = 32 := rfl
@[simp] theorem key_LNK_SRC_HI_ADDR (j : Nat) : Fld.key (LNK.SRC_HI.ADDR j) = 32 * (0x2b114 + 0x20 * j) + 0 := rfl
@[simp] theorem w_LNK_SRC_HI_ADDR (j : Nat) : Fld.w (LNK.SRC_HI.ADDR j) = 16 := rfl
@[simp] theorem key_LNK_TX_CNT_DISCARDED (j : Nat) : Fld.key (LNK.TX_CNT.DISCARDED j) = 32 * (0x2b118 + 0x20 * j) + 16 := rfl
@[simp] theorem w_LNK_TX_CNT_DISCARDED (j : Nat) : Fld.w (LNK.TX_CNT.DISCARDED j) = 16 := rfl
@[simp] theorem key_LNK_TX_CNT_SENT (j : Nat) : Fld.key (LNK.TX_CNT.SENT j) = 32 * (0x2b118 + 0x20 * j) + 0 := rfl
@[simp] theorem w_LNK_TX_CNT_SENT (j : Nat) : Fld.w (LNK.TX_CNT.SENT j) = 16 := rfl
@[simp] theorem key_LNK_RX_CNT_LATE (j : Nat) : Fld.key (LNK.RX_CNT.LATE j) = 32 * (0x2b11c + 0x20 * j) + 16 := rfl
@[simp] theorem w_LNK_RX_CNT_LATE (j : Nat) : Fld.w (LNK.RX_CNT.LATE j) = 16 := rfl
@[simp] theorem key_LNK_RX_CNT_BAD (j : Nat) : Fld.key (LNK.RX_CNT.BAD j) = 32 * (0x2b11c + 0x20 * j) + 0 := rfl
@[simp] theorem w_LNK_RX_CNT_BAD (j : Nat) : Fld.w (LNK.RX_CNT.BAD j) = 16 := rfl
@[simp] theorem key_LNK_PTP_CTL_SET : Fld.key LNK.PTP_CTL.SET = 32 * (0x2b040) + 31 := rfl
@[simp] theorem w_LNK_PTP_CTL_SET : Fld.w LNK.PTP_CTL.SET = 1 := rfl
@[simp] theorem key_LNK_PTP_CTL_VALID : Fld.key LNK.PTP_CTL.VALID = 32 * (0x2b040) + 30 := rfl
@[simp] theorem w_LNK_PTP_CTL_VALID : Fld.w LNK.PTP_CTL.VALID = 1 := rfl
@[simp] theorem key_LNK_PTP_CTL_LPEND : Fld.key LNK.PTP_CTL.LPEND = 32 * (0x2b040) + 29 := rfl
@[simp] theorem w_LNK_PTP_CTL_LPEND : Fld.w LNK.PTP_CTL.LPEND = 1 := rfl
@[simp] theorem key_LNK_PTP_CTL_BEAT : Fld.key LNK.PTP_CTL.BEAT = 32 * (0x2b040) + 3 := rfl
@[simp] theorem w_LNK_PTP_CTL_BEAT : Fld.w LNK.PTP_CTL.BEAT = 1 := rfl
@[simp] theorem key_LNK_PTP_CTL_STEP : Fld.key LNK.PTP_CTL.STEP = 32 * (0x2b040) + 2 := rfl
@[simp] theorem w_LNK_PTP_CTL_STEP : Fld.w LNK.PTP_CTL.STEP = 1 := rfl
@[simp] theorem key_LNK_PTP_CTL_LOAD_PPS : Fld.key LNK.PTP_CTL.LOAD_PPS = 32 * (0x2b040) + 1 := rfl
@[simp] theorem w_LNK_PTP_CTL_LOAD_PPS : Fld.w LNK.PTP_CTL.LOAD_PPS = 1 := rfl
@[simp] theorem key_LNK_PTP_CTL_LOAD_NOW : Fld.key LNK.PTP_CTL.LOAD_NOW = 32 * (0x2b040) + 0 := rfl
@[simp] theorem w_LNK_PTP_CTL_LOAD_NOW : Fld.w LNK.PTP_CTL.LOAD_NOW = 1 := rfl
@[simp] theorem key_LNK_PTP_LD_SEC_HI_SEC : Fld.key LNK.PTP_LD_SEC_HI.SEC = 32 * (0x2b044) + 0 := rfl
@[simp] theorem w_LNK_PTP_LD_SEC_HI_SEC : Fld.w LNK.PTP_LD_SEC_HI.SEC = 16 := rfl
@[simp] theorem key_LNK_PTP_LD_SEC_LO_SEC : Fld.key LNK.PTP_LD_SEC_LO.SEC = 32 * (0x2b048) + 0 := rfl
@[simp] theorem w_LNK_PTP_LD_SEC_LO_SEC : Fld.w LNK.PTP_LD_SEC_LO.SEC = 32 := rfl
@[simp] theorem key_LNK_PTP_LD_NS_NS : Fld.key LNK.PTP_LD_NS.NS = 32 * (0x2b04c) + 0 := rfl
@[simp] theorem w_LNK_PTP_LD_NS_NS : Fld.w LNK.PTP_LD_NS.NS = 30 := rfl
@[simp] theorem key_LNK_PTP_STEP_NS : Fld.key LNK.PTP_STEP.NS = 32 * (0x2b050) + 0 := rfl
@[simp] theorem w_LNK_PTP_STEP_NS : Fld.w LNK.PTP_STEP.NS = 32 := rfl
@[simp] theorem key_LNK_PTP_RATE_ADJ : Fld.key LNK.PTP_RATE.ADJ = 32 * (0x2b054) + 0 := rfl
@[simp] theorem w_LNK_PTP_RATE_ADJ : Fld.w LNK.PTP_RATE.ADJ = 32 := rfl
@[simp] theorem key_LNK_TIME_SEC_HI_SEC : Fld.key LNK.TIME_SEC_HI.SEC = 32 * (0x2b058) + 0 := rfl
@[simp] theorem w_LNK_TIME_SEC_HI_SEC : Fld.w LNK.TIME_SEC_HI.SEC = 16 := rfl
@[simp] theorem key_LNK_TIME_SEC_LO_SEC : Fld.key LNK.TIME_SEC_LO.SEC = 32 * (0x2b05c) + 0 := rfl
@[simp] theorem w_LNK_TIME_SEC_LO_SEC : Fld.w LNK.TIME_SEC_LO.SEC = 32 := rfl
@[simp] theorem key_LNK_TIME_NS_NS : Fld.key LNK.TIME_NS.NS = 32 * (0x2b060) + 0 := rfl
@[simp] theorem w_LNK_TIME_NS_NS : Fld.w LNK.TIME_NS.NS = 30 := rfl
@[simp] theorem key_LNK_PPS_SEC_HI_SEC : Fld.key LNK.PPS_SEC_HI.SEC = 32 * (0x2b064) + 0 := rfl
@[simp] theorem w_LNK_PPS_SEC_HI_SEC : Fld.w LNK.PPS_SEC_HI.SEC = 16 := rfl
@[simp] theorem key_LNK_PPS_SEC_LO_SEC : Fld.key LNK.PPS_SEC_LO.SEC = 32 * (0x2b068) + 0 := rfl
@[simp] theorem w_LNK_PPS_SEC_LO_SEC : Fld.w LNK.PPS_SEC_LO.SEC = 32 := rfl
@[simp] theorem key_LNK_PPS_NS_NS : Fld.key LNK.PPS_NS.NS = 32 * (0x2b06c) + 0 := rfl
@[simp] theorem w_LNK_PPS_NS_NS : Fld.w LNK.PPS_NS.NS = 30 := rfl
@[simp] theorem key_LNK_RXQ_STAT_VALID : Fld.key LNK.RXQ_STAT.VALID = 32 * (0x2b070) + 31 := rfl
@[simp] theorem w_LNK_RXQ_STAT_VALID : Fld.w LNK.RXQ_STAT.VALID = 1 := rfl
@[simp] theorem key_LNK_RXQ_STAT_LANE : Fld.key LNK.RXQ_STAT.LANE = 32 * (0x2b070) + 27 := rfl
@[simp] theorem w_LNK_RXQ_STAT_LANE : Fld.w LNK.RXQ_STAT.LANE = 4 := rfl
@[simp] theorem key_LNK_RXQ_STAT_DROP : Fld.key LNK.RXQ_STAT.DROP = 32 * (0x2b070) + 16 := rfl
@[simp] theorem w_LNK_RXQ_STAT_DROP : Fld.w LNK.RXQ_STAT.DROP = 8 := rfl
@[simp] theorem key_LNK_RXQ_STAT_LEVEL : Fld.key LNK.RXQ_STAT.LEVEL = 32 * (0x2b070) + 8 := rfl
@[simp] theorem w_LNK_RXQ_STAT_LEVEL : Fld.w LNK.RXQ_STAT.LEVEL = 5 := rfl
@[simp] theorem key_LNK_RXQ_STAT_LEN : Fld.key LNK.RXQ_STAT.LEN = 32 * (0x2b070) + 0 := rfl
@[simp] theorem w_LNK_RXQ_STAT_LEN : Fld.w LNK.RXQ_STAT.LEN = 8 := rfl
@[simp] theorem key_LNK_RXQ_TS_SEC_HI_SEC : Fld.key LNK.RXQ_TS_SEC_HI.SEC = 32 * (0x2b074) + 0 := rfl
@[simp] theorem w_LNK_RXQ_TS_SEC_HI_SEC : Fld.w LNK.RXQ_TS_SEC_HI.SEC = 16 := rfl
@[simp] theorem key_LNK_RXQ_TS_SEC_LO_SEC : Fld.key LNK.RXQ_TS_SEC_LO.SEC = 32 * (0x2b078) + 0 := rfl
@[simp] theorem w_LNK_RXQ_TS_SEC_LO_SEC : Fld.w LNK.RXQ_TS_SEC_LO.SEC = 32 := rfl
@[simp] theorem key_LNK_RXQ_TS_NS_NS : Fld.key LNK.RXQ_TS_NS.NS = 32 * (0x2b07c) + 0 := rfl
@[simp] theorem w_LNK_RXQ_TS_NS_NS : Fld.w LNK.RXQ_TS_NS.NS = 30 := rfl
@[simp] theorem key_LNK_RXQ_DATA_DATA : Fld.key LNK.RXQ_DATA.DATA = 32 * (0x2b080) + 0 := rfl
@[simp] theorem w_LNK_RXQ_DATA_DATA : Fld.w LNK.RXQ_DATA.DATA = 32 := rfl
@[simp] theorem key_LNK_RXQ_POP_POP : Fld.key LNK.RXQ_POP.POP = 32 * (0x2b084) + 0 := rfl
@[simp] theorem w_LNK_RXQ_POP_POP : Fld.w LNK.RXQ_POP.POP = 1 := rfl
@[simp] theorem key_LNK_TXQ_CTL_BUSY : Fld.key LNK.TXQ_CTL.BUSY = 32 * (0x2b088) + 31 := rfl
@[simp] theorem w_LNK_TXQ_CTL_BUSY : Fld.w LNK.TXQ_CTL.BUSY = 1 := rfl
@[simp] theorem key_LNK_TXQ_CTL_LANE : Fld.key LNK.TXQ_CTL.LANE = 32 * (0x2b088) + 16 := rfl
@[simp] theorem w_LNK_TXQ_CTL_LANE : Fld.w LNK.TXQ_CTL.LANE = 4 := rfl
@[simp] theorem key_LNK_TXQ_CTL_GO : Fld.key LNK.TXQ_CTL.GO = 32 * (0x2b088) + 8 := rfl
@[simp] theorem w_LNK_TXQ_CTL_GO : Fld.w LNK.TXQ_CTL.GO = 1 := rfl
@[simp] theorem key_LNK_TXQ_CTL_LEN : Fld.key LNK.TXQ_CTL.LEN = 32 * (0x2b088) + 0 := rfl
@[simp] theorem w_LNK_TXQ_CTL_LEN : Fld.w LNK.TXQ_CTL.LEN = 8 := rfl
@[simp] theorem key_LNK_TXQ_DATA_DATA : Fld.key LNK.TXQ_DATA.DATA = 32 * (0x2b08c) + 0 := rfl
@[simp] theorem w_LNK_TXQ_DATA_DATA : Fld.w LNK.TXQ_DATA.DATA = 32 := rfl
@[simp] theorem key_LNK_TXQ_TS_SEC_HI_SEC : Fld.key LNK.TXQ_TS_SEC_HI.SEC = 32 * (0x2b090) + 0 := rfl
@[simp] theorem w_LNK_TXQ_TS_SEC_HI_SEC : Fld.w LNK.TXQ_TS_SEC_HI.SEC = 16 := rfl
@[simp] theorem key_LNK_TXQ_TS_SEC_LO_SEC : Fld.key LNK.TXQ_TS_SEC_LO.SEC = 32 * (0x2b094) + 0 := rfl
@[simp] theorem w_LNK_TXQ_TS_SEC_LO_SEC : Fld.w LNK.TXQ_TS_SEC_LO.SEC = 32 := rfl
@[simp] theorem key_LNK_TXQ_TS_NS_NS : Fld.key LNK.TXQ_TS_NS.NS = 32 * (0x2b098) + 0 := rfl
@[simp] theorem w_LNK_TXQ_TS_NS_NS : Fld.w LNK.TXQ_TS_NS.NS = 30 := rfl
@[simp] theorem key_SLP_CAN_REACH_INDEX0 (s : Nat) : Fld.key (SLP.CAN_REACH.INDEX0 s) = 32 * (slotBase s + 0x2c) + 0 := rfl
@[simp] theorem w_SLP_CAN_REACH_INDEX0 (s : Nat) : Fld.w (SLP.CAN_REACH.INDEX0 s) = 5 := rfl
@[simp] theorem key_SLP_CAN_REACH_OBS0 (s : Nat) : Fld.key (SLP.CAN_REACH.OBS0 s) = 32 * (slotBase s + 0x2c) + 5 := rfl
@[simp] theorem w_SLP_CAN_REACH_OBS0 (s : Nat) : Fld.w (SLP.CAN_REACH.OBS0 s) = 1 := rfl
@[simp] theorem key_SLP_CAN_REACH_KIND0 (s : Nat) : Fld.key (SLP.CAN_REACH.KIND0 s) = 32 * (slotBase s + 0x2c) + 6 := rfl
@[simp] theorem w_SLP_CAN_REACH_KIND0 (s : Nat) : Fld.w (SLP.CAN_REACH.KIND0 s) = 2 := rfl
@[simp] theorem key_SLP_CAN_REACH_INDEX1 (s : Nat) : Fld.key (SLP.CAN_REACH.INDEX1 s) = 32 * (slotBase s + 0x2c) + 8 := rfl
@[simp] theorem w_SLP_CAN_REACH_INDEX1 (s : Nat) : Fld.w (SLP.CAN_REACH.INDEX1 s) = 5 := rfl
@[simp] theorem key_SLP_CAN_REACH_OBS1 (s : Nat) : Fld.key (SLP.CAN_REACH.OBS1 s) = 32 * (slotBase s + 0x2c) + 13 := rfl
@[simp] theorem w_SLP_CAN_REACH_OBS1 (s : Nat) : Fld.w (SLP.CAN_REACH.OBS1 s) = 1 := rfl
@[simp] theorem key_SLP_CAN_REACH_KIND1 (s : Nat) : Fld.key (SLP.CAN_REACH.KIND1 s) = 32 * (slotBase s + 0x2c) + 14 := rfl
@[simp] theorem w_SLP_CAN_REACH_KIND1 (s : Nat) : Fld.w (SLP.CAN_REACH.KIND1 s) = 2 := rfl
@[simp] theorem key_SLP_CAN_REACH_INDEX2 (s : Nat) : Fld.key (SLP.CAN_REACH.INDEX2 s) = 32 * (slotBase s + 0x2c) + 16 := rfl
@[simp] theorem w_SLP_CAN_REACH_INDEX2 (s : Nat) : Fld.w (SLP.CAN_REACH.INDEX2 s) = 5 := rfl
@[simp] theorem key_SLP_CAN_REACH_OBS2 (s : Nat) : Fld.key (SLP.CAN_REACH.OBS2 s) = 32 * (slotBase s + 0x2c) + 21 := rfl
@[simp] theorem w_SLP_CAN_REACH_OBS2 (s : Nat) : Fld.w (SLP.CAN_REACH.OBS2 s) = 1 := rfl
@[simp] theorem key_SLP_CAN_REACH_KIND2 (s : Nat) : Fld.key (SLP.CAN_REACH.KIND2 s) = 32 * (slotBase s + 0x2c) + 22 := rfl
@[simp] theorem w_SLP_CAN_REACH_KIND2 (s : Nat) : Fld.w (SLP.CAN_REACH.KIND2 s) = 2 := rfl
@[simp] theorem key_SLP_CAN_REACH_INDEX3 (s : Nat) : Fld.key (SLP.CAN_REACH.INDEX3 s) = 32 * (slotBase s + 0x2c) + 24 := rfl
@[simp] theorem w_SLP_CAN_REACH_INDEX3 (s : Nat) : Fld.w (SLP.CAN_REACH.INDEX3 s) = 5 := rfl
@[simp] theorem key_SLP_CAN_REACH_OBS3 (s : Nat) : Fld.key (SLP.CAN_REACH.OBS3 s) = 32 * (slotBase s + 0x2c) + 29 := rfl
@[simp] theorem w_SLP_CAN_REACH_OBS3 (s : Nat) : Fld.w (SLP.CAN_REACH.OBS3 s) = 1 := rfl
@[simp] theorem key_SLP_CAN_REACH_KIND3 (s : Nat) : Fld.key (SLP.CAN_REACH.KIND3 s) = 32 * (slotBase s + 0x2c) + 30 := rfl
@[simp] theorem w_SLP_CAN_REACH_KIND3 (s : Nat) : Fld.w (SLP.CAN_REACH.KIND3 s) = 2 := rfl
@[simp] theorem key_SLP_CAN_CFG_MODE (s : Nat) : Fld.key (SLP.CAN_CFG.MODE s) = 32 * (slotBase s + 0x28) + 30 := rfl
@[simp] theorem w_SLP_CAN_CFG_MODE (s : Nat) : Fld.w (SLP.CAN_CFG.MODE s) = 2 := rfl
@[simp] theorem key_SLP_CAN_CFG_ALT (s : Nat) : Fld.key (SLP.CAN_CFG.ALT s) = 32 * (slotBase s + 0x28) + 29 := rfl
@[simp] theorem w_SLP_CAN_CFG_ALT (s : Nat) : Fld.w (SLP.CAN_CFG.ALT s) = 1 := rfl
@[simp] theorem key_SLP_CAN_CFG_WARM (s : Nat) : Fld.key (SLP.CAN_CFG.WARM s) = 32 * (slotBase s + 0x28) + 28 := rfl
@[simp] theorem w_SLP_CAN_CFG_WARM (s : Nat) : Fld.w (SLP.CAN_CFG.WARM s) = 1 := rfl
@[simp] theorem key_SLP_CAN_CFG_EXT3 (s : Nat) : Fld.key (SLP.CAN_CFG.EXT3 s) = 32 * (slotBase s + 0x28) + 21 := rfl
@[simp] theorem w_SLP_CAN_CFG_EXT3 (s : Nat) : Fld.w (SLP.CAN_CFG.EXT3 s) = 7 := rfl
@[simp] theorem key_SLP_CAN_CFG_EXT2 (s : Nat) : Fld.key (SLP.CAN_CFG.EXT2 s) = 32 * (slotBase s + 0x28) + 14 := rfl
@[simp] theorem w_SLP_CAN_CFG_EXT2 (s : Nat) : Fld.w (SLP.CAN_CFG.EXT2 s) = 7 := rfl
@[simp] theorem key_SLP_CAN_CFG_EXT1 (s : Nat) : Fld.key (SLP.CAN_CFG.EXT1 s) = 32 * (slotBase s + 0x28) + 7 := rfl
@[simp] theorem w_SLP_CAN_CFG_EXT1 (s : Nat) : Fld.w (SLP.CAN_CFG.EXT1 s) = 7 := rfl
@[simp] theorem key_SLP_CAN_CFG_EXT0 (s : Nat) : Fld.key (SLP.CAN_CFG.EXT0 s) = 32 * (slotBase s + 0x28) + 0 := rfl
@[simp] theorem w_SLP_CAN_CFG_EXT0 (s : Nat) : Fld.w (SLP.CAN_CFG.EXT0 s) = 7 := rfl
@[simp] theorem key_CAN_BUDGET_THERM : Fld.key CAN.BUDGET.THERM = 32 * (0x20040) + 31 := rfl
@[simp] theorem w_CAN_BUDGET_THERM : Fld.w CAN.BUDGET.THERM = 1 := rfl
@[simp] theorem key_CAN_BUDGET_CAP : Fld.key CAN.BUDGET.CAP = 32 * (0x20040) + 16 := rfl
@[simp] theorem w_CAN_BUDGET_CAP : Fld.w CAN.BUDGET.CAP = 14 := rfl
@[simp] theorem key_CAN_BUDGET_USED : Fld.key CAN.BUDGET.USED = 32 * (0x20040) + 0 := rfl
@[simp] theorem w_CAN_BUDGET_USED : Fld.w CAN.BUDGET.USED = 14 := rfl
@[simp] theorem key_CAN_POOL_FREE : Fld.key CAN.POOL.FREE = 32 * (0x20044) + 16 := rfl
@[simp] theorem w_CAN_POOL_FREE : Fld.w CAN.POOL.FREE = 16 := rfl
@[simp] theorem key_CAN_POOL_PARKED : Fld.key CAN.POOL.PARKED = 32 * (0x20044) + 0 := rfl
@[simp] theorem w_CAN_POOL_PARKED : Fld.w CAN.POOL.PARKED = 16 := rfl
@[simp] theorem key_CAN_RESIZE_PENDING : Fld.key CAN.RESIZE.PENDING = 32 * (0x20048) + 31 := rfl
@[simp] theorem w_CAN_RESIZE_PENDING : Fld.w CAN.RESIZE.PENDING = 1 := rfl
@[simp] theorem key_CAN_RESIZE_RESULT : Fld.key CAN.RESIZE.RESULT = 32 * (0x20048) + 24 := rfl
@[simp] theorem w_CAN_RESIZE_RESULT : Fld.w CAN.RESIZE.RESULT = 4 := rfl
@[simp] theorem key_CAN_RESIZE_SLOT : Fld.key CAN.RESIZE.SLOT = 32 * (0x20048) + 0 := rfl
@[simp] theorem w_CAN_RESIZE_SLOT : Fld.w CAN.RESIZE.SLOT = 9 := rfl
@[simp] theorem key_CAN_CADENCE_U0 : Fld.key CAN.CADENCE.U0 = 32 * (0x2004c) + 24 := rfl
@[simp] theorem w_CAN_CADENCE_U0 : Fld.w CAN.CADENCE.U0 = 8 := rfl
@[simp] theorem key_CAN_CADENCE_U1 : Fld.key CAN.CADENCE.U1 = 32 * (0x2004c) + 16 := rfl
@[simp] theorem w_CAN_CADENCE_U1 : Fld.w CAN.CADENCE.U1 = 8 := rfl
@[simp] theorem key_CAN_CADENCE_U2 : Fld.key CAN.CADENCE.U2 = 32 * (0x2004c) + 8 := rfl
@[simp] theorem w_CAN_CADENCE_U2 : Fld.w CAN.CADENCE.U2 = 8 := rfl
@[simp] theorem key_CAN_CADENCE_U3 : Fld.key CAN.CADENCE.U3 = 32 * (0x2004c) + 0 := rfl
@[simp] theorem w_CAN_CADENCE_U3 : Fld.w CAN.CADENCE.U3 = 8 := rfl
@[simp] theorem key_CAN_ADAPT_CFG_COV_WIN : Fld.key CAN.ADAPT_CFG.COV_WIN = 32 * (0x20050) + 24 := rfl
@[simp] theorem w_CAN_ADAPT_CFG_COV_WIN : Fld.w CAN.ADAPT_CFG.COV_WIN = 4 := rfl
@[simp] theorem key_CAN_ADAPT_CFG_LEAK : Fld.key CAN.ADAPT_CFG.LEAK = 32 * (0x20050) + 16 := rfl
@[simp] theorem w_CAN_ADAPT_CFG_LEAK : Fld.w CAN.ADAPT_CFG.LEAK = 8 := rfl
@[simp] theorem key_CAN_ADAPT_CFG_MU : Fld.key CAN.ADAPT_CFG.MU = 32 * (0x20050) + 8 := rfl
@[simp] theorem w_CAN_ADAPT_CFG_MU : Fld.w CAN.ADAPT_CFG.MU = 8 := rfl
@[simp] theorem key_CAN_ADAPT_CFG_DIV_DB : Fld.key CAN.ADAPT_CFG.DIV_DB = 32 * (0x20050) + 0 := rfl
@[simp] theorem w_CAN_ADAPT_CFG_DIV_DB : Fld.w CAN.ADAPT_CFG.DIV_DB = 4 := rfl
@[simp] theorem key_CAN_STEAL_CFG_RETRY : Fld.key CAN.STEAL_CFG.RETRY = 32 * (0x20054) + 8 := rfl
@[simp] theorem w_CAN_STEAL_CFG_RETRY : Fld.w CAN.STEAL_CFG.RETRY = 8 := rfl
@[simp] theorem key_CAN_STEAL_CFG_RING_EN : Fld.key CAN.STEAL_CFG.RING_EN = 32 * (0x20054) + 1 := rfl
@[simp] theorem w_CAN_STEAL_CFG_RING_EN : Fld.w CAN.STEAL_CFG.RING_EN = 1 := rfl
@[simp] theorem key_CAN_STEAL_CFG_URGENT_PEEK : Fld.key CAN.STEAL_CFG.URGENT_PEEK = 32 * (0x20054) + 0 := rfl
@[simp] theorem w_CAN_STEAL_CFG_URGENT_PEEK : Fld.w CAN.STEAL_CFG.URGENT_PEEK = 1 := rfl
@[simp] theorem key_CAN_JOB_CNT_0_STALE : Fld.key CAN.JOB_CNT_0.STALE = 32 * (0x20058) + 16 := rfl
@[simp] theorem w_CAN_JOB_CNT_0_STALE : Fld.w CAN.JOB_CNT_0.STALE = 16 := rfl
@[simp] theorem key_CAN_JOB_CNT_0_DISCARDED : Fld.key CAN.JOB_CNT_0.DISCARDED = 32 * (0x20058) + 0 := rfl
@[simp] theorem w_CAN_JOB_CNT_0_DISCARDED : Fld.w CAN.JOB_CNT_0.DISCARDED = 16 := rfl
@[simp] theorem key_CAN_JOB_CNT_1_TIMEOUT : Fld.key CAN.JOB_CNT_1.TIMEOUT = 32 * (0x2005c) + 16 := rfl
@[simp] theorem w_CAN_JOB_CNT_1_TIMEOUT : Fld.w CAN.JOB_CNT_1.TIMEOUT = 16 := rfl
@[simp] theorem key_CAN_JOB_CNT_1_FULL : Fld.key CAN.JOB_CNT_1.FULL = 32 * (0x2005c) + 0 := rfl
@[simp] theorem w_CAN_JOB_CNT_1_FULL : Fld.w CAN.JOB_CNT_1.FULL = 16 := rfl
@[simp] theorem key_CAN_JOB_CNT_2_SKIPPED : Fld.key CAN.JOB_CNT_2.SKIPPED = 32 * (0x20084) + 16 := rfl
@[simp] theorem w_CAN_JOB_CNT_2_SKIPPED : Fld.w CAN.JOB_CNT_2.SKIPPED = 16 := rfl
@[simp] theorem key_CAN_JOB_CNT_2_REJECTED : Fld.key CAN.JOB_CNT_2.REJECTED = 32 * (0x20084) + 0 := rfl
@[simp] theorem w_CAN_JOB_CNT_2_REJECTED : Fld.w CAN.JOB_CNT_2.REJECTED = 16 := rfl
@[simp] theorem key_CAN_XT_SEL_SLOT : Fld.key CAN.XT_SEL.SLOT = 32 * (0x20060) + 16 := rfl
@[simp] theorem w_CAN_XT_SEL_SLOT : Fld.w CAN.XT_SEL.SLOT = 9 := rfl
@[simp] theorem key_CAN_XT_SEL_INDEX : Fld.key CAN.XT_SEL.INDEX = 32 * (0x20060) + 0 := rfl
@[simp] theorem w_CAN_XT_SEL_INDEX : Fld.w CAN.XT_SEL.INDEX = 7 := rfl
@[simp] theorem key_CAN_XT_DATA_VALID : Fld.key CAN.XT_DATA.VALID = 32 * (0x20064) + 31 := rfl
@[simp] theorem w_CAN_XT_DATA_VALID : Fld.w CAN.XT_DATA.VALID = 1 := rfl
@[simp] theorem key_CAN_XT_DATA_ALT : Fld.key CAN.XT_DATA.ALT = 32 * (0x20064) + 30 := rfl
@[simp] theorem w_CAN_XT_DATA_ALT : Fld.w CAN.XT_DATA.ALT = 1 := rfl
@[simp] theorem key_CAN_XT_DATA_AGG : Fld.key CAN.XT_DATA.AGG = 32 * (0x20064) + 28 := rfl
@[simp] theorem w_CAN_XT_DATA_AGG : Fld.w CAN.XT_DATA.AGG = 2 := rfl
@[simp] theorem key_CAN_XT_DATA_PART : Fld.key CAN.XT_DATA.PART = 32 * (0x20064) + 22 := rfl
@[simp] theorem w_CAN_XT_DATA_PART : Fld.w CAN.XT_DATA.PART = 6 := rfl
@[simp] theorem key_CAN_XT_DATA_SHIFT : Fld.key CAN.XT_DATA.SHIFT = 32 * (0x20064) + 18 := rfl
@[simp] theorem w_CAN_XT_DATA_SHIFT : Fld.w CAN.XT_DATA.SHIFT = 4 := rfl
@[simp] theorem key_CAN_XT_DATA_PARK : Fld.key CAN.XT_DATA.PARK = 32 * (0x20064) + 15 := rfl
@[simp] theorem w_CAN_XT_DATA_PARK : Fld.w CAN.XT_DATA.PARK = 1 := rfl
@[simp] theorem key_CAN_XT_DATA_EXTENT : Fld.key CAN.XT_DATA.EXTENT = 32 * (0x20064) + 0 := rfl
@[simp] theorem w_CAN_XT_DATA_EXTENT : Fld.w CAN.XT_DATA.EXTENT = 15 := rfl
@[simp] theorem key_CAN_SLOT_INFO_WARM (s : Nat) : Fld.key (CAN.SLOT_INFO.WARM s) = 32 * (0x120000 + 0x80 * s + 8) + 31 := rfl
@[simp] theorem w_CAN_SLOT_INFO_WARM (s : Nat) : Fld.w (CAN.SLOT_INFO.WARM s) = 1 := rfl
@[simp] theorem key_CAN_SLOT_INFO_WARM_PEND (s : Nat) : Fld.key (CAN.SLOT_INFO.WARM_PEND s) = 32 * (0x120000 + 0x80 * s + 8) + 30 := rfl
@[simp] theorem w_CAN_SLOT_INFO_WARM_PEND (s : Nat) : Fld.w (CAN.SLOT_INFO.WARM_PEND s) = 1 := rfl
@[simp] theorem key_CAN_SLOT_INFO_DIVERGED (s : Nat) : Fld.key (CAN.SLOT_INFO.DIVERGED s) = 32 * (0x120000 + 0x80 * s + 8) + 29 := rfl
@[simp] theorem w_CAN_SLOT_INFO_DIVERGED (s : Nat) : Fld.w (CAN.SLOT_INFO.DIVERGED s) = 1 := rfl
@[simp] theorem key_CAN_SLOT_INFO_ALT_ACTIVE (s : Nat) : Fld.key (CAN.SLOT_INFO.ALT_ACTIVE s) = 32 * (0x120000 + 0x80 * s + 8) + 28 := rfl
@[simp] theorem w_CAN_SLOT_INFO_ALT_ACTIVE (s : Nat) : Fld.w (CAN.SLOT_INFO.ALT_ACTIVE s) = 1 := rfl
@[simp] theorem key_CAN_SLOT_INFO_DEPTH (s : Nat) : Fld.key (CAN.SLOT_INFO.DEPTH s) = 32 * (0x120000 + 0x80 * s + 8) + 12 := rfl
@[simp] theorem w_CAN_SLOT_INFO_DEPTH (s : Nat) : Fld.w (CAN.SLOT_INFO.DEPTH s) = 8 := rfl
@[simp] theorem key_CAN_POOL_ADDR_BANK : Fld.key CAN.POOL_ADDR.BANK = 32 * (0x20070) + 31 := rfl
@[simp] theorem w_CAN_POOL_ADDR_BANK : Fld.w CAN.POOL_ADDR.BANK = 1 := rfl
@[simp] theorem key_CAN_POOL_ADDR_ENTRY : Fld.key CAN.POOL_ADDR.ENTRY = 32 * (0x20070) + 0 := rfl
@[simp] theorem w_CAN_POOL_ADDR_ENTRY : Fld.w CAN.POOL_ADDR.ENTRY = 21 := rfl
@[simp] theorem key_CAN_POOL_DATA_I : Fld.key CAN.POOL_DATA.I = 32 * (0x20074) + 16 := rfl
@[simp] theorem w_CAN_POOL_DATA_I : Fld.w CAN.POOL_DATA.I = 16 := rfl
@[simp] theorem key_CAN_POOL_DATA_Q : Fld.key CAN.POOL_DATA.Q = 32 * (0x20074) + 0 := rfl
@[simp] theorem w_CAN_POOL_DATA_Q : Fld.w CAN.POOL_DATA.Q = 16 := rfl
@[simp] theorem key_CAN_SNAP_CTL_AUTO : Fld.key CAN.SNAP_CTL.AUTO = 32 * (0x2007c) + 8 := rfl
@[simp] theorem w_CAN_SNAP_CTL_AUTO : Fld.w CAN.SNAP_CTL.AUTO = 8 := rfl
@[simp] theorem key_CAN_SNAP_CTL_SAVE : Fld.key CAN.SNAP_CTL.SAVE = 32 * (0x2007c) + 0 := rfl
@[simp] theorem w_CAN_SNAP_CTL_SAVE : Fld.w CAN.SNAP_CTL.SAVE = 1 := rfl
@[simp] theorem key_CAN_SNAP_STAT_BUSY : Fld.key CAN.SNAP_STAT.BUSY = 32 * (0x20080) + 31 := rfl
@[simp] theorem w_CAN_SNAP_STAT_BUSY : Fld.w CAN.SNAP_STAT.BUSY = 1 := rfl
@[simp] theorem key_CAN_SNAP_STAT_VALID : Fld.key CAN.SNAP_STAT.VALID = 32 * (0x20080) + 30 := rfl
@[simp] theorem w_CAN_SNAP_STAT_VALID : Fld.w CAN.SNAP_STAT.VALID = 1 := rfl
@[simp] theorem key_CAN_SNAP_STAT_RESULT : Fld.key CAN.SNAP_STAT.RESULT = 32 * (0x20080) + 28 := rfl
@[simp] theorem w_CAN_SNAP_STAT_RESULT : Fld.w CAN.SNAP_STAT.RESULT = 2 := rfl
@[simp] theorem key_CAN_SNAP_STAT_SLOTS : Fld.key CAN.SNAP_STAT.SLOTS = 32 * (0x20080) + 16 := rfl
@[simp] theorem w_CAN_SNAP_STAT_SLOTS : Fld.w CAN.SNAP_STAT.SLOTS = 10 := rfl
@[simp] theorem key_CAN_SNAP_STAT_AGE : Fld.key CAN.SNAP_STAT.AGE = 32 * (0x20080) + 0 := rfl
@[simp] theorem w_CAN_SNAP_STAT_AGE : Fld.w CAN.SNAP_STAT.AGE = 16 := rfl
@[simp] theorem key_CAN_POOL_ERR_RETIRED : Fld.key CAN.POOL_ERR.RETIRED = 32 * (0x20088) + 8 := rfl
@[simp] theorem w_CAN_POOL_ERR_RETIRED : Fld.w CAN.POOL_ERR.RETIRED = 8 := rfl
@[simp] theorem key_CAN_POOL_ERR_CE_CNT : Fld.key CAN.POOL_ERR.CE_CNT = 32 * (0x20088) + 0 := rfl
@[simp] theorem w_CAN_POOL_ERR_CE_CNT : Fld.w CAN.POOL_ERR.CE_CNT = 8 := rfl
@[simp] theorem key_CAN_EXT_REF_EN (j : Nat) : Fld.key (CAN.EXT_REF.EN j) = 32 * (0x200c0 + 4 * j) + 31 := rfl
@[simp] theorem w_CAN_EXT_REF_EN (j : Nat) : Fld.w (CAN.EXT_REF.EN j) = 1 := rfl
@[simp] theorem key_CAN_EXT_REF_LIVE (j : Nat) : Fld.key (CAN.EXT_REF.LIVE j) = 32 * (0x200c0 + 4 * j) + 30 := rfl
@[simp] theorem w_CAN_EXT_REF_LIVE (j : Nat) : Fld.w (CAN.EXT_REF.LIVE j) = 1 := rfl
@[simp] theorem key_CAN_EXT_REF_LANE (j : Nat) : Fld.key (CAN.EXT_REF.LANE j) = 32 * (0x200c0 + 4 * j) + 24 := rfl
@[simp] theorem w_CAN_EXT_REF_LANE (j : Nat) : Fld.w (CAN.EXT_REF.LANE j) = 4 := rfl
@[simp] theorem key_CAN_EXT_REF_SLOT (j : Nat) : Fld.key (CAN.EXT_REF.SLOT j) = 32 * (0x200c0 + 4 * j) + 0 := rfl
@[simp] theorem w_CAN_EXT_REF_SLOT (j : Nat) : Fld.w (CAN.EXT_REF.SLOT j) = 9 := rfl
@[simp] theorem key_YCL_ENG_STAT_STATE (k : Nat) : Fld.key (YCL.ENG_STAT.STATE k) = 32 * (0x30040 + 0x1000 * k) + 30 := rfl
@[simp] theorem w_YCL_ENG_STAT_STATE (k : Nat) : Fld.w (YCL.ENG_STAT.STATE k) = 2 := rfl
@[simp] theorem key_YCL_ENG_STAT_BUSY (k : Nat) : Fld.key (YCL.ENG_STAT.BUSY k) = 32 * (0x30040 + 0x1000 * k) + 0 := rfl
@[simp] theorem w_YCL_ENG_STAT_BUSY (k : Nat) : Fld.w (YCL.ENG_STAT.BUSY k) = 16 := rfl
@[simp] theorem key_YCL_STEAL_CNT_RING (k : Nat) : Fld.key (YCL.STEAL_CNT.RING k) = 32 * (0x30044 + 0x1000 * k) + 16 := rfl
@[simp] theorem w_YCL_STEAL_CNT_RING (k : Nat) : Fld.w (YCL.STEAL_CNT.RING k) = 16 := rfl
@[simp] theorem key_YCL_STEAL_CNT_LOCAL (k : Nat) : Fld.key (YCL.STEAL_CNT.LOCAL k) = 32 * (0x30044 + 0x1000 * k) + 0 := rfl
@[simp] theorem w_YCL_STEAL_CNT_LOCAL (k : Nat) : Fld.w (YCL.STEAL_CNT.LOCAL k) = 16 := rfl
@[simp] theorem key_YCL_JOB_DONE_COUNT (k : Nat) : Fld.key (YCL.JOB_DONE.COUNT k) = 32 * (0x30048 + 0x1000 * k) + 0 := rfl
@[simp] theorem w_YCL_JOB_DONE_COUNT (k : Nat) : Fld.w (YCL.JOB_DONE.COUNT k) = 32 := rfl
@[simp] theorem key_YCL_DESC_SEL_ENG (k : Nat) : Fld.key (YCL.DESC_SEL.ENG k) = 32 * (0x3004c + 0x1000 * k) + 10 := rfl
@[simp] theorem w_YCL_DESC_SEL_ENG (k : Nat) : Fld.w (YCL.DESC_SEL.ENG k) = 4 := rfl
@[simp] theorem key_YCL_DESC_SEL_ENTRY (k : Nat) : Fld.key (YCL.DESC_SEL.ENTRY k) = 32 * (0x3004c + 0x1000 * k) + 4 := rfl
@[simp] theorem w_YCL_DESC_SEL_ENTRY (k : Nat) : Fld.w (YCL.DESC_SEL.ENTRY k) = 6 := rfl
@[simp] theorem key_YCL_DESC_SEL_WORD (k : Nat) : Fld.key (YCL.DESC_SEL.WORD k) = 32 * (0x3004c + 0x1000 * k) + 0 := rfl
@[simp] theorem w_YCL_DESC_SEL_WORD (k : Nat) : Fld.w (YCL.DESC_SEL.WORD k) = 4 := rfl
@[simp] theorem key_YCL_DESC_DATA_DATA (k : Nat) : Fld.key (YCL.DESC_DATA.DATA k) = 32 * (0x30050 + 0x1000 * k) + 0 := rfl
@[simp] theorem w_YCL_DESC_DATA_DATA (k : Nat) : Fld.w (YCL.DESC_DATA.DATA k) = 32 := rfl
@[simp] theorem key_YCL_DEQ_BACKGROUND (k : Nat) (j : Nat) : Fld.key (YCL.DEQ.BACKGROUND k j) = 32 * (0x30080 + 0x1000 * k + 4 * j) + 24 := rfl
@[simp] theorem w_YCL_DEQ_BACKGROUND (k : Nat) (j : Nat) : Fld.w (YCL.DEQ.BACKGROUND k j) = 7 := rfl
@[simp] theorem key_YCL_DEQ_ROUTINE (k : Nat) (j : Nat) : Fld.key (YCL.DEQ.ROUTINE k j) = 32 * (0x30080 + 0x1000 * k + 4 * j) + 16 := rfl
@[simp] theorem w_YCL_DEQ_ROUTINE (k : Nat) (j : Nat) : Fld.w (YCL.DEQ.ROUTINE k j) = 7 := rfl
@[simp] theorem key_YCL_DEQ_URGENT (k : Nat) (j : Nat) : Fld.key (YCL.DEQ.URGENT k j) = 32 * (0x30080 + 0x1000 * k + 4 * j) + 8 := rfl
@[simp] theorem w_YCL_DEQ_URGENT (k : Nat) (j : Nat) : Fld.w (YCL.DEQ.URGENT k j) = 7 := rfl
@[simp] theorem key_YCL_DEQ_DEPTH (k : Nat) (j : Nat) : Fld.key (YCL.DEQ.DEPTH k j) = 32 * (0x30080 + 0x1000 * k + 4 * j) + 0 := rfl
@[simp] theorem w_YCL_DEQ_DEPTH (k : Nat) (j : Nat) : Fld.w (YCL.DEQ.DEPTH k j) = 7 := rfl
@[simp] theorem key_OBS_BIN_SEL_SLOT : Fld.key OBS.BIN_SEL.SLOT = 32 * (0x21040) + 16 := rfl
@[simp] theorem w_OBS_BIN_SEL_SLOT : Fld.w OBS.BIN_SEL.SLOT = 9 := rfl
@[simp] theorem key_OBS_BIN_SEL_BIN : Fld.key OBS.BIN_SEL.BIN = 32 * (0x21040) + 0 := rfl
@[simp] theorem w_OBS_BIN_SEL_BIN : Fld.w OBS.BIN_SEL.BIN = 9 := rfl
@[simp] theorem key_OBS_BIN_DATA0_LG : Fld.key OBS.BIN_DATA0.LG = 32 * (0x21044) + 16 := rfl
@[simp] theorem w_OBS_BIN_DATA0_LG : Fld.w OBS.BIN_DATA0.LG = 16 := rfl
@[simp] theorem key_OBS_BIN_DATA0_IEFF : Fld.key OBS.BIN_DATA0.IEFF = 32 * (0x21044) + 0 := rfl
@[simp] theorem w_OBS_BIN_DATA0_IEFF : Fld.w OBS.BIN_DATA0.IEFF = 16 := rfl
@[simp] theorem key_OBS_BIN_DATA1_IPHYS : Fld.key OBS.BIN_DATA1.IPHYS = 32 * (0x21048) + 16 := rfl
@[simp] theorem w_OBS_BIN_DATA1_IPHYS : Fld.w OBS.BIN_DATA1.IPHYS = 16 := rfl
@[simp] theorem key_OBS_BIN_DATA1_COH : Fld.key OBS.BIN_DATA1.COH = 32 * (0x21048) + 8 := rfl
@[simp] theorem w_OBS_BIN_DATA1_COH : Fld.w OBS.BIN_DATA1.COH = 8 := rfl
@[simp] theorem key_OBS_BIN_DATA1_VALID : Fld.key OBS.BIN_DATA1.VALID = 32 * (0x21048) + 7 := rfl
@[simp] theorem w_OBS_BIN_DATA1_VALID : Fld.w OBS.BIN_DATA1.VALID = 1 := rfl
@[simp] theorem key_OBS_BIN_DATA1_NOTCHED : Fld.key OBS.BIN_DATA1.NOTCHED = 32 * (0x21048) + 6 := rfl
@[simp] theorem w_OBS_BIN_DATA1_NOTCHED : Fld.w OBS.BIN_DATA1.NOTCHED = 1 := rfl
@[simp] theorem key_OBS_BIN_DATA1_STEP : Fld.key OBS.BIN_DATA1.STEP = 32 * (0x21048) + 4 := rfl
@[simp] theorem w_OBS_BIN_DATA1_STEP : Fld.w OBS.BIN_DATA1.STEP = 2 := rfl
@[simp] theorem key_OBS_EST_CFG_AVG : Fld.key OBS.EST_CFG.AVG = 32 * (0x2104c) + 0 := rfl
@[simp] theorem w_OBS_EST_CFG_AVG : Fld.w OBS.EST_CFG.AVG = 4 := rfl
@[simp] theorem key_OBS_SUM0_WORST_LG (s : Nat) : Fld.key (OBS.SUM0.WORST_LG s) = 32 * (0x120000 + 0x80 * s + 0xc) + 16 := rfl
@[simp] theorem w_OBS_SUM0_WORST_LG (s : Nat) : Fld.w (OBS.SUM0.WORST_LG s) = 16 := rfl
@[simp] theorem key_OBS_SUM0_WORST_BIN (s : Nat) : Fld.key (OBS.SUM0.WORST_BIN s) = 32 * (0x120000 + 0x80 * s + 0xc) + 0 := rfl
@[simp] theorem w_OBS_SUM0_WORST_BIN (s : Nat) : Fld.w (OBS.SUM0.WORST_BIN s) = 9 := rfl
@[simp] theorem key_OBS_SUM1_IPHYS_MIN (s : Nat) : Fld.key (OBS.SUM1.IPHYS_MIN s) = 32 * (0x120000 + 0x80 * s + 0x10) + 16 := rfl
@[simp] theorem w_OBS_SUM1_IPHYS_MIN (s : Nat) : Fld.w (OBS.SUM1.IPHYS_MIN s) = 16 := rfl
@[simp] theorem key_OBS_SUM1_HIST (s : Nat) : Fld.key (OBS.SUM1.HIST s) = 32 * (0x120000 + 0x80 * s + 0x10) + 15 := rfl
@[simp] theorem w_OBS_SUM1_HIST (s : Nat) : Fld.w (OBS.SUM1.HIST s) = 1 := rfl
@[simp] theorem key_OBS_SUM1_VALID_BINS (s : Nat) : Fld.key (OBS.SUM1.VALID_BINS s) = 32 * (0x120000 + 0x80 * s + 0x10) + 0 := rfl
@[simp] theorem w_OBS_SUM1_VALID_BINS (s : Nat) : Fld.w (OBS.SUM1.VALID_BINS s) = 10 := rfl
@[simp] theorem key_GOV_MARGIN_M : Fld.key GOV.MARGIN.M = 32 * (0x23040) + 0 := rfl
@[simp] theorem w_GOV_MARGIN_M : Fld.w GOV.MARGIN.M = 8 := rfl
@[simp] theorem key_GOV_CLAMP_CFG_HOLD : Fld.key GOV.CLAMP_CFG.HOLD = 32 * (0x23044) + 8 := rfl
@[simp] theorem w_GOV_CLAMP_CFG_HOLD : Fld.w GOV.CLAMP_CFG.HOLD = 8 := rfl
@[simp] theorem key_GOV_COLD_CFG_ISO_ASSUME : Fld.key GOV.COLD_CFG.ISO_ASSUME = 32 * (0x23048) + 0 := rfl
@[simp] theorem w_GOV_COLD_CFG_ISO_ASSUME : Fld.w GOV.COLD_CFG.ISO_ASSUME = 8 := rfl
@[simp] theorem key_GOV_RECOVER_MS : Fld.key GOV.RECOVER.MS = 32 * (0x2304c) + 0 := rfl
@[simp] theorem w_GOV_RECOVER_MS : Fld.w GOV.RECOVER.MS = 16 := rfl
@[simp] theorem key_GOV_SUB_SEL_SLOT : Fld.key GOV.SUB_SEL.SLOT = 32 * (0x23050) + 16 := rfl
@[simp] theorem w_GOV_SUB_SEL_SLOT : Fld.w GOV.SUB_SEL.SLOT = 9 := rfl
@[simp] theorem key_GOV_SUB_SEL_BIN : Fld.key GOV.SUB_SEL.BIN = 32 * (0x23050) + 0 := rfl
@[simp] theorem w_GOV_SUB_SEL_BIN : Fld.w GOV.SUB_SEL.BIN = 9 := rfl
@[simp] theorem key_GOV_SUB_DATA_OWNER : Fld.key GOV.SUB_DATA.OWNER = 32 * (0x23054) + 16 := rfl
@[simp] theorem w_GOV_SUB_DATA_OWNER : Fld.w GOV.SUB_DATA.OWNER = 12 := rfl
@[simp] theorem key_GOV_SUB_DATA_CUT : Fld.key GOV.SUB_DATA.CUT = 32 * (0x23054) + 0 := rfl
@[simp] theorem w_GOV_SUB_DATA_CUT : Fld.w GOV.SUB_DATA.CUT = 12 := rfl
@[simp] theorem key_GOV_SLOT_GOV_COLD (s : Nat) : Fld.key (GOV.SLOT_GOV.COLD s) = 32 * (0x120000 + 0x80 * s) + 31 := rfl
@[simp] theorem w_GOV_SLOT_GOV_COLD (s : Nat) : Fld.w (GOV.SLOT_GOV.COLD s) = 1 := rfl
@[simp] theorem key_GOV_SLOT_GOV_WARMR (s : Nat) : Fld.key (GOV.SLOT_GOV.WARMR s) = 32 * (0x120000 + 0x80 * s) + 30 := rfl
@[simp] theorem w_GOV_SLOT_GOV_WARMR (s : Nat) : Fld.w (GOV.SLOT_GOV.WARMR s) = 1 := rfl
@[simp] theorem key_GOV_SLOT_GOV_URG (s : Nat) : Fld.key (GOV.SLOT_GOV.URG s) = 32 * (0x120000 + 0x80 * s) + 28 := rfl
@[simp] theorem w_GOV_SLOT_GOV_URG (s : Nat) : Fld.w (GOV.SLOT_GOV.URG s) = 2 := rfl
@[simp] theorem key_GOV_SLOT_GOV_NOTCHES (s : Nat) : Fld.key (GOV.SLOT_GOV.NOTCHES s) = 32 * (0x120000 + 0x80 * s) + 24 := rfl
@[simp] theorem w_GOV_SLOT_GOV_NOTCHES (s : Nat) : Fld.w (GOV.SLOT_GOV.NOTCHES s) = 4 := rfl
@[simp] theorem key_GOV_SLOT_GOV_BROAD (s : Nat) : Fld.key (GOV.SLOT_GOV.BROAD s) = 32 * (0x120000 + 0x80 * s) + 23 := rfl
@[simp] theorem w_GOV_SLOT_GOV_BROAD (s : Nat) : Fld.w (GOV.SLOT_GOV.BROAD s) = 1 := rfl
@[simp] theorem key_GOV_SLOT_GOV_CAP (s : Nat) : Fld.key (GOV.SLOT_GOV.CAP s) = 32 * (0x120000 + 0x80 * s) + 0 := rfl
@[simp] theorem w_GOV_SLOT_GOV_CAP (s : Nat) : Fld.w (GOV.SLOT_GOV.CAP s) = 12 := rfl
@[simp] theorem key_GOV_CLAMP_CNT_BROAD : Fld.key GOV.CLAMP_CNT.BROAD = 32 * (0x2305c) + 16 := rfl
@[simp] theorem w_GOV_CLAMP_CNT_BROAD : Fld.w GOV.CLAMP_CNT.BROAD = 16 := rfl
@[simp] theorem key_GOV_CLAMP_CNT_NOTCH : Fld.key GOV.CLAMP_CNT.NOTCH = 32 * (0x2305c) + 0 := rfl
@[simp] theorem w_GOV_CLAMP_CNT_NOTCH : Fld.w GOV.CLAMP_CNT.NOTCH = 16 := rfl
@[simp] theorem key_SLP_GOV_CFG_URG_MIN (s : Nat) : Fld.key (SLP.GOV_CFG.URG_MIN s) = 32 * (slotBase s + 0x30) + 28 := rfl
@[simp] theorem w_SLP_GOV_CFG_URG_MIN (s : Nat) : Fld.w (SLP.GOV_CFG.URG_MIN s) = 2 := rfl
@[simp] theorem key_SLP_GOV_CFG_MARGIN_ADD (s : Nat) : Fld.key (SLP.GOV_CFG.MARGIN_ADD s) = 32 * (slotBase s + 0x30) + 16 := rfl
@[simp] theorem w_SLP_GOV_CFG_MARGIN_ADD (s : Nat) : Fld.w (SLP.GOV_CFG.MARGIN_ADD s) = 8 := rfl
@[simp] theorem key_SLP_GOV_CFG_EXT_EN (s : Nat) : Fld.key (SLP.GOV_CFG.EXT_EN s) = 32 * (slotBase s + 0x30) + 0 := rfl
@[simp] theorem w_SLP_GOV_CFG_EXT_EN (s : Nat) : Fld.w (SLP.GOV_CFG.EXT_EN s) = 1 := rfl
@[simp] theorem key_CLV_TIMING_PEND : Fld.key CLV.TIMING.PEND = 32 * (0x22040) + 31 := rfl
@[simp] theorem w_CLV_TIMING_PEND : Fld.w CLV.TIMING.PEND = 1 := rfl
@[simp] theorem key_CLV_TIMING_NOW : Fld.key CLV.TIMING.NOW = 32 * (0x22040) + 8 := rfl
@[simp] theorem w_CLV_TIMING_NOW : Fld.w CLV.TIMING.NOW = 1 := rfl
@[simp] theorem key_CLV_TIMING_MODE : Fld.key CLV.TIMING.MODE = 32 * (0x22040) + 0 := rfl
@[simp] theorem w_CLV_TIMING_MODE : Fld.w CLV.TIMING.MODE = 1 := rfl
@[simp] theorem key_CLV_PERIOD_COUNT : Fld.key CLV.PERIOD.COUNT = 32 * (0x22044) + 0 := rfl
@[simp] theorem w_CLV_PERIOD_COUNT : Fld.w CLV.PERIOD.COUNT = 32 := rfl
@[simp] theorem key_CLV_LOOP_SEL_LOOP : Fld.key CLV.LOOP_SEL.LOOP = 32 * (0x22048) + 0 := rfl
@[simp] theorem w_CLV_LOOP_SEL_LOOP : Fld.w CLV.LOOP_SEL.LOOP = 10 := rfl
@[simp] theorem key_CLV_LOOP_CTL_DEADLINE (l : Nat) : Fld.key (CLV.LOOP_CTL.DEADLINE l) = 32 * (0x100000 + 0x40 * l) + 16 := rfl
@[simp] theorem w_CLV_LOOP_CTL_DEADLINE (l : Nat) : Fld.w (CLV.LOOP_CTL.DEADLINE l) = 8 := rfl
@[simp] theorem key_CLV_LOOP_CTL_MAT_COMMIT (l : Nat) : Fld.key (CLV.LOOP_CTL.MAT_COMMIT l) = 32 * (0x100000 + 0x40 * l) + 8 := rfl
@[simp] theorem w_CLV_LOOP_CTL_MAT_COMMIT (l : Nat) : Fld.w (CLV.LOOP_CTL.MAT_COMMIT l) = 1 := rfl
@[simp] theorem key_CLV_LOOP_CTL_MODE (l : Nat) : Fld.key (CLV.LOOP_CTL.MODE l) = 32 * (0x100000 + 0x40 * l) + 0 := rfl
@[simp] theorem w_CLV_LOOP_CTL_MODE (l : Nat) : Fld.w (CLV.LOOP_CTL.MODE l) = 1 := rfl
@[simp] theorem key_CLV_LOOP_STAT_MAT_PEND (l : Nat) : Fld.key (CLV.LOOP_STAT.MAT_PEND l) = 32 * (0x100000 + 0x40 * l + 4) + 16 := rfl
@[simp] theorem w_CLV_LOOP_STAT_MAT_PEND (l : Nat) : Fld.w (CLV.LOOP_STAT.MAT_PEND l) = 1 := rfl
@[simp] theorem key_CLV_LOOP_STAT_TREF (l : Nat) : Fld.key (CLV.LOOP_STAT.TREF l) = 32 * (0x100000 + 0x40 * l + 4) + 8 := rfl
@[simp] theorem w_CLV_LOOP_STAT_TREF (l : Nat) : Fld.w (CLV.LOOP_STAT.TREF l) = 3 := rfl
@[simp] theorem key_CLV_LOOP_STAT_CREF (l : Nat) : Fld.key (CLV.LOOP_STAT.CREF l) = 32 * (0x100000 + 0x40 * l + 4) + 5 := rfl
@[simp] theorem w_CLV_LOOP_STAT_CREF (l : Nat) : Fld.w (CLV.LOOP_STAT.CREF l) = 1 := rfl
@[simp] theorem key_CLV_LOOP_STAT_MISS (l : Nat) : Fld.key (CLV.LOOP_STAT.MISS l) = 32 * (0x100000 + 0x40 * l + 4) + 4 := rfl
@[simp] theorem w_CLV_LOOP_STAT_MISS (l : Nat) : Fld.w (CLV.LOOP_STAT.MISS l) = 1 := rfl
@[simp] theorem key_CLV_LOOP_STAT_HELD (l : Nat) : Fld.key (CLV.LOOP_STAT.HELD l) = 32 * (0x100000 + 0x40 * l + 4) + 3 := rfl
@[simp] theorem w_CLV_LOOP_STAT_HELD (l : Nat) : Fld.w (CLV.LOOP_STAT.HELD l) = 1 := rfl
@[simp] theorem key_CLV_LOOP_STAT_SAT (l : Nat) : Fld.key (CLV.LOOP_STAT.SAT l) = 32 * (0x100000 + 0x40 * l + 4) + 2 := rfl
@[simp] theorem w_CLV_LOOP_STAT_SAT (l : Nat) : Fld.w (CLV.LOOP_STAT.SAT l) = 1 := rfl
@[simp] theorem key_CLV_LOOP_STAT_OBSV (l : Nat) : Fld.key (CLV.LOOP_STAT.OBSV l) = 32 * (0x100000 + 0x40 * l + 4) + 1 := rfl
@[simp] theorem w_CLV_LOOP_STAT_OBSV (l : Nat) : Fld.w (CLV.LOOP_STAT.OBSV l) = 1 := rfl
@[simp] theorem key_CLV_LOOP_STAT_MODE_NOW (l : Nat) : Fld.key (CLV.LOOP_STAT.MODE_NOW l) = 32 * (0x100000 + 0x40 * l + 4) + 0 := rfl
@[simp] theorem w_CLV_LOOP_STAT_MODE_NOW (l : Nat) : Fld.w (CLV.LOOP_STAT.MODE_NOW l) = 1 := rfl
@[simp] theorem key_CLV_LOOP_MAN0_VALUE (l : Nat) : Fld.key (CLV.LOOP_MAN0.VALUE l) = 32 * (0x100000 + 0x40 * l + 8) + 0 := rfl
@[simp] theorem w_CLV_LOOP_MAN0_VALUE (l : Nat) : Fld.w (CLV.LOOP_MAN0.VALUE l) = 32 := rfl
@[simp] theorem key_CLV_LOOP_MAN1_VALUE (l : Nat) : Fld.key (CLV.LOOP_MAN1.VALUE l) = 32 * (0x100000 + 0x40 * l + 0xc) + 0 := rfl
@[simp] theorem w_CLV_LOOP_MAN1_VALUE (l : Nat) : Fld.w (CLV.LOOP_MAN1.VALUE l) = 32 := rfl
@[simp] theorem key_CLV_LOOP_OUT0_VALUE (l : Nat) : Fld.key (CLV.LOOP_OUT0.VALUE l) = 32 * (0x100000 + 0x40 * l + 0x10) + 0 := rfl
@[simp] theorem w_CLV_LOOP_OUT0_VALUE (l : Nat) : Fld.w (CLV.LOOP_OUT0.VALUE l) = 32 := rfl
@[simp] theorem key_CLV_LOOP_OUT1_VALUE (l : Nat) : Fld.key (CLV.LOOP_OUT1.VALUE l) = 32 * (0x100000 + 0x40 * l + 0x14) + 0 := rfl
@[simp] theorem w_CLV_LOOP_OUT1_VALUE (l : Nat) : Fld.w (CLV.LOOP_OUT1.VALUE l) = 32 := rfl
@[simp] theorem key_CLV_LOOP_REF0_VALUE (l : Nat) : Fld.key (CLV.LOOP_REF0.VALUE l) = 32 * (0x100000 + 0x40 * l + 0x18) + 0 := rfl
@[simp] theorem w_CLV_LOOP_REF0_VALUE (l : Nat) : Fld.w (CLV.LOOP_REF0.VALUE l) = 32 := rfl
@[simp] theorem key_CLV_LOOP_REF1_VALUE (l : Nat) : Fld.key (CLV.LOOP_REF1.VALUE l) = 32 * (0x100000 + 0x40 * l + 0x1c) + 0 := rfl
@[simp] theorem w_CLV_LOOP_REF1_VALUE (l : Nat) : Fld.w (CLV.LOOP_REF1.VALUE l) = 32 := rfl
@[simp] theorem key_CLV_MAT_ADDR_BANK : Fld.key CLV.MAT_ADDR.BANK = 32 * (0x2206c) + 31 := rfl
@[simp] theorem w_CLV_MAT_ADDR_BANK : Fld.w CLV.MAT_ADDR.BANK = 1 := rfl
@[simp] theorem key_CLV_MAT_ADDR_WORD : Fld.key CLV.MAT_ADDR.WORD = 32 * (0x2206c) + 0 := rfl
@[simp] theorem w_CLV_MAT_ADDR_WORD : Fld.w CLV.MAT_ADDR.WORD = 8 := rfl
@[simp] theorem key_CLV_MAT_DATA_VALUE : Fld.key CLV.MAT_DATA.VALUE = 32 * (0x22070) + 0 := rfl
@[simp] theorem w_CLV_MAT_DATA_VALUE : Fld.w CLV.MAT_DATA.VALUE = 32 := rfl
@[simp] theorem key_CLV_MISS_MISS (j : Nat) : Fld.key (CLV.MISS.MISS j) = 32 * (0x22080 + 4 * j) + 0 := rfl
@[simp] theorem w_CLV_MISS_MISS (j : Nat) : Fld.w (CLV.MISS.MISS j) = 32 := rfl
@[simp] theorem key_CAP_INJ_CTL_ACTIVE : Fld.key CAP.INJ_CTL.ACTIVE = 32 * (0x24040) + 31 := rfl
@[simp] theorem w_CAP_INJ_CTL_ACTIVE : Fld.w CAP.INJ_CTL.ACTIVE = 1 := rfl
@[simp] theorem key_CAP_INJ_CTL_LOOP : Fld.key CAP.INJ_CTL.LOOP = 32 * (0x24040) + 16 := rfl
@[simp] theorem w_CAP_INJ_CTL_LOOP : Fld.w CAP.INJ_CTL.LOOP = 10 := rfl
@[simp] theorem key_CAP_INJ_CTL_POINT : Fld.key CAP.INJ_CTL.POINT = 32 * (0x24040) + 12 := rfl
@[simp] theorem w_CAP_INJ_CTL_POINT : Fld.w CAP.INJ_CTL.POINT = 2 := rfl
@[simp] theorem key_CAP_INJ_CTL_WAVE : Fld.key CAP.INJ_CTL.WAVE = 32 * (0x24040) + 8 := rfl
@[simp] theorem w_CAP_INJ_CTL_WAVE : Fld.w CAP.INJ_CTL.WAVE = 3 := rfl
@[simp] theorem key_CAP_INJ_CTL_EN : Fld.key CAP.INJ_CTL.EN = 32 * (0x24040) + 0 := rfl
@[simp] theorem w_CAP_INJ_CTL_EN : Fld.w CAP.INJ_CTL.EN = 1 := rfl
@[simp] theorem key_CAP_INJ_AMP_AMP : Fld.key CAP.INJ_AMP.AMP = 32 * (0x24044) + 0 := rfl
@[simp] theorem w_CAP_INJ_AMP_AMP : Fld.w CAP.INJ_AMP.AMP = 11 := rfl
@[simp] theorem key_CAP_INJ_TIME_LEN : Fld.key CAP.INJ_TIME.LEN = 32 * (0x24048) + 16 := rfl
@[simp] theorem w_CAP_INJ_TIME_LEN : Fld.w CAP.INJ_TIME.LEN = 16 := rfl
@[simp] theorem key_CAP_INJ_TIME_CHIP : Fld.key CAP.INJ_TIME.CHIP = 32 * (0x24048) + 0 := rfl
@[simp] theorem w_CAP_INJ_TIME_CHIP : Fld.w CAP.INJ_TIME.CHIP = 8 := rfl
@[simp] theorem key_CAP_INJ_FREQ_F1 : Fld.key CAP.INJ_FREQ.F1 = 32 * (0x2404c) + 16 := rfl
@[simp] theorem w_CAP_INJ_FREQ_F1 : Fld.w CAP.INJ_FREQ.F1 = 16 := rfl
@[simp] theorem key_CAP_INJ_FREQ_F0 : Fld.key CAP.INJ_FREQ.F0 = 32 * (0x2404c) + 0 := rfl
@[simp] theorem w_CAP_INJ_FREQ_F0 : Fld.w CAP.INJ_FREQ.F0 = 16 := rfl
@[simp] theorem key_CAP_LCAP_CTL_DONE : Fld.key CAP.LCAP_CTL.DONE = 32 * (0x24050) + 31 := rfl
@[simp] theorem w_CAP_LCAP_CTL_DONE : Fld.w CAP.LCAP_CTL.DONE = 1 := rfl
@[simp] theorem key_CAP_LCAP_CTL_ARMED : Fld.key CAP.LCAP_CTL.ARMED = 32 * (0x24050) + 30 := rfl
@[simp] theorem w_CAP_LCAP_CTL_ARMED : Fld.w CAP.LCAP_CTL.ARMED = 1 := rfl
@[simp] theorem key_CAP_LCAP_CTL_NSIG : Fld.key CAP.LCAP_CTL.NSIG = 32 * (0x24050) + 28 := rfl
@[simp] theorem w_CAP_LCAP_CTL_NSIG : Fld.w CAP.LCAP_CTL.NSIG = 2 := rfl
@[simp] theorem key_CAP_LCAP_CTL_TRIG : Fld.key CAP.LCAP_CTL.TRIG = 32 * (0x24050) + 24 := rfl
@[simp] theorem w_CAP_LCAP_CTL_TRIG : Fld.w CAP.LCAP_CTL.TRIG = 4 := rfl
@[simp] theorem key_CAP_LCAP_CTL_PRE : Fld.key CAP.LCAP_CTL.PRE = 32 * (0x24050) + 10 := rfl
@[simp] theorem w_CAP_LCAP_CTL_PRE : Fld.w CAP.LCAP_CTL.PRE = 14 := rfl
@[simp] theorem key_CAP_LCAP_CTL_ARM : Fld.key CAP.LCAP_CTL.ARM = 32 * (0x24050) + 0 := rfl
@[simp] theorem w_CAP_LCAP_CTL_ARM : Fld.w CAP.LCAP_CTL.ARM = 1 := rfl
@[simp] theorem key_CAP_LCAP_LOOP_LOOP : Fld.key CAP.LCAP_LOOP.LOOP = 32 * (0x24054) + 0 := rfl
@[simp] theorem w_CAP_LCAP_LOOP_LOOP : Fld.w CAP.LCAP_LOOP.LOOP = 10 := rfl
@[simp] theorem key_CAP_LCAP_SIG_SIG0 : Fld.key CAP.LCAP_SIG.SIG0 = 32 * (0x24058) + 0 := rfl
@[simp] theorem w_CAP_LCAP_SIG_SIG0 : Fld.w CAP.LCAP_SIG.SIG0 = 5 := rfl
@[simp] theorem key_CAP_LCAP_SIG_SIG1 : Fld.key CAP.LCAP_SIG.SIG1 = 32 * (0x24058) + 8 := rfl
@[simp] theorem w_CAP_LCAP_SIG_SIG1 : Fld.w CAP.LCAP_SIG.SIG1 = 5 := rfl
@[simp] theorem key_CAP_LCAP_SIG_SIG2 : Fld.key CAP.LCAP_SIG.SIG2 = 32 * (0x24058) + 16 := rfl
@[simp] theorem w_CAP_LCAP_SIG_SIG2 : Fld.w CAP.LCAP_SIG.SIG2 = 5 := rfl
@[simp] theorem key_CAP_LCAP_SIG_SIG3 : Fld.key CAP.LCAP_SIG.SIG3 = 32 * (0x24058) + 24 := rfl
@[simp] theorem w_CAP_LCAP_SIG_SIG3 : Fld.w CAP.LCAP_SIG.SIG3 = 5 := rfl
@[simp] theorem key_CAP_LCAP_ADDR_WORD : Fld.key CAP.LCAP_ADDR.WORD = 32 * (0x2405c) + 0 := rfl
@[simp] theorem w_CAP_LCAP_ADDR_WORD : Fld.w CAP.LCAP_ADDR.WORD = 14 := rfl
@[simp] theorem key_CAP_LCAP_DATA_VALUE : Fld.key CAP.LCAP_DATA.VALUE = 32 * (0x24060) + 0 := rfl
@[simp] theorem w_CAP_LCAP_DATA_VALUE : Fld.w CAP.LCAP_DATA.VALUE = 32 := rfl
@[simp] theorem key_CAP_LCAP_STAT_PERIOD : Fld.key CAP.LCAP_STAT.PERIOD = 32 * (0x24064) + 0 := rfl
@[simp] theorem w_CAP_LCAP_STAT_PERIOD : Fld.w CAP.LCAP_STAT.PERIOD = 32 := rfl
@[simp] theorem key_CAP_IQ_CTL_DONE : Fld.key CAP.IQ_CTL.DONE = 32 * (0x24070) + 31 := rfl
@[simp] theorem w_CAP_IQ_CTL_DONE : Fld.w CAP.IQ_CTL.DONE = 1 := rfl
@[simp] theorem key_CAP_IQ_CTL_ARMED : Fld.key CAP.IQ_CTL.ARMED = 32 * (0x24070) + 30 := rfl
@[simp] theorem w_CAP_IQ_CTL_ARMED : Fld.w CAP.IQ_CTL.ARMED = 1 := rfl
@[simp] theorem key_CAP_IQ_CTL_TWO : Fld.key CAP.IQ_CTL.TWO = 32 * (0x24070) + 29 := rfl
@[simp] theorem w_CAP_IQ_CTL_TWO : Fld.w CAP.IQ_CTL.TWO = 1 := rfl
@[simp] theorem key_CAP_IQ_CTL_TRIG : Fld.key CAP.IQ_CTL.TRIG = 32 * (0x24070) + 25 := rfl
@[simp] theorem w_CAP_IQ_CTL_TRIG : Fld.w CAP.IQ_CTL.TRIG = 4 := rfl
@[simp] theorem key_CAP_IQ_CTL_POINTA : Fld.key CAP.IQ_CTL.POINTA = 32 * (0x24070) + 23 := rfl
@[simp] theorem w_CAP_IQ_CTL_POINTA : Fld.w CAP.IQ_CTL.POINTA = 2 := rfl
@[simp] theorem key_CAP_IQ_CTL_POINTB : Fld.key CAP.IQ_CTL.POINTB = 32 * (0x24070) + 21 := rfl
@[simp] theorem w_CAP_IQ_CTL_POINTB : Fld.w CAP.IQ_CTL.POINTB = 2 := rfl
@[simp] theorem key_CAP_IQ_CTL_PRE : Fld.key CAP.IQ_CTL.PRE = 32 * (0x24070) + 17 := rfl
@[simp] theorem w_CAP_IQ_CTL_PRE : Fld.w CAP.IQ_CTL.PRE = 4 := rfl
@[simp] theorem key_CAP_IQ_CTL_SLOT : Fld.key CAP.IQ_CTL.SLOT = 32 * (0x24070) + 8 := rfl
@[simp] theorem w_CAP_IQ_CTL_SLOT : Fld.w CAP.IQ_CTL.SLOT = 9 := rfl
@[simp] theorem key_CAP_IQ_CTL_ARM : Fld.key CAP.IQ_CTL.ARM = 32 * (0x24070) + 0 := rfl
@[simp] theorem w_CAP_IQ_CTL_ARM : Fld.w CAP.IQ_CTL.ARM = 1 := rfl
@[simp] theorem key_CAP_IQ_STAT_START : Fld.key CAP.IQ_STAT.START = 32 * (0x24074) + 0 := rfl
@[simp] theorem w_CAP_IQ_STAT_START : Fld.w CAP.IQ_STAT.START = 21 := rfl
@[simp] theorem key_CAP_IQ_TIME_S_VALUE : Fld.key CAP.IQ_TIME_S.VALUE = 32 * (0x24078) + 0 := rfl
@[simp] theorem w_CAP_IQ_TIME_S_VALUE : Fld.w CAP.IQ_TIME_S.VALUE = 32 := rfl
@[simp] theorem key_CAP_IQ_TIME_NS_VALUE : Fld.key CAP.IQ_TIME_NS.VALUE = 32 * (0x2407c) + 0 := rfl
@[simp] theorem w_CAP_IQ_TIME_NS_VALUE : Fld.w CAP.IQ_TIME_NS.VALUE = 32 := rfl
@[simp] theorem key_CAP_IQ_ADDR_WORD : Fld.key CAP.IQ_ADDR.WORD = 32 * (0x24080) + 0 := rfl
@[simp] theorem w_CAP_IQ_ADDR_WORD : Fld.w CAP.IQ_ADDR.WORD = 21 := rfl
@[simp] theorem key_CAP_IQ_DATA_VALUE : Fld.key CAP.IQ_DATA.VALUE = 32 * (0x24084) + 0 := rfl
@[simp] theorem w_CAP_IQ_DATA_VALUE : Fld.w CAP.IQ_DATA.VALUE = 32 := rfl
@[simp] theorem key_FEC_SEQ_CTL_RUNNING (k : Nat) : Fld.key (FEC.SEQ_CTL.RUNNING k) = 32 * (0x25040 + 0x1000 * k) + 31 := rfl
@[simp] theorem w_FEC_SEQ_CTL_RUNNING (k : Nat) : Fld.w (FEC.SEQ_CTL.RUNNING k) = 1 := rfl
@[simp] theorem key_FEC_SEQ_CTL_PEND (k : Nat) : Fld.key (FEC.SEQ_CTL.PEND k) = 32 * (0x25040 + 0x1000 * k) + 30 := rfl
@[simp] theorem w_FEC_SEQ_CTL_PEND (k : Nat) : Fld.w (FEC.SEQ_CTL.PEND k) = 1 := rfl
@[simp] theorem key_FEC_SEQ_CTL_REFUSE (k : Nat) : Fld.key (FEC.SEQ_CTL.REFUSE k) = 32 * (0x25040 + 0x1000 * k) + 24 := rfl
@[simp] theorem w_FEC_SEQ_CTL_REFUSE (k : Nat) : Fld.w (FEC.SEQ_CTL.REFUSE k) = 4 := rfl
@[simp] theorem key_FEC_SEQ_CTL_COMMIT (k : Nat) : Fld.key (FEC.SEQ_CTL.COMMIT k) = 32 * (0x25040 + 0x1000 * k) + 8 := rfl
@[simp] theorem w_FEC_SEQ_CTL_COMMIT (k : Nat) : Fld.w (FEC.SEQ_CTL.COMMIT k) = 1 := rfl
@[simp] theorem key_FEC_SEQ_CTL_RUN (k : Nat) : Fld.key (FEC.SEQ_CTL.RUN k) = 32 * (0x25040 + 0x1000 * k) + 0 := rfl
@[simp] theorem w_FEC_SEQ_CTL_RUN (k : Nat) : Fld.w (FEC.SEQ_CTL.RUN k) = 1 := rfl
@[simp] theorem key_FEC_SEQ_SEL_BANK (k : Nat) : Fld.key (FEC.SEQ_SEL.BANK k) = 32 * (0x25044 + 0x1000 * k) + 31 := rfl
@[simp] theorem w_FEC_SEQ_SEL_BANK (k : Nat) : Fld.w (FEC.SEQ_SEL.BANK k) = 1 := rfl
@[simp] theorem key_FEC_SEQ_SEL_ENTRY (k : Nat) : Fld.key (FEC.SEQ_SEL.ENTRY k) = 32 * (0x25044 + 0x1000 * k) + 0 := rfl
@[simp] theorem w_FEC_SEQ_SEL_ENTRY (k : Nat) : Fld.w (FEC.SEQ_SEL.ENTRY k) = 10 := rfl
@[simp] theorem key_FEC_RFFE_CMD_SEL_BANK (k : Nat) : Fld.key (FEC.RFFE_CMD_SEL.BANK k) = 32 * (0x25084 + 0x1000 * k) + 31 := rfl
@[simp] theorem w_FEC_RFFE_CMD_SEL_BANK (k : Nat) : Fld.w (FEC.RFFE_CMD_SEL.BANK k) = 1 := rfl
@[simp] theorem key_FEC_RFFE_CMD_SEL_INDEX (k : Nat) : Fld.key (FEC.RFFE_CMD_SEL.INDEX k) = 32 * (0x25084 + 0x1000 * k) + 0 := rfl
@[simp] theorem w_FEC_RFFE_CMD_SEL_INDEX (k : Nat) : Fld.w (FEC.RFFE_CMD_SEL.INDEX k) = 8 := rfl
@[simp] theorem key_FEC_DRV_EN_EN (k : Nat) : Fld.key (FEC.DRV_EN.EN k) = 32 * (0x25050 + 0x1000 * k) + 0 := rfl
@[simp] theorem w_FEC_DRV_EN_EN (k : Nat) : Fld.w (FEC.DRV_EN.EN k) = 32 := rfl
@[simp] theorem key_FEC_IDLE_LEVEL (k : Nat) : Fld.key (FEC.IDLE.LEVEL k) = 32 * (0x25054 + 0x1000 * k) + 0 := rfl
@[simp] theorem w_FEC_IDLE_LEVEL (k : Nat) : Fld.w (FEC.IDLE.LEVEL k) = 32 := rfl
@[simp] theorem key_FEC_LEVEL_NOW (k : Nat) : Fld.key (FEC.LEVEL.NOW k) = 32 * (0x25058 + 0x1000 * k) + 0 := rfl
@[simp] theorem w_FEC_LEVEL_NOW (k : Nat) : Fld.w (FEC.LEVEL.NOW k) = 32 := rfl
@[simp] theorem key_FEC_SEQ_CNT_LATE (k : Nat) : Fld.key (FEC.SEQ_CNT.LATE k) = 32 * (0x2505c + 0x1000 * k) + 16 := rfl
@[simp] theorem w_FEC_SEQ_CNT_LATE (k : Nat) : Fld.w (FEC.SEQ_CNT.LATE k) = 16 := rfl
@[simp] theorem key_FEC_SEQ_CNT_CLASH (k : Nat) : Fld.key (FEC.SEQ_CNT.CLASH k) = 32 * (0x2505c + 0x1000 * k) + 0 := rfl
@[simp] theorem w_FEC_SEQ_CNT_CLASH (k : Nat) : Fld.w (FEC.SEQ_CNT.CLASH k) = 16 := rfl
@[simp] theorem key_FEC_LINE_GATE_TX0 (k : Nat) (j : Nat) : Fld.key (FEC.LINE_GATE.TX0 k j) = 32 * (0x25060 + 0x1000 * k + 4 * j) + 0 := rfl
@[simp] theorem w_FEC_LINE_GATE_TX0 (k : Nat) (j : Nat) : Fld.w (FEC.LINE_GATE.TX0 k j) = 5 := rfl
@[simp] theorem key_FEC_LINE_GATE_EN0 (k : Nat) (j : Nat) : Fld.key (FEC.LINE_GATE.EN0 k j) = 32 * (0x25060 + 0x1000 * k + 4 * j) + 7 := rfl
@[simp] theorem w_FEC_LINE_GATE_EN0 (k : Nat) (j : Nat) : Fld.w (FEC.LINE_GATE.EN0 k j) = 1 := rfl
@[simp] theorem key_FEC_LINE_GATE_TX1 (k : Nat) (j : Nat) : Fld.key (FEC.LINE_GATE.TX1 k j) = 32 * (0x25060 + 0x1000 * k + 4 * j) + 8 := rfl
@[simp] theorem w_FEC_LINE_GATE_TX1 (k : Nat) (j : Nat) : Fld.w (FEC.LINE_GATE.TX1 k j) = 5 := rfl
@[simp] theorem key_FEC_LINE_GATE_EN1 (k : Nat) (j : Nat) : Fld.key (FEC.LINE_GATE.EN1 k j) = 32 * (0x25060 + 0x1000 * k + 4 * j) + 15 := rfl
@[simp] theorem w_FEC_LINE_GATE_EN1 (k : Nat) (j : Nat) : Fld.w (FEC.LINE_GATE.EN1 k j) = 1 := rfl
@[simp] theorem key_FEC_LINE_GATE_TX2 (k : Nat) (j : Nat) : Fld.key (FEC.LINE_GATE.TX2 k j) = 32 * (0x25060 + 0x1000 * k + 4 * j) + 16 := rfl
@[simp] theorem w_FEC_LINE_GATE_TX2 (k : Nat) (j : Nat) : Fld.w (FEC.LINE_GATE.TX2 k j) = 5 := rfl
@[simp] theorem key_FEC_LINE_GATE_EN2 (k : Nat) (j : Nat) : Fld.key (FEC.LINE_GATE.EN2 k j) = 32 * (0x25060 + 0x1000 * k + 4 * j) + 23 := rfl
@[simp] theorem w_FEC_LINE_GATE_EN2 (k : Nat) (j : Nat) : Fld.w (FEC.LINE_GATE.EN2 k j) = 1 := rfl
@[simp] theorem key_FEC_LINE_GATE_TX3 (k : Nat) (j : Nat) : Fld.key (FEC.LINE_GATE.TX3 k j) = 32 * (0x25060 + 0x1000 * k + 4 * j) + 24 := rfl
@[simp] theorem w_FEC_LINE_GATE_TX3 (k : Nat) (j : Nat) : Fld.w (FEC.LINE_GATE.TX3 k j) = 5 := rfl
@[simp] theorem key_FEC_LINE_GATE_EN3 (k : Nat) (j : Nat) : Fld.key (FEC.LINE_GATE.EN3 k j) = 32 * (0x25060 + 0x1000 * k + 4 * j) + 31 := rfl
@[simp] theorem w_FEC_LINE_GATE_EN3 (k : Nat) (j : Nat) : Fld.w (FEC.LINE_GATE.EN3 k j) = 1 := rfl
@[simp] theorem key_FEC_RFFE_CFG_EN1 (k : Nat) : Fld.key (FEC.RFFE_CFG.EN1 k) = 32 * (0x25080 + 0x1000 * k) + 15 := rfl
@[simp] theorem w_FEC_RFFE_CFG_EN1 (k : Nat) : Fld.w (FEC.RFFE_CFG.EN1 k) = 1 := rfl
@[simp] theorem key_FEC_RFFE_CFG_RATE1 (k : Nat) : Fld.key (FEC.RFFE_CFG.RATE1 k) = 32 * (0x25080 + 0x1000 * k) + 8 := rfl
@[simp] theorem w_FEC_RFFE_CFG_RATE1 (k : Nat) : Fld.w (FEC.RFFE_CFG.RATE1 k) = 2 := rfl
@[simp] theorem key_FEC_RFFE_CFG_EN0 (k : Nat) : Fld.key (FEC.RFFE_CFG.EN0 k) = 32 * (0x25080 + 0x1000 * k) + 7 := rfl
@[simp] theorem w_FEC_RFFE_CFG_EN0 (k : Nat) : Fld.w (FEC.RFFE_CFG.EN0 k) = 1 := rfl
@[simp] theorem key_FEC_RFFE_CFG_RATE0 (k : Nat) : Fld.key (FEC.RFFE_CFG.RATE0 k) = 32 * (0x25080 + 0x1000 * k) + 0 := rfl
@[simp] theorem w_FEC_RFFE_CFG_RATE0 (k : Nat) : Fld.w (FEC.RFFE_CFG.RATE0 k) = 2 := rfl
@[simp] theorem key_FEC_RFFE_CMD0_VALID (k : Nat) : Fld.key (FEC.RFFE_CMD0.VALID k) = 32 * (0x25088 + 0x1000 * k) + 31 := rfl
@[simp] theorem w_FEC_RFFE_CMD0_VALID (k : Nat) : Fld.w (FEC.RFFE_CMD0.VALID k) = 1 := rfl
@[simp] theorem key_FEC_RFFE_CMD0_BUS (k : Nat) : Fld.key (FEC.RFFE_CMD0.BUS k) = 32 * (0x25088 + 0x1000 * k) + 30 := rfl
@[simp] theorem w_FEC_RFFE_CMD0_BUS (k : Nat) : Fld.w (FEC.RFFE_CMD0.BUS k) = 1 := rfl
@[simp] theorem key_FEC_RFFE_CMD0_TYPE (k : Nat) : Fld.key (FEC.RFFE_CMD0.TYPE k) = 32 * (0x25088 + 0x1000 * k) + 28 := rfl
@[simp] theorem w_FEC_RFFE_CMD0_TYPE (k : Nat) : Fld.w (FEC.RFFE_CMD0.TYPE k) = 2 := rfl
@[simp] theorem key_FEC_RFFE_CMD0_USID (k : Nat) : Fld.key (FEC.RFFE_CMD0.USID k) = 32 * (0x25088 + 0x1000 * k) + 24 := rfl
@[simp] theorem w_FEC_RFFE_CMD0_USID (k : Nat) : Fld.w (FEC.RFFE_CMD0.USID k) = 4 := rfl
@[simp] theorem key_FEC_RFFE_CMD0_ADDR (k : Nat) : Fld.key (FEC.RFFE_CMD0.ADDR k) = 32 * (0x25088 + 0x1000 * k) + 16 := rfl
@[simp] theorem w_FEC_RFFE_CMD0_ADDR (k : Nat) : Fld.w (FEC.RFFE_CMD0.ADDR k) = 8 := rfl
@[simp] theorem key_FEC_RFFE_CMD0_LEN (k : Nat) : Fld.key (FEC.RFFE_CMD0.LEN k) = 32 * (0x25088 + 0x1000 * k) + 12 := rfl
@[simp] theorem w_FEC_RFFE_CMD0_LEN (k : Nat) : Fld.w (FEC.RFFE_CMD0.LEN k) = 2 := rfl
@[simp] theorem key_FEC_RFFE_CMD1_DATA (k : Nat) : Fld.key (FEC.RFFE_CMD1.DATA k) = 32 * (0x2508c + 0x1000 * k) + 0 := rfl
@[simp] theorem w_FEC_RFFE_CMD1_DATA (k : Nat) : Fld.w (FEC.RFFE_CMD1.DATA k) = 32 := rfl
@[simp] theorem key_FEC_RFFE_RD_BUSY (k : Nat) : Fld.key (FEC.RFFE_RD.BUSY k) = 32 * (0x25090 + 0x1000 * k) + 31 := rfl
@[simp] theorem w_FEC_RFFE_RD_BUSY (k : Nat) : Fld.w (FEC.RFFE_RD.BUSY k) = 1 := rfl
@[simp] theorem key_FEC_RFFE_RD_PERR (k : Nat) : Fld.key (FEC.RFFE_RD.PERR k) = 32 * (0x25090 + 0x1000 * k) + 30 := rfl
@[simp] theorem w_FEC_RFFE_RD_PERR (k : Nat) : Fld.w (FEC.RFFE_RD.PERR k) = 1 := rfl
@[simp] theorem key_FEC_RFFE_RD_BUS (k : Nat) : Fld.key (FEC.RFFE_RD.BUS k) = 32 * (0x25090 + 0x1000 * k) + 29 := rfl
@[simp] theorem w_FEC_RFFE_RD_BUS (k : Nat) : Fld.w (FEC.RFFE_RD.BUS k) = 1 := rfl
@[simp] theorem key_FEC_RFFE_RD_EXT (k : Nat) : Fld.key (FEC.RFFE_RD.EXT k) = 32 * (0x25090 + 0x1000 * k) + 28 := rfl
@[simp] theorem w_FEC_RFFE_RD_EXT (k : Nat) : Fld.w (FEC.RFFE_RD.EXT k) = 1 := rfl
@[simp] theorem key_FEC_RFFE_RD_USID (k : Nat) : Fld.key (FEC.RFFE_RD.USID k) = 32 * (0x25090 + 0x1000 * k) + 24 := rfl
@[simp] theorem w_FEC_RFFE_RD_USID (k : Nat) : Fld.w (FEC.RFFE_RD.USID k) = 4 := rfl
@[simp] theorem key_FEC_RFFE_RD_ADDR (k : Nat) : Fld.key (FEC.RFFE_RD.ADDR k) = 32 * (0x25090 + 0x1000 * k) + 16 := rfl
@[simp] theorem w_FEC_RFFE_RD_ADDR (k : Nat) : Fld.w (FEC.RFFE_RD.ADDR k) = 8 := rfl
@[simp] theorem key_FEC_RFFE_RD_GO (k : Nat) : Fld.key (FEC.RFFE_RD.GO k) = 32 * (0x25090 + 0x1000 * k) + 8 := rfl
@[simp] theorem w_FEC_RFFE_RD_GO (k : Nat) : Fld.w (FEC.RFFE_RD.GO k) = 1 := rfl
@[simp] theorem key_FEC_RFFE_RD_DATA (k : Nat) : Fld.key (FEC.RFFE_RD.DATA k) = 32 * (0x25090 + 0x1000 * k) + 0 := rfl
@[simp] theorem w_FEC_RFFE_RD_DATA (k : Nat) : Fld.w (FEC.RFFE_RD.DATA k) = 8 := rfl
@[simp] theorem key_TDD_TB_CTL_LOCKED : Fld.key TDD.TB_CTL.LOCKED = 32 * (0xe040) + 31 := rfl
@[simp] theorem w_TDD_TB_CTL_LOCKED : Fld.w TDD.TB_CTL.LOCKED = 1 := rfl
@[simp] theorem key_TDD_TB_CTL_REFUSE : Fld.key TDD.TB_CTL.REFUSE = 32 * (0xe040) + 24 := rfl
@[simp] theorem w_TDD_TB_CTL_REFUSE : Fld.w TDD.TB_CTL.REFUSE = 4 := rfl
@[simp] theorem key_TDD_TB_CTL_PAT : Fld.key TDD.TB_CTL.PAT = 32 * (0xe040) + 4 := rfl
@[simp] theorem w_TDD_TB_CTL_PAT : Fld.w TDD.TB_CTL.PAT = 4 := rfl
@[simp] theorem key_TDD_TB_CTL_SRC : Fld.key TDD.TB_CTL.SRC = 32 * (0xe040) + 0 := rfl
@[simp] theorem w_TDD_TB_CTL_SRC : Fld.w TDD.TB_CTL.SRC = 2 := rfl
@[simp] theorem key_TDD_PAT_SEL_EDGE : Fld.key TDD.PAT_SEL.EDGE = 32 * (0xe048) + 8 := rfl
@[simp] theorem w_TDD_PAT_SEL_EDGE : Fld.w TDD.PAT_SEL.EDGE = 4 := rfl
@[simp] theorem key_TDD_PAT_SEL_PAT : Fld.key TDD.PAT_SEL.PAT = 32 * (0xe048) + 0 := rfl
@[simp] theorem w_TDD_PAT_SEL_PAT : Fld.w TDD.PAT_SEL.PAT = 4 := rfl
@[simp] theorem key_TDD_PAT_CFG_VALID (p : Nat) : Fld.key (TDD.PAT_CFG.VALID p) = 32 * (0x110000 + 0x200 * p) + 31 := rfl
@[simp] theorem w_TDD_PAT_CFG_VALID (p : Nat) : Fld.w (TDD.PAT_CFG.VALID p) = 1 := rfl
@[simp] theorem key_TDD_PAT_CFG_REQ_SYNC (p : Nat) : Fld.key (TDD.PAT_CFG.REQ_SYNC p) = 32 * (0x110000 + 0x200 * p) + 30 := rfl
@[simp] theorem w_TDD_PAT_CFG_REQ_SYNC (p : Nat) : Fld.w (TDD.PAT_CFG.REQ_SYNC p) = 1 := rfl
@[simp] theorem key_TDD_PAT_CFG_SRC (p : Nat) : Fld.key (TDD.PAT_CFG.SRC p) = 32 * (0x110000 + 0x200 * p) + 28 := rfl
@[simp] theorem w_TDD_PAT_CFG_SRC (p : Nat) : Fld.w (TDD.PAT_CFG.SRC p) = 2 := rfl
@[simp] theorem key_TDD_PAT_CFG_PERIOD (p : Nat) : Fld.key (TDD.PAT_CFG.PERIOD p) = 32 * (0x110000 + 0x200 * p) + 24 := rfl
@[simp] theorem w_TDD_PAT_CFG_PERIOD (p : Nat) : Fld.w (TDD.PAT_CFG.PERIOD p) = 4 := rfl
@[simp] theorem key_TDD_PAT_CFG_PHASE (p : Nat) : Fld.key (TDD.PAT_CFG.PHASE p) = 32 * (0x110000 + 0x200 * p) + 0 := rfl
@[simp] theorem w_TDD_PAT_CFG_PHASE (p : Nat) : Fld.w (TDD.PAT_CFG.PHASE p) = 24 := rfl
@[simp] theorem key_TDD_PAT_EDGE_VALID : Fld.key TDD.PAT_EDGE.VALID = 32 * (0xe050) + 31 := rfl
@[simp] theorem w_TDD_PAT_EDGE_VALID : Fld.w TDD.PAT_EDGE.VALID = 1 := rfl
@[simp] theorem key_TDD_PAT_EDGE_DIR : Fld.key TDD.PAT_EDGE.DIR = 32 * (0xe050) + 30 := rfl
@[simp] theorem w_TDD_PAT_EDGE_DIR : Fld.w TDD.PAT_EDGE.DIR = 1 := rfl
@[simp] theorem key_TDD_PAT_EDGE_OFFSET : Fld.key TDD.PAT_EDGE.OFFSET = 32 * (0xe050) + 0 := rfl
@[simp] theorem w_TDD_PAT_EDGE_OFFSET : Fld.w TDD.PAT_EDGE.OFFSET = 24 := rfl
@[simp] theorem key_TDD_PAT_CTL_PEND (p : Nat) : Fld.key (TDD.PAT_CTL.PEND p) = 32 * (0x110000 + 0x200 * p + 0xc) + 31 := rfl
@[simp] theorem w_TDD_PAT_CTL_PEND (p : Nat) : Fld.w (TDD.PAT_CTL.PEND p) = 1 := rfl
@[simp] theorem key_TDD_PAT_CTL_REFUSE (p : Nat) : Fld.key (TDD.PAT_CTL.REFUSE p) = 32 * (0x110000 + 0x200 * p + 0xc) + 24 := rfl
@[simp] theorem w_TDD_PAT_CTL_REFUSE (p : Nat) : Fld.w (TDD.PAT_CTL.REFUSE p) = 4 := rfl
@[simp] theorem key_TDD_PAT_CTL_COMMIT (p : Nat) : Fld.key (TDD.PAT_CTL.COMMIT p) = 32 * (0x110000 + 0x200 * p + 0xc) + 0 := rfl
@[simp] theorem w_TDD_PAT_CTL_COMMIT (p : Nat) : Fld.w (TDD.PAT_CTL.COMMIT p) = 1 := rfl
@[simp] theorem key_TDD_SYNC_CFG_KIND (p : Nat) : Fld.key (TDD.SYNC_CFG.KIND p) = 32 * (0x110000 + 0x200 * p + 4) + 30 := rfl
@[simp] theorem w_TDD_SYNC_CFG_KIND (p : Nat) : Fld.w (TDD.SYNC_CFG.KIND p) = 2 := rfl
@[simp] theorem key_TDD_SYNC_CFG_SCS (p : Nat) : Fld.key (TDD.SYNC_CFG.SCS p) = 32 * (0x110000 + 0x200 * p + 4) + 28 := rfl
@[simp] theorem w_TDD_SYNC_CFG_SCS (p : Nat) : Fld.w (TDD.SYNC_CFG.SCS p) = 2 := rfl
@[simp] theorem key_TDD_SYNC_CFG_SSB_PER (p : Nat) : Fld.key (TDD.SYNC_CFG.SSB_PER p) = 32 * (0x110000 + 0x200 * p + 4) + 25 := rfl
@[simp] theorem w_TDD_SYNC_CFG_SSB_PER (p : Nat) : Fld.w (TDD.SYNC_CFG.SSB_PER p) = 3 := rfl
@[simp] theorem key_TDD_SYNC_CFG_PIN (p : Nat) : Fld.key (TDD.SYNC_CFG.PIN p) = 32 * (0x110000 + 0x200 * p + 4) + 24 := rfl
@[simp] theorem w_TDD_SYNC_CFG_PIN (p : Nat) : Fld.w (TDD.SYNC_CFG.PIN p) = 1 := rfl
@[simp] theorem key_TDD_SYNC_CFG_MISS_MAX (p : Nat) : Fld.key (TDD.SYNC_CFG.MISS_MAX p) = 32 * (0x110000 + 0x200 * p + 4) + 20 := rfl
@[simp] theorem w_TDD_SYNC_CFG_MISS_MAX (p : Nat) : Fld.w (TDD.SYNC_CFG.MISS_MAX p) = 4 := rfl
@[simp] theorem key_TDD_SYNC_CFG_CELL_ID (p : Nat) : Fld.key (TDD.SYNC_CFG.CELL_ID p) = 32 * (0x110000 + 0x200 * p + 4) + 10 := rfl
@[simp] theorem w_TDD_SYNC_CFG_CELL_ID (p : Nat) : Fld.w (TDD.SYNC_CFG.CELL_ID p) = 10 := rfl
@[simp] theorem key_TDD_SYNC_CFG_SYNC_SLOT (p : Nat) : Fld.key (TDD.SYNC_CFG.SYNC_SLOT p) = 32 * (0x110000 + 0x200 * p + 4) + 0 := rfl
@[simp] theorem w_TDD_SYNC_CFG_SYNC_SLOT (p : Nat) : Fld.w (TDD.SYNC_CFG.SYNC_SLOT p) = 9 := rfl
@[simp] theorem key_TDD_SYNC_FREQ_FREQ (p : Nat) : Fld.key (TDD.SYNC_FREQ.FREQ p) = 32 * (0x110000 + 0x200 * p + 8) + 0 := rfl
@[simp] theorem w_TDD_SYNC_FREQ_FREQ (p : Nat) : Fld.w (TDD.SYNC_FREQ.FREQ p) = 32 := rfl
@[simp] theorem key_TDD_SYNC_STAT_STATE (p : Nat) : Fld.key (TDD.SYNC_STAT.STATE p) = 32 * (0x110000 + 0x200 * p + 0x10) + 30 := rfl
@[simp] theorem w_TDD_SYNC_STAT_STATE (p : Nat) : Fld.w (TDD.SYNC_STAT.STATE p) = 2 := rfl
@[simp] theorem key_TDD_SYNC_STAT_MISSES (p : Nat) : Fld.key (TDD.SYNC_STAT.MISSES p) = 32 * (0x110000 + 0x200 * p + 0x10) + 26 := rfl
@[simp] theorem w_TDD_SYNC_STAT_MISSES (p : Nat) : Fld.w (TDD.SYNC_STAT.MISSES p) = 4 := rfl
@[simp] theorem key_TDD_SYNC_STAT_CELL (p : Nat) : Fld.key (TDD.SYNC_STAT.CELL p) = 32 * (0x110000 + 0x200 * p + 0x10) + 16 := rfl
@[simp] theorem w_TDD_SYNC_STAT_CELL (p : Nat) : Fld.w (TDD.SYNC_STAT.CELL p) = 10 := rfl
@[simp] theorem key_TDD_SYNC_STAT_ERR (p : Nat) : Fld.key (TDD.SYNC_STAT.ERR p) = 32 * (0x110000 + 0x200 * p + 0x10) + 0 := rfl
@[simp] theorem w_TDD_SYNC_STAT_ERR (p : Nat) : Fld.w (TDD.SYNC_STAT.ERR p) = 16 := rfl
@[simp] theorem key_DIV_CFG_EN (j : Nat) : Fld.key (DIV.CFG.EN j) = 32 * (0x29040 + 4 * j) + 31 := rfl
@[simp] theorem w_DIV_CFG_EN (j : Nat) : Fld.w (DIV.CFG.EN j) = 1 := rfl
@[simp] theorem key_DIV_CFG_PAT (j : Nat) : Fld.key (DIV.CFG.PAT j) = 32 * (0x29040 + 4 * j) + 24 := rfl
@[simp] theorem w_DIV_CFG_PAT (j : Nat) : Fld.w (DIV.CFG.PAT j) = 4 := rfl
@[simp] theorem key_DIV_CFG_LINE (j : Nat) : Fld.key (DIV.CFG.LINE j) = 32 * (0x29040 + 4 * j) + 15 := rfl
@[simp] theorem w_DIV_CFG_LINE (j : Nat) : Fld.w (DIV.CFG.LINE j) = 7 := rfl
@[simp] theorem key_DIV_CFG_TXD (j : Nat) : Fld.key (DIV.CFG.TXD j) = 32 * (0x29040 + 4 * j) + 10 := rfl
@[simp] theorem w_DIV_CFG_TXD (j : Nat) : Fld.w (DIV.CFG.TXD j) = 5 := rfl
@[simp] theorem key_DIV_CFG_RXB (j : Nat) : Fld.key (DIV.CFG.RXB j) = 32 * (0x29040 + 4 * j) + 5 := rfl
@[simp] theorem w_DIV_CFG_RXB (j : Nat) : Fld.w (DIV.CFG.RXB j) = 5 := rfl
@[simp] theorem key_DIV_CFG_RXA (j : Nat) : Fld.key (DIV.CFG.RXA j) = 32 * (0x29040 + 4 * j) + 0 := rfl
@[simp] theorem w_DIV_CFG_RXA (j : Nat) : Fld.w (DIV.CFG.RXA j) = 5 := rfl
@[simp] theorem key_DIV_POLICY_SW_TICK : Fld.key DIV.POLICY.SW_TICK = 32 * (0x29060) + 20 := rfl
@[simp] theorem w_DIV_POLICY_SW_TICK : Fld.w DIV.POLICY.SW_TICK = 12 := rfl
@[simp] theorem key_DIV_POLICY_HYST : Fld.key DIV.POLICY.HYST = 32 * (0x29060) + 12 := rfl
@[simp] theorem w_DIV_POLICY_HYST : Fld.w DIV.POLICY.HYST = 8 := rfl
@[simp] theorem key_DIV_POLICY_HOLD : Fld.key DIV.POLICY.HOLD = 32 * (0x29060) + 8 := rfl
@[simp] theorem w_DIV_POLICY_HOLD : Fld.w DIV.POLICY.HOLD = 4 := rfl
@[simp] theorem key_DIV_POLICY_AVG : Fld.key DIV.POLICY.AVG = 32 * (0x29060) + 4 := rfl
@[simp] theorem w_DIV_POLICY_AVG : Fld.w DIV.POLICY.AVG = 4 := rfl
@[simp] theorem key_DIV_STAT_ACTIVE (j : Nat) : Fld.key (DIV.STAT.ACTIVE j) = 32 * (0x29080 + 4 * j) + 31 := rfl
@[simp] theorem w_DIV_STAT_ACTIVE (j : Nat) : Fld.w (DIV.STAT.ACTIVE j) = 1 := rfl
@[simp] theorem key_DIV_STAT_PEND (j : Nat) : Fld.key (DIV.STAT.PEND j) = 32 * (0x29080 + 4 * j) + 30 := rfl
@[simp] theorem w_DIV_STAT_PEND (j : Nat) : Fld.w (DIV.STAT.PEND j) = 1 := rfl
@[simp] theorem key_DIV_STAT_DIFF (j : Nat) : Fld.key (DIV.STAT.DIFF j) = 32 * (0x29080 + 4 * j) + 8 := rfl
@[simp] theorem w_DIV_STAT_DIFF (j : Nat) : Fld.w (DIV.STAT.DIFF j) = 8 := rfl
@[simp] theorem key_DIV_STAT_SWITCHES (j : Nat) : Fld.key (DIV.STAT.SWITCHES j) = 32 * (0x29080 + 4 * j) + 0 := rfl
@[simp] theorem w_DIV_STAT_SWITCHES (j : Nat) : Fld.w (DIV.STAT.SWITCHES j) = 8 := rfl
@[simp] theorem key_PWT_SEL_BANK : Fld.key PWT.SEL.BANK = 32 * (0x2a040) + 31 := rfl
@[simp] theorem w_PWT_SEL_BANK : Fld.w PWT.SEL.BANK = 1 := rfl
@[simp] theorem key_PWT_SEL_PORT : Fld.key PWT.SEL.PORT = 32 * (0x2a040) + 16 := rfl
@[simp] theorem w_PWT_SEL_PORT : Fld.w PWT.SEL.PORT = 5 := rfl
@[simp] theorem key_PWT_SEL_INDEX : Fld.key PWT.SEL.INDEX = 32 * (0x2a040) + 0 := rfl
@[simp] theorem w_PWT_SEL_INDEX : Fld.w PWT.SEL.INDEX = 8 := rfl
@[simp] theorem key_PWT_DATA_BIAS : Fld.key PWT.DATA.BIAS = 32 * (0x2a044) + 28 := rfl
@[simp] theorem w_PWT_DATA_BIAS : Fld.w PWT.DATA.BIAS = 4 := rfl
@[simp] theorem key_PWT_DATA_ATT : Fld.key PWT.DATA.ATT = 32 * (0x2a044) + 20 := rfl
@[simp] theorem w_PWT_DATA_ATT : Fld.w PWT.DATA.ATT = 8 := rfl
@[simp] theorem key_PWT_DATA_DGAIN : Fld.key PWT.DATA.DGAIN = 32 * (0x2a044) + 0 := rfl
@[simp] theorem w_PWT_DATA_DGAIN : Fld.w PWT.DATA.DGAIN = 12 := rfl
@[simp] theorem key_PWT_COMMIT_PORTS : Fld.key PWT.COMMIT.PORTS = 32 * (0x2a048) + 0 := rfl
@[simp] theorem w_PWT_COMMIT_PORTS : Fld.w PWT.COMMIT.PORTS = 32 := rfl
@[simp] theorem key_PWT_PEND_PORTS : Fld.key PWT.PEND.PORTS = 32 * (0x2a04c) + 0 := rfl
@[simp] theorem w_PWT_PEND_PORTS : Fld.w PWT.PEND.PORTS = 32 := rfl
@[simp] theorem key_PWT_PROF_SEL_PORT : Fld.key PWT.PROF_SEL.PORT = 32 * (0x2a050) + 16 := rfl
@[simp] theorem w_PWT_PROF_SEL_PORT : Fld.w PWT.PROF_SEL.PORT = 5 := rfl
@[simp] theorem key_PWT_PROF_SEL_PROF : Fld.key PWT.PROF_SEL.PROF = 32 * (0x2a050) + 0 := rfl
@[simp] theorem w_PWT_PROF_SEL_PROF : Fld.w PWT.PROF_SEL.PROF = 4 := rfl
@[simp] theorem key_PWT_PROF_DATA_CODE : Fld.key PWT.PROF_DATA.CODE = 32 * (0x2a054) + 0 := rfl
@[simp] theorem w_PWT_PROF_DATA_CODE : Fld.w PWT.PROF_DATA.CODE = 16 := rfl
@[simp] theorem key_PWT_TXEN_REQ : Fld.key PWT.TXEN.REQ = 32 * (0x2a058) + 0 := rfl
@[simp] theorem w_PWT_TXEN_REQ : Fld.w PWT.TXEN.REQ = 32 := rfl
@[simp] theorem key_PWT_TXON_ON : Fld.key PWT.TXON.ON = 32 * (0x2a05c) + 0 := rfl
@[simp] theorem w_PWT_TXON_ON : Fld.w PWT.TXON.ON = 32 := rfl
@[simp] theorem key_PWT_TXPEND_PEND : Fld.key PWT.TXPEND.PEND = 32 * (0x2a060) + 0 := rfl
@[simp] theorem w_PWT_TXPEND_PEND : Fld.w PWT.TXPEND.PEND = 32 := rfl
@[simp] theorem key_PWT_TXREFUSED_SNR : Fld.key PWT.TXREFUSED.SNR = 32 * (0x2a064) + 0 := rfl
@[simp] theorem w_PWT_TXREFUSED_SNR : Fld.w PWT.TXREFUSED.SNR = 32 := rfl
@[simp] theorem key_PWT_PORT_CFG_BIAS_EN (j : Nat) : Fld.key (PWT.PORT_CFG.BIAS_EN j) = 32 * (0x2a100 + 4 * j) + 30 := rfl
@[simp] theorem w_PWT_PORT_CFG_BIAS_EN (j : Nat) : Fld.w (PWT.PORT_CFG.BIAS_EN j) = 1 := rfl
@[simp] theorem key_PWT_PORT_CFG_BIAS_CH (j : Nat) : Fld.key (PWT.PORT_CFG.BIAS_CH j) = 32 * (0x2a100 + 4 * j) + 24 := rfl
@[simp] theorem w_PWT_PORT_CFG_BIAS_CH (j : Nat) : Fld.w (PWT.PORT_CFG.BIAS_CH j) = 6 := rfl
@[simp] theorem key_PWT_PORT_CFG_ATT_EN (j : Nat) : Fld.key (PWT.PORT_CFG.ATT_EN j) = 32 * (0x2a100 + 4 * j) + 23 := rfl
@[simp] theorem w_PWT_PORT_CFG_ATT_EN (j : Nat) : Fld.w (PWT.PORT_CFG.ATT_EN j) = 1 := rfl
@[simp] theorem key_PWT_PORT_CFG_ATT_PAGE (j : Nat) : Fld.key (PWT.PORT_CFG.ATT_PAGE j) = 32 * (0x2a100 + 4 * j) + 18 := rfl
@[simp] theorem w_PWT_PORT_CFG_ATT_PAGE (j : Nat) : Fld.w (PWT.PORT_CFG.ATT_PAGE j) = 2 := rfl
@[simp] theorem key_PWT_PORT_CFG_SCS (j : Nat) : Fld.key (PWT.PORT_CFG.SCS j) = 32 * (0x2a100 + 4 * j) + 16 := rfl
@[simp] theorem w_PWT_PORT_CFG_SCS (j : Nat) : Fld.w (PWT.PORT_CFG.SCS j) = 2 := rfl
@[simp] theorem key_PWT_PORT_CFG_ATT_CMD (j : Nat) : Fld.key (PWT.PORT_CFG.ATT_CMD j) = 32 * (0x2a100 + 4 * j) + 8 := rfl
@[simp] theorem w_PWT_PORT_CFG_ATT_CMD (j : Nat) : Fld.w (PWT.PORT_CFG.ATT_CMD j) = 8 := rfl
@[simp] theorem key_PWT_PORT_CFG_GRID (j : Nat) : Fld.key (PWT.PORT_CFG.GRID j) = 32 * (0x2a100 + 4 * j) + 0 := rfl
@[simp] theorem w_PWT_PORT_CFG_GRID (j : Nat) : Fld.w (PWT.PORT_CFG.GRID j) = 4 := rfl
@[simp] theorem key_PWT_PORT_STAT_INDEX (j : Nat) : Fld.key (PWT.PORT_STAT.INDEX j) = 32 * (0x2a180 + 4 * j) + 0 := rfl
@[simp] theorem w_PWT_PORT_STAT_INDEX (j : Nat) : Fld.w (PWT.PORT_STAT.INDEX j) = 8 := rfl
@[simp] theorem key_REGL_STATE_STATE : Fld.key REGL.STATE.STATE = 32 * (0xf040) + 30 := rfl
@[simp] theorem w_REGL_STATE_STATE : Fld.w REGL.STATE.STATE = 2 := rfl
@[simp] theorem key_REGL_STATE_WRES : Fld.key REGL.STATE.WRES = 32 * (0xf040) + 24 := rfl
@[simp] theorem w_REGL_STATE_WRES : Fld.w REGL.STATE.WRES = 4 := rfl
@[simp] theorem key_REGL_STATE_NRANGES : Fld.key REGL.STATE.NRANGES = 32 * (0xf040) + 16 := rfl
@[simp] theorem w_REGL_STATE_NRANGES : Fld.w REGL.STATE.NRANGES = 8 := rfl
@[simp] theorem key_REGL_STATE_FORMAT : Fld.key REGL.STATE.FORMAT = 32 * (0xf040) + 0 := rfl
@[simp] theorem w_REGL_STATE_FORMAT : Fld.w REGL.STATE.FORMAT = 16 := rfl
@[simp] theorem key_REGL_LOCK_ID_ID : Fld.key REGL.LOCK_ID.ID = 32 * (0xf044) + 0 := rfl
@[simp] theorem w_REGL_LOCK_ID_ID : Fld.w REGL.LOCK_ID.ID = 32 := rfl
@[simp] theorem key_REGL_EMIS_IN : Fld.key REGL.EMIS.IN = 32 * (0xf048) + 16 := rfl
@[simp] theorem w_REGL_EMIS_IN : Fld.w REGL.EMIS.IN = 16 := rfl
@[simp] theorem key_REGL_EMIS_OUT : Fld.key REGL.EMIS.OUT = 32 * (0xf048) + 0 := rfl
@[simp] theorem w_REGL_EMIS_OUT : Fld.w REGL.EMIS.OUT = 16 := rfl
@[simp] theorem key_REGL_REFUSE_CAUSE : Fld.key REGL.REFUSE.CAUSE = 32 * (0xf050) + 28 := rfl
@[simp] theorem w_REGL_REFUSE_CAUSE : Fld.w REGL.REFUSE.CAUSE = 4 := rfl
@[simp] theorem key_REGL_REFUSE_KIND : Fld.key REGL.REFUSE.KIND = 32 * (0xf050) + 27 := rfl
@[simp] theorem w_REGL_REFUSE_KIND : Fld.w REGL.REFUSE.KIND = 1 := rfl
@[simp] theorem key_REGL_REFUSE_SLOT : Fld.key REGL.REFUSE.SLOT = 32 * (0xf050) + 16 := rfl
@[simp] theorem w_REGL_REFUSE_SLOT : Fld.w REGL.REFUSE.SLOT = 9 := rfl
@[simp] theorem key_REGL_REFUSE_RANGE : Fld.key REGL.REFUSE.RANGE = 32 * (0xf050) + 0 := rfl
@[simp] theorem w_REGL_REFUSE_RANGE : Fld.w REGL.REFUSE.RANGE = 6 := rfl
@[simp] theorem key_REGL_RANGE_0_DIR (j : Nat) : Fld.key (REGL.RANGE_0.DIR j) = 32 * (0xf400 + 0x10 * j) + 24 := rfl
@[simp] theorem w_REGL_RANGE_0_DIR (j : Nat) : Fld.w (REGL.RANGE_0.DIR j) = 2 := rfl
@[simp] theorem key_REGL_RANGE_0_F_LO (j : Nat) : Fld.key (REGL.RANGE_0.F_LO j) = 32 * (0xf400 + 0x10 * j) + 0 := rfl
@[simp] theorem w_REGL_RANGE_0_F_LO (j : Nat) : Fld.w (REGL.RANGE_0.F_LO j) = 24 := rfl
@[simp] theorem key_REGL_RANGE_1_REQ_SYNC (j : Nat) : Fld.key (REGL.RANGE_1.REQ_SYNC j) = 32 * (0xf404 + 0x10 * j) + 24 := rfl
@[simp] theorem w_REGL_RANGE_1_REQ_SYNC (j : Nat) : Fld.w (REGL.RANGE_1.REQ_SYNC j) = 1 := rfl
@[simp] theorem key_REGL_RANGE_1_F_HI (j : Nat) : Fld.key (REGL.RANGE_1.F_HI j) = 32 * (0xf404 + 0x10 * j) + 0 := rfl
@[simp] theorem w_REGL_RANGE_1_F_HI (j : Nat) : Fld.w (REGL.RANGE_1.F_HI j) = 24 := rfl
@[simp] theorem key_REGL_RANGE_2_P_MAX (j : Nat) : Fld.key (REGL.RANGE_2.P_MAX j) = 32 * (0xf408 + 0x10 * j) + 16 := rfl
@[simp] theorem w_REGL_RANGE_2_P_MAX (j : Nat) : Fld.w (REGL.RANGE_2.P_MAX j) = 16 := rfl
@[simp] theorem key_REGL_RANGE_2_G_MAX (j : Nat) : Fld.key (REGL.RANGE_2.G_MAX j) = 32 * (0xf408 + 0x10 * j) + 0 := rfl
@[simp] theorem w_REGL_RANGE_2_G_MAX (j : Nat) : Fld.w (REGL.RANGE_2.G_MAX j) = 16 := rfl
@[simp] theorem key_REGL_RANGE_3_NOISE (j : Nat) : Fld.key (REGL.RANGE_3.NOISE j) = 32 * (0xf40c + 0x10 * j) + 16 := rfl
@[simp] theorem w_REGL_RANGE_3_NOISE (j : Nat) : Fld.w (REGL.RANGE_3.NOISE j) = 16 := rfl
@[simp] theorem key_REGL_RANGE_3_DUTY_DL (j : Nat) : Fld.key (REGL.RANGE_3.DUTY_DL j) = 32 * (0xf40c + 0x10 * j) + 8 := rfl
@[simp] theorem w_REGL_RANGE_3_DUTY_DL (j : Nat) : Fld.w (REGL.RANGE_3.DUTY_DL j) = 8 := rfl
@[simp] theorem key_REGL_RANGE_3_DUTY_UL (j : Nat) : Fld.key (REGL.RANGE_3.DUTY_UL j) = 32 * (0xf40c + 0x10 * j) + 0 := rfl
@[simp] theorem w_REGL_RANGE_3_DUTY_UL (j : Nat) : Fld.w (REGL.RANGE_3.DUTY_UL j) = 8 := rfl
@[simp] theorem key_REGL_RX_GAIN_G_RX_MAX (j : Nat) : Fld.key (REGL.RX_GAIN.G_RX_MAX j) = 32 * (0xf800 + 4 * j) + 0 := rfl
@[simp] theorem w_REGL_RX_GAIN_G_RX_MAX (j : Nat) : Fld.w (REGL.RX_GAIN.G_RX_MAX j) = 16 := rfl
@[simp] theorem key_REGL_TX_GAIN_CPL_OFS (j : Nat) : Fld.key (REGL.TX_GAIN.CPL_OFS j) = 32 * (0xf880 + 4 * j) + 16 := rfl
@[simp] theorem w_REGL_TX_GAIN_CPL_OFS (j : Nat) : Fld.w (REGL.TX_GAIN.CPL_OFS j) = 16 := rfl
@[simp] theorem key_REGL_TX_GAIN_G_TX_MAX (j : Nat) : Fld.key (REGL.TX_GAIN.G_TX_MAX j) = 32 * (0xf880 + 4 * j) + 0 := rfl
@[simp] theorem w_REGL_TX_GAIN_G_TX_MAX (j : Nat) : Fld.w (REGL.TX_GAIN.G_TX_MAX j) = 16 := rfl
@[simp] theorem key_GOV_PROT_CFG_OSC_HOLD : Fld.key GOV.PROT_CFG.OSC_HOLD = 32 * (0x23060) + 16 := rfl
@[simp] theorem w_GOV_PROT_CFG_OSC_HOLD : Fld.w GOV.PROT_CFG.OSC_HOLD = 8 := rfl
@[simp] theorem key_GOV_PROT_CFG_MASK_HOLD : Fld.key GOV.PROT_CFG.MASK_HOLD = 32 * (0x23060) + 8 := rfl
@[simp] theorem w_GOV_PROT_CFG_MASK_HOLD : Fld.w GOV.PROT_CFG.MASK_HOLD = 8 := rfl
@[simp] theorem key_GOV_PROT_SEL_SLOT : Fld.key GOV.PROT_SEL.SLOT = 32 * (0x23064) + 0 := rfl
@[simp] theorem w_GOV_PROT_SEL_SLOT : Fld.w GOV.PROT_SEL.SLOT = 9 := rfl
@[simp] theorem key_GOV_PROT_STAT_LATCHED (s : Nat) : Fld.key (GOV.PROT_STAT.LATCHED s) = 32 * (0x120000 + 0x80 * s + 4) + 31 := rfl
@[simp] theorem w_GOV_PROT_STAT_LATCHED (s : Nat) : Fld.w (GOV.PROT_STAT.LATCHED s) = 1 := rfl
@[simp] theorem key_GOV_PROT_STAT_OSC (s : Nat) : Fld.key (GOV.PROT_STAT.OSC s) = 32 * (0x120000 + 0x80 * s + 4) + 30 := rfl
@[simp] theorem w_GOV_PROT_STAT_OSC (s : Nat) : Fld.w (GOV.PROT_STAT.OSC s) = 1 := rfl
@[simp] theorem key_GOV_PROT_STAT_MASK (s : Nat) : Fld.key (GOV.PROT_STAT.MASK s) = 32 * (0x120000 + 0x80 * s + 4) + 29 := rfl
@[simp] theorem w_GOV_PROT_STAT_MASK (s : Nat) : Fld.w (GOV.PROT_STAT.MASK s) = 1 := rfl
@[simp] theorem key_GOV_PROT_STAT_DUTY (s : Nat) : Fld.key (GOV.PROT_STAT.DUTY s) = 32 * (0x120000 + 0x80 * s + 4) + 28 := rfl
@[simp] theorem w_GOV_PROT_STAT_DUTY (s : Nat) : Fld.w (GOV.PROT_STAT.DUTY s) = 1 := rfl
@[simp] theorem key_GOV_PROT_STAT_BAND (s : Nat) : Fld.key (GOV.PROT_STAT.BAND s) = 32 * (0x120000 + 0x80 * s + 4) + 27 := rfl
@[simp] theorem w_GOV_PROT_STAT_BAND (s : Nat) : Fld.w (GOV.PROT_STAT.BAND s) = 1 := rfl
@[simp] theorem key_GOV_PROT_STAT_MUTES (s : Nat) : Fld.key (GOV.PROT_STAT.MUTES s) = 32 * (0x120000 + 0x80 * s + 4) + 20 := rfl
@[simp] theorem w_GOV_PROT_STAT_MUTES (s : Nat) : Fld.w (GOV.PROT_STAT.MUTES s) = 4 := rfl
@[simp] theorem key_GOV_PROT_STAT_PCLAMP (s : Nat) : Fld.key (GOV.PROT_STAT.PCLAMP s) = 32 * (0x120000 + 0x80 * s + 4) + 8 := rfl
@[simp] theorem w_GOV_PROT_STAT_PCLAMP (s : Nat) : Fld.w (GOV.PROT_STAT.PCLAMP s) = 8 := rfl
@[simp] theorem key_GOV_PROT_STAT_NRED (s : Nat) : Fld.key (GOV.PROT_STAT.NRED s) = 32 * (0x120000 + 0x80 * s + 4) + 0 := rfl
@[simp] theorem w_GOV_PROT_STAT_NRED (s : Nat) : Fld.w (GOV.PROT_STAT.NRED s) = 8 := rfl
@[simp] theorem key_GOV_PROT_CTL_UNLATCH : Fld.key GOV.PROT_CTL.UNLATCH = 32 * (0x2306c) + 0 := rfl
@[simp] theorem w_GOV_PROT_CTL_UNLATCH : Fld.w GOV.PROT_CTL.UNLATCH = 1 := rfl
@[simp] theorem key_GOV_PERMIT_PERMIT : Fld.key GOV.PERMIT.PERMIT = 32 * (0x23070) + 31 := rfl
@[simp] theorem w_GOV_PERMIT_PERMIT : Fld.w GOV.PERMIT.PERMIT = 1 := rfl
@[simp] theorem key_GOV_PERMIT_CAUSE : Fld.key GOV.PERMIT.CAUSE = 32 * (0x23070) + 0 := rfl
@[simp] theorem w_GOV_PERMIT_CAUSE : Fld.w GOV.PERMIT.CAUSE = 4 := rfl
@[simp] theorem key_GOV_MASK_NOTE_TX : Fld.key GOV.MASK_NOTE.TX = 32 * (0x23074) + 27 := rfl
@[simp] theorem w_GOV_MASK_NOTE_TX : Fld.w GOV.MASK_NOTE.TX = 5 := rfl
@[simp] theorem key_GOV_MASK_NOTE_ZONE : Fld.key GOV.MASK_NOTE.ZONE = 32 * (0x23074) + 26 := rfl
@[simp] theorem w_GOV_MASK_NOTE_ZONE : Fld.w GOV.MASK_NOTE.ZONE = 1 := rfl
@[simp] theorem key_GOV_MASK_NOTE_MHZ : Fld.key GOV.MASK_NOTE.MHZ = 32 * (0x23074) + 0 := rfl
@[simp] theorem w_GOV_MASK_NOTE_MHZ : Fld.w GOV.MASK_NOTE.MHZ = 13 := rfl
@[simp] theorem key_BIA_SAFE_MASK_MASK (i : Nat) : Fld.key (BIA.SAFE_MASK.MASK i) = 32 * (0xb040 + 0x1000 * i) + 0 := rfl
@[simp] theorem w_BIA_SAFE_MASK_MASK (i : Nat) : Fld.w (BIA.SAFE_MASK.MASK i) = 32 := rfl
@[simp] theorem key_BIA_SAFE_STAT_SAFE (i : Nat) : Fld.key (BIA.SAFE_STAT.SAFE i) = 32 * (0xb044 + 0x1000 * i) + 0 := rfl
@[simp] theorem w_BIA_SAFE_STAT_SAFE (i : Nat) : Fld.w (BIA.SAFE_STAT.SAFE i) = 32 := rfl
@[simp] theorem key_BIA_RESUME_RESUME (i : Nat) : Fld.key (BIA.RESUME.RESUME i) = 32 * (0xb048 + 0x1000 * i) + 0 := rfl
@[simp] theorem w_BIA_RESUME_RESUME (i : Nat) : Fld.w (BIA.RESUME.RESUME i) = 32 := rfl
@[simp] theorem key_BIA_RB_STAT_FAULT (i : Nat) : Fld.key (BIA.RB_STAT.FAULT i) = 32 * (0xb04c + 0x1000 * i) + 0 := rfl
@[simp] theorem w_BIA_RB_STAT_FAULT (i : Nat) : Fld.w (BIA.RB_STAT.FAULT i) = 32 := rfl
@[simp] theorem key_BIA_NOTE_CH_CH (i : Nat) : Fld.key (BIA.NOTE_CH.CH i) = 32 * (0xb050 + 0x1000 * i) + 0 := rfl
@[simp] theorem w_BIA_NOTE_CH_CH (i : Nat) : Fld.w (BIA.NOTE_CH.CH i) = 6 := rfl
@[simp] theorem key_BIA_SUPPLY_LOW (i : Nat) : Fld.key (BIA.SUPPLY.LOW i) = 32 * (0xb054 + 0x1000 * i) + 0 := rfl
@[simp] theorem w_BIA_SUPPLY_LOW (i : Nat) : Fld.w (BIA.SUPPLY.LOW i) = 1 := rfl
@[simp] theorem key_BIA_CFG_GEN (i : Nat) (j : Nat) : Fld.key (BIA.CFG.GEN i j) = 32 * (0xb100 + 0x1000 * i + 0x20 * j) + 28 := rfl
@[simp] theorem w_BIA_CFG_GEN (i : Nat) (j : Nat) : Fld.w (BIA.CFG.GEN i j) = 2 := rfl
@[simp] theorem key_BIA_CFG_RB_EN (i : Nat) (j : Nat) : Fld.key (BIA.CFG.RB_EN i j) = 32 * (0xb100 + 0x1000 * i + 0x20 * j) + 27 := rfl
@[simp] theorem w_BIA_CFG_RB_EN (i : Nat) (j : Nat) : Fld.w (BIA.CFG.RB_EN i j) = 1 := rfl
@[simp] theorem key_BIA_CFG_RB_ACT (i : Nat) (j : Nat) : Fld.key (BIA.CFG.RB_ACT i j) = 32 * (0xb100 + 0x1000 * i + 0x20 * j) + 26 := rfl
@[simp] theorem w_BIA_CFG_RB_ACT (i : Nat) (j : Nat) : Fld.w (BIA.CFG.RB_ACT i j) = 1 := rfl
@[simp] theorem key_BIA_CFG_STEP (i : Nat) (j : Nat) : Fld.key (BIA.CFG.STEP i j) = 32 * (0xb100 + 0x1000 * i + 0x20 * j) + 12 := rfl
@[simp] theorem w_BIA_CFG_STEP (i : Nat) (j : Nat) : Fld.w (BIA.CFG.STEP i j) = 12 := rfl
@[simp] theorem key_BIA_CFG_RATE (i : Nat) (j : Nat) : Fld.key (BIA.CFG.RATE i j) = 32 * (0xb100 + 0x1000 * i + 0x20 * j) + 0 := rfl
@[simp] theorem w_BIA_CFG_RATE (i : Nat) (j : Nat) : Fld.w (BIA.CFG.RATE i j) = 10 := rfl
@[simp] theorem key_BIA_VAL_SPAN (i : Nat) (j : Nat) : Fld.key (BIA.VAL.SPAN i j) = 32 * (0xb104 + 0x1000 * i + 0x20 * j) + 16 := rfl
@[simp] theorem w_BIA_VAL_SPAN (i : Nat) (j : Nat) : Fld.w (BIA.VAL.SPAN i j) = 2 := rfl
@[simp] theorem key_BIA_VAL_CODE (i : Nat) (j : Nat) : Fld.key (BIA.VAL.CODE i j) = 32 * (0xb104 + 0x1000 * i + 0x20 * j) + 0 := rfl
@[simp] theorem w_BIA_VAL_CODE (i : Nat) (j : Nat) : Fld.w (BIA.VAL.CODE i j) = 16 := rfl
@[simp] theorem key_BIA_STAT_SPAN_NOW (i : Nat) (j : Nat) : Fld.key (BIA.STAT.SPAN_NOW i j) = 32 * (0xb108 + 0x1000 * i + 0x20 * j) + 30 := rfl
@[simp] theorem w_BIA_STAT_SPAN_NOW (i : Nat) (j : Nat) : Fld.w (BIA.STAT.SPAN_NOW i j) = 2 := rfl
@[simp] theorem key_BIA_STAT_BOUND (i : Nat) (j : Nat) : Fld.key (BIA.STAT.BOUND i j) = 32 * (0xb108 + 0x1000 * i + 0x20 * j) + 26 := rfl
@[simp] theorem w_BIA_STAT_BOUND (i : Nat) (j : Nat) : Fld.w (BIA.STAT.BOUND i j) = 1 := rfl
@[simp] theorem key_BIA_STAT_STATE (i : Nat) (j : Nat) : Fld.key (BIA.STAT.STATE i j) = 32 * (0xb108 + 0x1000 * i + 0x20 * j) + 20 := rfl
@[simp] theorem w_BIA_STAT_STATE (i : Nat) (j : Nat) : Fld.w (BIA.STAT.STATE i j) = 4 := rfl
@[simp] theorem key_BIA_STAT_CODE_NOW (i : Nat) (j : Nat) : Fld.key (BIA.STAT.CODE_NOW i j) = 32 * (0xb108 + 0x1000 * i + 0x20 * j) + 0 := rfl
@[simp] theorem w_BIA_STAT_CODE_NOW (i : Nat) (j : Nat) : Fld.w (BIA.STAT.CODE_NOW i j) = 16 := rfl
@[simp] theorem key_BIA_GEN_HI (i : Nat) (j : Nat) : Fld.key (BIA.GEN.HI i j) = 32 * (0xb10c + 0x1000 * i + 0x20 * j) + 16 := rfl
@[simp] theorem w_BIA_GEN_HI (i : Nat) (j : Nat) : Fld.w (BIA.GEN.HI i j) = 16 := rfl
@[simp] theorem key_BIA_GEN_LO (i : Nat) (j : Nat) : Fld.key (BIA.GEN.LO i j) = 32 * (0xb10c + 0x1000 * i + 0x20 * j) + 0 := rfl
@[simp] theorem w_BIA_GEN_LO (i : Nat) (j : Nat) : Fld.w (BIA.GEN.LO i j) = 16 := rfl
@[simp] theorem key_BIA_WIN_CNT (i : Nat) (j : Nat) : Fld.key (BIA.WIN.CNT i j) = 32 * (0xb110 + 0x1000 * i + 0x20 * j) + 16 := rfl
@[simp] theorem w_BIA_WIN_CNT (i : Nat) (j : Nat) : Fld.w (BIA.WIN.CNT i j) = 8 := rfl
@[simp] theorem key_BIA_WIN_TOL (i : Nat) (j : Nat) : Fld.key (BIA.WIN.TOL i j) = 32 * (0xb110 + 0x1000 * i + 0x20 * j) + 0 := rfl
@[simp] theorem w_BIA_WIN_TOL (i : Nat) (j : Nat) : Fld.w (BIA.WIN.TOL i j) = 10 := rfl
@[simp] theorem key_BIA_RB_MV (i : Nat) (j : Nat) : Fld.key (BIA.RB.MV i j) = 32 * (0xb114 + 0x1000 * i + 0x20 * j) + 16 := rfl
@[simp] theorem w_BIA_RB_MV (i : Nat) (j : Nat) : Fld.w (BIA.RB.MV i j) = 16 := rfl
@[simp] theorem key_BIA_RB_CODE (i : Nat) (j : Nat) : Fld.key (BIA.RB.CODE i j) = 32 * (0xb114 + 0x1000 * i + 0x20 * j) + 0 := rfl
@[simp] theorem w_BIA_RB_CODE (i : Nat) (j : Nat) : Fld.w (BIA.RB.CODE i j) = 16 := rfl
@[simp] theorem key_MON_CTL_ALIGN : Fld.key MON.CTL.ALIGN = 32 * (0xa040) + 16 := rfl
@[simp] theorem w_MON_CTL_ALIGN : Fld.w MON.CTL.ALIGN = 1 := rfl
@[simp] theorem key_MON_CTL_PAIR_IN : Fld.key MON.CTL.PAIR_IN = 32 * (0xa040) + 8 := rfl
@[simp] theorem w_MON_CTL_PAIR_IN : Fld.w MON.CTL.PAIR_IN = 6 := rfl
@[simp] theorem key_MON_CTL_MODE : Fld.key MON.CTL.MODE = 32 * (0xa040) + 0 := rfl
@[simp] theorem w_MON_CTL_MODE : Fld.w MON.CTL.MODE = 2 := rfl
@[simp] theorem key_MON_SEQ_EN_LO_EN : Fld.key MON.SEQ_EN_LO.EN = 32 * (0xa044) + 0 := rfl
@[simp] theorem w_MON_SEQ_EN_LO_EN : Fld.w MON.SEQ_EN_LO.EN = 32 := rfl
@[simp] theorem key_MON_SEQ_EN_HI_EN_LOW : Fld.key MON.SEQ_EN_HI.EN_LOW = 32 * (0xa048) + 0 := rfl
@[simp] theorem w_MON_SEQ_EN_HI_EN_LOW : Fld.w MON.SEQ_EN_HI.EN_LOW = 16 := rfl
@[simp] theorem key_MON_SEQ_EN_HI_EN_FIXED : Fld.key MON.SEQ_EN_HI.EN_FIXED = 32 * (0xa048) + 16 := rfl
@[simp] theorem w_MON_SEQ_EN_HI_EN_FIXED : Fld.w MON.SEQ_EN_HI.EN_FIXED = 8 := rfl
@[simp] theorem key_MON_SEQ_EN_HI_EN_HIGH : Fld.key MON.SEQ_EN_HI.EN_HIGH = 32 * (0xa048) + 24 := rfl
@[simp] theorem w_MON_SEQ_EN_HI_EN_HIGH : Fld.w MON.SEQ_EN_HI.EN_HIGH = 8 := rfl
@[simp] theorem key_MON_DIFF_PAIR : Fld.key MON.DIFF.PAIR = 32 * (0xa04c) + 0 := rfl
@[simp] theorem w_MON_DIFF_PAIR : Fld.w MON.DIFF.PAIR = 24 := rfl
@[simp] theorem key_MON_Q_EN_LO_EN : Fld.key MON.Q_EN_LO.EN = 32 * (0xa050) + 0 := rfl
@[simp] theorem w_MON_Q_EN_LO_EN : Fld.w MON.Q_EN_LO.EN = 32 := rfl
@[simp] theorem key_MON_Q_EN_HI_EN_LOW : Fld.key MON.Q_EN_HI.EN_LOW = 32 * (0xa054) + 0 := rfl
@[simp] theorem w_MON_Q_EN_HI_EN_LOW : Fld.w MON.Q_EN_HI.EN_LOW = 16 := rfl
@[simp] theorem key_MON_Q_EN_HI_EN_HIGH : Fld.key MON.Q_EN_HI.EN_HIGH = 32 * (0xa054) + 24 := rfl
@[simp] theorem w_MON_Q_EN_HI_EN_HIGH : Fld.w MON.Q_EN_HI.EN_HIGH = 8 := rfl
@[simp] theorem key_MON_Q_STAT_EMPTY : Fld.key MON.Q_STAT.EMPTY = 32 * (0xa058) + 31 := rfl
@[simp] theorem w_MON_Q_STAT_EMPTY : Fld.w MON.Q_STAT.EMPTY = 1 := rfl
@[simp] theorem key_MON_Q_STAT_LEVEL : Fld.key MON.Q_STAT.LEVEL = 32 * (0xa058) + 16 := rfl
@[simp] theorem w_MON_Q_STAT_LEVEL : Fld.w MON.Q_STAT.LEVEL = 11 := rfl
@[simp] theorem key_MON_Q_STAT_OVF : Fld.key MON.Q_STAT.OVF = 32 * (0xa058) + 0 := rfl
@[simp] theorem w_MON_Q_STAT_OVF : Fld.w MON.Q_STAT.OVF = 16 := rfl
@[simp] theorem key_MON_Q_DATA_ENTRY : Fld.key MON.Q_DATA.ENTRY = 32 * (0xa05c) + 0 := rfl
@[simp] theorem w_MON_Q_DATA_ENTRY : Fld.w MON.Q_DATA.ENTRY = 32 := rfl
@[simp] theorem key_MON_Q_CTL_FLUSH : Fld.key MON.Q_CTL.FLUSH = 32 * (0xa060) + 16 := rfl
@[simp] theorem w_MON_Q_CTL_FLUSH : Fld.w MON.Q_CTL.FLUSH = 1 := rfl
@[simp] theorem key_MON_Q_CTL_THR : Fld.key MON.Q_CTL.THR = 32 * (0xa060) + 0 := rfl
@[simp] theorem w_MON_Q_CTL_THR : Fld.w MON.Q_CTL.THR = 11 := rfl
@[simp] theorem key_MON_LAST_ENTRY (j : Nat) : Fld.key (MON.LAST.ENTRY j) = 32 * (0xa100 + 4 * j) + 0 := rfl
@[simp] theorem w_MON_LAST_ENTRY (j : Nat) : Fld.w (MON.LAST.ENTRY j) = 32 := rfl
@[simp] theorem key_THM_STAT_WARN : Fld.key THM.STAT.WARN = 32 * (0x9040) + 31 := rfl
@[simp] theorem w_THM_STAT_WARN : Fld.w THM.STAT.WARN = 1 := rfl
@[simp] theorem key_THM_STAT_ENF : Fld.key THM.STAT.ENF = 32 * (0x9040) + 30 := rfl
@[simp] theorem w_THM_STAT_ENF : Fld.w THM.STAT.ENF = 1 := rfl
@[simp] theorem key_THM_STAT_NVM_OK : Fld.key THM.STAT.NVM_OK = 32 * (0x9040) + 29 := rfl
@[simp] theorem w_THM_STAT_NVM_OK : Fld.w THM.STAT.NVM_OK = 1 := rfl
@[simp] theorem key_THM_STAT_HOLD : Fld.key THM.STAT.HOLD = 32 * (0x9040) + 28 := rfl
@[simp] theorem w_THM_STAT_HOLD : Fld.w THM.STAT.HOLD = 1 := rfl
@[simp] theorem key_THM_STAT_LEVEL : Fld.key THM.STAT.LEVEL = 32 * (0x9040) + 0 := rfl
@[simp] theorem w_THM_STAT_LEVEL : Fld.w THM.STAT.LEVEL = 4 := rfl
@[simp] theorem key_THM_REQ_REQ : Fld.key THM.REQ.REQ = 32 * (0x9044) + 31 := rfl
@[simp] theorem w_THM_REQ_REQ : Fld.w THM.REQ.REQ = 1 := rfl
@[simp] theorem key_THM_REQ_GRACE_LEFT : Fld.key THM.REQ.GRACE_LEFT = 32 * (0x9044) + 0 := rfl
@[simp] theorem w_THM_REQ_GRACE_LEFT : Fld.w THM.REQ.GRACE_LEFT = 16 := rfl
@[simp] theorem key_THM_CTL_GRACE : Fld.key THM.CTL.GRACE = 32 * (0x9048) + 0 := rfl
@[simp] theorem w_THM_CTL_GRACE : Fld.w THM.CTL.GRACE = 16 := rfl
@[simp] theorem key_THM_HOT_SENSOR : Fld.key THM.HOT.SENSOR = 32 * (0x904c) + 16 := rfl
@[simp] theorem w_THM_HOT_SENSOR : Fld.w THM.HOT.SENSOR = 7 := rfl
@[simp] theorem key_THM_HOT_TEMP : Fld.key THM.HOT.TEMP = 32 * (0x904c) + 0 := rfl
@[simp] theorem w_THM_HOT_TEMP : Fld.w THM.HOT.TEMP = 12 := rfl
@[simp] theorem key_THM_FAIL_FAIL (j : Nat) : Fld.key (THM.FAIL.FAIL j) = 32 * (0x9050 + 4 * j) + 0 := rfl
@[simp] theorem w_THM_FAIL_FAIL (j : Nat) : Fld.w (THM.FAIL.FAIL j) = 32 := rfl
@[simp] theorem key_THM_TEMP_VALID (j : Nat) : Fld.key (THM.TEMP.VALID j) = 32 * (0x9100 + 4 * j) + 31 := rfl
@[simp] theorem w_THM_TEMP_VALID (j : Nat) : Fld.w (THM.TEMP.VALID j) = 1 := rfl
@[simp] theorem key_THM_TEMP_FAILED (j : Nat) : Fld.key (THM.TEMP.FAILED j) = 32 * (0x9100 + 4 * j) + 30 := rfl
@[simp] theorem w_THM_TEMP_FAILED (j : Nat) : Fld.w (THM.TEMP.FAILED j) = 1 := rfl
@[simp] theorem key_THM_TEMP_CAUSE (j : Nat) : Fld.key (THM.TEMP.CAUSE j) = 32 * (0x9100 + 4 * j) + 28 := rfl
@[simp] theorem w_THM_TEMP_CAUSE (j : Nat) : Fld.w (THM.TEMP.CAUSE j) = 2 := rfl
@[simp] theorem key_THM_TEMP_ISLAND (j : Nat) : Fld.key (THM.TEMP.ISLAND j) = 32 * (0x9100 + 4 * j) + 22 := rfl
@[simp] theorem w_THM_TEMP_ISLAND (j : Nat) : Fld.w (THM.TEMP.ISLAND j) = 6 := rfl
@[simp] theorem key_THM_TEMP_TEMP (j : Nat) : Fld.key (THM.TEMP.TEMP j) = 32 * (0x9100 + 4 * j) + 0 := rfl
@[simp] theorem w_THM_TEMP_TEMP (j : Nat) : Fld.w (THM.TEMP.TEMP j) = 12 := rfl
@[simp] theorem key_FLT_BLOCK_STAT_LO_LINES : Fld.key FLT.BLOCK_STAT_LO.LINES = 32 * (0x4040) + 0 := rfl
@[simp] theorem w_FLT_BLOCK_STAT_LO_LINES : Fld.w FLT.BLOCK_STAT_LO.LINES = 32 := rfl
@[simp] theorem key_FLT_BLOCK_STAT_HI_LINES : Fld.key FLT.BLOCK_STAT_HI.LINES = 32 * (0x4044) + 0 := rfl
@[simp] theorem w_FLT_BLOCK_STAT_HI_LINES : Fld.w FLT.BLOCK_STAT_HI.LINES = 32 := rfl
@[simp] theorem key_FLT_SLOT_STAT_LO_LINES : Fld.key FLT.SLOT_STAT_LO.LINES = 32 * (0x4048) + 0 := rfl
@[simp] theorem w_FLT_SLOT_STAT_LO_LINES : Fld.w FLT.SLOT_STAT_LO.LINES = 32 := rfl
@[simp] theorem key_FLT_SLOT_STAT_HI_LINES : Fld.key FLT.SLOT_STAT_HI.LINES = 32 * (0x404c) + 0 := rfl
@[simp] theorem w_FLT_SLOT_STAT_HI_LINES : Fld.w FLT.SLOT_STAT_HI.LINES = 32 := rfl
@[simp] theorem key_FLT_FIRST_VALID : Fld.key FLT.FIRST.VALID = 32 * (0x4050) + 31 := rfl
@[simp] theorem w_FLT_FIRST_VALID : Fld.w FLT.FIRST.VALID = 1 := rfl
@[simp] theorem key_FLT_FIRST_PAGE : Fld.key FLT.FIRST.PAGE = 32 * (0x4050) + 0 := rfl
@[simp] theorem w_FLT_FIRST_PAGE : Fld.w FLT.FIRST.PAGE = 7 := rfl
@[simp] theorem key_FLT_SRC_SEL_PAGE : Fld.key FLT.SRC_SEL.PAGE = 32 * (0x4054) + 8 := rfl
@[simp] theorem w_FLT_SRC_SEL_PAGE : Fld.w FLT.SRC_SEL.PAGE = 7 := rfl
@[simp] theorem key_FLT_SRC_SEL_BIT : Fld.key FLT.SRC_SEL.BIT = 32 * (0x4054) + 0 := rfl
@[simp] theorem w_FLT_SRC_SEL_BIT : Fld.w FLT.SRC_SEL.BIT = 5 := rfl
@[simp] theorem key_FLT_SRC_CFG_IMPL (k : Nat) : Fld.key (FLT.SRC_CFG.IMPL k) = 32 * (0x150000 + 4 * k) + 31 := rfl
@[simp] theorem w_FLT_SRC_CFG_IMPL (k : Nat) : Fld.w (FLT.SRC_CFG.IMPL k) = 1 := rfl
@[simp] theorem key_FLT_SRC_CFG_FIXED (k : Nat) : Fld.key (FLT.SRC_CFG.FIXED k) = 32 * (0x150000 + 4 * k) + 30 := rfl
@[simp] theorem w_FLT_SRC_CFG_FIXED (k : Nat) : Fld.w (FLT.SRC_CFG.FIXED k) = 1 := rfl
@[simp] theorem key_FLT_SRC_CFG_SEC (k : Nat) : Fld.key (FLT.SRC_CFG.SEC k) = 32 * (0x150000 + 4 * k) + 29 := rfl
@[simp] theorem w_FLT_SRC_CFG_SEC (k : Nat) : Fld.w (FLT.SRC_CFG.SEC k) = 1 := rfl
@[simp] theorem key_FLT_SRC_CFG_KIND (k : Nat) : Fld.key (FLT.SRC_CFG.KIND k) = 32 * (0x150000 + 4 * k) + 28 := rfl
@[simp] theorem w_FLT_SRC_CFG_KIND (k : Nat) : Fld.w (FLT.SRC_CFG.KIND k) = 1 := rfl
@[simp] theorem key_FLT_SRC_CFG_MINCLASS (k : Nat) : Fld.key (FLT.SRC_CFG.MINCLASS k) = 32 * (0x150000 + 4 * k) + 24 := rfl
@[simp] theorem w_FLT_SRC_CFG_MINCLASS (k : Nat) : Fld.w (FLT.SRC_CFG.MINCLASS k) = 3 := rfl
@[simp] theorem key_FLT_SRC_CFG_CLASS (k : Nat) : Fld.key (FLT.SRC_CFG.CLASS k) = 32 * (0x150000 + 4 * k) + 20 := rfl
@[simp] theorem w_FLT_SRC_CFG_CLASS (k : Nat) : Fld.w (FLT.SRC_CFG.CLASS k) = 3 := rfl
@[simp] theorem key_FLT_SRC_CFG_BSAFE (k : Nat) : Fld.key (FLT.SRC_CFG.BSAFE k) = 32 * (0x150000 + 4 * k) + 15 := rfl
@[simp] theorem w_FLT_SRC_CFG_BSAFE (k : Nat) : Fld.w (FLT.SRC_CFG.BSAFE k) = 1 := rfl
@[simp] theorem key_FLT_SRC_CFG_ERRN (k : Nat) : Fld.key (FLT.SRC_CFG.ERRN k) = 32 * (0x150000 + 4 * k) + 14 := rfl
@[simp] theorem w_FLT_SRC_CFG_ERRN (k : Nat) : Fld.w (FLT.SRC_CFG.ERRN k) = 1 := rfl
@[simp] theorem key_FLT_SRC_CFG_CRST (k : Nat) : Fld.key (FLT.SRC_CFG.CRST k) = 32 * (0x150000 + 4 * k) + 13 := rfl
@[simp] theorem w_FLT_SRC_CFG_CRST (k : Nat) : Fld.w (FLT.SRC_CFG.CRST k) = 1 := rfl
@[simp] theorem key_FLT_SRC_CFG_BRST (k : Nat) : Fld.key (FLT.SRC_CFG.BRST k) = 32 * (0x150000 + 4 * k) + 12 := rfl
@[simp] theorem w_FLT_SRC_CFG_BRST (k : Nat) : Fld.w (FLT.SRC_CFG.BRST k) = 1 := rfl
@[simp] theorem key_FLT_SRC_CFG_TRAP (k : Nat) : Fld.key (FLT.SRC_CFG.TRAP k) = 32 * (0x150000 + 4 * k) + 11 := rfl
@[simp] theorem w_FLT_SRC_CFG_TRAP (k : Nat) : Fld.w (FLT.SRC_CFG.TRAP k) = 1 := rfl
@[simp] theorem key_FLT_SRC_CFG_IRQ (k : Nat) : Fld.key (FLT.SRC_CFG.IRQ k) = 32 * (0x150000 + 4 * k) + 10 := rfl
@[simp] theorem w_FLT_SRC_CFG_IRQ (k : Nat) : Fld.w (FLT.SRC_CFG.IRQ k) = 1 := rfl
@[simp] theorem key_FLT_SRC_DEP_DEP1_V : Fld.key FLT.SRC_DEP.DEP1_V = 32 * (0x405c) + 31 := rfl
@[simp] theorem w_FLT_SRC_DEP_DEP1_V : Fld.w FLT.SRC_DEP.DEP1_V = 1 := rfl
@[simp] theorem key_FLT_SRC_DEP_DEP1 : Fld.key FLT.SRC_DEP.DEP1 = 32 * (0x405c) + 24 := rfl
@[simp] theorem w_FLT_SRC_DEP_DEP1 : Fld.w FLT.SRC_DEP.DEP1 = 7 := rfl
@[simp] theorem key_FLT_SRC_DEP_DEP0_V : Fld.key FLT.SRC_DEP.DEP0_V = 32 * (0x405c) + 23 := rfl
@[simp] theorem w_FLT_SRC_DEP_DEP0_V : Fld.w FLT.SRC_DEP.DEP0_V = 1 := rfl
@[simp] theorem key_FLT_SRC_DEP_DEP0 : Fld.key FLT.SRC_DEP.DEP0 = 32 * (0x405c) + 16 := rfl
@[simp] theorem w_FLT_SRC_DEP_DEP0 : Fld.w FLT.SRC_DEP.DEP0 = 7 := rfl
@[simp] theorem key_FLT_INJ_KEY_KEY : Fld.key FLT.INJ_KEY.KEY = 32 * (0x4060) + 0 := rfl
@[simp] theorem w_FLT_INJ_KEY_KEY : Fld.w FLT.INJ_KEY.KEY = 16 := rfl
@[simp] theorem key_FLT_INJ_EN : Fld.key FLT.INJ.EN = 32 * (0x4064) + 31 := rfl
@[simp] theorem w_FLT_INJ_EN : Fld.w FLT.INJ.EN = 1 := rfl
@[simp] theorem key_FLT_INJ_FTM : Fld.key FLT.INJ.FTM = 32 * (0x4064) + 30 := rfl
@[simp] theorem w_FLT_INJ_FTM : Fld.w FLT.INJ.FTM = 1 := rfl
@[simp] theorem key_FLT_INJ_DENIED : Fld.key FLT.INJ.DENIED = 32 * (0x4064) + 8 := rfl
@[simp] theorem w_FLT_INJ_DENIED : Fld.w FLT.INJ.DENIED = 8 := rfl
@[simp] theorem key_FLT_INJ_CLOSE : Fld.key FLT.INJ.CLOSE = 32 * (0x4064) + 0 := rfl
@[simp] theorem w_FLT_INJ_CLOSE : Fld.w FLT.INJ.CLOSE = 1 := rfl
@[simp] theorem key_FLT_SHADOW_COUNT : Fld.key FLT.SHADOW.COUNT = 32 * (0x4068) + 0 := rfl
@[simp] theorem w_FLT_SHADOW_COUNT : Fld.w FLT.SHADOW.COUNT = 16 := rfl
@[simp] theorem key_FLT_ACCESS_NOTE_MASTER : Fld.key FLT.ACCESS_NOTE.MASTER = 32 * (0x406c) + 29 := rfl
@[simp] theorem w_FLT_ACCESS_NOTE_MASTER : Fld.w FLT.ACCESS_NOTE.MASTER = 3 := rfl
@[simp] theorem key_FLT_ACCESS_NOTE_CAUSE : Fld.key FLT.ACCESS_NOTE.CAUSE = 32 * (0x406c) + 27 := rfl
@[simp] theorem w_FLT_ACCESS_NOTE_CAUSE : Fld.w FLT.ACCESS_NOTE.CAUSE = 2 := rfl
@[simp] theorem key_FLT_ACCESS_NOTE_PAGE : Fld.key FLT.ACCESS_NOTE.PAGE = 32 * (0x406c) + 12 := rfl
@[simp] theorem w_FLT_ACCESS_NOTE_PAGE : Fld.w FLT.ACCESS_NOTE.PAGE = 7 := rfl
@[simp] theorem key_FLT_ACCESS_NOTE_OFFSET : Fld.key FLT.ACCESS_NOTE.OFFSET = 32 * (0x406c) + 0 := rfl
@[simp] theorem w_FLT_ACCESS_NOTE_OFFSET : Fld.w FLT.ACCESS_NOTE.OFFSET = 12 := rfl
@[simp] theorem key_FLT_TERM_SET : Fld.key FLT.TERM.SET = 32 * (0x4070) + 31 := rfl
@[simp] theorem w_FLT_TERM_SET : Fld.w FLT.TERM.SET = 1 := rfl
@[simp] theorem key_FLT_TERM_FORCED : Fld.key FLT.TERM.FORCED = 32 * (0x4070) + 30 := rfl
@[simp] theorem w_FLT_TERM_FORCED : Fld.w FLT.TERM.FORCED = 1 := rfl
@[simp] theorem key_FLT_TERM_PAGE : Fld.key FLT.TERM.PAGE = 32 * (0x4070) + 8 := rfl
@[simp] theorem w_FLT_TERM_PAGE : Fld.w FLT.TERM.PAGE = 7 := rfl
@[simp] theorem key_FLT_TERM_BIT : Fld.key FLT.TERM.BIT = 32 * (0x4070) + 0 := rfl
@[simp] theorem w_FLT_TERM_BIT : Fld.w FLT.TERM.BIT = 5 := rfl
@[simp] theorem key_IRQ_ROUTE_SEL_PAGE : Fld.key IRQ.ROUTE_SEL.PAGE = 32 * (0x5050) + 8 := rfl
@[simp] theorem w_IRQ_ROUTE_SEL_PAGE : Fld.w IRQ.ROUTE_SEL.PAGE = 7 := rfl
@[simp] theorem key_IRQ_ROUTE_SEL_BIT : Fld.key IRQ.ROUTE_SEL.BIT = 32 * (0x5050) + 0 := rfl
@[simp] theorem w_IRQ_ROUTE_SEL_BIT : Fld.w IRQ.ROUTE_SEL.BIT = 5 := rfl
@[simp] theorem key_IRQ_ROUTE_M4 (k : Nat) : Fld.key (IRQ.ROUTE.M4 k) = 32 * (0x160000 + 4 * k) + 4 := rfl
@[simp] theorem w_IRQ_ROUTE_M4 (k : Nat) : Fld.w (IRQ.ROUTE.M4 k) = 1 := rfl
@[simp] theorem key_IRQ_ROUTE_PINS (k : Nat) : Fld.key (IRQ.ROUTE.PINS k) = 32 * (0x160000 + 4 * k) + 0 := rfl
@[simp] theorem w_IRQ_ROUTE_PINS (k : Nat) : Fld.w (IRQ.ROUTE.PINS k) = 4 := rfl
@[simp] theorem key_IRQ_PEND_LO_PAGES (j : Nat) : Fld.key (IRQ.PEND_LO.PAGES j) = 32 * (0x5060 + 8 * j) + 0 := rfl
@[simp] theorem w_IRQ_PEND_LO_PAGES (j : Nat) : Fld.w (IRQ.PEND_LO.PAGES j) = 32 := rfl
@[simp] theorem key_IRQ_PEND_HI_PAGES (j : Nat) : Fld.key (IRQ.PEND_HI.PAGES j) = 32 * (0x5064 + 8 * j) + 0 := rfl
@[simp] theorem w_IRQ_PEND_HI_PAGES (j : Nat) : Fld.w (IRQ.PEND_HI.PAGES j) = 32 := rfl
@[simp] theorem key_APC_CORE_STAT_WDR : Fld.key APC.CORE_STAT.WDR = 32 * (0x2e040) + 8 := rfl
@[simp] theorem w_APC_CORE_STAT_WDR : Fld.w APC.CORE_STAT.WDR = 4 := rfl
@[simp] theorem key_APC_CORE_STAT_HALTED : Fld.key APC.CORE_STAT.HALTED = 32 * (0x2e040) + 4 := rfl
@[simp] theorem w_APC_CORE_STAT_HALTED : Fld.w APC.CORE_STAT.HALTED = 4 := rfl
@[simp] theorem key_APC_CORE_STAT_RUN : Fld.key APC.CORE_STAT.RUN = 32 * (0x2e040) + 0 := rfl
@[simp] theorem w_APC_CORE_STAT_RUN : Fld.w APC.CORE_STAT.RUN = 4 := rfl
@[simp] theorem key_APC_PIN_CTL_PEND : Fld.key APC.PIN_CTL.PEND = 32 * (0x2e044) + 31 := rfl
@[simp] theorem w_APC_PIN_CTL_PEND : Fld.w APC.PIN_CTL.PEND = 1 := rfl
@[simp] theorem key_APC_PIN_CTL_MASK : Fld.key APC.PIN_CTL.MASK = 32 * (0x2e044) + 0 := rfl
@[simp] theorem w_APC_PIN_CTL_MASK : Fld.w APC.PIN_CTL.MASK = 1 := rfl
@[simp] theorem key_APC_WDOG_EN (j : Nat) : Fld.key (APC.WDOG.EN j) = 32 * (0x2e048 + 4 * j) + 31 := rfl
@[simp] theorem w_APC_WDOG_EN (j : Nat) : Fld.w (APC.WDOG.EN j) = 1 := rfl
@[simp] theorem key_APC_WDOG_RST (j : Nat) : Fld.key (APC.WDOG.RST j) = 32 * (0x2e048 + 4 * j) + 30 := rfl
@[simp] theorem w_APC_WDOG_RST (j : Nat) : Fld.w (APC.WDOG.RST j) = 1 := rfl
@[simp] theorem key_APC_WDOG_MS (j : Nat) : Fld.key (APC.WDOG.MS j) = 32 * (0x2e048 + 4 * j) + 0 := rfl
@[simp] theorem w_APC_WDOG_MS (j : Nat) : Fld.w (APC.WDOG.MS j) = 16 := rfl
@[simp] theorem key_APC_WDOG_KICK_KEY : Fld.key APC.WDOG_KICK.KEY = 32 * (0x2e058) + 8 := rfl
@[simp] theorem w_APC_WDOG_KICK_KEY : Fld.w APC.WDOG_KICK.KEY = 8 := rfl
@[simp] theorem key_APC_WDOG_KICK_CORES : Fld.key APC.WDOG_KICK.CORES = 32 * (0x2e058) + 0 := rfl
@[simp] theorem w_APC_WDOG_KICK_CORES : Fld.w APC.WDOG_KICK.CORES = 4 := rfl
@[simp] theorem key_APC_MPU_NOTE_VALID : Fld.key APC.MPU_NOTE.VALID = 32 * (0x2e05c) + 31 := rfl
@[simp] theorem w_APC_MPU_NOTE_VALID : Fld.w APC.MPU_NOTE.VALID = 1 := rfl
@[simp] theorem key_APC_MPU_NOTE_WRITE : Fld.key APC.MPU_NOTE.WRITE = 32 * (0x2e05c) + 30 := rfl
@[simp] theorem w_APC_MPU_NOTE_WRITE : Fld.w APC.MPU_NOTE.WRITE = 1 := rfl
@[simp] theorem key_APC_MPU_NOTE_EXEC : Fld.key APC.MPU_NOTE.EXEC = 32 * (0x2e05c) + 29 := rfl
@[simp] theorem w_APC_MPU_NOTE_EXEC : Fld.w APC.MPU_NOTE.EXEC = 1 := rfl
@[simp] theorem key_APC_MPU_NOTE_CORE : Fld.key APC.MPU_NOTE.CORE = 32 * (0x2e05c) + 24 := rfl
@[simp] theorem w_APC_MPU_NOTE_CORE : Fld.w APC.MPU_NOTE.CORE = 2 := rfl
@[simp] theorem key_APC_MPU_ADDR_ADDR : Fld.key APC.MPU_ADDR.ADDR = 32 * (0x2e060) + 0 := rfl
@[simp] theorem w_APC_MPU_ADDR_ADDR : Fld.w APC.MPU_ADDR.ADDR = 32 := rfl
@[simp] theorem key_SEC_STATE_PROV : Fld.key SEC.STATE.PROV = 32 * (0x8040) + 31 := rfl
@[simp] theorem w_SEC_STATE_PROV : Fld.w SEC.STATE.PROV = 1 := rfl
@[simp] theorem key_SEC_STATE_PROV_DEAD : Fld.key SEC.STATE.PROV_DEAD = 32 * (0x8040) + 30 := rfl
@[simp] theorem w_SEC_STATE_PROV_DEAD : Fld.w SEC.STATE.PROV_DEAD = 1 := rfl
@[simp] theorem key_SEC_STATE_EPOCH : Fld.key SEC.STATE.EPOCH = 32 * (0x8040) + 24 := rfl
@[simp] theorem w_SEC_STATE_EPOCH : Fld.w SEC.STATE.EPOCH = 6 := rfl
@[simp] theorem key_SEC_STATE_LOCK : Fld.key SEC.STATE.LOCK = 32 * (0x8040) + 23 := rfl
@[simp] theorem w_SEC_STATE_LOCK : Fld.w SEC.STATE.LOCK = 1 := rfl
@[simp] theorem key_SEC_STATE_ERASED : Fld.key SEC.STATE.ERASED = 32 * (0x8040) + 22 := rfl
@[simp] theorem w_SEC_STATE_ERASED : Fld.w SEC.STATE.ERASED = 1 := rfl
@[simp] theorem key_SEC_STATE_FTM : Fld.key SEC.STATE.FTM = 32 * (0x8040) + 21 := rfl
@[simp] theorem w_SEC_STATE_FTM : Fld.w SEC.STATE.FTM = 1 := rfl
@[simp] theorem key_SEC_STATE_SCOPE : Fld.key SEC.STATE.SCOPE = 32 * (0x8040) + 18 := rfl
@[simp] theorem w_SEC_STATE_SCOPE : Fld.w SEC.STATE.SCOPE = 3 := rfl
@[simp] theorem key_SEC_STATE_SLOTS : Fld.key SEC.STATE.SLOTS = 32 * (0x8040) + 0 := rfl
@[simp] theorem w_SEC_STATE_SLOTS : Fld.w SEC.STATE.SLOTS = 16 := rfl
@[simp] theorem key_SEC_BOOT_STAT_DONE : Fld.key SEC.BOOT_STAT.DONE = 32 * (0x8044) + 31 := rfl
@[simp] theorem w_SEC_BOOT_STAT_DONE : Fld.w SEC.BOOT_STAT.DONE = 1 := rfl
@[simp] theorem key_SEC_BOOT_STAT_CORES : Fld.key SEC.BOOT_STAT.CORES = 32 * (0x8044) + 30 := rfl
@[simp] theorem w_SEC_BOOT_STAT_CORES : Fld.w SEC.BOOT_STAT.CORES = 1 := rfl
@[simp] theorem key_SEC_BOOT_STAT_COPY : Fld.key SEC.BOOT_STAT.COPY = 32 * (0x8044) + 28 := rfl
@[simp] theorem w_SEC_BOOT_STAT_COPY : Fld.w SEC.BOOT_STAT.COPY = 2 := rfl
@[simp] theorem key_SEC_BOOT_STAT_RESULT : Fld.key SEC.BOOT_STAT.RESULT = 32 * (0x8044) + 24 := rfl
@[simp] theorem w_SEC_BOOT_STAT_RESULT : Fld.w SEC.BOOT_STAT.RESULT = 4 := rfl
@[simp] theorem key_SEC_BOOT_STAT_SVN : Fld.key SEC.BOOT_STAT.SVN = 32 * (0x8044) + 0 := rfl
@[simp] theorem w_SEC_BOOT_STAT_SVN : Fld.w SEC.BOOT_STAT.SVN = 16 := rfl
@[simp] theorem key_SEC_ALARM_STAT_SLEEP : Fld.key SEC.ALARM_STAT.SLEEP = 32 * (0x8048) + 8 := rfl
@[simp] theorem w_SEC_ALARM_STAT_SLEEP : Fld.w SEC.ALARM_STAT.SLEEP = 1 := rfl
@[simp] theorem key_SEC_ALARM_STAT_SRC : Fld.key SEC.ALARM_STAT.SRC = 32 * (0x8048) + 0 := rfl
@[simp] theorem w_SEC_ALARM_STAT_SRC : Fld.w SEC.ALARM_STAT.SRC = 6 := rfl
@[simp] theorem key_SEC_ALARM_LVL_LVL : Fld.key SEC.ALARM_LVL.LVL = 32 * (0x804c) + 0 := rfl
@[simp] theorem w_SEC_ALARM_LVL_LVL : Fld.w SEC.ALARM_LVL.LVL = 12 := rfl
@[simp] theorem key_SEC_MBX_CMD_CMD : Fld.key SEC.MBX_CMD.CMD = 32 * (0x8050) + 24 := rfl
@[simp] theorem w_SEC_MBX_CMD_CMD : Fld.w SEC.MBX_CMD.CMD = 8 := rfl
@[simp] theorem key_SEC_MBX_CMD_LEN : Fld.key SEC.MBX_CMD.LEN = 32 * (0x8050) + 0 := rfl
@[simp] theorem w_SEC_MBX_CMD_LEN : Fld.w SEC.MBX_CMD.LEN = 24 := rfl
@[simp] theorem key_SEC_MBX_STAT_BUSY : Fld.key SEC.MBX_STAT.BUSY = 32 * (0x8054) + 31 := rfl
@[simp] theorem w_SEC_MBX_STAT_BUSY : Fld.w SEC.MBX_STAT.BUSY = 1 := rfl
@[simp] theorem key_SEC_MBX_STAT_DATA_WAIT : Fld.key SEC.MBX_STAT.DATA_WAIT = 32 * (0x8054) + 30 := rfl
@[simp] theorem w_SEC_MBX_STAT_DATA_WAIT : Fld.w SEC.MBX_STAT.DATA_WAIT = 1 := rfl
@[simp] theorem key_SEC_MBX_STAT_LAST : Fld.key SEC.MBX_STAT.LAST = 32 * (0x8054) + 16 := rfl
@[simp] theorem w_SEC_MBX_STAT_LAST : Fld.w SEC.MBX_STAT.LAST = 8 := rfl
@[simp] theorem key_SEC_MBX_STAT_RESULT : Fld.key SEC.MBX_STAT.RESULT = 32 * (0x8054) + 8 := rfl
@[simp] theorem w_SEC_MBX_STAT_RESULT : Fld.w SEC.MBX_STAT.RESULT = 8 := rfl
@[simp] theorem key_SEC_MBX_STAT_OUT : Fld.key SEC.MBX_STAT.OUT = 32 * (0x8054) + 0 := rfl
@[simp] theorem w_SEC_MBX_STAT_OUT : Fld.w SEC.MBX_STAT.OUT = 8 := rfl
@[simp] theorem key_SEC_MBX_ARG_ARG : Fld.key SEC.MBX_ARG.ARG = 32 * (0x8058) + 0 := rfl
@[simp] theorem w_SEC_MBX_ARG_ARG : Fld.w SEC.MBX_ARG.ARG = 32 := rfl
@[simp] theorem key_SEC_MBX_DATA_DATA : Fld.key SEC.MBX_DATA.DATA = 32 * (0x805c) + 0 := rfl
@[simp] theorem w_SEC_MBX_DATA_DATA : Fld.w SEC.MBX_DATA.DATA = 32 := rfl
@[simp] theorem key_SEC_UID_LO_UID : Fld.key SEC.UID_LO.UID = 32 * (0x8060) + 0 := rfl
@[simp] theorem w_SEC_UID_LO_UID : Fld.w SEC.UID_LO.UID = 32 := rfl
@[simp] theorem key_SEC_UID_HI_UID : Fld.key SEC.UID_HI.UID = 32 * (0x8064) + 0 := rfl
@[simp] theorem w_SEC_UID_HI_UID : Fld.w SEC.UID_HI.UID = 32 := rfl
@[simp] theorem key_SEC_DBG_FAILS : Fld.key SEC.DBG.FAILS = 32 * (0x8068) + 16 := rfl
@[simp] theorem w_SEC_DBG_FAILS : Fld.w SEC.DBG.FAILS = 2 := rfl
@[simp] theorem key_SEC_TRAP_NOTE_VALID : Fld.key SEC.TRAP_NOTE.VALID = 32 * (0x806c) + 31 := rfl
@[simp] theorem w_SEC_TRAP_NOTE_VALID : Fld.w SEC.TRAP_NOTE.VALID = 1 := rfl
@[simp] theorem key_SEC_TRAP_NOTE_PAGE : Fld.key SEC.TRAP_NOTE.PAGE = 32 * (0x806c) + 8 := rfl
@[simp] theorem w_SEC_TRAP_NOTE_PAGE : Fld.w SEC.TRAP_NOTE.PAGE = 7 := rfl
@[simp] theorem key_SEC_TRAP_NOTE_BIT : Fld.key SEC.TRAP_NOTE.BIT = 32 * (0x806c) + 0 := rfl
@[simp] theorem w_SEC_TRAP_NOTE_BIT : Fld.w SEC.TRAP_NOTE.BIT = 5 := rfl
@[simp] theorem key_SEC_TRAP_CFG_HALT : Fld.key SEC.TRAP_CFG.HALT = 32 * (0x8070) + 0 := rfl
@[simp] theorem w_SEC_TRAP_CFG_HALT : Fld.w SEC.TRAP_CFG.HALT = 1 := rfl
@[simp] theorem key_SEC_KEY_INFO_TYPE (j : Nat) : Fld.key (SEC.KEY_INFO.TYPE j) = 32 * (0x8080 + 8 * j) + 28 := rfl
@[simp] theorem w_SEC_KEY_INFO_TYPE (j : Nat) : Fld.w (SEC.KEY_INFO.TYPE j) = 4 := rfl
@[simp] theorem key_SEC_KEY_ID_ID (j : Nat) : Fld.key (SEC.KEY_ID.ID j) = 32 * (0x8084 + 8 * j) + 0 := rfl
@[simp] theorem w_SEC_KEY_ID_ID (j : Nat) : Fld.w (SEC.KEY_ID.ID j) = 32 := rfl
@[simp] theorem key_NVM_STAT_BUSY : Fld.key NVM.STAT.BUSY = 32 * (0x7040) + 31 := rfl
@[simp] theorem w_NVM_STAT_BUSY : Fld.w NVM.STAT.BUSY = 1 := rfl
@[simp] theorem key_NVM_STAT_WINDOW : Fld.key NVM.STAT.WINDOW = 32 * (0x7040) + 30 := rfl
@[simp] theorem w_NVM_STAT_WINDOW : Fld.w NVM.STAT.WINDOW = 1 := rfl
@[simp] theorem key_NVM_STAT_REGION : Fld.key NVM.STAT.REGION = 32 * (0x7040) + 0 := rfl
@[simp] theorem w_NVM_STAT_REGION : Fld.w NVM.STAT.REGION = 4 := rfl
@[simp] theorem key_NVM_RESULT_CAUSE : Fld.key NVM.RESULT.CAUSE = 32 * (0x7044) + 28 := rfl
@[simp] theorem w_NVM_RESULT_CAUSE : Fld.w NVM.RESULT.CAUSE = 4 := rfl
@[simp] theorem key_NVM_RESULT_REGION : Fld.key NVM.RESULT.REGION = 32 * (0x7044) + 24 := rfl
@[simp] theorem w_NVM_RESULT_REGION : Fld.w NVM.RESULT.REGION = 4 := rfl
@[simp] theorem key_NVM_ECC_UE_CNT : Fld.key NVM.ECC.UE_CNT = 32 * (0x7048) + 16 := rfl
@[simp] theorem w_NVM_ECC_UE_CNT : Fld.w NVM.ECC.UE_CNT = 16 := rfl
@[simp] theorem key_NVM_ECC_CE_CNT : Fld.key NVM.ECC.CE_CNT = 32 * (0x7048) + 0 := rfl
@[simp] theorem w_NVM_ECC_CE_CNT : Fld.w NVM.ECC.CE_CNT = 16 := rfl
@[simp] theorem key_NVM_CAL_SEL_INDEX : Fld.key NVM.CAL_SEL.INDEX = 32 * (0x7050) + 0 := rfl
@[simp] theorem w_NVM_CAL_SEL_INDEX : Fld.w NVM.CAL_SEL.INDEX = 11 := rfl
@[simp] theorem key_NVM_CAL_DATA_VALUE : Fld.key NVM.CAL_DATA.VALUE = 32 * (0x7054) + 0 := rfl
@[simp] theorem w_NVM_CAL_DATA_VALUE : Fld.w NVM.CAL_DATA.VALUE = 32 := rfl
@[simp] theorem key_NVM_CAL_ORIGIN_ORIGIN : Fld.key NVM.CAL_ORIGIN.ORIGIN = 32 * (0x7058) + 0 := rfl
@[simp] theorem w_NVM_CAL_ORIGIN_ORIGIN : Fld.w NVM.CAL_ORIGIN.ORIGIN = 32 := rfl
@[simp] theorem key_NVM_CAL_CTL_PEND : Fld.key NVM.CAL_CTL.PEND = 32 * (0x705c) + 31 := rfl
@[simp] theorem w_NVM_CAL_CTL_PEND : Fld.w NVM.CAL_CTL.PEND = 1 := rfl
@[simp] theorem key_NVM_CAL_CTL_DIRTY : Fld.key NVM.CAL_CTL.DIRTY = 32 * (0x705c) + 30 := rfl
@[simp] theorem w_NVM_CAL_CTL_DIRTY : Fld.w NVM.CAL_CTL.DIRTY = 1 := rfl
@[simp] theorem key_NVM_CAL_CTL_KEY : Fld.key NVM.CAL_CTL.KEY = 32 * (0x705c) + 8 := rfl
@[simp] theorem w_NVM_CAL_CTL_KEY : Fld.w NVM.CAL_CTL.KEY = 8 := rfl
@[simp] theorem key_NVM_CAL_CTL_CHECK_EN : Fld.key NVM.CAL_CTL.CHECK_EN = 32 * (0x705c) + 2 := rfl
@[simp] theorem w_NVM_CAL_CTL_CHECK_EN : Fld.w NVM.CAL_CTL.CHECK_EN = 1 := rfl
@[simp] theorem key_NVM_CAL_CTL_REVERT : Fld.key NVM.CAL_CTL.REVERT = 32 * (0x705c) + 1 := rfl
@[simp] theorem w_NVM_CAL_CTL_REVERT : Fld.w NVM.CAL_CTL.REVERT = 1 := rfl
@[simp] theorem key_NVM_CAL_CTL_WRITE : Fld.key NVM.CAL_CTL.WRITE = 32 * (0x705c) + 0 := rfl
@[simp] theorem w_NVM_CAL_CTL_WRITE : Fld.w NVM.CAL_CTL.WRITE = 1 := rfl
@[simp] theorem key_NVM_CAL_CRC_CRC : Fld.key NVM.CAL_CRC.CRC = 32 * (0x7060) + 0 := rfl
@[simp] theorem w_NVM_CAL_CRC_CRC : Fld.w NVM.CAL_CRC.CRC = 32 := rfl
@[simp] theorem key_NVM_CAL_CRC_EXP_CRC : Fld.key NVM.CAL_CRC_EXP.CRC = 32 * (0x7064) + 0 := rfl
@[simp] theorem w_NVM_CAL_CRC_EXP_CRC : Fld.w NVM.CAL_CRC_EXP.CRC = 32 := rfl
@[simp] theorem key_NVM_BPT_CTL_PEND : Fld.key NVM.BPT_CTL.PEND = 32 * (0x7070) + 31 := rfl
@[simp] theorem w_NVM_BPT_CTL_PEND : Fld.w NVM.BPT_CTL.PEND = 1 := rfl
@[simp] theorem key_NVM_BPT_CTL_KEY : Fld.key NVM.BPT_CTL.KEY = 32 * (0x7070) + 8 := rfl
@[simp] theorem w_NVM_BPT_CTL_KEY : Fld.w NVM.BPT_CTL.KEY = 8 := rfl
@[simp] theorem key_NVM_BPT_CTL_SAVE : Fld.key NVM.BPT_CTL.SAVE = 32 * (0x7070) + 0 := rfl
@[simp] theorem w_NVM_BPT_CTL_SAVE : Fld.w NVM.BPT_CTL.SAVE = 1 := rfl
@[simp] theorem key_NVM_HDR_CTL_PEND : Fld.key NVM.HDR_CTL.PEND = 32 * (0x7074) + 31 := rfl
@[simp] theorem w_NVM_HDR_CTL_PEND : Fld.w NVM.HDR_CTL.PEND = 1 := rfl
@[simp] theorem key_NVM_HDR_CTL_KEY : Fld.key NVM.HDR_CTL.KEY = 32 * (0x7074) + 8 := rfl
@[simp] theorem w_NVM_HDR_CTL_KEY : Fld.w NVM.HDR_CTL.KEY = 8 := rfl
@[simp] theorem key_NVM_HDR_CTL_COPY : Fld.key NVM.HDR_CTL.COPY = 32 * (0x7074) + 4 := rfl
@[simp] theorem w_NVM_HDR_CTL_COPY : Fld.w NVM.HDR_CTL.COPY = 1 := rfl
@[simp] theorem key_NVM_HDR_CTL_WRITE : Fld.key NVM.HDR_CTL.WRITE = 32 * (0x7074) + 0 := rfl
@[simp] theorem w_NVM_HDR_CTL_WRITE : Fld.w NVM.HDR_CTL.WRITE = 1 := rfl
@[simp] theorem key_NVM_HDR_DELEG_MASK (j : Nat) : Fld.key (NVM.HDR_DELEG.MASK j) = 32 * (0x7078 + 4 * j) + 0 := rfl
@[simp] theorem w_NVM_HDR_DELEG_MASK (j : Nat) : Fld.w (NVM.HDR_DELEG.MASK j) = 32 := rfl
@[simp] theorem key_NVM_HDR_SVN_MIN_SVN : Fld.key NVM.HDR_SVN.MIN_SVN = 32 * (0x7088) + 0 := rfl
@[simp] theorem w_NVM_HDR_SVN_MIN_SVN : Fld.w NVM.HDR_SVN.MIN_SVN = 16 := rfl
@[simp] theorem key_NVM_OP_SEC_LO_SEC : Fld.key NVM.OP_SEC_LO.SEC = 32 * (0x7090) + 0 := rfl
@[simp] theorem w_NVM_OP_SEC_LO_SEC : Fld.w NVM.OP_SEC_LO.SEC = 32 := rfl
@[simp] theorem key_NVM_OP_SEC_HI_SEC : Fld.key NVM.OP_SEC_HI.SEC = 32 * (0x7094) + 0 := rfl
@[simp] theorem w_NVM_OP_SEC_HI_SEC : Fld.w NVM.OP_SEC_HI.SEC = 4 := rfl
@[simp] theorem key_NVM_PCYC_COUNT : Fld.key NVM.PCYC.COUNT = 32 * (0x7098) + 0 := rfl
@[simp] theorem w_NVM_PCYC_COUNT : Fld.w NVM.PCYC.COUNT = 24 := rfl
@[simp] theorem key_EVT_CTL_FLUSH : Fld.key EVT.CTL.FLUSH = 32 * (0x6040) + 0 := rfl
@[simp] theorem w_EVT_CTL_FLUSH : Fld.w EVT.CTL.FLUSH = 1 := rfl
@[simp] theorem key_EVT_LAST_SEQ : Fld.key EVT.LAST.SEQ = 32 * (0x6044) + 0 := rfl
@[simp] theorem w_EVT_LAST_SEQ : Fld.w EVT.LAST.SEQ = 32 := rfl
@[simp] theorem key_EVT_OLDEST_SEQ : Fld.key EVT.OLDEST.SEQ = 32 * (0x6048) + 0 := rfl
@[simp] theorem w_EVT_OLDEST_SEQ : Fld.w EVT.OLDEST.SEQ = 32 := rfl
@[simp] theorem key_EVT_PERM_COUNT : Fld.key EVT.PERM.COUNT = 32 * (0x604c) + 0 := rfl
@[simp] theorem w_EVT_PERM_COUNT : Fld.w EVT.PERM.COUNT = 11 := rfl
@[simp] theorem key_EVT_BUF_FLUSHING : Fld.key EVT.BUF.FLUSHING = 32 * (0x6050) + 31 := rfl
@[simp] theorem w_EVT_BUF_FLUSHING : Fld.w EVT.BUF.FLUSHING = 1 := rfl
@[simp] theorem key_EVT_BUF_SCAN : Fld.key EVT.BUF.SCAN = 32 * (0x6050) + 30 := rfl
@[simp] theorem w_EVT_BUF_SCAN : Fld.w EVT.BUF.SCAN = 1 := rfl
@[simp] theorem key_EVT_BUF_PRIV : Fld.key EVT.BUF.PRIV = 32 * (0x6050) + 16 := rfl
@[simp] theorem w_EVT_BUF_PRIV : Fld.w EVT.BUF.PRIV = 9 := rfl
@[simp] theorem key_EVT_BUF_LEVEL : Fld.key EVT.BUF.LEVEL = 32 * (0x6050) + 0 := rfl
@[simp] theorem w_EVT_BUF_LEVEL : Fld.w EVT.BUF.LEVEL = 9 := rfl
@[simp] theorem key_EVT_LOSS_LOST : Fld.key EVT.LOSS.LOST = 32 * (0x6054) + 16 := rfl
@[simp] theorem w_EVT_LOSS_LOST : Fld.w EVT.LOSS.LOST = 16 := rfl
@[simp] theorem key_EVT_LOSS_DROPPED : Fld.key EVT.LOSS.DROPPED = 32 * (0x6054) + 0 := rfl
@[simp] theorem w_EVT_LOSS_DROPPED : Fld.w EVT.LOSS.DROPPED = 16 := rfl
@[simp] theorem key_EVT_CURSOR_SEQ : Fld.key EVT.CURSOR.SEQ = 32 * (0x6058) + 0 := rfl
@[simp] theorem w_EVT_CURSOR_SEQ : Fld.w EVT.CURSOR.SEQ = 32 := rfl
@[simp] theorem key_EVT_WIN_STAT_READY : Fld.key EVT.WIN_STAT.READY = 32 * (0x605c) + 31 := rfl
@[simp] theorem w_EVT_WIN_STAT_READY : Fld.w EVT.WIN_STAT.READY = 1 := rfl
@[simp] theorem key_EVT_WIN_STAT_SRC : Fld.key EVT.WIN_STAT.SRC = 32 * (0x605c) + 29 := rfl
@[simp] theorem w_EVT_WIN_STAT_SRC : Fld.w EVT.WIN_STAT.SRC = 2 := rfl
@[simp] theorem key_EVT_WIN_STAT_MATCH : Fld.key EVT.WIN_STAT.MATCH = 32 * (0x605c) + 28 := rfl
@[simp] theorem w_EVT_WIN_STAT_MATCH : Fld.w EVT.WIN_STAT.MATCH = 1 := rfl
@[simp] theorem key_EVT_WIN_STAT_CRC_OK : Fld.key EVT.WIN_STAT.CRC_OK = 32 * (0x605c) + 27 := rfl
@[simp] theorem w_EVT_WIN_STAT_CRC_OK : Fld.w EVT.WIN_STAT.CRC_OK = 1 := rfl
@[simp] theorem key_EVT_WIN_STAT_LOADS : Fld.key EVT.WIN_STAT.LOADS = 32 * (0x605c) + 0 := rfl
@[simp] theorem w_EVT_WIN_STAT_LOADS : Fld.w EVT.WIN_STAT.LOADS = 8 := rfl
@[simp] theorem key_EVT_RL_SEL_CODE : Fld.key EVT.RL_SEL.CODE = 32 * (0x6060) + 0 := rfl
@[simp] theorem w_EVT_RL_SEL_CODE : Fld.w EVT.RL_SEL.CODE = 16 := rfl
@[simp] theorem key_EVT_RL_CFG_DEPTH (c : Nat) : Fld.key (EVT.RL_CFG.DEPTH c) = 32 * (0x200000 + 8 * c) + 16 := rfl
@[simp] theorem w_EVT_RL_CFG_DEPTH (c : Nat) : Fld.w (EVT.RL_CFG.DEPTH c) = 8 := rfl
@[simp] theorem key_EVT_RL_CFG_REFILL (c : Nat) : Fld.key (EVT.RL_CFG.REFILL c) = 32 * (0x200000 + 8 * c) + 0 := rfl
@[simp] theorem w_EVT_RL_CFG_REFILL (c : Nat) : Fld.w (EVT.RL_CFG.REFILL c) = 16 := rfl
@[simp] theorem key_EVT_RL_STAT_TOKENS (c : Nat) : Fld.key (EVT.RL_STAT.TOKENS c) = 32 * (0x200000 + 8 * c + 4) + 24 := rfl
@[simp] theorem w_EVT_RL_STAT_TOKENS (c : Nat) : Fld.w (EVT.RL_STAT.TOKENS c) = 8 := rfl
@[simp] theorem key_EVT_RL_STAT_PENDING (c : Nat) : Fld.key (EVT.RL_STAT.PENDING c) = 32 * (0x200000 + 8 * c + 4) + 0 := rfl
@[simp] theorem w_EVT_RL_STAT_PENDING (c : Nat) : Fld.w (EVT.RL_STAT.PENDING c) = 16 := rfl
@[simp] theorem key_EVT_WIN_DATA (j : Nat) : Fld.key (EVT.WIN.DATA j) = 32 * (0x6080 + 4 * j) + 0 := rfl
@[simp] theorem w_EVT_WIN_DATA (j : Nat) : Fld.w (EVT.WIN.DATA j) = 32 := rfl
@[simp] theorem key_IDN_DEVICE_ID_ID : Fld.key IDN.DEVICE_ID.ID = 32 * (0x40) + 0 := rfl
@[simp] theorem w_IDN_DEVICE_ID_ID : Fld.w IDN.DEVICE_ID.ID = 32 := rfl
@[simp] theorem key_IDN_SI_REV_REV : Fld.key IDN.SI_REV.REV = 32 * (0x44) + 0 := rfl
@[simp] theorem w_IDN_SI_REV_REV : Fld.w IDN.SI_REV.REV = 32 := rfl
@[simp] theorem key_OWN_DELEGATE_MASK (j : Nat) : Fld.key (OWN.DELEGATE.MASK j) = 32 * (0x1060 + 4 * j) + 0 := rfl
@[simp] theorem w_OWN_DELEGATE_MASK (j : Nat) : Fld.w (OWN.DELEGATE.MASK j) = 32 := rfl
@[simp] theorem key_CAN_NOTE_SLOT_SLOT : Fld.key CAN.NOTE_SLOT.SLOT = 32 * (0x2006c) + 0 := rfl
@[simp] theorem w_CAN_NOTE_SLOT_SLOT : Fld.w CAN.NOTE_SLOT.SLOT = 9 := rfl
@[simp] theorem key_CAN_SITE_ID_ID : Fld.key CAN.SITE_ID.ID = 32 * (0x20078) + 0 := rfl
@[simp] theorem w_CAN_SITE_ID_ID : Fld.w CAN.SITE_ID.ID = 32 := rfl
@[simp] theorem key_TDD_TB_OFFSET_NS : Fld.key TDD.TB_OFFSET.NS = 32 * (0xe044) + 0 := rfl
@[simp] theorem w_TDD_TB_OFFSET_NS : Fld.w TDD.TB_OFFSET.NS = 32 := rfl
@[simp] theorem key_FEC_SEQ_DATA0_WORD (k : Nat) : Fld.key (FEC.SEQ_DATA0.WORD k) = 32 * (0x25048 + 0x1000 * k) + 0 := rfl
@[simp] theorem w_FEC_SEQ_DATA0_WORD (k : Nat) : Fld.w (FEC.SEQ_DATA0.WORD k) = 32 := rfl
@[simp] theorem key_FEC_SEQ_DATA1_WORD (k : Nat) : Fld.key (FEC.SEQ_DATA1.WORD k) = 32 * (0x2504c + 0x1000 * k) + 0 := rfl
@[simp] theorem w_FEC_SEQ_DATA1_WORD (k : Nat) : Fld.w (FEC.SEQ_DATA1.WORD k) = 32 := rfl
@[simp] theorem key_HDR_ERR_STAT_BITS (p : Nat) : Fld.key (HDR.ERR_STAT.BITS p) = 32 * (0x10 + 0x1000 * p) + 0 := rfl
@[simp] theorem w_HDR_ERR_STAT_BITS (p : Nat) : Fld.w (HDR.ERR_STAT.BITS p) = 32 := rfl
@[simp] theorem key_HDR_ERR_MASK_BITS (p : Nat) : Fld.key (HDR.ERR_MASK.BITS p) = 32 * (0x14 + 0x1000 * p) + 0 := rfl
@[simp] theorem w_HDR_ERR_MASK_BITS (p : Nat) : Fld.w (HDR.ERR_MASK.BITS p) = 32 := rfl
@[simp] theorem key_HDR_ERR_FORCE_BITS (p : Nat) : Fld.key (HDR.ERR_FORCE.BITS p) = 32 * (0x18 + 0x1000 * p) + 0 := rfl
@[simp] theorem w_HDR_ERR_FORCE_BITS (p : Nat) : Fld.w (HDR.ERR_FORCE.BITS p) = 32 := rfl
@[simp] theorem key_HDR_IRQ_STAT_BITS (p : Nat) : Fld.key (HDR.IRQ_STAT.BITS p) = 32 * (0x20 + 0x1000 * p) + 0 := rfl
@[simp] theorem w_HDR_IRQ_STAT_BITS (p : Nat) : Fld.w (HDR.IRQ_STAT.BITS p) = 32 := rfl
@[simp] theorem key_HDR_IRQ_EN_BITS (p : Nat) : Fld.key (HDR.IRQ_EN.BITS p) = 32 * (0x24 + 0x1000 * p) + 0 := rfl
@[simp] theorem w_HDR_IRQ_EN_BITS (p : Nat) : Fld.w (HDR.IRQ_EN.BITS p) = 32 := rfl
@[simp] theorem key_HDR_IRQ_FORCE_BITS (p : Nat) : Fld.key (HDR.IRQ_FORCE.BITS p) = 32 * (0x28 + 0x1000 * p) + 0 := rfl
@[simp] theorem w_HDR_IRQ_FORCE_BITS (p : Nat) : Fld.w (HDR.IRQ_FORCE.BITS p) = 32 := rfl

end Sys2Proof.Machine
end

