-- ==== Sys2Proof/Laws/Tab.lean ====
section
/-! SUPPORT. Sparse tables: what a read finds after a write, and that every operation keeps the canonical form. -/
namespace Sys2Proof.Machine

variable {α : Type}

theorem Tab.get_del_same (d : α) (t : Tab α) (k : Nat) : Tab.get d (t.del k) k = d := by
  induction t with
  | nil => rfl
  | cons e t ih =>
    by_cases h : e.1 = k
    · simpa [Tab.del, h] using ih
    · have h' : (e.1 != k) = true := by simp [h]
      simpa [Tab.del, h', Tab.get, h] using ih

theorem Tab.get_del_ne (d : α) (t : Tab α) {j k : Nat} (hjk : j ≠ k) : Tab.get d (t.del k) j = Tab.get d t j := by
  induction t with
  | nil => rfl
  | cons e t ih =>
    by_cases h : e.1 = k
    · have hj : e.1 ≠ j := fun x => hjk (x.symm.trans h)
      have h' : (e.1 != k) = false := by simp [h]
      simpa [Tab.del, h', Tab.get, hj] using ih
    · have h' : (e.1 != k) = true := by simp [h]
      by_cases hj : e.1 = j
      · simp [Tab.del, List.filter_cons_of_pos (p := fun e : Nat × α => e.1 != k) (a := e) (l := t) h', Tab.get, hj]
      · simp only [Tab.del, List.filter_cons_of_pos (p := fun e : Nat × α => e.1 != k) (a := e) (l := t) h', Tab.get, hj, if_false]
        exact ih

theorem Tab.key_of_del (t : Tab α) (k : Nat) {e : Nat × α} (h : e ∈ t.del k) : e ∈ t ∧ e.1 ≠ k := by
  have := List.mem_filter.mp h
  exact ⟨this.1, by simpa using this.2⟩

theorem Tab.get_ins_same (d : α) (t : Tab α) (k : Nat) (v : α) (h : ∀ e ∈ t, e.1 ≠ k) : Tab.get d (t.ins k v) k = v := by
  induction t with
  | nil => simp [Tab.ins, Tab.get]
  | cons e t ih =>
    have he := h e (by simp)
    by_cases hlt : k < e.1
    · simp [Tab.ins, hlt, Tab.get]
    · simp [Tab.ins, hlt, Tab.get, he, ih fun x hx => h x (by simp [hx])]

theorem Tab.get_ins_ne (d : α) (t : Tab α) {j k : Nat} (v : α) (hjk : j ≠ k) : Tab.get d (t.ins k v) j = Tab.get d t j := by
  have hkj : k ≠ j := hjk.symm
  induction t with
  | nil => simp [Tab.ins, Tab.get, hkj]
  | cons e t ih =>
    by_cases hlt : k < e.1
    · simp [Tab.ins, hlt, Tab.get, hkj]
    · simp only [Tab.ins, hlt, if_false, Tab.get, ih]

/-- A key reads the value set. -/
@[simp] theorem Tab.get_set_same [DecidableEq α] (d : α) (t : Tab α) (k : Nat) (v : α) : Tab.get d (t.set d k v) k = v := by
  by_cases h : v = d
  · simp [Tab.set, h, Tab.get_del_same]
  · simp [Tab.set, h, Tab.get_ins_same d _ k v fun e he => (Tab.key_of_del t k he).2]

/-- Every other key reads as before, whatever defaults the writer and the reader name. -/
theorem Tab.get_set_ne [DecidableEq α] (d d' : α) (t : Tab α) {j k : Nat} (v : α) (h : j ≠ k) :
    Tab.get d (t.set d' k v) j = Tab.get d t j := by
  by_cases hv : v = d'
  · simp [Tab.set, hv, Tab.get_del_ne d t h]
  · simp [Tab.set, hv, Tab.get_ins_ne d _ v h, Tab.get_del_ne d t h]

/-- A read after setting one key. -/
theorem Tab.get_set [DecidableEq α] (d : α) (t : Tab α) (j k : Nat) (v : α) :
    Tab.get d (t.set d k v) j = if j = k then v else Tab.get d t j := by
  by_cases h : j = k
  · subst h; simp
  · simp [h, Tab.get_set_ne d d t v h]

/-- A read after changing one key. -/
theorem Tab.get_upd [DecidableEq α] (d : α) (t : Tab α) (j k : Nat) (f : α → α) :
    Tab.get d (t.upd d k f) j = if j = k then f (Tab.get d t k) else Tab.get d t j := Tab.get_set d t j k _

@[simp] theorem Tab.get_upd_same [DecidableEq α] (d : α) (t : Tab α) (k : Nat) (f : α → α) :
    Tab.get d (t.upd d k f) k = f (Tab.get d t k) := Tab.get_set_same d t k _

/-- The keys rise strictly. -/
def Tab.rise (t : Tab α) : Prop := t.Pairwise fun a b => a.1 < b.1

theorem Tab.rise_filter {t : Tab α} (h : Tab.rise t) (p : Nat × α → Bool) : Tab.rise (t.filter p) :=
  List.Pairwise.filter p h

theorem Tab.mem_ins (t : Tab α) (k : Nat) (v : α) {e : Nat × α} (h : e ∈ t.ins k v) : e = (k, v) ∨ e ∈ t := by
  induction t with
  | nil => exact .inl (by simpa [Tab.ins] using h)
  | cons x t ih =>
    by_cases hlt : k < x.1
    · simpa [Tab.ins, hlt] using h
    · simp only [Tab.ins, hlt, if_false, List.mem_cons] at h
      rcases h with rfl | h
      · exact .inr (by simp)
      · exact (ih h).imp id fun hx => by simp [hx]

theorem Tab.rise_ins {t : Tab α} (h : Tab.rise t) (k : Nat) (v : α) (hk : ∀ e ∈ t, e.1 ≠ k) : Tab.rise (t.ins k v) := by
  induction t with
  | nil => simp [Tab.rise, Tab.ins]
  | cons x t ih =>
    have hx := List.pairwise_cons.mp h
    have hxk := hk x (by simp)
    by_cases hlt : k < x.1
    · simp only [Tab.ins, hlt, if_true, Tab.rise, List.pairwise_cons]
      refine ⟨fun e he => ?_, hx⟩
      rcases List.mem_cons.mp he with rfl | he
      · exact hlt
      · exact hlt.trans (hx.1 e he)
    · simp only [Tab.ins, hlt, if_false, Tab.rise, List.pairwise_cons]
      refine ⟨fun e he => ?_, ih hx.2 fun e he => hk e (by simp [he])⟩
      rcases Tab.mem_ins t k v he with rfl | he
      · simp only; omega
      · exact hx.1 e he

/-- Setting a key keeps the keys rising. -/
theorem Tab.rise_set [DecidableEq α] {t : Tab α} (h : Tab.rise t) (d : α) (k : Nat) (v : α) : Tab.rise (t.set d k v) := by
  by_cases hv : v = d
  · simp only [Tab.set, hv, if_true]
    exact Tab.rise_filter h _
  · simp only [Tab.set, hv, if_false]
    exact Tab.rise_ins (Tab.rise_filter h _) k v fun e he => (Tab.key_of_del t k he).2

/-- The canonical form in one line: keys rise, and no entry equals the value of an unlisted key. -/
theorem Tab.wf_iff [DecidableEq α] (d : α) (t : Tab α) : Tab.wf d t = true ↔ Tab.rise t ∧ ∀ e ∈ t, e.2 ≠ d := by
  induction t with
  | nil => simp [Tab.wf, Tab.rise]
  | cons e t ih =>
    cases t with
    | nil => simp [Tab.wf, Tab.rise]
    | cons f t =>
      simp only [Tab.wf, Bool.and_eq_true, bne_iff_ne, decide_eq_true_eq, ih]
      constructor
      · rintro ⟨⟨h1, h2⟩, h3, h4⟩
        refine ⟨List.pairwise_cons.mpr ⟨fun x hx => ?_, h3⟩, fun x hx => ?_⟩
        · rcases List.mem_cons.mp hx with rfl | hx
          · exact h2
          · exact h2.trans ((List.pairwise_cons.mp h3).1 x hx)
        · rcases List.mem_cons.mp hx with rfl | hx
          · exact h1
          · exact h4 x hx
      · rintro ⟨h1, h2⟩
        have := List.pairwise_cons.mp h1
        exact ⟨⟨h2 e (by simp), this.1 f (by simp)⟩, this.2, fun x hx => h2 x (by simp [hx])⟩

/-- Setting a key keeps the canonical form. -/
theorem Tab.wf_set [DecidableEq α] (d : α) (t : Tab α) (k : Nat) (v : α) (h : Tab.wf d t = true) :
    Tab.wf d (t.set d k v) = true := by
  obtain ⟨hr, hv⟩ := (Tab.wf_iff d t).mp h
  refine (Tab.wf_iff d _).mpr ⟨Tab.rise_set hr d k v, fun e he => ?_⟩
  by_cases hd : v = d
  · simp only [Tab.set, hd, if_true] at he
    exact hv e (Tab.key_of_del t k he).1
  · simp only [Tab.set, hd, if_false] at he
    rcases Tab.mem_ins _ k v he with rfl | he
    · exact hd
    · exact hv e (Tab.key_of_del t k he).1

/-- Changing a key keeps the canonical form. -/
theorem Tab.wf_upd [DecidableEq α] (d : α) (t : Tab α) (k : Nat) (f : α → α) (h : Tab.wf d t = true) :
    Tab.wf d (t.upd d k f) = true := Tab.wf_set d t k _ h

end Sys2Proof.Machine
end

