-- ==== Sys2Proof/Laws/State.lean ====
section
/-! SUPPORT. What each named update of the state leaves: one lemma per field per update, all by rfl; and what a register
field reads after a write. -/
namespace Sys2Proof.Machine
open Sys2Proof

/-- A field reads what was written to it, in its width. -/
@[simp] theorem State.get_set_same (s : State) (f : Fld) (v : Nat) : (s.set f v).get f = v % 2 ^ f.w :=
  Tab.get_set_same f.rst s.reg f.key _

/-- Every field under another key reads as before. -/
theorem State.get_set_ne (s : State) {f g : Fld} (v : Nat) (h : g.key ≠ f.key) : (s.set f v).get g = s.get g :=
  Tab.get_set_ne g.rst f.rst s.reg _ h

/-- A field reads the same in two states with the same register file. -/
theorem State.get_of_reg {s t : State} (h : t.reg = s.reg) (f : Fld) : t.get f = s.get f := by
  simp [State.get, h]

theorem State.put_eq (s : State) (f : Fld) (b : Bool) : s.put f b = s.set f b.toNat := rfl
theorem State.putBit_eq (s : State) (f : Fld) (i : Nat) (b : Bool) : s.putBit f i b = s.set f (Machine.putBit (s.get f) i b) := rfl
theorem State.count_eq (s : State) (f : Fld) (n : Nat) : s.count f n = s.set f (satAdd f.w (s.get f) n) := rfl
theorem State.wrap_eq (s : State) (f : Fld) : s.wrap f = s.set f (s.get f + 1) := rfl

@[simp] theorem State.set_pending (s : State) (f : Fld) (v : Nat) : (s.set f v).pending = s.pending := rfl
@[simp] theorem State.set_now (s : State) (f : Fld) (v : Nat) : (s.set f v).now = s.now := rfl
@[simp] theorem State.set_fresh (s : State) (f : Fld) (v : Nat) : (s.set f v).fresh = s.fresh := rfl
@[simp] theorem State.set_out (s : State) (f : Fld) (v : Nat) : (s.set f v).out = s.out := rfl
@[simp] theorem State.set_board (s : State) (f : Fld) (v : Nat) : (s.set f v).board = s.board := rfl
@[simp] theorem State.set_straps (s : State) (f : Fld) (v : Nat) : (s.set f v).straps = s.straps := rfl
@[simp] theorem State.set_rst (s : State) (f : Fld) (v : Nat) : (s.set f v).rst = s.rst := rfl
@[simp] theorem State.set_aon (s : State) (f : Fld) (v : Nat) : (s.set f v).aon = s.aon := rfl
@[simp] theorem State.set_rails (s : State) (f : Fld) (v : Nat) : (s.set f v).rails = s.rails := rfl
@[simp] theorem State.set_needReq (s : State) (f : Fld) (v : Nat) : (s.set f v).needReq = s.needReq := rfl
@[simp] theorem State.set_prof (s : State) (f : Fld) (v : Nat) : (s.set f v).prof = s.prof := rfl
@[simp] theorem State.set_chanDown (s : State) (f : Fld) (v : Nat) : (s.set f v).chanDown = s.chanDown := rfl
@[simp] theorem State.set_chanUp (s : State) (f : Fld) (v : Nat) : (s.set f v).chanUp = s.chanUp := rfl
@[simp] theorem State.set_tr (s : State) (f : Fld) (v : Nat) : (s.set f v).tr = s.tr := rfl
@[simp] theorem State.set_own (s : State) (f : Fld) (v : Nat) : (s.set f v).own = s.own := rfl
@[simp] theorem State.set_ports (s : State) (f : Fld) (v : Nat) : (s.set f v).ports = s.ports := rfl
@[simp] theorem State.set_evt (s : State) (f : Fld) (v : Nat) : (s.set f v).evt = s.evt := rfl
@[simp] theorem State.set_flt (s : State) (f : Fld) (v : Nat) : (s.set f v).flt = s.flt := rfl
@[simp] theorem State.set_active (s : State) (f : Fld) (v : Nat) : (s.set f v).active = s.active := rfl
@[simp] theorem State.set_slots (s : State) (f : Fld) (v : Nat) : (s.set f v).slots = s.slots := rfl
@[simp] theorem State.set_live (s : State) (f : Fld) (v : Nat) : (s.set f v).live = s.live := rfl
@[simp] theorem State.set_snap (s : State) (f : Fld) (v : Nat) : (s.set f v).snap = s.snap := rfl
@[simp] theorem State.set_bias (s : State) (f : Fld) (v : Nat) : (s.set f v).bias = s.bias := rfl
@[simp] theorem State.set_biasOk (s : State) (f : Fld) (v : Nat) : (s.set f v).biasOk = s.biasOk := rfl
@[simp] theorem State.set_iced (s : State) (f : Fld) (v : Nat) : (s.set f v).iced = s.iced := rfl
@[simp] theorem State.set_trapHold (s : State) (f : Fld) (v : Nat) : (s.set f v).trapHold = s.trapHold := rfl
@[simp] theorem State.set_nmi (s : State) (f : Fld) (v : Nat) : (s.set f v).nmi = s.nmi := rfl
@[simp] theorem State.set_lockSig (s : State) (f : Fld) (v : Nat) : (s.set f v).lockSig = s.lockSig := rfl
@[simp] theorem State.set_copies (s : State) (f : Fld) (v : Nat) : (s.set f v).copies = s.copies := rfl
@[simp] theorem State.set_lockSame (s : State) (f : Fld) (v : Nat) : (s.set f v).lockSame = s.lockSame := rfl
@[simp] theorem State.set_lockCmpAt (s : State) (f : Fld) (v : Nat) : (s.set f v).lockCmpAt = s.lockCmpAt := rfl
@[simp] theorem State.set_mon (s : State) (f : Fld) (v : Nat) : (s.set f v).mon = s.mon := rfl
@[simp] theorem State.set_otp (s : State) (f : Fld) (v : Nat) : (s.set f v).otp = s.otp := rfl
@[simp] theorem State.set_nvm (s : State) (f : Fld) (v : Nat) : (s.set f v).nvm = s.nvm := rfl
@[simp] theorem State.set_pwt (s : State) (f : Fld) (v : Nat) : (s.set f v).pwt = s.pwt := rfl
@[simp] theorem State.set_pwtProf (s : State) (f : Fld) (v : Nat) : (s.set f v).pwtProf = s.pwtProf := rfl
@[simp] theorem State.set_canS (s : State) (f : Fld) (v : Nat) : (s.set f v).canS = s.canS := rfl
@[simp] theorem State.set_can (s : State) (f : Fld) (v : Nat) : (s.set f v).can = s.can := rfl
@[simp] theorem State.set_fir (s : State) (f : Fld) (v : Nat) : (s.set f v).fir = s.fir := rfl
@[simp] theorem State.set_pats (s : State) (f : Fld) (v : Nat) : (s.set f v).pats = s.pats := rfl
@[simp] theorem State.set_patEdge (s : State) (f : Fld) (v : Nat) : (s.set f v).patEdge = s.patEdge := rfl
@[simp] theorem State.set_obsLive (s : State) (f : Fld) (v : Nat) : (s.set f v).obsLive = s.obsLive := rfl
@[simp] theorem State.set_seqTab (s : State) (f : Fld) (v : Nat) : (s.set f v).seqTab = s.seqTab := rfl
@[simp] theorem State.set_cmdTab (s : State) (f : Fld) (v : Nat) : (s.set f v).cmdTab = s.cmdTab := rfl
@[simp] theorem State.set_fecs (s : State) (f : Fld) (v : Nat) : (s.set f v).fecs = s.fecs := rfl
@[simp] theorem State.set_lineAt (s : State) (f : Fld) (v : Nat) : (s.set f v).lineAt = s.lineAt := rfl
@[simp] theorem State.set_buses (s : State) (f : Fld) (v : Nat) : (s.set f v).buses = s.buses := rfl
@[simp] theorem State.set_satAt (s : State) (f : Fld) (v : Nat) : (s.set f v).satAt = s.satAt := rfl
@[simp] theorem State.set_divs (s : State) (f : Fld) (v : Nat) : (s.set f v).divs = s.divs := rfl
@[simp] theorem State.set_tb (s : State) (f : Fld) (v : Nat) : (s.set f v).tb = s.tb := rfl
@[simp] theorem State.set_pwtStepAt (s : State) (f : Fld) (v : Nat) : (s.set f v).pwtStepAt = s.pwtStepAt := rfl
@[simp] theorem State.set_txenAt (s : State) (f : Fld) (v : Nat) : (s.set f v).txenAt = s.txenAt := rfl
@[simp] theorem State.set_pwtWord (s : State) (f : Fld) (v : Nat) : (s.set f v).pwtWord = s.pwtWord := rfl
@[simp] theorem State.set_pwtCode (s : State) (f : Fld) (v : Nat) : (s.set f v).pwtCode = s.pwtCode := rfl
@[simp] theorem State.set_pwtAt (s : State) (f : Fld) (v : Nat) : (s.set f v).pwtAt = s.pwtAt := rfl
@[simp] theorem State.set_tansy (s : State) (f : Fld) (v : Nat) : (s.set f v).tansy = s.tansy := rfl
@[simp] theorem State.set_gov (s : State) (f : Fld) (v : Nat) : (s.set f v).gov = s.gov := rfl
@[simp] theorem State.set_loops (s : State) (f : Fld) (v : Nat) : (s.set f v).loops = s.loops := rfl
@[simp] theorem State.set_mat (s : State) (f : Fld) (v : Nat) : (s.set f v).mat = s.mat := rfl
@[simp] theorem State.set_clv (s : State) (f : Fld) (v : Nat) : (s.set f v).clv = s.clv := rfl
@[simp] theorem State.set_maskSeen (s : State) (f : Fld) (v : Nat) : (s.set f v).maskSeen = s.maskSeen := rfl
@[simp] theorem State.set_lnk (s : State) (f : Fld) (v : Nat) : (s.set f v).lnk = s.lnk := rfl
@[simp] theorem State.set_exps (s : State) (f : Fld) (v : Nat) : (s.set f v).exps = s.exps := rfl
@[simp] theorem State.set_cnv (s : State) (f : Fld) (v : Nat) : (s.set f v).cnv = s.cnv := rfl
@[simp] theorem State.set_thm (s : State) (f : Fld) (v : Nat) : (s.set f v).thm = s.thm := rfl
@[simp] theorem State.draw_pending (s : State) : s.draw.2.pending = s.pending := rfl
@[simp] theorem State.draw_now (s : State) : s.draw.2.now = s.now := rfl
@[simp] theorem State.draw_out (s : State) : s.draw.2.out = s.out := rfl
@[simp] theorem State.draw_board (s : State) : s.draw.2.board = s.board := rfl
@[simp] theorem State.draw_straps (s : State) : s.draw.2.straps = s.straps := rfl
@[simp] theorem State.draw_rst (s : State) : s.draw.2.rst = s.rst := rfl
@[simp] theorem State.draw_aon (s : State) : s.draw.2.aon = s.aon := rfl
@[simp] theorem State.draw_rails (s : State) : s.draw.2.rails = s.rails := rfl
@[simp] theorem State.draw_needReq (s : State) : s.draw.2.needReq = s.needReq := rfl
@[simp] theorem State.draw_prof (s : State) : s.draw.2.prof = s.prof := rfl
@[simp] theorem State.draw_chanDown (s : State) : s.draw.2.chanDown = s.chanDown := rfl
@[simp] theorem State.draw_chanUp (s : State) : s.draw.2.chanUp = s.chanUp := rfl
@[simp] theorem State.draw_tr (s : State) : s.draw.2.tr = s.tr := rfl
@[simp] theorem State.draw_own (s : State) : s.draw.2.own = s.own := rfl
@[simp] theorem State.draw_ports (s : State) : s.draw.2.ports = s.ports := rfl
@[simp] theorem State.draw_evt (s : State) : s.draw.2.evt = s.evt := rfl
@[simp] theorem State.draw_flt (s : State) : s.draw.2.flt = s.flt := rfl
@[simp] theorem State.draw_active (s : State) : s.draw.2.active = s.active := rfl
@[simp] theorem State.draw_slots (s : State) : s.draw.2.slots = s.slots := rfl
@[simp] theorem State.draw_live (s : State) : s.draw.2.live = s.live := rfl
@[simp] theorem State.draw_snap (s : State) : s.draw.2.snap = s.snap := rfl
@[simp] theorem State.draw_bias (s : State) : s.draw.2.bias = s.bias := rfl
@[simp] theorem State.draw_biasOk (s : State) : s.draw.2.biasOk = s.biasOk := rfl
@[simp] theorem State.draw_iced (s : State) : s.draw.2.iced = s.iced := rfl
@[simp] theorem State.draw_trapHold (s : State) : s.draw.2.trapHold = s.trapHold := rfl
@[simp] theorem State.draw_nmi (s : State) : s.draw.2.nmi = s.nmi := rfl
@[simp] theorem State.draw_lockSig (s : State) : s.draw.2.lockSig = s.lockSig := rfl
@[simp] theorem State.draw_copies (s : State) : s.draw.2.copies = s.copies := rfl
@[simp] theorem State.draw_lockSame (s : State) : s.draw.2.lockSame = s.lockSame := rfl
@[simp] theorem State.draw_lockCmpAt (s : State) : s.draw.2.lockCmpAt = s.lockCmpAt := rfl
@[simp] theorem State.draw_mon (s : State) : s.draw.2.mon = s.mon := rfl
@[simp] theorem State.draw_otp (s : State) : s.draw.2.otp = s.otp := rfl
@[simp] theorem State.draw_nvm (s : State) : s.draw.2.nvm = s.nvm := rfl
@[simp] theorem State.draw_pwt (s : State) : s.draw.2.pwt = s.pwt := rfl
@[simp] theorem State.draw_pwtProf (s : State) : s.draw.2.pwtProf = s.pwtProf := rfl
@[simp] theorem State.draw_canS (s : State) : s.draw.2.canS = s.canS := rfl
@[simp] theorem State.draw_can (s : State) : s.draw.2.can = s.can := rfl
@[simp] theorem State.draw_fir (s : State) : s.draw.2.fir = s.fir := rfl
@[simp] theorem State.draw_pats (s : State) : s.draw.2.pats = s.pats := rfl
@[simp] theorem State.draw_patEdge (s : State) : s.draw.2.patEdge = s.patEdge := rfl
@[simp] theorem State.draw_obsLive (s : State) : s.draw.2.obsLive = s.obsLive := rfl
@[simp] theorem State.draw_seqTab (s : State) : s.draw.2.seqTab = s.seqTab := rfl
@[simp] theorem State.draw_cmdTab (s : State) : s.draw.2.cmdTab = s.cmdTab := rfl
@[simp] theorem State.draw_fecs (s : State) : s.draw.2.fecs = s.fecs := rfl
@[simp] theorem State.draw_lineAt (s : State) : s.draw.2.lineAt = s.lineAt := rfl
@[simp] theorem State.draw_buses (s : State) : s.draw.2.buses = s.buses := rfl
@[simp] theorem State.draw_satAt (s : State) : s.draw.2.satAt = s.satAt := rfl
@[simp] theorem State.draw_divs (s : State) : s.draw.2.divs = s.divs := rfl
@[simp] theorem State.draw_tb (s : State) : s.draw.2.tb = s.tb := rfl
@[simp] theorem State.draw_pwtStepAt (s : State) : s.draw.2.pwtStepAt = s.pwtStepAt := rfl
@[simp] theorem State.draw_txenAt (s : State) : s.draw.2.txenAt = s.txenAt := rfl
@[simp] theorem State.draw_pwtWord (s : State) : s.draw.2.pwtWord = s.pwtWord := rfl
@[simp] theorem State.draw_pwtCode (s : State) : s.draw.2.pwtCode = s.pwtCode := rfl
@[simp] theorem State.draw_pwtAt (s : State) : s.draw.2.pwtAt = s.pwtAt := rfl
@[simp] theorem State.draw_tansy (s : State) : s.draw.2.tansy = s.tansy := rfl
@[simp] theorem State.draw_gov (s : State) : s.draw.2.gov = s.gov := rfl
@[simp] theorem State.draw_loops (s : State) : s.draw.2.loops = s.loops := rfl
@[simp] theorem State.draw_mat (s : State) : s.draw.2.mat = s.mat := rfl
@[simp] theorem State.draw_clv (s : State) : s.draw.2.clv = s.clv := rfl
@[simp] theorem State.draw_maskSeen (s : State) : s.draw.2.maskSeen = s.maskSeen := rfl
@[simp] theorem State.draw_lnk (s : State) : s.draw.2.lnk = s.lnk := rfl
@[simp] theorem State.draw_exps (s : State) : s.draw.2.exps = s.exps := rfl
@[simp] theorem State.draw_cnv (s : State) : s.draw.2.cnv = s.cnv := rfl
@[simp] theorem State.draw_thm (s : State) : s.draw.2.thm = s.thm := rfl
@[simp] theorem State.draw_reg (s : State) : s.draw.2.reg = s.reg := rfl
@[simp] theorem State.draw_get (s : State) (g : Fld) : s.draw.2.get g = s.get g := rfl
@[simp] theorem State.modSlot_get (s : State) (i : Nat) (f : Slot → Slot) (g : Fld) : (s.modSlot i f).get g = s.get g := rfl
@[simp] theorem State.modSlot_pending (s : State) (i : Nat) (f : Slot → Slot) : (s.modSlot i f).pending = s.pending := rfl
@[simp] theorem State.modSlot_now (s : State) (i : Nat) (f : Slot → Slot) : (s.modSlot i f).now = s.now := rfl
@[simp] theorem State.modSlot_fresh (s : State) (i : Nat) (f : Slot → Slot) : (s.modSlot i f).fresh = s.fresh := rfl
@[simp] theorem State.modSlot_out (s : State) (i : Nat) (f : Slot → Slot) : (s.modSlot i f).out = s.out := rfl
@[simp] theorem State.modSlot_reg (s : State) (i : Nat) (f : Slot → Slot) : (s.modSlot i f).reg = s.reg := rfl
@[simp] theorem State.modSlot_board (s : State) (i : Nat) (f : Slot → Slot) : (s.modSlot i f).board = s.board := rfl
@[simp] theorem State.modSlot_straps (s : State) (i : Nat) (f : Slot → Slot) : (s.modSlot i f).straps = s.straps := rfl
@[simp] theorem State.modSlot_rst (s : State) (i : Nat) (f : Slot → Slot) : (s.modSlot i f).rst = s.rst := rfl
@[simp] theorem State.modSlot_aon (s : State) (i : Nat) (f : Slot → Slot) : (s.modSlot i f).aon = s.aon := rfl
@[simp] theorem State.modSlot_rails (s : State) (i : Nat) (f : Slot → Slot) : (s.modSlot i f).rails = s.rails := rfl
@[simp] theorem State.modSlot_needReq (s : State) (i : Nat) (f : Slot → Slot) : (s.modSlot i f).needReq = s.needReq := rfl
@[simp] theorem State.modSlot_prof (s : State) (i : Nat) (f : Slot → Slot) : (s.modSlot i f).prof = s.prof := rfl
@[simp] theorem State.modSlot_chanDown (s : State) (i : Nat) (f : Slot → Slot) : (s.modSlot i f).chanDown = s.chanDown := rfl
@[simp] theorem State.modSlot_chanUp (s : State) (i : Nat) (f : Slot → Slot) : (s.modSlot i f).chanUp = s.chanUp := rfl
@[simp] theorem State.modSlot_tr (s : State) (i : Nat) (f : Slot → Slot) : (s.modSlot i f).tr = s.tr := rfl
@[simp] theorem State.modSlot_own (s : State) (i : Nat) (f : Slot → Slot) : (s.modSlot i f).own = s.own := rfl
@[simp] theorem State.modSlot_ports (s : State) (i : Nat) (f : Slot → Slot) : (s.modSlot i f).ports = s.ports := rfl
@[simp] theorem State.modSlot_evt (s : State) (i : Nat) (f : Slot → Slot) : (s.modSlot i f).evt = s.evt := rfl
@[simp] theorem State.modSlot_flt (s : State) (i : Nat) (f : Slot → Slot) : (s.modSlot i f).flt = s.flt := rfl
@[simp] theorem State.modSlot_active (s : State) (i : Nat) (f : Slot → Slot) : (s.modSlot i f).active = s.active := rfl
@[simp] theorem State.modSlot_live (s : State) (i : Nat) (f : Slot → Slot) : (s.modSlot i f).live = s.live := rfl
@[simp] theorem State.modSlot_snap (s : State) (i : Nat) (f : Slot → Slot) : (s.modSlot i f).snap = s.snap := rfl
@[simp] theorem State.modSlot_bias (s : State) (i : Nat) (f : Slot → Slot) : (s.modSlot i f).bias = s.bias := rfl
@[simp] theorem State.modSlot_biasOk (s : State) (i : Nat) (f : Slot → Slot) : (s.modSlot i f).biasOk = s.biasOk := rfl
@[simp] theorem State.modSlot_iced (s : State) (i : Nat) (f : Slot → Slot) : (s.modSlot i f).iced = s.iced := rfl
@[simp] theorem State.modSlot_trapHold (s : State) (i : Nat) (f : Slot → Slot) : (s.modSlot i f).trapHold = s.trapHold := rfl
@[simp] theorem State.modSlot_nmi (s : State) (i : Nat) (f : Slot → Slot) : (s.modSlot i f).nmi = s.nmi := rfl
@[simp] theorem State.modSlot_lockSig (s : State) (i : Nat) (f : Slot → Slot) : (s.modSlot i f).lockSig = s.lockSig := rfl
@[simp] theorem State.modSlot_copies (s : State) (i : Nat) (f : Slot → Slot) : (s.modSlot i f).copies = s.copies := rfl
@[simp] theorem State.modSlot_lockSame (s : State) (i : Nat) (f : Slot → Slot) : (s.modSlot i f).lockSame = s.lockSame := rfl
@[simp] theorem State.modSlot_lockCmpAt (s : State) (i : Nat) (f : Slot → Slot) : (s.modSlot i f).lockCmpAt = s.lockCmpAt := rfl
@[simp] theorem State.modSlot_mon (s : State) (i : Nat) (f : Slot → Slot) : (s.modSlot i f).mon = s.mon := rfl
@[simp] theorem State.modSlot_otp (s : State) (i : Nat) (f : Slot → Slot) : (s.modSlot i f).otp = s.otp := rfl
@[simp] theorem State.modSlot_nvm (s : State) (i : Nat) (f : Slot → Slot) : (s.modSlot i f).nvm = s.nvm := rfl
@[simp] theorem State.modSlot_pwt (s : State) (i : Nat) (f : Slot → Slot) : (s.modSlot i f).pwt = s.pwt := rfl
@[simp] theorem State.modSlot_pwtProf (s : State) (i : Nat) (f : Slot → Slot) : (s.modSlot i f).pwtProf = s.pwtProf := rfl
@[simp] theorem State.modSlot_canS (s : State) (i : Nat) (f : Slot → Slot) : (s.modSlot i f).canS = s.canS := rfl
@[simp] theorem State.modSlot_can (s : State) (i : Nat) (f : Slot → Slot) : (s.modSlot i f).can = s.can := rfl
@[simp] theorem State.modSlot_fir (s : State) (i : Nat) (f : Slot → Slot) : (s.modSlot i f).fir = s.fir := rfl
@[simp] theorem State.modSlot_pats (s : State) (i : Nat) (f : Slot → Slot) : (s.modSlot i f).pats = s.pats := rfl
@[simp] theorem State.modSlot_patEdge (s : State) (i : Nat) (f : Slot → Slot) : (s.modSlot i f).patEdge = s.patEdge := rfl
@[simp] theorem State.modSlot_obsLive (s : State) (i : Nat) (f : Slot → Slot) : (s.modSlot i f).obsLive = s.obsLive := rfl
@[simp] theorem State.modSlot_seqTab (s : State) (i : Nat) (f : Slot → Slot) : (s.modSlot i f).seqTab = s.seqTab := rfl
@[simp] theorem State.modSlot_cmdTab (s : State) (i : Nat) (f : Slot → Slot) : (s.modSlot i f).cmdTab = s.cmdTab := rfl
@[simp] theorem State.modSlot_fecs (s : State) (i : Nat) (f : Slot → Slot) : (s.modSlot i f).fecs = s.fecs := rfl
@[simp] theorem State.modSlot_lineAt (s : State) (i : Nat) (f : Slot → Slot) : (s.modSlot i f).lineAt = s.lineAt := rfl
@[simp] theorem State.modSlot_buses (s : State) (i : Nat) (f : Slot → Slot) : (s.modSlot i f).buses = s.buses := rfl
@[simp] theorem State.modSlot_satAt (s : State) (i : Nat) (f : Slot → Slot) : (s.modSlot i f).satAt = s.satAt := rfl
@[simp] theorem State.modSlot_divs (s : State) (i : Nat) (f : Slot → Slot) : (s.modSlot i f).divs = s.divs := rfl
@[simp] theorem State.modSlot_tb (s : State) (i : Nat) (f : Slot → Slot) : (s.modSlot i f).tb = s.tb := rfl
@[simp] theorem State.modSlot_pwtStepAt (s : State) (i : Nat) (f : Slot → Slot) : (s.modSlot i f).pwtStepAt = s.pwtStepAt := rfl
@[simp] theorem State.modSlot_txenAt (s : State) (i : Nat) (f : Slot → Slot) : (s.modSlot i f).txenAt = s.txenAt := rfl
@[simp] theorem State.modSlot_pwtWord (s : State) (i : Nat) (f : Slot → Slot) : (s.modSlot i f).pwtWord = s.pwtWord := rfl
@[simp] theorem State.modSlot_pwtCode (s : State) (i : Nat) (f : Slot → Slot) : (s.modSlot i f).pwtCode = s.pwtCode := rfl
@[simp] theorem State.modSlot_pwtAt (s : State) (i : Nat) (f : Slot → Slot) : (s.modSlot i f).pwtAt = s.pwtAt := rfl
@[simp] theorem State.modSlot_tansy (s : State) (i : Nat) (f : Slot → Slot) : (s.modSlot i f).tansy = s.tansy := rfl
@[simp] theorem State.modSlot_gov (s : State) (i : Nat) (f : Slot → Slot) : (s.modSlot i f).gov = s.gov := rfl
@[simp] theorem State.modSlot_loops (s : State) (i : Nat) (f : Slot → Slot) : (s.modSlot i f).loops = s.loops := rfl
@[simp] theorem State.modSlot_mat (s : State) (i : Nat) (f : Slot → Slot) : (s.modSlot i f).mat = s.mat := rfl
@[simp] theorem State.modSlot_clv (s : State) (i : Nat) (f : Slot → Slot) : (s.modSlot i f).clv = s.clv := rfl
@[simp] theorem State.modSlot_maskSeen (s : State) (i : Nat) (f : Slot → Slot) : (s.modSlot i f).maskSeen = s.maskSeen := rfl
@[simp] theorem State.modSlot_lnk (s : State) (i : Nat) (f : Slot → Slot) : (s.modSlot i f).lnk = s.lnk := rfl
@[simp] theorem State.modSlot_exps (s : State) (i : Nat) (f : Slot → Slot) : (s.modSlot i f).exps = s.exps := rfl
@[simp] theorem State.modSlot_cnv (s : State) (i : Nat) (f : Slot → Slot) : (s.modSlot i f).cnv = s.cnv := rfl
@[simp] theorem State.modSlot_thm (s : State) (i : Nat) (f : Slot → Slot) : (s.modSlot i f).thm = s.thm := rfl
@[simp] theorem State.modCs_get (s : State) (i : Nat) (f : CanSlot → CanSlot) (g : Fld) : (s.modCs i f).get g = s.get g := rfl
@[simp] theorem State.modCs_pending (s : State) (i : Nat) (f : CanSlot → CanSlot) : (s.modCs i f).pending = s.pending := rfl
@[simp] theorem State.modCs_now (s : State) (i : Nat) (f : CanSlot → CanSlot) : (s.modCs i f).now = s.now := rfl
@[simp] theorem State.modCs_fresh (s : State) (i : Nat) (f : CanSlot → CanSlot) : (s.modCs i f).fresh = s.fresh := rfl
@[simp] theorem State.modCs_out (s : State) (i : Nat) (f : CanSlot → CanSlot) : (s.modCs i f).out = s.out := rfl
@[simp] theorem State.modCs_reg (s : State) (i : Nat) (f : CanSlot → CanSlot) : (s.modCs i f).reg = s.reg := rfl
@[simp] theorem State.modCs_board (s : State) (i : Nat) (f : CanSlot → CanSlot) : (s.modCs i f).board = s.board := rfl
@[simp] theorem State.modCs_straps (s : State) (i : Nat) (f : CanSlot → CanSlot) : (s.modCs i f).straps = s.straps := rfl
@[simp] theorem State.modCs_rst (s : State) (i : Nat) (f : CanSlot → CanSlot) : (s.modCs i f).rst = s.rst := rfl
@[simp] theorem State.modCs_aon (s : State) (i : Nat) (f : CanSlot → CanSlot) : (s.modCs i f).aon = s.aon := rfl
@[simp] theorem State.modCs_rails (s : State) (i : Nat) (f : CanSlot → CanSlot) : (s.modCs i f).rails = s.rails := rfl
@[simp] theorem State.modCs_needReq (s : State) (i : Nat) (f : CanSlot → CanSlot) : (s.modCs i f).needReq = s.needReq := rfl
@[simp] theorem State.modCs_prof (s : State) (i : Nat) (f : CanSlot → CanSlot) : (s.modCs i f).prof = s.prof := rfl
@[simp] theorem State.modCs_chanDown (s : State) (i : Nat) (f : CanSlot → CanSlot) : (s.modCs i f).chanDown = s.chanDown := rfl
@[simp] theorem State.modCs_chanUp (s : State) (i : Nat) (f : CanSlot → CanSlot) : (s.modCs i f).chanUp = s.chanUp := rfl
@[simp] theorem State.modCs_tr (s : State) (i : Nat) (f : CanSlot → CanSlot) : (s.modCs i f).tr = s.tr := rfl
@[simp] theorem State.modCs_own (s : State) (i : Nat) (f : CanSlot → CanSlot) : (s.modCs i f).own = s.own := rfl
@[simp] theorem State.modCs_ports (s : State) (i : Nat) (f : CanSlot → CanSlot) : (s.modCs i f).ports = s.ports := rfl
@[simp] theorem State.modCs_evt (s : State) (i : Nat) (f : CanSlot → CanSlot) : (s.modCs i f).evt = s.evt := rfl
@[simp] theorem State.modCs_flt (s : State) (i : Nat) (f : CanSlot → CanSlot) : (s.modCs i f).flt = s.flt := rfl
@[simp] theorem State.modCs_active (s : State) (i : Nat) (f : CanSlot → CanSlot) : (s.modCs i f).active = s.active := rfl
@[simp] theorem State.modCs_slots (s : State) (i : Nat) (f : CanSlot → CanSlot) : (s.modCs i f).slots = s.slots := rfl
@[simp] theorem State.modCs_live (s : State) (i : Nat) (f : CanSlot → CanSlot) : (s.modCs i f).live = s.live := rfl
@[simp] theorem State.modCs_snap (s : State) (i : Nat) (f : CanSlot → CanSlot) : (s.modCs i f).snap = s.snap := rfl
@[simp] theorem State.modCs_bias (s : State) (i : Nat) (f : CanSlot → CanSlot) : (s.modCs i f).bias = s.bias := rfl
@[simp] theorem State.modCs_biasOk (s : State) (i : Nat) (f : CanSlot → CanSlot) : (s.modCs i f).biasOk = s.biasOk := rfl
@[simp] theorem State.modCs_iced (s : State) (i : Nat) (f : CanSlot → CanSlot) : (s.modCs i f).iced = s.iced := rfl
@[simp] theorem State.modCs_trapHold (s : State) (i : Nat) (f : CanSlot → CanSlot) : (s.modCs i f).trapHold = s.trapHold := rfl
@[simp] theorem State.modCs_nmi (s : State) (i : Nat) (f : CanSlot → CanSlot) : (s.modCs i f).nmi = s.nmi := rfl
@[simp] theorem State.modCs_lockSig (s : State) (i : Nat) (f : CanSlot → CanSlot) : (s.modCs i f).lockSig = s.lockSig := rfl
@[simp] theorem State.modCs_copies (s : State) (i : Nat) (f : CanSlot → CanSlot) : (s.modCs i f).copies = s.copies := rfl
@[simp] theorem State.modCs_lockSame (s : State) (i : Nat) (f : CanSlot → CanSlot) : (s.modCs i f).lockSame = s.lockSame := rfl
@[simp] theorem State.modCs_lockCmpAt (s : State) (i : Nat) (f : CanSlot → CanSlot) : (s.modCs i f).lockCmpAt = s.lockCmpAt := rfl
@[simp] theorem State.modCs_mon (s : State) (i : Nat) (f : CanSlot → CanSlot) : (s.modCs i f).mon = s.mon := rfl
@[simp] theorem State.modCs_otp (s : State) (i : Nat) (f : CanSlot → CanSlot) : (s.modCs i f).otp = s.otp := rfl
@[simp] theorem State.modCs_nvm (s : State) (i : Nat) (f : CanSlot → CanSlot) : (s.modCs i f).nvm = s.nvm := rfl
@[simp] theorem State.modCs_pwt (s : State) (i : Nat) (f : CanSlot → CanSlot) : (s.modCs i f).pwt = s.pwt := rfl
@[simp] theorem State.modCs_pwtProf (s : State) (i : Nat) (f : CanSlot → CanSlot) : (s.modCs i f).pwtProf = s.pwtProf := rfl
@[simp] theorem State.modCs_can (s : State) (i : Nat) (f : CanSlot → CanSlot) : (s.modCs i f).can = s.can := rfl
@[simp] theorem State.modCs_fir (s : State) (i : Nat) (f : CanSlot → CanSlot) : (s.modCs i f).fir = s.fir := rfl
@[simp] theorem State.modCs_pats (s : State) (i : Nat) (f : CanSlot → CanSlot) : (s.modCs i f).pats = s.pats := rfl
@[simp] theorem State.modCs_patEdge (s : State) (i : Nat) (f : CanSlot → CanSlot) : (s.modCs i f).patEdge = s.patEdge := rfl
@[simp] theorem State.modCs_obsLive (s : State) (i : Nat) (f : CanSlot → CanSlot) : (s.modCs i f).obsLive = s.obsLive := rfl
@[simp] theorem State.modCs_seqTab (s : State) (i : Nat) (f : CanSlot → CanSlot) : (s.modCs i f).seqTab = s.seqTab := rfl
@[simp] theorem State.modCs_cmdTab (s : State) (i : Nat) (f : CanSlot → CanSlot) : (s.modCs i f).cmdTab = s.cmdTab := rfl
@[simp] theorem State.modCs_fecs (s : State) (i : Nat) (f : CanSlot → CanSlot) : (s.modCs i f).fecs = s.fecs := rfl
@[simp] theorem State.modCs_lineAt (s : State) (i : Nat) (f : CanSlot → CanSlot) : (s.modCs i f).lineAt = s.lineAt := rfl
@[simp] theorem State.modCs_buses (s : State) (i : Nat) (f : CanSlot → CanSlot) : (s.modCs i f).buses = s.buses := rfl
@[simp] theorem State.modCs_satAt (s : State) (i : Nat) (f : CanSlot → CanSlot) : (s.modCs i f).satAt = s.satAt := rfl
@[simp] theorem State.modCs_divs (s : State) (i : Nat) (f : CanSlot → CanSlot) : (s.modCs i f).divs = s.divs := rfl
@[simp] theorem State.modCs_tb (s : State) (i : Nat) (f : CanSlot → CanSlot) : (s.modCs i f).tb = s.tb := rfl
@[simp] theorem State.modCs_pwtStepAt (s : State) (i : Nat) (f : CanSlot → CanSlot) : (s.modCs i f).pwtStepAt = s.pwtStepAt := rfl
@[simp] theorem State.modCs_txenAt (s : State) (i : Nat) (f : CanSlot → CanSlot) : (s.modCs i f).txenAt = s.txenAt := rfl
@[simp] theorem State.modCs_pwtWord (s : State) (i : Nat) (f : CanSlot → CanSlot) : (s.modCs i f).pwtWord = s.pwtWord := rfl
@[simp] theorem State.modCs_pwtCode (s : State) (i : Nat) (f : CanSlot → CanSlot) : (s.modCs i f).pwtCode = s.pwtCode := rfl
@[simp] theorem State.modCs_pwtAt (s : State) (i : Nat) (f : CanSlot → CanSlot) : (s.modCs i f).pwtAt = s.pwtAt := rfl
@[simp] theorem State.modCs_tansy (s : State) (i : Nat) (f : CanSlot → CanSlot) : (s.modCs i f).tansy = s.tansy := rfl
@[simp] theorem State.modCs_gov (s : State) (i : Nat) (f : CanSlot → CanSlot) : (s.modCs i f).gov = s.gov := rfl
@[simp] theorem State.modCs_loops (s : State) (i : Nat) (f : CanSlot → CanSlot) : (s.modCs i f).loops = s.loops := rfl
@[simp] theorem State.modCs_mat (s : State) (i : Nat) (f : CanSlot → CanSlot) : (s.modCs i f).mat = s.mat := rfl
@[simp] theorem State.modCs_clv (s : State) (i : Nat) (f : CanSlot → CanSlot) : (s.modCs i f).clv = s.clv := rfl
@[simp] theorem State.modCs_maskSeen (s : State) (i : Nat) (f : CanSlot → CanSlot) : (s.modCs i f).maskSeen = s.maskSeen := rfl
@[simp] theorem State.modCs_lnk (s : State) (i : Nat) (f : CanSlot → CanSlot) : (s.modCs i f).lnk = s.lnk := rfl
@[simp] theorem State.modCs_exps (s : State) (i : Nat) (f : CanSlot → CanSlot) : (s.modCs i f).exps = s.exps := rfl
@[simp] theorem State.modCs_cnv (s : State) (i : Nat) (f : CanSlot → CanSlot) : (s.modCs i f).cnv = s.cnv := rfl
@[simp] theorem State.modCs_thm (s : State) (i : Nat) (f : CanSlot → CanSlot) : (s.modCs i f).thm = s.thm := rfl
@[simp] theorem State.modGv_get (s : State) (i : Nat) (f : Gov → Gov) (g : Fld) : (s.modGv i f).get g = s.get g := rfl
@[simp] theorem State.modGv_pending (s : State) (i : Nat) (f : Gov → Gov) : (s.modGv i f).pending = s.pending := rfl
@[simp] theorem State.modGv_now (s : State) (i : Nat) (f : Gov → Gov) : (s.modGv i f).now = s.now := rfl
@[simp] theorem State.modGv_fresh (s : State) (i : Nat) (f : Gov → Gov) : (s.modGv i f).fresh = s.fresh := rfl
@[simp] theorem State.modGv_out (s : State) (i : Nat) (f : Gov → Gov) : (s.modGv i f).out = s.out := rfl
@[simp] theorem State.modGv_reg (s : State) (i : Nat) (f : Gov → Gov) : (s.modGv i f).reg = s.reg := rfl
@[simp] theorem State.modGv_board (s : State) (i : Nat) (f : Gov → Gov) : (s.modGv i f).board = s.board := rfl
@[simp] theorem State.modGv_straps (s : State) (i : Nat) (f : Gov → Gov) : (s.modGv i f).straps = s.straps := rfl
@[simp] theorem State.modGv_rst (s : State) (i : Nat) (f : Gov → Gov) : (s.modGv i f).rst = s.rst := rfl
@[simp] theorem State.modGv_aon (s : State) (i : Nat) (f : Gov → Gov) : (s.modGv i f).aon = s.aon := rfl
@[simp] theorem State.modGv_rails (s : State) (i : Nat) (f : Gov → Gov) : (s.modGv i f).rails = s.rails := rfl
@[simp] theorem State.modGv_needReq (s : State) (i : Nat) (f : Gov → Gov) : (s.modGv i f).needReq = s.needReq := rfl
@[simp] theorem State.modGv_prof (s : State) (i : Nat) (f : Gov → Gov) : (s.modGv i f).prof = s.prof := rfl
@[simp] theorem State.modGv_chanDown (s : State) (i : Nat) (f : Gov → Gov) : (s.modGv i f).chanDown = s.chanDown := rfl
@[simp] theorem State.modGv_chanUp (s : State) (i : Nat) (f : Gov → Gov) : (s.modGv i f).chanUp = s.chanUp := rfl
@[simp] theorem State.modGv_tr (s : State) (i : Nat) (f : Gov → Gov) : (s.modGv i f).tr = s.tr := rfl
@[simp] theorem State.modGv_own (s : State) (i : Nat) (f : Gov → Gov) : (s.modGv i f).own = s.own := rfl
@[simp] theorem State.modGv_ports (s : State) (i : Nat) (f : Gov → Gov) : (s.modGv i f).ports = s.ports := rfl
@[simp] theorem State.modGv_evt (s : State) (i : Nat) (f : Gov → Gov) : (s.modGv i f).evt = s.evt := rfl
@[simp] theorem State.modGv_flt (s : State) (i : Nat) (f : Gov → Gov) : (s.modGv i f).flt = s.flt := rfl
@[simp] theorem State.modGv_active (s : State) (i : Nat) (f : Gov → Gov) : (s.modGv i f).active = s.active := rfl
@[simp] theorem State.modGv_slots (s : State) (i : Nat) (f : Gov → Gov) : (s.modGv i f).slots = s.slots := rfl
@[simp] theorem State.modGv_live (s : State) (i : Nat) (f : Gov → Gov) : (s.modGv i f).live = s.live := rfl
@[simp] theorem State.modGv_snap (s : State) (i : Nat) (f : Gov → Gov) : (s.modGv i f).snap = s.snap := rfl
@[simp] theorem State.modGv_bias (s : State) (i : Nat) (f : Gov → Gov) : (s.modGv i f).bias = s.bias := rfl
@[simp] theorem State.modGv_biasOk (s : State) (i : Nat) (f : Gov → Gov) : (s.modGv i f).biasOk = s.biasOk := rfl
@[simp] theorem State.modGv_iced (s : State) (i : Nat) (f : Gov → Gov) : (s.modGv i f).iced = s.iced := rfl
@[simp] theorem State.modGv_trapHold (s : State) (i : Nat) (f : Gov → Gov) : (s.modGv i f).trapHold = s.trapHold := rfl
@[simp] theorem State.modGv_nmi (s : State) (i : Nat) (f : Gov → Gov) : (s.modGv i f).nmi = s.nmi := rfl
@[simp] theorem State.modGv_lockSig (s : State) (i : Nat) (f : Gov → Gov) : (s.modGv i f).lockSig = s.lockSig := rfl
@[simp] theorem State.modGv_copies (s : State) (i : Nat) (f : Gov → Gov) : (s.modGv i f).copies = s.copies := rfl
@[simp] theorem State.modGv_lockSame (s : State) (i : Nat) (f : Gov → Gov) : (s.modGv i f).lockSame = s.lockSame := rfl
@[simp] theorem State.modGv_lockCmpAt (s : State) (i : Nat) (f : Gov → Gov) : (s.modGv i f).lockCmpAt = s.lockCmpAt := rfl
@[simp] theorem State.modGv_mon (s : State) (i : Nat) (f : Gov → Gov) : (s.modGv i f).mon = s.mon := rfl
@[simp] theorem State.modGv_otp (s : State) (i : Nat) (f : Gov → Gov) : (s.modGv i f).otp = s.otp := rfl
@[simp] theorem State.modGv_nvm (s : State) (i : Nat) (f : Gov → Gov) : (s.modGv i f).nvm = s.nvm := rfl
@[simp] theorem State.modGv_pwt (s : State) (i : Nat) (f : Gov → Gov) : (s.modGv i f).pwt = s.pwt := rfl
@[simp] theorem State.modGv_pwtProf (s : State) (i : Nat) (f : Gov → Gov) : (s.modGv i f).pwtProf = s.pwtProf := rfl
@[simp] theorem State.modGv_canS (s : State) (i : Nat) (f : Gov → Gov) : (s.modGv i f).canS = s.canS := rfl
@[simp] theorem State.modGv_can (s : State) (i : Nat) (f : Gov → Gov) : (s.modGv i f).can = s.can := rfl
@[simp] theorem State.modGv_fir (s : State) (i : Nat) (f : Gov → Gov) : (s.modGv i f).fir = s.fir := rfl
@[simp] theorem State.modGv_pats (s : State) (i : Nat) (f : Gov → Gov) : (s.modGv i f).pats = s.pats := rfl
@[simp] theorem State.modGv_patEdge (s : State) (i : Nat) (f : Gov → Gov) : (s.modGv i f).patEdge = s.patEdge := rfl
@[simp] theorem State.modGv_obsLive (s : State) (i : Nat) (f : Gov → Gov) : (s.modGv i f).obsLive = s.obsLive := rfl
@[simp] theorem State.modGv_seqTab (s : State) (i : Nat) (f : Gov → Gov) : (s.modGv i f).seqTab = s.seqTab := rfl
@[simp] theorem State.modGv_cmdTab (s : State) (i : Nat) (f : Gov → Gov) : (s.modGv i f).cmdTab = s.cmdTab := rfl
@[simp] theorem State.modGv_fecs (s : State) (i : Nat) (f : Gov → Gov) : (s.modGv i f).fecs = s.fecs := rfl
@[simp] theorem State.modGv_lineAt (s : State) (i : Nat) (f : Gov → Gov) : (s.modGv i f).lineAt = s.lineAt := rfl
@[simp] theorem State.modGv_buses (s : State) (i : Nat) (f : Gov → Gov) : (s.modGv i f).buses = s.buses := rfl
@[simp] theorem State.modGv_satAt (s : State) (i : Nat) (f : Gov → Gov) : (s.modGv i f).satAt = s.satAt := rfl
@[simp] theorem State.modGv_divs (s : State) (i : Nat) (f : Gov → Gov) : (s.modGv i f).divs = s.divs := rfl
@[simp] theorem State.modGv_tb (s : State) (i : Nat) (f : Gov → Gov) : (s.modGv i f).tb = s.tb := rfl
@[simp] theorem State.modGv_pwtStepAt (s : State) (i : Nat) (f : Gov → Gov) : (s.modGv i f).pwtStepAt = s.pwtStepAt := rfl
@[simp] theorem State.modGv_txenAt (s : State) (i : Nat) (f : Gov → Gov) : (s.modGv i f).txenAt = s.txenAt := rfl
@[simp] theorem State.modGv_pwtWord (s : State) (i : Nat) (f : Gov → Gov) : (s.modGv i f).pwtWord = s.pwtWord := rfl
@[simp] theorem State.modGv_pwtCode (s : State) (i : Nat) (f : Gov → Gov) : (s.modGv i f).pwtCode = s.pwtCode := rfl
@[simp] theorem State.modGv_pwtAt (s : State) (i : Nat) (f : Gov → Gov) : (s.modGv i f).pwtAt = s.pwtAt := rfl
@[simp] theorem State.modGv_tansy (s : State) (i : Nat) (f : Gov → Gov) : (s.modGv i f).tansy = s.tansy := rfl
@[simp] theorem State.modGv_loops (s : State) (i : Nat) (f : Gov → Gov) : (s.modGv i f).loops = s.loops := rfl
@[simp] theorem State.modGv_mat (s : State) (i : Nat) (f : Gov → Gov) : (s.modGv i f).mat = s.mat := rfl
@[simp] theorem State.modGv_clv (s : State) (i : Nat) (f : Gov → Gov) : (s.modGv i f).clv = s.clv := rfl
@[simp] theorem State.modGv_maskSeen (s : State) (i : Nat) (f : Gov → Gov) : (s.modGv i f).maskSeen = s.maskSeen := rfl
@[simp] theorem State.modGv_lnk (s : State) (i : Nat) (f : Gov → Gov) : (s.modGv i f).lnk = s.lnk := rfl
@[simp] theorem State.modGv_exps (s : State) (i : Nat) (f : Gov → Gov) : (s.modGv i f).exps = s.exps := rfl
@[simp] theorem State.modGv_cnv (s : State) (i : Nat) (f : Gov → Gov) : (s.modGv i f).cnv = s.cnv := rfl
@[simp] theorem State.modGv_thm (s : State) (i : Nat) (f : Gov → Gov) : (s.modGv i f).thm = s.thm := rfl
@[simp] theorem State.modPat_get (s : State) (i : Nat) (f : Pat → Pat) (g : Fld) : (s.modPat i f).get g = s.get g := rfl
@[simp] theorem State.modPat_pending (s : State) (i : Nat) (f : Pat → Pat) : (s.modPat i f).pending = s.pending := rfl
@[simp] theorem State.modPat_now (s : State) (i : Nat) (f : Pat → Pat) : (s.modPat i f).now = s.now := rfl
@[simp] theorem State.modPat_fresh (s : State) (i : Nat) (f : Pat → Pat) : (s.modPat i f).fresh = s.fresh := rfl
@[simp] theorem State.modPat_out (s : State) (i : Nat) (f : Pat → Pat) : (s.modPat i f).out = s.out := rfl
@[simp] theorem State.modPat_reg (s : State) (i : Nat) (f : Pat → Pat) : (s.modPat i f).reg = s.reg := rfl
@[simp] theorem State.modPat_board (s : State) (i : Nat) (f : Pat → Pat) : (s.modPat i f).board = s.board := rfl
@[simp] theorem State.modPat_straps (s : State) (i : Nat) (f : Pat → Pat) : (s.modPat i f).straps = s.straps := rfl
@[simp] theorem State.modPat_rst (s : State) (i : Nat) (f : Pat → Pat) : (s.modPat i f).rst = s.rst := rfl
@[simp] theorem State.modPat_aon (s : State) (i : Nat) (f : Pat → Pat) : (s.modPat i f).aon = s.aon := rfl
@[simp] theorem State.modPat_rails (s : State) (i : Nat) (f : Pat → Pat) : (s.modPat i f).rails = s.rails := rfl
@[simp] theorem State.modPat_needReq (s : State) (i : Nat) (f : Pat → Pat) : (s.modPat i f).needReq = s.needReq := rfl
@[simp] theorem State.modPat_prof (s : State) (i : Nat) (f : Pat → Pat) : (s.modPat i f).prof = s.prof := rfl
@[simp] theorem State.modPat_chanDown (s : State) (i : Nat) (f : Pat → Pat) : (s.modPat i f).chanDown = s.chanDown := rfl
@[simp] theorem State.modPat_chanUp (s : State) (i : Nat) (f : Pat → Pat) : (s.modPat i f).chanUp = s.chanUp := rfl
@[simp] theorem State.modPat_tr (s : State) (i : Nat) (f : Pat → Pat) : (s.modPat i f).tr = s.tr := rfl
@[simp] theorem State.modPat_own (s : State) (i : Nat) (f : Pat → Pat) : (s.modPat i f).own = s.own := rfl
@[simp] theorem State.modPat_ports (s : State) (i : Nat) (f : Pat → Pat) : (s.modPat i f).ports = s.ports := rfl
@[simp] theorem State.modPat_evt (s : State) (i : Nat) (f : Pat → Pat) : (s.modPat i f).evt = s.evt := rfl
@[simp] theorem State.modPat_flt (s : State) (i : Nat) (f : Pat → Pat) : (s.modPat i f).flt = s.flt := rfl
@[simp] theorem State.modPat_active (s : State) (i : Nat) (f : Pat → Pat) : (s.modPat i f).active = s.active := rfl
@[simp] theorem State.modPat_slots (s : State) (i : Nat) (f : Pat → Pat) : (s.modPat i f).slots = s.slots := rfl
@[simp] theorem State.modPat_live (s : State) (i : Nat) (f : Pat → Pat) : (s.modPat i f).live = s.live := rfl
@[simp] theorem State.modPat_snap (s : State) (i : Nat) (f : Pat → Pat) : (s.modPat i f).snap = s.snap := rfl
@[simp] theorem State.modPat_bias (s : State) (i : Nat) (f : Pat → Pat) : (s.modPat i f).bias = s.bias := rfl
@[simp] theorem State.modPat_biasOk (s : State) (i : Nat) (f : Pat → Pat) : (s.modPat i f).biasOk = s.biasOk := rfl
@[simp] theorem State.modPat_iced (s : State) (i : Nat) (f : Pat → Pat) : (s.modPat i f).iced = s.iced := rfl
@[simp] theorem State.modPat_trapHold (s : State) (i : Nat) (f : Pat → Pat) : (s.modPat i f).trapHold = s.trapHold := rfl
@[simp] theorem State.modPat_nmi (s : State) (i : Nat) (f : Pat → Pat) : (s.modPat i f).nmi = s.nmi := rfl
@[simp] theorem State.modPat_lockSig (s : State) (i : Nat) (f : Pat → Pat) : (s.modPat i f).lockSig = s.lockSig := rfl
@[simp] theorem State.modPat_copies (s : State) (i : Nat) (f : Pat → Pat) : (s.modPat i f).copies = s.copies := rfl
@[simp] theorem State.modPat_lockSame (s : State) (i : Nat) (f : Pat → Pat) : (s.modPat i f).lockSame = s.lockSame := rfl
@[simp] theorem State.modPat_lockCmpAt (s : State) (i : Nat) (f : Pat → Pat) : (s.modPat i f).lockCmpAt = s.lockCmpAt := rfl
@[simp] theorem State.modPat_mon (s : State) (i : Nat) (f : Pat → Pat) : (s.modPat i f).mon = s.mon := rfl
@[simp] theorem State.modPat_otp (s : State) (i : Nat) (f : Pat → Pat) : (s.modPat i f).otp = s.otp := rfl
@[simp] theorem State.modPat_nvm (s : State) (i : Nat) (f : Pat → Pat) : (s.modPat i f).nvm = s.nvm := rfl
@[simp] theorem State.modPat_pwt (s : State) (i : Nat) (f : Pat → Pat) : (s.modPat i f).pwt = s.pwt := rfl
@[simp] theorem State.modPat_pwtProf (s : State) (i : Nat) (f : Pat → Pat) : (s.modPat i f).pwtProf = s.pwtProf := rfl
@[simp] theorem State.modPat_canS (s : State) (i : Nat) (f : Pat → Pat) : (s.modPat i f).canS = s.canS := rfl
@[simp] theorem State.modPat_can (s : State) (i : Nat) (f : Pat → Pat) : (s.modPat i f).can = s.can := rfl
@[simp] theorem State.modPat_fir (s : State) (i : Nat) (f : Pat → Pat) : (s.modPat i f).fir = s.fir := rfl
@[simp] theorem State.modPat_patEdge (s : State) (i : Nat) (f : Pat → Pat) : (s.modPat i f).patEdge = s.patEdge := rfl
@[simp] theorem State.modPat_obsLive (s : State) (i : Nat) (f : Pat → Pat) : (s.modPat i f).obsLive = s.obsLive := rfl
@[simp] theorem State.modPat_seqTab (s : State) (i : Nat) (f : Pat → Pat) : (s.modPat i f).seqTab = s.seqTab := rfl
@[simp] theorem State.modPat_cmdTab (s : State) (i : Nat) (f : Pat → Pat) : (s.modPat i f).cmdTab = s.cmdTab := rfl
@[simp] theorem State.modPat_fecs (s : State) (i : Nat) (f : Pat → Pat) : (s.modPat i f).fecs = s.fecs := rfl
@[simp] theorem State.modPat_lineAt (s : State) (i : Nat) (f : Pat → Pat) : (s.modPat i f).lineAt = s.lineAt := rfl
@[simp] theorem State.modPat_buses (s : State) (i : Nat) (f : Pat → Pat) : (s.modPat i f).buses = s.buses := rfl
@[simp] theorem State.modPat_satAt (s : State) (i : Nat) (f : Pat → Pat) : (s.modPat i f).satAt = s.satAt := rfl
@[simp] theorem State.modPat_divs (s : State) (i : Nat) (f : Pat → Pat) : (s.modPat i f).divs = s.divs := rfl
@[simp] theorem State.modPat_tb (s : State) (i : Nat) (f : Pat → Pat) : (s.modPat i f).tb = s.tb := rfl
@[simp] theorem State.modPat_pwtStepAt (s : State) (i : Nat) (f : Pat → Pat) : (s.modPat i f).pwtStepAt = s.pwtStepAt := rfl
@[simp] theorem State.modPat_txenAt (s : State) (i : Nat) (f : Pat → Pat) : (s.modPat i f).txenAt = s.txenAt := rfl
@[simp] theorem State.modPat_pwtWord (s : State) (i : Nat) (f : Pat → Pat) : (s.modPat i f).pwtWord = s.pwtWord := rfl
@[simp] theorem State.modPat_pwtCode (s : State) (i : Nat) (f : Pat → Pat) : (s.modPat i f).pwtCode = s.pwtCode := rfl
@[simp] theorem State.modPat_pwtAt (s : State) (i : Nat) (f : Pat → Pat) : (s.modPat i f).pwtAt = s.pwtAt := rfl
@[simp] theorem State.modPat_tansy (s : State) (i : Nat) (f : Pat → Pat) : (s.modPat i f).tansy = s.tansy := rfl
@[simp] theorem State.modPat_gov (s : State) (i : Nat) (f : Pat → Pat) : (s.modPat i f).gov = s.gov := rfl
@[simp] theorem State.modPat_loops (s : State) (i : Nat) (f : Pat → Pat) : (s.modPat i f).loops = s.loops := rfl
@[simp] theorem State.modPat_mat (s : State) (i : Nat) (f : Pat → Pat) : (s.modPat i f).mat = s.mat := rfl
@[simp] theorem State.modPat_clv (s : State) (i : Nat) (f : Pat → Pat) : (s.modPat i f).clv = s.clv := rfl
@[simp] theorem State.modPat_maskSeen (s : State) (i : Nat) (f : Pat → Pat) : (s.modPat i f).maskSeen = s.maskSeen := rfl
@[simp] theorem State.modPat_lnk (s : State) (i : Nat) (f : Pat → Pat) : (s.modPat i f).lnk = s.lnk := rfl
@[simp] theorem State.modPat_exps (s : State) (i : Nat) (f : Pat → Pat) : (s.modPat i f).exps = s.exps := rfl
@[simp] theorem State.modPat_cnv (s : State) (i : Nat) (f : Pat → Pat) : (s.modPat i f).cnv = s.cnv := rfl
@[simp] theorem State.modPat_thm (s : State) (i : Nat) (f : Pat → Pat) : (s.modPat i f).thm = s.thm := rfl
@[simp] theorem State.modCh_get (s : State) (i : Nat) (f : BiasCh → BiasCh) (g : Fld) : (s.modCh i f).get g = s.get g := rfl
@[simp] theorem State.modCh_pending (s : State) (i : Nat) (f : BiasCh → BiasCh) : (s.modCh i f).pending = s.pending := rfl
@[simp] theorem State.modCh_now (s : State) (i : Nat) (f : BiasCh → BiasCh) : (s.modCh i f).now = s.now := rfl
@[simp] theorem State.modCh_fresh (s : State) (i : Nat) (f : BiasCh → BiasCh) : (s.modCh i f).fresh = s.fresh := rfl
@[simp] theorem State.modCh_out (s : State) (i : Nat) (f : BiasCh → BiasCh) : (s.modCh i f).out = s.out := rfl
@[simp] theorem State.modCh_reg (s : State) (i : Nat) (f : BiasCh → BiasCh) : (s.modCh i f).reg = s.reg := rfl
@[simp] theorem State.modCh_board (s : State) (i : Nat) (f : BiasCh → BiasCh) : (s.modCh i f).board = s.board := rfl
@[simp] theorem State.modCh_straps (s : State) (i : Nat) (f : BiasCh → BiasCh) : (s.modCh i f).straps = s.straps := rfl
@[simp] theorem State.modCh_rst (s : State) (i : Nat) (f : BiasCh → BiasCh) : (s.modCh i f).rst = s.rst := rfl
@[simp] theorem State.modCh_aon (s : State) (i : Nat) (f : BiasCh → BiasCh) : (s.modCh i f).aon = s.aon := rfl
@[simp] theorem State.modCh_rails (s : State) (i : Nat) (f : BiasCh → BiasCh) : (s.modCh i f).rails = s.rails := rfl
@[simp] theorem State.modCh_needReq (s : State) (i : Nat) (f : BiasCh → BiasCh) : (s.modCh i f).needReq = s.needReq := rfl
@[simp] theorem State.modCh_prof (s : State) (i : Nat) (f : BiasCh → BiasCh) : (s.modCh i f).prof = s.prof := rfl
@[simp] theorem State.modCh_chanDown (s : State) (i : Nat) (f : BiasCh → BiasCh) : (s.modCh i f).chanDown = s.chanDown := rfl
@[simp] theorem State.modCh_chanUp (s : State) (i : Nat) (f : BiasCh → BiasCh) : (s.modCh i f).chanUp = s.chanUp := rfl
@[simp] theorem State.modCh_tr (s : State) (i : Nat) (f : BiasCh → BiasCh) : (s.modCh i f).tr = s.tr := rfl
@[simp] theorem State.modCh_own (s : State) (i : Nat) (f : BiasCh → BiasCh) : (s.modCh i f).own = s.own := rfl
@[simp] theorem State.modCh_ports (s : State) (i : Nat) (f : BiasCh → BiasCh) : (s.modCh i f).ports = s.ports := rfl
@[simp] theorem State.modCh_evt (s : State) (i : Nat) (f : BiasCh → BiasCh) : (s.modCh i f).evt = s.evt := rfl
@[simp] theorem State.modCh_flt (s : State) (i : Nat) (f : BiasCh → BiasCh) : (s.modCh i f).flt = s.flt := rfl
@[simp] theorem State.modCh_active (s : State) (i : Nat) (f : BiasCh → BiasCh) : (s.modCh i f).active = s.active := rfl
@[simp] theorem State.modCh_slots (s : State) (i : Nat) (f : BiasCh → BiasCh) : (s.modCh i f).slots = s.slots := rfl
@[simp] theorem State.modCh_live (s : State) (i : Nat) (f : BiasCh → BiasCh) : (s.modCh i f).live = s.live := rfl
@[simp] theorem State.modCh_snap (s : State) (i : Nat) (f : BiasCh → BiasCh) : (s.modCh i f).snap = s.snap := rfl
@[simp] theorem State.modCh_biasOk (s : State) (i : Nat) (f : BiasCh → BiasCh) : (s.modCh i f).biasOk = s.biasOk := rfl
@[simp] theorem State.modCh_iced (s : State) (i : Nat) (f : BiasCh → BiasCh) : (s.modCh i f).iced = s.iced := rfl
@[simp] theorem State.modCh_trapHold (s : State) (i : Nat) (f : BiasCh → BiasCh) : (s.modCh i f).trapHold = s.trapHold := rfl
@[simp] theorem State.modCh_nmi (s : State) (i : Nat) (f : BiasCh → BiasCh) : (s.modCh i f).nmi = s.nmi := rfl
@[simp] theorem State.modCh_lockSig (s : State) (i : Nat) (f : BiasCh → BiasCh) : (s.modCh i f).lockSig = s.lockSig := rfl
@[simp] theorem State.modCh_copies (s : State) (i : Nat) (f : BiasCh → BiasCh) : (s.modCh i f).copies = s.copies := rfl
@[simp] theorem State.modCh_lockSame (s : State) (i : Nat) (f : BiasCh → BiasCh) : (s.modCh i f).lockSame = s.lockSame := rfl
@[simp] theorem State.modCh_lockCmpAt (s : State) (i : Nat) (f : BiasCh → BiasCh) : (s.modCh i f).lockCmpAt = s.lockCmpAt := rfl
@[simp] theorem State.modCh_mon (s : State) (i : Nat) (f : BiasCh → BiasCh) : (s.modCh i f).mon = s.mon := rfl
@[simp] theorem State.modCh_otp (s : State) (i : Nat) (f : BiasCh → BiasCh) : (s.modCh i f).otp = s.otp := rfl
@[simp] theorem State.modCh_nvm (s : State) (i : Nat) (f : BiasCh → BiasCh) : (s.modCh i f).nvm = s.nvm := rfl
@[simp] theorem State.modCh_pwt (s : State) (i : Nat) (f : BiasCh → BiasCh) : (s.modCh i f).pwt = s.pwt := rfl
@[simp] theorem State.modCh_pwtProf (s : State) (i : Nat) (f : BiasCh → BiasCh) : (s.modCh i f).pwtProf = s.pwtProf := rfl
@[simp] theorem State.modCh_canS (s : State) (i : Nat) (f : BiasCh → BiasCh) : (s.modCh i f).canS = s.canS := rfl
@[simp] theorem State.modCh_can (s : State) (i : Nat) (f : BiasCh → BiasCh) : (s.modCh i f).can = s.can := rfl
@[simp] theorem State.modCh_fir (s : State) (i : Nat) (f : BiasCh → BiasCh) : (s.modCh i f).fir = s.fir := rfl
@[simp] theorem State.modCh_pats (s : State) (i : Nat) (f : BiasCh → BiasCh) : (s.modCh i f).pats = s.pats := rfl
@[simp] theorem State.modCh_patEdge (s : State) (i : Nat) (f : BiasCh → BiasCh) : (s.modCh i f).patEdge = s.patEdge := rfl
@[simp] theorem State.modCh_obsLive (s : State) (i : Nat) (f : BiasCh → BiasCh) : (s.modCh i f).obsLive = s.obsLive := rfl
@[simp] theorem State.modCh_seqTab (s : State) (i : Nat) (f : BiasCh → BiasCh) : (s.modCh i f).seqTab = s.seqTab := rfl
@[simp] theorem State.modCh_cmdTab (s : State) (i : Nat) (f : BiasCh → BiasCh) : (s.modCh i f).cmdTab = s.cmdTab := rfl
@[simp] theorem State.modCh_fecs (s : State) (i : Nat) (f : BiasCh → BiasCh) : (s.modCh i f).fecs = s.fecs := rfl
@[simp] theorem State.modCh_lineAt (s : State) (i : Nat) (f : BiasCh → BiasCh) : (s.modCh i f).lineAt = s.lineAt := rfl
@[simp] theorem State.modCh_buses (s : State) (i : Nat) (f : BiasCh → BiasCh) : (s.modCh i f).buses = s.buses := rfl
@[simp] theorem State.modCh_satAt (s : State) (i : Nat) (f : BiasCh → BiasCh) : (s.modCh i f).satAt = s.satAt := rfl
@[simp] theorem State.modCh_divs (s : State) (i : Nat) (f : BiasCh → BiasCh) : (s.modCh i f).divs = s.divs := rfl
@[simp] theorem State.modCh_tb (s : State) (i : Nat) (f : BiasCh → BiasCh) : (s.modCh i f).tb = s.tb := rfl
@[simp] theorem State.modCh_pwtStepAt (s : State) (i : Nat) (f : BiasCh → BiasCh) : (s.modCh i f).pwtStepAt = s.pwtStepAt := rfl
@[simp] theorem State.modCh_txenAt (s : State) (i : Nat) (f : BiasCh → BiasCh) : (s.modCh i f).txenAt = s.txenAt := rfl
@[simp] theorem State.modCh_pwtWord (s : State) (i : Nat) (f : BiasCh → BiasCh) : (s.modCh i f).pwtWord = s.pwtWord := rfl
@[simp] theorem State.modCh_pwtCode (s : State) (i : Nat) (f : BiasCh → BiasCh) : (s.modCh i f).pwtCode = s.pwtCode := rfl
@[simp] theorem State.modCh_pwtAt (s : State) (i : Nat) (f : BiasCh → BiasCh) : (s.modCh i f).pwtAt = s.pwtAt := rfl
@[simp] theorem State.modCh_tansy (s : State) (i : Nat) (f : BiasCh → BiasCh) : (s.modCh i f).tansy = s.tansy := rfl
@[simp] theorem State.modCh_gov (s : State) (i : Nat) (f : BiasCh → BiasCh) : (s.modCh i f).gov = s.gov := rfl
@[simp] theorem State.modCh_loops (s : State) (i : Nat) (f : BiasCh → BiasCh) : (s.modCh i f).loops = s.loops := rfl
@[simp] theorem State.modCh_mat (s : State) (i : Nat) (f : BiasCh → BiasCh) : (s.modCh i f).mat = s.mat := rfl
@[simp] theorem State.modCh_clv (s : State) (i : Nat) (f : BiasCh → BiasCh) : (s.modCh i f).clv = s.clv := rfl
@[simp] theorem State.modCh_maskSeen (s : State) (i : Nat) (f : BiasCh → BiasCh) : (s.modCh i f).maskSeen = s.maskSeen := rfl
@[simp] theorem State.modCh_lnk (s : State) (i : Nat) (f : BiasCh → BiasCh) : (s.modCh i f).lnk = s.lnk := rfl
@[simp] theorem State.modCh_exps (s : State) (i : Nat) (f : BiasCh → BiasCh) : (s.modCh i f).exps = s.exps := rfl
@[simp] theorem State.modCh_cnv (s : State) (i : Nat) (f : BiasCh → BiasCh) : (s.modCh i f).cnv = s.cnv := rfl
@[simp] theorem State.modCh_thm (s : State) (i : Nat) (f : BiasCh → BiasCh) : (s.modCh i f).thm = s.thm := rfl
@[simp] theorem State.modChip_get (s : State) (i : Nat) (f : Cnv → Cnv) (g : Fld) : (s.modChip i f).get g = s.get g := rfl
@[simp] theorem State.modChip_pending (s : State) (i : Nat) (f : Cnv → Cnv) : (s.modChip i f).pending = s.pending := rfl
@[simp] theorem State.modChip_now (s : State) (i : Nat) (f : Cnv → Cnv) : (s.modChip i f).now = s.now := rfl
@[simp] theorem State.modChip_fresh (s : State) (i : Nat) (f : Cnv → Cnv) : (s.modChip i f).fresh = s.fresh := rfl
@[simp] theorem State.modChip_out (s : State) (i : Nat) (f : Cnv → Cnv) : (s.modChip i f).out = s.out := rfl
@[simp] theorem State.modChip_reg (s : State) (i : Nat) (f : Cnv → Cnv) : (s.modChip i f).reg = s.reg := rfl
@[simp] theorem State.modChip_board (s : State) (i : Nat) (f : Cnv → Cnv) : (s.modChip i f).board = s.board := rfl
@[simp] theorem State.modChip_straps (s : State) (i : Nat) (f : Cnv → Cnv) : (s.modChip i f).straps = s.straps := rfl
@[simp] theorem State.modChip_rst (s : State) (i : Nat) (f : Cnv → Cnv) : (s.modChip i f).rst = s.rst := rfl
@[simp] theorem State.modChip_aon (s : State) (i : Nat) (f : Cnv → Cnv) : (s.modChip i f).aon = s.aon := rfl
@[simp] theorem State.modChip_rails (s : State) (i : Nat) (f : Cnv → Cnv) : (s.modChip i f).rails = s.rails := rfl
@[simp] theorem State.modChip_needReq (s : State) (i : Nat) (f : Cnv → Cnv) : (s.modChip i f).needReq = s.needReq := rfl
@[simp] theorem State.modChip_prof (s : State) (i : Nat) (f : Cnv → Cnv) : (s.modChip i f).prof = s.prof := rfl
@[simp] theorem State.modChip_chanDown (s : State) (i : Nat) (f : Cnv → Cnv) : (s.modChip i f).chanDown = s.chanDown := rfl
@[simp] theorem State.modChip_chanUp (s : State) (i : Nat) (f : Cnv → Cnv) : (s.modChip i f).chanUp = s.chanUp := rfl
@[simp] theorem State.modChip_tr (s : State) (i : Nat) (f : Cnv → Cnv) : (s.modChip i f).tr = s.tr := rfl
@[simp] theorem State.modChip_own (s : State) (i : Nat) (f : Cnv → Cnv) : (s.modChip i f).own = s.own := rfl
@[simp] theorem State.modChip_ports (s : State) (i : Nat) (f : Cnv → Cnv) : (s.modChip i f).ports = s.ports := rfl
@[simp] theorem State.modChip_evt (s : State) (i : Nat) (f : Cnv → Cnv) : (s.modChip i f).evt = s.evt := rfl
@[simp] theorem State.modChip_flt (s : State) (i : Nat) (f : Cnv → Cnv) : (s.modChip i f).flt = s.flt := rfl
@[simp] theorem State.modChip_active (s : State) (i : Nat) (f : Cnv → Cnv) : (s.modChip i f).active = s.active := rfl
@[simp] theorem State.modChip_slots (s : State) (i : Nat) (f : Cnv → Cnv) : (s.modChip i f).slots = s.slots := rfl
@[simp] theorem State.modChip_live (s : State) (i : Nat) (f : Cnv → Cnv) : (s.modChip i f).live = s.live := rfl
@[simp] theorem State.modChip_snap (s : State) (i : Nat) (f : Cnv → Cnv) : (s.modChip i f).snap = s.snap := rfl
@[simp] theorem State.modChip_bias (s : State) (i : Nat) (f : Cnv → Cnv) : (s.modChip i f).bias = s.bias := rfl
@[simp] theorem State.modChip_biasOk (s : State) (i : Nat) (f : Cnv → Cnv) : (s.modChip i f).biasOk = s.biasOk := rfl
@[simp] theorem State.modChip_iced (s : State) (i : Nat) (f : Cnv → Cnv) : (s.modChip i f).iced = s.iced := rfl
@[simp] theorem State.modChip_trapHold (s : State) (i : Nat) (f : Cnv → Cnv) : (s.modChip i f).trapHold = s.trapHold := rfl
@[simp] theorem State.modChip_nmi (s : State) (i : Nat) (f : Cnv → Cnv) : (s.modChip i f).nmi = s.nmi := rfl
@[simp] theorem State.modChip_lockSig (s : State) (i : Nat) (f : Cnv → Cnv) : (s.modChip i f).lockSig = s.lockSig := rfl
@[simp] theorem State.modChip_copies (s : State) (i : Nat) (f : Cnv → Cnv) : (s.modChip i f).copies = s.copies := rfl
@[simp] theorem State.modChip_lockSame (s : State) (i : Nat) (f : Cnv → Cnv) : (s.modChip i f).lockSame = s.lockSame := rfl
@[simp] theorem State.modChip_lockCmpAt (s : State) (i : Nat) (f : Cnv → Cnv) : (s.modChip i f).lockCmpAt = s.lockCmpAt := rfl
@[simp] theorem State.modChip_mon (s : State) (i : Nat) (f : Cnv → Cnv) : (s.modChip i f).mon = s.mon := rfl
@[simp] theorem State.modChip_otp (s : State) (i : Nat) (f : Cnv → Cnv) : (s.modChip i f).otp = s.otp := rfl
@[simp] theorem State.modChip_nvm (s : State) (i : Nat) (f : Cnv → Cnv) : (s.modChip i f).nvm = s.nvm := rfl
@[simp] theorem State.modChip_pwt (s : State) (i : Nat) (f : Cnv → Cnv) : (s.modChip i f).pwt = s.pwt := rfl
@[simp] theorem State.modChip_pwtProf (s : State) (i : Nat) (f : Cnv → Cnv) : (s.modChip i f).pwtProf = s.pwtProf := rfl
@[simp] theorem State.modChip_canS (s : State) (i : Nat) (f : Cnv → Cnv) : (s.modChip i f).canS = s.canS := rfl
@[simp] theorem State.modChip_can (s : State) (i : Nat) (f : Cnv → Cnv) : (s.modChip i f).can = s.can := rfl
@[simp] theorem State.modChip_fir (s : State) (i : Nat) (f : Cnv → Cnv) : (s.modChip i f).fir = s.fir := rfl
@[simp] theorem State.modChip_pats (s : State) (i : Nat) (f : Cnv → Cnv) : (s.modChip i f).pats = s.pats := rfl
@[simp] theorem State.modChip_patEdge (s : State) (i : Nat) (f : Cnv → Cnv) : (s.modChip i f).patEdge = s.patEdge := rfl
@[simp] theorem State.modChip_obsLive (s : State) (i : Nat) (f : Cnv → Cnv) : (s.modChip i f).obsLive = s.obsLive := rfl
@[simp] theorem State.modChip_seqTab (s : State) (i : Nat) (f : Cnv → Cnv) : (s.modChip i f).seqTab = s.seqTab := rfl
@[simp] theorem State.modChip_cmdTab (s : State) (i : Nat) (f : Cnv → Cnv) : (s.modChip i f).cmdTab = s.cmdTab := rfl
@[simp] theorem State.modChip_fecs (s : State) (i : Nat) (f : Cnv → Cnv) : (s.modChip i f).fecs = s.fecs := rfl
@[simp] theorem State.modChip_lineAt (s : State) (i : Nat) (f : Cnv → Cnv) : (s.modChip i f).lineAt = s.lineAt := rfl
@[simp] theorem State.modChip_buses (s : State) (i : Nat) (f : Cnv → Cnv) : (s.modChip i f).buses = s.buses := rfl
@[simp] theorem State.modChip_satAt (s : State) (i : Nat) (f : Cnv → Cnv) : (s.modChip i f).satAt = s.satAt := rfl
@[simp] theorem State.modChip_divs (s : State) (i : Nat) (f : Cnv → Cnv) : (s.modChip i f).divs = s.divs := rfl
@[simp] theorem State.modChip_tb (s : State) (i : Nat) (f : Cnv → Cnv) : (s.modChip i f).tb = s.tb := rfl
@[simp] theorem State.modChip_pwtStepAt (s : State) (i : Nat) (f : Cnv → Cnv) : (s.modChip i f).pwtStepAt = s.pwtStepAt := rfl
@[simp] theorem State.modChip_txenAt (s : State) (i : Nat) (f : Cnv → Cnv) : (s.modChip i f).txenAt = s.txenAt := rfl
@[simp] theorem State.modChip_pwtWord (s : State) (i : Nat) (f : Cnv → Cnv) : (s.modChip i f).pwtWord = s.pwtWord := rfl
@[simp] theorem State.modChip_pwtCode (s : State) (i : Nat) (f : Cnv → Cnv) : (s.modChip i f).pwtCode = s.pwtCode := rfl
@[simp] theorem State.modChip_pwtAt (s : State) (i : Nat) (f : Cnv → Cnv) : (s.modChip i f).pwtAt = s.pwtAt := rfl
@[simp] theorem State.modChip_tansy (s : State) (i : Nat) (f : Cnv → Cnv) : (s.modChip i f).tansy = s.tansy := rfl
@[simp] theorem State.modChip_gov (s : State) (i : Nat) (f : Cnv → Cnv) : (s.modChip i f).gov = s.gov := rfl
@[simp] theorem State.modChip_loops (s : State) (i : Nat) (f : Cnv → Cnv) : (s.modChip i f).loops = s.loops := rfl
@[simp] theorem State.modChip_mat (s : State) (i : Nat) (f : Cnv → Cnv) : (s.modChip i f).mat = s.mat := rfl
@[simp] theorem State.modChip_clv (s : State) (i : Nat) (f : Cnv → Cnv) : (s.modChip i f).clv = s.clv := rfl
@[simp] theorem State.modChip_maskSeen (s : State) (i : Nat) (f : Cnv → Cnv) : (s.modChip i f).maskSeen = s.maskSeen := rfl
@[simp] theorem State.modChip_lnk (s : State) (i : Nat) (f : Cnv → Cnv) : (s.modChip i f).lnk = s.lnk := rfl
@[simp] theorem State.modChip_exps (s : State) (i : Nat) (f : Cnv → Cnv) : (s.modChip i f).exps = s.exps := rfl
@[simp] theorem State.modChip_thm (s : State) (i : Nat) (f : Cnv → Cnv) : (s.modChip i f).thm = s.thm := rfl
@[simp] theorem State.modFec_get (s : State) (i : Nat) (f : Fec → Fec) (g : Fld) : (s.modFec i f).get g = s.get g := rfl
@[simp] theorem State.modFec_pending (s : State) (i : Nat) (f : Fec → Fec) : (s.modFec i f).pending = s.pending := rfl
@[simp] theorem State.modFec_now (s : State) (i : Nat) (f : Fec → Fec) : (s.modFec i f).now = s.now := rfl
@[simp] theorem State.modFec_fresh (s : State) (i : Nat) (f : Fec → Fec) : (s.modFec i f).fresh = s.fresh := rfl
@[simp] theorem State.modFec_out (s : State) (i : Nat) (f : Fec → Fec) : (s.modFec i f).out = s.out := rfl
@[simp] theorem State.modFec_reg (s : State) (i : Nat) (f : Fec → Fec) : (s.modFec i f).reg = s.reg := rfl
@[simp] theorem State.modFec_board (s : State) (i : Nat) (f : Fec → Fec) : (s.modFec i f).board = s.board := rfl
@[simp] theorem State.modFec_straps (s : State) (i : Nat) (f : Fec → Fec) : (s.modFec i f).straps = s.straps := rfl
@[simp] theorem State.modFec_rst (s : State) (i : Nat) (f : Fec → Fec) : (s.modFec i f).rst = s.rst := rfl
@[simp] theorem State.modFec_aon (s : State) (i : Nat) (f : Fec → Fec) : (s.modFec i f).aon = s.aon := rfl
@[simp] theorem State.modFec_rails (s : State) (i : Nat) (f : Fec → Fec) : (s.modFec i f).rails = s.rails := rfl
@[simp] theorem State.modFec_needReq (s : State) (i : Nat) (f : Fec → Fec) : (s.modFec i f).needReq = s.needReq := rfl
@[simp] theorem State.modFec_prof (s : State) (i : Nat) (f : Fec → Fec) : (s.modFec i f).prof = s.prof := rfl
@[simp] theorem State.modFec_chanDown (s : State) (i : Nat) (f : Fec → Fec) : (s.modFec i f).chanDown = s.chanDown := rfl
@[simp] theorem State.modFec_chanUp (s : State) (i : Nat) (f : Fec → Fec) : (s.modFec i f).chanUp = s.chanUp := rfl
@[simp] theorem State.modFec_tr (s : State) (i : Nat) (f : Fec → Fec) : (s.modFec i f).tr = s.tr := rfl
@[simp] theorem State.modFec_own (s : State) (i : Nat) (f : Fec → Fec) : (s.modFec i f).own = s.own := rfl
@[simp] theorem State.modFec_ports (s : State) (i : Nat) (f : Fec → Fec) : (s.modFec i f).ports = s.ports := rfl
@[simp] theorem State.modFec_evt (s : State) (i : Nat) (f : Fec → Fec) : (s.modFec i f).evt = s.evt := rfl
@[simp] theorem State.modFec_flt (s : State) (i : Nat) (f : Fec → Fec) : (s.modFec i f).flt = s.flt := rfl
@[simp] theorem State.modFec_active (s : State) (i : Nat) (f : Fec → Fec) : (s.modFec i f).active = s.active := rfl
@[simp] theorem State.modFec_slots (s : State) (i : Nat) (f : Fec → Fec) : (s.modFec i f).slots = s.slots := rfl
@[simp] theorem State.modFec_live (s : State) (i : Nat) (f : Fec → Fec) : (s.modFec i f).live = s.live := rfl
@[simp] theorem State.modFec_snap (s : State) (i : Nat) (f : Fec → Fec) : (s.modFec i f).snap = s.snap := rfl
@[simp] theorem State.modFec_bias (s : State) (i : Nat) (f : Fec → Fec) : (s.modFec i f).bias = s.bias := rfl
@[simp] theorem State.modFec_biasOk (s : State) (i : Nat) (f : Fec → Fec) : (s.modFec i f).biasOk = s.biasOk := rfl
@[simp] theorem State.modFec_iced (s : State) (i : Nat) (f : Fec → Fec) : (s.modFec i f).iced = s.iced := rfl
@[simp] theorem State.modFec_trapHold (s : State) (i : Nat) (f : Fec → Fec) : (s.modFec i f).trapHold = s.trapHold := rfl
@[simp] theorem State.modFec_nmi (s : State) (i : Nat) (f : Fec → Fec) : (s.modFec i f).nmi = s.nmi := rfl
@[simp] theorem State.modFec_lockSig (s : State) (i : Nat) (f : Fec → Fec) : (s.modFec i f).lockSig = s.lockSig := rfl
@[simp] theorem State.modFec_copies (s : State) (i : Nat) (f : Fec → Fec) : (s.modFec i f).copies = s.copies := rfl
@[simp] theorem State.modFec_lockSame (s : State) (i : Nat) (f : Fec → Fec) : (s.modFec i f).lockSame = s.lockSame := rfl
@[simp] theorem State.modFec_lockCmpAt (s : State) (i : Nat) (f : Fec → Fec) : (s.modFec i f).lockCmpAt = s.lockCmpAt := rfl
@[simp] theorem State.modFec_mon (s : State) (i : Nat) (f : Fec → Fec) : (s.modFec i f).mon = s.mon := rfl
@[simp] theorem State.modFec_otp (s : State) (i : Nat) (f : Fec → Fec) : (s.modFec i f).otp = s.otp := rfl
@[simp] theorem State.modFec_nvm (s : State) (i : Nat) (f : Fec → Fec) : (s.modFec i f).nvm = s.nvm := rfl
@[simp] theorem State.modFec_pwt (s : State) (i : Nat) (f : Fec → Fec) : (s.modFec i f).pwt = s.pwt := rfl
@[simp] theorem State.modFec_pwtProf (s : State) (i : Nat) (f : Fec → Fec) : (s.modFec i f).pwtProf = s.pwtProf := rfl
@[simp] theorem State.modFec_canS (s : State) (i : Nat) (f : Fec → Fec) : (s.modFec i f).canS = s.canS := rfl
@[simp] theorem State.modFec_can (s : State) (i : Nat) (f : Fec → Fec) : (s.modFec i f).can = s.can := rfl
@[simp] theorem State.modFec_fir (s : State) (i : Nat) (f : Fec → Fec) : (s.modFec i f).fir = s.fir := rfl
@[simp] theorem State.modFec_pats (s : State) (i : Nat) (f : Fec → Fec) : (s.modFec i f).pats = s.pats := rfl
@[simp] theorem State.modFec_patEdge (s : State) (i : Nat) (f : Fec → Fec) : (s.modFec i f).patEdge = s.patEdge := rfl
@[simp] theorem State.modFec_obsLive (s : State) (i : Nat) (f : Fec → Fec) : (s.modFec i f).obsLive = s.obsLive := rfl
@[simp] theorem State.modFec_seqTab (s : State) (i : Nat) (f : Fec → Fec) : (s.modFec i f).seqTab = s.seqTab := rfl
@[simp] theorem State.modFec_cmdTab (s : State) (i : Nat) (f : Fec → Fec) : (s.modFec i f).cmdTab = s.cmdTab := rfl
@[simp] theorem State.modFec_lineAt (s : State) (i : Nat) (f : Fec → Fec) : (s.modFec i f).lineAt = s.lineAt := rfl
@[simp] theorem State.modFec_buses (s : State) (i : Nat) (f : Fec → Fec) : (s.modFec i f).buses = s.buses := rfl
@[simp] theorem State.modFec_satAt (s : State) (i : Nat) (f : Fec → Fec) : (s.modFec i f).satAt = s.satAt := rfl
@[simp] theorem State.modFec_divs (s : State) (i : Nat) (f : Fec → Fec) : (s.modFec i f).divs = s.divs := rfl
@[simp] theorem State.modFec_tb (s : State) (i : Nat) (f : Fec → Fec) : (s.modFec i f).tb = s.tb := rfl
@[simp] theorem State.modFec_pwtStepAt (s : State) (i : Nat) (f : Fec → Fec) : (s.modFec i f).pwtStepAt = s.pwtStepAt := rfl
@[simp] theorem State.modFec_txenAt (s : State) (i : Nat) (f : Fec → Fec) : (s.modFec i f).txenAt = s.txenAt := rfl
@[simp] theorem State.modFec_pwtWord (s : State) (i : Nat) (f : Fec → Fec) : (s.modFec i f).pwtWord = s.pwtWord := rfl
@[simp] theorem State.modFec_pwtCode (s : State) (i : Nat) (f : Fec → Fec) : (s.modFec i f).pwtCode = s.pwtCode := rfl
@[simp] theorem State.modFec_pwtAt (s : State) (i : Nat) (f : Fec → Fec) : (s.modFec i f).pwtAt = s.pwtAt := rfl
@[simp] theorem State.modFec_tansy (s : State) (i : Nat) (f : Fec → Fec) : (s.modFec i f).tansy = s.tansy := rfl
@[simp] theorem State.modFec_gov (s : State) (i : Nat) (f : Fec → Fec) : (s.modFec i f).gov = s.gov := rfl
@[simp] theorem State.modFec_loops (s : State) (i : Nat) (f : Fec → Fec) : (s.modFec i f).loops = s.loops := rfl
@[simp] theorem State.modFec_mat (s : State) (i : Nat) (f : Fec → Fec) : (s.modFec i f).mat = s.mat := rfl
@[simp] theorem State.modFec_clv (s : State) (i : Nat) (f : Fec → Fec) : (s.modFec i f).clv = s.clv := rfl
@[simp] theorem State.modFec_maskSeen (s : State) (i : Nat) (f : Fec → Fec) : (s.modFec i f).maskSeen = s.maskSeen := rfl
@[simp] theorem State.modFec_lnk (s : State) (i : Nat) (f : Fec → Fec) : (s.modFec i f).lnk = s.lnk := rfl
@[simp] theorem State.modFec_exps (s : State) (i : Nat) (f : Fec → Fec) : (s.modFec i f).exps = s.exps := rfl
@[simp] theorem State.modFec_cnv (s : State) (i : Nat) (f : Fec → Fec) : (s.modFec i f).cnv = s.cnv := rfl
@[simp] theorem State.modFec_thm (s : State) (i : Nat) (f : Fec → Fec) : (s.modFec i f).thm = s.thm := rfl
@[simp] theorem State.modDv_get (s : State) (i : Nat) (f : DivSt → DivSt) (g : Fld) : (s.modDv i f).get g = s.get g := rfl
@[simp] theorem State.modDv_pending (s : State) (i : Nat) (f : DivSt → DivSt) : (s.modDv i f).pending = s.pending := rfl
@[simp] theorem State.modDv_now (s : State) (i : Nat) (f : DivSt → DivSt) : (s.modDv i f).now = s.now := rfl
@[simp] theorem State.modDv_fresh (s : State) (i : Nat) (f : DivSt → DivSt) : (s.modDv i f).fresh = s.fresh := rfl
@[simp] theorem State.modDv_out (s : State) (i : Nat) (f : DivSt → DivSt) : (s.modDv i f).out = s.out := rfl
@[simp] theorem State.modDv_reg (s : State) (i : Nat) (f : DivSt → DivSt) : (s.modDv i f).reg = s.reg := rfl
@[simp] theorem State.modDv_board (s : State) (i : Nat) (f : DivSt → DivSt) : (s.modDv i f).board = s.board := rfl
@[simp] theorem State.modDv_straps (s : State) (i : Nat) (f : DivSt → DivSt) : (s.modDv i f).straps = s.straps := rfl
@[simp] theorem State.modDv_rst (s : State) (i : Nat) (f : DivSt → DivSt) : (s.modDv i f).rst = s.rst := rfl
@[simp] theorem State.modDv_aon (s : State) (i : Nat) (f : DivSt → DivSt) : (s.modDv i f).aon = s.aon := rfl
@[simp] theorem State.modDv_rails (s : State) (i : Nat) (f : DivSt → DivSt) : (s.modDv i f).rails = s.rails := rfl
@[simp] theorem State.modDv_needReq (s : State) (i : Nat) (f : DivSt → DivSt) : (s.modDv i f).needReq = s.needReq := rfl
@[simp] theorem State.modDv_prof (s : State) (i : Nat) (f : DivSt → DivSt) : (s.modDv i f).prof = s.prof := rfl
@[simp] theorem State.modDv_chanDown (s : State) (i : Nat) (f : DivSt → DivSt) : (s.modDv i f).chanDown = s.chanDown := rfl
@[simp] theorem State.modDv_chanUp (s : State) (i : Nat) (f : DivSt → DivSt) : (s.modDv i f).chanUp = s.chanUp := rfl
@[simp] theorem State.modDv_tr (s : State) (i : Nat) (f : DivSt → DivSt) : (s.modDv i f).tr = s.tr := rfl
@[simp] theorem State.modDv_own (s : State) (i : Nat) (f : DivSt → DivSt) : (s.modDv i f).own = s.own := rfl
@[simp] theorem State.modDv_ports (s : State) (i : Nat) (f : DivSt → DivSt) : (s.modDv i f).ports = s.ports := rfl
@[simp] theorem State.modDv_evt (s : State) (i : Nat) (f : DivSt → DivSt) : (s.modDv i f).evt = s.evt := rfl
@[simp] theorem State.modDv_flt (s : State) (i : Nat) (f : DivSt → DivSt) : (s.modDv i f).flt = s.flt := rfl
@[simp] theorem State.modDv_active (s : State) (i : Nat) (f : DivSt → DivSt) : (s.modDv i f).active = s.active := rfl
@[simp] theorem State.modDv_slots (s : State) (i : Nat) (f : DivSt → DivSt) : (s.modDv i f).slots = s.slots := rfl
@[simp] theorem State.modDv_live (s : State) (i : Nat) (f : DivSt → DivSt) : (s.modDv i f).live = s.live := rfl
@[simp] theorem State.modDv_snap (s : State) (i : Nat) (f : DivSt → DivSt) : (s.modDv i f).snap = s.snap := rfl
@[simp] theorem State.modDv_bias (s : State) (i : Nat) (f : DivSt → DivSt) : (s.modDv i f).bias = s.bias := rfl
@[simp] theorem State.modDv_biasOk (s : State) (i : Nat) (f : DivSt → DivSt) : (s.modDv i f).biasOk = s.biasOk := rfl
@[simp] theorem State.modDv_iced (s : State) (i : Nat) (f : DivSt → DivSt) : (s.modDv i f).iced = s.iced := rfl
@[simp] theorem State.modDv_trapHold (s : State) (i : Nat) (f : DivSt → DivSt) : (s.modDv i f).trapHold = s.trapHold := rfl
@[simp] theorem State.modDv_nmi (s : State) (i : Nat) (f : DivSt → DivSt) : (s.modDv i f).nmi = s.nmi := rfl
@[simp] theorem State.modDv_lockSig (s : State) (i : Nat) (f : DivSt → DivSt) : (s.modDv i f).lockSig = s.lockSig := rfl
@[simp] theorem State.modDv_copies (s : State) (i : Nat) (f : DivSt → DivSt) : (s.modDv i f).copies = s.copies := rfl
@[simp] theorem State.modDv_lockSame (s : State) (i : Nat) (f : DivSt → DivSt) : (s.modDv i f).lockSame = s.lockSame := rfl
@[simp] theorem State.modDv_lockCmpAt (s : State) (i : Nat) (f : DivSt → DivSt) : (s.modDv i f).lockCmpAt = s.lockCmpAt := rfl
@[simp] theorem State.modDv_mon (s : State) (i : Nat) (f : DivSt → DivSt) : (s.modDv i f).mon = s.mon := rfl
@[simp] theorem State.modDv_otp (s : State) (i : Nat) (f : DivSt → DivSt) : (s.modDv i f).otp = s.otp := rfl
@[simp] theorem State.modDv_nvm (s : State) (i : Nat) (f : DivSt → DivSt) : (s.modDv i f).nvm = s.nvm := rfl
@[simp] theorem State.modDv_pwt (s : State) (i : Nat) (f : DivSt → DivSt) : (s.modDv i f).pwt = s.pwt := rfl
@[simp] theorem State.modDv_pwtProf (s : State) (i : Nat) (f : DivSt → DivSt) : (s.modDv i f).pwtProf = s.pwtProf := rfl
@[simp] theorem State.modDv_canS (s : State) (i : Nat) (f : DivSt → DivSt) : (s.modDv i f).canS = s.canS := rfl
@[simp] theorem State.modDv_can (s : State) (i : Nat) (f : DivSt → DivSt) : (s.modDv i f).can = s.can := rfl
@[simp] theorem State.modDv_fir (s : State) (i : Nat) (f : DivSt → DivSt) : (s.modDv i f).fir = s.fir := rfl
@[simp] theorem State.modDv_pats (s : State) (i : Nat) (f : DivSt → DivSt) : (s.modDv i f).pats = s.pats := rfl
@[simp] theorem State.modDv_patEdge (s : State) (i : Nat) (f : DivSt → DivSt) : (s.modDv i f).patEdge = s.patEdge := rfl
@[simp] theorem State.modDv_obsLive (s : State) (i : Nat) (f : DivSt → DivSt) : (s.modDv i f).obsLive = s.obsLive := rfl
@[simp] theorem State.modDv_seqTab (s : State) (i : Nat) (f : DivSt → DivSt) : (s.modDv i f).seqTab = s.seqTab := rfl
@[simp] theorem State.modDv_cmdTab (s : State) (i : Nat) (f : DivSt → DivSt) : (s.modDv i f).cmdTab = s.cmdTab := rfl
@[simp] theorem State.modDv_fecs (s : State) (i : Nat) (f : DivSt → DivSt) : (s.modDv i f).fecs = s.fecs := rfl
@[simp] theorem State.modDv_lineAt (s : State) (i : Nat) (f : DivSt → DivSt) : (s.modDv i f).lineAt = s.lineAt := rfl
@[simp] theorem State.modDv_buses (s : State) (i : Nat) (f : DivSt → DivSt) : (s.modDv i f).buses = s.buses := rfl
@[simp] theorem State.modDv_satAt (s : State) (i : Nat) (f : DivSt → DivSt) : (s.modDv i f).satAt = s.satAt := rfl
@[simp] theorem State.modDv_tb (s : State) (i : Nat) (f : DivSt → DivSt) : (s.modDv i f).tb = s.tb := rfl
@[simp] theorem State.modDv_pwtStepAt (s : State) (i : Nat) (f : DivSt → DivSt) : (s.modDv i f).pwtStepAt = s.pwtStepAt := rfl
@[simp] theorem State.modDv_txenAt (s : State) (i : Nat) (f : DivSt → DivSt) : (s.modDv i f).txenAt = s.txenAt := rfl
@[simp] theorem State.modDv_pwtWord (s : State) (i : Nat) (f : DivSt → DivSt) : (s.modDv i f).pwtWord = s.pwtWord := rfl
@[simp] theorem State.modDv_pwtCode (s : State) (i : Nat) (f : DivSt → DivSt) : (s.modDv i f).pwtCode = s.pwtCode := rfl
@[simp] theorem State.modDv_pwtAt (s : State) (i : Nat) (f : DivSt → DivSt) : (s.modDv i f).pwtAt = s.pwtAt := rfl
@[simp] theorem State.modDv_tansy (s : State) (i : Nat) (f : DivSt → DivSt) : (s.modDv i f).tansy = s.tansy := rfl
@[simp] theorem State.modDv_gov (s : State) (i : Nat) (f : DivSt → DivSt) : (s.modDv i f).gov = s.gov := rfl
@[simp] theorem State.modDv_loops (s : State) (i : Nat) (f : DivSt → DivSt) : (s.modDv i f).loops = s.loops := rfl
@[simp] theorem State.modDv_mat (s : State) (i : Nat) (f : DivSt → DivSt) : (s.modDv i f).mat = s.mat := rfl
@[simp] theorem State.modDv_clv (s : State) (i : Nat) (f : DivSt → DivSt) : (s.modDv i f).clv = s.clv := rfl
@[simp] theorem State.modDv_maskSeen (s : State) (i : Nat) (f : DivSt → DivSt) : (s.modDv i f).maskSeen = s.maskSeen := rfl
@[simp] theorem State.modDv_lnk (s : State) (i : Nat) (f : DivSt → DivSt) : (s.modDv i f).lnk = s.lnk := rfl
@[simp] theorem State.modDv_exps (s : State) (i : Nat) (f : DivSt → DivSt) : (s.modDv i f).exps = s.exps := rfl
@[simp] theorem State.modDv_cnv (s : State) (i : Nat) (f : DivSt → DivSt) : (s.modDv i f).cnv = s.cnv := rfl
@[simp] theorem State.modDv_thm (s : State) (i : Nat) (f : DivSt → DivSt) : (s.modDv i f).thm = s.thm := rfl
@[simp] theorem State.modBus_get (s : State) (i : Nat) (f : Bus → Bus) (g : Fld) : (s.modBus i f).get g = s.get g := rfl
@[simp] theorem State.modBus_pending (s : State) (i : Nat) (f : Bus → Bus) : (s.modBus i f).pending = s.pending := rfl
@[simp] theorem State.modBus_now (s : State) (i : Nat) (f : Bus → Bus) : (s.modBus i f).now = s.now := rfl
@[simp] theorem State.modBus_fresh (s : State) (i : Nat) (f : Bus → Bus) : (s.modBus i f).fresh = s.fresh := rfl
@[simp] theorem State.modBus_out (s : State) (i : Nat) (f : Bus → Bus) : (s.modBus i f).out = s.out := rfl
@[simp] theorem State.modBus_reg (s : State) (i : Nat) (f : Bus → Bus) : (s.modBus i f).reg = s.reg := rfl
@[simp] theorem State.modBus_board (s : State) (i : Nat) (f : Bus → Bus) : (s.modBus i f).board = s.board := rfl
@[simp] theorem State.modBus_straps (s : State) (i : Nat) (f : Bus → Bus) : (s.modBus i f).straps = s.straps := rfl
@[simp] theorem State.modBus_rst (s : State) (i : Nat) (f : Bus → Bus) : (s.modBus i f).rst = s.rst := rfl
@[simp] theorem State.modBus_aon (s : State) (i : Nat) (f : Bus → Bus) : (s.modBus i f).aon = s.aon := rfl
@[simp] theorem State.modBus_rails (s : State) (i : Nat) (f : Bus → Bus) : (s.modBus i f).rails = s.rails := rfl
@[simp] theorem State.modBus_needReq (s : State) (i : Nat) (f : Bus → Bus) : (s.modBus i f).needReq = s.needReq := rfl
@[simp] theorem State.modBus_prof (s : State) (i : Nat) (f : Bus → Bus) : (s.modBus i f).prof = s.prof := rfl
@[simp] theorem State.modBus_chanDown (s : State) (i : Nat) (f : Bus → Bus) : (s.modBus i f).chanDown = s.chanDown := rfl
@[simp] theorem State.modBus_chanUp (s : State) (i : Nat) (f : Bus → Bus) : (s.modBus i f).chanUp = s.chanUp := rfl
@[simp] theorem State.modBus_tr (s : State) (i : Nat) (f : Bus → Bus) : (s.modBus i f).tr = s.tr := rfl
@[simp] theorem State.modBus_own (s : State) (i : Nat) (f : Bus → Bus) : (s.modBus i f).own = s.own := rfl
@[simp] theorem State.modBus_ports (s : State) (i : Nat) (f : Bus → Bus) : (s.modBus i f).ports = s.ports := rfl
@[simp] theorem State.modBus_evt (s : State) (i : Nat) (f : Bus → Bus) : (s.modBus i f).evt = s.evt := rfl
@[simp] theorem State.modBus_flt (s : State) (i : Nat) (f : Bus → Bus) : (s.modBus i f).flt = s.flt := rfl
@[simp] theorem State.modBus_active (s : State) (i : Nat) (f : Bus → Bus) : (s.modBus i f).active = s.active := rfl
@[simp] theorem State.modBus_slots (s : State) (i : Nat) (f : Bus → Bus) : (s.modBus i f).slots = s.slots := rfl
@[simp] theorem State.modBus_live (s : State) (i : Nat) (f : Bus → Bus) : (s.modBus i f).live = s.live := rfl
@[simp] theorem State.modBus_snap (s : State) (i : Nat) (f : Bus → Bus) : (s.modBus i f).snap = s.snap := rfl
@[simp] theorem State.modBus_bias (s : State) (i : Nat) (f : Bus → Bus) : (s.modBus i f).bias = s.bias := rfl
@[simp] theorem State.modBus_biasOk (s : State) (i : Nat) (f : Bus → Bus) : (s.modBus i f).biasOk = s.biasOk := rfl
@[simp] theorem State.modBus_iced (s : State) (i : Nat) (f : Bus → Bus) : (s.modBus i f).iced = s.iced := rfl
@[simp] theorem State.modBus_trapHold (s : State) (i : Nat) (f : Bus → Bus) : (s.modBus i f).trapHold = s.trapHold := rfl
@[simp] theorem State.modBus_nmi (s : State) (i : Nat) (f : Bus → Bus) : (s.modBus i f).nmi = s.nmi := rfl
@[simp] theorem State.modBus_lockSig (s : State) (i : Nat) (f : Bus → Bus) : (s.modBus i f).lockSig = s.lockSig := rfl
@[simp] theorem State.modBus_copies (s : State) (i : Nat) (f : Bus → Bus) : (s.modBus i f).copies = s.copies := rfl
@[simp] theorem State.modBus_lockSame (s : State) (i : Nat) (f : Bus → Bus) : (s.modBus i f).lockSame = s.lockSame := rfl
@[simp] theorem State.modBus_lockCmpAt (s : State) (i : Nat) (f : Bus → Bus) : (s.modBus i f).lockCmpAt = s.lockCmpAt := rfl
@[simp] theorem State.modBus_mon (s : State) (i : Nat) (f : Bus → Bus) : (s.modBus i f).mon = s.mon := rfl
@[simp] theorem State.modBus_otp (s : State) (i : Nat) (f : Bus → Bus) : (s.modBus i f).otp = s.otp := rfl
@[simp] theorem State.modBus_nvm (s : State) (i : Nat) (f : Bus → Bus) : (s.modBus i f).nvm = s.nvm := rfl
@[simp] theorem State.modBus_pwt (s : State) (i : Nat) (f : Bus → Bus) : (s.modBus i f).pwt = s.pwt := rfl
@[simp] theorem State.modBus_pwtProf (s : State) (i : Nat) (f : Bus → Bus) : (s.modBus i f).pwtProf = s.pwtProf := rfl
@[simp] theorem State.modBus_canS (s : State) (i : Nat) (f : Bus → Bus) : (s.modBus i f).canS = s.canS := rfl
@[simp] theorem State.modBus_can (s : State) (i : Nat) (f : Bus → Bus) : (s.modBus i f).can = s.can := rfl
@[simp] theorem State.modBus_fir (s : State) (i : Nat) (f : Bus → Bus) : (s.modBus i f).fir = s.fir := rfl
@[simp] theorem State.modBus_pats (s : State) (i : Nat) (f : Bus → Bus) : (s.modBus i f).pats = s.pats := rfl
@[simp] theorem State.modBus_patEdge (s : State) (i : Nat) (f : Bus → Bus) : (s.modBus i f).patEdge = s.patEdge := rfl
@[simp] theorem State.modBus_obsLive (s : State) (i : Nat) (f : Bus → Bus) : (s.modBus i f).obsLive = s.obsLive := rfl
@[simp] theorem State.modBus_seqTab (s : State) (i : Nat) (f : Bus → Bus) : (s.modBus i f).seqTab = s.seqTab := rfl
@[simp] theorem State.modBus_cmdTab (s : State) (i : Nat) (f : Bus → Bus) : (s.modBus i f).cmdTab = s.cmdTab := rfl
@[simp] theorem State.modBus_fecs (s : State) (i : Nat) (f : Bus → Bus) : (s.modBus i f).fecs = s.fecs := rfl
@[simp] theorem State.modBus_lineAt (s : State) (i : Nat) (f : Bus → Bus) : (s.modBus i f).lineAt = s.lineAt := rfl
@[simp] theorem State.modBus_satAt (s : State) (i : Nat) (f : Bus → Bus) : (s.modBus i f).satAt = s.satAt := rfl
@[simp] theorem State.modBus_divs (s : State) (i : Nat) (f : Bus → Bus) : (s.modBus i f).divs = s.divs := rfl
@[simp] theorem State.modBus_tb (s : State) (i : Nat) (f : Bus → Bus) : (s.modBus i f).tb = s.tb := rfl
@[simp] theorem State.modBus_pwtStepAt (s : State) (i : Nat) (f : Bus → Bus) : (s.modBus i f).pwtStepAt = s.pwtStepAt := rfl
@[simp] theorem State.modBus_txenAt (s : State) (i : Nat) (f : Bus → Bus) : (s.modBus i f).txenAt = s.txenAt := rfl
@[simp] theorem State.modBus_pwtWord (s : State) (i : Nat) (f : Bus → Bus) : (s.modBus i f).pwtWord = s.pwtWord := rfl
@[simp] theorem State.modBus_pwtCode (s : State) (i : Nat) (f : Bus → Bus) : (s.modBus i f).pwtCode = s.pwtCode := rfl
@[simp] theorem State.modBus_pwtAt (s : State) (i : Nat) (f : Bus → Bus) : (s.modBus i f).pwtAt = s.pwtAt := rfl
@[simp] theorem State.modBus_tansy (s : State) (i : Nat) (f : Bus → Bus) : (s.modBus i f).tansy = s.tansy := rfl
@[simp] theorem State.modBus_gov (s : State) (i : Nat) (f : Bus → Bus) : (s.modBus i f).gov = s.gov := rfl
@[simp] theorem State.modBus_loops (s : State) (i : Nat) (f : Bus → Bus) : (s.modBus i f).loops = s.loops := rfl
@[simp] theorem State.modBus_mat (s : State) (i : Nat) (f : Bus → Bus) : (s.modBus i f).mat = s.mat := rfl
@[simp] theorem State.modBus_clv (s : State) (i : Nat) (f : Bus → Bus) : (s.modBus i f).clv = s.clv := rfl
@[simp] theorem State.modBus_maskSeen (s : State) (i : Nat) (f : Bus → Bus) : (s.modBus i f).maskSeen = s.maskSeen := rfl
@[simp] theorem State.modBus_lnk (s : State) (i : Nat) (f : Bus → Bus) : (s.modBus i f).lnk = s.lnk := rfl
@[simp] theorem State.modBus_exps (s : State) (i : Nat) (f : Bus → Bus) : (s.modBus i f).exps = s.exps := rfl
@[simp] theorem State.modBus_cnv (s : State) (i : Nat) (f : Bus → Bus) : (s.modBus i f).cnv = s.cnv := rfl
@[simp] theorem State.modBus_thm (s : State) (i : Nat) (f : Bus → Bus) : (s.modBus i f).thm = s.thm := rfl
@[simp] theorem State.modExp_get (s : State) (i : Nat) (f : Exp → Exp) (g : Fld) : (s.modExp i f).get g = s.get g := rfl
@[simp] theorem State.modExp_pending (s : State) (i : Nat) (f : Exp → Exp) : (s.modExp i f).pending = s.pending := rfl
@[simp] theorem State.modExp_now (s : State) (i : Nat) (f : Exp → Exp) : (s.modExp i f).now = s.now := rfl
@[simp] theorem State.modExp_fresh (s : State) (i : Nat) (f : Exp → Exp) : (s.modExp i f).fresh = s.fresh := rfl
@[simp] theorem State.modExp_out (s : State) (i : Nat) (f : Exp → Exp) : (s.modExp i f).out = s.out := rfl
@[simp] theorem State.modExp_reg (s : State) (i : Nat) (f : Exp → Exp) : (s.modExp i f).reg = s.reg := rfl
@[simp] theorem State.modExp_board (s : State) (i : Nat) (f : Exp → Exp) : (s.modExp i f).board = s.board := rfl
@[simp] theorem State.modExp_straps (s : State) (i : Nat) (f : Exp → Exp) : (s.modExp i f).straps = s.straps := rfl
@[simp] theorem State.modExp_rst (s : State) (i : Nat) (f : Exp → Exp) : (s.modExp i f).rst = s.rst := rfl
@[simp] theorem State.modExp_aon (s : State) (i : Nat) (f : Exp → Exp) : (s.modExp i f).aon = s.aon := rfl
@[simp] theorem State.modExp_rails (s : State) (i : Nat) (f : Exp → Exp) : (s.modExp i f).rails = s.rails := rfl
@[simp] theorem State.modExp_needReq (s : State) (i : Nat) (f : Exp → Exp) : (s.modExp i f).needReq = s.needReq := rfl
@[simp] theorem State.modExp_prof (s : State) (i : Nat) (f : Exp → Exp) : (s.modExp i f).prof = s.prof := rfl
@[simp] theorem State.modExp_chanDown (s : State) (i : Nat) (f : Exp → Exp) : (s.modExp i f).chanDown = s.chanDown := rfl
@[simp] theorem State.modExp_chanUp (s : State) (i : Nat) (f : Exp → Exp) : (s.modExp i f).chanUp = s.chanUp := rfl
@[simp] theorem State.modExp_tr (s : State) (i : Nat) (f : Exp → Exp) : (s.modExp i f).tr = s.tr := rfl
@[simp] theorem State.modExp_own (s : State) (i : Nat) (f : Exp → Exp) : (s.modExp i f).own = s.own := rfl
@[simp] theorem State.modExp_ports (s : State) (i : Nat) (f : Exp → Exp) : (s.modExp i f).ports = s.ports := rfl
@[simp] theorem State.modExp_evt (s : State) (i : Nat) (f : Exp → Exp) : (s.modExp i f).evt = s.evt := rfl
@[simp] theorem State.modExp_flt (s : State) (i : Nat) (f : Exp → Exp) : (s.modExp i f).flt = s.flt := rfl
@[simp] theorem State.modExp_active (s : State) (i : Nat) (f : Exp → Exp) : (s.modExp i f).active = s.active := rfl
@[simp] theorem State.modExp_slots (s : State) (i : Nat) (f : Exp → Exp) : (s.modExp i f).slots = s.slots := rfl
@[simp] theorem State.modExp_live (s : State) (i : Nat) (f : Exp → Exp) : (s.modExp i f).live = s.live := rfl
@[simp] theorem State.modExp_snap (s : State) (i : Nat) (f : Exp → Exp) : (s.modExp i f).snap = s.snap := rfl
@[simp] theorem State.modExp_bias (s : State) (i : Nat) (f : Exp → Exp) : (s.modExp i f).bias = s.bias := rfl
@[simp] theorem State.modExp_biasOk (s : State) (i : Nat) (f : Exp → Exp) : (s.modExp i f).biasOk = s.biasOk := rfl
@[simp] theorem State.modExp_iced (s : State) (i : Nat) (f : Exp → Exp) : (s.modExp i f).iced = s.iced := rfl
@[simp] theorem State.modExp_trapHold (s : State) (i : Nat) (f : Exp → Exp) : (s.modExp i f).trapHold = s.trapHold := rfl
@[simp] theorem State.modExp_nmi (s : State) (i : Nat) (f : Exp → Exp) : (s.modExp i f).nmi = s.nmi := rfl
@[simp] theorem State.modExp_lockSig (s : State) (i : Nat) (f : Exp → Exp) : (s.modExp i f).lockSig = s.lockSig := rfl
@[simp] theorem State.modExp_copies (s : State) (i : Nat) (f : Exp → Exp) : (s.modExp i f).copies = s.copies := rfl
@[simp] theorem State.modExp_lockSame (s : State) (i : Nat) (f : Exp → Exp) : (s.modExp i f).lockSame = s.lockSame := rfl
@[simp] theorem State.modExp_lockCmpAt (s : State) (i : Nat) (f : Exp → Exp) : (s.modExp i f).lockCmpAt = s.lockCmpAt := rfl
@[simp] theorem State.modExp_mon (s : State) (i : Nat) (f : Exp → Exp) : (s.modExp i f).mon = s.mon := rfl
@[simp] theorem State.modExp_otp (s : State) (i : Nat) (f : Exp → Exp) : (s.modExp i f).otp = s.otp := rfl
@[simp] theorem State.modExp_nvm (s : State) (i : Nat) (f : Exp → Exp) : (s.modExp i f).nvm = s.nvm := rfl
@[simp] theorem State.modExp_pwt (s : State) (i : Nat) (f : Exp → Exp) : (s.modExp i f).pwt = s.pwt := rfl
@[simp] theorem State.modExp_pwtProf (s : State) (i : Nat) (f : Exp → Exp) : (s.modExp i f).pwtProf = s.pwtProf := rfl
@[simp] theorem State.modExp_canS (s : State) (i : Nat) (f : Exp → Exp) : (s.modExp i f).canS = s.canS := rfl
@[simp] theorem State.modExp_can (s : State) (i : Nat) (f : Exp → Exp) : (s.modExp i f).can = s.can := rfl
@[simp] theorem State.modExp_fir (s : State) (i : Nat) (f : Exp → Exp) : (s.modExp i f).fir = s.fir := rfl
@[simp] theorem State.modExp_pats (s : State) (i : Nat) (f : Exp → Exp) : (s.modExp i f).pats = s.pats := rfl
@[simp] theorem State.modExp_patEdge (s : State) (i : Nat) (f : Exp → Exp) : (s.modExp i f).patEdge = s.patEdge := rfl
@[simp] theorem State.modExp_obsLive (s : State) (i : Nat) (f : Exp → Exp) : (s.modExp i f).obsLive = s.obsLive := rfl
@[simp] theorem State.modExp_seqTab (s : State) (i : Nat) (f : Exp → Exp) : (s.modExp i f).seqTab = s.seqTab := rfl
@[simp] theorem State.modExp_cmdTab (s : State) (i : Nat) (f : Exp → Exp) : (s.modExp i f).cmdTab = s.cmdTab := rfl
@[simp] theorem State.modExp_fecs (s : State) (i : Nat) (f : Exp → Exp) : (s.modExp i f).fecs = s.fecs := rfl
@[simp] theorem State.modExp_lineAt (s : State) (i : Nat) (f : Exp → Exp) : (s.modExp i f).lineAt = s.lineAt := rfl
@[simp] theorem State.modExp_buses (s : State) (i : Nat) (f : Exp → Exp) : (s.modExp i f).buses = s.buses := rfl
@[simp] theorem State.modExp_satAt (s : State) (i : Nat) (f : Exp → Exp) : (s.modExp i f).satAt = s.satAt := rfl
@[simp] theorem State.modExp_divs (s : State) (i : Nat) (f : Exp → Exp) : (s.modExp i f).divs = s.divs := rfl
@[simp] theorem State.modExp_tb (s : State) (i : Nat) (f : Exp → Exp) : (s.modExp i f).tb = s.tb := rfl
@[simp] theorem State.modExp_pwtStepAt (s : State) (i : Nat) (f : Exp → Exp) : (s.modExp i f).pwtStepAt = s.pwtStepAt := rfl
@[simp] theorem State.modExp_txenAt (s : State) (i : Nat) (f : Exp → Exp) : (s.modExp i f).txenAt = s.txenAt := rfl
@[simp] theorem State.modExp_pwtWord (s : State) (i : Nat) (f : Exp → Exp) : (s.modExp i f).pwtWord = s.pwtWord := rfl
@[simp] theorem State.modExp_pwtCode (s : State) (i : Nat) (f : Exp → Exp) : (s.modExp i f).pwtCode = s.pwtCode := rfl
@[simp] theorem State.modExp_pwtAt (s : State) (i : Nat) (f : Exp → Exp) : (s.modExp i f).pwtAt = s.pwtAt := rfl
@[simp] theorem State.modExp_tansy (s : State) (i : Nat) (f : Exp → Exp) : (s.modExp i f).tansy = s.tansy := rfl
@[simp] theorem State.modExp_gov (s : State) (i : Nat) (f : Exp → Exp) : (s.modExp i f).gov = s.gov := rfl
@[simp] theorem State.modExp_loops (s : State) (i : Nat) (f : Exp → Exp) : (s.modExp i f).loops = s.loops := rfl
@[simp] theorem State.modExp_mat (s : State) (i : Nat) (f : Exp → Exp) : (s.modExp i f).mat = s.mat := rfl
@[simp] theorem State.modExp_clv (s : State) (i : Nat) (f : Exp → Exp) : (s.modExp i f).clv = s.clv := rfl
@[simp] theorem State.modExp_maskSeen (s : State) (i : Nat) (f : Exp → Exp) : (s.modExp i f).maskSeen = s.maskSeen := rfl
@[simp] theorem State.modExp_lnk (s : State) (i : Nat) (f : Exp → Exp) : (s.modExp i f).lnk = s.lnk := rfl
@[simp] theorem State.modExp_cnv (s : State) (i : Nat) (f : Exp → Exp) : (s.modExp i f).cnv = s.cnv := rfl
@[simp] theorem State.modExp_thm (s : State) (i : Nat) (f : Exp → Exp) : (s.modExp i f).thm = s.thm := rfl
@[simp] theorem State.modLoop_get (s : State) (i : Nat) (f : Loop → Loop) (g : Fld) : (s.modLoop i f).get g = s.get g := rfl
@[simp] theorem State.modLoop_pending (s : State) (i : Nat) (f : Loop → Loop) : (s.modLoop i f).pending = s.pending := rfl
@[simp] theorem State.modLoop_now (s : State) (i : Nat) (f : Loop → Loop) : (s.modLoop i f).now = s.now := rfl
@[simp] theorem State.modLoop_fresh (s : State) (i : Nat) (f : Loop → Loop) : (s.modLoop i f).fresh = s.fresh := rfl
@[simp] theorem State.modLoop_out (s : State) (i : Nat) (f : Loop → Loop) : (s.modLoop i f).out = s.out := rfl
@[simp] theorem State.modLoop_reg (s : State) (i : Nat) (f : Loop → Loop) : (s.modLoop i f).reg = s.reg := rfl
@[simp] theorem State.modLoop_board (s : State) (i : Nat) (f : Loop → Loop) : (s.modLoop i f).board = s.board := rfl
@[simp] theorem State.modLoop_straps (s : State) (i : Nat) (f : Loop → Loop) : (s.modLoop i f).straps = s.straps := rfl
@[simp] theorem State.modLoop_rst (s : State) (i : Nat) (f : Loop → Loop) : (s.modLoop i f).rst = s.rst := rfl
@[simp] theorem State.modLoop_aon (s : State) (i : Nat) (f : Loop → Loop) : (s.modLoop i f).aon = s.aon := rfl
@[simp] theorem State.modLoop_rails (s : State) (i : Nat) (f : Loop → Loop) : (s.modLoop i f).rails = s.rails := rfl
@[simp] theorem State.modLoop_needReq (s : State) (i : Nat) (f : Loop → Loop) : (s.modLoop i f).needReq = s.needReq := rfl
@[simp] theorem State.modLoop_prof (s : State) (i : Nat) (f : Loop → Loop) : (s.modLoop i f).prof = s.prof := rfl
@[simp] theorem State.modLoop_chanDown (s : State) (i : Nat) (f : Loop → Loop) : (s.modLoop i f).chanDown = s.chanDown := rfl
@[simp] theorem State.modLoop_chanUp (s : State) (i : Nat) (f : Loop → Loop) : (s.modLoop i f).chanUp = s.chanUp := rfl
@[simp] theorem State.modLoop_tr (s : State) (i : Nat) (f : Loop → Loop) : (s.modLoop i f).tr = s.tr := rfl
@[simp] theorem State.modLoop_own (s : State) (i : Nat) (f : Loop → Loop) : (s.modLoop i f).own = s.own := rfl
@[simp] theorem State.modLoop_ports (s : State) (i : Nat) (f : Loop → Loop) : (s.modLoop i f).ports = s.ports := rfl
@[simp] theorem State.modLoop_evt (s : State) (i : Nat) (f : Loop → Loop) : (s.modLoop i f).evt = s.evt := rfl
@[simp] theorem State.modLoop_flt (s : State) (i : Nat) (f : Loop → Loop) : (s.modLoop i f).flt = s.flt := rfl
@[simp] theorem State.modLoop_active (s : State) (i : Nat) (f : Loop → Loop) : (s.modLoop i f).active = s.active := rfl
@[simp] theorem State.modLoop_slots (s : State) (i : Nat) (f : Loop → Loop) : (s.modLoop i f).slots = s.slots := rfl
@[simp] theorem State.modLoop_live (s : State) (i : Nat) (f : Loop → Loop) : (s.modLoop i f).live = s.live := rfl
@[simp] theorem State.modLoop_snap (s : State) (i : Nat) (f : Loop → Loop) : (s.modLoop i f).snap = s.snap := rfl
@[simp] theorem State.modLoop_bias (s : State) (i : Nat) (f : Loop → Loop) : (s.modLoop i f).bias = s.bias := rfl
@[simp] theorem State.modLoop_biasOk (s : State) (i : Nat) (f : Loop → Loop) : (s.modLoop i f).biasOk = s.biasOk := rfl
@[simp] theorem State.modLoop_iced (s : State) (i : Nat) (f : Loop → Loop) : (s.modLoop i f).iced = s.iced := rfl
@[simp] theorem State.modLoop_trapHold (s : State) (i : Nat) (f : Loop → Loop) : (s.modLoop i f).trapHold = s.trapHold := rfl
@[simp] theorem State.modLoop_nmi (s : State) (i : Nat) (f : Loop → Loop) : (s.modLoop i f).nmi = s.nmi := rfl
@[simp] theorem State.modLoop_lockSig (s : State) (i : Nat) (f : Loop → Loop) : (s.modLoop i f).lockSig = s.lockSig := rfl
@[simp] theorem State.modLoop_copies (s : State) (i : Nat) (f : Loop → Loop) : (s.modLoop i f).copies = s.copies := rfl
@[simp] theorem State.modLoop_lockSame (s : State) (i : Nat) (f : Loop → Loop) : (s.modLoop i f).lockSame = s.lockSame := rfl
@[simp] theorem State.modLoop_lockCmpAt (s : State) (i : Nat) (f : Loop → Loop) : (s.modLoop i f).lockCmpAt = s.lockCmpAt := rfl
@[simp] theorem State.modLoop_mon (s : State) (i : Nat) (f : Loop → Loop) : (s.modLoop i f).mon = s.mon := rfl
@[simp] theorem State.modLoop_otp (s : State) (i : Nat) (f : Loop → Loop) : (s.modLoop i f).otp = s.otp := rfl
@[simp] theorem State.modLoop_nvm (s : State) (i : Nat) (f : Loop → Loop) : (s.modLoop i f).nvm = s.nvm := rfl
@[simp] theorem State.modLoop_pwt (s : State) (i : Nat) (f : Loop → Loop) : (s.modLoop i f).pwt = s.pwt := rfl
@[simp] theorem State.modLoop_pwtProf (s : State) (i : Nat) (f : Loop → Loop) : (s.modLoop i f).pwtProf = s.pwtProf := rfl
@[simp] theorem State.modLoop_canS (s : State) (i : Nat) (f : Loop → Loop) : (s.modLoop i f).canS = s.canS := rfl
@[simp] theorem State.modLoop_can (s : State) (i : Nat) (f : Loop → Loop) : (s.modLoop i f).can = s.can := rfl
@[simp] theorem State.modLoop_fir (s : State) (i : Nat) (f : Loop → Loop) : (s.modLoop i f).fir = s.fir := rfl
@[simp] theorem State.modLoop_pats (s : State) (i : Nat) (f : Loop → Loop) : (s.modLoop i f).pats = s.pats := rfl
@[simp] theorem State.modLoop_patEdge (s : State) (i : Nat) (f : Loop → Loop) : (s.modLoop i f).patEdge = s.patEdge := rfl
@[simp] theorem State.modLoop_obsLive (s : State) (i : Nat) (f : Loop → Loop) : (s.modLoop i f).obsLive = s.obsLive := rfl
@[simp] theorem State.modLoop_seqTab (s : State) (i : Nat) (f : Loop → Loop) : (s.modLoop i f).seqTab = s.seqTab := rfl
@[simp] theorem State.modLoop_cmdTab (s : State) (i : Nat) (f : Loop → Loop) : (s.modLoop i f).cmdTab = s.cmdTab := rfl
@[simp] theorem State.modLoop_fecs (s : State) (i : Nat) (f : Loop → Loop) : (s.modLoop i f).fecs = s.fecs := rfl
@[simp] theorem State.modLoop_lineAt (s : State) (i : Nat) (f : Loop → Loop) : (s.modLoop i f).lineAt = s.lineAt := rfl
@[simp] theorem State.modLoop_buses (s : State) (i : Nat) (f : Loop → Loop) : (s.modLoop i f).buses = s.buses := rfl
@[simp] theorem State.modLoop_satAt (s : State) (i : Nat) (f : Loop → Loop) : (s.modLoop i f).satAt = s.satAt := rfl
@[simp] theorem State.modLoop_divs (s : State) (i : Nat) (f : Loop → Loop) : (s.modLoop i f).divs = s.divs := rfl
@[simp] theorem State.modLoop_tb (s : State) (i : Nat) (f : Loop → Loop) : (s.modLoop i f).tb = s.tb := rfl
@[simp] theorem State.modLoop_pwtStepAt (s : State) (i : Nat) (f : Loop → Loop) : (s.modLoop i f).pwtStepAt = s.pwtStepAt := rfl
@[simp] theorem State.modLoop_txenAt (s : State) (i : Nat) (f : Loop → Loop) : (s.modLoop i f).txenAt = s.txenAt := rfl
@[simp] theorem State.modLoop_pwtWord (s : State) (i : Nat) (f : Loop → Loop) : (s.modLoop i f).pwtWord = s.pwtWord := rfl
@[simp] theorem State.modLoop_pwtCode (s : State) (i : Nat) (f : Loop → Loop) : (s.modLoop i f).pwtCode = s.pwtCode := rfl
@[simp] theorem State.modLoop_pwtAt (s : State) (i : Nat) (f : Loop → Loop) : (s.modLoop i f).pwtAt = s.pwtAt := rfl
@[simp] theorem State.modLoop_tansy (s : State) (i : Nat) (f : Loop → Loop) : (s.modLoop i f).tansy = s.tansy := rfl
@[simp] theorem State.modLoop_gov (s : State) (i : Nat) (f : Loop → Loop) : (s.modLoop i f).gov = s.gov := rfl
@[simp] theorem State.modLoop_mat (s : State) (i : Nat) (f : Loop → Loop) : (s.modLoop i f).mat = s.mat := rfl
@[simp] theorem State.modLoop_clv (s : State) (i : Nat) (f : Loop → Loop) : (s.modLoop i f).clv = s.clv := rfl
@[simp] theorem State.modLoop_maskSeen (s : State) (i : Nat) (f : Loop → Loop) : (s.modLoop i f).maskSeen = s.maskSeen := rfl
@[simp] theorem State.modLoop_lnk (s : State) (i : Nat) (f : Loop → Loop) : (s.modLoop i f).lnk = s.lnk := rfl
@[simp] theorem State.modLoop_exps (s : State) (i : Nat) (f : Loop → Loop) : (s.modLoop i f).exps = s.exps := rfl
@[simp] theorem State.modLoop_cnv (s : State) (i : Nat) (f : Loop → Loop) : (s.modLoop i f).cnv = s.cnv := rfl
@[simp] theorem State.modLoop_thm (s : State) (i : Nat) (f : Loop → Loop) : (s.modLoop i f).thm = s.thm := rfl
@[simp] theorem State.modRail_get (s : State) (i : Nat) (f : Rail → Rail) (g : Fld) : (s.modRail i f).get g = s.get g := rfl
@[simp] theorem State.modRail_pending (s : State) (i : Nat) (f : Rail → Rail) : (s.modRail i f).pending = s.pending := rfl
@[simp] theorem State.modRail_now (s : State) (i : Nat) (f : Rail → Rail) : (s.modRail i f).now = s.now := rfl
@[simp] theorem State.modRail_fresh (s : State) (i : Nat) (f : Rail → Rail) : (s.modRail i f).fresh = s.fresh := rfl
@[simp] theorem State.modRail_out (s : State) (i : Nat) (f : Rail → Rail) : (s.modRail i f).out = s.out := rfl
@[simp] theorem State.modRail_reg (s : State) (i : Nat) (f : Rail → Rail) : (s.modRail i f).reg = s.reg := rfl
@[simp] theorem State.modRail_board (s : State) (i : Nat) (f : Rail → Rail) : (s.modRail i f).board = s.board := rfl
@[simp] theorem State.modRail_straps (s : State) (i : Nat) (f : Rail → Rail) : (s.modRail i f).straps = s.straps := rfl
@[simp] theorem State.modRail_rst (s : State) (i : Nat) (f : Rail → Rail) : (s.modRail i f).rst = s.rst := rfl
@[simp] theorem State.modRail_aon (s : State) (i : Nat) (f : Rail → Rail) : (s.modRail i f).aon = s.aon := rfl
@[simp] theorem State.modRail_needReq (s : State) (i : Nat) (f : Rail → Rail) : (s.modRail i f).needReq = s.needReq := rfl
@[simp] theorem State.modRail_prof (s : State) (i : Nat) (f : Rail → Rail) : (s.modRail i f).prof = s.prof := rfl
@[simp] theorem State.modRail_chanDown (s : State) (i : Nat) (f : Rail → Rail) : (s.modRail i f).chanDown = s.chanDown := rfl
@[simp] theorem State.modRail_chanUp (s : State) (i : Nat) (f : Rail → Rail) : (s.modRail i f).chanUp = s.chanUp := rfl
@[simp] theorem State.modRail_tr (s : State) (i : Nat) (f : Rail → Rail) : (s.modRail i f).tr = s.tr := rfl
@[simp] theorem State.modRail_own (s : State) (i : Nat) (f : Rail → Rail) : (s.modRail i f).own = s.own := rfl
@[simp] theorem State.modRail_ports (s : State) (i : Nat) (f : Rail → Rail) : (s.modRail i f).ports = s.ports := rfl
@[simp] theorem State.modRail_evt (s : State) (i : Nat) (f : Rail → Rail) : (s.modRail i f).evt = s.evt := rfl
@[simp] theorem State.modRail_flt (s : State) (i : Nat) (f : Rail → Rail) : (s.modRail i f).flt = s.flt := rfl
@[simp] theorem State.modRail_active (s : State) (i : Nat) (f : Rail → Rail) : (s.modRail i f).active = s.active := rfl
@[simp] theorem State.modRail_slots (s : State) (i : Nat) (f : Rail → Rail) : (s.modRail i f).slots = s.slots := rfl
@[simp] theorem State.modRail_live (s : State) (i : Nat) (f : Rail → Rail) : (s.modRail i f).live = s.live := rfl
@[simp] theorem State.modRail_snap (s : State) (i : Nat) (f : Rail → Rail) : (s.modRail i f).snap = s.snap := rfl
@[simp] theorem State.modRail_bias (s : State) (i : Nat) (f : Rail → Rail) : (s.modRail i f).bias = s.bias := rfl
@[simp] theorem State.modRail_biasOk (s : State) (i : Nat) (f : Rail → Rail) : (s.modRail i f).biasOk = s.biasOk := rfl
@[simp] theorem State.modRail_iced (s : State) (i : Nat) (f : Rail → Rail) : (s.modRail i f).iced = s.iced := rfl
@[simp] theorem State.modRail_trapHold (s : State) (i : Nat) (f : Rail → Rail) : (s.modRail i f).trapHold = s.trapHold := rfl
@[simp] theorem State.modRail_nmi (s : State) (i : Nat) (f : Rail → Rail) : (s.modRail i f).nmi = s.nmi := rfl
@[simp] theorem State.modRail_lockSig (s : State) (i : Nat) (f : Rail → Rail) : (s.modRail i f).lockSig = s.lockSig := rfl
@[simp] theorem State.modRail_copies (s : State) (i : Nat) (f : Rail → Rail) : (s.modRail i f).copies = s.copies := rfl
@[simp] theorem State.modRail_lockSame (s : State) (i : Nat) (f : Rail → Rail) : (s.modRail i f).lockSame = s.lockSame := rfl
@[simp] theorem State.modRail_lockCmpAt (s : State) (i : Nat) (f : Rail → Rail) : (s.modRail i f).lockCmpAt = s.lockCmpAt := rfl
@[simp] theorem State.modRail_mon (s : State) (i : Nat) (f : Rail → Rail) : (s.modRail i f).mon = s.mon := rfl
@[simp] theorem State.modRail_otp (s : State) (i : Nat) (f : Rail → Rail) : (s.modRail i f).otp = s.otp := rfl
@[simp] theorem State.modRail_nvm (s : State) (i : Nat) (f : Rail → Rail) : (s.modRail i f).nvm = s.nvm := rfl
@[simp] theorem State.modRail_pwt (s : State) (i : Nat) (f : Rail → Rail) : (s.modRail i f).pwt = s.pwt := rfl
@[simp] theorem State.modRail_pwtProf (s : State) (i : Nat) (f : Rail → Rail) : (s.modRail i f).pwtProf = s.pwtProf := rfl
@[simp] theorem State.modRail_canS (s : State) (i : Nat) (f : Rail → Rail) : (s.modRail i f).canS = s.canS := rfl
@[simp] theorem State.modRail_can (s : State) (i : Nat) (f : Rail → Rail) : (s.modRail i f).can = s.can := rfl
@[simp] theorem State.modRail_fir (s : State) (i : Nat) (f : Rail → Rail) : (s.modRail i f).fir = s.fir := rfl
@[simp] theorem State.modRail_pats (s : State) (i : Nat) (f : Rail → Rail) : (s.modRail i f).pats = s.pats := rfl
@[simp] theorem State.modRail_patEdge (s : State) (i : Nat) (f : Rail → Rail) : (s.modRail i f).patEdge = s.patEdge := rfl
@[simp] theorem State.modRail_obsLive (s : State) (i : Nat) (f : Rail → Rail) : (s.modRail i f).obsLive = s.obsLive := rfl
@[simp] theorem State.modRail_seqTab (s : State) (i : Nat) (f : Rail → Rail) : (s.modRail i f).seqTab = s.seqTab := rfl
@[simp] theorem State.modRail_cmdTab (s : State) (i : Nat) (f : Rail → Rail) : (s.modRail i f).cmdTab = s.cmdTab := rfl
@[simp] theorem State.modRail_fecs (s : State) (i : Nat) (f : Rail → Rail) : (s.modRail i f).fecs = s.fecs := rfl
@[simp] theorem State.modRail_lineAt (s : State) (i : Nat) (f : Rail → Rail) : (s.modRail i f).lineAt = s.lineAt := rfl
@[simp] theorem State.modRail_buses (s : State) (i : Nat) (f : Rail → Rail) : (s.modRail i f).buses = s.buses := rfl
@[simp] theorem State.modRail_satAt (s : State) (i : Nat) (f : Rail → Rail) : (s.modRail i f).satAt = s.satAt := rfl
@[simp] theorem State.modRail_divs (s : State) (i : Nat) (f : Rail → Rail) : (s.modRail i f).divs = s.divs := rfl
@[simp] theorem State.modRail_tb (s : State) (i : Nat) (f : Rail → Rail) : (s.modRail i f).tb = s.tb := rfl
@[simp] theorem State.modRail_pwtStepAt (s : State) (i : Nat) (f : Rail → Rail) : (s.modRail i f).pwtStepAt = s.pwtStepAt := rfl
@[simp] theorem State.modRail_txenAt (s : State) (i : Nat) (f : Rail → Rail) : (s.modRail i f).txenAt = s.txenAt := rfl
@[simp] theorem State.modRail_pwtWord (s : State) (i : Nat) (f : Rail → Rail) : (s.modRail i f).pwtWord = s.pwtWord := rfl
@[simp] theorem State.modRail_pwtCode (s : State) (i : Nat) (f : Rail → Rail) : (s.modRail i f).pwtCode = s.pwtCode := rfl
@[simp] theorem State.modRail_pwtAt (s : State) (i : Nat) (f : Rail → Rail) : (s.modRail i f).pwtAt = s.pwtAt := rfl
@[simp] theorem State.modRail_tansy (s : State) (i : Nat) (f : Rail → Rail) : (s.modRail i f).tansy = s.tansy := rfl
@[simp] theorem State.modRail_gov (s : State) (i : Nat) (f : Rail → Rail) : (s.modRail i f).gov = s.gov := rfl
@[simp] theorem State.modRail_loops (s : State) (i : Nat) (f : Rail → Rail) : (s.modRail i f).loops = s.loops := rfl
@[simp] theorem State.modRail_mat (s : State) (i : Nat) (f : Rail → Rail) : (s.modRail i f).mat = s.mat := rfl
@[simp] theorem State.modRail_clv (s : State) (i : Nat) (f : Rail → Rail) : (s.modRail i f).clv = s.clv := rfl
@[simp] theorem State.modRail_maskSeen (s : State) (i : Nat) (f : Rail → Rail) : (s.modRail i f).maskSeen = s.maskSeen := rfl
@[simp] theorem State.modRail_lnk (s : State) (i : Nat) (f : Rail → Rail) : (s.modRail i f).lnk = s.lnk := rfl
@[simp] theorem State.modRail_exps (s : State) (i : Nat) (f : Rail → Rail) : (s.modRail i f).exps = s.exps := rfl
@[simp] theorem State.modRail_cnv (s : State) (i : Nat) (f : Rail → Rail) : (s.modRail i f).cnv = s.cnv := rfl
@[simp] theorem State.modRail_thm (s : State) (i : Nat) (f : Rail → Rail) : (s.modRail i f).thm = s.thm := rfl
@[simp] theorem State.until_get (s : State) (x : Nat) (g : Fld) : (s.until x).get g = s.get g := rfl
@[simp] theorem State.until_pending (s : State) (x : Nat) : (s.until x).pending = s.pending := rfl
@[simp] theorem State.until_fresh (s : State) (x : Nat) : (s.until x).fresh = s.fresh := rfl
@[simp] theorem State.until_out (s : State) (x : Nat) : (s.until x).out = s.out := rfl
@[simp] theorem State.until_reg (s : State) (x : Nat) : (s.until x).reg = s.reg := rfl
@[simp] theorem State.until_board (s : State) (x : Nat) : (s.until x).board = s.board := rfl
@[simp] theorem State.until_straps (s : State) (x : Nat) : (s.until x).straps = s.straps := rfl
@[simp] theorem State.until_rst (s : State) (x : Nat) : (s.until x).rst = s.rst := rfl
@[simp] theorem State.until_aon (s : State) (x : Nat) : (s.until x).aon = s.aon := rfl
@[simp] theorem State.until_rails (s : State) (x : Nat) : (s.until x).rails = s.rails := rfl
@[simp] theorem State.until_needReq (s : State) (x : Nat) : (s.until x).needReq = s.needReq := rfl
@[simp] theorem State.until_prof (s : State) (x : Nat) : (s.until x).prof = s.prof := rfl
@[simp] theorem State.until_chanDown (s : State) (x : Nat) : (s.until x).chanDown = s.chanDown := rfl
@[simp] theorem State.until_chanUp (s : State) (x : Nat) : (s.until x).chanUp = s.chanUp := rfl
@[simp] theorem State.until_tr (s : State) (x : Nat) : (s.until x).tr = s.tr := rfl
@[simp] theorem State.until_own (s : State) (x : Nat) : (s.until x).own = s.own := rfl
@[simp] theorem State.until_ports (s : State) (x : Nat) : (s.until x).ports = s.ports := rfl
@[simp] theorem State.until_evt (s : State) (x : Nat) : (s.until x).evt = s.evt := rfl
@[simp] theorem State.until_flt (s : State) (x : Nat) : (s.until x).flt = s.flt := rfl
@[simp] theorem State.until_active (s : State) (x : Nat) : (s.until x).active = s.active := rfl
@[simp] theorem State.until_slots (s : State) (x : Nat) : (s.until x).slots = s.slots := rfl
@[simp] theorem State.until_live (s : State) (x : Nat) : (s.until x).live = s.live := rfl
@[simp] theorem State.until_snap (s : State) (x : Nat) : (s.until x).snap = s.snap := rfl
@[simp] theorem State.until_bias (s : State) (x : Nat) : (s.until x).bias = s.bias := rfl
@[simp] theorem State.until_biasOk (s : State) (x : Nat) : (s.until x).biasOk = s.biasOk := rfl
@[simp] theorem State.until_iced (s : State) (x : Nat) : (s.until x).iced = s.iced := rfl
@[simp] theorem State.until_trapHold (s : State) (x : Nat) : (s.until x).trapHold = s.trapHold := rfl
@[simp] theorem State.until_nmi (s : State) (x : Nat) : (s.until x).nmi = s.nmi := rfl
@[simp] theorem State.until_lockSig (s : State) (x : Nat) : (s.until x).lockSig = s.lockSig := rfl
@[simp] theorem State.until_copies (s : State) (x : Nat) : (s.until x).copies = s.copies := rfl
@[simp] theorem State.until_lockSame (s : State) (x : Nat) : (s.until x).lockSame = s.lockSame := rfl
@[simp] theorem State.until_lockCmpAt (s : State) (x : Nat) : (s.until x).lockCmpAt = s.lockCmpAt := rfl
@[simp] theorem State.until_mon (s : State) (x : Nat) : (s.until x).mon = s.mon := rfl
@[simp] theorem State.until_otp (s : State) (x : Nat) : (s.until x).otp = s.otp := rfl
@[simp] theorem State.until_nvm (s : State) (x : Nat) : (s.until x).nvm = s.nvm := rfl
@[simp] theorem State.until_pwt (s : State) (x : Nat) : (s.until x).pwt = s.pwt := rfl
@[simp] theorem State.until_pwtProf (s : State) (x : Nat) : (s.until x).pwtProf = s.pwtProf := rfl
@[simp] theorem State.until_canS (s : State) (x : Nat) : (s.until x).canS = s.canS := rfl
@[simp] theorem State.until_can (s : State) (x : Nat) : (s.until x).can = s.can := rfl
@[simp] theorem State.until_fir (s : State) (x : Nat) : (s.until x).fir = s.fir := rfl
@[simp] theorem State.until_pats (s : State) (x : Nat) : (s.until x).pats = s.pats := rfl
@[simp] theorem State.until_patEdge (s : State) (x : Nat) : (s.until x).patEdge = s.patEdge := rfl
@[simp] theorem State.until_obsLive (s : State) (x : Nat) : (s.until x).obsLive = s.obsLive := rfl
@[simp] theorem State.until_seqTab (s : State) (x : Nat) : (s.until x).seqTab = s.seqTab := rfl
@[simp] theorem State.until_cmdTab (s : State) (x : Nat) : (s.until x).cmdTab = s.cmdTab := rfl
@[simp] theorem State.until_fecs (s : State) (x : Nat) : (s.until x).fecs = s.fecs := rfl
@[simp] theorem State.until_lineAt (s : State) (x : Nat) : (s.until x).lineAt = s.lineAt := rfl
@[simp] theorem State.until_buses (s : State) (x : Nat) : (s.until x).buses = s.buses := rfl
@[simp] theorem State.until_satAt (s : State) (x : Nat) : (s.until x).satAt = s.satAt := rfl
@[simp] theorem State.until_divs (s : State) (x : Nat) : (s.until x).divs = s.divs := rfl
@[simp] theorem State.until_tb (s : State) (x : Nat) : (s.until x).tb = s.tb := rfl
@[simp] theorem State.until_pwtStepAt (s : State) (x : Nat) : (s.until x).pwtStepAt = s.pwtStepAt := rfl
@[simp] theorem State.until_txenAt (s : State) (x : Nat) : (s.until x).txenAt = s.txenAt := rfl
@[simp] theorem State.until_pwtWord (s : State) (x : Nat) : (s.until x).pwtWord = s.pwtWord := rfl
@[simp] theorem State.until_pwtCode (s : State) (x : Nat) : (s.until x).pwtCode = s.pwtCode := rfl
@[simp] theorem State.until_pwtAt (s : State) (x : Nat) : (s.until x).pwtAt = s.pwtAt := rfl
@[simp] theorem State.until_tansy (s : State) (x : Nat) : (s.until x).tansy = s.tansy := rfl
@[simp] theorem State.until_gov (s : State) (x : Nat) : (s.until x).gov = s.gov := rfl
@[simp] theorem State.until_loops (s : State) (x : Nat) : (s.until x).loops = s.loops := rfl
@[simp] theorem State.until_mat (s : State) (x : Nat) : (s.until x).mat = s.mat := rfl
@[simp] theorem State.until_clv (s : State) (x : Nat) : (s.until x).clv = s.clv := rfl
@[simp] theorem State.until_maskSeen (s : State) (x : Nat) : (s.until x).maskSeen = s.maskSeen := rfl
@[simp] theorem State.until_lnk (s : State) (x : Nat) : (s.until x).lnk = s.lnk := rfl
@[simp] theorem State.until_exps (s : State) (x : Nat) : (s.until x).exps = s.exps := rfl
@[simp] theorem State.until_cnv (s : State) (x : Nat) : (s.until x).cnv = s.cnv := rfl
@[simp] theorem State.until_thm (s : State) (x : Nat) : (s.until x).thm = s.thm := rfl
@[simp] theorem State.reply_get (s : State) (w : Nat) (g : Fld) : (s.reply w).get g = s.get g := rfl
@[simp] theorem State.reply_pending (s : State) (w : Nat) : (s.reply w).pending = s.pending := rfl
@[simp] theorem State.reply_now (s : State) (w : Nat) : (s.reply w).now = s.now := rfl
@[simp] theorem State.reply_fresh (s : State) (w : Nat) : (s.reply w).fresh = s.fresh := rfl
@[simp] theorem State.reply_reg (s : State) (w : Nat) : (s.reply w).reg = s.reg := rfl
@[simp] theorem State.reply_board (s : State) (w : Nat) : (s.reply w).board = s.board := rfl
@[simp] theorem State.reply_straps (s : State) (w : Nat) : (s.reply w).straps = s.straps := rfl
@[simp] theorem State.reply_rst (s : State) (w : Nat) : (s.reply w).rst = s.rst := rfl
@[simp] theorem State.reply_aon (s : State) (w : Nat) : (s.reply w).aon = s.aon := rfl
@[simp] theorem State.reply_rails (s : State) (w : Nat) : (s.reply w).rails = s.rails := rfl
@[simp] theorem State.reply_needReq (s : State) (w : Nat) : (s.reply w).needReq = s.needReq := rfl
@[simp] theorem State.reply_prof (s : State) (w : Nat) : (s.reply w).prof = s.prof := rfl
@[simp] theorem State.reply_chanDown (s : State) (w : Nat) : (s.reply w).chanDown = s.chanDown := rfl
@[simp] theorem State.reply_chanUp (s : State) (w : Nat) : (s.reply w).chanUp = s.chanUp := rfl
@[simp] theorem State.reply_tr (s : State) (w : Nat) : (s.reply w).tr = s.tr := rfl
@[simp] theorem State.reply_own (s : State) (w : Nat) : (s.reply w).own = s.own := rfl
@[simp] theorem State.reply_ports (s : State) (w : Nat) : (s.reply w).ports = s.ports := rfl
@[simp] theorem State.reply_evt (s : State) (w : Nat) : (s.reply w).evt = s.evt := rfl
@[simp] theorem State.reply_flt (s : State) (w : Nat) : (s.reply w).flt = s.flt := rfl
@[simp] theorem State.reply_active (s : State) (w : Nat) : (s.reply w).active = s.active := rfl
@[simp] theorem State.reply_slots (s : State) (w : Nat) : (s.reply w).slots = s.slots := rfl
@[simp] theorem State.reply_live (s : State) (w : Nat) : (s.reply w).live = s.live := rfl
@[simp] theorem State.reply_snap (s : State) (w : Nat) : (s.reply w).snap = s.snap := rfl
@[simp] theorem State.reply_bias (s : State) (w : Nat) : (s.reply w).bias = s.bias := rfl
@[simp] theorem State.reply_biasOk (s : State) (w : Nat) : (s.reply w).biasOk = s.biasOk := rfl
@[simp] theorem State.reply_iced (s : State) (w : Nat) : (s.reply w).iced = s.iced := rfl
@[simp] theorem State.reply_trapHold (s : State) (w : Nat) : (s.reply w).trapHold = s.trapHold := rfl
@[simp] theorem State.reply_nmi (s : State) (w : Nat) : (s.reply w).nmi = s.nmi := rfl
@[simp] theorem State.reply_lockSig (s : State) (w : Nat) : (s.reply w).lockSig = s.lockSig := rfl
@[simp] theorem State.reply_copies (s : State) (w : Nat) : (s.reply w).copies = s.copies := rfl
@[simp] theorem State.reply_lockSame (s : State) (w : Nat) : (s.reply w).lockSame = s.lockSame := rfl
@[simp] theorem State.reply_lockCmpAt (s : State) (w : Nat) : (s.reply w).lockCmpAt = s.lockCmpAt := rfl
@[simp] theorem State.reply_mon (s : State) (w : Nat) : (s.reply w).mon = s.mon := rfl
@[simp] theorem State.reply_otp (s : State) (w : Nat) : (s.reply w).otp = s.otp := rfl
@[simp] theorem State.reply_nvm (s : State) (w : Nat) : (s.reply w).nvm = s.nvm := rfl
@[simp] theorem State.reply_pwt (s : State) (w : Nat) : (s.reply w).pwt = s.pwt := rfl
@[simp] theorem State.reply_pwtProf (s : State) (w : Nat) : (s.reply w).pwtProf = s.pwtProf := rfl
@[simp] theorem State.reply_canS (s : State) (w : Nat) : (s.reply w).canS = s.canS := rfl
@[simp] theorem State.reply_can (s : State) (w : Nat) : (s.reply w).can = s.can := rfl
@[simp] theorem State.reply_fir (s : State) (w : Nat) : (s.reply w).fir = s.fir := rfl
@[simp] theorem State.reply_pats (s : State) (w : Nat) : (s.reply w).pats = s.pats := rfl
@[simp] theorem State.reply_patEdge (s : State) (w : Nat) : (s.reply w).patEdge = s.patEdge := rfl
@[simp] theorem State.reply_obsLive (s : State) (w : Nat) : (s.reply w).obsLive = s.obsLive := rfl
@[simp] theorem State.reply_seqTab (s : State) (w : Nat) : (s.reply w).seqTab = s.seqTab := rfl
@[simp] theorem State.reply_cmdTab (s : State) (w : Nat) : (s.reply w).cmdTab = s.cmdTab := rfl
@[simp] theorem State.reply_fecs (s : State) (w : Nat) : (s.reply w).fecs = s.fecs := rfl
@[simp] theorem State.reply_lineAt (s : State) (w : Nat) : (s.reply w).lineAt = s.lineAt := rfl
@[simp] theorem State.reply_buses (s : State) (w : Nat) : (s.reply w).buses = s.buses := rfl
@[simp] theorem State.reply_satAt (s : State) (w : Nat) : (s.reply w).satAt = s.satAt := rfl
@[simp] theorem State.reply_divs (s : State) (w : Nat) : (s.reply w).divs = s.divs := rfl
@[simp] theorem State.reply_tb (s : State) (w : Nat) : (s.reply w).tb = s.tb := rfl
@[simp] theorem State.reply_pwtStepAt (s : State) (w : Nat) : (s.reply w).pwtStepAt = s.pwtStepAt := rfl
@[simp] theorem State.reply_txenAt (s : State) (w : Nat) : (s.reply w).txenAt = s.txenAt := rfl
@[simp] theorem State.reply_pwtWord (s : State) (w : Nat) : (s.reply w).pwtWord = s.pwtWord := rfl
@[simp] theorem State.reply_pwtCode (s : State) (w : Nat) : (s.reply w).pwtCode = s.pwtCode := rfl
@[simp] theorem State.reply_pwtAt (s : State) (w : Nat) : (s.reply w).pwtAt = s.pwtAt := rfl
@[simp] theorem State.reply_tansy (s : State) (w : Nat) : (s.reply w).tansy = s.tansy := rfl
@[simp] theorem State.reply_gov (s : State) (w : Nat) : (s.reply w).gov = s.gov := rfl
@[simp] theorem State.reply_loops (s : State) (w : Nat) : (s.reply w).loops = s.loops := rfl
@[simp] theorem State.reply_mat (s : State) (w : Nat) : (s.reply w).mat = s.mat := rfl
@[simp] theorem State.reply_clv (s : State) (w : Nat) : (s.reply w).clv = s.clv := rfl
@[simp] theorem State.reply_maskSeen (s : State) (w : Nat) : (s.reply w).maskSeen = s.maskSeen := rfl
@[simp] theorem State.reply_lnk (s : State) (w : Nat) : (s.reply w).lnk = s.lnk := rfl
@[simp] theorem State.reply_exps (s : State) (w : Nat) : (s.reply w).exps = s.exps := rfl
@[simp] theorem State.reply_cnv (s : State) (w : Nat) : (s.reply w).cnv = s.cnv := rfl
@[simp] theorem State.reply_thm (s : State) (w : Nat) : (s.reply w).thm = s.thm := rfl
@[simp] theorem State.ask_get (s : State) (g : Fld) : s.ask.get g = s.get g := rfl
@[simp] theorem State.ask_pending (s : State) : s.ask.pending = s.pending := rfl
@[simp] theorem State.ask_now (s : State) : s.ask.now = s.now := rfl
@[simp] theorem State.ask_fresh (s : State) : s.ask.fresh = s.fresh := rfl
@[simp] theorem State.ask_reg (s : State) : s.ask.reg = s.reg := rfl
@[simp] theorem State.ask_board (s : State) : s.ask.board = s.board := rfl
@[simp] theorem State.ask_straps (s : State) : s.ask.straps = s.straps := rfl
@[simp] theorem State.ask_rst (s : State) : s.ask.rst = s.rst := rfl
@[simp] theorem State.ask_aon (s : State) : s.ask.aon = s.aon := rfl
@[simp] theorem State.ask_rails (s : State) : s.ask.rails = s.rails := rfl
@[simp] theorem State.ask_needReq (s : State) : s.ask.needReq = s.needReq := rfl
@[simp] theorem State.ask_prof (s : State) : s.ask.prof = s.prof := rfl
@[simp] theorem State.ask_chanDown (s : State) : s.ask.chanDown = s.chanDown := rfl
@[simp] theorem State.ask_chanUp (s : State) : s.ask.chanUp = s.chanUp := rfl
@[simp] theorem State.ask_tr (s : State) : s.ask.tr = s.tr := rfl
@[simp] theorem State.ask_own (s : State) : s.ask.own = s.own := rfl
@[simp] theorem State.ask_ports (s : State) : s.ask.ports = s.ports := rfl
@[simp] theorem State.ask_evt (s : State) : s.ask.evt = s.evt := rfl
@[simp] theorem State.ask_flt (s : State) : s.ask.flt = s.flt := rfl
@[simp] theorem State.ask_active (s : State) : s.ask.active = s.active := rfl
@[simp] theorem State.ask_slots (s : State) : s.ask.slots = s.slots := rfl
@[simp] theorem State.ask_live (s : State) : s.ask.live = s.live := rfl
@[simp] theorem State.ask_snap (s : State) : s.ask.snap = s.snap := rfl
@[simp] theorem State.ask_bias (s : State) : s.ask.bias = s.bias := rfl
@[simp] theorem State.ask_biasOk (s : State) : s.ask.biasOk = s.biasOk := rfl
@[simp] theorem State.ask_iced (s : State) : s.ask.iced = s.iced := rfl
@[simp] theorem State.ask_trapHold (s : State) : s.ask.trapHold = s.trapHold := rfl
@[simp] theorem State.ask_nmi (s : State) : s.ask.nmi = s.nmi := rfl
@[simp] theorem State.ask_lockSig (s : State) : s.ask.lockSig = s.lockSig := rfl
@[simp] theorem State.ask_copies (s : State) : s.ask.copies = s.copies := rfl
@[simp] theorem State.ask_lockSame (s : State) : s.ask.lockSame = s.lockSame := rfl
@[simp] theorem State.ask_lockCmpAt (s : State) : s.ask.lockCmpAt = s.lockCmpAt := rfl
@[simp] theorem State.ask_mon (s : State) : s.ask.mon = s.mon := rfl
@[simp] theorem State.ask_otp (s : State) : s.ask.otp = s.otp := rfl
@[simp] theorem State.ask_nvm (s : State) : s.ask.nvm = s.nvm := rfl
@[simp] theorem State.ask_pwt (s : State) : s.ask.pwt = s.pwt := rfl
@[simp] theorem State.ask_pwtProf (s : State) : s.ask.pwtProf = s.pwtProf := rfl
@[simp] theorem State.ask_canS (s : State) : s.ask.canS = s.canS := rfl
@[simp] theorem State.ask_can (s : State) : s.ask.can = s.can := rfl
@[simp] theorem State.ask_fir (s : State) : s.ask.fir = s.fir := rfl
@[simp] theorem State.ask_pats (s : State) : s.ask.pats = s.pats := rfl
@[simp] theorem State.ask_patEdge (s : State) : s.ask.patEdge = s.patEdge := rfl
@[simp] theorem State.ask_obsLive (s : State) : s.ask.obsLive = s.obsLive := rfl
@[simp] theorem State.ask_seqTab (s : State) : s.ask.seqTab = s.seqTab := rfl
@[simp] theorem State.ask_cmdTab (s : State) : s.ask.cmdTab = s.cmdTab := rfl
@[simp] theorem State.ask_fecs (s : State) : s.ask.fecs = s.fecs := rfl
@[simp] theorem State.ask_lineAt (s : State) : s.ask.lineAt = s.lineAt := rfl
@[simp] theorem State.ask_buses (s : State) : s.ask.buses = s.buses := rfl
@[simp] theorem State.ask_satAt (s : State) : s.ask.satAt = s.satAt := rfl
@[simp] theorem State.ask_divs (s : State) : s.ask.divs = s.divs := rfl
@[simp] theorem State.ask_tb (s : State) : s.ask.tb = s.tb := rfl
@[simp] theorem State.ask_pwtStepAt (s : State) : s.ask.pwtStepAt = s.pwtStepAt := rfl
@[simp] theorem State.ask_txenAt (s : State) : s.ask.txenAt = s.txenAt := rfl
@[simp] theorem State.ask_pwtWord (s : State) : s.ask.pwtWord = s.pwtWord := rfl
@[simp] theorem State.ask_pwtCode (s : State) : s.ask.pwtCode = s.pwtCode := rfl
@[simp] theorem State.ask_pwtAt (s : State) : s.ask.pwtAt = s.pwtAt := rfl
@[simp] theorem State.ask_tansy (s : State) : s.ask.tansy = s.tansy := rfl
@[simp] theorem State.ask_gov (s : State) : s.ask.gov = s.gov := rfl
@[simp] theorem State.ask_loops (s : State) : s.ask.loops = s.loops := rfl
@[simp] theorem State.ask_mat (s : State) : s.ask.mat = s.mat := rfl
@[simp] theorem State.ask_clv (s : State) : s.ask.clv = s.clv := rfl
@[simp] theorem State.ask_maskSeen (s : State) : s.ask.maskSeen = s.maskSeen := rfl
@[simp] theorem State.ask_lnk (s : State) : s.ask.lnk = s.lnk := rfl
@[simp] theorem State.ask_exps (s : State) : s.ask.exps = s.exps := rfl
@[simp] theorem State.ask_cnv (s : State) : s.ask.cnv = s.cnv := rfl
@[simp] theorem State.ask_thm (s : State) : s.ask.thm = s.thm := rfl
@[simp] theorem State.outcome_get (s : State) (m : Master) (x : Nat) (g : Fld) : (s.outcome m x).get g = s.get g := rfl
@[simp] theorem State.outcome_pending (s : State) (m : Master) (x : Nat) : (s.outcome m x).pending = s.pending := rfl
@[simp] theorem State.outcome_now (s : State) (m : Master) (x : Nat) : (s.outcome m x).now = s.now := rfl
@[simp] theorem State.outcome_fresh (s : State) (m : Master) (x : Nat) : (s.outcome m x).fresh = s.fresh := rfl
@[simp] theorem State.outcome_out (s : State) (m : Master) (x : Nat) : (s.outcome m x).out = s.out := rfl
@[simp] theorem State.outcome_reg (s : State) (m : Master) (x : Nat) : (s.outcome m x).reg = s.reg := rfl
@[simp] theorem State.outcome_board (s : State) (m : Master) (x : Nat) : (s.outcome m x).board = s.board := rfl
@[simp] theorem State.outcome_straps (s : State) (m : Master) (x : Nat) : (s.outcome m x).straps = s.straps := rfl
@[simp] theorem State.outcome_rst (s : State) (m : Master) (x : Nat) : (s.outcome m x).rst = s.rst := rfl
@[simp] theorem State.outcome_aon (s : State) (m : Master) (x : Nat) : (s.outcome m x).aon = s.aon := rfl
@[simp] theorem State.outcome_rails (s : State) (m : Master) (x : Nat) : (s.outcome m x).rails = s.rails := rfl
@[simp] theorem State.outcome_needReq (s : State) (m : Master) (x : Nat) : (s.outcome m x).needReq = s.needReq := rfl
@[simp] theorem State.outcome_prof (s : State) (m : Master) (x : Nat) : (s.outcome m x).prof = s.prof := rfl
@[simp] theorem State.outcome_chanDown (s : State) (m : Master) (x : Nat) : (s.outcome m x).chanDown = s.chanDown := rfl
@[simp] theorem State.outcome_chanUp (s : State) (m : Master) (x : Nat) : (s.outcome m x).chanUp = s.chanUp := rfl
@[simp] theorem State.outcome_tr (s : State) (m : Master) (x : Nat) : (s.outcome m x).tr = s.tr := rfl
@[simp] theorem State.outcome_own (s : State) (m : Master) (x : Nat) : (s.outcome m x).own = s.own := rfl
@[simp] theorem State.outcome_evt (s : State) (m : Master) (x : Nat) : (s.outcome m x).evt = s.evt := rfl
@[simp] theorem State.outcome_flt (s : State) (m : Master) (x : Nat) : (s.outcome m x).flt = s.flt := rfl
@[simp] theorem State.outcome_active (s : State) (m : Master) (x : Nat) : (s.outcome m x).active = s.active := rfl
@[simp] theorem State.outcome_slots (s : State) (m : Master) (x : Nat) : (s.outcome m x).slots = s.slots := rfl
@[simp] theorem State.outcome_live (s : State) (m : Master) (x : Nat) : (s.outcome m x).live = s.live := rfl
@[simp] theorem State.outcome_snap (s : State) (m : Master) (x : Nat) : (s.outcome m x).snap = s.snap := rfl
@[simp] theorem State.outcome_bias (s : State) (m : Master) (x : Nat) : (s.outcome m x).bias = s.bias := rfl
@[simp] theorem State.outcome_biasOk (s : State) (m : Master) (x : Nat) : (s.outcome m x).biasOk = s.biasOk := rfl
@[simp] theorem State.outcome_iced (s : State) (m : Master) (x : Nat) : (s.outcome m x).iced = s.iced := rfl
@[simp] theorem State.outcome_trapHold (s : State) (m : Master) (x : Nat) : (s.outcome m x).trapHold = s.trapHold := rfl
@[simp] theorem State.outcome_nmi (s : State) (m : Master) (x : Nat) : (s.outcome m x).nmi = s.nmi := rfl
@[simp] theorem State.outcome_lockSig (s : State) (m : Master) (x : Nat) : (s.outcome m x).lockSig = s.lockSig := rfl
@[simp] theorem State.outcome_copies (s : State) (m : Master) (x : Nat) : (s.outcome m x).copies = s.copies := rfl
@[simp] theorem State.outcome_lockSame (s : State) (m : Master) (x : Nat) : (s.outcome m x).lockSame = s.lockSame := rfl
@[simp] theorem State.outcome_lockCmpAt (s : State) (m : Master) (x : Nat) : (s.outcome m x).lockCmpAt = s.lockCmpAt := rfl
@[simp] theorem State.outcome_mon (s : State) (m : Master) (x : Nat) : (s.outcome m x).mon = s.mon := rfl
@[simp] theorem State.outcome_otp (s : State) (m : Master) (x : Nat) : (s.outcome m x).otp = s.otp := rfl
@[simp] theorem State.outcome_nvm (s : State) (m : Master) (x : Nat) : (s.outcome m x).nvm = s.nvm := rfl
@[simp] theorem State.outcome_pwt (s : State) (m : Master) (x : Nat) : (s.outcome m x).pwt = s.pwt := rfl
@[simp] theorem State.outcome_pwtProf (s : State) (m : Master) (x : Nat) : (s.outcome m x).pwtProf = s.pwtProf := rfl
@[simp] theorem State.outcome_canS (s : State) (m : Master) (x : Nat) : (s.outcome m x).canS = s.canS := rfl
@[simp] theorem State.outcome_can (s : State) (m : Master) (x : Nat) : (s.outcome m x).can = s.can := rfl
@[simp] theorem State.outcome_fir (s : State) (m : Master) (x : Nat) : (s.outcome m x).fir = s.fir := rfl
@[simp] theorem State.outcome_pats (s : State) (m : Master) (x : Nat) : (s.outcome m x).pats = s.pats := rfl
@[simp] theorem State.outcome_patEdge (s : State) (m : Master) (x : Nat) : (s.outcome m x).patEdge = s.patEdge := rfl
@[simp] theorem State.outcome_obsLive (s : State) (m : Master) (x : Nat) : (s.outcome m x).obsLive = s.obsLive := rfl
@[simp] theorem State.outcome_seqTab (s : State) (m : Master) (x : Nat) : (s.outcome m x).seqTab = s.seqTab := rfl
@[simp] theorem State.outcome_cmdTab (s : State) (m : Master) (x : Nat) : (s.outcome m x).cmdTab = s.cmdTab := rfl
@[simp] theorem State.outcome_fecs (s : State) (m : Master) (x : Nat) : (s.outcome m x).fecs = s.fecs := rfl
@[simp] theorem State.outcome_lineAt (s : State) (m : Master) (x : Nat) : (s.outcome m x).lineAt = s.lineAt := rfl
@[simp] theorem State.outcome_buses (s : State) (m : Master) (x : Nat) : (s.outcome m x).buses = s.buses := rfl
@[simp] theorem State.outcome_satAt (s : State) (m : Master) (x : Nat) : (s.outcome m x).satAt = s.satAt := rfl
@[simp] theorem State.outcome_divs (s : State) (m : Master) (x : Nat) : (s.outcome m x).divs = s.divs := rfl
@[simp] theorem State.outcome_tb (s : State) (m : Master) (x : Nat) : (s.outcome m x).tb = s.tb := rfl
@[simp] theorem State.outcome_pwtStepAt (s : State) (m : Master) (x : Nat) : (s.outcome m x).pwtStepAt = s.pwtStepAt := rfl
@[simp] theorem State.outcome_txenAt (s : State) (m : Master) (x : Nat) : (s.outcome m x).txenAt = s.txenAt := rfl
@[simp] theorem State.outcome_pwtWord (s : State) (m : Master) (x : Nat) : (s.outcome m x).pwtWord = s.pwtWord := rfl
@[simp] theorem State.outcome_pwtCode (s : State) (m : Master) (x : Nat) : (s.outcome m x).pwtCode = s.pwtCode := rfl
@[simp] theorem State.outcome_pwtAt (s : State) (m : Master) (x : Nat) : (s.outcome m x).pwtAt = s.pwtAt := rfl
@[simp] theorem State.outcome_tansy (s : State) (m : Master) (x : Nat) : (s.outcome m x).tansy = s.tansy := rfl
@[simp] theorem State.outcome_gov (s : State) (m : Master) (x : Nat) : (s.outcome m x).gov = s.gov := rfl
@[simp] theorem State.outcome_loops (s : State) (m : Master) (x : Nat) : (s.outcome m x).loops = s.loops := rfl
@[simp] theorem State.outcome_mat (s : State) (m : Master) (x : Nat) : (s.outcome m x).mat = s.mat := rfl
@[simp] theorem State.outcome_clv (s : State) (m : Master) (x : Nat) : (s.outcome m x).clv = s.clv := rfl
@[simp] theorem State.outcome_maskSeen (s : State) (m : Master) (x : Nat) : (s.outcome m x).maskSeen = s.maskSeen := rfl
@[simp] theorem State.outcome_lnk (s : State) (m : Master) (x : Nat) : (s.outcome m x).lnk = s.lnk := rfl
@[simp] theorem State.outcome_exps (s : State) (m : Master) (x : Nat) : (s.outcome m x).exps = s.exps := rfl
@[simp] theorem State.outcome_cnv (s : State) (m : Master) (x : Nat) : (s.outcome m x).cnv = s.cnv := rfl
@[simp] theorem State.outcome_thm (s : State) (m : Master) (x : Nat) : (s.outcome m x).thm = s.thm := rfl
@[simp] theorem State.get_with_pending (s : State) (x : List Instr) (g : Fld) : ({ s with pending := x } : State).get g = s.get g := rfl
@[simp] theorem State.get_with_now (s : State) (x : Nat) (g : Fld) : ({ s with now := x } : State).get g = s.get g := rfl
@[simp] theorem State.get_with_fresh (s : State) (x : Nat) (g : Fld) : ({ s with fresh := x } : State).get g = s.get g := rfl
@[simp] theorem State.get_with_out (s : State) (x : List Word) (g : Fld) : ({ s with out := x } : State).get g = s.get g := rfl
@[simp] theorem State.get_with_board (s : State) (x : Board) (g : Fld) : ({ s with board := x } : State).get g = s.get g := rfl
@[simp] theorem State.get_with_straps (s : State) (x : Straps) (g : Fld) : ({ s with straps := x } : State).get g = s.get g := rfl
@[simp] theorem State.get_with_rst (s : State) (x : Rst) (g : Fld) : ({ s with rst := x } : State).get g = s.get g := rfl
@[simp] theorem State.get_with_aon (s : State) (x : Aon) (g : Fld) : ({ s with aon := x } : State).get g = s.get g := rfl
@[simp] theorem State.get_with_rails (s : State) (x : Tab Rail) (g : Fld) : ({ s with rails := x } : State).get g = s.get g := rfl
@[simp] theorem State.get_with_needReq (s : State) (x : List Nat) (g : Fld) : ({ s with needReq := x } : State).get g = s.get g := rfl
@[simp] theorem State.get_with_prof (s : State) (x : Prof) (g : Fld) : ({ s with prof := x } : State).get g = s.get g := rfl
@[simp] theorem State.get_with_chanDown (s : State) (x : List Nat) (g : Fld) : ({ s with chanDown := x } : State).get g = s.get g := rfl
@[simp] theorem State.get_with_chanUp (s : State) (x : List Nat) (g : Fld) : ({ s with chanUp := x } : State).get g = s.get g := rfl
@[simp] theorem State.get_with_tr (s : State) (x : Option PwrTr) (g : Fld) : ({ s with tr := x } : State).get g = s.get g := rfl
@[simp] theorem State.get_with_own (s : State) (x : Own) (g : Fld) : ({ s with own := x } : State).get g = s.get g := rfl
@[simp] theorem State.get_with_ports (s : State) (x : Ports) (g : Fld) : ({ s with ports := x } : State).get g = s.get g := rfl
@[simp] theorem State.get_with_evt (s : State) (x : Evt) (g : Fld) : ({ s with evt := x } : State).get g = s.get g := rfl
@[simp] theorem State.get_with_flt (s : State) (x : Flt) (g : Fld) : ({ s with flt := x } : State).get g = s.get g := rfl
@[simp] theorem State.get_with_active (s : State) (x : List Nat) (g : Fld) : ({ s with active := x } : State).get g = s.get g := rfl
@[simp] theorem State.get_with_slots (s : State) (x : Tab Slot) (g : Fld) : ({ s with slots := x } : State).get g = s.get g := rfl
@[simp] theorem State.get_with_live (s : State) (x : Tab Live) (g : Fld) : ({ s with live := x } : State).get g = s.get g := rfl
@[simp] theorem State.get_with_snap (s : State) (x : Tab Snap) (g : Fld) : ({ s with snap := x } : State).get g = s.get g := rfl
@[simp] theorem State.get_with_bias (s : State) (x : Tab BiasCh) (g : Fld) : ({ s with bias := x } : State).get g = s.get g := rfl
@[simp] theorem State.get_with_biasOk (s : State) (x : Bool) (g : Fld) : ({ s with biasOk := x } : State).get g = s.get g := rfl
@[simp] theorem State.get_with_iced (s : State) (x : Bool) (g : Fld) : ({ s with iced := x } : State).get g = s.get g := rfl
@[simp] theorem State.get_with_trapHold (s : State) (x : Bool) (g : Fld) : ({ s with trapHold := x } : State).get g = s.get g := rfl
@[simp] theorem State.get_with_nmi (s : State) (x : Nat) (g : Fld) : ({ s with nmi := x } : State).get g = s.get g := rfl
@[simp] theorem State.get_with_lockSig (s : State) (x : Bool) (g : Fld) : ({ s with lockSig := x } : State).get g = s.get g := rfl
@[simp] theorem State.get_with_copies (s : State) (x : Tab Nat) (g : Fld) : ({ s with copies := x } : State).get g = s.get g := rfl
@[simp] theorem State.get_with_lockSame (s : State) (x : Bool) (g : Fld) : ({ s with lockSame := x } : State).get g = s.get g := rfl
@[simp] theorem State.get_with_lockCmpAt (s : State) (x : Nat) (g : Fld) : ({ s with lockCmpAt := x } : State).get g = s.get g := rfl
@[simp] theorem State.get_with_mon (s : State) (x : Mon) (g : Fld) : ({ s with mon := x } : State).get g = s.get g := rfl
@[simp] theorem State.get_with_otp (s : State) (x : Otp) (g : Fld) : ({ s with otp := x } : State).get g = s.get g := rfl
@[simp] theorem State.get_with_nvm (s : State) (x : Nvm) (g : Fld) : ({ s with nvm := x } : State).get g = s.get g := rfl
@[simp] theorem State.get_with_pwt (s : State) (x : Tab Nat) (g : Fld) : ({ s with pwt := x } : State).get g = s.get g := rfl
@[simp] theorem State.get_with_pwtProf (s : State) (x : Tab Nat) (g : Fld) : ({ s with pwtProf := x } : State).get g = s.get g := rfl
@[simp] theorem State.get_with_canS (s : State) (x : Tab CanSlot) (g : Fld) : ({ s with canS := x } : State).get g = s.get g := rfl
@[simp] theorem State.get_with_can (s : State) (x : Can) (g : Fld) : ({ s with can := x } : State).get g = s.get g := rfl
@[simp] theorem State.get_with_fir (s : State) (x : Tab Nat) (g : Fld) : ({ s with fir := x } : State).get g = s.get g := rfl
@[simp] theorem State.get_with_pats (s : State) (x : Tab Pat) (g : Fld) : ({ s with pats := x } : State).get g = s.get g := rfl
@[simp] theorem State.get_with_patEdge (s : State) (x : Tab Nat) (g : Fld) : ({ s with patEdge := x } : State).get g = s.get g := rfl
@[simp] theorem State.get_with_obsLive (s : State) (x : Tab (List Nat)) (g : Fld) : ({ s with obsLive := x } : State).get g = s.get g := rfl
@[simp] theorem State.get_with_seqTab (s : State) (x : Tab Nat) (g : Fld) : ({ s with seqTab := x } : State).get g = s.get g := rfl
@[simp] theorem State.get_with_cmdTab (s : State) (x : Tab Nat) (g : Fld) : ({ s with cmdTab := x } : State).get g = s.get g := rfl
@[simp] theorem State.get_with_fecs (s : State) (x : Tab Fec) (g : Fld) : ({ s with fecs := x } : State).get g = s.get g := rfl
@[simp] theorem State.get_with_lineAt (s : State) (x : Tab Nat) (g : Fld) : ({ s with lineAt := x } : State).get g = s.get g := rfl
@[simp] theorem State.get_with_buses (s : State) (x : Tab Bus) (g : Fld) : ({ s with buses := x } : State).get g = s.get g := rfl
@[simp] theorem State.get_with_satAt (s : State) (x : Tab Nat) (g : Fld) : ({ s with satAt := x } : State).get g = s.get g := rfl
@[simp] theorem State.get_with_divs (s : State) (x : Tab DivSt) (g : Fld) : ({ s with divs := x } : State).get g = s.get g := rfl
@[simp] theorem State.get_with_tb (s : State) (x : Tb) (g : Fld) : ({ s with tb := x } : State).get g = s.get g := rfl
@[simp] theorem State.get_with_pwtStepAt (s : State) (x : Tab Nat) (g : Fld) : ({ s with pwtStepAt := x } : State).get g = s.get g := rfl
@[simp] theorem State.get_with_txenAt (s : State) (x : Tab Nat) (g : Fld) : ({ s with txenAt := x } : State).get g = s.get g := rfl
@[simp] theorem State.get_with_pwtWord (s : State) (x : Tab Nat) (g : Fld) : ({ s with pwtWord := x } : State).get g = s.get g := rfl
@[simp] theorem State.get_with_pwtCode (s : State) (x : Tab Nat) (g : Fld) : ({ s with pwtCode := x } : State).get g = s.get g := rfl
@[simp] theorem State.get_with_pwtAt (s : State) (x : Tab Nat) (g : Fld) : ({ s with pwtAt := x } : State).get g = s.get g := rfl
@[simp] theorem State.get_with_tansy (s : State) (x : Tansy) (g : Fld) : ({ s with tansy := x } : State).get g = s.get g := rfl
@[simp] theorem State.get_with_gov (s : State) (x : Tab Gov) (g : Fld) : ({ s with gov := x } : State).get g = s.get g := rfl
@[simp] theorem State.get_with_loops (s : State) (x : Tab Loop) (g : Fld) : ({ s with loops := x } : State).get g = s.get g := rfl
@[simp] theorem State.get_with_mat (s : State) (x : Tab Nat) (g : Fld) : ({ s with mat := x } : State).get g = s.get g := rfl
@[simp] theorem State.get_with_clv (s : State) (x : Clv) (g : Fld) : ({ s with clv := x } : State).get g = s.get g := rfl
@[simp] theorem State.get_with_maskSeen (s : State) (x : Tab Nat) (g : Fld) : ({ s with maskSeen := x } : State).get g = s.get g := rfl
@[simp] theorem State.get_with_lnk (s : State) (x : Lnk) (g : Fld) : ({ s with lnk := x } : State).get g = s.get g := rfl
@[simp] theorem State.get_with_exps (s : State) (x : Tab Exp) (g : Fld) : ({ s with exps := x } : State).get g = s.get g := rfl
@[simp] theorem State.get_with_cnv (s : State) (x : Tab Cnv) (g : Fld) : ({ s with cnv := x } : State).get g = s.get g := rfl
@[simp] theorem State.get_with_thm (s : State) (x : Thm) (g : Fld) : ({ s with thm := x } : State).get g = s.get g := rfl

end Sys2Proof.Machine
end

