-- ==== Sys2Proof/Laws/Ops.lean ====
section
/-! SUPPORT. What the shared operations can do, said once: what the fabric makes of a write and of a read, when a source fires,
and what firing, holding and settling leave alone. -/
namespace Sys2Proof.Machine
open Sys2Proof

/-! Writes and reads through the fabric -/

/-- The fabric takes a write exactly where the master has access and rights, the page is on, and the values are legal. -/
theorem judge_take_iff (s : State) (m : Master) (a : Nat) (v : Word) (fs : List Fld) (ok : Bool) :
    s.judge m a v fs ok = .take ↔ s.canAccess m = true ∧ pageOf a ≠ 0x2F ∧ s.mayWrite m a v = true ∧
      (0x10 ≤ a % 0x1000 → s.pageOff (pageOf a) = false) ∧ listed fs v = true ∧ ok = true := by
  unfold State.judge
  by_cases h1 : s.canAccess m <;> by_cases h2 : pageOf a = 0x2F <;> by_cases h3 : s.mayWrite m a v <;>
    by_cases h5 : s.pageOff (pageOf a) <;> by_cases h6 : listed fs v <;> cases ok <;> simp [h1, h2, h3, h5, h6] <;>
    split <;> simp_all

/-- Where nothing is due in the ownership of the part, nothing comes before an access. -/
theorem ownDue_calm {s : State} (h : s.ownCalm = true) : s.ownDue = s := by
  simp only [State.ownCalm, Bool.and_eq_true, Bool.not_eq_true'] at h
  unfold State.ownDue
  rw [h.1.2]
  simp [h]

/-- A write by a master who has no access changes nothing more than what is due, and one to page 0x2F is the port's last write alone. -/
theorem guardedBy_silent {s : State} {m : Master} {a : Nat} {v : Word} {fs : List Fld} {ok : Bool} (f : State → State)
    (h : s.ownDue.judge m a v fs ok = .silent) :
    s.guardedBy m a v fs ok f = if s.ownDue.canAccess m then s.ownDue.outcome m 0 else s.ownDue := by
  unfold State.guardedBy
  generalize s.ownDue = t at h ⊢
  simp only [h]

/-- A write without rights is counted and raises NONOWNER_WR. -/
theorem guardedBy_rights {s : State} {m : Master} {a : Nat} {v : Word} {fs : List Fld} {ok : Bool} (f : State → State)
    (h : s.ownDue.judge m a v fs ok = .rights) : s.guardedBy m a v fs ok f = (s.ownDue.dropWrite m (pageOf a)).settle := by
  unfold State.guardedBy
  generalize s.ownDue = t at h ⊢
  simp only [h]

/-- A write to a page that is off is dropped with ACCESS_OFF. -/
theorem guardedBy_off {s : State} {m : Master} {a : Nat} {v : Word} {fs : List Fld} {ok : Bool} (f : State → State)
    (h : s.ownDue.judge m a v fs ok = .off) :
    s.guardedBy m a v fs ok f = (((s.ownDue.outcome m 2).breakKey m a).accNotice m a 2).settle := by
  unfold State.guardedBy
  generalize s.ownDue = t at h ⊢
  simp only [h]

/-- A write of a reserved value is dropped with ACCESS_VALUE. -/
theorem guardedBy_value {s : State} {m : Master} {a : Nat} {v : Word} {fs : List Fld} {ok : Bool} (f : State → State)
    (h : s.ownDue.judge m a v fs ok = .value) :
    s.guardedBy m a v fs ok f = (((s.ownDue.outcome m 4).breakKey m a).accNotice m a 1).settle := by
  unfold State.guardedBy
  generalize s.ownDue = t at h ⊢
  simp only [h]

/-- A write that is taken has its effect. -/
theorem guardedBy_take {s : State} {m : Master} {a : Nat} {v : Word} {fs : List Fld} {ok : Bool} (f : State → State)
    (h : s.ownDue.judge m a v fs ok = .take) : s.guardedBy m a v fs ok f = f ((s.ownDue.outcome m 0).breakKey m a) := by
  unfold State.guardedBy
  generalize s.ownDue = t at h ⊢
  simp only [h]

/-- A read of a page that is on returns the word, with the read's side effects for the owner and the delegate. -/
theorem readBy_on {s : State} {m : Master} {a : Nat} (word : State → Nat) (eff : State → State) (h : s.ownCalm = true)
    (h1 : s.canAccess m = true) (h2 : pageOf a ≠ 0x2F) (h3 : s.pageOff (pageOf a) = false) :
    s.readBy m a word eff = (if s.readsWithEffect m (pageOf a) then eff s else s).reply (word s) := by
  simp [State.readBy, ownDue_calm h, h1, h2, h3]

/-! Sources -/

/-- An occurrence on a page that is off has no effect. -/
theorem fire_off {s : State} {p b : Nat} (w : Why) (h : s.canFire p b = false) : s.fire p b w = s := by simp [State.fire, State.marks, h]

/-- A shadowed occurrence is counted and recorded alone. -/
theorem fire_shadowed {s : State} {p b : Nat} (w : Why) (h : s.canFire p b = true) (hs : s.shadowed p b = true) :
    s.fire p b w = (s.count FLT.SHADOW.COUNT 1).log (s.srcRec p b 0 true w) := by simp [State.fire, State.marks, h, hs]

/-- An occurrence whose status bit is still set is recorded alone. -/
theorem fire_gated {s : State} {p b : Nat} (w : Why) (h : s.canFire p b = true) (hs : s.shadowed p b = false) (hg : s.gated p b = true) :
    s.fire p b w = s.log (s.srcRec p b 0 false w) := by simp [State.fire, State.marks, h, hs, hg]

/-- A masked source that fires sets its bits and is recorded, without a reaction but for what its class alone brings. -/
theorem fire_masked {s : State} {p b : Nat} (w : Why) (h : s.canFire p b = true) (hs : s.shadowed p b = false) (hg : s.gated p b = false)
    (hm : s.masked p b = true) :
    s.fire p b w = ((((s.status p b).updFirst p).log (((s.status p b).updFirst p).srcRec p b 0 false w)).reactions p b 0 (s.srcCls p b)
      w.forced).termPermit := by
  simp [State.fire, State.marks, h, hs, hg, hm]

/-- A condition that already holds begins nothing. -/
theorem condBegin_holds {s : State} {p b : Nat} (w : Why) (h : s.holds p b = true) : s.condBegin p b w = s := by
  simp [State.condBegin, h]

/-- The permit line stands where it agrees with its conditions. -/
theorem updPermit_granted {s : State} (h : s.flag GOV.PERMIT.PERMIT = true) (hf : s.permitFails = none) : s.updPermit = s := by
  simp [State.updPermit, h, hf]
theorem updPermit_withheld {s : State} {c : Nat} (h : s.flag GOV.PERMIT.PERMIT = false) (hf : s.permitFails = some c) :
    s.updPermit = s := by simp [State.updPermit, h, hf]

/-! What the operations leave alone: one script for every operation, so a step that one of them does not need is not reported -/

set_option linter.unreachableTactic false
set_option linter.unusedTactic false
set_option linter.unnecessarySeqFocus false

/-- A fold of an operation that keeps a projection keeps it. -/
theorem foldl_keeps {α β γ : Type} (P : β → γ) (f : β → α → β) (h : ∀ b a, P (f b a) = P b) (l : List α) (b : β) :
    P (l.foldl f b) = P b := by
  induction l generalizing b with
  | nil => rfl
  | cons a l ih => simp [List.foldl, ih, h]

@[simp] theorem State.put_pending (s : State) (f : Fld) (b : Bool) : (s.put f b).pending = s.pending := rfl
@[simp] theorem State.putBit_pending (s : State) (f : Fld) (i : Nat) (b : Bool) : (s.putBit f i b).pending = s.pending := rfl
@[simp] theorem State.count_pending (s : State) (f : Fld) (n : Nat) : (s.count f n).pending = s.pending := rfl
@[simp] theorem State.wrap_pending (s : State) (f : Fld) : (s.wrap f).pending = s.pending := rfl
@[simp] theorem State.silence_pending (s : State) (i : Nat) : (s.silence i).pending = s.pending := by
  unfold State.silence
  (try dsimp only)
  (repeat' split) <;> (first | rfl | simp)
@[simp] theorem State.cut_pending (s : State) (i : Nat) : (s.cut i).pending = s.pending := rfl
@[simp] theorem State.fade_pending (s : State) (i t : Nat) : (s.fade i t).pending = s.pending := rfl
@[simp] theorem State.fadeOut_pending (s : State) (i t : Nat) : (s.fadeOut i t).pending = s.pending := by
  unfold State.fadeOut
  (try dsimp only)
  (repeat' split) <;> (first | rfl | simp)
@[simp] theorem State.weigh_pending (s : State) (i w : Nat) : (s.weigh i w).pending = s.pending := rfl
@[simp] theorem State.holdAt_pending (s : State) (b i t : Nat) : (s.holdAt b i t).pending = s.pending := by
  unfold State.holdAt
  (try dsimp only)
  (repeat' split) <;> (first | rfl | simp)
@[simp] theorem State.hold_pending (s : State) (b i : Nat) : (s.hold b i).pending = s.pending := by
  unfold State.hold
  simp
@[simp] theorem State.unhold_pending (s : State) (b i : Nat) : (s.unhold b i).pending = s.pending := by
  unfold State.unhold
  (try dsimp only)
  (repeat' split) <;> (first | rfl | simp)
@[simp] theorem State.holdAll_pending (s : State) (b : Nat) (on : Bool) : (s.holdAll b on).pending = s.pending := by
  unfold State.holdAll
  exact foldl_keeps (fun s : State => s.pending) _ (fun s i => by (try dsimp only); (repeat' split) <;> (first | rfl | simp)) _ _
@[simp] theorem State.cutRamps_pending (s : State) : (s.cutRamps).pending = s.pending := by
  unfold State.cutRamps
  exact foldl_keeps (fun s : State => s.pending) _ (fun s i => by (try dsimp only); (repeat' split) <;> (first | rfl | simp)) _ _
@[simp] theorem State.syncGate_pending (s : State) : (s.syncGate).pending = s.pending := by
  unfold State.syncGate
  (try dsimp only)
  (repeat' split) <;> (first | rfl | simp)
@[simp] theorem State.txOff_pending (s : State) : (s.txOff).pending = s.pending := by
  unfold State.txOff
  rw [State.cutRamps_pending]
  exact foldl_keeps (fun s : State => s.pending) _ (fun s i => by (try dsimp only); split <;> (first | rfl | simp)) _ _
@[simp] theorem State.enter_pending (s : State) (r : Rec) : (s.enter r).pending = s.pending := by
  unfold State.enter
  (try dsimp only)
  (repeat' split) <;> (first | rfl | simp)
@[simp] theorem State.startFlush_pending (s : State) : (s.startFlush).pending = s.pending := by
  unfold State.startFlush
  (try dsimp only)
  (repeat' split) <;> (first | rfl | simp)
@[simp] theorem State.place_pending (s : State) (r : Rec) : (s.place r).1.pending = s.pending := by
  unfold State.place
  (try dsimp only)
  (repeat' split) <;> (first | rfl | simp)
@[simp] theorem State.refilled_pending (s : State) (c : Nat) : (s.refilled c).pending = s.pending := rfl
@[simp] theorem State.record_pending (s : State) (r : Rec) : (s.record r).1.pending = s.pending := by
  unfold State.record
  (try dsimp only)
  (repeat' split) <;> (first | rfl | simp)
@[simp] theorem State.note_pending (s : State) (r : Rec) : (s.note r).1.pending = s.pending := by
  unfold State.note
  (try dsimp only)
  split <;> simp
@[simp] theorem State.setCode_pending (s : State) (c v : Nat) : (s.setCode c v).pending = s.pending := by
  unfold State.setCode
  (try dsimp only)
  (repeat' split) <;> (first | rfl | simp)
@[simp] theorem State.startMove_pending (s : State) (c : Nat) : (s.startMove c).pending = s.pending := by
  unfold State.startMove
  (try dsimp only)
  (repeat' split) <;> (first | rfl | simp)
@[simp] theorem State.retargetNow_pending (s : State) (c : Nat) : (s.retargetNow c).pending = s.pending := by
  unfold State.retargetNow
  (try dsimp only)
  (repeat' split) <;> (first | rfl | simp)
@[simp] theorem State.enterSafe_pending (s : State) (c : Nat) : (s.enterSafe c).pending = s.pending := by
  unfold State.enterSafe
  (try dsimp only)
  (repeat' split) <;> (first | rfl | simp)
@[simp] theorem State.biasSafe_pending (s : State) : (s.biasSafe).pending = s.pending := by
  unfold State.biasSafe
  exact foldl_keeps (fun s : State => s.pending) _ (fun s i => by (try dsimp only); (repeat' split) <;> (first | rfl | simp)) _ _
@[simp] theorem State.clearFlds_pending (s : State) (fs : List Fld) : (s.clearFlds fs).pending = s.pending := by
  unfold State.clearFlds
  exact foldl_keeps (fun s : State => s.pending) _ (fun s i => by (try dsimp only); (repeat' split) <;> (first | rfl | simp)) _ _
@[simp] theorem State.restartObs_pending (s : State) (i : Nat) : (s.restartObs i).pending = s.pending := by
  unfold State.restartObs
  simp
@[simp] theorem State.restartSlot_pending (s : State) (i : Nat) : (s.restartSlot i).pending = s.pending := by
  unfold State.restartSlot
  simp only [State.set_pending]
  split <;> simp
@[simp] theorem State.restartCluster_pending (s : State) (k : Nat) : (s.restartCluster k).pending = s.pending := rfl
@[simp] theorem State.restartCan_pending (s : State) : (s.restartCan).pending = s.pending := by
  unfold State.restartCan
  exact foldl_keeps (fun s : State => s.pending) _ (fun s i => by first | rfl | simp) _ _
@[simp] theorem State.restartClover_pending (s : State) : (s.restartClover).pending = s.pending := by
  unfold State.restartClover
  simp
@[simp] theorem State.restartCap_pending (s : State) : (s.restartCap).pending = s.pending := by
  unfold State.restartCap
  simp
@[simp] theorem State.restartFec_pending (s : State) (k : Nat) : (s.restartFec k).pending = s.pending := by
  unfold State.restartFec
  simp
@[simp] theorem State.restartTdd_pending (s : State) : (s.restartTdd).pending = s.pending := by
  unfold State.restartTdd
  exact foldl_keeps (fun s : State => s.pending) _ (fun s i => by first | rfl | simp) _ _
@[simp] theorem State.restartPwt_pending (s : State) : (s.restartPwt).pending = s.pending := by
  unfold State.restartPwt
  simp
@[simp] theorem State.restartLnk_pending (s : State) : (s.restartLnk).pending = s.pending := by
  unfold State.restartLnk
  simp only [State.clearFlds_pending]
  exact (foldl_keeps (fun s : State => s.pending) _ (fun s i => by first | rfl | simp) _ _).trans (State.clearFlds_pending _ _)
@[simp] theorem State.restartBias_pending (s : State) (h : Nat) : (s.restartBias h).pending = s.pending := by
  unfold State.restartBias
  exact foldl_keeps (fun s : State => s.pending) _ (fun s i => by (try dsimp only); (repeat' split) <;> (first | rfl | simp)) _ _
@[simp] theorem State.restartSyn_pending (s : State) : (s.restartSyn).pending = s.pending := by
  unfold State.restartSyn
  exact foldl_keeps (fun s : State => s.pending) _ (fun s i => by (try dsimp only); (repeat' split) <;> (first | rfl | simp)) _ _
@[simp] theorem State.dropImage_pending (s : State) : (s.dropImage).pending = s.pending := rfl
@[simp] theorem State.dropLoad_pending (s : State) : (s.dropLoad).pending = s.pending := by
  simp [State.dropLoad, apply_ite State.pending]
@[simp] theorem State.mbxOver_pending (s : State) (r : Nat) : (s.mbxOver r).pending = s.pending := rfl
@[simp] theorem State.restartProf_pending (s : State) : (s.restartProf).pending = s.pending := rfl
@[simp] theorem State.restartPwr_pending (s : State) : (s.restartPwr).pending = s.pending := rfl
@[simp] theorem State.restartNvm_pending (s : State) : (s.restartNvm).pending = s.pending := by
  simp [State.restartNvm, apply_ite State.pending]
@[simp] theorem State.restartSec_pending (s : State) : (s.restartSec).pending = s.pending := by
  simp [State.restartSec, apply_ite State.pending]
@[simp] theorem State.restartCores_pending (s : State) : (s.restartCores).pending = s.pending := by
  simp [State.restartCores, apply_ite State.pending]
@[simp] theorem State.restartPci_pending (s : State) : (s.restartPci).pending = s.pending := by
  simp [State.restartPci, apply_ite State.pending]
@[simp] theorem State.badFrom_pending (s : State) (p : Nat) : (s.badFrom p).pending = s.pending := by
  unfold State.badFrom
  exact foldl_keeps (fun s : State => s.pending) _ (fun s i => by rfl) _ _
@[simp] theorem State.restart_pending (s : State) (p : Nat) : (s.restart p).pending = s.pending := by
  have h1 : ∀ (l : List Nat) (t : State), (l.foldl (fun s i => s.restartSlot i) t).pending = t.pending :=
    fun l t => foldl_keeps (fun s : State => s.pending) _ (fun s i => by simp) l t
  have h2 : ∀ (l : List Nat) (t : State), (l.foldl (fun s i => s.restartObs i) t).pending = t.pending :=
    fun l t => foldl_keeps (fun s : State => s.pending) _ (fun s i => by simp) l t
  unfold State.restart
  simp only [apply_ite State.pending, h1, h2, State.badFrom_pending, State.restartProf_pending, State.restartPwr_pending, State.restartNvm_pending, State.restartSec_pending, State.restartCores_pending, State.restartPci_pending, State.restartBias_pending, State.restartSyn_pending, State.restartTdd_pending, State.restartCan_pending, State.restartClover_pending, State.restartCap_pending, State.restartFec_pending, State.restartPwt_pending, State.restartLnk_pending, State.restartCluster_pending, State.clearFlds_pending, ite_self]
@[simp] theorem State.holdCores_pending (s : State) : (s.holdCores).pending = s.pending := rfl
@[simp] theorem State.markCause_pending (s : State) (c : Cause) : (s.markCause c).pending = s.pending := by
  cases c <;> simp [State.markCause]
@[simp] theorem State.chipReset_pending (s : State) (c : Cause) : (s.chipReset c).pending = s.pending := by
  unfold State.chipReset
  (try dsimp only)
  (repeat' split) <;> (first | rfl | simp)
@[simp] theorem State.faultReset_pending (s : State) (p : Nat) : (s.faultReset p).pending = s.pending := by
  unfold State.faultReset
  (try dsimp only)
  (repeat' split) <;> (first | rfl | simp)
@[simp] theorem State.reactChip_pending (s : State) (p : Nat) (trip : Bool) : (s.reactChip p trip).pending = s.pending := by
  unfold State.reactChip
  (try dsimp only)
  (repeat' split) <;> (first | rfl | simp)
@[simp] theorem State.blockReset_pending (s : State) (p : Nat) : (s.blockReset p).pending = s.pending := by
  unfold State.blockReset
  (try dsimp only)
  (repeat' split) <;> (first | rfl | simp)
@[simp] theorem State.trap_pending (s : State) (p b : Nat) : (s.trap p b).pending = s.pending := by
  unfold State.trap
  (try dsimp only)
  (repeat' split) <;> (first | rfl | simp)
@[simp] theorem State.trapAll_pending (s : State) (p b : Nat) : (s.trapAll p b).pending = s.pending := by
  unfold State.trapAll
  simp
@[simp] theorem State.latchTerminal_pending (s : State) (p b : Nat) (forced : Bool) : (s.latchTerminal p b forced).pending = s.pending := by
  unfold State.latchTerminal
  (try dsimp only)
  (repeat' split) <;> (first | rfl | simp)
@[simp] theorem State.status_pending (s : State) (p b : Nat) : (s.status p b).pending = s.pending := by
  unfold State.status
  (try dsimp only)
  (repeat' split) <;> (first | rfl | simp)
@[simp] theorem State.updFirst_pending (s : State) (p : Nat) : (s.updFirst p).pending = s.pending := by
  unfold State.updFirst
  (try dsimp only)
  (repeat' split) <;> (first | rfl | simp)
@[simp] theorem State.softReact_pending (s : State) (p b r cls : Nat) (forced : Bool) : (s.softReact p b r cls forced).pending = s.pending := by
  unfold State.softReact
  (try dsimp only)
  (repeat' split) <;> (first | rfl | simp)
@[simp] theorem State.hardReact_pending (s : State) (p : Nat) (l : List (Nat × Nat)) : (s.hardReact p l).pending = s.pending := by
  unfold State.hardReact
  (try dsimp only)
  (repeat' split) <;> (first | rfl | simp)
@[simp] theorem State.reactions_pending (s : State) (p b r cls : Nat) (forced : Bool) : (s.reactions p b r cls forced).pending = s.pending := by
  unfold State.reactions
  simp
theorem State.marks_pending (s : State) (log : State → Rec → State) (hl : ∀ t r, (log t r).pending = t.pending) (p b : Nat) (w : Why) :
    (s.marks log p b w).1.pending = s.pending := by
  unfold State.marks
  (try dsimp only)
  (repeat' split) <;> simp [hl]
theorem State.occurs_pending (s : State) (log : State → Rec → State) (hl : ∀ t r, (log t r).pending = t.pending) (p b : Nat) (w : Why) :
    (s.occurs log p b w).pending = s.pending := by
  unfold State.occurs
  (try dsimp only)
  split <;> simp [State.marks_pending s log hl]
@[simp] theorem State.log_pending (s : State) (r : Rec) : (s.log r).pending = s.pending := by
  unfold State.log
  (try dsimp only)
  split
  · exact (State.occurs_pending _ _ (fun t r => State.note_pending t r) _ _ _).trans (State.note_pending s r)
  · exact State.note_pending s r
@[simp] theorem State.termPermit_pending (s : State) : (s.termPermit).pending = s.pending := by
  unfold State.termPermit
  split
  · exact (State.occurs_pending _ State.log State.log_pending _ _ _).trans (by simp)
  · rfl
@[simp] theorem State.fire_pending (s : State) (p b : Nat) (w : Why) : (s.fire p b w).pending = s.pending := by
  unfold State.fire
  (try dsimp only)
  split <;> simp [State.marks_pending s State.log State.log_pending]
@[simp] theorem State.condBegin_pending (s : State) (p b : Nat) (w : Why) : (s.condBegin p b w).pending = s.pending := by
  unfold State.condBegin
  (try dsimp only)
  (repeat' split) <;> (first | rfl | simp)
@[simp] theorem State.condEnd_pending (s : State) (p b : Nat) : (s.condEnd p b).pending = s.pending := rfl
@[simp] theorem State.updPermit_pending (s : State) : (s.updPermit).pending = s.pending := by
  unfold State.updPermit
  (try dsimp only)
  (repeat' split) <;> (first | rfl | simp)
@[simp] theorem State.follow_pending (s : State) (j b : Nat) (f : Nat → Bool) : (s.follow j b f).pending = s.pending := by
  unfold State.follow
  (try dsimp only)
  (repeat' split) <;> (first | rfl | simp)
@[simp] theorem State.settle_pending (s : State) : (s.settle).pending = s.pending := by
  unfold State.settle
  exact foldl_keeps (fun s : State => s.pending) _ (fun s i => by (try dsimp only); (repeat' split) <;> (first | rfl | simp)) _ _
@[simp] theorem State.dropWrite_pending (s : State) (m : Master) (p : Nat) : (s.dropWrite m p).pending = s.pending := by
  unfold State.dropWrite
  (try dsimp only)
  (repeat' split) <;> (first | rfl | simp)
@[simp] theorem State.accNotice_pending (s : State) (m : Master) (a c : Nat) : (s.accNotice m a c).pending = s.pending := by
  unfold State.accNotice
  (try dsimp only)
  (repeat' split) <;> (first | rfl | simp)
@[simp] theorem State.breakKey_pending (s : State) (m : Master) (a : Nat) : (s.breakKey m a).pending = s.pending := by
  unfold State.breakKey
  (try dsimp only)
  (repeat' split) <;> (first | rfl | simp)

@[simp] theorem State.put_now (s : State) (f : Fld) (b : Bool) : (s.put f b).now = s.now := rfl
@[simp] theorem State.putBit_now (s : State) (f : Fld) (i : Nat) (b : Bool) : (s.putBit f i b).now = s.now := rfl
@[simp] theorem State.count_now (s : State) (f : Fld) (n : Nat) : (s.count f n).now = s.now := rfl
@[simp] theorem State.wrap_now (s : State) (f : Fld) : (s.wrap f).now = s.now := rfl
@[simp] theorem State.silence_now (s : State) (i : Nat) : (s.silence i).now = s.now := by
  unfold State.silence
  (try dsimp only)
  (repeat' split) <;> (first | rfl | simp)
@[simp] theorem State.cut_now (s : State) (i : Nat) : (s.cut i).now = s.now := rfl
@[simp] theorem State.fade_now (s : State) (i t : Nat) : (s.fade i t).now = s.now := rfl
@[simp] theorem State.fadeOut_now (s : State) (i t : Nat) : (s.fadeOut i t).now = s.now := by
  unfold State.fadeOut
  (try dsimp only)
  (repeat' split) <;> (first | rfl | simp)
@[simp] theorem State.weigh_now (s : State) (i w : Nat) : (s.weigh i w).now = s.now := rfl
@[simp] theorem State.holdAt_now (s : State) (b i t : Nat) : (s.holdAt b i t).now = s.now := by
  unfold State.holdAt
  (try dsimp only)
  (repeat' split) <;> (first | rfl | simp)
@[simp] theorem State.hold_now (s : State) (b i : Nat) : (s.hold b i).now = s.now := by
  unfold State.hold
  simp
@[simp] theorem State.unhold_now (s : State) (b i : Nat) : (s.unhold b i).now = s.now := by
  unfold State.unhold
  (try dsimp only)
  (repeat' split) <;> (first | rfl | simp)
@[simp] theorem State.holdAll_now (s : State) (b : Nat) (on : Bool) : (s.holdAll b on).now = s.now := by
  unfold State.holdAll
  exact foldl_keeps (fun s : State => s.now) _ (fun s i => by (try dsimp only); (repeat' split) <;> (first | rfl | simp)) _ _
@[simp] theorem State.cutRamps_now (s : State) : (s.cutRamps).now = s.now := by
  unfold State.cutRamps
  exact foldl_keeps (fun s : State => s.now) _ (fun s i => by (try dsimp only); (repeat' split) <;> (first | rfl | simp)) _ _
@[simp] theorem State.syncGate_now (s : State) : (s.syncGate).now = s.now := by
  unfold State.syncGate
  (try dsimp only)
  (repeat' split) <;> (first | rfl | simp)
@[simp] theorem State.txOff_now (s : State) : (s.txOff).now = s.now := by
  unfold State.txOff
  rw [State.cutRamps_now]
  exact foldl_keeps (fun s : State => s.now) _ (fun s i => by (try dsimp only); split <;> (first | rfl | simp)) _ _
@[simp] theorem State.enter_now (s : State) (r : Rec) : (s.enter r).now = s.now := by
  unfold State.enter
  (try dsimp only)
  (repeat' split) <;> (first | rfl | simp)
@[simp] theorem State.startFlush_now (s : State) : (s.startFlush).now = s.now := by
  unfold State.startFlush
  (try dsimp only)
  (repeat' split) <;> (first | rfl | simp)
@[simp] theorem State.place_now (s : State) (r : Rec) : (s.place r).1.now = s.now := by
  unfold State.place
  (try dsimp only)
  (repeat' split) <;> (first | rfl | simp)
@[simp] theorem State.refilled_now (s : State) (c : Nat) : (s.refilled c).now = s.now := rfl
@[simp] theorem State.record_now (s : State) (r : Rec) : (s.record r).1.now = s.now := by
  unfold State.record
  (try dsimp only)
  (repeat' split) <;> (first | rfl | simp)
@[simp] theorem State.note_now (s : State) (r : Rec) : (s.note r).1.now = s.now := by
  unfold State.note
  (try dsimp only)
  split <;> simp
@[simp] theorem State.setCode_now (s : State) (c v : Nat) : (s.setCode c v).now = s.now := by
  unfold State.setCode
  (try dsimp only)
  (repeat' split) <;> (first | rfl | simp)
@[simp] theorem State.startMove_now (s : State) (c : Nat) : (s.startMove c).now = s.now := by
  unfold State.startMove
  (try dsimp only)
  (repeat' split) <;> (first | rfl | simp)
@[simp] theorem State.retargetNow_now (s : State) (c : Nat) : (s.retargetNow c).now = s.now := by
  unfold State.retargetNow
  (try dsimp only)
  (repeat' split) <;> (first | rfl | simp)
@[simp] theorem State.enterSafe_now (s : State) (c : Nat) : (s.enterSafe c).now = s.now := by
  unfold State.enterSafe
  (try dsimp only)
  (repeat' split) <;> (first | rfl | simp)
@[simp] theorem State.biasSafe_now (s : State) : (s.biasSafe).now = s.now := by
  unfold State.biasSafe
  exact foldl_keeps (fun s : State => s.now) _ (fun s i => by (try dsimp only); (repeat' split) <;> (first | rfl | simp)) _ _
@[simp] theorem State.clearFlds_now (s : State) (fs : List Fld) : (s.clearFlds fs).now = s.now := by
  unfold State.clearFlds
  exact foldl_keeps (fun s : State => s.now) _ (fun s i => by (try dsimp only); (repeat' split) <;> (first | rfl | simp)) _ _
@[simp] theorem State.restartObs_now (s : State) (i : Nat) : (s.restartObs i).now = s.now := by
  unfold State.restartObs
  simp
@[simp] theorem State.restartSlot_now (s : State) (i : Nat) : (s.restartSlot i).now = s.now := by
  unfold State.restartSlot
  simp only [State.set_now]
  split <;> simp
@[simp] theorem State.restartCluster_now (s : State) (k : Nat) : (s.restartCluster k).now = s.now := rfl
@[simp] theorem State.restartCan_now (s : State) : (s.restartCan).now = s.now := by
  unfold State.restartCan
  exact foldl_keeps (fun s : State => s.now) _ (fun s i => by first | rfl | simp) _ _
@[simp] theorem State.restartClover_now (s : State) : (s.restartClover).now = s.now := by
  unfold State.restartClover
  simp
@[simp] theorem State.restartCap_now (s : State) : (s.restartCap).now = s.now := by
  unfold State.restartCap
  simp
@[simp] theorem State.restartFec_now (s : State) (k : Nat) : (s.restartFec k).now = s.now := by
  unfold State.restartFec
  simp
@[simp] theorem State.restartTdd_now (s : State) : (s.restartTdd).now = s.now := by
  unfold State.restartTdd
  exact foldl_keeps (fun s : State => s.now) _ (fun s i => by first | rfl | simp) _ _
@[simp] theorem State.restartPwt_now (s : State) : (s.restartPwt).now = s.now := by
  unfold State.restartPwt
  simp
@[simp] theorem State.restartLnk_now (s : State) : (s.restartLnk).now = s.now := by
  unfold State.restartLnk
  simp only [State.clearFlds_now]
  exact (foldl_keeps (fun s : State => s.now) _ (fun s i => by first | rfl | simp) _ _).trans (State.clearFlds_now _ _)
@[simp] theorem State.restartBias_now (s : State) (h : Nat) : (s.restartBias h).now = s.now := by
  unfold State.restartBias
  exact foldl_keeps (fun s : State => s.now) _ (fun s i => by (try dsimp only); (repeat' split) <;> (first | rfl | simp)) _ _
@[simp] theorem State.restartSyn_now (s : State) : (s.restartSyn).now = s.now := by
  unfold State.restartSyn
  exact foldl_keeps (fun s : State => s.now) _ (fun s i => by (try dsimp only); (repeat' split) <;> (first | rfl | simp)) _ _
@[simp] theorem State.dropImage_now (s : State) : (s.dropImage).now = s.now := rfl
@[simp] theorem State.dropLoad_now (s : State) : (s.dropLoad).now = s.now := by
  simp [State.dropLoad, apply_ite State.now]
@[simp] theorem State.mbxOver_now (s : State) (r : Nat) : (s.mbxOver r).now = s.now := rfl
@[simp] theorem State.restartProf_now (s : State) : (s.restartProf).now = s.now := rfl
@[simp] theorem State.restartPwr_now (s : State) : (s.restartPwr).now = s.now := rfl
@[simp] theorem State.restartNvm_now (s : State) : (s.restartNvm).now = s.now := by
  simp [State.restartNvm, apply_ite State.now]
@[simp] theorem State.restartSec_now (s : State) : (s.restartSec).now = s.now := by
  simp [State.restartSec, apply_ite State.now]
@[simp] theorem State.restartCores_now (s : State) : (s.restartCores).now = s.now := by
  simp [State.restartCores, apply_ite State.now]
@[simp] theorem State.restartPci_now (s : State) : (s.restartPci).now = s.now := by
  simp [State.restartPci, apply_ite State.now]
@[simp] theorem State.badFrom_now (s : State) (p : Nat) : (s.badFrom p).now = s.now := by
  unfold State.badFrom
  exact foldl_keeps (fun s : State => s.now) _ (fun s i => by rfl) _ _
@[simp] theorem State.restart_now (s : State) (p : Nat) : (s.restart p).now = s.now := by
  have h1 : ∀ (l : List Nat) (t : State), (l.foldl (fun s i => s.restartSlot i) t).now = t.now :=
    fun l t => foldl_keeps (fun s : State => s.now) _ (fun s i => by simp) l t
  have h2 : ∀ (l : List Nat) (t : State), (l.foldl (fun s i => s.restartObs i) t).now = t.now :=
    fun l t => foldl_keeps (fun s : State => s.now) _ (fun s i => by simp) l t
  unfold State.restart
  simp only [apply_ite State.now, h1, h2, State.badFrom_now, State.restartProf_now, State.restartPwr_now, State.restartNvm_now, State.restartSec_now, State.restartCores_now, State.restartPci_now, State.restartBias_now, State.restartSyn_now, State.restartTdd_now, State.restartCan_now, State.restartClover_now, State.restartCap_now, State.restartFec_now, State.restartPwt_now, State.restartLnk_now, State.restartCluster_now, State.clearFlds_now, ite_self]
@[simp] theorem State.holdCores_now (s : State) : (s.holdCores).now = s.now := rfl
@[simp] theorem State.markCause_now (s : State) (c : Cause) : (s.markCause c).now = s.now := by
  cases c <;> simp [State.markCause]
@[simp] theorem State.chipReset_now (s : State) (c : Cause) : (s.chipReset c).now = s.now := by
  unfold State.chipReset
  (try dsimp only)
  (repeat' split) <;> (first | rfl | simp)
@[simp] theorem State.faultReset_now (s : State) (p : Nat) : (s.faultReset p).now = s.now := by
  unfold State.faultReset
  (try dsimp only)
  (repeat' split) <;> (first | rfl | simp)
@[simp] theorem State.reactChip_now (s : State) (p : Nat) (trip : Bool) : (s.reactChip p trip).now = s.now := by
  unfold State.reactChip
  (try dsimp only)
  (repeat' split) <;> (first | rfl | simp)
@[simp] theorem State.blockReset_now (s : State) (p : Nat) : (s.blockReset p).now = s.now := by
  unfold State.blockReset
  (try dsimp only)
  (repeat' split) <;> (first | rfl | simp)
@[simp] theorem State.trap_now (s : State) (p b : Nat) : (s.trap p b).now = s.now := by
  unfold State.trap
  (try dsimp only)
  (repeat' split) <;> (first | rfl | simp)
@[simp] theorem State.trapAll_now (s : State) (p b : Nat) : (s.trapAll p b).now = s.now := by
  unfold State.trapAll
  simp
@[simp] theorem State.latchTerminal_now (s : State) (p b : Nat) (forced : Bool) : (s.latchTerminal p b forced).now = s.now := by
  unfold State.latchTerminal
  (try dsimp only)
  (repeat' split) <;> (first | rfl | simp)
@[simp] theorem State.status_now (s : State) (p b : Nat) : (s.status p b).now = s.now := by
  unfold State.status
  (try dsimp only)
  (repeat' split) <;> (first | rfl | simp)
@[simp] theorem State.updFirst_now (s : State) (p : Nat) : (s.updFirst p).now = s.now := by
  unfold State.updFirst
  (try dsimp only)
  (repeat' split) <;> (first | rfl | simp)
@[simp] theorem State.softReact_now (s : State) (p b r cls : Nat) (forced : Bool) : (s.softReact p b r cls forced).now = s.now := by
  unfold State.softReact
  (try dsimp only)
  (repeat' split) <;> (first | rfl | simp)
@[simp] theorem State.hardReact_now (s : State) (p : Nat) (l : List (Nat × Nat)) : (s.hardReact p l).now = s.now := by
  unfold State.hardReact
  (try dsimp only)
  (repeat' split) <;> (first | rfl | simp)
@[simp] theorem State.reactions_now (s : State) (p b r cls : Nat) (forced : Bool) : (s.reactions p b r cls forced).now = s.now := by
  unfold State.reactions
  simp
theorem State.marks_now (s : State) (log : State → Rec → State) (hl : ∀ t r, (log t r).now = t.now) (p b : Nat) (w : Why) :
    (s.marks log p b w).1.now = s.now := by
  unfold State.marks
  (try dsimp only)
  (repeat' split) <;> simp [hl]
theorem State.occurs_now (s : State) (log : State → Rec → State) (hl : ∀ t r, (log t r).now = t.now) (p b : Nat) (w : Why) :
    (s.occurs log p b w).now = s.now := by
  unfold State.occurs
  (try dsimp only)
  split <;> simp [State.marks_now s log hl]
@[simp] theorem State.log_now (s : State) (r : Rec) : (s.log r).now = s.now := by
  unfold State.log
  (try dsimp only)
  split
  · exact (State.occurs_now _ _ (fun t r => State.note_now t r) _ _ _).trans (State.note_now s r)
  · exact State.note_now s r
@[simp] theorem State.termPermit_now (s : State) : (s.termPermit).now = s.now := by
  unfold State.termPermit
  split
  · exact (State.occurs_now _ State.log State.log_now _ _ _).trans (by simp)
  · rfl
@[simp] theorem State.fire_now (s : State) (p b : Nat) (w : Why) : (s.fire p b w).now = s.now := by
  unfold State.fire
  (try dsimp only)
  split <;> simp [State.marks_now s State.log State.log_now]
@[simp] theorem State.condBegin_now (s : State) (p b : Nat) (w : Why) : (s.condBegin p b w).now = s.now := by
  unfold State.condBegin
  (try dsimp only)
  (repeat' split) <;> (first | rfl | simp)
@[simp] theorem State.condEnd_now (s : State) (p b : Nat) : (s.condEnd p b).now = s.now := rfl
@[simp] theorem State.updPermit_now (s : State) : (s.updPermit).now = s.now := by
  unfold State.updPermit
  (try dsimp only)
  (repeat' split) <;> (first | rfl | simp)
@[simp] theorem State.follow_now (s : State) (j b : Nat) (f : Nat → Bool) : (s.follow j b f).now = s.now := by
  unfold State.follow
  (try dsimp only)
  (repeat' split) <;> (first | rfl | simp)
@[simp] theorem State.settle_now (s : State) : (s.settle).now = s.now := by
  unfold State.settle
  exact foldl_keeps (fun s : State => s.now) _ (fun s i => by (try dsimp only); (repeat' split) <;> (first | rfl | simp)) _ _
@[simp] theorem State.dropWrite_now (s : State) (m : Master) (p : Nat) : (s.dropWrite m p).now = s.now := by
  unfold State.dropWrite
  (try dsimp only)
  (repeat' split) <;> (first | rfl | simp)
@[simp] theorem State.accNotice_now (s : State) (m : Master) (a c : Nat) : (s.accNotice m a c).now = s.now := by
  unfold State.accNotice
  (try dsimp only)
  (repeat' split) <;> (first | rfl | simp)
@[simp] theorem State.breakKey_now (s : State) (m : Master) (a : Nat) : (s.breakKey m a).now = s.now := by
  unfold State.breakKey
  (try dsimp only)
  (repeat' split) <;> (first | rfl | simp)

/-- Whatever the fabric makes of a write, pending is as what was due in the ownership and the effect leave it. -/
theorem guardedBy_pending (s : State) (m : Master) (a : Nat) (v : Word) (fs : List Fld) (ok : Bool) (g : State → State)
    (h : ∀ t : State, (g t).pending = t.pending) : (s.guardedBy m a v fs ok g).pending = s.ownDue.pending := by
  unfold State.guardedBy
  generalize s.ownDue = t
  simp only [State.outcome]
  split <;> (try split) <;> simp [h]

/-- Whatever the fabric makes of a write, now is as what was due in the ownership and the effect leave it. -/
theorem guardedBy_now (s : State) (m : Master) (a : Nat) (v : Word) (fs : List Fld) (ok : Bool) (g : State → State)
    (h : ∀ t : State, (g t).now = t.now) : (s.guardedBy m a v fs ok g).now = s.ownDue.now := by
  unfold State.guardedBy
  generalize s.ownDue = t
  simp only [State.outcome]
  split <;> (try split) <;> simp [h]

end Sys2Proof.Machine
end

