-- ==== Sys2Proof/Tests/Slice0.lean ====
section
/-! SUPPORT. The model's own tests: ill-formed commands, values from the spec's worked examples and tables, and for each statement
of Certificates/Slice0/Obligations.lean a state and operands that meet its hypotheses, clause by clause. The verdicts of
signature checks and decryptions are opaque (Config), so a clause that presumes one is witnessed in its other hypotheses. -/

namespace Sys2Proof.Machine
open Sys2Proof

/-! Small states -/

/-- The island of page `p` runs. -/
def State.lights (s : State) (p : Nat) : State :=
  let n := pageIsland p
  let s := if startsClocked n then s.set (CLK.ISL_CLK.SRC_NOW n) 0
    else if 35 ≤ n ∧ n ≤ 42 then (s.set (CLK.ISL_CLK.SRC_NOW n) 2).set (SYN.SYN_STAT.READY (n - 35)) 1
    else match pllOf n with
      | some k => (s.set (CLK.ISL_CLK.SRC_NOW n) 1).set (CLK.PLL_CTL.LOCK k) 1
      | none => s.set (CLK.ISL_CLK.SRC_NOW n) 2
  (islandPages n).foldl (fun s q => s.set (HDR.PAGE_CTL.CLK_REQ q) 1) (s.set (HDR.PAGE_CTL.EN p) 1)
/-- The NVM is loaded, M0 is owner, and the island of page `p` runs. -/
def lit (p : Nat) : State :=
  (((({ State.reset with rst := { loaded := true } } : State).set OWN.OWN_STAT.STATE 2).set OWN.OWN_STAT.OWNER 0).set CLK.OSC_STAT.REF_OK 1).lights p
/-- Slot `i` runs. -/
def State.runs (s : State) (i : Nat) : State := ({ s with active := s.active ++ [i] } : State).set (SLP.SLOT_STAT.STATE i) 4
/-- Island `n` runs. -/
def State.clk (s : State) (n : Nat) : State :=
  match (List.range 128).find? fun p => pageIsland p == n with
  | some p => s.lights p
  | none => s
/-- Slot 0 may be enabled: one branch, a lock of one wide range. -/
def State.okSlot (s : State) : State :=
  (((((((((((s.set (SLP.SLOT_TX.VALID0 0) 1).set (CNV.TX_CFG.ROLE 0 0) 1).set (SLP.RX_CENTRE.FREQ 0) 500000000).set (SLP.TX_CENTRE.FREQ 0) 500000000).set
    REGL.STATE.STATE 1).set REGL.STATE.NRANGES 1).set (REGL.RANGE_0.F_LO 0) 400000).set (REGL.RANGE_1.F_HI 0) 7200000).set (REGL.RANGE_0.DIR 0) 3).set
    (REGL.RANGE_3.DUTY_DL 0) 100).set (REGL.RANGE_3.DUTY_UL 0) 100).set PWR.PAD_RELEASE.FE_HELD 0
/-- Mailbox command `c` has its words. -/
def State.mbx (s : State) (c : Nat) (ws : List Nat) : State :=
  { ((s.set SEC.MBX_STAT.BUSY 1).set SEC.MBX_STAT.DATA_WAIT 0).set SEC.MBX_STAT.LAST c with tansy := { booted := true, words := ws } }
/-- The NVM is supplied. -/
def State.nvmOk (s : State) : State := s.set THM.STAT.NVM_OK 1
/-- Donor pattern 0 is live and has timing; its sync slot 0 runs on a ready downlink channel. -/
def State.donor (s : State) : State :=
  ((((s.modPat 0 fun x => { x with timing := true, live := { cfg := 0x87000000 } }).runs 0).clk 44).set (CNV.RX_CFG.ROLE 0 0) 1).set (SYN.SYN_STAT.READY 0) 1
/-- Slot 0 is an uplink slot with one noise sample, its range's ceiling is `c`. -/
def noisy (c : Nat) : State :=
  (({ ((lit 0).runs 0).lights 0x23 with live := [(0, { txCentre := 500000000 })] } : State).okSlot.set (REGL.RANGE_3.NOISE 0) c).modGv 0
    fun g => { g with noise := [(0, [(256, 1000)])] }

end Sys2Proof.Machine

namespace Sys2Proof.Tests
open Sys2Proof Sys2Proof.Machine
set_option Elab.async false

/-- On an empty queue the block idles for one tick. -/
theorem test_reset_idles : ∃ t, step State.reset = .next t := ⟨_, rfl⟩

/-! Ill-formed commands are refused -/

theorem wf_pcieBar0Tlp : Instr.wf (.pcieBar0Tlp 0xFFC 15 15 true 2 [0, 0]) = false ∧ Instr.wf (.pcieBar0Tlp 0 15 15 true 33 []) = false := by decide
theorem wf_pcieBar2Access : Instr.wf (.pcieBar2Access 2 15 15 false 1 []) = false ∧ Instr.wf (.pcieBar2Access 0 15 15 false 65 []) = false := by decide
theorem wf_pcieLinkStateChange : Instr.wf (.pcieLinkStateChange 5 1 1 true) = false := by decide
theorem wf_spiWrite : Instr.wf (.spiWrite 0 0 []) = false := by decide
theorem wf_spiRead : Instr.wf (.spiRead 0 0 0) = false := by decide
theorem wf_i2cReadTransfer : Instr.wf (.i2cReadTransfer 0) = false := by decide
theorem wf_spiReservedOpcode : Instr.wf (.spiReservedOpcode 0 0x0B) = false := by decide
theorem wf_bgCalWindowEnd : Instr.wf (.bgCalWindowEnd 0 []) = false := by decide
theorem wf_powerTransitionAbort : Instr.wf (.powerTransitionAbort 7) = false := by decide
theorem wf_analysisFrameComplete : Instr.wf (.analysisFrameComplete 0 false [⟨3, 0, 0, 0, (0, 0), (0, 0)⟩, ⟨3, 1, 0, 0, (0, 0), (0, 0)⟩]) = false := by decide
theorem wf_cloverPeriodStart : Instr.wf (.cloverPeriodStart [⟨3, none, none⟩, ⟨3, none, none⟩]) = false := by decide
theorem wf_sensorConversion : Instr.wf (.sensorConversion 0 2048) = false := by decide
theorem wf_diversityDecision : Instr.wf (.diversityDecision 0 32768) = false := by decide
/-- Every other command is well formed as it stands. -/
theorem wf_registerWrite : Instr.wf (.registerWrite .m0 0 15 0) = true := by decide

/-- The state after a command; the state itself where it stops. -/
def after (c : Instr) (s : State) : State :=
  match exec c s with
  | .next t => t
  | _ => s

/-- The word that a register holds. -/
def wordIn (c : Instr) (s : State) (a : Nat) : Nat := (after c s).wordAt a

/-- The NVM is loaded and no owner is elected. -/
def fresh : State := { State.reset with rst := { loaded := true } }

/-- M1 is owner with nonce 0x2B60 and EPOCH 1 (18_bringup.md). -/
def truck : State :=
  ((((fresh.set OWN.OWN_STAT.STATE 2).set OWN.OWN_STAT.OWNER 1).set OWN.OWN_STAT.EPOCH 1).set OWN.OWN_STAT.NONCE 0x2B60).set (HDR.PAGE_CTL.EN 1) 1

/-! Values from the spec's worked examples and tables -/

/-- 18_bringup.md: OWN_STAT after M1's election. -/
theorem test_election_stat : wordIn .electionEnd
    ({ fresh.set OWN.OWN_STAT.STATE 1 with own := { claims := [(1, 0x2B60)] } }) 0x1044 = 0x81012B60 := by decide +kernel

/-- 18_bringup.md: OWN_STAT while M1's offer to M0 stands. -/
theorem test_handover_offer : wordIn (.handoverStart .m1 0) truck 0x1044 = 0xC1012B60 := by decide +kernel

/-- 18_bringup.md: OWN_STAT after M0's ACCEPT. -/
theorem test_handover_accept : wordIn (.handoverAccept .m0 0x51A0)
    ((truck.set OWN.OWN_STAT.STATE 3).set OWN.HANDOVER.TARGET 0) 0x1044 = 0x800251A0 := by decide +kernel

/-- 05_control_ownership.md: M0 with MPRIO 0b11 wins over M3 with 0b01. -/
theorem test_election_priority : ((after .electionEnd
    (({ (fresh.set OWN.OWN_STAT.STATE 1).set OWN.OWN_STAT.EPOCH 7 with own := { claims := [(0, 0x3C42), (3, 0x0917)] }, straps := { mprio := 0x43 } })
      )).wordAt 0x1044) = 0x80083C42 := by decide +kernel

/-- 18_bringup.md: WAKE_CAUSE after 36,000 s asleep. -/
theorem test_wake_cause : wordIn (.i2cWakeMatch 0x58)
    { truck with now := 36000 * 983040000, aon := { asleep := true, loadDue := false } } 0x204C = 0x8CA00001 := by decide +kernel

/-- R1: the identity words. -/
theorem test_identity : State.reset.wordAt 0x40 = 0x8512 ∧ State.reset.wordAt 0x44 = 0xB1 := by decide +kernel

/-- 20_page_map.md: CODE 0x1FA4 names bit 4 of page 0x7D. -/
theorem test_code_page : srcKey 0x7D 4 = 0x1FA4 - 0x1000 ∧ (srcOf 0xFA4).impl = true := by decide +kernel

/-- 07_forward_path.md: slot 130's block base, and its latency word at 122.88 MS/s in Balanced with 192 taps. -/
theorem test_slot_base : slotBase 130 = 0x50180 := by decide
theorem test_slot_balance : (State.reset.set (SLP.SLOT_CFG.RATE 130) 4).balance 130 1 192 = 0x966 := by decide +kernel

/-- 07_forward_path.md: a third slot at 491.52 MS/s is refused with RATE_GROUP after the group holds 224 units. -/
theorem test_slot_config_word : (fun t : State => (t.get (SLP.SLOT_CFG.RATE 130), t.get (SLP.SLOT_CFG.TDD 130)))
      (after (.registerWrite .m0 0x50188 15 0x04110000) (lit 0x50)) = (4, 1) := by decide +kernel

/-- 10_radio_control.md: pattern 1's intervals. -/
theorem test_pattern_duty : (let l : PatLive := { cfg := 0xC5000000, edges := [0xC01BEE6F, 0x80257851] }
    (l.period, l.dutyTicks 0, l.dutyTicks 1)) = (2457600, 1832478, 625122) := by decide +kernel

/-- 10_radio_control.md: the pattern's edge word is kept, and EDGE steps. -/
theorem test_pattern_edge : (fun t : State => (Tab.get 0 t.patEdge 16, t.get TDD.PAT_SEL.EDGE))
      (after (.patEdgeAccess .m0 true 0xC01BEE6F) ((lit 0x0E).set TDD.PAT_SEL.PAT 1)) = (0xC01BEE6F, 1) := by decide +kernel

/-- 13_thermal.md: caps of Deep at E = 1, 6 and 7. -/
theorem test_thermal_caps : [1, 6, 7].map (fun e => ((State.reset.set IDN.PROFILE.ACTIVE 2).set THM.STAT.LEVEL e).caps)
    = [[7680], [5120], [4608]] := by decide +kernel

/-- 13_thermal.md: S09 at 100.1 °C sets REQ with the whole grace time. -/
theorem test_thermal_request : (fun t : State => (t.flag THM.REQ.REQ, t.flag THM.STAT.WARN))
      (after (.sensorConversion 9 801) (lit 9)) = (true, true) := by decide +kernel

/-- 13_thermal.md: S09 jumps by 9 °C and fails; the substitute is 8 °C above the hottest neighbour. -/
theorem test_thermal_substitute : (fun t : State => (t.get (THM.TEMP.CAUSE 9), t.shown 9))
      (after (.sensorConversion 9 880)
      { lit 9 with thm := { last := [(8, some 756), (9, some 808), (10, some 768)] } }) = (3, 832) := by decide +kernel

/-- Channel 19 at ±5 V, code 14,418, not bound and not at SAFE. -/
def channel19 : State := (((((lit 0x0B).set (bState 19) bIdle).set (bCode 19) 14418).set (bSpan 19) 3).set (BIA.SAFE_STAT.SAFE 0) 0)

/-- 12_bias_monitor.md: channel 19's range change begins with its code unchanged, and its first step is 64 LSB. -/
theorem test_bias_range_begins : (fun t : State => (t.get (bState 19), t.get (bCode 19)))
      (after (.biasValWrite .m0 19 0x0002147B) channel19) = (bRange, 14418) := by decide +kernel
theorem test_bias_range_step : (after (.biasSlewTick 19) ((((channel19.set (bState 19) bRange).set (BIA.VAL.SPAN 0 19) 2).set
    (BIA.VAL.CODE 0 19) 0x147B).modCh 19 fun x => { x with range := 1, spanTo := 2 })).get (bCode 19) = 14482 := by decide +kernel

/-- Slot 130 runs on TX08 and RX08 under a range with the limits of 11_network_protection.md. -/
def slot130 : State :=
  let s := ((((lit 0).runs 130).set (SLP.SLOT_TX.VALID0 130) 1).set (SLP.SLOT_TX.TX0 130) 8).set (SLP.SLOT_CFG.RATE 130) 4
  let s := (((s.set (REGL.RANGE_2.P_MAX 0) 130).set (REGL.RANGE_2.G_MAX 0) 850).set (REGL.TX_GAIN.G_TX_MAX 8) 240).set (REGL.RX_GAIN.G_RX_MAX 8) 100
  let s := (s.set (CNV.TX_CFG.FS 2 0) 2).set (CNV.RX_CFG.ROLE 2 0) 1
  let s := (((s.set REGL.STATE.STATE 1).set REGL.STATE.NRANGES 1).set (REGL.RANGE_0.F_LO 0) 3570000).set (REGL.RANGE_1.F_HI 0) 3670000
  { s.set (REGL.RANGE_0.DIR 0) 3 with live := [(130, { rxCentre := 1810000000, txCentre := 1810000000 })] }

/-- 11_network_protection.md: a maximum digital gain of 48.0 dB and a port limit of −11.0 dBm. -/
theorem test_gain_limit : slot130.branchMax 130 0 8 = 4800 ∧ slot130.portLimit 8 0 = -1100 := by decide +kernel

/-- 11_network_protection.md: a trip by 2.0 dB sets slot 130's clamp to 2.5 dB, and GAIN_STAT.LIMIT reads 4. -/
theorem test_power_clamp : (fun t : State => ((t.gv 130).pclamp, t.get (SLP.GAIN_STAT.LIMIT 130)))
      (after (.powerWindowEnd 8 0 [(130, -800)]) slot130) = (250, 4) := by decide +kernel

/-- 15_security.md: GLITCH at ERASE withdraws the permit and locks. -/
theorem test_glitch : (fun t : State => (t.flag GOV.PERMIT.PERMIT, t.flag SEC.STATE.LOCK, t.get SEC.ALARM_STAT.SRC))
      (after (.tamperAlarm 1 true) (({ lit 8 with tansy := { booted := true } } : State).set GOV.PERMIT.PERMIT 1)) = (false, true, 2) := by decide +kernel

/-- 08_cancellation.md: a kind-A slot's charge, and the pool left by its extents. -/
theorem test_charge : (((State.reset.set (SLP.SLOT_CFG.RATE 130) 4).set (SLP.CAN_CFG.EXT1 130) 4).set (SLP.CAN_CFG.EXT0 130) 4).units 130
    * 8 = 128 := by decide +kernel

/-- 20_page_map.md and R341: a first class-0 firing sets its interrupt bit. -/
theorem test_fire_sets_bit : ((after (.faultSourceFire 1 0 true) (lit 1)).get (HDR.IRQ_STAT.BITS 1)) = 1 := by decide +kernel

/-- R395: the CRC is that of IEEE 802.3 (check value of "123456789"). -/
theorem test_crc : crc32 [0x31, 0x32, 0x33, 0x34, 0x35, 0x36, 0x37, 0x38, 0x39] = 0xCBF43926 := by decide +kernel

/-! One step of each further family -/

/-- R61: a PLL that has locked shows LOCK. -/
theorem test_pll_lock : (after (.pllLocked 0) ((lit 3).set (CLK.PLL_CTL.EN 0) 1)).get (CLK.PLL_CTL.LOCK 0) = 1 := by decide +kernel

/-- R86: STANDBY asked in RUN shows BUSY and REQ_STATE. -/
theorem test_standby_request : (fun t : State => (t.get PWR.PWR_CMD.BUSY, t.get PWR.PWR_CMD.STATE))
      (after (.powerStateRequest .m0 2) (lit 2)) = (1, 0) := by decide +kernel

/-- R22: a change of profile to Deep waits with REQ = 2. -/
theorem test_profile_request : (fun t : State => (t.get IDN.PROFILE.PENDING, t.get IDN.PROFILE.ACTIVE))
      (after (.profileRequest .m0 2) (lit 0)) = (1, 1) := by decide +kernel

/-- R110: a reserved opcode is counted. -/
theorem test_spi_opcode : (after (.spiReservedOpcode 1 0xFF) (lit 0)).get (HSI.SPI_STAT.OPCODE 1) = 1 := by decide +kernel

/-- R119, R6: a register takes a value that its table lists, and drops one that it does not. -/
theorem test_beat_max : (after (.beatMaxWrite .m0 60000) (lit 1)).get OWN.BEAT_MAX.MS = 60000
    ∧ (after (.beatMaxWrite .m0 60001) (lit 1)).get OWN.BEAT_MAX.MS = 500 := by decide +kernel

/-- R125: a master without rights changes nothing. -/
theorem test_rights : (after (.beatMaxWrite .m1 60000) (lit 1)).get OWN.BEAT_MAX.MS = 500 := by decide +kernel

/-- R141: a synthesiser that is enabled leaves OFF. -/
theorem test_synth : (after (.synthEnable .m0 2 0x21) (lit 0x0D)).get (SYN.SYN_STAT.BUSY 2) = 1 := by decide +kernel

/-- R256: a sequencer table word is kept in the shadow bank, and the entry steps after the second word. -/
theorem test_seq_word : (fun t : State => (t.seqWord 0 0 1 false, t.get (FEC.SEQ_SEL.ENTRY 0)))
      (after (.seqDataAccess .m0 0 true true 200) (lit 0x25)) = (200, 1) := by decide +kernel

/-- R352: the second key within 1 ms of the first opens the injection gate. -/
theorem test_injection_key : (after (.injKeyWrite .m0 0xC3B5) { lit 4 with flt := { keyAt := some 0 } }).get FLT.INJ.EN = 1 := by decide +kernel

/-- R370: a mailbox command without words runs at once. -/
theorem test_mailbox : (fun t : State => (t.get SEC.MBX_STAT.BUSY, t.get SEC.MBX_STAT.LAST))
      (after (.mbxCmdWrite .m0 0x5000000) { lit 8 with tansy := { booted := true } }) = (1, 5) := by decide +kernel

/-- R323: the oldest queued conversion leaves the queue. -/
theorem test_monitor_queue : (after (.monQueueRead .m0) { lit 0x0A with mon := { queue := [5, 6] } }).mon.queue = [6] := by decide +kernel

/-- R203: an engine that is free takes the newest job of its own deque. -/
theorem test_job_start : ((after (.engineJobStart 0 false) { (lit 0).clk 19 |>.runs 0 with can := { deques := [(0, [{ typ := 2 }])] } }).deque 0) = []
    := by decide +kernel

/-- R413: a flush begins. -/
theorem test_flush : (after (.evtFlushCommand .m0 1) { lit 6 with evt := { buf := [{ code := 1, priv := true }] } }).evt.flushing = true := by decide +kernel

/-! Witnesses -/

/-- Each hypothesis set of StepRunsFront is met. -/
theorem witness_StepRunsFront :
    (∃ (s : State) (c : Instr) (rest : List Instr), (s.pending = c :: rest)) ∧
    (∃ (s : State), (s.pending = []) ∧ (s.inReset = true)) :=
  ⟨⟨{ lit 0 with pending := [.electionEnd] }, .electionEnd, [], by decide +kernel⟩,
   ⟨{ lit 0 with rst := { por := true } }, by decide +kernel⟩⟩

/-- Each hypothesis set of RegistersRise is met. -/
theorem witness_RegistersRise :
    ∃ (s t : State), s.regsRise ∧ step s = .next t :=
  ⟨State.reset, _, by decide +kernel, rfl⟩

/-- Each hypothesis set of ChipResetsReach is met. -/
theorem witness_ChipResetsReach :
    (∃ (s : State), (s.porArmed = true) ∧ (s.pfRuns = false)) ∧
    (∃ (s : State), (s.inReset = false) ∧ (s.pfRuns = false)) ∧
    (∃ (s : State), (s.pfRuns = true) ∧ (s.nvm.group = false) ∧ (s.rst.faultWaits = false)) :=
  ⟨⟨(lit 0), by decide +kernel⟩,
   ⟨(lit 0), by decide +kernel⟩,
   ⟨{ lit 0 with rst := { loaded := true, pf := .running } }, by decide +kernel⟩⟩

/-- Each hypothesis set of ResetsRelease is met. -/
theorem witness_ResetsRelease :
    (∃ (s : State), (s.rst.por = true) ∧ (s.aon.trip = false) ∧ (s.board.refclk = true)) ∧
    (∃ (s : State), (s.rst.fault = true) ∧ (s.aon.trip = false) ∧ (s.board.refclk = true)) ∧
    (∃ (s : State), (s.rst.pf = .held) ∧ (s.board.railsLow = 0) ∧ (s.aon.trip = false) ∧ (s.board.refclk = true)) ∧
    (∃ (s : State), (s.rst.wake = true) ∧ (s.board.railsLow = 0) ∧ (s.board.refclk = true)) :=
  ⟨⟨(let z : State := (let z : State := (let z : State := (lit 0); { z with rst := { z.rst with por := true } } : State); { z with aon := { z.aon with trip := false } } : State); { z with board := { z.board with refclk := true } } : State),
    by decide +kernel⟩,
   ⟨(let z : State := (let z : State := (let z : State := (lit 0); { z with rst := { z.rst with fault := true } } : State); { z with aon := { z.aon with trip := false } } : State); { z with board := { z.board with refclk := true } } : State),
    by decide +kernel⟩,
   ⟨(let z : State := (let z : State := (let z : State := (let z : State := (lit 0); { z with rst := { z.rst with pf := .held } } : State); { z with board := { z.board with railsLow := 0 } } : State); { z with aon := { z.aon with trip := false } } : State); { z with board := { z.board with refclk := true } } : State),
    by decide +kernel⟩,
   ⟨(let z : State := (let z : State := (let z : State := (lit 0); { z with rst := { z.rst with wake := true } } : State); { z with board := { z.board with railsLow := 0 } } : State); { z with board := { z.board with refclk := true } } : State),
    by decide +kernel⟩⟩

/-- Each hypothesis set of SupplyMonitors is met. -/
theorem witness_SupplyMonitors :
    (∃ (s : State) (r : Fin 11), (r.val < 9) ∧ (s.inReset = false) ∧ (s.holds 0x02 PWR.src.SUPPLY_LOW = false)) ∧
    (∃ (s : State) (r : Fin 11), (r.val < 9) ∧ (s.inReset = false) ∧ (tbit s.board.supLow r.val = true)) ∧
    (∃ (s : State), (s.porArmed = false)) :=
  ⟨⟨(lit 0), 0, by decide +kernel⟩,
   ⟨{ (lit 0) with board := { supLow := 1 } }, 0, by decide +kernel⟩,
   ⟨(let z : State := (lit 0); { z with aon := { asleep := true } } : State), by decide +kernel⟩⟩

/-- Each hypothesis set of ReferenceMonitor is met. -/
theorem witness_ReferenceMonitor :
    (∃ (s : State) (lost : Bool) (dev : BitVec 16), (s.inReset = false) ∧ ((lost = true ∨ (s.flag CLK.OSC_STAT.TRIMMED = true ∧
      s.board.refclk = true ∧ 450 < devSize dev.toNat)))) ∧
    (∃ (s : State) (dev : BitVec 16), (s.inReset = false) ∧ (s.board.refclk = true) ∧ (devSize dev.toNat ≤ 450)) ∧
    (∃ (s : State) (dev : BitVec 16), (s.inReset = false) ∧ ((s.flag CLK.OSC_STAT.TRIMMED = false ∨ devSize dev.toNat < 550))) :=
  ⟨⟨(lit 0), true, 0, by decide +kernel⟩,
   ⟨(let z : State := (lit 0); { z with board := { z.board with refclk := true } } : State), 0, by decide +kernel⟩,
   ⟨(lit 0), 0, by decide +kernel⟩⟩

/-- Each hypothesis set of PllCommands is met. -/
theorem witness_PllCommands :
    (∃ (s : State) (m : Master) (p : Fin 7) (v : Word), (s.takes m (0x3080 + 4 * p.val) v)) ∧
    (∃ (s : State) (p : Fin 7), (s.inReset = false) ∧ (s.flag (CLK.PLL_CTL.EN p) = true) ∧ (s.flag CLK.OSC_STAT.REF_OK = true)) ∧
    (∃ (s : State) (p : Fin 7), (s.inReset = false) ∧ (s.flag (CLK.PLL_CTL.EN p) = true) ∧ (s.flag (CLK.PLL_CTL.LOCK p) = true)) :=
  ⟨⟨(lit 0x3), .m0, 0, 0, by decide +kernel⟩,
   ⟨(((lit 0)).set (CLK.PLL_CTL.EN 0) 1).set CLK.OSC_STAT.REF_OK 1, 0, by decide +kernel⟩,
   ⟨(((lit 0)).set (CLK.PLL_CTL.EN 0) 1).set (CLK.PLL_CTL.LOCK 0) 1, 0, by decide +kernel⟩⟩

/-- Each hypothesis set of IslandClockWrites is met. -/
theorem witness_IslandClockWrites :
    ∃ (s : State) (m : Master) (n : Fin 48) (v : Word), (s.verdict m (0x3100 + 4 * n.val) v (clockFlds n) true .take) :=
  ⟨(lit 0x3), .m0, 0, 0, by decide +kernel⟩

/-- Each hypothesis set of ChannelDetectors is met. -/
theorem witness_ChannelDetectors :
    (∃ (s : State) (k : HsKind), ((k = .temp → s.hsBeyond 240 = true)) ∧ (s.holds 0x03 (hsBit k) = false) ∧
      (s.armed 0x03 (hsBit k)) ∧ (s.srcReact 0x03 (hsBit k) % 8 = 0) ∧ (s.srcReact 0x03 (hsBit k) < 16) ∧
      (s.srcCls 0x03 (hsBit k) < 4) ∧ (s.hasRoom 1)) ∧
    (∃ (s : State) (i : Fin 512), (i.val ∈ s.active)) ∧
    (∃ (s : State) (i : Fin 512), (i.val ∉ s.active) ∧ (s.armed 0x03 CLK.src.HS_PARITY) ∧
      (s.masked 0x03 CLK.src.HS_PARITY = false) ∧ (tbit (s.srcReact 0x03 CLK.src.HS_PARITY) 2 = true) ∧ (s.pfRuns = false) ∧
      (s.nvm.group = false) ∧ (s.rst.faultWaits = false)) :=
  ⟨⟨(lit 0), .ratio, by decide +kernel⟩,
   ⟨((lit 0).runs 0), 0, by decide +kernel⟩,
   ⟨(let z : State := (lit 0); { z with rst := { z.rst with faultWaits := false } } : State), 0, by decide +kernel⟩⟩

/-- Each hypothesis set of PowerStateRequests is met. -/
theorem witness_PowerStateRequests :
    (∃ (s : State) (m : Master) (v : Word), (s.takes m 0x2040 v) ∧ (s.flag PWR.PWR_CMD.BUSY = false) ∧
      (s.get PWR.PWR_CMD.STATE = v.toNat % 4)) ∧
    (∃ (s : State) (m : Master) (v : Word) (c : _), (s.takes m 0x2040 v) ∧ (s.flag PWR.PWR_CMD.BUSY = false) ∧
      (s.get PWR.PWR_CMD.STATE ≠ v.toNat % 4) ∧ (s.pwrVeto = some c)) ∧
    (∃ (s : State) (m : Master) (v : Word), (s.takes m 0x2040 v) ∧ (s.flag PWR.PWR_CMD.BUSY = false) ∧
      (s.get PWR.PWR_CMD.STATE ≠ v.toNat % 4) ∧ (s.pwrVeto = none)) :=
  ⟨⟨((lit 0x2)).set PWR.PWR_CMD.BUSY 0, .m0, 0, by decide +kernel⟩,
   ⟨(((lit 0x2)).set PWR.PWR_CMD.BUSY 0).set IDN.PROFILE.PENDING 1, .m0, 1, 2, by decide +kernel⟩,
   ⟨((lit 0x2)).set PWR.PWR_CMD.BUSY 0, .m0, 1, by decide +kernel⟩⟩

/-- Each hypothesis set of PowerStateEntry is met. -/
theorem witness_PowerStateEntry :
    (∃ (s : State) (t : PwrTr), (s.tr = some t) ∧ (s.resetting 0x02 = false) ∧ (t.origin = 0) ∧ (t.target ≠ 0) ∧ (t.phase = 0)) ∧
    (∃ (s : State) (t : PwrTr), (s.tr = some t) ∧ (s.resetting 0x02 = false) ∧ (t.origin = 0) ∧ (t.target = 1) ∧ (t.phase = 1)) ∧
    (∃ (s : State) (t : PwrTr), (s.tr = some t) ∧ (s.resetting 0x02 = false) ∧ (s.jobsOver = true) ∧ (s.iced = false) ∧
      ((∀ i ∈ s.active, (s.slot i).badAt = none)) ∧ (t.target = 2 ∨ t.target = 3) ∧ ((t.origin = 0 ∧ t.phase = 1) ∨ (t.origin = 1 ∧
      t.phase = 0))) ∧
    (∃ (s : State) (t : PwrTr), (s.tr = some t) ∧ (s.resetting 0x02 = false) ∧ (t.target = 3) ∧ (t.phase = 3 ∨ (t.origin = 2 ∧
      t.phase = 0))) ∧
    (∃ (s : State) (t : PwrTr), (s.tr = some t) ∧ (s.resetting 0x02 = false) ∧ (t.target = 2) ∧ (t.phase = 3)) ∧
    (∃ (s : State), (s.latchedEntry = true) ∧ (s.pfRuns = false) ∧ (s.privCount ≠ 0)) ∧
    (∃ (s : State) (t : PwrTr) (c : BitVec 8), (s.tr = some t) ∧ (s.latchedEntry = false) ∧ (c = 8 ∨ c = 9 ∨ c = 10)) ∧
    (∃ (s : State) (t : PwrTr), (s.tr = some t) ∧ (s.resetting 0x02 = false) ∧ (t.target < t.origin) ∧
      (t.target = 0 ∨ t.target = 1) ∧ (t.phase = 2 ∨ t.origin = 1)) ∧
    (∃ (s : State) (t : PwrTr), (s.tr = some t) ∧ (s.resetting 0x02 = false) ∧ (t.origin = 2) ∧ (t.target = 0 ∨ t.target = 1) ∧
      (t.phase = 0) ∧ (((∃ n < 8, s.flag (SYN.SYN_STAT.PEND n) = true) → s.mild 0x0D SYN.src.CHG_DONE ∧ s.hasRoom 8))) :=
  ⟨⟨({ (lit 0) with tr := some { origin := 0, target := 1, phase := 0 } } : State), { origin := 0, target := 1, phase := 0 },
    by decide +kernel⟩,
   ⟨({ (lit 0) with tr := some { origin := 0, target := 1, phase := 1 } } : State), { origin := 0, target := 1, phase := 1 },
    by decide +kernel⟩,
   ⟨({ (lit 0) with tr := some { origin := 0, target := 2, phase := 1 } } : State), { origin := 0, target := 2, phase := 1 },
    by decide +kernel⟩,
   ⟨({ (lit 0) with tr := some { target := 3, phase := 3 } } : State), { target := 3, phase := 3 }, by decide +kernel⟩,
   ⟨({ (lit 0) with tr := some { target := 2, phase := 3 } } : State), { target := 2, phase := 3 }, by decide +kernel⟩,
   ⟨{ (lit 0) with tr := some { target := 3, phase := 4 }, evt := { buf := [{ code := 1, priv := true }] } }, by decide +kernel⟩,
   ⟨({ (lit 0) with tr := some {  } } : State), {  }, 8, by decide +kernel⟩,
   ⟨({ (lit 0) with tr := some { origin := 2, target := 0, phase := 2 } } : State), { origin := 2, target := 0, phase := 2 },
    by decide +kernel⟩,
   ⟨({ (lit 0) with tr := some { origin := 2, target := 0, phase := 0 } } : State), { origin := 2, target := 0, phase := 0 },
    by decide +kernel⟩⟩

/-- Each hypothesis set of PowerStateExit is met. -/
theorem witness_PowerStateExit :
    (∃ (s : State) (a : BitVec 7), (s.aon.asleep = true) ∧ (a.toNat = s.i2cOwn) ∧ (s.aon.i2cLost = false)) ∧
    (∃ (s : State) (a : BitVec 7), (s.aon.asleep = true) ∧ (a.toNat ≠ s.i2cOwn ∨ s.aon.i2cLost = true)) ∧
    (∃ (s : State) (a : BitVec 7) (t : PwrTr), (s.aon.asleep = false) ∧ (s.tr = some t) ∧ (t.target = 3) ∧ (a.toNat = s.i2cOwn) ∧
      (s.aon.i2cLost = false)) ∧
    (∃ (s : State) (m : Master) (v : Word), (s.takes m 0x2050 v) ∧ (v.getLsbD 0 = true) ∧ (s.aon.padsHeld = false)) ∧
    (∃ (s : State) (m : Master) (v : Word), (s.takes m 0x2050 v) ∧ (v.getLsbD 0 = true) ∧ (s.aon.padsHeld = true)) ∧
    (∃ (s : State) (m : Master) (v : Word), (s.takes m 0x2050 v) ∧ (v.getLsbD 0 = false)) :=
  ⟨⟨(let z : State := (let z : State := (lit 0); { z with aon := { z.aon with asleep := true } } : State); { z with aon := { z.aon with i2cLost := false } } : State),
    0x58, by decide +kernel⟩,
   ⟨(let z : State := (lit 0); { z with aon := { z.aon with asleep := true } } : State), 0, by decide +kernel⟩,
   ⟨(let z : State := ({ (let z : State := (lit 0); { z with aon := { z.aon with asleep := false } } : State) with tr := some { target := 3 } } : State); { z with aon := { z.aon with i2cLost := false } } : State),
    0x58, { target := 3 }, by decide +kernel⟩,
   ⟨(let z : State := (lit 0x2); { z with aon := { z.aon with padsHeld := false } } : State), .m0, 42241, by decide +kernel⟩,
   ⟨(let z : State := (lit 0x2); { z with aon := { z.aon with padsHeld := true } } : State), .m0, 42241, by decide +kernel⟩,
   ⟨(lit 0x2), .m0, 42240, by decide +kernel⟩⟩

/-- Each hypothesis set of ProfileRequests is met. -/
theorem witness_ProfileRequests :
    (∃ (s : State) (m : Master) (v : Word), (s.takes m 0x50 v) ∧ (s.get IDN.PROFILE.ACTIVE = v.toNat % 4) ∧
      (s.flag IDN.PROFILE.PENDING = false)) ∧
    (∃ (s : State) (m : Master) (v : Word) (c : _) (i : _), (s.takes m 0x50 v) ∧
      ((s.get IDN.PROFILE.ACTIVE ≠ v.toNat % 4 ∨ s.flag IDN.PROFILE.PENDING = true)) ∧ (s.profRefusal (v.toNat % 4) = some (c, i))) ∧
    (∃ (s : State) (m : Master) (v : Word), (s.takes m 0x50 v) ∧
      ((s.get IDN.PROFILE.ACTIVE ≠ v.toNat % 4 ∨ s.flag IDN.PROFILE.PENDING = true)) ∧ (s.profRefusal (v.toNat % 4) = none)) :=
  ⟨⟨((lit 0x0)).set IDN.PROFILE.PENDING 0, .m0, 1, by decide +kernel⟩,
   ⟨(let z : State := (lit 0x0); { z with rst := { z.rst with pf := .running } } : State), .m0, 0, 7, 0, by decide +kernel⟩,
   ⟨(lit 0x0), .m0, 0, by decide +kernel⟩⟩

/-- Each hypothesis set of ProfileChange is met. -/
theorem witness_ProfileChange :
    (∃ (r : State) (s : State) (k : Fin 4), (s = r.profBegin) ∧ (s.inReset = false) ∧ (tbit s.board.supLow k.val = false) ∧
      ((s.rail k).rising = true)) ∧
    (∃ (r : State) (s : State) (k : Fin 4), (s = r.profBegin) ∧ (s.inReset = false) ∧ ((s.rail k).rising = true) ∧
      ((s.rail k).raised = false) ∧ ((s.rail k).late = false)) ∧
    (∃ (r : State) (s : State) (k : Fin 4), (s = r.profBegin) ∧ (s.inReset = false) ∧ ((s.rail k).rising = true) ∧
      ((s.rail k).raised = true)) ∧
    (∃ (s : State), (s.inReset = false) ∧ (s.resetting 0x00 = false) ∧ (s.prof.phase = 2)) ∧
    (∃ (s : State) (i : Fin 512), ((s.slot i).xfadeProf = true)) ∧
    (∃ (s : State), (s.inReset = false) ∧ (s.resetting 0x00 = false) ∧ (s.prof.phase = 3)) ∧
    (∃ (s : State), (s.inReset = false) ∧ (s.resetting 0x00 = false) ∧ (s.prof.phase = 4)) ∧
    (∃ (r : State) (s : State) (n : Fin 8) (c : Fin 10) (k : Nat), (k = chanNo n c) ∧ (s = r.profBegin) ∧ (s.inReset = false) ∧
      (k ∈ s.chanUp)) :=
  ⟨⟨((lit 0).modRail 0 (fun x => { x with rising := true })),
    (((lit 0).modRail 0 (fun x => { x with rising := true })).profBegin), 0, by decide +kernel⟩,
   ⟨((lit 0).modRail 0 (fun x => { x with rising := true, raised := false, late := false })),
    (((lit 0).modRail 0 (fun x => { x with rising := true, raised := false, late := false })).profBegin), 0, by decide +kernel⟩,
   ⟨((lit 0).modRail 0 (fun x => { x with rising := true, raised := true })),
    (((lit 0).modRail 0 (fun x => { x with rising := true, raised := true })).profBegin), 0, by decide +kernel⟩,
   ⟨(let z : State := (lit 0); { z with prof := { z.prof with phase := 2 } } : State), by decide +kernel⟩,
   ⟨((lit 0)).modSlot 0 (fun x => { x with xfadeProf := true }), 0, by decide +kernel⟩,
   ⟨(let z : State := (lit 0); { z with prof := { z.prof with phase := 3 } } : State), by decide +kernel⟩,
   ⟨(let z : State := (lit 0); { z with prof := { z.prof with phase := 4 } } : State), by decide +kernel⟩,
   ⟨({ lit 0 with chanUp := [0] } : State), (({ lit 0 with chanUp := [0] } : State).profBegin), 0, 0, (chanNo 0 0),
    by decide +kernel⟩⟩

/-- Each hypothesis set of OwnershipClaims is met. -/
theorem witness_OwnershipClaims :
    (∃ (s : State) (m : Master) (v : Word), (s.takes m 0x1040 v) ∧ (v.getLsbD 16 = false) ∧ (s.beatOver = false) ∧
      (s.windowOver = false) ∧ (s.offerOver = false) ∧ (s.rst.loaded = true) ∧ (s.get OWN.OWN_STAT.STATE < 2)) ∧
    (∃ (s : State) (m : Master) (v : Word), (s.takes m 0x1040 v) ∧ (v.getLsbD 16 = false) ∧ (s.beatOver = false) ∧
      (s.windowOver = false) ∧ (s.offerOver = false) ∧ (s.rst.loaded = false ∨ 2 ≤ s.get OWN.OWN_STAT.STATE)) ∧
    (∃ (s : State) (m : Master) (v : Word) (w : Nat) (n : Nat), (s.ownDue.judge m 0x1040 v (fieldsAt 0x1040) true = .take) ∧
      (v.getLsbD 16 = false) ∧ (s.inReset = false) ∧ (s.windowOver = true) ∧ (s.winner = some (w, n)) ∧
      (s.now < s.own.windowAt + ms 10 + ms (s.get OWN.BEAT_MAX.MS))) :=
  ⟨⟨(let z : State := ((lit 0x1)).set OWN.OWN_STAT.STATE 1; { z with rst := { z.rst with loaded := true } } : State), .m0, 1,
    by decide +kernel⟩,
   ⟨(lit 0x1), .m0, 1, by decide +kernel⟩,
   ⟨((fun z : State => { (z.set OWN.OWN_STAT.STATE 1) with now := ms 20, own := { claims := [(0, 7)] } }) ((lit 0x1))), .m0, 1, 0,
    7, by decide +kernel⟩⟩

/-- Each hypothesis set of ElectionWinner is met. -/
theorem witness_ElectionWinner :
    (∃ (s : State) (m : Nat) (n : Nat) (e : _), (e ∈ s.own.claims) ∧ (s.own.claims.Pairwise (fun a b => a.1 < b.1)) ∧
      (s.winner = some (m, n))) ∧
    (∃ (s : State) (m n : Nat), s.own.claims.Pairwise (fun a b => a.1 < b.1) ∧ s.winner = some (m, n)) :=
  ⟨⟨{ (lit 0) with own := { claims := [(0, 7)] } }, 0, 7, (0, 7), by decide +kernel⟩,
   ⟨{ lit 0 with own := { claims := [(0, 7), (3, 9)] } }, 0, 7, by decide +kernel⟩⟩

/-- Each hypothesis set of OwnershipChanges is met. -/
theorem witness_OwnershipChanges :
    (∃ (s : State) (m : Nat) (n : Nat), (s.inReset = false) ∧ (s.get OWN.OWN_STAT.STATE = 1) ∧ (s.winner = some (m, n))) ∧
    (∃ (s : State) (m : Master) (v : Word), (s.takes m 0x1040 v) ∧ (v.getLsbD 16 = true)) ∧
    (∃ (s : State), (s.inReset = false) ∧ (2 ≤ s.get OWN.OWN_STAT.STATE) ∧ (s.offerFirst = true)) ∧
    (∃ (s : State), (s.inReset = false) ∧ (2 ≤ s.get OWN.OWN_STAT.STATE) ∧ (s.offerFirst = false)) ∧
    (∃ (s : State) (m : Master) (v : Word), (s.ownDue.judge m 0x1054 v (fieldsAt 0x1054) true = .take) ∧ (s.inReset = false) ∧
      (s.beatOver = true) ∧ (s.offerOver = false)) ∧
    (∃ (s : State) (m : Master) (v : Word), (s.takes m 0x1054 v) ∧ (s.get OWN.OWN_STAT.STATE = 3) ∧
      (s.get OWN.HANDOVER.TARGET = m.num) ∧ (s.beatOver = false) ∧ (s.offerOver = false)) :=
  ⟨⟨{ ((lit 0)).set OWN.OWN_STAT.STATE 1 with own := { claims := [(0, 7)] } }, 0, 7, by decide +kernel⟩,
   ⟨(lit 0x1), .m0, 65537, by decide +kernel⟩,
   ⟨((fun z : State => { z.set OWN.OWN_STAT.STATE 3 with own := { beatAt := ms 1000 } }) (((lit 0)).set OWN.OWN_STAT.STATE 2)),
    by decide +kernel⟩,
   ⟨((lit 0)).set OWN.OWN_STAT.STATE 2, by decide +kernel⟩,
   ⟨((fun z : State => { z.set OWN.OWN_STAT.STATE 2 with now := ms 100000 }) ((lit 0x1))), .m0, 1, by decide +kernel⟩,
   ⟨(((lit 0x1)).set OWN.OWN_STAT.STATE 3).set OWN.HANDOVER.TARGET 0, .m0, 1, by decide +kernel⟩⟩

/-- Each hypothesis set of HeartbeatAndOffers is met. -/
theorem witness_HeartbeatAndOffers :
    (∃ (s : State) (m : Master) (v : Word), (s.takes m 0x1048 v) ∧ (2 ≤ s.get OWN.OWN_STAT.STATE)) ∧
    (∃ (s : State) (m : Master) (v : Word), (s.takes m 0x104C v)) ∧
    (∃ (s : State) (m : Master) (v : Word), (s.takes m 0x1050 v) ∧ (v.toNat % 8 ≠ s.get OWN.OWN_STAT.OWNER) ∧
      (s.offerOver = false) ∧ (v.toNat % 8 ≠ 7)) ∧
    (∃ (s : State) (m : Master) (v : Word), (s.takes m 0x1050 v) ∧ (v.toNat % 8 ≠ s.get OWN.OWN_STAT.OWNER) ∧
      (s.offerOver = false) ∧ (v.toNat % 8 = 7) ∧ (s.get OWN.OWN_STAT.STATE = 3)) ∧
    (∃ (s : State) (m : Master) (v : Word), (s.takes m 0x1054 v) ∧
      ((s.get OWN.OWN_STAT.STATE ≠ 3 ∨ s.get OWN.HANDOVER.TARGET ≠ m.num)) ∧ (s.beatOver = false) ∧ (s.windowOver = false) ∧
      (s.offerOver = false)) ∧
    (∃ (s : State), (s.inReset = false) ∧ (s.get OWN.OWN_STAT.STATE = 3) ∧ (s.offerFirst = false)) ∧
    (∃ (s : State), (s.inReset = false) ∧ (s.get OWN.OWN_STAT.STATE = 3) ∧ (s.offerFirst = true)) ∧
    (∃ (s : State) (m : Master) (v : Word), (s.takes m 0x48 v) ∧ (v.getLsbD 8 = true) ∧ (s.flag IDN.RF_STOP.STOP = false)) ∧
    (∃ (s : State) (m : Master) (v : Word), (s.takes m 0x48 v) ∧ (v.getLsbD 8 = true) ∧ (s.flag IDN.RF_STOP.STOP = true)) ∧
    (∃ (s : State) (m : Master) (v : Word), (s.takes m 0x48 v) ∧ (v.getLsbD 8 = false) ∧ (v.getLsbD 9 = true) ∧
      (s.flag IDN.RF_STOP.STOP = true)) :=
  ⟨⟨((fun z : State => z.set OWN.OWN_STAT.NONCE 1) (((lit 0x1)).set OWN.OWN_STAT.STATE 2)), .m0, 1, by decide +kernel⟩,
   ⟨(lit 0x1), .m0, 10, by decide +kernel⟩,
   ⟨(lit 0x1), .m0, 1, by decide +kernel⟩,
   ⟨((lit 0x1)).set OWN.OWN_STAT.STATE 3, .m0, 7, by decide +kernel⟩,
   ⟨(lit 0x1), .m0, 1, by decide +kernel⟩,
   ⟨((fun z : State => { z with own := { offerAt := ms 100000 } }) (((lit 0)).set OWN.OWN_STAT.STATE 3)), by decide +kernel⟩,
   ⟨((lit 0)).set OWN.OWN_STAT.STATE 3, by decide +kernel⟩,
   ⟨((lit 0x0)).set IDN.RF_STOP.STOP 0, .m0, 256, by decide +kernel⟩,
   ⟨((lit 0x0)).set IDN.RF_STOP.STOP 1, .m0, 256, by decide +kernel⟩,
   ⟨((lit 0x0)).set IDN.RF_STOP.STOP 1, .m0, 512, by decide +kernel⟩⟩

/-- Each hypothesis set of GateHoldsSlots is met. -/
theorem witness_GateHoldsSlots :
    (∃ (s : State) (i : _), (i ∈ s.enabled) ∧ (s.gateShut = true) ∧
      (s.get (SLP.SLOT_STAT.STATE i) = 3 ∨ s.get (SLP.SLOT_STAT.STATE i) = 4)) ∧
    (∃ (s : State) (i : _), (i ∈ s.enabled) ∧ (s.gateShut = false)) :=
  ⟨⟨((lit 0).runs 0), 0, by decide +kernel⟩,
   ⟨(((lit 0).runs 0)).set GOV.PERMIT.PERMIT 1, 0, by decide +kernel⟩⟩

/-- Each hypothesis set of WritesWithoutRights is met. -/
theorem witness_WritesWithoutRights :
    (∃ (s : State) (m : Master) (a : Nat) (v : Word) (fs : List Fld) (ok : Bool), (s.verdict m a v fs ok .rights)) ∧
    (∃ (s : State) (m : Master) (a : Nat) (v : Word) (fs : List Fld) (ok : Bool),
      (s.verdict m a v fs ok .off ∨ s.verdict m a v fs ok .value)) :=
  ⟨⟨(lit 0), .m1, 0x50, 0, [], true, by decide +kernel⟩,
   ⟨(lit 0), .m0, 0, 0, [], false, by decide +kernel⟩⟩

/-- Each hypothesis set of SlotRequests is met. -/
theorem witness_SlotRequests :
    (∃ (s : State) (m : Master) (i : Fin 512) (v : Word), (s.takes m (slotBase i) v) ∧ (v.getLsbD 0 = true) ∧
      (s.checksOver = []) ∧ (s.get (SLP.SLOT_STAT.STATE i) = 0)) ∧
    (∃ (s : State) (i : Fin 512), (s.get (SLP.SLOT_STAT.STATE i) = 1) ∧ ((s.slot i).checkRes = 1) ∧ ((s.slot i).offInCheck = false)) ∧
    (∃ (s : State) (i : Fin 512), (s.get (SLP.SLOT_STAT.STATE i) = 1) ∧ ((s.slot i).checkRes ≠ 1) ∧ ((s.slot i).checkRes < 16)) ∧
    (∃ (s : State) (m : Master) (i : Fin 512) (v : Word), (s.takes m (slotBase i) v) ∧ (v.getLsbD 8 = true) ∧
      (s.checksOver = []) ∧ (v.getLsbD 0 = true) ∧ (1 ≤ s.get (SLP.SLOT_STAT.STATE i)) ∧ (s.get (SLP.SLOT_STAT.STATE i) ≤ 5) ∧
      (s.commitRefusal i = 0)) ∧
    (∃ (s : State) (m : Master) (i : Fin 512) (v : Word), (s.takes m (slotBase i) v) ∧ (v.getLsbD 8 = true) ∧
      (s.checksOver = []) ∧ (1 ≤ s.get (SLP.SLOT_STAT.STATE i)) ∧ (s.get (SLP.SLOT_STAT.STATE i) ≤ 5) ∧ (s.commitRefusal i ≠ 0)) ∧
    (∃ (s : State) (m : Master) (i : Fin 512) (v : Word), (s.takes m (slotBase i) v) ∧ (v.getLsbD 0 = false) ∧
      (s.checksOver = []) ∧ (v.getLsbD 8 = false ∨ s.commitRefusal i = 0) ∧ (2 ≤ s.get (SLP.SLOT_STAT.STATE i)) ∧
      (s.get (SLP.SLOT_STAT.STATE i) ≤ 5)) ∧
    (∃ (s : State) (m : Master) (i : Fin 512) (v : Word), (s.takes m (slotBase i) v) ∧ (v.getLsbD 0 = false) ∧
      (s.checksOver = []) ∧ (v.getLsbD 8 = false ∨ s.commitRefusal i = 0) ∧ (s.get (SLP.SLOT_STAT.STATE i) = 1)) :=
  ⟨⟨((fun z : State => (z.okSlot.set (SYN.SYN_STAT.STEP 0) yRunning)) (((lit 0x40)).set (SLP.SLOT_STAT.STATE 0) 0)), .m0, 0, 1,
    by decide +kernel⟩,
   ⟨((((lit 0)).set (SLP.SLOT_STAT.STATE 0) 1).modSlot 0 (fun x => { x with checkRes := 1 })).modSlot 0 (fun x => { x with offInCheck := false }),
    0, by decide +kernel⟩,
   ⟨(((lit 0)).set (SLP.SLOT_STAT.STATE 0) 1).modSlot 0 (fun x => { x with checkRes := 2 }), 0, by decide +kernel⟩,
   ⟨((lit 0x40)).set (SLP.SLOT_STAT.STATE 0) 1, .m0, 0, 257, by decide +kernel⟩,
   ⟨((fun z : State => z.set (SLP.SLOT_STAT.COMMIT_PEND 0) 1) (((lit 0x40)).set (SLP.SLOT_STAT.STATE 0) 1)), .m0, 0, 257,
    by decide +kernel⟩,
   ⟨((lit 0x40)).set (SLP.SLOT_STAT.STATE 0) 2, .m0, 0, 0, by decide +kernel⟩,
   ⟨((lit 0x40)).set (SLP.SLOT_STAT.STATE 0) 1, .m0, 0, 0, by decide +kernel⟩⟩

/-- Each hypothesis set of SlotLife is met. -/
theorem witness_SlotLife :
    (∃ (s : State) (i : Fin 512), (s.running i = true) ∧ (s.clocksGated = false)) ∧
    (∃ (s : State) (i : Fin 512), (s.running i = true) ∧ (s.clocksGated = true)) ∧
    (∃ (s : State) (i : Fin 512) (t : Nat), (s.running i = true) ∧ (s.get (SLP.SLOT_STAT.STATE i) = 2) ∧
      ((s.slot i).waitsUp = false) ∧ (s.rampAt i (max s.now ((s.slot i).acceptAt + us 200)) = some t)) ∧
    (∃ (s : State) (i : Fin 512), (s.running i = true) ∧ (s.get (SLP.SLOT_STAT.STATE i) = 3)) ∧
    (∃ (s : State) (i : Fin 512), (s.get (SLP.SLOT_STAT.STATE i) = 6)) ∧
    (∃ (s : State) (i : Fin 512), (s.get (SLP.SLOT_STAT.STATE i) = 7) ∧ ((s.slot i).inReset = false)) ∧
    (∃ (s : State) (i : Fin 512), (s.get (SLP.SLOT_STAT.STATE i) = 6 ∨ s.get (SLP.SLOT_STAT.STATE i) = 7)) ∧
    (∃ (s : State) (i : Fin 512) (t : Nat), (s.get (SLP.SLOT_STAT.STATE i) = 5) ∧ (s.get (SLP.SLOT_STAT.HOLD i) = 0) ∧
      ((s.slot i).resume = true) ∧ ((s.slot i).inReset = false) ∧ ((∀ n ∈ s.chiplets i, (s.chip n).resume = false)) ∧
      (s.rampAt i s.now = some t)) :=
  ⟨⟨((lit 0).runs 0), 0, by decide +kernel⟩,
   ⟨(((lit 0).runs 0)).set PWR.PWR_CMD.STATE 2, 0, by decide +kernel⟩,
   ⟨((((lit 0).runs 0)).set (SLP.SLOT_STAT.STATE 0) 2).modSlot 0 (fun x => { x with waitsUp := false }), 0,
    (((lit 0).runs 0).frameAt (us 200)), by decide +kernel⟩,
   ⟨(((lit 0).runs 0)).set (SLP.SLOT_STAT.STATE 0) 3, 0, by decide +kernel⟩,
   ⟨((lit 0)).set (SLP.SLOT_STAT.STATE 0) 6, 0, by decide +kernel⟩,
   ⟨(((lit 0)).set (SLP.SLOT_STAT.STATE 0) 7).modSlot 0 (fun x => { x with inReset := false }), 0, by decide +kernel⟩,
   ⟨((lit 0)).set (SLP.SLOT_STAT.STATE 0) 6, 0, by decide +kernel⟩,
   ⟨(((((lit 0)).set (SLP.SLOT_STAT.STATE 0) 5).set (SLP.SLOT_STAT.HOLD 0) 0).modSlot 0 (fun x => { x with resume := true })).modSlot 0 (fun x => { x with inReset := false }),
    0, 0, by decide +kernel⟩⟩

/-- Each hypothesis set of SlotCommitsAndHolds is met. -/
theorem witness_SlotCommitsAndHolds :
    (∃ (s : State) (i : Fin 512), (s.running i = true) ∧ (s.clocksGated = false) ∧ ((s.slot i).xfade = false)) ∧
    (∃ (s : State) (i : Fin 512), ((s.slot i).xfade = true) ∧ ((s.cs i).resized = false)) ∧
    (∃ (s : State) (i : Fin 512) (b : Fin 8), (i.val ∈ s.enabled) ∧ (b.val ≠ hGate) ∧ (s.holdArises b i = true)) ∧
    (∃ (s : State) (i : Fin 512) (b : Fin 8), (i.val ∈ s.enabled) ∧ (tbit (s.get (SLP.SLOT_STAT.HOLD i)) b = true) ∧
      (s.holdCond b i = false)) ∧
    (∃ (s : State) (m : Master) (n : Fin 8) (v : Word), (s.takes m (0x18048 + 0x1000 * n.val) v) ∧
      (s.flag (SLP.FIR_CTL.SRC (s.firSlot n)) = true) ∧ (s.flag (SLP.SLOT_STAT.COMMIT_PEND (s.firSlot n)) = false)) ∧
    (∃ (s : State) (m : Master) (n : Fin 8) (v : Word), (s.takes m (0x18048 + 0x1000 * n.val) v) ∧
      (s.flag (SLP.FIR_CTL.SRC (s.firSlot n)) = false)) ∧
    (∃ (s : State) (m : Master) (n : Fin 8), (s.reaches m) ∧ (s.pageOff (0x18 + n.val) = false)) :=
  ⟨⟨(((lit 0).runs 0)).modSlot 0 (fun x => { x with xfade := false }), 0, by decide +kernel⟩,
   ⟨(((lit 0)).modSlot 0 (fun x => { x with xfade := true })).modCs 0 (fun x => { x with resized := false }), 0, by decide +kernel⟩,
   ⟨(((lit 0).runs 0)).set (GOV.PROT_STAT.MASK 0) 1, 0, 4, by decide +kernel⟩,
   ⟨((((lit 0).runs 0).set GOV.PERMIT.PERMIT 1)).putBit (SLP.SLOT_STAT.HOLD 0) 0 true, 0, 0, by decide +kernel⟩,
   ⟨((fun z : State => z.set (SLP.SLOT_STAT.COMMIT_PEND (z.firSlot 0)) 0) (((fun z : State => z.set (SLP.FIR_CTL.SRC (z.firSlot 0)) 1) ((lit 0x18))))),
    .m0, 0, 0, by decide +kernel⟩,
   ⟨((fun z : State => z.set (SLP.FIR_CTL.SRC (z.firSlot 0)) 0) ((lit 0x18))), .m0, 0, 0, by decide +kernel⟩,
   ⟨(lit 0x18), .m0, 0, by decide +kernel⟩⟩

/-- Each hypothesis set of BlockResets is met. -/
theorem witness_BlockResets :
    (∃ (s : State) (m : Master) (p : Fin 128),
      (s.takes m (0x1000 * p.val + 8) (BitVec.ofNat 32 (2 + 4 * s.get (HDR.PAGE_CTL.CLK_REQ p) + s.get (HDR.PAGE_CTL.EN p)))) ∧
      (s.get (HDR.PAGE_CTL.CLK_REQ p) < 2) ∧ (s.get (HDR.PAGE_CTL.EN p) < 2) ∧ (p.val ≠ 1) ∧
      (s.clkReqOnly m (0x1000 * p.val + 8) = false) ∧ (s.flag (HDR.PAGE_STAT.RESET_ACTIVE p) = false) ∧
      (s.clkOn (pageIsland p) = true) ∧ (s.powered (pageIsland p) = true) ∧
      (s.flag PCI.LINK_STAT.UP = true ∨ s.board.perstN = false ∨ s.holds 0x2C PCI.src.LINK_DOWN = true)) ∧
    (∃ (r : State) (s : State) (p : Fin 128), (r.flag (HDR.PAGE_STAT.RESET_ACTIVE p) = true) ∧ (s = r.countBads) ∧
      (s.flag (HDR.PAGE_STAT.RESET_ACTIVE p) = true) ∧ ((∀ i ∈ s.covered p, s.get (SLP.SLOT_STAT.STATE i) ≠ 6 ∧
      s.get (SLP.SLOT_STAT.STATE i) ≠ 7))) ∧
    (∃ (s : State) (m : Master),
      (s.takes m 0x1008 (BitVec.ofNat 32 (2 + 4 * s.get (HDR.PAGE_CTL.CLK_REQ 1) + s.get (HDR.PAGE_CTL.EN 1)))) ∧
      (s.get (HDR.PAGE_CTL.CLK_REQ 1) < 2) ∧ (s.get (HDR.PAGE_CTL.EN 1) < 2) ∧
      (s.flag PCI.LINK_STAT.UP = true ∨ s.board.perstN = false ∨ s.holds 0x2C PCI.src.LINK_DOWN = true)) :=
  ⟨⟨((((lit 0).clk (pageIsland 0))).set (HDR.PAGE_STAT.RESET_ACTIVE 0) 0).set PCI.LINK_STAT.UP 1, .m0, 0, by decide +kernel⟩,
   ⟨((lit 0).set (HDR.PAGE_STAT.RESET_ACTIVE 0) 1), (((lit 0).set (HDR.PAGE_STAT.RESET_ACTIVE 0) 1).countBads), 0,
    by decide +kernel⟩,
   ⟨((lit 0)).set PCI.LINK_STAT.UP 1, .m0, by decide +kernel⟩⟩

/-- Each hypothesis set of ChannelChangeWrites is met. -/
theorem witness_ChannelChangeWrites :
    (∃ (s : State) (m : Master) (n : Fin 8) (v : Word) (c : Instr),
      (c = .synthEnable m n v ∨ c = .synthPlanChange m n v ∨ c = .synthRecal m n v) ∧ (s.takes m (0xD040 + 4 * n.val) v) ∧
      ((SYN.SYN_CTL.EN n).of v = 1) ∧
      ((s.get (SYN.SYN_CTL.EN n) ≠ 1 ∨ (SYN.SYN_CTL.PLAN n).of v ≠ s.get (SYN.SYN_CTL.PLAN n) ∨ v.getLsbD 8 = true)) ∧
      (s.changeCause n = 0) ∧ (s.get PWR.PWR_CMD.STATE ≠ pStandby)) ∧
    (∃ (s : State) (m : Master) (n : Fin 8) (v : Word) (c : Instr),
      (c = .synthEnable m n v ∨ c = .synthPlanChange m n v ∨ c = .synthRecal m n v) ∧ (s.takes m (0xD040 + 4 * n.val) v) ∧
      ((SYN.SYN_CTL.EN n).of v = 1) ∧
      ((s.get (SYN.SYN_CTL.EN n) ≠ 1 ∨ (SYN.SYN_CTL.PLAN n).of v ≠ s.get (SYN.SYN_CTL.PLAN n) ∨ v.getLsbD 8 = true)) ∧
      (s.changeCause n = 0) ∧ (s.get PWR.PWR_CMD.STATE = pStandby)) ∧
    (∃ (s : State) (m : Master) (n : Fin 8) (v : Word) (c : Instr),
      (c = .synthEnable m n v ∨ c = .synthPlanChange m n v ∨ c = .synthRecal m n v) ∧ (s.takes m (0xD040 + 4 * n.val) v) ∧
      ((SYN.SYN_CTL.EN n).of v = 1) ∧
      ((s.get (SYN.SYN_CTL.EN n) ≠ 1 ∨ (SYN.SYN_CTL.PLAN n).of v ≠ s.get (SYN.SYN_CTL.PLAN n) ∨ v.getLsbD 8 = true)) ∧
      (s.changeCause n ≠ 0)) ∧
    (∃ (s : State) (m : Master) (n : Fin 8) (v : Word), (s.takes m (0xD040 + 4 * n.val) v) ∧ ((SYN.SYN_CTL.EN n).of v = 0) ∧
      (s.get (SYN.SYN_CTL.EN n) = 1) ∧ (s.stopCause n = 0)) ∧
    (∃ (s : State) (m : Master) (n : Fin 8) (v : Word), (s.takes m (0xD040 + 4 * n.val) v) ∧ ((SYN.SYN_CTL.EN n).of v = 0) ∧
      (s.get (SYN.SYN_CTL.EN n) = 1) ∧ (s.stopCause n ≠ 0)) ∧
    (∃ (s : State) (m : Master) (n : Fin 8) (v : Word), (s.takes m (0xD040 + 4 * n.val) v) ∧ ((SYN.SYN_CTL.EN n).of v = 1) ∧
      (s.get (SYN.SYN_CTL.EN n) = 1) ∧ ((SYN.SYN_CTL.PLAN n).of v = s.get (SYN.SYN_CTL.PLAN n)) ∧ (v.getLsbD 8 = false) ∧
      (s.flag (SYN.SYN_STAT.BUSY n) = true)) ∧
    (∃ (s : State) (m : Master) (n : Fin 8) (v : Word), (s.takes m (0xD040 + 4 * n.val) v) ∧ ((SYN.SYN_CTL.EN n).of v = 1) ∧
      (s.get (SYN.SYN_CTL.EN n) = 1) ∧ ((SYN.SYN_CTL.PLAN n).of v = s.get (SYN.SYN_CTL.PLAN n)) ∧ (v.getLsbD 8 = false) ∧
      (s.flag (SYN.SYN_STAT.BUSY n) = false)) ∧
    (∃ (s : State) (m : Master) (n : Fin 8) (v : Word), (s.takes m (0xD040 + 4 * n.val) v) ∧ ((SYN.SYN_CTL.EN n).of v = 0) ∧
      (s.get (SYN.SYN_CTL.EN n) = 0)) :=
  ⟨⟨(lit 0xd), .m0, 0, 1, (.synthEnable .m0 0 1), by decide +kernel⟩,
   ⟨((lit 0xd)).set PWR.PWR_CMD.STATE pStandby, .m0, 0, 1, (.synthEnable .m0 0 1), by decide +kernel⟩,
   ⟨((lit 0xd)).set CLK.OSC_STAT.REF_OK 0, .m0, 0, 1, (.synthEnable .m0 0 1), by decide +kernel⟩,
   ⟨((lit 0xd)).set (SYN.SYN_CTL.EN 0) 1, .m0, 0, 0, by decide +kernel⟩,
   ⟨(((lit 0xd)).set (SYN.SYN_CTL.EN 0) 1).set PWR.PWR_CMD.BUSY 1, .m0, 0, 0, by decide +kernel⟩,
   ⟨(((lit 0xd)).set (SYN.SYN_CTL.EN 0) 1).set (SYN.SYN_STAT.BUSY 0) 1, .m0, 0, 17, by decide +kernel⟩,
   ⟨(((lit 0xd)).set (SYN.SYN_CTL.EN 0) 1).set (SYN.SYN_STAT.BUSY 0) 0, .m0, 0, 17, by decide +kernel⟩,
   ⟨((lit 0xd)).set (SYN.SYN_CTL.EN 0) 0, .m0, 0, 0, by decide +kernel⟩⟩

/-- Each hypothesis set of ChannelChangeSteps is met. -/
theorem witness_ChannelChangeSteps :
    (∃ (s : State) (n : Fin 8), (s.pfRuns = false) ∧ (s.resetting 0x0D = false) ∧ (s.get (SYN.SYN_STAT.STEP n) = yDrain)) ∧
    (∃ (s : State) (n : Fin 8), (s.pfRuns = false) ∧ (s.resetting 0x0D = false) ∧ (s.get (SYN.SYN_STAT.STEP n) = yBand)) ∧
    (∃ (s : State) (n : Fin 8), (s.pfRuns = false) ∧ (s.resetting 0x0D = false) ∧ (s.get (SYN.SYN_STAT.STEP n) = yAmpl)) ∧
    (∃ (s : State) (n : Fin 8), (s.pfRuns = false) ∧ (s.resetting 0x0D = false) ∧ (s.get (SYN.SYN_STAT.STEP n) = yLock)) ∧
    (∃ (s : State) (n : Fin 8), (s.pfRuns = false) ∧ (s.resetting 0x0D = false) ∧ (s.get (SYN.SYN_STAT.STEP n) = ySettle)) ∧
    (∃ (s : State) (n : Fin 8), (s.pfRuns = false) ∧ (s.resetting 0x0D = false) ∧ (s.get (SYN.SYN_STAT.STEP n) = yAlign)) ∧
    (∃ (s : State) (n : Fin 8), (s.pfRuns = false) ∧ (s.resetting 0x0D = false) ∧ (s.get (SYN.SYN_STAT.STEP n) = yConvcal)) ∧
    (∃ (s : State) (n : Fin 8), (s.pfRuns = false) ∧ (yDrain ≤ s.get (SYN.SYN_STAT.STEP n)) ∧
      (s.get (SYN.SYN_STAT.STEP n) ≤ yConvcal)) ∧
    (∃ (s : State) (n : Fin 8), (s.pfRuns = false) ∧ (ySettle ≤ s.get (SYN.SYN_STAT.STEP n)) ∧
      (s.get (SYN.SYN_STAT.STEP n) ≤ yRunning) ∧ (s.flag (SYN.SYN_STAT.LOCK n) = true) ∧ ((s.chip n).retry = false) ∧
      (s.flag CLK.OSC_STAT.REF_OK = true)) :=
  ⟨⟨((lit 0)).set (SYN.SYN_STAT.STEP 0) yDrain, 0, by decide +kernel⟩,
   ⟨((lit 0)).set (SYN.SYN_STAT.STEP 0) yBand, 0, by decide +kernel⟩,
   ⟨((lit 0)).set (SYN.SYN_STAT.STEP 0) yAmpl, 0, by decide +kernel⟩,
   ⟨((lit 0)).set (SYN.SYN_STAT.STEP 0) yLock, 0, by decide +kernel⟩,
   ⟨((lit 0)).set (SYN.SYN_STAT.STEP 0) ySettle, 0, by decide +kernel⟩,
   ⟨((lit 0)).set (SYN.SYN_STAT.STEP 0) yAlign, 0, by decide +kernel⟩,
   ⟨((lit 0)).set (SYN.SYN_STAT.STEP 0) yConvcal, 0, by decide +kernel⟩,
   ⟨((lit 0)).set (SYN.SYN_STAT.STEP 0) yDrain, 0, by decide +kernel⟩,
   ⟨(((((lit 0)).set (SYN.SYN_STAT.STEP 0) ySettle).set (SYN.SYN_STAT.LOCK 0) 1).set CLK.OSC_STAT.REF_OK 1).modChip 0 (fun x => { x with retry := false }),
    0, by decide +kernel⟩⟩

/-- Each hypothesis set of ObservationAndCalibration is met. -/
theorem witness_ObservationAndCalibration :
    (∃ (s : State) (n : Fin 8), (s.clkOn (35 + n) = true)) ∧
    (∃ (s : State) (m : Master) (n : Fin 8) (v : Word), (s.takes m (0x100C0 + 0x1000 * n.val) v) ∧ (v.getLsbD 0 = true) ∧
      (s.flag (CNV.OBS_CTL.PENDING n) = true)) ∧
    (∃ (s : State) (m : Master) (n : Fin 8) (v : Word) (i : _) (l : _), (s.takes m (0x100C0 + 0x1000 * n.val) v) ∧
      (v.getLsbD 0 = true) ∧ (s.flag (CNV.OBS_CTL.PENDING n) = false) ∧
      (s.uncovered n (fun k r => if k = n.val then s.shadowPlan k r else s.plan k r) = i :: l)) ∧
    (∃ (s : State) (m : Master) (n : Fin 8) (v : Word), (s.takes m (0x100C0 + 0x1000 * n.val) v) ∧ (v.getLsbD 0 = true) ∧
      (s.flag (CNV.OBS_CTL.PENDING n) = false) ∧
      (s.uncovered n (fun k r => if k = n.val then s.shadowPlan k r else s.plan k r) = [])) ∧
    (∃ (s : State) (n : Fin 8), (s.flag (CNV.OBS_CTL.PENDING n) = true)) ∧
    (∃ (s : State) (n : Fin 8) (r : Fin 2), (s.clkOn (35 + n) = true) ∧ (s.resetting (0x10 + n) = false) ∧
      (((s.plan n r).any fun w => tbit w 31) = true)) ∧
    (∃ (s : State) (n : Fin 8), (s.pfRuns = false) ∧ (s.resetting 0x0D = false) ∧ (s.get (SYN.SYN_STAT.STEP n) = yRunning) ∧
      ((s.chip n).resume = true) ∧ ((∀ i ∈ s.enabled, s.onChiplet n i = true → s.coverOk i (s.liveOf i).txCentre = true))) ∧
    (∃ (s : State) (n : Fin 8), (s.clkOn (35 + n) = true) ∧ (s.resetting (0x10 + n) = false) ∧
      (s.flag (SYN.SYN_STAT.CONV_RDY n) = true)) :=
  ⟨⟨((lit 0).clk (35 + 0)), 0, by decide +kernel⟩,
   ⟨((lit 0x10)).set (CNV.OBS_CTL.PENDING 0) 1, .m0, 0, 1, by decide +kernel⟩,
   ⟨((fun z : State => { z with live := [(0, { txCentre := 2000000000 })] }) (((fun z : State => (z.runs 0).okSlot) (((lit 0x10)).set (CNV.OBS_CTL.PENDING 0) 0)))),
    .m0, 0, 1, 0, [], by decide +kernel⟩,
   ⟨((lit 0x10)).set (CNV.OBS_CTL.PENDING 0) 0, .m0, 0, 1, by decide +kernel⟩,
   ⟨((lit 0)).set (CNV.OBS_CTL.PENDING 0) 1, 0, by decide +kernel⟩,
   ⟨((lit 0).clk (35 + 0)), 0, 0, by decide +kernel⟩,
   ⟨(((lit 0)).set (SYN.SYN_STAT.STEP 0) yRunning).modChip 0 (fun x => { x with resume := true }), 0, by decide +kernel⟩,
   ⟨(((lit 0).clk (35 + 0))).set (SYN.SYN_STAT.CONV_RDY 0) 1, 0, by decide +kernel⟩⟩

/-- Each hypothesis set of ExportsAndLanes is met. -/
theorem witness_ExportsAndLanes :
    (∃ (s : State) (m : Master) (i : Fin 512) (v : Word), (s.takes m (slotBase i + 0x24) v) ∧ (v.getLsbD 31 = true) ∧
      (384 < s.laneOthers i (bits v.toNat 24 4) + s.expWeight i v.toNat)) ∧
    (∃ (s : State) (m : Master) (i : Fin 512) (v : Word), (s.takes m (slotBase i + 0x24) v) ∧
      (v.getLsbD 31 = false ∨ s.laneOthers i (bits v.toNat 24 4) + s.expWeight i v.toNat ≤ 384)) ∧
    (∃ (s : State) (i : Fin 512) (t : Nat) (lost : Bool), ((s.exp i).changeAt = some t) ∧
      (lost = ((s.until (s.frameAt t)).exportLast i).2)) ∧
    (∃ (s : State) (r : State) (i : Fin 512) (fits : Bool) (l : Nat), (l = expLane (s.exp i).live) ∧
      (r = s.until (((s.exp i).first + frameLen (s.exp i).live) * s.sampleT i)) ∧ (s.active.contains i = true) ∧
      (s.get (SLP.SLOT_STAT.STATE i) ≠ 1) ∧ ((s.slot i).inReset = false) ∧ (s.clocksGated = false) ∧
      (tbit (s.exp i).live 31 = true) ∧ (fits = true) ∧ (s.laneUp l = true)) ∧
    (∃ (s : State) (r : State) (i : Fin 512) (fits : Bool) (l : Nat), (l = expLane (s.exp i).live) ∧
      (r = s.until (((s.exp i).first + frameLen (s.exp i).live) * s.sampleT i)) ∧ (s.active.contains i = true) ∧
      (s.get (SLP.SLOT_STAT.STATE i) ≠ 1) ∧ ((s.slot i).inReset = false) ∧ (s.clocksGated = false) ∧
      (tbit (s.exp i).live 31 = true) ∧ (fits = false ∨ s.laneUp l = false)) ∧
    (∃ (s : State) (l : Fin 16), (s.flag (LNK.LANE_STAT.UP l) = true)) ∧
    (∃ (s : State) (l : Fin 16), (s.flag (LNK.LANE_CTL.EN l) = true) ∧ (s.clkOn 3 = true) ∧ (s.resetting 0x2B = false)) ∧
    (∃ (s : State) (l : Fin 16) (data : List Byte) (d : List Nat), (d = data.map (·.toNat)) ∧ (s.laneUp l = true) ∧
      (d.length < 18 ∨ fcsOk d = false)) ∧
    (∃ (s : State) (l : Fin 16) (k : Fin 16) (data : List Byte) (d : List Nat) (age : Int), (d = data.map (·.toNat)) ∧
      (s.laneUp l = true) ∧ (18 ≤ d.length) ∧ (fcsOk d = true) ∧ (beAt d 12 2 ≠ 0x88F7) ∧
      (beAt d 12 2 = s.get (LNK.LANE_CTL.ETYPE l)) ∧ (beAt d 14 1 / 16 = 1) ∧ (s.flag (LNK.LANE_CTL.RX_EN l) = true) ∧
      (s.stopped 0x20 = false) ∧ (s.extRefs l (beAt d 16 2 % 512) = [k.val]) ∧ (beAt d 15 1 / 64 = 2) ∧
      (age = s.linkNum / 3072000000000000 - ((beAt d 22 6 * 1000000000 + beAt d 28 4 : Nat) : Int)) ∧ (-100000 ≤ age) ∧
      (age ≤ 100000)) ∧
    (∃ (s : State) (l : Fin 16) (k : Fin 16) (data : List Byte) (d : List Nat) (age : Int), (d = data.map (·.toNat)) ∧
      (s.laneUp l = true) ∧ (18 ≤ d.length) ∧ (fcsOk d = true) ∧ (beAt d 12 2 ≠ 0x88F7) ∧
      (beAt d 12 2 = s.get (LNK.LANE_CTL.ETYPE l)) ∧ (beAt d 14 1 / 16 = 1) ∧ (s.flag (LNK.LANE_CTL.RX_EN l) = true) ∧
      (s.stopped 0x20 = false) ∧ (s.extRefs l (beAt d 16 2 % 512) = [k.val]) ∧ (beAt d 15 1 / 64 = 2) ∧
      (age = s.linkNum / 3072000000000000 - ((beAt d 22 6 * 1000000000 + beAt d 28 4 : Nat) : Int)) ∧ (100000 < age)) :=
  ⟨⟨((((((((((((((lit 0x40)).set (SLP.EXPORT.EN 1) 1).set (SLP.EXPORT.EN 2) 1).set (SLP.EXPORT.EN 3) 1).set (SLP.EXPORT.EN 4) 1).set (SLP.EXPORT.EN 5) 1).set (SLP.EXPORT.EN 6) 1).set (SLP.SLOT_CFG.RATE 0) 4).set (SLP.SLOT_CFG.RATE 1) 4).set (SLP.SLOT_CFG.RATE 2) 4).set (SLP.SLOT_CFG.RATE 3) 4).set (SLP.SLOT_CFG.RATE 4) 4).set (SLP.SLOT_CFG.RATE 5) 4).set (SLP.SLOT_CFG.RATE 6) 4,
    .m0, 0, 2147483648, by decide +kernel⟩,
   ⟨(lit 0x40), .m0, 0, 0, by decide +kernel⟩,
   ⟨((lit 0)).modExp 0 (fun x => { x with changeAt := some 0 }), 0, 0, false, by decide +kernel⟩,
   ⟨((fun z : State => ((z.set (LNK.LANE_CTL.EN 0) 1).set (LNK.LANE_STAT.UP 0) 1).clk 3) (((fun z : State => z.modExp 0 fun x => { x with live := 2 ^ 31 }) (((((lit 0).runs 0)).set (SLP.SLOT_STAT.STATE 0) 2).modSlot 0 (fun x => { x with inReset := false }))))),
    (State.until (((fun z : State => ((z.set (LNK.LANE_CTL.EN 0) 1).set (LNK.LANE_STAT.UP 0) 1).clk 3) (((fun z : State => z.modExp 0 fun x => { x with live := 2 ^ 31 }) (((((lit 0).runs 0)).set (SLP.SLOT_STAT.STATE 0) 2).modSlot 0 (fun x => { x with inReset := false })))))) (((State.exp (((fun z : State => ((z.set (LNK.LANE_CTL.EN 0) 1).set (LNK.LANE_STAT.UP 0) 1).clk 3) (((fun z : State => z.modExp 0 fun x => { x with live := 2 ^ 31 }) (((((lit 0).runs 0)).set (SLP.SLOT_STAT.STATE 0) 2).modSlot 0 (fun x => { x with inReset := false })))))) 0).first + frameLen (State.exp (((fun z : State => ((z.set (LNK.LANE_CTL.EN 0) 1).set (LNK.LANE_STAT.UP 0) 1).clk 3) (((fun z : State => z.modExp 0 fun x => { x with live := 2 ^ 31 }) (((((lit 0).runs 0)).set (SLP.SLOT_STAT.STATE 0) 2).modSlot 0 (fun x => { x with inReset := false })))))) 0).live) * State.sampleT (((fun z : State => ((z.set (LNK.LANE_CTL.EN 0) 1).set (LNK.LANE_STAT.UP 0) 1).clk 3) (((fun z : State => z.modExp 0 fun x => { x with live := 2 ^ 31 }) (((((lit 0).runs 0)).set (SLP.SLOT_STAT.STATE 0) 2).modSlot 0 (fun x => { x with inReset := false })))))) 0)),
    0, true,
    (expLane (State.exp (((fun z : State => ((z.set (LNK.LANE_CTL.EN 0) 1).set (LNK.LANE_STAT.UP 0) 1).clk 3) (((fun z : State => z.modExp 0 fun x => { x with live := 2 ^ 31 }) (((((lit 0).runs 0)).set (SLP.SLOT_STAT.STATE 0) 2).modSlot 0 (fun x => { x with inReset := false })))))) 0).live),
    by decide +kernel⟩,
   ⟨((fun z : State => z.modExp 0 fun x => { x with live := 2 ^ 31 }) (((((lit 0).runs 0)).set (SLP.SLOT_STAT.STATE 0) 2).modSlot 0 (fun x => { x with inReset := false }))),
    (State.until (((fun z : State => z.modExp 0 fun x => { x with live := 2 ^ 31 }) (((((lit 0).runs 0)).set (SLP.SLOT_STAT.STATE 0) 2).modSlot 0 (fun x => { x with inReset := false })))) (((State.exp (((fun z : State => z.modExp 0 fun x => { x with live := 2 ^ 31 }) (((((lit 0).runs 0)).set (SLP.SLOT_STAT.STATE 0) 2).modSlot 0 (fun x => { x with inReset := false })))) 0).first + frameLen (State.exp (((fun z : State => z.modExp 0 fun x => { x with live := 2 ^ 31 }) (((((lit 0).runs 0)).set (SLP.SLOT_STAT.STATE 0) 2).modSlot 0 (fun x => { x with inReset := false })))) 0).live) * State.sampleT (((fun z : State => z.modExp 0 fun x => { x with live := 2 ^ 31 }) (((((lit 0).runs 0)).set (SLP.SLOT_STAT.STATE 0) 2).modSlot 0 (fun x => { x with inReset := false })))) 0)),
    0, false,
    (expLane (State.exp (((fun z : State => z.modExp 0 fun x => { x with live := 2 ^ 31 }) (((((lit 0).runs 0)).set (SLP.SLOT_STAT.STATE 0) 2).modSlot 0 (fun x => { x with inReset := false })))) 0).live),
    by decide +kernel⟩,
   ⟨((lit 0)).set (LNK.LANE_STAT.UP 0) 1, 0, by decide +kernel⟩,
   ⟨(((lit 0).clk 3)).set (LNK.LANE_CTL.EN 0) 1, 0, by decide +kernel⟩,
   ⟨((fun z : State => (((z.set (LNK.LANE_CTL.EN 0) 1).set (LNK.LANE_STAT.UP 0) 1).clk 3)) ((lit 0))), 0, [], [],
    by decide +kernel⟩,
   ⟨((fun z : State => (((z.set (LNK.LANE_CTL.RX_EN 0) 1).set (LNK.LANE_CTL.ETYPE 0) 0x88B5).set (CAN.EXT_REF.EN 0) 1).set (CAN.EXT_REF.SLOT 0) 0) (((fun z : State => ((z.set (LNK.LANE_CTL.EN 0) 1).set (LNK.LANE_STAT.UP 0) 1).clk 3) (((lit 0x20)).set (LNK.LANE_CTL.RX_EN 0) 1)))),
    0, 0, [0, 0, 0, 0, 0, 0, 0, 0, 0, 0, 0, 0, 136, 181, 16, 128, 0, 0, 0, 0, 0, 0, 0, 0, 0, 0, 0, 0, 0, 0, 0, 0, 55, 76, 82, 234],
    [0, 0, 0, 0, 0, 0, 0, 0, 0, 0, 0, 0, 136, 181, 16, 128, 0, 0, 0, 0, 0, 0, 0, 0, 0, 0, 0, 0, 0, 0, 0, 0, 55, 76, 82, 234], 0,
    by decide +kernel⟩,
   ⟨((fun z : State => { z with lnk := { num := 3072000000000000 * 200000 } }) (((fun z : State => (((z.set (LNK.LANE_CTL.RX_EN 0) 1).set (LNK.LANE_CTL.ETYPE 0) 0x88B5).set (CAN.EXT_REF.EN 0) 1).set (CAN.EXT_REF.SLOT 0) 0) (((fun z : State => ((z.set (LNK.LANE_CTL.EN 0) 1).set (LNK.LANE_STAT.UP 0) 1).clk 3) (((lit 0x20)).set (LNK.LANE_CTL.RX_EN 0) 1)))))),
    0, 0, [0, 0, 0, 0, 0, 0, 0, 0, 0, 0, 0, 0, 136, 181, 16, 128, 0, 0, 0, 0, 0, 0, 0, 0, 0, 0, 0, 0, 0, 0, 0, 0, 55, 76, 82, 234],
    [0, 0, 0, 0, 0, 0, 0, 0, 0, 0, 0, 0, 136, 181, 16, 128, 0, 0, 0, 0, 0, 0, 0, 0, 0, 0, 0, 0, 0, 0, 0, 0, 55, 76, 82, 234],
    200000, by decide +kernel⟩⟩

/-- Each hypothesis set of PtpTime is met. -/
theorem witness_PtpTime :
    (∃ (s : State) (m : Master) (v : Word), (s.verdict m 0x2B040 v (fieldsAt 0x2B040) (ptpOne v) .take) ∧ (s.lnk.on = true) ∧
      (v.getLsbD 0 = true) ∧ (v.getLsbD 3 = false) ∧ (s.get LNK.PTP_LD_NS.NS < 1000000000)) ∧
    (∃ (s : State) (m : Master) (v : Word), (s.verdict m 0x2B040 v (fieldsAt 0x2B040) (ptpOne v) .take) ∧ (s.lnk.on = true) ∧
      (v.getLsbD 1 = true) ∧ (v.getLsbD 3 = false)) ∧
    (∃ (s : State) (m : Master) (v : Word), (s.verdict m 0x2B040 v (fieldsAt 0x2B040) (ptpOne v) .take) ∧ (s.lnk.on = true) ∧
      (v.getLsbD 2 = true) ∧ (v.getLsbD 3 = false) ∧ (0 ≤ s.linkNum + sext 32 (s.get LNK.PTP_STEP.NS) * nsUnit)) ∧
    (∃ (s : State) (m : Master) (v : Word), (s.verdict m 0x2B040 v (fieldsAt 0x2B040) (ptpOne v) .take) ∧ (s.lnk.on = true) ∧
      (v.getLsbD 3 = true) ∧ (v.toNat % 8 = 0)) ∧
    (∃ (s : State) (m : Master) (v : Word), (s.verdict m 0x2B040 v (fieldsAt 0x2B040) (ptpOne v) .value) ∧ (v.getLsbD 0 = true) ∧
      (v.getLsbD 1 = true)) ∧
    (∃ (s : State), (s.flag LNK.PTP_CTL.VALID = true)) ∧
    (∃ (s : State), (s.clkOn 3 = true) ∧ (s.resetting 0x2B = false) ∧ (s.lnk.on = true) ∧ (s.get LNK.PTP_LD_NS.NS < 1000000000)) ∧
    (∃ (s : State) (m : Master), (s.reaches m) ∧ (s.pageOff 0x2B = false)) :=
  ⟨⟨(let z : State := (lit 0x2b); { z with lnk := { z.lnk with on := true } } : State), .m0, 1, by decide +kernel⟩,
   ⟨(let z : State := (lit 0x2b); { z with lnk := { z.lnk with on := true } } : State), .m0, 2, by decide +kernel⟩,
   ⟨(let z : State := (lit 0x2b); { z with lnk := { z.lnk with on := true } } : State), .m0, 4, by decide +kernel⟩,
   ⟨(let z : State := (lit 0x2b); { z with lnk := { z.lnk with on := true } } : State), .m0, 8, by decide +kernel⟩,
   ⟨(lit 0x2b), .m0, 3, by decide +kernel⟩,
   ⟨((lit 0)).set LNK.PTP_CTL.VALID 1, by decide +kernel⟩,
   ⟨(let z : State := ((lit 0).clk 3); { z with lnk := { z.lnk with on := true } } : State), by decide +kernel⟩,
   ⟨(lit 0x2B), .m0, by decide +kernel⟩⟩

/-- Each hypothesis set of FrameQueues is met. -/
theorem witness_FrameQueues :
    (∃ (s : State) (l : Fin 16) (data : List Byte), (s.flag (LNK.LANE_CTL.EN l) = true) ∧ (s.clkOn 3 = true) ∧
      (s.resetting 0x2B = false) ∧ (data.length ≤ 128) ∧ (s.lnk.rxq.length < 16)) ∧
    (∃ (s : State) (l : Fin 16) (data : List Byte), (s.flag (LNK.LANE_CTL.EN l) = true) ∧ (s.clkOn 3 = true) ∧
      (s.resetting 0x2B = false) ∧ (128 < data.length ∨ 16 ≤ s.lnk.rxq.length)) ∧
    (∃ (s : State) (m : Master), (s.reaches m) ∧ (s.pageOff 0x2B = false)) ∧
    (∃ (s : State) (m : Master) (v : Word), (s.takes m 0x2B084 v) ∧ (v.getLsbD 0 = true)) ∧
    (∃ (s : State) (m : Master) (v : Word), (s.takes m 0x2B08C v) ∧ (s.lnk.tx.length < 128)) ∧
    (∃ (s : State) (m : Master) (v : Word), (s.takes m 0x2B088 v) ∧ (v.getLsbD 8 = true) ∧ (s.flag LNK.TXQ_CTL.BUSY = false)) ∧
    (∃ (s : State) (m : Master) (v : Word), (s.takes m 0x2B088 v) ∧ (v.getLsbD 8 = true) ∧ (s.flag LNK.TXQ_CTL.BUSY = true)) ∧
    (∃ (s : State), (s.flag LNK.TXQ_CTL.BUSY = true)) :=
  ⟨⟨(((lit 0).clk 3)).set (LNK.LANE_CTL.EN 0) 1, 0, [], by decide +kernel⟩,
   ⟨(((lit 0).clk 3)).set (LNK.LANE_CTL.EN 0) 1, 0, (List.replicate 129 0), by decide +kernel⟩,
   ⟨(lit 0x2B), .m0, by decide +kernel⟩,
   ⟨(lit 0x2b), .m0, 1, by decide +kernel⟩,
   ⟨(lit 0x2b), .m0, 0, by decide +kernel⟩,
   ⟨((lit 0x2b)).set LNK.TXQ_CTL.BUSY 0, .m0, 270, by decide +kernel⟩,
   ⟨((lit 0x2b)).set LNK.TXQ_CTL.BUSY 1, .m0, 270, by decide +kernel⟩,
   ⟨((lit 0)).set LNK.TXQ_CTL.BUSY 1, by decide +kernel⟩⟩

/-- Each hypothesis set of CancellerWrites is met. -/
theorem witness_CancellerWrites :
    (∃ (s : State) (m : Master) (i : Fin 512) (v : Word), (s.takes m (slotBase i + 0x28) v) ∧
      (2 ≤ s.get (SLP.SLOT_STAT.STATE i)) ∧ ((canLay i v ≠ s.extCfg i ∨ v.getLsbD 29 ≠ s.flag (SLP.CAN_CFG.ALT i))) ∧
      (s.resizeResult i (canLay i v) (v.getLsbD 29) = 1)) ∧
    (∃ (s : State) (m : Master) (i : Fin 512) (v : Word), (s.takes m (slotBase i + 0x28) v) ∧
      (2 ≤ s.get (SLP.SLOT_STAT.STATE i)) ∧ ((canLay i v ≠ s.extCfg i ∨ v.getLsbD 29 ≠ s.flag (SLP.CAN_CFG.ALT i))) ∧
      (s.resizeResult i (canLay i v) (v.getLsbD 29) ≠ 1)) ∧
    (∃ (s : State) (m : Master) (i : Fin 512) (v : Word), (s.takes m (slotBase i + 0x28) v) ∧
      (s.get (SLP.SLOT_STAT.STATE i) = 0 ∨ (s.get (SLP.SLOT_STAT.STATE i) ≠ 1 ∧ canLay i v = s.extCfg i ∧
      v.getLsbD 29 = s.flag (SLP.CAN_CFG.ALT i)))) ∧
    (∃ (s : State) (m : Master) (i : Fin 512) (v : Word), (s.takes m (slotBase i + 0x28) v) ∧ (s.get (SLP.SLOT_STAT.STATE i) = 1)) :=
  ⟨⟨((lit 0x40)).set (SLP.SLOT_STAT.STATE 0) 2, .m0, 0, 0, by decide +kernel⟩,
   ⟨((fun z : State => z.set CAN.RESIZE.PENDING 1) (((lit 0x40)).set (SLP.SLOT_STAT.STATE 0) 2)), .m0, 0, 1, by decide +kernel⟩,
   ⟨(lit 0x40), .m0, 0, 2, by decide +kernel⟩,
   ⟨((lit 0x40)).set (SLP.SLOT_STAT.STATE 0) 1, .m0, 0, 0, by decide +kernel⟩⟩

/-- Each hypothesis set of PoolAccess is met. -/
theorem witness_PoolAccess :
    (∃ (s : State) (m : Master) (v : Word) (i : _), (s.takes m 0x20074 v) ∧ (s.flag CAN.POOL_ADDR.BANK = true) ∧
      (s.extOwner (s.get CAN.POOL_ADDR.ENTRY / 64) = some i) ∧ ((s.cs i).mode = 3) ∧ (s.shadowLocked i = false)) ∧
    (∃ (s : State) (m : Master) (v : Word) (i : _), (s.takes m 0x20074 v) ∧ (s.flag CAN.POOL_ADDR.BANK = true) ∧
      (s.extOwner (s.get CAN.POOL_ADDR.ENTRY / 64) = some i) ∧ ((s.cs i).mode = 3) ∧ (s.shadowLocked i = true)) ∧
    (∃ (s : State) (m : Master) (v : Word), (s.takes m 0x20074 v) ∧
      (s.flag CAN.POOL_ADDR.BANK = false ∨ s.extOwner (s.get CAN.POOL_ADDR.ENTRY / 64) = none ∨ (∃ i,
      s.extOwner (s.get CAN.POOL_ADDR.ENTRY / 64) = some i ∧ (s.cs i).mode ≠ 3))) ∧
    (∃ (s : State) (m : Master), (s.reaches m) ∧ (s.pageOff 0x20 = false)) ∧
    (∃ (s : State) (m : Master) (v : Word) (x : _), (s.takes m 0x20064 v) ∧ (s.xtNow = some x) ∧
      ((s.cs (s.get CAN.XT_SEL.SLOT)).mode = 3) ∧
      (((s.cs (s.get CAN.XT_SEL.SLOT)).xts.findIdx? fun y => y.agg == x.agg) = some (s.get CAN.XT_SEL.INDEX))) ∧
    (∃ (s : State) (m : Master) (v : Word), (s.takes m 0x20064 v) ∧ ((∀ x,
      s.xtNow = some x → (s.cs (s.get CAN.XT_SEL.SLOT)).mode = 3 → ((s.cs (s.get CAN.XT_SEL.SLOT)).xts.findIdx? fun y => y.agg == x.agg) ≠ some (s.get CAN.XT_SEL.INDEX)))) ∧
    (∃ (s : State) (m : Master) (k : Fin 16), (s.reaches m) ∧ (s.pageOff (0x30 + k.val) = false)) :=
  ⟨⟨((fun z : State => z.modCs 0 fun x => { x with xts := [{}] }) (((fun z : State => (z.runs 0)) ((((lit 0x20)).set CAN.POOL_ADDR.BANK 1).modCs 0 (fun x => { x with mode := 3 }))))),
    .m0, 0, 0, by decide +kernel⟩,
   ⟨((fun z : State => z.set (SLP.SLOT_STAT.COMMIT_PEND 0) 1) (((fun z : State => z.modCs 0 fun x => { x with xts := [{}] }) (((fun z : State => (z.runs 0)) ((((lit 0x20)).set CAN.POOL_ADDR.BANK 1).modCs 0 (fun x => { x with mode := 3 }))))))),
    .m0, 0, 0, by decide +kernel⟩,
   ⟨(lit 0x20), .m0, 0, by decide +kernel⟩,
   ⟨(lit 0x20), .m0, by decide +kernel⟩,
   ⟨((fun z : State => (z.modCs 0 fun x => { x with mode := 3, xts := [{}] })) (((fun z : State => z.modCs (z.get CAN.XT_SEL.SLOT) (fun x => { x with mode := 3 })) ((lit 0x20))))),
    .m0, 0, {}, by decide +kernel⟩,
   ⟨(lit 0x20), .m0, 0, by decide +kernel⟩,
   ⟨(lit 0x30), .m0, 0, by decide +kernel⟩⟩

/-- Each hypothesis set of JobLife is met. -/
theorem witness_JobLife :
    (∃ (s : State) (e : Fin 256) (n : Nat) (j : Job), (s.engineFree e = true) ∧ (s.popOwn (s.deque e) = some n) ∧
      ((s.deque e)[n]? = some j) ∧ (s.current j = true) ∧ (s.victim (peers e) = none)) ∧
    (∃ (s : State) (e : Fin 256), (Tab.get 0 s.can.retry e ≤ s.now) ∧ (s.engineFree e = true) ∧ (s.deque e = []) ∧
      (s.stealFrom e = none)) ∧
    (∃ (s : State) (e : Fin 256) (v : _) (n : _) (c : _) (j : _), (Tab.get 0 s.can.retry e ≤ s.now) ∧ (s.engineFree e = true) ∧
      (s.deque e = []) ∧ (s.stealFrom e = some (v, n, c)) ∧ (v ≠ e.val) ∧ ((s.deque v)[n]? = some j) ∧
      (s.current { j with steals := min 255 (j.steals + 1) } = true)) ∧
    (∃ (s : State) (e : Fin 256), (Tab.get 0 s.can.retry e ≠ 0) ∧ (s.engineFree e = false)) ∧
    (∃ (s : State) (e : Fin 256) (r : Run), (s.runOf e = some r) ∧ (s.current r.job = false)) ∧
    (∃ (s : State) (e : Fin 256) (r : Run) (post : Int) (live : Int), (s.runOf e = some r) ∧ (s.current r.job = true) ∧
      (r.job.kind = 1) ∧ (live + 50 < post)) ∧
    (∃ (s : State) (e : Fin 256) (r : Run) (post : Int) (live : Int), (s.runOf e = some r) ∧ (s.current r.job = true) ∧
      (r.job.kind = 1) ∧ (post ≤ live + 50) ∧
      ((s.cs r.job.slot).zeroDue = true ∨ s.inputBad r.job.slot = true ∨ s.canBad r.job.slot = true)) ∧
    (∃ (s : State) (e : Fin 256) (r : Run) (post : Int) (live : Int), (s.runOf e = some r) ∧ (s.current r.job = true) ∧
      (r.job.kind = 1) ∧ (post ≤ live + 50) ∧ ((s.cs r.job.slot).mode = 1) ∧ ((s.cs r.job.slot).zeroDue = false) ∧
      (s.inputBad r.job.slot = false) ∧ (s.canBad r.job.slot = false)) ∧
    (∃ (s : State) (k : Fin 16), (s.can.handDue.contains k.val = true) ∧ (s.stopped (0x30 + k) = false) ∧
      ((s.nextUsable k).isSome = true)) :=
  ⟨⟨((fun z : State => { z with can := { deques := [(0, [{}])] } }) (((fun z : State => (((z.runs 0).clk 19))) ((lit 0))))), 0, 0,
    {}, by decide +kernel⟩,
   ⟨((fun z : State => (((z.runs 0).clk 19))) ((lit 0))), 0, by decide +kernel⟩,
   ⟨((fun z : State => { z with can := { deques := [(1, [{}])] } }) (((fun z : State => (((z.runs 0).clk 19))) ((lit 0))))), 0, 1,
    0, 0, {}, by decide +kernel⟩,
   ⟨((fun z : State => { z with can := { retry := [(0, 1)] } }) ((lit 0))), 0, by decide +kernel⟩,
   ⟨((fun z : State => { z with can := { run := [(0, some { job := { sgen := 1 } })] } }) ((lit 0))), 0, { job := { sgen := 1 } },
    by decide +kernel⟩,
   ⟨((fun z : State => { z with can := { run := [(0, some { job := { typ := 1 } })] } }) (((fun z : State => z.runs 0) ((lit 0))))),
    0, { job := { typ := 1 } }, 51, 0, by decide +kernel⟩,
   ⟨((({ (lit 0).runs 0 with can := { run := [(0, some { job := { typ := 1 } })] } } : State).modCs 0 fun x => { x with zeroDue := true })),
    0, { job := { typ := 1 } }, 0, 0, by decide +kernel⟩,
   ⟨((fun z : State => z.lights 0x40) (((fun z : State => ((z.clk 35).clk 11).lights 0x20) (((({ (lit 0).runs 0 with can := { run := [(0, some { job := { typ := 1 } })] } } : State).modCs 0 fun x => { x with mode := 1, zeroDue := false })))))),
    0, { job := { typ := 1 } }, 0, 0, by decide +kernel⟩,
   ⟨((fun z : State => z.clk 20) (((fun z : State => z.clk 19) (((fun z : State => { z with can := { handDue := [0] } }) ((lit 0x30))))))),
    0, by decide +kernel⟩⟩

/-- Each hypothesis set of DivergenceWarmAndSnapshots is met. -/
theorem witness_DivergenceWarmAndSnapshots :
    (∃ (s : State) (i : Fin 512) (x : Int), (s.running i = true) ∧ (s.stopped 0x20 = false) ∧
      (x ≤ 100 * (s.get CAN.ADAPT_CFG.DIV_DB : Int))) ∧
    (∃ (s : State) (i : Fin 512) (x : Int), (s.running i = true) ∧ (s.stopped 0x20 = false) ∧
      (100 * (s.get CAN.ADAPT_CFG.DIV_DB : Int) < x) ∧ ((s.cs i).divWin = 0)) ∧
    (∃ (s : State) (i : Fin 512) (x : Int), (s.running i = true) ∧ (s.stopped 0x20 = false) ∧
      (100 * (s.get CAN.ADAPT_CFG.DIV_DB : Int) < x) ∧ (1 ≤ (s.cs i).divWin)) ∧
    (∃ (s : State) (i : Fin 512) (x : SnapSlot), (s.can.warmQ.head? = some i.val) ∧ ((s.cs i).warm = some x) ∧
      (s.stopped 0x20 = false)) ∧
    (∃ (s : State) (m : Master) (v : Word), (s.takes m 0x2007C v) ∧ (v.getLsbD 0 = true) ∧ (s.flag CAN.SNAP_STAT.BUSY = true)) ∧
    (∃ (s : State) (m : Master) (v : Word), (s.takes m 0x2007C v) ∧ (v.getLsbD 0 = true) ∧ (s.flag CAN.SNAP_STAT.BUSY = false) ∧
      (s.nvmCause rgSnap = 0)) ∧
    (∃ (s : State), (s.get CAN.SNAP_CTL.AUTO ≠ 0) ∧ (s.inReset = false) ∧ (s.rst.loaded = true) ∧
      (s.flag CAN.SNAP_STAT.BUSY = false) ∧ (s.nvmCause rgSnap = 0)) ∧
    (∃ (s : State) (q : NvmReq) (l : List NvmReq), (s.nvm.queue = q :: l) ∧ (q.region = rgSnap)) :=
  ⟨⟨((lit 0x20).runs 0), 0, 0, by decide +kernel⟩,
   ⟨(((lit 0x20).runs 0)).modCs 0 (fun x => { x with divWin := 0 }), 0, 100000, by decide +kernel⟩,
   ⟨(((lit 0x20).runs 0)).modCs 0 (fun x => { x with divWin := 1 }), 0, 100000, by decide +kernel⟩,
   ⟨((fun z : State => z.lights 0x20) ((({ lit 0 with can := { warmQ := [0] } } : State).modCs 0 fun x => { x with warm := some {} }))),
    0, {}, by decide +kernel⟩,
   ⟨((lit 0x20)).set CAN.SNAP_STAT.BUSY 1, .m0, 1, by decide +kernel⟩,
   ⟨((fun z : State => z.nvmOk) (((lit 0x20)).set CAN.SNAP_STAT.BUSY 0)), .m0, 1, by decide +kernel⟩,
   ⟨((fun z : State => z.nvmOk) ((let z : State := (((lit 0)).set CAN.SNAP_CTL.AUTO 1).set CAN.SNAP_STAT.BUSY 0; { z with rst := { z.rst with loaded := true } } : State))),
    by decide +kernel⟩,
   ⟨({ (lit 0) with nvm := { queue := [{ region := rgSnap }] } } : State), { region := rgSnap }, [], by decide +kernel⟩⟩

/-- Each hypothesis set of CloverPeriods is met. -/
theorem witness_CloverPeriods :
    (∃ (s : State), (s.inReset = false) ∧ (s.clocksGated = true)) ∧
    (∃ (s : State), (s.inReset = false) ∧ (s.clocksGated = false) ∧ (s.pageOff 0x22 = false) ∧ (s.pageOff 0x23 = false) ∧ (∀ l,
      (s.loop l).modeAt = none) ∧ (s.injOver = false) ∧ (s.flag CAP.LCAP_CTL.ARMED = false)) ∧
    (∃ (s : State), (s.clv.writeDue = true) ∧ (s.stopped 0x22 = false) ∧ (s.flag CLV.TIMING.NOW = false)) ∧
    (∃ (s : State) (l : Fin 544) (k : Fin 4), (s.stopped 0x22 = false) ∧ (s.flag CLV.TIMING.NOW = true) ∧
      ((s.loop l).due = true) ∧ (s.laneOf l ≠ k)) ∧
    (∃ (s : State) (l : Fin 544) (k : Fin 4) (x : _), (s.stopped 0x22 = false) ∧ (s.flag CLV.TIMING.NOW = true) ∧
      ((s.loop l).due = true) ∧ (s.laneOf l = k) ∧ (200 * s.doneCycle l ≤ s.get (CLV.LOOP_CTL.DEADLINE l) * 98304) ∧
      ((s.loop l).nxt = some x)) ∧
    (∃ (s : State) (l : Fin 544) (k : Fin 4), (s.stopped 0x22 = false) ∧ (s.flag CLV.TIMING.NOW = true) ∧
      ((s.loop l).due = true) ∧ (s.laneOf l = k) ∧ (s.get (CLV.LOOP_CTL.DEADLINE l) * 98304 < 200 * s.doneCycle l)) :=
  ⟨⟨((lit 0)).set PWR.PWR_CMD.STATE 2, by decide +kernel⟩,
   ⟨((lit 0x22).lights 0x23).set CAP.LCAP_CTL.ARMED 0, by decide +kernel, by decide +kernel, by decide +kernel, by decide +kernel,
    fun _ => rfl, by decide +kernel, by decide +kernel⟩,
   ⟨(let z : State := ((lit 0x22)).set CLV.TIMING.NOW 0; { z with clv := { z.clv with writeDue := true } } : State),
    by decide +kernel⟩,
   ⟨(((lit 0x22)).set CLV.TIMING.NOW 1).modLoop 0 (fun x => { x with due := true }), 0, 1, by decide +kernel⟩,
   ⟨(((((lit 0x22)).set CLV.TIMING.NOW 1).modLoop 0 (fun x => { x with due := true })).modLoop 0 (fun x => { x with nxt := some {} })).set (CLV.LOOP_CTL.DEADLINE 0) 100,
    0, 0, {}, by decide +kernel⟩,
   ⟨((((lit 0x22)).set CLV.TIMING.NOW 1).modLoop 0 (fun x => { x with due := true })).set (CLV.LOOP_CTL.DEADLINE 0) 0, 0, 0,
    by decide +kernel⟩⟩

/-- Each hypothesis set of LoopControl is met. -/
theorem witness_LoopControl :
    (∃ (s : State) (m : Master) (v : Word), (s.verdict m 0x2204C v (fieldsAt (0x100000 + 0x40 * s.selLoop)) true .take) ∧
      (v.getLsbD 8 = false)) ∧
    (∃ (s : State) (m : Master) (v : Word), (s.verdict m 0x2204C v (fieldsAt (0x100000 + 0x40 * s.selLoop)) true .take) ∧
      (v.getLsbD 8 = true) ∧ (s.coefLocked s.selLoop = false)) ∧
    (∃ (s : State) (m : Master) (v : Word), (s.verdict m 0x2204C v (fieldsAt (0x100000 + 0x40 * s.selLoop)) true .take) ∧
      (v.getLsbD 8 = true) ∧ (s.coefLocked s.selLoop = true)) ∧
    (∃ (s : State) (m : Master) (v : Word), (s.takes m 0x22070 v) ∧ (s.coefLocked s.selLoop = false) ∧
      (s.get CLV.MAT_ADDR.WORD < 140)) ∧
    (∃ (s : State) (m : Master) (v : Word), (s.takes m 0x22070 v) ∧ (s.coefLocked s.selLoop = true)) ∧
    (∃ (s : State) (m : Master), (s.reaches m) ∧ (s.pageOff 0x22 = false)) ∧
    (∃ (s : State) (m : Master) (v : Word), (s.takes m 0x22040 v)) :=
  ⟨⟨((fun z : State => z.set (CLV.LOOP_STAT.MODE_NOW 0) 0) ((lit 0x22))), .m0, 655360, by decide +kernel⟩,
   ⟨((fun z : State => z.set (CLV.LOOP_STAT.MODE_NOW 0) 0) ((lit 0x22))), .m0, 655616, by decide +kernel⟩,
   ⟨((fun z : State => z.set (CLV.LOOP_STAT.MODE_NOW 0) 1) ((lit 0x22))), .m0, 655616, by decide +kernel⟩,
   ⟨((fun z : State => z.set (CLV.LOOP_STAT.MODE_NOW 0) 0) ((lit 0x22))), .m0, 0, by decide +kernel⟩,
   ⟨(lit 0x22), .m0, 0, by decide +kernel⟩,
   ⟨(lit 0x22), .m0, by decide +kernel⟩,
   ⟨(lit 0x22), .m0, 0, by decide +kernel⟩⟩

/-- Each hypothesis set of InjectionAndCaptures is met. -/
theorem witness_InjectionAndCaptures :
    (∃ (s : State) (m : Master) (v : Word), (s.takes m 0x24040 v) ∧ (v.getLsbD 0 = true) ∧ (s.flag CAP.INJ_CTL.EN = false)) ∧
    (∃ (s : State) (m : Master) (v : Word), (s.takes m 0x24040 v) ∧ (v.getLsbD 0 = false) ∧ (s.flag CAP.INJ_CTL.ACTIVE = true)) ∧
    (∃ (s : State), (s.injOver = true) ∧ (s.stopped 0x24 = false)) ∧
    (∃ (s : State) (m : Master) (v : Word), (s.verdict m 0x24050 v (fieldsAt 0x24050) (lcapPreOk v) .take) ∧ (v.getLsbD 0 = true)) ∧
    (∃ (s : State), (s.stopped 0x24 = false) ∧ (s.flag CAP.LCAP_CTL.ARMED = true) ∧ (s.clv.lcapHit = true) ∧
      (s.clv.lcapLeft = none)) ∧
    (∃ (s : State) (m : Master) (v : Word), (s.takes m 0x24070 v) ∧ (v.getLsbD 0 = true)) ∧
    (∃ (s : State) (t : Nat), (s.stopped 0x24 = false) ∧ (s.flag CAP.IQ_CTL.ARMED = true) ∧ (s.clv.iqTrig = some t)) ∧
    (∃ (s : State) (m : Master), (s.reaches m) ∧ (s.pageOff 0x24 = false)) :=
  ⟨⟨((lit 0x24)).set CAP.INJ_CTL.EN 0, .m0, 1, by decide +kernel⟩,
   ⟨((lit 0x24)).set CAP.INJ_CTL.ACTIVE 1, .m0, 0, by decide +kernel⟩,
   ⟨((fun z : State => { (z.set CAP.INJ_CTL.ACTIVE 1).set CAP.INJ_TIME.LEN 1 with clv := { injN := 1 } }) ((lit 0x24))),
    by decide +kernel⟩,
   ⟨(lit 0x24), .m0, 1, by decide +kernel⟩,
   ⟨(let z : State := (let z : State := ((lit 0x24)).set CAP.LCAP_CTL.ARMED 1; { z with clv := { z.clv with lcapHit := true } } : State); { z with clv := { z.clv with lcapLeft := none } } : State),
    by decide +kernel⟩,
   ⟨(lit 0x24), .m0, 1, by decide +kernel⟩,
   ⟨((fun z : State => { z with clv := { iqTrig := some 0 } }) (((lit 0x24)).set CAP.IQ_CTL.ARMED 1)), 0, by decide +kernel⟩,
   ⟨(lit 0x24), .m0, by decide +kernel⟩⟩

/-- Each hypothesis set of EstimatesAndClamps is met. -/
theorem witness_EstimatesAndClamps :
    (∃ (s : State) (v : State) (i : Fin 512) (wait : Fin 9831) (invalid : Bool) (est : List BinEst) (bins : List BinEst) (t1 : Nat) (t0 : Nat),
      (t1 = s.now - wait) ∧ (t0 = t1 - 512 * s.sampleT i) ∧ (bins = s.frameOf i t0 est) ∧
      (v = (s.modGv i fun g => { g with frameEnd := t1 })) ∧ (s.running i = true) ∧ (s.stopped 0x21 = false) ∧
      ((s.gv i).frameEnd ≤ t0) ∧ (invalid = true ∨ s.estBad i = true)) ∧
    (∃ (s : State) (v : State) (i : Fin 512) (wait : Fin 9831) (invalid : Bool) (est : List BinEst) (bins : List BinEst) (t1 : Nat) (t0 : Nat),
      (t1 = s.now - wait) ∧ (t0 = t1 - 512 * s.sampleT i) ∧ (bins = s.frameOf i t0 est) ∧
      (v = (s.modGv i fun g => { g with frameEnd := t1 })) ∧ (s.running i = true) ∧ (s.stopped 0x21 = false) ∧
      ((s.gv i).frameEnd ≤ t0) ∧ (invalid = false) ∧ (s.estBad i = false) ∧ ((s.faded i t0 t1 = true ∨ s.inWindow i t0 t1 = false))) ∧
    (∃ (s : State) (v : State) (i : Fin 512) (wait : Fin 9831) (invalid : Bool) (est : List BinEst) (bins : List BinEst) (t1 : Nat) (t0 : Nat) (r : State),
      (t1 = s.now - wait) ∧ (t0 = t1 - 512 * s.sampleT i) ∧ (bins = s.frameOf i t0 est) ∧
      (v = (s.modGv i fun g => { g with frameEnd := t1 })) ∧ (s.running i = true) ∧ (s.stopped 0x21 = false) ∧
      ((s.gv i).frameEnd ≤ t0) ∧ (r = v.takeFrame i t0 bins) ∧ (invalid = false) ∧ (s.estBad i = false) ∧
      (s.faded i t0 t1 = false) ∧ (s.inWindow i t0 t1 = true) ∧ (r.oscDue i = false) ∧ (r.highBins i bins = [])) ∧
    (∃ (s : State) (v : State) (i : Fin 512) (wait : Fin 9831) (invalid : Bool) (est : List BinEst) (bins : List BinEst) (t1 : Nat) (t0 : Nat) (r : State) (b : Nat) (lg : Int),
      (t1 = s.now - wait) ∧ (t0 = t1 - 512 * s.sampleT i) ∧ (bins = s.frameOf i t0 est) ∧
      (v = (s.modGv i fun g => { g with frameEnd := t1 })) ∧ (s.running i = true) ∧ (s.stopped 0x21 = false) ∧
      ((s.gv i).frameEnd ≤ t0) ∧ (r = v.takeFrame i t0 bins) ∧ (invalid = false) ∧ (s.estBad i = false) ∧
      (s.faded i t0 t1 = false) ∧ (s.inWindow i t0 t1 = true) ∧ (r.oscDue i = false) ∧ (r.highBins i bins = [(b, lg)]) ∧
      (3 ≤ (s.gv i).frames) ∧ (s.get (SLP.SLOT_STAT.HOLD i) = 0) ∧ ((s.gv i).notches.length < 8) ∧
      (((s.gv i).notches.any fun x => s.notchCovers i x.bin b) = false)) ∧
    (∃ (s : State) (i : Fin 512), (s.flag (GOV.PROT_STAT.OSC i) = true)) ∧
    (∃ (s : State) (m : Master) (v : Word) (i : Nat), (i = s.get GOV.PROT_SEL.SLOT) ∧ (s.takes m 0x2306C v) ∧
      (v.getLsbD 0 = true) ∧ (s.flag (GOV.PROT_STAT.LATCHED i) = true)) ∧
    (∃ (s : State) (m : Master), (s.reaches m) ∧ (s.pageOff 0x21 = false)) ∧
    (∃ (s : State) (m : Master) (v : Word) (i : Nat) (b : Nat), (i = s.get GOV.SUB_SEL.SLOT) ∧ (b = s.get GOV.SUB_SEL.BIN) ∧
      (s.takes m 0x23054 v)) ∧
    (∃ (s : State) (m : Master) (i : Nat) (b : Nat), (i = s.get GOV.SUB_SEL.SLOT) ∧ (b = s.get GOV.SUB_SEL.BIN) ∧ (s.reaches m) ∧
      (s.pageOff 0x23 = false)) :=
  ⟨⟨((fun z : State => { z with now := us 100000 }) (((fun z : State => (z.lights 0x20).lights 0x21) (((fun z : State => (z.clk 11).lights 0x40) (((fun z : State => z.clk 35) (((lit 0x21).runs 0))))))))),
    (State.modGv (((fun z : State => { z with now := us 100000 }) (((fun z : State => (z.lights 0x20).lights 0x21) (((fun z : State => (z.clk 11).lights 0x40) (((fun z : State => z.clk 35) (((lit 0x21).runs 0)))))))))) 0 fun g => { g with frameEnd := (State.now (((fun z : State => { z with now := us 100000 }) (((fun z : State => (z.lights 0x20).lights 0x21) (((fun z : State => (z.clk 11).lights 0x40) (((fun z : State => z.clk 35) (((lit 0x21).runs 0))))))))))) }),
    0, 0, true, [⟨100, 65536 ^ 2, 65536 ^ 2, 65536 ^ 2, (0, 0), (0, 0)⟩],
    (State.frameOf (((fun z : State => { z with now := us 100000 }) (((fun z : State => (z.lights 0x20).lights 0x21) (((fun z : State => (z.clk 11).lights 0x40) (((fun z : State => z.clk 35) (((lit 0x21).runs 0)))))))))) 0 (State.now (((fun z : State => { z with now := us 100000 }) (((fun z : State => (z.lights 0x20).lights 0x21) (((fun z : State => (z.clk 11).lights 0x40) (((fun z : State => z.clk 35) (((lit 0x21).runs 0)))))))))) - 512 * State.sampleT (((fun z : State => { z with now := us 100000 }) (((fun z : State => (z.lights 0x20).lights 0x21) (((fun z : State => (z.clk 11).lights 0x40) (((fun z : State => z.clk 35) (((lit 0x21).runs 0)))))))))) 0) [⟨100,
    65536 ^ 2, 65536 ^ 2, 65536 ^ 2, (0, 0), (0, 0)⟩]),
    (State.now (((fun z : State => { z with now := us 100000 }) (((fun z : State => (z.lights 0x20).lights 0x21) (((fun z : State => (z.clk 11).lights 0x40) (((fun z : State => z.clk 35) (((lit 0x21).runs 0))))))))))),
    (State.now (((fun z : State => { z with now := us 100000 }) (((fun z : State => (z.lights 0x20).lights 0x21) (((fun z : State => (z.clk 11).lights 0x40) (((fun z : State => z.clk 35) (((lit 0x21).runs 0)))))))))) - 512 * State.sampleT (((fun z : State => { z with now := us 100000 }) (((fun z : State => (z.lights 0x20).lights 0x21) (((fun z : State => (z.clk 11).lights 0x40) (((fun z : State => z.clk 35) (((lit 0x21).runs 0)))))))))) 0),
    by decide +kernel⟩,
   ⟨((fun z : State => z.modSlot 0 fun x => { x with xEnd := us 100000 }) (((fun z : State => { z with now := us 100000 }) (((fun z : State => (z.lights 0x20).lights 0x21) (((fun z : State => (z.clk 11).lights 0x40) (((fun z : State => z.clk 35) (((lit 0x21).runs 0))))))))))),
    (State.modGv (((fun z : State => z.modSlot 0 fun x => { x with xEnd := us 100000 }) (((fun z : State => { z with now := us 100000 }) (((fun z : State => (z.lights 0x20).lights 0x21) (((fun z : State => (z.clk 11).lights 0x40) (((fun z : State => z.clk 35) (((lit 0x21).runs 0)))))))))))) 0 fun g => { g with frameEnd := (State.now (((fun z : State => z.modSlot 0 fun x => { x with xEnd := us 100000 }) (((fun z : State => { z with now := us 100000 }) (((fun z : State => (z.lights 0x20).lights 0x21) (((fun z : State => (z.clk 11).lights 0x40) (((fun z : State => z.clk 35) (((lit 0x21).runs 0))))))))))))) }),
    0, 0, false, [⟨100, 65536 ^ 2, 65536 ^ 2, 65536 ^ 2, (0, 0), (0, 0)⟩],
    (State.frameOf (((fun z : State => z.modSlot 0 fun x => { x with xEnd := us 100000 }) (((fun z : State => { z with now := us 100000 }) (((fun z : State => (z.lights 0x20).lights 0x21) (((fun z : State => (z.clk 11).lights 0x40) (((fun z : State => z.clk 35) (((lit 0x21).runs 0)))))))))))) 0 (State.now (((fun z : State => z.modSlot 0 fun x => { x with xEnd := us 100000 }) (((fun z : State => { z with now := us 100000 }) (((fun z : State => (z.lights 0x20).lights 0x21) (((fun z : State => (z.clk 11).lights 0x40) (((fun z : State => z.clk 35) (((lit 0x21).runs 0)))))))))))) - 512 * State.sampleT (((fun z : State => z.modSlot 0 fun x => { x with xEnd := us 100000 }) (((fun z : State => { z with now := us 100000 }) (((fun z : State => (z.lights 0x20).lights 0x21) (((fun z : State => (z.clk 11).lights 0x40) (((fun z : State => z.clk 35) (((lit 0x21).runs 0)))))))))))) 0) [⟨100,
    65536 ^ 2, 65536 ^ 2, 65536 ^ 2, (0, 0), (0, 0)⟩]),
    (State.now (((fun z : State => z.modSlot 0 fun x => { x with xEnd := us 100000 }) (((fun z : State => { z with now := us 100000 }) (((fun z : State => (z.lights 0x20).lights 0x21) (((fun z : State => (z.clk 11).lights 0x40) (((fun z : State => z.clk 35) (((lit 0x21).runs 0))))))))))))),
    (State.now (((fun z : State => z.modSlot 0 fun x => { x with xEnd := us 100000 }) (((fun z : State => { z with now := us 100000 }) (((fun z : State => (z.lights 0x20).lights 0x21) (((fun z : State => (z.clk 11).lights 0x40) (((fun z : State => z.clk 35) (((lit 0x21).runs 0)))))))))))) - 512 * State.sampleT (((fun z : State => z.modSlot 0 fun x => { x with xEnd := us 100000 }) (((fun z : State => { z with now := us 100000 }) (((fun z : State => (z.lights 0x20).lights 0x21) (((fun z : State => (z.clk 11).lights 0x40) (((fun z : State => z.clk 35) (((lit 0x21).runs 0)))))))))))) 0),
    by decide +kernel⟩,
   ⟨((fun z : State => { z with now := us 100000 }) (((fun z : State => (z.lights 0x20).lights 0x21) (((fun z : State => (z.clk 11).lights 0x40) (((fun z : State => z.clk 35) (((lit 0x21).runs 0))))))))),
    (State.modGv (((fun z : State => { z with now := us 100000 }) (((fun z : State => (z.lights 0x20).lights 0x21) (((fun z : State => (z.clk 11).lights 0x40) (((fun z : State => z.clk 35) (((lit 0x21).runs 0)))))))))) 0 fun g => { g with frameEnd := (State.now (((fun z : State => { z with now := us 100000 }) (((fun z : State => (z.lights 0x20).lights 0x21) (((fun z : State => (z.clk 11).lights 0x40) (((fun z : State => z.clk 35) (((lit 0x21).runs 0))))))))))) }),
    0, 0, false, [⟨100, 65536 ^ 2, 65536 ^ 2, 65536 ^ 2, (0, 0), (0, 0)⟩],
    (State.frameOf (((fun z : State => { z with now := us 100000 }) (((fun z : State => (z.lights 0x20).lights 0x21) (((fun z : State => (z.clk 11).lights 0x40) (((fun z : State => z.clk 35) (((lit 0x21).runs 0)))))))))) 0 (State.now (((fun z : State => { z with now := us 100000 }) (((fun z : State => (z.lights 0x20).lights 0x21) (((fun z : State => (z.clk 11).lights 0x40) (((fun z : State => z.clk 35) (((lit 0x21).runs 0)))))))))) - 512 * State.sampleT (((fun z : State => { z with now := us 100000 }) (((fun z : State => (z.lights 0x20).lights 0x21) (((fun z : State => (z.clk 11).lights 0x40) (((fun z : State => z.clk 35) (((lit 0x21).runs 0)))))))))) 0) [⟨100,
    65536 ^ 2, 65536 ^ 2, 65536 ^ 2, (0, 0), (0, 0)⟩]),
    (State.now (((fun z : State => { z with now := us 100000 }) (((fun z : State => (z.lights 0x20).lights 0x21) (((fun z : State => (z.clk 11).lights 0x40) (((fun z : State => z.clk 35) (((lit 0x21).runs 0))))))))))),
    (State.now (((fun z : State => { z with now := us 100000 }) (((fun z : State => (z.lights 0x20).lights 0x21) (((fun z : State => (z.clk 11).lights 0x40) (((fun z : State => z.clk 35) (((lit 0x21).runs 0)))))))))) - 512 * State.sampleT (((fun z : State => { z with now := us 100000 }) (((fun z : State => (z.lights 0x20).lights 0x21) (((fun z : State => (z.clk 11).lights 0x40) (((fun z : State => z.clk 35) (((lit 0x21).runs 0)))))))))) 0),
    (State.takeFrame (State.modGv (((fun z : State => { z with now := us 100000 }) (((fun z : State => (z.lights 0x20).lights 0x21) (((fun z : State => (z.clk 11).lights 0x40) (((fun z : State => z.clk 35) (((lit 0x21).runs 0)))))))))) 0 fun g => { g with frameEnd := (State.now (((fun z : State => { z with now := us 100000 }) (((fun z : State => (z.lights 0x20).lights 0x21) (((fun z : State => (z.clk 11).lights 0x40) (((fun z : State => z.clk 35) (((lit 0x21).runs 0))))))))))) }) 0 (State.now (((fun z : State => { z with now := us 100000 }) (((fun z : State => (z.lights 0x20).lights 0x21) (((fun z : State => (z.clk 11).lights 0x40) (((fun z : State => z.clk 35) (((lit 0x21).runs 0)))))))))) - 512 * State.sampleT (((fun z : State => { z with now := us 100000 }) (((fun z : State => (z.lights 0x20).lights 0x21) (((fun z : State => (z.clk 11).lights 0x40) (((fun z : State => z.clk 35) (((lit 0x21).runs 0)))))))))) 0) (State.frameOf (((fun z : State => { z with now := us 100000 }) (((fun z : State => (z.lights 0x20).lights 0x21) (((fun z : State => (z.clk 11).lights 0x40) (((fun z : State => z.clk 35) (((lit 0x21).runs 0)))))))))) 0 (State.now (((fun z : State => { z with now := us 100000 }) (((fun z : State => (z.lights 0x20).lights 0x21) (((fun z : State => (z.clk 11).lights 0x40) (((fun z : State => z.clk 35) (((lit 0x21).runs 0)))))))))) - 512 * State.sampleT (((fun z : State => { z with now := us 100000 }) (((fun z : State => (z.lights 0x20).lights 0x21) (((fun z : State => (z.clk 11).lights 0x40) (((fun z : State => z.clk 35) (((lit 0x21).runs 0)))))))))) 0) [⟨100,
    65536 ^ 2, 65536 ^ 2, 65536 ^ 2, (0, 0), (0, 0)⟩])), by decide +kernel⟩,
   ⟨((fun z : State => z.set (SLP.GAIN_STAT.APPLIED 0) 0) (((fun z : State => { z with now := us 100000 }) (((fun z : State => (z.lights 0x20).lights 0x21) (((fun z : State => (z.clk 11).lights 0x40) (((fun z : State => z.clk 35) (((((lit 0x21).runs 0)).set (SLP.SLOT_STAT.HOLD 0) 0).modGv 0 (fun x => { x with frames := 3 }))))))))))),
    (State.modGv (((fun z : State => z.set (SLP.GAIN_STAT.APPLIED 0) 0) (((fun z : State => { z with now := us 100000 }) (((fun z : State => (z.lights 0x20).lights 0x21) (((fun z : State => (z.clk 11).lights 0x40) (((fun z : State => z.clk 35) (((((lit 0x21).runs 0)).set (SLP.SLOT_STAT.HOLD 0) 0).modGv 0 (fun x => { x with frames := 3 })))))))))))) 0 fun g => { g with frameEnd := (State.now (((fun z : State => z.set (SLP.GAIN_STAT.APPLIED 0) 0) (((fun z : State => { z with now := us 100000 }) (((fun z : State => (z.lights 0x20).lights 0x21) (((fun z : State => (z.clk 11).lights 0x40) (((fun z : State => z.clk 35) (((((lit 0x21).runs 0)).set (SLP.SLOT_STAT.HOLD 0) 0).modGv 0 (fun x => { x with frames := 3 }))))))))))))) }),
    0, 0, false, [⟨100, 65536 ^ 2, 65536 ^ 2, 65536 ^ 2, (2 ^ 90, 0), (2 ^ 90, 0)⟩],
    (State.frameOf (((fun z : State => z.set (SLP.GAIN_STAT.APPLIED 0) 0) (((fun z : State => { z with now := us 100000 }) (((fun z : State => (z.lights 0x20).lights 0x21) (((fun z : State => (z.clk 11).lights 0x40) (((fun z : State => z.clk 35) (((((lit 0x21).runs 0)).set (SLP.SLOT_STAT.HOLD 0) 0).modGv 0 (fun x => { x with frames := 3 })))))))))))) 0 (State.now (((fun z : State => z.set (SLP.GAIN_STAT.APPLIED 0) 0) (((fun z : State => { z with now := us 100000 }) (((fun z : State => (z.lights 0x20).lights 0x21) (((fun z : State => (z.clk 11).lights 0x40) (((fun z : State => z.clk 35) (((((lit 0x21).runs 0)).set (SLP.SLOT_STAT.HOLD 0) 0).modGv 0 (fun x => { x with frames := 3 })))))))))))) - 512 * State.sampleT (((fun z : State => z.set (SLP.GAIN_STAT.APPLIED 0) 0) (((fun z : State => { z with now := us 100000 }) (((fun z : State => (z.lights 0x20).lights 0x21) (((fun z : State => (z.clk 11).lights 0x40) (((fun z : State => z.clk 35) (((((lit 0x21).runs 0)).set (SLP.SLOT_STAT.HOLD 0) 0).modGv 0 (fun x => { x with frames := 3 })))))))))))) 0) [⟨100,
    65536 ^ 2, 65536 ^ 2, 65536 ^ 2, (2 ^ 90, 0), (2 ^ 90, 0)⟩]),
    (State.now (((fun z : State => z.set (SLP.GAIN_STAT.APPLIED 0) 0) (((fun z : State => { z with now := us 100000 }) (((fun z : State => (z.lights 0x20).lights 0x21) (((fun z : State => (z.clk 11).lights 0x40) (((fun z : State => z.clk 35) (((((lit 0x21).runs 0)).set (SLP.SLOT_STAT.HOLD 0) 0).modGv 0 (fun x => { x with frames := 3 }))))))))))))),
    (State.now (((fun z : State => z.set (SLP.GAIN_STAT.APPLIED 0) 0) (((fun z : State => { z with now := us 100000 }) (((fun z : State => (z.lights 0x20).lights 0x21) (((fun z : State => (z.clk 11).lights 0x40) (((fun z : State => z.clk 35) (((((lit 0x21).runs 0)).set (SLP.SLOT_STAT.HOLD 0) 0).modGv 0 (fun x => { x with frames := 3 })))))))))))) - 512 * State.sampleT (((fun z : State => z.set (SLP.GAIN_STAT.APPLIED 0) 0) (((fun z : State => { z with now := us 100000 }) (((fun z : State => (z.lights 0x20).lights 0x21) (((fun z : State => (z.clk 11).lights 0x40) (((fun z : State => z.clk 35) (((((lit 0x21).runs 0)).set (SLP.SLOT_STAT.HOLD 0) 0).modGv 0 (fun x => { x with frames := 3 })))))))))))) 0),
    (State.takeFrame (State.modGv (((fun z : State => z.set (SLP.GAIN_STAT.APPLIED 0) 0) (((fun z : State => { z with now := us 100000 }) (((fun z : State => (z.lights 0x20).lights 0x21) (((fun z : State => (z.clk 11).lights 0x40) (((fun z : State => z.clk 35) (((((lit 0x21).runs 0)).set (SLP.SLOT_STAT.HOLD 0) 0).modGv 0 (fun x => { x with frames := 3 })))))))))))) 0 fun g => { g with frameEnd := (State.now (((fun z : State => z.set (SLP.GAIN_STAT.APPLIED 0) 0) (((fun z : State => { z with now := us 100000 }) (((fun z : State => (z.lights 0x20).lights 0x21) (((fun z : State => (z.clk 11).lights 0x40) (((fun z : State => z.clk 35) (((((lit 0x21).runs 0)).set (SLP.SLOT_STAT.HOLD 0) 0).modGv 0 (fun x => { x with frames := 3 }))))))))))))) }) 0 (State.now (((fun z : State => z.set (SLP.GAIN_STAT.APPLIED 0) 0) (((fun z : State => { z with now := us 100000 }) (((fun z : State => (z.lights 0x20).lights 0x21) (((fun z : State => (z.clk 11).lights 0x40) (((fun z : State => z.clk 35) (((((lit 0x21).runs 0)).set (SLP.SLOT_STAT.HOLD 0) 0).modGv 0 (fun x => { x with frames := 3 })))))))))))) - 512 * State.sampleT (((fun z : State => z.set (SLP.GAIN_STAT.APPLIED 0) 0) (((fun z : State => { z with now := us 100000 }) (((fun z : State => (z.lights 0x20).lights 0x21) (((fun z : State => (z.clk 11).lights 0x40) (((fun z : State => z.clk 35) (((((lit 0x21).runs 0)).set (SLP.SLOT_STAT.HOLD 0) 0).modGv 0 (fun x => { x with frames := 3 })))))))))))) 0) (State.frameOf (((fun z : State => z.set (SLP.GAIN_STAT.APPLIED 0) 0) (((fun z : State => { z with now := us 100000 }) (((fun z : State => (z.lights 0x20).lights 0x21) (((fun z : State => (z.clk 11).lights 0x40) (((fun z : State => z.clk 35) (((((lit 0x21).runs 0)).set (SLP.SLOT_STAT.HOLD 0) 0).modGv 0 (fun x => { x with frames := 3 })))))))))))) 0 (State.now (((fun z : State => z.set (SLP.GAIN_STAT.APPLIED 0) 0) (((fun z : State => { z with now := us 100000 }) (((fun z : State => (z.lights 0x20).lights 0x21) (((fun z : State => (z.clk 11).lights 0x40) (((fun z : State => z.clk 35) (((((lit 0x21).runs 0)).set (SLP.SLOT_STAT.HOLD 0) 0).modGv 0 (fun x => { x with frames := 3 })))))))))))) - 512 * State.sampleT (((fun z : State => z.set (SLP.GAIN_STAT.APPLIED 0) 0) (((fun z : State => { z with now := us 100000 }) (((fun z : State => (z.lights 0x20).lights 0x21) (((fun z : State => (z.clk 11).lights 0x40) (((fun z : State => z.clk 35) (((((lit 0x21).runs 0)).set (SLP.SLOT_STAT.HOLD 0) 0).modGv 0 (fun x => { x with frames := 3 })))))))))))) 0) [⟨100,
    65536 ^ 2, 65536 ^ 2, 65536 ^ 2, (2 ^ 90, 0), (2 ^ 90, 0)⟩])), 100, 4919, by decide +kernel⟩,
   ⟨((lit 0)).set (GOV.PROT_STAT.OSC 0) 1, 0, by decide +kernel⟩,
   ⟨((lit 0x23)).set (GOV.PROT_STAT.LATCHED 0) 1, .m0, 1, 0, by decide +kernel⟩,
   ⟨(lit 0x21), .m0, by decide +kernel⟩,
   ⟨(lit 0x23), .m0, 0, 0, 0, by decide +kernel⟩,
   ⟨(lit 0x23), .m0, 0, 0, by decide +kernel⟩⟩

/-- Each hypothesis set of SequencerTables is met. -/
theorem witness_SequencerTables :
    (∃ (s : State) (m : Master) (k : Fin 4) (w : Bool) (v : Word),
      (s.verdict m (0x25048 + 0x1000 * k.val + 4 * w.toNat) v [] (if w.toNat = 0 then entryOk v.toNat else offsetOk (s.seqWord k (s.seqSel k) 0 false) v.toNat) .take)) ∧
    (∃ (s : State) (m : Master) (k : Fin 4) (w : Bool) (v : Word),
      (s.verdict m (0x25088 + 0x1000 * k.val + 4 * w.toNat) v [] (if w.toNat = 0 then cmd0Ok v.toNat else cmd1Ok (s.cmdWord k (s.cmdSel k) 0 false) v.toNat) .take)) ∧
    (∃ (s : State) (m : Master) (k : Fin 4), (s.reaches m) ∧ (s.pageOff (0x25 + k.val) = false)) ∧
    (∃ (s : State) (m : Master) (k : Fin 4) (v : Word), s.takes m (0x25040 + 0x1000 * k.val) v ∧ v.getLsbD 8 = true ∧
      v.getLsbD 0 = true ∧ s.flag (FEC.SEQ_CTL.RUNNING k) = true ∧ s.flag (FEC.SEQ_CTL.PEND k) = true) ∧
    (∃ (s : State) (k : Fin 4), (s.flag (FEC.SEQ_CTL.PEND k) = true) ∧ (s.inReset = false) ∧ (s.resetting (0x25 + k) = false)) ∧
    (∃ (s : State) (m : Master) (k : Fin 4) (v : Word), (s.takes m (0x25040 + 0x1000 * k.val) v) ∧ (v.getLsbD 8 = false) ∧
      (v.getLsbD 0 = true) ∧ (s.flag (FEC.SEQ_CTL.RUNNING k) = false) ∧ ((s.fec k).startDue = false)) ∧
    (∃ (s : State) (m : Master) (k : Fin 4) (v : Word), (s.takes m (0x25040 + 0x1000 * k.val) v) ∧ (v.getLsbD 8 = false) ∧
      (v.getLsbD 0 = false) ∧ (s.flag (FEC.SEQ_CTL.RUNNING k) = true)) ∧
    (∃ (s : State) (k : Fin 4), ((s.fec k).startDue = true) ∧ (s.flag PWR.PAD_RELEASE.FE_HELD = false) ∧
      (s.get PWR.PWR_CMD.STATE < 2) ∧ (s.stopped (0x25 + k) = false) ∧ (s.inReset = false) ∧ ((∀ e ∈ s.lineAt, e.1 / 32 ≠ k.val))) :=
  ⟨⟨(lit 0x25), .m0, 0, false, 0, by decide +kernel⟩,
   ⟨(lit 0x25), .m0, 0, false, 0, by decide +kernel⟩,
   ⟨(lit 0x25), .m0, 0, by decide +kernel⟩,
   ⟨((lit 0x25).set (FEC.SEQ_CTL.RUNNING 0) 1).set (FEC.SEQ_CTL.PEND 0) 1, .m0, 0, 257, by decide +kernel⟩,
   ⟨((lit 0)).set (FEC.SEQ_CTL.PEND 0) 1, 0, by decide +kernel⟩,
   ⟨(((lit 0x25)).set (FEC.SEQ_CTL.RUNNING 0) 0).modFec 0 (fun x => { x with startDue := false }), .m0, 0, 1, by decide +kernel⟩,
   ⟨((lit 0x25)).set (FEC.SEQ_CTL.RUNNING 0) 1, .m0, 0, 0, by decide +kernel⟩,
   ⟨(((lit 0x25)).set PWR.PAD_RELEASE.FE_HELD 0).modFec 0 (fun x => { x with startDue := true }), 0, by decide +kernel⟩⟩

/-- Each hypothesis set of EventsAndRffeFrames is met. -/
theorem witness_EventsAndRffeFrames :
    (∃ (s : State) (k : Fin 4) (e : Fin 1024) (t : Nat) (x : Sched) (old : Option Nat), (s.flag (FEC.SEQ_CTL.RUNNING k) = true) ∧
      (s.resetting (0x25 + k) = false) ∧ (s.nextEvent k e = some (t, x, old)) ∧ (eAct x.w0 < 2) ∧
      (s.lineDiv (32 * k.val + eTarget x.w0) = none) ∧ (Tab.get 0 s.lineAt (32 * k.val + eTarget x.w0) = 0) ∧ (eTarget x.w0 < 32)) ∧
    (∃ (s : State) (k : Fin 4) (e : Fin 1024) (t : Nat) (x : Sched) (old : Option Nat) (e' : Fin 1024),
      (s.flag (FEC.SEQ_CTL.RUNNING k) = true) ∧ (s.resetting (0x25 + k) = false) ∧ (s.nextEvent k e = some (t, x, old)) ∧
      (eAct x.w0 < 2) ∧ (s.lineDiv (32 * k.val + eTarget x.w0) = none) ∧ (e.val < e'.val) ∧ (t ≤ s.now) ∧
      (Tab.get 0 s.lineAt (32 * k.val + eTarget x.w0) = 1 + 1024 * s.now + e'.val) ∧ (eTarget x.w0 < 32)) ∧
    (∃ (s : State) (k : Fin 4) (e : Fin 1024) (t : Nat) (x : Sched) (old : Option Nat) (b : _),
      (s.flag (FEC.SEQ_CTL.RUNNING k) = true) ∧ (s.resetting (0x25 + k) = false) ∧ (s.nextEvent k e = some (t, x, old)) ∧
      (eAct x.w0 = 2) ∧ (tbit x.c0 31 = true) ∧ (b = 2 * k.val + bits x.c0 30 1) ∧ ((s.bus b).queue.length < 16)) ∧
    (∃ (s : State) (k : Fin 4) (e : Fin 1024) (t : Nat) (x : Sched) (old : Option Nat) (b : _),
      (s.flag (FEC.SEQ_CTL.RUNNING k) = true) ∧ (s.resetting (0x25 + k) = false) ∧ (s.nextEvent k e = some (t, x, old)) ∧
      (eAct x.w0 = 2) ∧ (tbit x.c0 31 = true) ∧ (b = 2 * k.val + bits x.c0 30 1) ∧
      (16 ≤ ((s.bus b).queue.filter fun f => decide (f.inst ≤ max s.now t)).length)) ∧
    (∃ (s : State) (b : Fin 8) (f : Frame) (rest : List Frame) (w : Nat × Nat), (s.busReady b = true) ∧
      ((s.bus b).readWait = false) ∧ (s.resetting (0x25 + b / 2) = false) ∧ ((s.bus b).queue = f :: rest) ∧
      (w = s.frameTime b (framePeriods f.w0) (max s.now f.inst) false) ∧ (max s.now w.1 < f.inst + us 1)) ∧
    (∃ (s : State) (b : Fin 8) (f : Frame) (rest : List Frame) (w : Nat × Nat), (s.busReady b = true) ∧
      ((s.bus b).readWait = false) ∧ (s.resetting (0x25 + b / 2) = false) ∧ ((s.bus b).queue = f :: rest) ∧
      (w = s.frameTime b (framePeriods f.w0) (max s.now f.inst) false) ∧ (f.inst + us 1 ≤ max s.now w.1)) ∧
    (∃ (s : State) (b : Fin 8) (f : Frame), ((s.bus b).cur = some f)) ∧
    (∃ (s : State) (m : Master) (k : Fin 4) (v : Word) (b : Nat), (b = 2 * k.val + (v.getLsbD 29).toNat) ∧
      (s.verdict m (0x25090 + 0x1000 * k.val) v (fieldsAt (0x25090 + 0x1000 * k.val)) (v.getLsbD 28 || decide (bits v.toNat 16 8 < 0x20)) .take) ∧
      (v.getLsbD 8 = true) ∧ (s.flag (FEC.RFFE_RD.BUSY k) = false)) ∧
    (∃ (s : State) (k : Fin 4) (b : Nat), (b = 2 * k.val ∨ b = 2 * k.val + 1) ∧ ((s.bus b).readRun = true)) :=
  ⟨⟨((fun z : State => { z with seqTab := [(8192, 2 ^ 31)] }) (((lit 0)).set (FEC.SEQ_CTL.RUNNING 0) 1)), 0, 0,
    (State.now (((fun z : State => { z with seqTab := [(8192, 2 ^ 31)] }) (((lit 0)).set (FEC.SEQ_CTL.RUNNING 0) 1)))),
    { entry := 0, w0 := 2 ^ 31, c0 := 0 }, some 0, by decide +kernel⟩,
   ⟨((fun z : State => { z with seqTab := [(8192, 2 ^ 31)], lineAt := [(0, 2 + 1024 * z.now)] }) (((lit 0)).set (FEC.SEQ_CTL.RUNNING 0) 1)),
    0, 0,
    (State.now (((fun z : State => { z with seqTab := [(8192, 2 ^ 31)], lineAt := [(0, 2 + 1024 * z.now)] }) (((lit 0)).set (FEC.SEQ_CTL.RUNNING 0) 1)))),
    { entry := 0, w0 := 2 ^ 31, c0 := 0 }, some 0, 1, by decide +kernel⟩,
   ⟨((fun z : State => { z with seqTab := [(8192, 2 ^ 31 + 2 ^ 21)], cmdTab := [(2048, 2 ^ 31)] }) (((lit 0)).set (FEC.SEQ_CTL.RUNNING 0) 1)),
    0, 0,
    (State.now (((fun z : State => { z with seqTab := [(8192, 2 ^ 31 + 2 ^ 21)], cmdTab := [(2048, 2 ^ 31)] }) (((lit 0)).set (FEC.SEQ_CTL.RUNNING 0) 1)))),
    { entry := 0, w0 := 2 ^ 31 + 2 ^ 21, c0 := 2 ^ 31 }, some 0, 0, by decide +kernel⟩,
   ⟨((fun z : State => z.modBus 0 fun x => { x with queue := List.replicate 16 {} }) (((fun z : State => { z with seqTab := [(8192, 2 ^ 31 + 2 ^ 21)], cmdTab := [(2048, 2 ^ 31)] }) (((lit 0)).set (FEC.SEQ_CTL.RUNNING 0) 1)))),
    0, 0,
    (State.now (((fun z : State => z.modBus 0 fun x => { x with queue := List.replicate 16 {} }) (((fun z : State => { z with seqTab := [(8192, 2 ^ 31 + 2 ^ 21)], cmdTab := [(2048, 2 ^ 31)] }) (((lit 0)).set (FEC.SEQ_CTL.RUNNING 0) 1)))))),
    { entry := 0, w0 := 2 ^ 31 + 2 ^ 21, c0 := 2 ^ 31 }, some 0, 0, by decide +kernel⟩,
   ⟨((fun z : State => z.modBus 0 fun x => { x with queue := [{ inst := us 1000 }] }) (((fun z : State => ({ z with now := us 1000 } : State).set (FEC.RFFE_CFG.EN0 0) 1) ((((lit 0)).modBus 0 (fun x => { x with readWait := false })).modBus 0 (fun x => { x with queue := { inst := us 1000 } :: [] }))))),
    0, { inst := us 1000 }, [],
    (State.frameTime (((fun z : State => z.modBus 0 fun x => { x with queue := [{ inst := us 1000 }] }) (((fun z : State => ({ z with now := us 1000 } : State).set (FEC.RFFE_CFG.EN0 0) 1) ((((lit 0)).modBus 0 (fun x => { x with readWait := false })).modBus 0 (fun x => { x with queue := { inst := us 1000 } :: [] })))))) 0 (framePeriods 0) (max (State.now (((fun z : State => z.modBus 0 fun x => { x with queue := [{ inst := us 1000 }] }) (((fun z : State => ({ z with now := us 1000 } : State).set (FEC.RFFE_CFG.EN0 0) 1) ((((lit 0)).modBus 0 (fun x => { x with readWait := false })).modBus 0 (fun x => { x with queue := { inst := us 1000 } :: [] }))))))) (us 1000)) false),
    by decide +kernel⟩,
   ⟨((fun z : State => z.modBus 0 fun x => { x with queue := [{}] }) (((fun z : State => ({ z with now := us 1000 } : State).set (FEC.RFFE_CFG.EN0 0) 1) ((((lit 0)).modBus 0 (fun x => { x with readWait := false })).modBus 0 (fun x => { x with queue := {} :: [] }))))),
    0, {}, [],
    (State.frameTime (((fun z : State => z.modBus 0 fun x => { x with queue := [{}] }) (((fun z : State => ({ z with now := us 1000 } : State).set (FEC.RFFE_CFG.EN0 0) 1) ((((lit 0)).modBus 0 (fun x => { x with readWait := false })).modBus 0 (fun x => { x with queue := {} :: [] })))))) 0 (framePeriods 0) (max (State.now (((fun z : State => z.modBus 0 fun x => { x with queue := [{}] }) (((fun z : State => ({ z with now := us 1000 } : State).set (FEC.RFFE_CFG.EN0 0) 1) ((((lit 0)).modBus 0 (fun x => { x with readWait := false })).modBus 0 (fun x => { x with queue := {} :: [] }))))))) 0) false),
    by decide +kernel⟩,
   ⟨((fun z : State => z.modBus 0 fun x => { x with cur := some {} }) (((lit 0)).modBus 0 (fun x => { x with cur := some {} }))),
    0, {}, by decide +kernel⟩,
   ⟨((lit 0x25)).set (FEC.RFFE_RD.BUSY 0) 0, .m0, 0, 0x1000100, 0, by decide +kernel⟩,
   ⟨((lit 0)).modBus 0 (fun x => { x with readRun := true }), 0, 0, by decide +kernel⟩⟩

/-- Each hypothesis set of TimebaseAndPatterns is met. -/
theorem witness_TimebaseAndPatterns :
    (∃ (s : State) (m : Master) (v : Word), (s.takes m 0xE040 v) ∧ (s.active = []) ∧
      ((bits v.toNat 0 2 = 3 → s.donorPat (bits v.toNat 4 4) = true))) ∧
    (∃ (s : State) (m : Master) (v : Word), (s.takes m 0xE040 v) ∧ (s.active ≠ [] ∨ (bits v.toNat 0 2 = 3 ∧
      s.donorPat (bits v.toNat 4 4) = false))) ∧
    (∃ (s : State), (s.tb.epochDue = true) ∧ (s.tbValid = true)) ∧
    (∃ (s : State) (e : Nat) (n : Nat) (pps : Int) (off : Int), (s.tb.epoch = some e) ∧ (s.tb.epochDue = false) ∧
      (s.tbValid = true) ∧ (e ≤ s.now) ∧ (n = e + ceilTo 983040000 (max s.now (s.tb.measuredAt + 2049) - e)) ∧
      (off = (s.until n).tbError pps) ∧ (s.get TDD.TB_CTL.SRC = 1)) ∧
    (∃ (s : State) (e : Nat) (n : Nat) (pps : Int) (off : Int), (s.tb.epoch = some e) ∧ (s.tb.epochDue = false) ∧
      (s.tbValid = true) ∧ (e ≤ s.now) ∧ (n = e + ceilTo 983040000 (max s.now (s.tb.measuredAt + 2049) - e)) ∧
      (off = (s.until n).tbError pps) ∧ (-10000 ≤ off) ∧ (off ≤ 10000)) ∧
    (∃ (s : State) (e : Nat) (n : Nat) (pps : Int) (off : Int), (s.tb.epoch = some e) ∧ (s.tb.epochDue = false) ∧
      (s.tbValid = true) ∧ (e ≤ s.now) ∧ (n = e + ceilTo 983040000 (max s.now (s.tb.measuredAt + 2049) - e)) ∧
      (off = (s.until n).tbError pps) ∧ (off < -10000 ∨ 10000 < off)) ∧
    (∃ (s : State) (m : Master) (v : Word), (s.takes m 0xE050 v)) ∧
    (∃ (s : State) (m : Master), (s.reaches m) ∧ (s.pageOff 0x0E = false)) ∧
    (∃ (s : State) (m : Master) (v : Word) (p : Nat), p = s.patSel ∧
      s.verdict m 0xE054 v (fieldsAt (0x11000C + 0x200 * p)) true .take ∧ v.getLsbD 0 = true ∧ (s.patShadow p).badEdges = true) ∧
    (∃ (s : State) (p : Fin 16), (s.flag (TDD.PAT_CTL.PEND p) = true) ∧ (s.patSlots p = [])) :=
  ⟨⟨(lit 0xe), .m0, 0, by decide +kernel⟩,
   ⟨((fun z : State => z.runs 0) ((lit 0xe))), .m0, 0, by decide +kernel⟩,
   ⟨((fun z : State => z.set TDD.TB_CTL.SRC 1) ((let z : State := (lit 0); { z with tb := { z.tb with epochDue := true } } : State))),
    by decide +kernel⟩,
   ⟨((fun z : State => z.set TDD.TB_CTL.SRC 1) (((fun z : State => { z with tb := { z.tb with epoch := some 0, epochDue := false } }) ((let z : State := ((lit 0)).set TDD.TB_CTL.SRC 1; { z with tb := { z.tb with epochDue := false } } : State))))),
    0, 983040000, 0, 0, by decide +kernel⟩,
   ⟨((fun z : State => z.set TDD.TB_CTL.SRC 1) (((fun z : State => { z with tb := { z.tb with epoch := some 0, epochDue := false } }) ((let z : State := (lit 0); { z with tb := { z.tb with epochDue := false } } : State))))),
    0, 983040000, 0, 0, by decide +kernel⟩,
   ⟨((fun z : State => z.set TDD.TB_CTL.SRC 1) (((fun z : State => { z with tb := { z.tb with epoch := some 0, epochDue := false } }) ((let z : State := (lit 0); { z with tb := { z.tb with epochDue := false } } : State))))),
    0, 983040000, 10001, 10001, by decide +kernel⟩,
   ⟨(lit 0xe), .m0, 0, by decide +kernel⟩,
   ⟨(lit 0x0E), .m0, by decide +kernel⟩,
   ⟨{ (lit 0xE).set (TDD.PAT_CFG.VALID 1) 1 with patEdge := [(16, 0x80000001), (17, 0x80000001)] }, .m0, 1, 1, by decide +kernel⟩,
   ⟨((lit 0)).set (TDD.PAT_CTL.PEND 0) 1, 0, by decide +kernel⟩⟩

/-- Each hypothesis set of DonorSyncAndDiversity is met. -/
theorem witness_DonorSyncAndDiversity :
    (∃ (s : State) (p : Fin 16) (cell : Fin 1024), (s.detects p = true) ∧ (s.get (TDD.SYNC_STAT.STATE p) = 0) ∧
      (s.cellOk p cell = true)) ∧
    (∃ (s : State) (p : Fin 16) (cell : Fin 1024), (s.detects p = true) ∧ (s.get (TDD.SYNC_STAT.STATE p) ≠ 0) ∧
      (s.get (TDD.SYNC_STAT.CELL p) ≠ cell.val)) ∧
    (∃ (s : State) (p : Fin 16) (err : Int) (cell : Fin 1024), (s.detects p = true) ∧ (s.get (TDD.SYNC_STAT.STATE p) = 1) ∧
      (s.get (TDD.SYNC_STAT.CELL p) = cell.val) ∧ (err < -8 ∨ 8 < err)) ∧
    (∃ (s : State) (p : Fin 16) (err : Int) (cell : Fin 1024), (s.detects p = true) ∧ (s.get (TDD.SYNC_STAT.STATE p) = 1) ∧
      (s.get (TDD.SYNC_STAT.CELL p) = cell.val) ∧ (-8 ≤ err) ∧ (err ≤ 8) ∧ ((s.pat p).good < 2)) ∧
    (∃ (s : State) (p : Fin 16) (err : Int) (cell : Fin 1024), (s.detects p = true) ∧ (s.get (TDD.SYNC_STAT.STATE p) = 1) ∧
      (s.get (TDD.SYNC_STAT.CELL p) = cell.val) ∧ (-8 ≤ err) ∧ (err ≤ 8) ∧ (2 ≤ (s.pat p).good)) ∧
    (∃ (s : State) (p : Fin 16) (cell : Fin 1024), (s.detects p = true) ∧ (s.get (TDD.SYNC_STAT.STATE p) = 2) ∧
      (s.get (TDD.SYNC_STAT.CELL p) = cell.val)) ∧
    (∃ (s : State) (p : Fin 16), (s.donorPat p = true) ∧ (s.resetting 0x0E = false) ∧ (s.get (TDD.SYNC_STAT.STATE p) = 2) ∧
      (s.get (TDD.SYNC_STAT.MISSES p) < 15) ∧ (s.get (TDD.SYNC_STAT.MISSES p) + 1 < bits (s.pat p).live.sync 20 4)) ∧
    (∃ (s : State) (p : Fin 16), (s.donorPat p = true) ∧ (s.resetting 0x0E = false) ∧ (s.get (TDD.SYNC_STAT.STATE p) = 2) ∧
      (s.get (TDD.SYNC_STAT.MISSES p) < 15) ∧ (bits (s.pat p).live.sync 20 4 ≤ s.get (TDD.SYNC_STAT.MISSES p) + 1)) ∧
    (∃ (s : State) (p : Fin 16) (e : Fin 16), ((s.pat p).live.valid = true) ∧ ((s.pat p).timing = true) ∧
      (tbit ((s.pat p).live.edges.getD e 0) 31 = true)) ∧
    (∃ (s : State) (m : Master) (d : Fin 8) (v : Word), (s.takes m (0x29040 + 4 * d.val) v) ∧ (s.divRefused v = true)) ∧
    (∃ (s : State) (m : Master) (d : Fin 8) (v : Word), (s.takes m (0x29040 + 4 * d.val) v) ∧ (s.divRefused v = false)) ∧
    (∃ (s : State) (d : Fin 8) (diff : Int) (shown : Int), (shown = max (-128) (min 127 diff)) ∧ (s.divReady d = true) ∧
      (s.get DIV.POLICY.AVG = 0) ∧ ((s.dv d).seen ≠ s.divBurst d + 1)) ∧
    (∃ (s : State) (d : Fin 8), (s.divReady d = true) ∧ ((s.dv d).seen = s.divBurst d + 1)) ∧
    (∃ (s : State) (d : Fin 8) (t : Nat), ((s.dv d).lineAt = some t) ∧ (t ≤ s.now) ∧ ((∀ e : Fin 8,
      e ≠ d → (s.dv e).lineAt = none))) ∧
    (∃ (s : State) (d : Fin 8), (s.inReset = false) ∧ (s.resetting 0x29 = false) ∧ (s.flag (DIV.CFG.EN d) = true) ∧
      (s.flag (DIV.STAT.PEND d) = true) ∧ ((s.dv d).pastS1 = false) ∧ ((∀ i ∈ s.divSlots d true, (s.cs i).layAlt = false))) ∧
    (∃ (s : State) (d : Fin 8), (s.inReset = false) ∧ (s.resetting 0x29 = false) ∧ (s.flag (DIV.CFG.EN d) = true) ∧
      (s.flag (DIV.STAT.PEND d) = true) ∧ ((s.dv d).pastS1 = true) ∧ ((∀ i ∈ s.divSlots d false, (s.cs i).layAlt = false))) :=
  ⟨⟨((fun z : State => z.donor) (((lit 0)).set (TDD.SYNC_STAT.STATE 0) 0)), 0, 0, by decide +kernel⟩,
   ⟨((fun z : State => z.donor) ((((lit 0)).set (TDD.SYNC_STAT.STATE 0) 1).set (TDD.SYNC_STAT.CELL 0) 1)), 0, 0, by decide +kernel⟩,
   ⟨((fun z : State => z.donor) ((((lit 0)).set (TDD.SYNC_STAT.STATE 0) 1).set (TDD.SYNC_STAT.CELL 0) 0)), 0, 9, 0,
    by decide +kernel⟩,
   ⟨((fun z : State => z.donor) ((((lit 0)).set (TDD.SYNC_STAT.STATE 0) 1).set (TDD.SYNC_STAT.CELL 0) 0)), 0, 8, 0,
    by decide +kernel⟩,
   ⟨((fun z : State => z.modPat 0 fun x => { x with good := 2 }) (((fun z : State => z.donor) (((((lit 0)).set (TDD.SYNC_STAT.STATE 0) 1).set (TDD.SYNC_STAT.CELL 0) 0).modPat 0 (fun x => { x with good := 2 }))))),
    0, 8, 0, by decide +kernel⟩,
   ⟨((fun z : State => z.donor) ((((lit 0)).set (TDD.SYNC_STAT.STATE 0) 2).set (TDD.SYNC_STAT.CELL 0) 0)), 0, 0, by decide +kernel⟩,
   ⟨((fun z : State => z.modPat 0 fun x => { x with live := { x.live with sync := 2 ^ 21 } }) (((fun z : State => z.donor) (((lit 0)).set (TDD.SYNC_STAT.STATE 0) 2)))),
    0, by decide +kernel⟩,
   ⟨((fun z : State => z.donor) ((((lit 0)).set (TDD.SYNC_STAT.STATE 0) 2).set (TDD.SYNC_STAT.MISSES 0) 8)), 0, by decide +kernel⟩,
   ⟨((fun z : State => z.modPat 0 fun x => { x with live := { x.live with edges := [2 ^ 31] } }) (((fun z : State => z.donor) (((lit 0)).modPat 0 (fun x => { x with timing := true }))))),
    0, 0, by decide +kernel⟩,
   ⟨((fun z : State => z.runs 0) ((lit 0x29))), .m0, 0, 0, by decide +kernel⟩,
   ⟨(lit 0x29), .m0, 0, 0, by decide +kernel⟩,
   ⟨((fun z : State => z.set (chanPwr (z.divOther 0)) 1) ((((((lit 0)).set DIV.POLICY.AVG 0).set (DIV.CFG.EN 0) 1).set (TDD.SYNC_STAT.STATE 0) tTrack).set (SYN.SYN_STAT.STEP 0) yRunning)),
    0, 0, 0, by decide +kernel⟩,
   ⟨(let z : State := ((((lit 0x29).set (DIV.CFG.EN 0) 1).set (TDD.SYNC_STAT.STATE 0) tTrack).set (SYN.SYN_STAT.STEP 0) 8).set (chanPwr 0) 1; z.modDv 0 fun x => { x with seen := z.divBurst 0 + 1 }),
    0, by decide +kernel⟩,
   ⟨((lit 0)).modDv 0 (fun x => { x with lineAt := some 0 }), 0, 0, by decide +kernel⟩,
   ⟨((((lit 0)).set (DIV.CFG.EN 0) 1).set (DIV.STAT.PEND 0) 1).modDv 0 (fun x => { x with pastS1 := false }), 0, by decide +kernel⟩,
   ⟨((((lit 0)).set (DIV.CFG.EN 0) 1).set (DIV.STAT.PEND 0) 1).modDv 0 (fun x => { x with pastS1 := true }), 0, by decide +kernel⟩⟩

/-- Each hypothesis set of PowerTableCommands is met. -/
theorem witness_PowerTableCommands :
    (∃ (s : State) (m : Master) (v : Word), (s.takes m 0x2A044 v) ∧
      (s.flag PWT.SEL.BANK = true ∨ s.pwtPend (s.get PWT.SEL.PORT) = false)) ∧
    (∃ (s : State) (m : Master) (v : Word), (s.takes m 0x2A044 v) ∧ (s.flag PWT.SEL.BANK = false) ∧
      (s.pwtPend (s.get PWT.SEL.PORT) = true)) ∧
    (∃ (s : State) (m : Master) (v : Word), (s.takes m 0x2A054 v) ∧ (s.pwtPend (s.get PWT.PROF_SEL.PORT) = false)) ∧
    (∃ (s : State) (m : Master) (v : Word), (s.takes m 0x2A054 v) ∧ (s.pwtPend (s.get PWT.PROF_SEL.PORT) = true)) ∧
    (∃ (s : State) (m : Master), (s.reaches m) ∧ (s.pageOff 0x2A = false)) ∧
    (∃ (s : State) (m : Master) (v : Word), (s.takes m 0x2A048 v)) ∧
    (∃ (s : State) (p : Fin 32), (s.pwtPend p = true) ∧ (s.resetting 0x2A = false)) ∧
    (∃ (s : State) (p : Fin 32) (e : Nat) (at_ : Nat) (w : Nat), (Tab.get 0 s.pwtStepAt p = 256 * at_ + e + 1) ∧ (e < 256) ∧
      (w = Tab.get 0 s.pwt (8192 + 256 * p + e)) ∧ (s.pageOff 0x2A = false)) ∧
    (∃ (s : State) (p : Fin 32) (x : LoopNext) (idx : Nat) (t : Nat) (w : Nat) (k : Fin 4), (s.flag CLV.TIMING.NOW = true) ∧
      (s.stopped 0x22 = false) ∧ ((s.loop (512 + p)).due = true) ∧ (s.laneOf (512 + p) = k) ∧
      (200 * s.doneCycle (512 + p) ≤ s.get (CLV.LOOP_CTL.DEADLINE (512 + p)) * 98304) ∧ ((s.loop (512 + p)).nxt = some x) ∧
      (idx = (clampInt 0 255 ((64 * sext 32 (toField 32 x.u0) + 134217728) / 268435456)).toNat) ∧
      (idx ≠ s.get (PWT.PORT_STAT.INDEX p)) ∧ (t = s.gridAt p (max s.now (s.clv.start + 2 * s.doneCycle (512 + p)) + us 5)) ∧
      (w = Tab.get 0 s.pwt (8192 + 256 * p + idx)) ∧ ((∀ f,
      s.attFrame p w = some f → (s.bus (2 * f.page + bits f.w0 30 1)).queue.length < 16))) ∧
    (∃ (s : State) (m : Master) (p : Fin 32) (v : Word), (s.takes m (0x2A100 + 4 * p.val) v) ∧ (s.bindClash p v = true)) ∧
    (∃ (s : State) (m : Master) (p : Fin 32) (v : Word), (s.takes m (0x2A100 + 4 * p.val) v) ∧ (s.bindClash p v = false)) :=
  ⟨⟨((lit 0x2a)).set PWT.SEL.BANK 1, .m0, 0, by decide +kernel⟩,
   ⟨(((lit 0x2a)).set PWT.SEL.BANK 0).set PWT.PEND.PORTS 1, .m0, 0, by decide +kernel⟩,
   ⟨(lit 0x2a), .m0, 0, by decide +kernel⟩,
   ⟨((lit 0x2a)).set PWT.PEND.PORTS 1, .m0, 0, by decide +kernel⟩,
   ⟨(lit 0x2A), .m0, by decide +kernel⟩,
   ⟨(lit 0x2a), .m0, 0, by decide +kernel⟩,
   ⟨((lit 0)).set PWT.PEND.PORTS 1, 0, by decide +kernel⟩,
   ⟨((fun z : State => { z with pwtStepAt := [(0, 1)] }) ((lit 0x2A))), 0, 0, 0, 0, by decide +kernel⟩,
   ⟨((fun z : State => z.lights 0x22) ((((((lit 0x22).set CLV.TIMING.NOW 1).set (CLV.LOOP_CTL.DEADLINE 512) 100).modLoop 512 (fun x => { x with due := true, nxt := some { u0 := 2 ^ 28 } }))))),
    0, { u0 := 2 ^ 28 }, 64,
    (State.gridAt (((fun z : State => z.lights 0x22) ((((((lit 0x22).set CLV.TIMING.NOW 1).set (CLV.LOOP_CTL.DEADLINE 512) 100).modLoop 512 (fun x => { x with due := true, nxt := some { u0 := 2 ^ 28 } })))))) 0 (max (State.now (((fun z : State => z.lights 0x22) ((((((lit 0x22).set CLV.TIMING.NOW 1).set (CLV.LOOP_CTL.DEADLINE 512) 100).modLoop 512 (fun x => { x with due := true, nxt := some { u0 := 2 ^ 28 } }))))))) ((State.clv (((fun z : State => z.lights 0x22) ((((((lit 0x22).set CLV.TIMING.NOW 1).set (CLV.LOOP_CTL.DEADLINE 512) 100).modLoop 512 (fun x => { x with due := true, nxt := some { u0 := 2 ^ 28 } }))))))).start + 2 * State.doneCycle (((fun z : State => z.lights 0x22) ((((((lit 0x22).set CLV.TIMING.NOW 1).set (CLV.LOOP_CTL.DEADLINE 512) 100).modLoop 512 (fun x => { x with due := true, nxt := some { u0 := 2 ^ 28 } })))))) 512) + us 5)),
    0, 0, by decide +kernel⟩,
   ⟨((fun z : State => z.set (PWT.PORT_CFG.BIAS_EN 1) 1) ((lit 0x2a))), .m0, 0, (2 ^ 30), by decide +kernel⟩,
   ⟨(lit 0x2a), .m0, 0, 0, by decide +kernel⟩⟩

/-- Each hypothesis set of TransmitEnables is met. -/
theorem witness_TransmitEnables :
    (∃ (s : State) (m : Master) (v : Word), (s.takes m 0x2A058 v)) ∧
    (∃ (s : State) (p : Fin 32), (s.txPending p = true) ∧ (s.flag (SYN.SYN_STAT.READY (p.val / 4)) = true) ∧
      (s.now + 1 ≤ Tab.get 0 s.txenAt p + us 500)) ∧
    (∃ (s : State), (s.get PWR.PWR_CMD.STATE = pStandby)) ∧
    (∃ (s : State) (p : Fin 32), (s.txPending p = true) ∧ (s.get PWR.PWR_CMD.STATE ≠ pStandby) ∧
      (s.flag (SYN.SYN_STAT.READY (p.val / 4)) = false)) :=
  ⟨⟨(lit 0x2a), .m0, 0, by decide +kernel⟩,
   ⟨(((lit 0)).set (SYN.SYN_STAT.READY (0 / 4)) 1).set PWT.TXPEND.PEND 1, 0, by decide +kernel⟩,
   ⟨((lit 0)).set PWR.PWR_CMD.STATE pStandby, by decide +kernel⟩,
   ⟨(((lit 0)).set (SYN.SYN_STAT.READY (0 / 4)) 0).set PWT.TXPEND.PEND 1, 0, by decide +kernel⟩⟩

/-- Each hypothesis set of ProtectionTrips is met. -/
theorem witness_ProtectionTrips :
    (∃ (s : State) (p : Fin 32) (r : Fin 64) (powers : List (Nat × Int)) (sum : Int), (s.active.Nodup) ∧
      (sum = s.portSum p r powers) ∧ (sum ≤ s.portLimit p r)) ∧
    (∃ (s : State) (p : Fin 32) (r : Fin 64) (powers : List (Nat × Int)) (sum : Int), (s.active.Nodup) ∧
      (sum = s.portSum p r powers) ∧ (s.portLimit p r < sum)) ∧
    (∃ (s : State) (i : Fin 512), (s.stopped 0x23 = false) ∧ ((s.gv i).pclamp ≠ 0) ∧ (i.val ∈ s.active) ∧ ((∀ t,
      (s.gv i).pLow = some t → t ≤ (s.gv i).pAt))) ∧
    (∃ (s : State) (i : Fin 512) (n later : Nat) (est c : Int), s.running i = true ∧ s.uplink i = true ∧ s.stopped 0x23 = false ∧
      n = max s.now (s.frameAt (max s.now ((s.gv i).noiseAt + 1)) + 983040 * later) ∧ s.noiseCeiling i = some c ∧
      (s.until n).noiseEst i = some est ∧ est ≤ c) ∧
    (∃ (s : State) (i : Fin 512) (n later : Nat) (est c : Int), s.running i = true ∧ s.uplink i = true ∧ s.stopped 0x23 = false ∧
      n = max s.now (s.frameAt (max s.now ((s.gv i).noiseAt + 1)) + 983040 * later) ∧ s.noiseCeiling i = some c ∧
      (s.until n).noiseEst i = some est ∧ c < est) ∧
    (∃ (s : State) (i : Fin 512), (s.stopped 0x23 = false) ∧ ((s.gv i).nred ≠ 0) ∧ (i.val ∈ s.active) ∧ ((∀ t,
      (s.gv i).nLow = some t → t ≤ (s.gv i).nAt))) ∧
    (∃ (s : State) (p : Fin 32) (zone : Bool) (b : Nat) (x : Int) (k : Nat), (k = 8192 * (2 * p.val + zone.toNat) + b) ∧
      (b < 8192) ∧ (s.dwelling p zone.toNat = true) ∧ (s.inZone p zone.toNat b = true) ∧ (s.overMask p (b, x) = true) ∧
      (Tab.get 0 s.maskSeen k = 0)) ∧
    (∃ (s : State) (p : Fin 32) (zone : Bool) (b : Nat) (x : Int) (k : Nat), (k = 8192 * (2 * p.val + zone.toNat) + b) ∧
      (b < 8192) ∧ (s.dwelling p zone.toNat = true) ∧ (s.inZone p zone.toNat b = true) ∧ (s.overMask p (b, x) = true) ∧
      (Tab.get 0 s.maskSeen k ≠ 0) ∧ (Tab.get 0 s.maskSeen k + us 10 ≤ s.now + 1)) ∧
    (∃ (s : State) (i : Fin 512), (s.flag (GOV.PROT_STAT.MASK i) = true)) ∧
    (∃ (s : State) (l : List (Nat × Nat)), (s.tansy.booted = true) ∧ (s.inReset = false) ∧ (s.flag GOV.PERMIT.PERMIT = true) ∧
      (s.permitFails = none) ∧ ((∃ g, g < 8 ∧ ∃ r, r < 64 ∧ (s.upsetCopies l).copySame g r = false))) ∧
    (∃ (s : State) (l : List (Nat × Nat)), (s.tansy.booted = true) ∧ (s.inReset = false) ∧ (s.flag GOV.PERMIT.PERMIT = true) ∧
      (s.permitFails = none) ∧ ((∀ g, g < 8 → ∀ r, r < 64 → (s.upsetCopies l).copySame g r = true))) ∧
    (∃ (s : State) (i : Fin 512) (n later : Nat), s.running i = true ∧ s.uplink i = true ∧ s.stopped 0x23 = false ∧
      n = max s.now (s.frameAt (max s.now ((s.gv i).noiseAt + 1)) + 983040 * later) ∧
      (s.noiseCeiling i = none ∨ (s.until n).noiseEst i = none)) :=
  ⟨⟨(lit 0), 0, 0, [], (State.portSum ((lit 0)) 0 0 []), by decide +kernel⟩,
   ⟨(((lit 0)).set (REGL.RANGE_2.P_MAX 0) 0x8000).set (REGL.TX_GAIN.G_TX_MAX 0) 0x7FFF, 0, 0, [],
    (State.portSum ((((lit 0)).set (REGL.RANGE_2.P_MAX 0) 0x8000).set (REGL.TX_GAIN.G_TX_MAX 0) 0x7FFF) 0 0 []), by decide +kernel⟩,
   ⟨((fun z : State => z.runs 0) (((lit 0x23)).modGv 0 (fun x => { x with pclamp := 1 }))), 0, by decide +kernel⟩,
   ⟨noisy 0, 0, 983040, 0, -30080, 0, by decide +kernel⟩,
   ⟨noisy 0x8000, 0, 983040, 0, -30080, -327680, by decide +kernel⟩,
   ⟨((fun z : State => z.runs 0) (((lit 0x23)).modGv 0 (fun x => { x with nred := 1 }))), 0, by decide +kernel⟩,
   ⟨((fun z : State => { z.set (SYN.SYN_STAT.READY 0) 1 with now := us 1000 }) ((lit 0))), 0, false, 0, 10000000, 0,
    by decide +kernel⟩,
   ⟨((fun z : State => { z.set (SYN.SYN_STAT.READY 0) 1 with now := us 1000, maskSeen := [(0, 1)] }) ((lit 0))), 0, false, 0,
    10000000, 0, by decide +kernel⟩,
   ⟨((lit 0)).set (GOV.PROT_STAT.MASK 0) 1, 0, by decide +kernel⟩,
   ⟨((fun z : State => z.set SEC.BOOT_STAT.DONE 1) (((fun z : State => z.lockIn []) ((let z : State := ((lit 0)).set GOV.PERMIT.PERMIT 1; { z with tansy := { z.tansy with booted := true } } : State))))),
    [(0, 1)], by decide +kernel⟩,
   ⟨((fun z : State => z.set SEC.BOOT_STAT.DONE 1) (((fun z : State => z.lockIn []) ((let z : State := ((lit 0)).set GOV.PERMIT.PERMIT 1; { z with tansy := { z.tansy with booted := true } } : State))))),
    [], by decide +kernel⟩,
   ⟨noisy 0x7FFF, 0, 983040, 0, by decide +kernel⟩⟩

/-- Each hypothesis set of BiasOutputs is met. -/
theorem witness_BiasOutputs :
    (∃ (s : State) (c : Fin 64), (s.inReset = false) ∧ (s.biasFree c = false)) ∧
    (∃ (s : State) (c : Fin 64) (p : Nat) (r : Nat), (s.inReset = false) ∧ (s.biasFree c = true) ∧
      (s.resetting (0x0B + c.val / 32) = false) ∧ (s.isSafe c = false) ∧ (s.boundPort c = none) ∧ (s.get (bGen c) = 0) ∧
      ((s.ch c).range = 0 ∨ (s.ch c).range = 3) ∧ (s.get (bCode c) < 65536) ∧
      (s.get (BIA.VAL.CODE (c.val / 32) (c.val % 32)) < 65536) ∧ ((p,
      r) = (s.ch c).hold.getD (s.get (BIA.CFG.STEP (c.val / 32) (c.val % 32)), s.get (BIA.CFG.RATE (c.val / 32) (c.val % 32))))) ∧
    (∃ (s : State) (c : Fin 64), (s.inReset = false) ∧ (s.biasFree c = true) ∧ (s.resetting (0x0B + c.val / 32) = false) ∧
      ((s.ch c).range = 1) ∧ (s.get (bCode c) < 65536)) ∧
    (∃ (s : State) (c : Fin 64), (s.inReset = false) ∧ (s.biasFree c = true) ∧ ((s.ch c).range = 2)) ∧
    (∃ (s : State) (m : Master) (c : Fin 64) (v : Word), (s.takes m (biasAddr c 1) v) ∧ (s.bindActs c = true)) ∧
    (∃ (s : State) (m : Master) (c : Fin 64) (v : Word), (s.takes m (biasAddr c 1) v) ∧ (s.bindActs c = false) ∧
      (s.boundPort c = none) ∧ (s.isSafe c = false) ∧ ((s.ch c).range = 0) ∧ (s.get (bGen c) = 0)) ∧
    (∃ (s : State) (m : Master) (c : Fin 64) (v : Word), (s.takes m (biasAddr c 1) v) ∧ (s.isSafe c = true)) ∧
    (∃ (s : State) (m : Master) (c : Fin 64) (v : Word),
      (s.verdict m (biasAddr c 3) v (fieldsAt (biasAddr c 3)) (bits v.toNat 0 16 < bits v.toNat 16 16) .take)) ∧
    (∃ (s : State) (m : Master) (c : Fin 64) (v : Word), (s.takes m (biasAddr c 0) v) ∧ (bits v.toNat 28 2 ≠ 0) ∧
      (s.bindActs c = true)) ∧
    (∃ (s : State) (m : Master) (c : Fin 64) (v : Word), (s.takes m (biasAddr c 0) v) ∧ (s.bindActs c = false) ∧
      ((s.ch c).range = 0)) ∧
    (∃ (s : State) (m : Master) (i : Fin 2) (v : Word), (s.takes m (0xB048 + 0x1000 * i.val) v)) ∧
    (∃ (s : State), (s.aon.asleep = true)) ∧
    (∃ (s : State), (s.inReset = false) ∧ (s.flag (BIA.SUPPLY.LOW 0) = false) ∧ (s.biasOk = false)) ∧
    (∃ (s : State), (s.inReset = false) ∧ (s.flag (BIA.SUPPLY.LOW 0) = false) ∧ (s.biasOk = true)) ∧
    (∃ (s : State), (s.inReset = false) ∧ (s.flag (BIA.SUPPLY.LOW 0) = true)) :=
  ⟨⟨(lit 0), 0, by decide +kernel⟩,
   ⟨(((lit 0x0B).set (bState 0) 1).set (BIA.SAFE_STAT.SAFE 0) 0), 0,
    (State.get ((((lit 0x0B).set (bState 0) 1).set (BIA.SAFE_STAT.SAFE 0) 0)) (BIA.CFG.STEP 0 0)),
    (State.get ((((lit 0x0B).set (bState 0) 1).set (BIA.SAFE_STAT.SAFE 0) 0)) (BIA.CFG.RATE 0 0)), by decide +kernel⟩,
   ⟨((fun z : State => ((z.set (BIA.SUPPLY.LOW 0) 0).set (bState 0) 1)) (((lit 0)).modCh 0 (fun x => { x with range := 1 }))), 0,
    by decide +kernel⟩,
   ⟨((fun z : State => ((z.set (BIA.SUPPLY.LOW 0) 0).set (bState 0) 1)) (((lit 0)).modCh 0 (fun x => { x with range := 2 }))), 0,
    by decide +kernel⟩,
   ⟨((fun z : State => (z.set (bBound 0) 1).set (BIA.SAFE_STAT.SAFE 0) 0) ((lit 0x0B))), .m0, 0, 0x803F00A, by decide +kernel⟩,
   ⟨(((lit 0x0B)).set (bGen 0) 0).modCh 0 (fun x => { x with range := 0 }), .m0, 0, 0, by decide +kernel⟩,
   ⟨((fun z : State => z.set (BIA.SAFE_STAT.SAFE 0) 1) ((lit 0x0B))), .m0, 0, 0x803F00A, by decide +kernel⟩,
   ⟨(lit 0x0B), .m0, 0, 65536, by decide +kernel⟩,
   ⟨((fun z : State => (z.set (bBound 0) 1).set (BIA.SAFE_STAT.SAFE 0) 0) ((lit 0x0B))), .m0, 0, 0x1803F00A, by decide +kernel⟩,
   ⟨((lit 0x0B)).modCh 0 (fun x => { x with range := 0 }), .m0, 0, 0x0803F00A, by decide +kernel⟩,
   ⟨(lit 0xb), .m0, 0, 0, by decide +kernel⟩,
   ⟨(let z : State := (lit 0); { z with aon := { z.aon with asleep := true } } : State), by decide +kernel⟩,
   ⟨{ ((lit 0)).set (BIA.SUPPLY.LOW 0) 0 with biasOk := false }, by decide +kernel⟩,
   ⟨((lit 0)).set (BIA.SUPPLY.LOW 0) 0, by decide +kernel⟩,
   ⟨((lit 0)).set (BIA.SUPPLY.LOW 0) 1, by decide +kernel⟩⟩

/-- Each hypothesis set of MonitorAndThermal is met. -/
theorem witness_MonitorAndThermal :
    (∃ (s : State) (core : Fin 2) (i : Nat), (s.monRuns = true) ∧ (s.monInput core = some i) ∧ (i < 64) ∧ (i < 48 ∨ 56 ≤ i) ∧
      (s.monQ i = false)) ∧
    (∃ (s : State) (core : Fin 2) (i : Nat), (s.monRuns = true) ∧ (s.monInput core = some i) ∧ (i < 64) ∧ (i < 48 ∨ 56 ≤ i) ∧
      (s.monQ i = true) ∧ (s.mon.queue.length < 1024)) ∧
    (∃ (s : State) (core : Fin 2) (i : Nat), (s.monRuns = true) ∧ (s.monInput core = some i) ∧ (i < 64) ∧ (i < 48 ∨ 56 ≤ i) ∧
      (s.monQ i = true) ∧ (1024 ≤ s.mon.queue.length)) ∧
    (∃ (s : State) (core : Fin 2) (i : Nat) (c : _), (s.monRuns = true) ∧ (s.monInput core = some i) ∧ (i < 64) ∧ (48 ≤ i) ∧
      (i < 56) ∧ (c = 8 * (i - 48) + Tab.get 0 s.mon.mux (i - 48)) ∧ ((s.convTime core).rbCounts c = false)) ∧
    (∃ (s : State) (m : Master) (v : Word), (s.verdict m 0xA040 v (fieldsAt 0xA040) (s.monPairOk v) .take)) ∧
    (∃ (s : State) (m : Master), (s.reaches m) ∧ (s.pageOff 0x0A = false) ∧ (s.readsWithEffect m 0x0A = false)) ∧
    (∃ (s : State) (m : Master), (s.reaches m) ∧ (s.pageOff 0x0A = false) ∧ (s.readsWithEffect m 0x0A = true) ∧ (s.mon.queue = [])) ∧
    (∃ (s : State) (m : Master) (w : _) (rest : _), (s.reaches m) ∧ (s.pageOff 0x0A = false) ∧ (s.readsWithEffect m 0x0A = true) ∧
      (s.mon.queue = w :: rest)) ∧
    (∃ (s : State) (m : Master) (v : Word), (s.takes m 0xA060 v) ∧ (v.getLsbD 16 = true)) ∧
    (∃ (s : State) (i : Fin 72) (v : Int), (s.inReset = false) ∧ (s.resetting 0x09 = false) ∧ (i.val < 40) ∧
      (s.flag (THM.TEMP.FAILED i) = false) ∧ (s.failCause i v = 0) ∧ (s.flag THM.STAT.WARN = false) ∧
      (s.flag THM.REQ.REQ = false) ∧ (v < 760) ∧ ((∀ j < 72, s.flag (THM.TEMP.VALID j) = true → s.shown j < 760))) ∧
    (∃ (s : State) (i : Fin 72) (v : Int), (s.inReset = false) ∧ (s.resetting 0x09 = false) ∧ (i.val < 40) ∧
      (s.flag (THM.TEMP.FAILED i) = false) ∧ (s.failCause i v = 0) ∧ (s.flag THM.STAT.WARN = true) ∧ (s.flag THM.REQ.REQ = true) ∧
      (944 ≤ v)) ∧
    (∃ (s : State) (i : Fin 72) (v : Int), (s.inReset = false) ∧ (s.resetting 0x09 = false) ∧ (i.val < 40) ∧
      (s.flag (THM.TEMP.FAILED i) = false) ∧ (s.failCause i v ≠ 0) ∧ (v < 944)) ∧
    (∃ (s : State), (s.inReset = false) ∧ (s.thm.graceAt ≠ 0) ∧ (800 ≤ s.hot)) ∧
    (∃ (s : State), (s.inReset = false) ∧ (s.thm.graceAt ≠ 0) ∧ (s.hot < 800)) ∧
    (∃ (s : State), (s.inReset = false) ∧ (1 ≤ s.get THM.STAT.LEVEL) ∧ (s.get THM.STAT.LEVEL < 12) ∧ (800 ≤ s.hot)) ∧
    (∃ (s : State) (c : _), (s.inReset = false) ∧ (s.thm.coolAt = some c) ∧ (1 ≤ s.get THM.STAT.LEVEL) ∧
      (s.get THM.STAT.LEVEL ≤ 12) ∧ (s.flag THM.STAT.HOLD = false)) ∧
    (∃ (s : State) (i : Nat) (t : Nat), (s.holdNext = some (i, t))) :=
  ⟨⟨(lit 0), 0, 0, by decide +kernel⟩,
   ⟨((fun z : State => z.set MON.Q_EN_LO.EN 1) ((lit 0))), 0, 0, by decide +kernel⟩,
   ⟨((fun z : State => { z.set MON.Q_EN_LO.EN 1 with mon := { queue := List.replicate 1024 0 } }) ((lit 0))), 0, 0,
    by decide +kernel⟩,
   ⟨((fun z : State => { z with mon := { next := [(1, 48)] } }) ((lit 0))), 1, 48, 0, by decide +kernel⟩,
   ⟨(lit 0xa), .m0, 0, by decide +kernel⟩,
   ⟨(lit 0x0A), .m1, by decide +kernel⟩,
   ⟨(lit 0x0A), .m0, by decide +kernel⟩,
   ⟨((fun z : State => { z with mon := { queue := [0] } }) ((lit 0x0A))), .m0, 0, [], by decide +kernel⟩,
   ⟨(lit 0xa), .m0, 65536, by decide +kernel⟩,
   ⟨((((lit 0)).set (THM.TEMP.FAILED 0) 0).set THM.STAT.WARN 0).set THM.REQ.REQ 0, 0, 0, by decide +kernel⟩,
   ⟨((((lit 0)).set (THM.TEMP.FAILED 0) 0).set THM.STAT.WARN 1).set THM.REQ.REQ 1, 0, 944, by decide +kernel⟩,
   ⟨((lit 0)).set (THM.TEMP.FAILED 0) 0, 0, (-481), by decide +kernel⟩,
   ⟨(let z : State := ((lit 0)).set THM.HOT.TEMP 800; { z with thm := { z.thm with graceAt := 1 } } : State), by decide +kernel⟩,
   ⟨(let z : State := (lit 0); { z with thm := { z.thm with graceAt := 1 } } : State), by decide +kernel⟩,
   ⟨(((lit 0)).set THM.STAT.LEVEL 1).set THM.HOT.TEMP 800, by decide +kernel⟩,
   ⟨((fun z : State => { z with thm := { coolAt := some 0 } }) ((((lit 0)).set THM.STAT.LEVEL 1).set THM.STAT.HOLD 0)), 0,
    by decide +kernel⟩,
   ⟨((fun z : State => { z with thm := { holds := [(0, some (0, some 0))] } }) ((lit 0))), 0, 0, by decide +kernel⟩⟩

/-- Each hypothesis set of FaultCollection is met. -/
theorem witness_FaultCollection :
    (∃ (s : State) (p : Fin 128) (b : Fin 32), (p.val < 0x40) ∧ (p.val ∉ [0x06, 0x07, 0x2C] ∧ ¬(0x18 ≤ p.val ∧ p.val < 0x20)) ∧
      ((srcOf (srcKey p b)).impl = true) ∧ ((srcOf (srcKey p b)).cond = false) ∧ ((srcOf (srcKey p b)).sec = false) ∧
      (s.inReset = false) ∧ (s.pageOff p = false) ∧ ((s.clocksGated && datapathSrc p b) = false) ∧ (s.hasRoom 1) ∧
      ((s.flag FLT.TERM.SET && s.flag GOV.PERMIT.PERMIT) = false) ∧ (s.shadowed p b = false) ∧ (s.gated p b = false) ∧
      (s.srcCls p b < 2) ∧ (s.srcReact p b = 0) ∧ (s.masked p b = false)) ∧
    (∃ (s : State) (p : Fin 128) (b : Fin 32), (p.val < 0x40) ∧ (p.val ∉ [0x06, 0x07, 0x2C] ∧ ¬(0x18 ≤ p.val ∧ p.val < 0x20)) ∧
      ((srcOf (srcKey p b)).impl = true) ∧ ((srcOf (srcKey p b)).cond = false) ∧ ((srcOf (srcKey p b)).sec = false) ∧
      (s.inReset = false) ∧ (s.pageOff p = false) ∧ ((s.clocksGated && datapathSrc p b) = false) ∧ (s.hasRoom 1) ∧
      ((s.flag FLT.TERM.SET && s.flag GOV.PERMIT.PERMIT) = false) ∧ (s.shadowed p b = true ∨ s.gated p b = true)) ∧
    (∃ (s : State) (p : Fin 128) (b : Fin 32), (p.val < 0x40) ∧ (p.val ∉ [0x06, 0x07, 0x2C] ∧ ¬(0x18 ≤ p.val ∧ p.val < 0x20)) ∧
      ((srcOf (srcKey p b)).impl = true) ∧ ((srcOf (srcKey p b)).cond = false) ∧ ((srcOf (srcKey p b)).sec = false) ∧
      (s.inReset = false) ∧ (s.pageOff p = false) ∧ ((s.clocksGated && datapathSrc p b) = false) ∧ (s.hasRoom 1) ∧
      ((s.flag FLT.TERM.SET && s.flag GOV.PERMIT.PERMIT) = false) ∧ (s.shadowed p b = false) ∧ (s.gated p b = false) ∧
      (s.srcCls p b = 3) ∧ (s.srcReact p b = 0x0C) ∧ (s.masked p b = false) ∧ (s.rst.pf ≠ .running) ∧ (s.nvm.group = false) ∧
      (s.rst.faultWaits = false)) ∧
    (∃ (s : State) (p : Fin 128) (b : Fin 32), ((srcOf (srcKey p b)).impl = true) ∧ ((srcOf (srcKey p b)).cond = true) ∧
      ((srcOf (srcKey p b)).sec = false) ∧ (s.holds p b = true)) ∧
    (∃ (s : State) (p : Fin 128) (t : Nat), (Tab.get none s.flt.shadows p = some (t + 1)) ∧ (s.flt.conds = [])) ∧
    (∃ (s : State) (m : Master) (v : Word),
      (s.verdict m 0x4058 v (fieldsAt (0x150000 + 4 * s.srcSel)) (s.srcCfgOk s.srcSel v) .take) ∧
      ((srcOf s.srcSel).fixed = true ∨ (srcOf s.srcSel).sec = true)) ∧
    (∃ (s : State) (m : Master) (v : Word),
      (s.verdict m 0x4058 v (fieldsAt (0x150000 + 4 * s.srcSel)) (s.srcCfgOk s.srcSel v) .take) ∧
      ((srcOf s.srcSel).fixed = false) ∧ ((srcOf s.srcSel).sec = false)) ∧
    (∃ (s : State) (m : Master) (v : Word), (s.takes m 0x4060 v) ∧ (s.owns m = true) ∧ (bits v.toNat 0 16 = 0x4A3C)) ∧
    (∃ (s : State) (m : Master) (v : Word) (t : _), (s.takes m 0x4060 v) ∧ (s.owns m = true) ∧ (bits v.toNat 0 16 = 0xC3B5) ∧
      (s.flt.keyAt = some t) ∧ (s.now ≤ t + ms 1)) ∧
    (∃ (s : State) (m : Master) (v : Word), (s.takes m 0x4060 v) ∧ (s.owns m = true) ∧ (bits v.toNat 0 16 ≠ 0x4A3C) ∧
      (bits v.toNat 0 16 ≠ 0xC3B5 ∨ s.flt.keyAt = none)) ∧
    (∃ (s : State) (m : Master) (v : Word), (s.takes m 0x4064 v)) ∧
    (∃ (s : State) (m : Master) (p : Fin 128) (v : Word), (s.takes m (0x1000 * p.val + 0x18) v) ∧ (s.flag FLT.INJ.EN = false)) ∧
    (∃ (s : State) (m : Master) (p : Fin 128) (v : Word) (b : Fin 32), (s.takes m (0x1000 * p.val + 0x18) v) ∧
      (s.flag FLT.INJ.EN = true) ∧ (v = BitVec.twoPow 32 b) ∧ ((srcOf (srcKey p b)).impl = true) ∧ (s.inReset = false) ∧
      (((srcOf (srcKey p b)).fixed = true ∨ (srcOf (srcKey p b)).sec = true ∨ s.srcCls p b = 4)) ∧ (s.ftm = false)) ∧
    (∃ (s : State) (m : Master) (p : Fin 128) (v : Word) (b : Fin 32), (s.takes m (0x1000 * p.val + 0x18) v) ∧
      (s.flag FLT.INJ.EN = true) ∧ (v = BitVec.twoPow 32 b) ∧ ((srcOf (srcKey p b)).impl = true) ∧ (s.inReset = false) ∧
      ((srcOf (srcKey p b)).fixed = false) ∧ ((srcOf (srcKey p b)).sec = false) ∧ (s.srcCls p b ≠ 4)) ∧
    (∃ (s : State) (m : Master) (p : Fin 128) (v : Word), (s.takes m (0x1000 * p.val + 0x28) v)) :=
  ⟨⟨(lit 0), 0, 0, by decide +kernel⟩,
   ⟨((fun z : State => z.set (HDR.IRQ_STAT.BITS 1) 1) ((lit 0))), 1, 0, by decide +kernel⟩,
   ⟨((fun z : State => (z.set (FLT.SRC_CFG.BSAFE (srcKey 3 5)) 0).set (FLT.SRC_CFG.TRAP (srcKey 3 5)) 0) (((fun z : State => (((z.set (FLT.SRC_CFG.CLASS (srcKey 3 5)) 3).set (FLT.SRC_CFG.ERRN (srcKey 3 5)) 1).set (FLT.SRC_CFG.CRST (srcKey 3 5)) 1).set (FLT.SRC_CFG.BRST (srcKey 3 5)) 0) ((let z : State := (lit 0); { z with rst := { z.rst with faultWaits := false } } : State))))),
    3, 5, by decide +kernel⟩,
   ⟨((fun z : State => { z with flt := { conds := [96] } }) ((lit 0))), 3, 0, by decide +kernel⟩,
   ⟨((fun z : State => { z with flt := { shadows := [(0, some 1)] } }) ((lit 0))), 0, 0, by decide +kernel⟩,
   ⟨((fun z : State => z.set FLT.SRC_SEL.PAGE 8) ((lit 0x4))), .m0, 0x204800, by decide +kernel⟩,
   ⟨(lit 0x4), .m0, 0, by decide +kernel⟩,
   ⟨(lit 0x4), .m0, 0x4A3C, by decide +kernel⟩,
   ⟨((fun z : State => { z with flt := { keyAt := some 0 } }) ((lit 0x4))), .m0, 0xC3B5, 0, by decide +kernel⟩,
   ⟨(lit 0x4), .m0, 0, by decide +kernel⟩,
   ⟨(lit 0x4), .m0, 0, by decide +kernel⟩,
   ⟨((lit 0x1)).set FLT.INJ.EN 0, .m0, 0, 0, by decide +kernel⟩,
   ⟨((fun z : State => z.set (FLT.SRC_CFG.CLASS (srcKey 3 5)) 4) (((lit 3)).set FLT.INJ.EN 1)), .m0, 3, 32, 5, by decide +kernel⟩,
   ⟨((lit 0x1)).set FLT.INJ.EN 1, .m0, 1, 1, 0, by decide +kernel⟩,
   ⟨(lit 0x1), .m0, 0, 0, by decide +kernel⟩⟩

/-- Each hypothesis set of MailboxCommands is met. -/
theorem witness_MailboxCommands :
    (∃ (s : State) (m : Master) (v : Word) (cmd : Nat) (len : Nat), (cmd = SEC.MBX_CMD.CMD.of v) ∧ (len = SEC.MBX_CMD.LEN.of v) ∧
      (s.verdict m 0x8050 v (fieldsAt 0x8050) (decide (1 ≤ cmd) && decide (cmd ≤ 8)) .take) ∧ (s.flag SEC.MBX_STAT.BUSY = true)) ∧
    (∃ (s : State) (m : Master) (v : Word) (cmd : Nat) (len : Nat), (cmd = SEC.MBX_CMD.CMD.of v) ∧ (len = SEC.MBX_CMD.LEN.of v) ∧
      (s.verdict m 0x8050 v (fieldsAt 0x8050) (decide (1 ≤ cmd) && decide (cmd ≤ 8)) .take) ∧ (s.flag SEC.MBX_STAT.BUSY = false) ∧
      (s.flag SEC.STATE.LOCK = true ∨ mbxLenOk cmd len = false)) ∧
    (∃ (s : State) (m : Master) (v : Word) (cmd : Nat) (len : Nat), (cmd = SEC.MBX_CMD.CMD.of v) ∧ (len = SEC.MBX_CMD.LEN.of v) ∧
      (s.verdict m 0x8050 v (fieldsAt 0x8050) (decide (1 ≤ cmd) && decide (cmd ≤ 8)) .take) ∧ (s.flag SEC.MBX_STAT.BUSY = false) ∧
      (s.flag SEC.STATE.LOCK = false) ∧ (mbxLenOk cmd len = true)) ∧
    (∃ (s : State) (m : Master) (v : Word), (s.takes m 0x805C v) ∧ (s.flag SEC.MBX_STAT.DATA_WAIT = false)) ∧
    (∃ (s : State) (m : Master) (v : Word), (s.takes m 0x805C v) ∧ (s.flag SEC.MBX_STAT.DATA_WAIT = true)) ∧
    (∃ (s : State) (m : Master), (s.reaches m) ∧ (s.pageOff 0x08 = false)) ∧
    (∃ (s : State), (s.mbxReady 1 = true)) ∧
    (∃ (s : State), (s.mbxReady 2 = true) ∧ (s.get REGL.STATE.STATE ≠ 0)) ∧
    (∃ (s : State), (s.mbxReady 2 = true) ∧ (s.get REGL.STATE.STATE = 0) ∧ (s.flag THM.STAT.NVM_OK = false)) ∧
    (∃ (s : State), (s.mbxReady 2 = true) ∧ (s.get REGL.STATE.STATE = 0) ∧ (s.flag THM.STAT.NVM_OK = true) ∧
      (s.nvmCause rgLock = 0)) ∧
    (∃ (s : State) (bs : List Nat), (s.mbxReady 3 = true) ∧ (bs = s.mbxBytes) ∧ (slice bs 0 4 ≠ [0x4B, 0x50, 0x4B, 0x47])) ∧
    (∃ (s : State) (bs : List Nat), (s.mbxReady 3 = true) ∧ (bs = s.mbxBytes) ∧ (slice bs 0 4 = [0x4B, 0x50, 0x4B, 0x47]) ∧
      (field bs 4 2 = 1)) ∧
    (∃ (s : State) (bs : List Nat), (s.mbxReady 3 = true) ∧ (bs = s.mbxBytes) ∧ (slice bs 0 4 = [0x4B, 0x50, 0x4B, 0x47]) ∧
      (field bs 4 2 = 1) ∧ (field bs 8 8 = s.otp.uidHi * 2 ^ 32 + s.otp.uidLo) ∧ (field bs 16 2 = s.otp.epoch) ∧
      (s.otp.provDead = false) ∧ (s.flag THM.STAT.NVM_OK = true) ∧ (s.nvmCause rgKeys = 0)) ∧
    (∃ (s : State) (bs : List Nat), (s.mbxReady 4 = true) ∧ (bs = s.mbxBytes) ∧ (bs.length ≠ 352 + fwLength bs)) ∧
    (∃ (s : State) (bs : List Nat), (s.mbxReady 4 = true) ∧ (bs = s.mbxBytes) ∧ (bs.length = 352 + fwLength bs) ∧
      ((s.verifyFw bs).1 ≠ 1)) ∧
    (∃ (s : State) (bs : List Nat), (s.mbxReady 4 = true) ∧ (bs = s.mbxBytes) ∧ (bs.length = 352 + fwLength bs) ∧
      (s.trapHold = false) ∧ (s.flag SEC.STATE.LOCK = false)) ∧
    (∃ (s : State), (s.mbxReady 5 = true)) ∧
    (∃ (s : State), (s.mbxReady 8 = true) ∧
      (s.get SEC.MBX_ARG.ARG < s.nvm.minSvn ∨ s.get SEC.BOOT_STAT.SVN < s.get SEC.MBX_ARG.ARG)) ∧
    (∃ (s : State), (s.mbxReady 8 = true) ∧ (s.nvm.minSvn ≤ s.get SEC.MBX_ARG.ARG) ∧
      (s.get SEC.MBX_ARG.ARG ≤ s.get SEC.BOOT_STAT.SVN) ∧ (s.flag THM.STAT.NVM_OK = true) ∧ (s.nvmCause rgHeader = 0)) ∧
    (∃ (s : State) (r : Nat), (s.mbxReady 6 = true) ∧ (r = 1)) ∧
    (∃ (s : State) (r : Nat), (s.mbxReady 6 = true) ∧ (r = s.judgeResp false s.mbxBytes) ∧ (r = 3)) ∧
    (∃ (s : State) (r : Nat), (s.mbxReady 6 = true) ∧ (r = s.judgeResp false s.mbxBytes) ∧ (r ≠ 1) ∧ (r ≠ 3) ∧
      (s.get SEC.DBG.FAILS < 2)) ∧
    (∃ (s : State) (r : Nat), (s.mbxReady 6 = true) ∧ (r = s.judgeResp false s.mbxBytes) ∧ (r ≠ 1) ∧ (r ≠ 3) ∧
      (2 ≤ s.get SEC.DBG.FAILS)) ∧
    (∃ (s : State), (s.mbxReady 7 = true) ∧ (s.straps.testMode = false)) ∧
    (∃ (s : State), (s.mbxReady 7 = true) ∧ (s.straps.testMode = true)) ∧
    (∃ (s : State) (resp : List Word) (bs : List Nat), (bs = wordBytes (resp.map (·.toNat))) ∧ (s.inReset = false) ∧
      (s.tansy.booted = true)) ∧
    (∃ (s : State) (resp : List Word) (bs : List Nat), (bs = wordBytes (resp.map (·.toNat))) ∧ (s.inReset = false) ∧
      (s.tansy.booted = true) ∧ (s.judgeResp false bs = 3)) :=
  ⟨⟨((lit 0x8)).set SEC.MBX_STAT.BUSY 1, .m0, 0x5000000, 5, 0, by decide +kernel⟩,
   ⟨((lit 0x8)).set SEC.MBX_STAT.BUSY 0, .m0, 0x5000001, 5, 1, by decide +kernel⟩,
   ⟨((((lit 0x8)).set SEC.MBX_STAT.BUSY 0).set SEC.STATE.LOCK 0).set SEC.STATE.LOCK 0, .m0, 0x5000000, 5, 0, by decide +kernel⟩,
   ⟨((lit 0x8)).set SEC.MBX_STAT.DATA_WAIT 0, .m0, 0, by decide +kernel⟩,
   ⟨((lit 0x8)).set SEC.MBX_STAT.DATA_WAIT 1, .m0, 0, by decide +kernel⟩,
   ⟨(lit 0x08), .m0, by decide +kernel⟩,
   ⟨((fun z : State => z.mbx 1 []) ((lit 0))), by decide +kernel⟩,
   ⟨((fun z : State => z.mbx 2 []) (((lit 0)).set REGL.STATE.STATE 1)), by decide +kernel⟩,
   ⟨((fun z : State => z) (((fun z : State => z.mbx 2 []) ((((lit 0)).set REGL.STATE.STATE 0).set THM.STAT.NVM_OK 0)))),
    by decide +kernel⟩,
   ⟨((fun z : State => z.nvmOk) (((fun z : State => z.mbx 2 []) ((((lit 0)).set REGL.STATE.STATE 0).set THM.STAT.NVM_OK 1)))),
    by decide +kernel⟩,
   ⟨((fun z : State => z.mbx 3 [0]) ((lit 0))), (List.replicate 4 0), by decide +kernel⟩,
   ⟨((fun z : State => z.mbx 3 [0x00010000, 0x4B504B47]) ((lit 0))), [0x4B, 0x50, 0x4B, 0x47, 0, 1, 0, 0], by decide +kernel⟩,
   ⟨((fun z : State => z.nvmOk) (((fun z : State => z.mbx 3 [0x00010000,
    0x4B504B47]) (((fun z : State => { z with otp := {} }) ((let z : State := ((lit 0)).set THM.STAT.NVM_OK 1; { z with otp := { z.otp with provDead := false } } : State))))))),
    [0x4B, 0x50, 0x4B, 0x47, 0, 1, 0, 0], by decide +kernel⟩,
   ⟨((fun z : State => z.mbx 4 []) ((lit 0))), [], by decide +kernel⟩,
   ⟨((fun z : State => z.mbx 4 (List.replicate 88 0)) ((lit 0))), (List.replicate 352 0), by decide +kernel⟩,
   ⟨((fun z : State => z.mbx 4 (List.replicate 88 0)) (((lit 0)).set SEC.STATE.LOCK 0)), (List.replicate 352 0), by decide +kernel⟩,
   ⟨((fun z : State => z.mbx 5 []) ((lit 0))), by decide +kernel⟩,
   ⟨((fun z : State => (z.set SEC.MBX_ARG.ARG 1).set SEC.BOOT_STAT.SVN 0) (((fun z : State => z.mbx 8 []) ((lit 0))))),
    by decide +kernel⟩,
   ⟨((fun z : State => z.nvmOk) (((fun z : State => z.mbx 8 []) (((lit 0)).set THM.STAT.NVM_OK 1)))), by decide +kernel⟩,
   ⟨((fun z : State => z.mbx 6 []) ((lit 0))), 1, by decide +kernel⟩,
   ⟨(let z : State := ((fun z : State => z.mbx 6 [0x01010101]) ((lit 0))); { z with tansy := { z.tansy with nonceDbg := some [] } } : State),
    3, by decide +kernel⟩,
   ⟨((fun z : State => z.mbx 6 []) ((lit 0))), 4, by decide +kernel⟩,
   ⟨((fun z : State => z.mbx 6 []) (((lit 0)).set SEC.DBG.FAILS 2)), 4, by decide +kernel⟩,
   ⟨((fun z : State => z.mbx 7 []) ((let z : State := (lit 0); { z with straps := { z.straps with testMode := false } } : State))),
    by decide +kernel⟩,
   ⟨((fun z : State => z.mbx 7 []) ((let z : State := (lit 0); { z with straps := { z.straps with testMode := true } } : State))),
    by decide +kernel⟩,
   ⟨(let z : State := (lit 0); { z with tansy := { z.tansy with booted := true } } : State), [], [], by decide +kernel⟩,
   ⟨(let z : State := (let z : State := (lit 0); { z with tansy := { z.tansy with booted := true } } : State); { z with tansy := { z.tansy with nonceDbg := some [] } } : State),
    [0x01010101], [1, 1, 1, 1], by decide +kernel⟩⟩

/-- Each hypothesis set of BootAlarmsAndCores is met. -/
theorem witness_BootAlarmsAndCores :
    (∃ (s : State), (s.rst.loaded = true) ∧ (s.tansy.booted = false) ∧ (s.inReset = false)) ∧
    (∃ (s : State), (s.tansy.booted = true) ∧ (s.inReset = false) ∧ (s.straps.bootSrc = 3)) ∧
    (∃ (s : State) (image : List Word) (bs : List Nat), (bs = wordBytes (image.map (·.toNat))) ∧ (s.inReset = false) ∧
      (s.tansy.reading ≠ 0) ∧ (s.trapHold = false) ∧ (s.flag SEC.STATE.LOCK = false)) ∧
    (∃ (s : State) (image : List Word) (bs : List Nat), (bs = wordBytes (image.map (·.toNat))) ∧ (s.inReset = false) ∧
      (s.tansy.reading ≠ 0) ∧ ((s.verifyFw bs).1 ≠ 1) ∧ (s.tansy.second = false)) ∧
    (∃ (s : State) (image : List Word) (bs : List Nat), (bs = wordBytes (image.map (·.toNat))) ∧ (s.inReset = false) ∧
      (s.tansy.reading ≠ 0) ∧ ((s.verifyFw bs).1 ≠ 1) ∧ (s.tansy.second = true)) ∧
    (∃ (s : State) (src : Fin 6), (s.hasRoom 1) ∧ ((s.flag FLT.TERM.SET && s.flag GOV.PERMIT.PERMIT) = false) ∧
      (s.canFire 0x08 src = true) ∧ (s.gated 0x08 src = false) ∧ (s.holds 0x08 src = false) ∧
      ((srcOf (srcKey 0x08 src)).sec = true) ∧ (s.alarmLvl src < 2)) ∧
    (∃ (s : State) (src : Fin 6), (s.hasRoom 1) ∧ ((s.flag FLT.TERM.SET && s.flag GOV.PERMIT.PERMIT) = false) ∧
      (s.canFire 0x08 src = true) ∧ (s.gated 0x08 src = false) ∧ (s.holds 0x08 src = false) ∧
      ((srcOf (srcKey 0x08 src)).sec = true) ∧ (2 ≤ s.alarmLvl src)) ∧
    (∃ (s : State) (src : Fin 6), (src.val = SEC.src.MESH ∨ src.val = SEC.src.TEMP_AON) ∧ (s.aon.asleep = true) ∧
      (tbit s.aon.sleepAlarm src = false) ∧ (s.nvm.zeroDue = false) ∧ (s.nvm.keys ≠ [])) ∧
    (∃ (s : State), (s.nvm.zeroDue = true) ∧ (s.tansy.booted = true) ∧ (s.inReset = false) ∧ (s.flag SEC.STATE.ERASED = false) ∧
      (s.flag THM.STAT.NVM_OK = true)) ∧
    (∃ (s : State) (m : Master) (v : Word),
      (s.verdict m 0x804C v (fieldsAt 0x804C) ((List.range 6).all fun i => bits v.toNat (2 * i) 2 != 0) .take) ∧ ((∀ i < 6,
      s.alarmLvl i ≤ bits v.toNat (2 * i) 2 ∧ lvlAllowed i (bits v.toNat (2 * i) 2) = true))) ∧
    (∃ (s : State) (m : Master) (v : Word),
      (s.verdict m 0x804C v (fieldsAt 0x804C) ((List.range 6).all fun i => bits v.toNat (2 * i) 2 != 0) .take) ∧ ((∃ i < 6,
      bits v.toNat (2 * i) 2 < s.alarmLvl i ∨ lvlAllowed i (bits v.toNat (2 * i) 2) = false))) ∧
    (∃ (s : State) (c : Fin 4), (s.inReset = false) ∧ (s.resetting 0x2E = false) ∧ (s.flag (APC.WDOG.EN c) = true)) ∧
    (∃ (s : State) (m : Master) (v : Word), (s.takes m 0x2E058 v)) ∧
    (∃ (s : State) (c : Fin 4), (s.inReset = false) ∧ (tbit (s.get APC.CORE_STAT.RUN) c = true)) ∧
    (∃ (s : State), (s.inReset = false) ∧ (tbit (s.get SEC.STATE.SCOPE) 0 = false)) ∧
    (∃ (s : State) (c : Fin 4), (s.inReset = false) ∧ (tbit (s.get SEC.STATE.SCOPE) 0 = true) ∧
      (tbit (s.get APC.CORE_STAT.RUN) c = true)) ∧
    (∃ (s : State) (c : Fin 4), (s.inReset = false) ∧ (tbit (s.get SEC.STATE.SCOPE) 0 = true) ∧
      (tbit (s.get APC.CORE_STAT.HALTED) c = true)) :=
  ⟨⟨(let z : State := (let z : State := (lit 0); { z with rst := { z.rst with loaded := true } } : State); { z with tansy := { z.tansy with booted := false } } : State),
    by decide +kernel⟩,
   ⟨(let z : State := (let z : State := (lit 0); { z with tansy := { z.tansy with booted := true } } : State); { z with straps := { z.straps with bootSrc := 3 } } : State),
    by decide +kernel⟩,
   ⟨(let z : State := ((lit 0)).set SEC.STATE.LOCK 0; { z with tansy := { z.tansy with reading := 1 } } : State), [], [],
    by decide +kernel⟩,
   ⟨(let z : State := (let z : State := (lit 0); { z with tansy := { z.tansy with reading := 1 } } : State); { z with tansy := { z.tansy with second := false } } : State),
    [], [], by decide +kernel⟩,
   ⟨(let z : State := (let z : State := (lit 0); { z with tansy := { z.tansy with reading := 1 } } : State); { z with tansy := { z.tansy with second := true } } : State),
    [], [], by decide +kernel⟩,
   ⟨((fun z : State => z.set SEC.ALARM_LVL.LVL 0x555) ((lit 0))), 5, by decide +kernel⟩,
   ⟨(lit 0), 0, by decide +kernel⟩,
   ⟨((fun z : State => { z with nvm := { keys := [(0, { typ := 1 })] } }) ((let z : State := (let z : State := (lit 0); { z with aon := { z.aon with asleep := true } } : State); { z with nvm := { z.nvm with zeroDue := false } } : State))),
    0, by decide +kernel⟩,
   ⟨(let z : State := (let z : State := (((lit 0)).set SEC.STATE.ERASED 0).set THM.STAT.NVM_OK 1; { z with nvm := { z.nvm with zeroDue := true } } : State); { z with tansy := { z.tansy with booted := true } } : State),
    by decide +kernel⟩,
   ⟨(lit 0x8), .m0, 0xFFF, by decide +kernel⟩,
   ⟨(lit 0x8), .m0, 0x555, by decide +kernel⟩,
   ⟨((lit 0)).set (APC.WDOG.EN 0) 1, 0, by decide +kernel⟩,
   ⟨(lit 0x2e), .m0, 0x5A00, by decide +kernel⟩,
   ⟨((lit 0)).putBit APC.CORE_STAT.RUN 0 true, 0, by decide +kernel⟩,
   ⟨((lit 0)).putBit SEC.STATE.SCOPE 0 false, by decide +kernel⟩,
   ⟨(((lit 0)).putBit SEC.STATE.SCOPE 0 true).putBit APC.CORE_STAT.RUN 0 true, 0, by decide +kernel⟩,
   ⟨(((lit 0)).putBit SEC.STATE.SCOPE 0 true).putBit APC.CORE_STAT.HALTED 0 true, 0, by decide +kernel⟩⟩

/-- Each hypothesis set of NvmRegionsAndLoad is met. -/
theorem witness_NvmRegionsAndLoad :
    (∃ (s : State) (ue : List (Fin 9)), (s.inReset = false) ∧ (s.rst.loaded = false) ∧ (s.nvm.calBad = false) ∧
      ((s.board.refclk = true → devSize s.board.refDev < 550)) ∧ ((∀ r ∈ ue, loaderRegion r = false))) ∧
    (∃ (s : State) (i : NvmImage), (s.inReset = false) ∧ (s.rst.loaded = false) ∧ (s.nvm.calBad = false) ∧
      ((s.board.refclk = true → devSize s.board.refDev < 550)) ∧ (Tab.get none s.nvm.old rgCal = some i)) ∧
    (∃ (s : State) (m : Master) (v : Word), (s.takes m 0x7054 v)) ∧
    (∃ (s : State) (m : Master), (s.reaches m) ∧ (s.pageOff 0x07 = false)) ∧
    (∃ (s : State) (m : Master) (v : Word), s.takes m 0x705C v ∧ v.getLsbD 0 = true ∧ v.getLsbD 1 = false ∧ v.getLsbD 2 = true ∧
      s.calCrc ≠ s.get NVM.CAL_CRC_EXP.CRC) ∧
    (∃ (s : State) (m : Master) (v : Word), (s.takes m 0x705C v) ∧ (v.getLsbD 0 = true) ∧ (v.getLsbD 1 = false) ∧
      (v.getLsbD 2 = false ∨ s.calCrc = s.get NVM.CAL_CRC_EXP.CRC) ∧ (s.nvmCause 3 = 0)) ∧
    (∃ (s : State) (m : Master) (v : Word), (s.takes m 0x705C v) ∧ (v.getLsbD 0 = true) ∧ (v.getLsbD 1 = false) ∧
      (v.getLsbD 2 = false ∨ s.calCrc = s.get NVM.CAL_CRC_EXP.CRC) ∧ (s.nvmCause 3 ≠ 0)) ∧
    (∃ (s : State) (m : Master) (v : Word), (s.takes m 0x705C v) ∧ (v.getLsbD 0 = false) ∧ (v.getLsbD 1 = true)) ∧
    (∃ (s : State) (m : Master) (v : Word), (s.takes m 0x7070 v) ∧ (v.getLsbD 0 = true) ∧ (s.nvmCause 4 = 0)) ∧
    (∃ (s : State) (m : Master) (v : Word), (s.takes m 0x7074 v) ∧ (v.getLsbD 0 = true) ∧ (s.nvmCause 0 = 0)) ∧
    (∃ (s : State) (q : NvmReq) (rest : List NvmReq), (s.nvm.queue = q :: rest) ∧ (q.region ≠ 8) ∧ (q.tansy = false)) ∧
    (∃ (s : State), (s.inReset = false) ∧ (s.rst.loaded = true) ∧ (s.pfRuns = false) ∧ (s.rst.faultWaits = false)) ∧
    (∃ (s : State), (s.rst.faultWaits = true) ∧ (s.pfRuns = false)) ∧
    (∃ (s : State), (s.aon.asleep = false) ∧ (s.inReset = false) ∧ (s.rst.loaded = true) ∧ (s.rst.pf = .idle) ∧ ((∀ i ∈ s.active,
      i < 512))) :=
  ⟨⟨(let z : State := (let z : State := (lit 0); { z with rst := { z.rst with loaded := false } } : State); { z with nvm := { z.nvm with calBad := false } } : State),
    default, by decide +kernel⟩,
   ⟨((fun z : State => { z with nvm := { old := [(3, some {})] } }) ((let z : State := (let z : State := (lit 0); { z with rst := { z.rst with loaded := false } } : State); { z with nvm := { z.nvm with calBad := false } } : State))),
    {}, by decide +kernel⟩,
   ⟨(lit 0x7), .m0, 0, by decide +kernel⟩,
   ⟨(lit 0x07), .m0, by decide +kernel⟩,
   (by
    by_cases h : (lit 7).calCrc = 0
    · exact ⟨(lit 7).set NVM.CAL_CRC_EXP.CRC 1, .m0, 50437, by decide +kernel, by decide +kernel, by decide +kernel, by decide +kernel,
        fun e => absurd (h.symm.trans (e.trans (by decide +kernel : ((lit 7).set NVM.CAL_CRC_EXP.CRC 1).get NVM.CAL_CRC_EXP.CRC = 1))) (by decide)⟩
    · exact ⟨lit 7, .m0, 50437, by decide +kernel, by decide +kernel, by decide +kernel, by decide +kernel,
        fun e => h (e.trans (by decide +kernel : (lit 7).get NVM.CAL_CRC_EXP.CRC = 0))⟩),
   ⟨((fun z : State => z.nvmOk) ((lit 0x7))), .m0, 50433, by decide +kernel⟩,
   ⟨(lit 0x7), .m0, 50433, by decide +kernel⟩,
   ⟨(lit 0x7), .m0, 50434, by decide +kernel⟩,
   ⟨((fun z : State => z.nvmOk) ((lit 0x7))), .m0, 50433, by decide +kernel⟩,
   ⟨((fun z : State => z.nvmOk) ((lit 0x7))), .m0, 50433, by decide +kernel⟩,
   ⟨({ (lit 0) with nvm := { queue := [{}] } } : State), {}, [], by decide +kernel⟩,
   ⟨(let z : State := (let z : State := (lit 0); { z with rst := { z.rst with loaded := true } } : State); { z with rst := { z.rst with faultWaits := false } } : State),
    by decide +kernel⟩,
   ⟨(let z : State := (lit 0); { z with rst := { z.rst with faultWaits := true } } : State), by decide +kernel⟩,
   ⟨(let z : State := (let z : State := (let z : State := (lit 0); { z with aon := { z.aon with asleep := false } } : State); { z with rst := { z.rst with loaded := true } } : State); { z with rst := { z.rst with pf := .idle } } : State),
    by decide +kernel⟩⟩

/-- Each hypothesis set of EventRecorder is met. -/
theorem witness_EventRecorder :
    (∃ (s : State) (a : List Rec) (b : List Rec) (r : Rec) (q : Nat), (s.evtOpen = true) ∧ (s.pfRuns = false) ∧
      (s.evt.buf = a ++ r :: b) ∧ (r.seq = some q) ∧ (r.priv = false) ∧ ((∀ x ∈ a, x.priv = true)) ∧ ((∀ x ∈ a ++ b,
      x.seq ≠ some q)) ∧ (s.outRun r = false)) ∧
    (∃ (s : State) (a : List Rec) (b : List Rec) (r : Rec) (q : Nat), (s.evtOpen = true) ∧ (s.pfRuns = false) ∧
      (s.evt.buf = a ++ r :: b) ∧ (r.seq = some q) ∧ (r.priv = false) ∧ ((∀ x ∈ a, x.priv = true)) ∧ ((∀ x ∈ a ++ b,
      x.seq ≠ some q)) ∧ (s.outRun r = true)) ∧
    (∃ (s : State) (m : Master) (v : Word), (s.takes m 0x6040 v)) ∧
    (∃ (s : State) (a : List Rec) (b : List Rec) (r : Rec), (s.evt.buf = a ++ r :: b) ∧ ((∀ x ∈ a, x.priv = false)) ∧
      (r.priv = true) ∧ (s.inReset = false) ∧ (s.evt.flushing = false)) ∧
    (∃ (s : State), (s.evt.flushing = true) ∧ (s.evt.scanDue = false) ∧ (s.evtOpen = true)) ∧
    (∃ (s : State), (s.evt.scanDue = false) ∧ (s.evtOpen = true) ∧ (s.pfRuns = false)) ∧
    (∃ (s : State) (t : State) (ce : Nat) (ue : List (Fin 33792)), (s.inReset = false) ∧ (s.rst.loaded = true) ∧
      (s.evt.scanDue = true) ∧ (s.evt.buf = []) ∧ (t = s.storeRead ce (ue.map (·.val))) ∧ (t.lastStored < 2 ^ 32) ∧
      (t.lastStored ≠ 0xFFFFFFFE)) ∧
    (∃ (s : State) (m : Master) (v : Word), (s.takes m 0x6058 v)) ∧
    (∃ (s : State) (q : Nat) (src : Nat) (ue : Bool) (r : Option Rec), (s.inReset = false) ∧ (s.evt.latching = true) ∧
      (q = s.get EVT.CURSOR.SEQ) ∧ (s.locate q = (src, r)) ∧ ((∀ x, r = some x → x.bad = false)) ∧ ((ue = true → src ≠ 1 ∧ src ≠ 2))) ∧
    (∃ (s : State) (code : BitVec 16), (s.inReset = false) ∧ (codeListed code.toNat = true)) ∧
    (∃ (s : State) (q : Nat) (src : Nat) (ue : Bool) (x : Rec), (s.inReset = false) ∧ (s.evt.latching = true) ∧
      (q = s.get EVT.CURSOR.SEQ) ∧ (s.locate q = (src, some x)) ∧ ((src = 1 ∨ src = 2)) ∧ ((ue = true ∨ x.bad = true))) :=
  ⟨⟨((fun z : State => { z.nvmOk with evt := { buf := [{ code := 1, seq := some 0 }] } }) ((lit 0))), [], [],
    { code := 1, seq := some 0 }, 0, by decide +kernel⟩,
   ⟨((fun z : State => { z.nvmOk with evt := { buf := [{ code := 1, seq := some 0 }], store := [(0, some { seq := some 33792 })] } }) ((lit 0))),
    [], [], { code := 1, seq := some 0 }, 0, by decide +kernel⟩,
   ⟨(lit 0x6), .m0, 0, by decide +kernel⟩,
   ⟨((fun z : State => { z with evt := { buf := [{ priv := true }] } }) ((let z : State := (lit 0); { z with evt := { z.evt with flushing := false } } : State))),
    [], [], { priv := true }, by decide +kernel⟩,
   ⟨((fun z : State => z.nvmOk) ((let z : State := (let z : State := (lit 0); { z with evt := { z.evt with flushing := true } } : State); { z with evt := { z.evt with scanDue := false } } : State))),
    by decide +kernel⟩,
   ⟨((fun z : State => z.nvmOk) ((let z : State := (lit 0); { z with evt := { z.evt with scanDue := false } } : State))),
    by decide +kernel⟩,
   ⟨(let z : State := (let z : State := (let z : State := (lit 0); { z with rst := { z.rst with loaded := true } } : State); { z with evt := { z.evt with scanDue := true } } : State); { z with evt := { z.evt with buf := [] } } : State),
    (State.storeRead ((let z : State := (let z : State := (let z : State := (lit 0); { z with rst := { z.rst with loaded := true } } : State); { z with evt := { z.evt with scanDue := true } } : State); { z with evt := { z.evt with buf := [] } } : State)) 0 []),
    0, ([] : List (Fin 33792)), by decide +kernel⟩,
   ⟨(lit 0x6), .m0, 0, by decide +kernel⟩,
   ⟨(let z : State := (lit 0); { z with evt := { z.evt with latching := true } } : State), 0, 0, false, default, by decide +kernel⟩,
   ⟨(lit 0), 1, by decide +kernel⟩,
   ⟨((fun z : State => ({ z with evt := { z.evt with store := [(0, some { seq := some 0 })], latching := true } } : State).set EVT.LAST.SEQ 0) ((let z : State := (lit 0); { z with evt := { z.evt with latching := true } } : State))),
    0, 1, true, { seq := some 0 }, by decide +kernel⟩⟩

/-- Each hypothesis set of ReservedValuesDropped is met. -/
theorem witness_ReservedValuesDropped :
    ∃ (s : State) (m : Master) (a : BitVec 19) (v : Word), (a.toNat % 4 = 0) ∧ (s.reaches m) ∧ (pageOf a.toNat ≠ 0x2F) ∧
      (s.mayWrite m a.toNat v = true) ∧ ((0x10 ≤ a.toNat % 0x1000 → s.pageOff (pageOf a.toNat) = false)) ∧
      (listed (if 0x3100 ≤ a.toNat ∧
      a.toNat < 0x31C0 then clockFlds ((a.toNat - 0x3100) / 4) else fieldsAt (s.home a.toNat)) v = false) :=
  ⟨(lit 0), .m0, 0x104C, 0, by decide +kernel⟩

/-- Each hypothesis set of SleepSensesNoPins is met. -/
theorem witness_SleepSensesNoPins :
    (∃ (s : State), (s.aon.asleep = true) ∧ (s.rst.pin = false) ∧ (s.rst.pinInPf = false)) ∧
    (∃ (s : State) (addr : BitVec 7), (s.aon.asleep = true) ∧ (addr.toNat = s.i2cOwn ∧ s.aon.i2cLost = false)) ∧
    (∃ (s : State) (addr : BitVec 7), (s.aon.asleep = true) ∧ (addr.toNat ≠ s.i2cOwn)) :=
  ⟨⟨(let z : State := (let z : State := (let z : State := (lit 0); { z with aon := { z.aon with asleep := true } } : State); { z with rst := { z.rst with pin := false } } : State); { z with rst := { z.rst with pinInPf := false } } : State),
    by decide +kernel⟩,
   ⟨(let z : State := (lit 0); { z with aon := { z.aon with asleep := true } } : State), 0x58, by decide +kernel⟩,
   ⟨(let z : State := (lit 0); { z with aon := { z.aon with asleep := true } } : State), 0, by decide +kernel⟩⟩

/-- Each hypothesis set of RegisterAccess is met. -/
theorem witness_RegisterAccess :
    (∃ (s : State) (m : Master) (a : BitVec 19) (v : Word), (a.toNat % 4 = 0) ∧ (0x40 ≤ a.toNat % 0x1000) ∧
      (pageOf a.toNat ∈ [0x09, 0x21, 0x2D] ∨ a.toNat = 0x2C04C ∨ a.toNat = 0x2C050) ∧ (s.takes m a.toNat v)) ∧
    (∃ (s : State) (m : Master) (a : BitVec 19) (be : BitVec 4), (s.reaches m) ∧ (a.toNat % 4 ≠ 0 ∨ be ≠ 15)) ∧
    (∃ (s : State) (m : Master) (a : BitVec 19), (s.reaches m) ∧ (a.toNat % 4 = 0) ∧ (pageOf a.toNat ≠ 0x2F) ∧
      (a.toNat ≠ 0xA05C) ∧ (s.pageOff (pageOf a.toNat) = false) ∧ (s.ask.window a.toNat = none) ∧ (s.ask.catchUp a.toNat = s.ask)) ∧
    (∃ (s : State) (p : Fin 128), (s.inReset = false) ∧ (s.pageOff p = false) ∧ ((Tab.get {} s.snap p).lastAt = none) ∧
      ((∀ x ∈ s.groupOf p, s.get x.1 = x.2))) ∧
    (∃ (s : State) (p : Fin 128), (s.inReset = false) ∧ (s.pageOff p = false) ∧ ((Tab.get {} s.snap p).lastAt = none) ∧
      ((∃ x ∈ s.groupOf p, s.get x.1 ≠ x.2))) ∧
    (∃ (s : State), (s.inReset = false)) ∧
    (∃ (s : State) (m : Master) (v : Word), (s.takes m 0x2C044 v) ∧ (v.getLsbD 2 = false ∨ s.flag PCI.LINK_STAT.UP = false)) ∧
    (∃ (s : State) (m : Master) (v : Word), (s.takes m 0x2C044 v) ∧ (v.getLsbD 2 = true) ∧ (s.flag PCI.LINK_STAT.UP = true) ∧
      (s.get PCI.LINK_STAT.LTSSM = 3) ∧ (s.get PCI.CNT.RECOVERY < 65535)) ∧
    (∃ (s : State), (s.inReset = false)) ∧
    (∃ (s : State), (s.inReset = false)) ∧
    (∃ (a : BitVec 19), (a.toNat + 4 < 0x80000)) ∧
    (∃ (a : BitVec 19), (a.toNat + 8 < 0x80000)) ∧
    (∃ (s : State) (a : BitVec 25) (v : Word), (a.toNat < 0x1000000) ∧ (s.takes .m0 0x20074 v)) ∧
    (∃ (s : State) (a : BitVec 25), (s.reaches .m0) ∧ (a.toNat < 0x1000000) ∧ (s.pageOff 0x20 = false)) ∧
    (∃ (s : State) (a : BitVec 25), (s.reaches .m0) ∧ (0x1000000 ≤ a.toNat) ∧ (a.toNat < 0x1800000) ∧ (s.pageOff 0x24 = false)) ∧
    (∃ (s : State) (a : BitVec 25), (s.reaches .m0) ∧ (0x1800000 ≤ a.toNat)) :=
  ⟨⟨(lit 9), .m0, 0x9050, 0, by decide +kernel⟩,
   ⟨(lit 0), .m0, 0, 0, by decide +kernel⟩,
   ⟨(lit 0), .m0, 0, by decide +kernel⟩,
   ⟨(lit 0), 0, by decide +kernel⟩,
   ⟨((fun z : State => z.set NVM.OP_SEC_LO.SEC 1) ((lit 0))), 7, by decide +kernel⟩,
   ⟨(lit 0), by decide +kernel⟩,
   ⟨(lit 0x2c), .m0, 0, by decide +kernel⟩,
   ⟨(((lit 0x2c)).set PCI.LINK_STAT.UP 1).set PCI.LINK_STAT.LTSSM 3, .m0, 4, by decide +kernel⟩,
   ⟨(lit 0), by decide +kernel⟩,
   ⟨(lit 0), by decide +kernel⟩,
   ⟨0, by decide +kernel⟩,
   ⟨0, by decide +kernel⟩,
   ⟨(lit 0x20), 0, 0, by decide +kernel⟩,
   ⟨(lit 0x20), 0, by decide +kernel⟩,
   ⟨(lit 0x24), 0x1000000, by decide +kernel⟩,
   ⟨(lit 0), 0x1800000, by decide +kernel⟩⟩

/-- Each hypothesis set of SerialPorts is met. -/
theorem witness_SerialPorts :
    (∃ (port : Fin 2) (a : BitVec 24) (m : Master) (next : Nat), (m = (if port = 0 then .m1 else .m2)) ∧
      (next = (if a.toNat % 0x1000 = 0xFFC then a.toNat - 0xFFC else a.toNat + 4)) ∧ (a.toNat < 0x80000) ∧ (a.toNat % 4 = 0)) ∧
    (∃ (s : State) (port : Fin 2) (a : BitVec 24) (m : Master) (next : Nat) (data : List Word),
      (m = (if port = 0 then .m1 else .m2)) ∧ (next = (if a.toNat % 0x1000 = 0xFFC then a.toNat - 0xFFC else a.toNat + 4)) ∧
      (0x80000 ≤ a.toNat ∨ a.toNat % 4 ≠ 0) ∧ (s.reaches m) ∧ (s.get (HSI.SPI_STAT.CUT port) + data.length < 65536)) ∧
    (∃ (s : State) (port : Fin 2) (a : BitVec 24) (m : Master) (next : Nat), (m = (if port = 0 then .m1 else .m2)) ∧
      (next = (if a.toNat % 0x1000 = 0xFFC then a.toNat - 0xFFC else a.toNat + 4)) ∧ (0x80000 ≤ a.toNat ∨ a.toNat % 4 ≠ 0) ∧
      (s.reaches m) ∧ (s.get (HSI.SPI_STAT.CUT port) < 65536)) ∧
    (∃ (s : State) (port : Fin 2) (a : BitVec 24) (m : Master) (next : Nat), (m = (if port = 0 then .m1 else .m2)) ∧
      (next = (if a.toNat % 0x1000 = 0xFFC then a.toNat - 0xFFC else a.toNat + 4)) ∧ (s.reaches m) ∧
      (s.get (HSI.SPI_STAT.OPCODE port) < 65535)) ∧
    (∃ (s : State) (port : Fin 2) (a : BitVec 24) (m : Master) (next : Nat), (m = (if port = 0 then .m1 else .m2)) ∧
      (next = (if a.toNat % 0x1000 = 0xFFC then a.toNat - 0xFFC else a.toNat + 4)) ∧ (s.reaches m) ∧
      (s.get (HSI.SPI_STAT.CUT port) < 65535)) ∧
    (∃ (s : State) (a : BitVec 24) (v : Word) (t : _), (s.i2cWakes = false) ∧ (s.inReset = false) ∧ (s.rst.loaded = true) ∧
      (a.toNat < 0x80000) ∧ (a.toNat % 4 = 0) ∧ (t = s.busWrite .m3 a.toNat v) ∧ (t.inReset = false) ∧ (t.rst.loaded = true)) ∧
    (∃ (s : State) (a : BitVec 24), (s.i2cWakes = false) ∧ (s.inReset = false) ∧ (s.rst.loaded = true) ∧ (a.toNat < 0x80000) ∧
      (a.toNat % 4 = 0) ∧ (s.get HSI.I2C_STAT.PARTIAL < 65535)) ∧
    (∃ (s : State) (a : BitVec 24), (s.i2cWakes = false) ∧ (s.inReset = false) ∧ (s.rst.loaded = true) ∧
      (0x80000 ≤ a.toNat ∨ a.toNat % 4 ≠ 0)) ∧
    (∃ (s : State), (s.i2cWakes = false) ∧ (s.inReset = false) ∧ (s.rst.loaded = true) ∧ (s.ports.i2cSet < 0x80000) ∧
      (s.ports.i2cSet % 4 = 0)) ∧
    (∃ (s : State), (s.i2cWakes = false) ∧ (s.inReset = false) ∧ (s.rst.loaded = true) ∧
      (0x80000 ≤ s.ports.i2cSet ∨ s.ports.i2cSet % 4 ≠ 0)) ∧
    (∃ (s : State), (s.aon.asleep = true) ∧ (s.aon.i2cLost = false)) ∧
    (∃ (s : State), (s.inReset = false) ∧ (s.rst.loaded = true) ∧ (s.get HSI.I2C_STAT.TIMEOUT < 65535) ∧
      (s.get HSI.I2C_STAT.PARTIAL < 65535) ∧ (s.i2cAnswers = true)) :=
  ⟨⟨0, 0, .m1, 4, by decide +kernel⟩,
   ⟨(lit 0), 0, 1, .m1, 5, [], by decide +kernel⟩,
   ⟨(lit 0), 0, 1, .m1, 5, by decide +kernel⟩,
   ⟨(lit 0), 0, 0, .m1, 4, by decide +kernel⟩,
   ⟨(lit 0), 0, 0, .m1, 4, by decide +kernel⟩,
   ⟨(let z : State := (lit 0); { z with rst := { z.rst with loaded := true } } : State), 0, 0,
    (State.busWrite ((let z : State := (lit 0); { z with rst := { z.rst with loaded := true } } : State)) .m3 0 0),
    by decide +kernel⟩,
   ⟨(let z : State := (lit 0); { z with rst := { z.rst with loaded := true } } : State), 0, by decide +kernel⟩,
   ⟨(let z : State := (lit 0); { z with rst := { z.rst with loaded := true } } : State), 1, by decide +kernel⟩,
   ⟨(let z : State := (lit 0); { z with rst := { z.rst with loaded := true } } : State), by decide +kernel⟩,
   ⟨((fun z : State => { z with ports := { i2cSet := 1 } }) ((let z : State := (lit 0); { z with rst := { z.rst with loaded := true } } : State))),
    by decide +kernel⟩,
   ⟨(let z : State := (let z : State := (lit 0); { z with aon := { z.aon with asleep := true } } : State); { z with aon := { z.aon with i2cLost := false } } : State),
    by decide +kernel⟩,
   ⟨(let z : State := (lit 0); { z with rst := { z.rst with loaded := true } } : State), by decide +kernel⟩⟩

end Sys2Proof.Tests
end

section
/-! SUPPORT. What the fabric hands on of an access: the state in which a taken write has its effect, what a read returns, and
which register fields stand after a chain of writes. -/
namespace Sys2Proof.Machine
open Sys2Proof

/-! Fields that stand -/

/-- A state keeps its own fields. -/
theorem Keeps.refl (s : State) (ks : List Nat) : Keeps s s ks := fun _ _ => rfl

/-- A state with the same register file keeps every field. -/
theorem Keeps.of_reg {s t : State} (h : t.reg = s.reg) (ks : List Nat) : Keeps s t ks := fun f _ => State.get_of_reg h f

/-- What keeps the fields outside a list keeps those outside a longer one. -/
theorem Keeps.mono {s t : State} {ks ks' : List Nat} (h : Keeps s t ks) (hk : ks ⊆ ks') : Keeps s t ks' := fun f hf => h f fun e => hf (hk e)

/-- What follows in a state with the same register file keeps the same fields. -/
theorem Keeps.reg_eq {s t u : State} {ks : List Nat} (h : Keeps s t ks) (hu : u.reg = t.reg) : Keeps s u ks :=
  fun f hf => (State.get_of_reg hu f).trans (h f hf)

/-- A write of a listed field keeps the others. -/
theorem Keeps.set {s t : State} {ks : List Nat} (h : Keeps s t ks) {f : Fld} (v : Nat) (hf : f.key ∈ ks) : Keeps s (t.set f v) ks :=
  fun g hg => (State.get_set_ne t v fun e : g.key = f.key => hg (e ▸ hf)).trans (h g hg)

/-- A field reads as before over a write of another register, or of another place in it. -/
@[simp] theorem State.get_set_of_key_ne (s : State) {f g : Fld} (v : Nat) (h : ¬g.key = f.key) : (s.set f v).get g = s.get g :=
  State.get_set_ne s v h

/-- A write of a field in a state that differs in the register file alone. -/
theorem set_regOnly {s t : State} (h : t = { s with reg := t.reg }) (f : Fld) (v : Nat) : t.set f v = { s with reg := (t.set f v).reg } := by
  rw [h]; rfl

/-! How a command answers -/

/-- A command whose meaning is a state answers what that state is found to be. -/
theorem answers_of {c : Instr} {s t u : State} {P : State → Prop} (hx : exec c s = .next t) (ht : t = u) (hp : P u) : Answers c s P :=
  ⟨u, ht ▸ hx, hp⟩

/-- A command whose meaning is a settled state. -/
theorem answersSettled_of {c : Instr} {s t u : State} {P : State → Prop} (hx : exec c s = ok t) (ht : t = u) (hp : P u) :
    AnswersSettled c s P :=
  ⟨u, ht ▸ hx, hp⟩

/-- A command whose meaning is a shared operation's work on a state. -/
theorem answersVia_of {c : Instr} {s t u : State} {g : State → State} {P : State → Prop} (hx : exec c s = .next t) (ht : t = g u)
    (hp : P u) : AnswersVia c s g P :=
  ⟨u, ht ▸ hx, hp⟩

/-! Accesses -/

@[simp] theorem State.breakKey_reg (s : State) (m : Master) (a : Nat) : (s.breakKey m a).reg = s.reg := by
  unfold State.breakKey; split <;> rfl

/-- A write outside page FLT breaks no key sequence. -/
theorem breakKey_of_page_ne {a : Nat} (h : pageOf a ≠ 4) (s : State) (m : Master) : s.breakKey m a = s := by
  simp [State.breakKey, h]

/-- A write that the fabric takes, outside page FLT, has its effect on the state with the port's last write noted. -/
theorem guardedBy_of_take {s : State} {m : Master} {a : Nat} {v : Word} {fs : List Fld} {ok : Bool} (f : State → State)
    (h : s.verdict m a v fs ok .take) (ha : pageOf a ≠ 4) : s.guardedBy m a v fs ok f = f (s.outcome m 0) := by
  obtain ⟨hc, hj⟩ := h
  rw [guardedBy_take f (by rw [ownDue_calm hc]; exact hj), ownDue_calm hc, breakKey_of_page_ne ha]

theorem guarded_of_takes {s : State} {m : Master} {a : Nat} {v : Word} (f : State → State) (h : s.takes m a v) (ha : pageOf a ≠ 4) :
    s.guarded m a v f = f (s.outcome m 0) := guardedBy_of_take f h ha

/-- A write that the fabric drops for its value leaves the port's status and the broken key sequence, and raises ACCESS_VALUE. -/
theorem guardedBy_of_value {s : State} {m : Master} {a : Nat} {v : Word} {fs : List Fld} {ok : Bool} (f : State → State)
    (h : s.verdict m a v fs ok .value) :
    s.guardedBy m a v fs ok f = (((s.outcome m 4).breakKey m a).accNotice m a 1).settle := by
  obtain ⟨hc, hj⟩ := h
  rw [guardedBy_value f (by rw [ownDue_calm hc]; exact hj), ownDue_calm hc]

/-! What a read returns -/

@[simp] theorem State.reply_out (s : State) (w : Nat) : (s.reply w).out = s.out ++ [BitVec.ofNat 32 w] := rfl
@[simp] theorem State.ask_out (s : State) : s.ask.out = [] := rfl

/-- A read by a master who reaches a page that is on. -/
theorem ask_readBy_on {s : State} {m : Master} {a : Nat} (word : State → Nat) (eff : State → State) (h : s.reaches m)
    (h2 : pageOf a ≠ 0x2F) (h3 : s.pageOff (pageOf a) = false) :
    s.ask.readBy m a word eff = (if s.readsWithEffect m (pageOf a) then eff s.ask else s.ask).reply (word s.ask) :=
  readBy_on (s := s.ask) word eff h.1 h.2 h2 h3

end Sys2Proof.Machine
end

section
/-! SUPPORT. What the fabric reads of the register file when it judges an access: rights, clocks and resets. A write of any other
register leaves its judgement as it is. -/
namespace Sys2Proof.Machine
open Sys2Proof

/-- A byte address whose fields bear on rights, clocks or resets of pages: PAGE_CTL and PAGE_STAT of a header, and the pages OWN, CLK, SYN
and APC (R63, R99, R115, R126, R138, R380). -/
def bearsOnAccess (a : Nat) : Bool :=
  a % 0x1000 == 8 || a % 0x1000 == 0xC || a / 0x1000 == 1 || a / 0x1000 == 3 || a / 0x1000 == 0xD || a / 0x1000 == 0x2E

/-- Every page lies on one of the 48 islands. -/
theorem pageIsland_lt : ∀ {p : Nat}, p < 128 → pageIsland p < 48 := by decide

section
variable {f : Fld} (s : State) (v : Nat) (hf : bearsOnAccess (f.key / 32) = false)
include hf

/-- A field that bears on an access reads as before. -/
theorem set_get_bearing (g : Fld) (hg : bearsOnAccess (g.key / 32) = true) : (s.set f v).get g = s.get g :=
  State.get_set_ne s v fun e => by rw [e, hf] at hg; exact Bool.noConfusion hg

theorem set_flag_bearing (g : Fld) (hg : bearsOnAccess (g.key / 32) = true) : (s.set f v).flag g = s.flag g := by
  rw [State.flag, set_get_bearing s v hf g hg, State.flag]

theorem set_owns (m : Master) : (s.set f v).owns m = s.owns m := by
  unfold State.owns State.beatEnd
  rw [set_get_bearing s v hf _ rfl, set_get_bearing s v hf _ rfl, set_get_bearing s v hf _ rfl]
  rfl

theorem set_ownCalm : (s.set f v).ownCalm = s.ownCalm := by
  unfold State.ownCalm State.beatOver State.windowOver State.offerOver State.beatEnd
  rw [set_get_bearing s v hf OWN.OWN_STAT.STATE rfl, set_get_bearing s v hf OWN.BEAT_MAX.MS rfl]
  rfl

theorem set_canAccess (m : Master) : (s.set f v).canAccess m = s.canAccess m := by
  unfold State.canAccess
  rw [set_get_bearing s v hf APC.CORE_STAT.RUN rfl]
  rfl

theorem set_delegated {p : Nat} (hp : p < 128) : (s.set f v).delegated p = s.delegated p := by
  unfold State.delegated
  rw [set_get_bearing s v hf (OWN.DELEGATE.MASK (p / 32)) (by simp [bearsOnAccess]; omega)]

theorem set_mayWrite (m : Master) {a : Nat} (ha : a < 0x80000) (w : Word) : (s.set f v).mayWrite m a w = s.mayWrite m a w := by
  have hp : pageOf a < 128 := by unfold pageOf; omega
  unfold State.mayWrite State.clkReqOnly State.beatOrClear
  rw [set_owns s v hf, set_delegated s v hf hp, set_delegated s v hf (by decide : 3 < 128), set_get_bearing s v hf OWN.OWN_STAT.NONCE rfl]

theorem set_srcRuns {n : Nat} (hn : n < 48) : (s.set f v).srcRuns n = s.srcRuns n := by
  have hpll : ∀ p, pllOf n = some p → p < 7 := by
    intro p; unfold pllOf; split_ifs <;> simp <;> omega
  unfold State.srcRuns
  rw [set_get_bearing s v hf (CLK.ISL_CLK.SRC_NOW n) (by simp [bearsOnAccess]; omega)]
  dsimp only
  split_ifs
  · rfl
  · cases h : pllOf n with
    | none => rfl
    | some p =>
      have := hpll p h
      exact set_flag_bearing s v hf _ (by simp [bearsOnAccess]; omega)
  · exact set_flag_bearing s v hf _ (by simp [bearsOnAccess]; omega)
  · rfl

theorem set_clkReq (n : Nat) : (s.set f v).clkReq n = s.clkReq n := by
  have h (p : Nat) : (s.set f v).flag (HDR.PAGE_CTL.CLK_REQ p) = s.flag (HDR.PAGE_CTL.CLK_REQ p) :=
    set_flag_bearing s v hf _ (by simp [bearsOnAccess]; omega)
  simp only [State.clkReq, h]

theorem set_clkOn {n : Nat} (hn : n < 48) : (s.set f v).clkOn n = s.clkOn n := by
  unfold State.clkOn State.clusterGated
  rw [set_srcRuns s v hf hn, set_clkReq s v hf, set_flag_bearing s v hf (HDR.PAGE_CTL.EN (0x30 + (n - 19))) (by simp [bearsOnAccess])]
  rfl

theorem set_resetting (p : Nat) : (s.set f v).resetting p = s.resetting p :=
  set_flag_bearing s v hf _ (by simp [bearsOnAccess]; omega)

theorem set_pageOff {p : Nat} (hp : p < 128) : (s.set f v).pageOff p = s.pageOff p := by
  unfold State.pageOff
  rw [set_clkOn s v hf (pageIsland_lt hp), set_flag_bearing s v hf (HDR.PAGE_STAT.RESET_ACTIVE p) (by simp [bearsOnAccess]; omega)]
  rfl

/-- The fabric's verdict does not depend on registers that bear on no access. -/
theorem set_judge (m : Master) {a : Nat} (ha : a < 0x80000) (w : Word) (fs : List Fld) (ok : Bool) :
    (s.set f v).judge m a w fs ok = s.judge m a w fs ok := by
  unfold State.judge
  rw [set_canAccess s v hf, set_mayWrite s v hf m ha, set_pageOff s v hf (by unfold pageOf; omega)]

end

end Sys2Proof.Machine
end

section
/-! SUPPORT. The frame queues (R183). -/
namespace Sys2Proof.Machine
open Sys2Proof

theorem fieldsAt_TXQ_CTL : fieldsAt 0x2B088 = [LNK.TXQ_CTL.BUSY, LNK.TXQ_CTL.LANE, LNK.TXQ_CTL.GO, LNK.TXQ_CTL.LEN] := rfl

/-! The network's state beside the register file -/

/-- The state with another content of the links and queues. -/
def State.setLnk (s : State) (l : Lnk) : State := { s with lnk := l }

@[simp] theorem State.setLnk_get (s : State) (l : Lnk) (f : Fld) : (s.setLnk l).get f = s.get f := rfl
@[simp] theorem State.setLnk_out (s : State) (l : Lnk) : (s.setLnk l).out = s.out := rfl
@[simp] theorem State.setLnk_lnk (s : State) (l : Lnk) : (s.setLnk l).lnk = l := rfl

theorem Keeps.setLnk {s t : State} {ks : List Nat} (h : Keeps s t ks) (l : Lnk) : Keeps s (t.setLnk l) ks := h

/-! What RXQ_STAT shows of a queue -/

@[simp] theorem syncRxq_lnk (s : State) : s.syncRxq.lnk = s.lnk := by simp [State.syncRxq, State.put_eq]

theorem syncRxq_level (s : State) : s.syncRxq.get LNK.RXQ_STAT.LEVEL = s.lnk.rxq.length % 32 := by
  simp [State.syncRxq, State.put_eq]

theorem syncRxq_drop (s : State) : s.syncRxq.get LNK.RXQ_STAT.DROP = s.get LNK.RXQ_STAT.DROP := by
  simp [State.syncRxq, State.put_eq]

theorem syncRxq_valid {s : State} (h : 0 < s.lnk.rxq.length) : s.syncRxq.get LNK.RXQ_STAT.VALID = 1 := by
  simp [State.syncRxq, State.put_eq, h]

theorem syncRxq_lane (s : State) : s.syncRxq.get LNK.RXQ_STAT.LANE = (s.lnk.rxq.headD {}).lane % 16 := by
  simp [State.syncRxq, State.put_eq]

theorem syncRxq_len (s : State) : s.syncRxq.get LNK.RXQ_STAT.LEN = (s.lnk.rxq.headD {}).data.length % 256 := by
  simp [State.syncRxq, State.put_eq]

/-! A frame arrives -/

/-- The queue with a frame put at its end, with its lane and the present time. -/
def State.rxqPut (s : State) (l : Nat) (data : List Byte) : State :=
  s.setLnk { s.lnk with rxq := s.lnk.rxq ++ [{ lane := l, sec := s.linkTime.1, ns := s.linkTime.2, data := data.map (·.toNat) }] }

section
variable {s : State} {l : Nat} {data : List Byte}

theorem ptpFrame_enters (hen : s.flag (LNK.LANE_CTL.EN l) = true) (hclk : s.clkOn 3 = true) (hrst : s.resetting 0x2B = false)
    (hlen : data.length ≤ 128) (hroom : s.lnk.rxq.length < 16) : s.ptpFrame l data = (s.rxqPut l data).syncRxq := by
  simp [State.ptpFrame, hen, hclk, hrst, hlen, hroom, State.rxqPut, State.setLnk]

theorem ptpFrame_dropped (hen : s.flag (LNK.LANE_CTL.EN l) = true) (hclk : s.clkOn 3 = true) (hrst : s.resetting 0x2B = false)
    (h : 128 < data.length ∨ 16 ≤ s.lnk.rxq.length) : s.ptpFrame l data = s.count LNK.RXQ_STAT.DROP 1 := by
  simp [State.ptpFrame, hen, hclk, hrst, h]

end

theorem count_one_get_8 (s : State) {f : Fld} (hw : f.w = 8) : (s.count f 1).get f = min (s.get f + 1) 255 := by
  simp only [State.count_eq, State.get_set_same, satAdd, hw]; omega

/-! The transmit buffer -/

/-- The bytes of a word, the first from bits 31:24. -/
theorem leBytes_four_reverse (v : Nat) : (leBytes 4 v).reverse = [bits v 24 8, bits v 16 8, bits v 8 8, bits v 0 8] := by
  simp [leBytes, bits, Nat.div_div_eq_div_mul]

theorem txqCtl_go {s : State} {v : Word} (hgo : v.getLsbD 8 = true) (hb : s.flag LNK.TXQ_CTL.BUSY = false) :
    s.txqCtl v = (((s.set LNK.TXQ_CTL.LANE (LNK.TXQ_CTL.LANE.of v)).set LNK.TXQ_CTL.LEN (LNK.TXQ_CTL.LEN.of v)).set LNK.TXQ_CTL.BUSY 1).setLnk
      { s.lnk with txGo := (LNK.TXQ_CTL.LANE.of v % 16, LNK.TXQ_CTL.LEN.of v % 256) } := by
  have hw : s.writeReg 0x2B088 v = (s.set LNK.TXQ_CTL.LANE (LNK.TXQ_CTL.LANE.of v)).set LNK.TXQ_CTL.LEN (LNK.TXQ_CTL.LEN.of v) := by
    simp only [State.writeReg, fieldsAt_TXQ_CTL, State.writeFlds, List.foldl]
    rfl
  simp [State.txqCtl, hgo, hb, hw, State.setLnk]

theorem txqCtl_busy {s : State} {v : Word} (hgo : v.getLsbD 8 = true) (hb : s.flag LNK.TXQ_CTL.BUSY = true) : s.txqCtl v = s := by
  simp [State.txqCtl, hgo, hb]

theorem bits_mod (v lo w : Nat) : bits v lo w % 2 ^ w = bits v lo w := Nat.mod_mod _ _

/-- The status registers that a sent frame leaves: its timestamp, and BUSY clear. -/
def State.txqStamped (s : State) : State :=
  (((s.set LNK.TXQ_TS_SEC_HI.SEC (s.linkTime.1 / 2 ^ 32)).set LNK.TXQ_TS_SEC_LO.SEC s.linkTime.1).set LNK.TXQ_TS_NS.NS s.linkTime.2).set
    LNK.TXQ_CTL.BUSY 0

/-- A sent frame leaves its status and the empty buffer. -/
def State.txqStamp (s : State) : State := s.txqStamped.setLnk { s.lnk with tx := [] }

/-- The frame leaves and is counted on its lane. -/
def State.txqCounted (s : State) (l : Nat) (bytes : List Nat) : State :=
  (s.wrap (LNK.TX_CNT.SENT l)).setLnk { s.lnk with txSent := Tab.set [] s.lnk.txSent l bytes }

/-- A lane is up whatever the registers of page LNK below those of the lanes hold. -/
theorem set_laneUp (s : State) {f : Fld} (v l : Nat) (hlo : 0x2B010 ≤ f.key / 32) (hhi : f.key / 32 < 0x2B100) :
    (s.set f v).laneUp l = s.laneUp l := by
  have hf : bearsOnAccess (f.key / 32) = false := by simp [bearsOnAccess]; omega
  have hget (g : Fld) (hg : 0x2B100 ≤ g.key / 32) : (s.set f v).get g = s.get g := State.get_set_ne s v (by intro e; omega)
  unfold State.laneUp State.flag
  rw [set_clkOn s v hf (by decide), set_resetting s v hf, hget (LNK.LANE_CTL.EN l) (by simp; omega), hget (LNK.LANE_STAT.UP l) (by simp; omega)]

theorem txqStamp_laneUp (s : State) (l : Nat) : s.txqStamp.laneUp l = s.laneUp l := by
  have h : s.txqStamp.laneUp l = s.txqStamped.laneUp l := rfl
  rw [h, State.txqStamped, set_laneUp, set_laneUp, set_laneUp, set_laneUp] <;> simp

theorem txqStamp_get (s : State) (g : Fld) : s.txqStamp.get g = s.txqStamped.get g := rfl

theorem txqSent_busy {s : State} (hb : s.flag LNK.TXQ_CTL.BUSY = true) :
    s.txqSent = if s.laneUp s.lnk.txGo.1 then s.txqStamp.txqCounted s.lnk.txGo.1 s.txqBytes else s.txqStamp := by
  rw [← txqStamp_laneUp]
  simp only [State.txqSent, hb, if_true]
  rfl

theorem txqStamp_status (s : State) : s.txqStamp.get LNK.TXQ_CTL.BUSY = 0 ∧
    s.txqStamp.get LNK.TXQ_TS_SEC_LO.SEC = s.linkTime.1 % 2 ^ 32 ∧ s.txqStamp.get LNK.TXQ_TS_NS.NS = s.linkTime.2 % 2 ^ 30 := by
  simp [txqStamp_get, State.txqStamped]

theorem txqStamped_sent (s : State) (l : Nat) : s.txqStamped.get (LNK.TX_CNT.SENT l) = s.get (LNK.TX_CNT.SENT l) := by
  have h : ¬(LNK.TX_CNT.SENT l).key / 32 < 0x2B100 := by simp; omega
  have hne {f : Fld} (hf : f.key / 32 < 0x2B100) : (LNK.TX_CNT.SENT l).key ≠ f.key := fun e => h (e ▸ hf)
  unfold State.txqStamped
  rw [State.get_set_ne _ _ (hne (by simp)), State.get_set_ne _ _ (hne (by simp)), State.get_set_ne _ _ (hne (by simp)),
    State.get_set_ne _ _ (hne (by simp))]

/-- The count of a lane's frames is the only field that a counted frame changes. -/
theorem txqCounted_get (s : State) (l : Nat) (bytes : List Nat) {g : Fld} (hg : g.key / 32 < 0x2B100) :
    (s.txqCounted l bytes).get g = s.get g :=
  State.get_set_ne s _ (by simp only [key_LNK_TX_CNT_SENT]; omega)

/-- Settles O34, clause by clause: each command is brought to its effect, and what the effect leaves is read off. -/
theorem frameQueues : Obligations.FrameQueues := by
  refine ⟨fun s l data hen hclk hrst => ⟨fun hlen hroom => ?_, fun h => ?_⟩, fun s m hm hp => ?_, fun s m v ht hv => ?_, fun s m v ht hl => ?_,
    fun s m v ht hgo => ⟨fun hb => ?_, fun hb => ?_⟩, fun s hb => ?_⟩
  · refine answers_of rfl (ptpFrame_enters hen hclk hrst hlen hroom) ⟨?_, ?_, ?_, ?_, fun he => ⟨?_, ?_⟩, ?_⟩
    · rw [syncRxq_lnk]; rfl
    · rw [syncRxq_lnk]; rfl
    · rw [syncRxq_level]; simp [State.rxqPut]; omega
    · exact syncRxq_valid (by simp [State.rxqPut])
    · rw [syncRxq_lane]; simp [State.rxqPut, he]
    · rw [syncRxq_len]; simp [State.rxqPut, he]; omega
    · exact syncRxq_drop _
  · exact answers_of rfl (ptpFrame_dropped hen hclk hrst h) ⟨count_one_get_8 s rfl, (Keeps.refl s _).set _ (by simp), rfl⟩
  · refine answers_of rfl (ask_readBy_on State.rxqWord State.rxqNext hm (by decide) hp) ?_
    have hout : s.ask.rxqWord = beWord ((s.lnk.rxq.headD {}).data.drop s.lnk.rxPos) := rfl
    simp only [show pageOf 0x2B080 = 0x2B from rfl, hout]
    by_cases hr : s.readsWithEffect m 0x2B = true
    · by_cases hq : s.lnk.rxq = []
      · have hn : s.ask.rxqNext = s.ask := by simp [State.rxqNext, hq]
        simp only [hr, hn, if_true]
        exact ⟨by simp, Keeps.of_reg rfl _, by simp, by simp [hq]⟩
      · have hn : s.ask.rxqNext = s.ask.setLnk { s.lnk with rxPos := s.lnk.rxPos + 4 } := by
          simp [State.rxqNext, hq, State.setLnk]
        simp only [hr, hn, if_true]
        exact ⟨by simp, Keeps.of_reg rfl _, by simp, by simp [hq]⟩
    · simp only [hr]
      exact ⟨by simp, Keeps.of_reg rfl _, by simp, by simp⟩
  · refine answersSettled_of rfl (guarded_of_takes _ ht (by decide)) ?_
    simp only [State.rxqPop, hv, if_true, syncRxq_level, syncRxq_drop, syncRxq_lnk]
    exact ⟨rfl, trivial, by simp, rfl⟩
  · refine answersSettled_of rfl (guarded_of_takes _ ht (by decide)) ?_
    simp only [State.txqData, State.outcome_lnk, hl, if_true, leBytes_four_reverse]
    exact ⟨trivial, Keeps.of_reg rfl _⟩
  · refine answersSettled_of rfl ((guarded_of_takes _ ht (by decide)).trans (txqCtl_go (s := s.outcome m 0) hgo hb)) ?_
    have hlane : LNK.TXQ_CTL.LANE.of v % 16 = bits v.toNat 16 4 := bits_mod _ _ _
    have hlen : LNK.TXQ_CTL.LEN.of v % 256 = bits v.toNat 0 8 := bits_mod _ _ _
    rw [hlane, hlen]
    refine ⟨by simp, ?_, ?_, ?_, rfl⟩
    · exact Eq.trans (by simp) hlane
    · exact Eq.trans (by simp) hlen
    · exact Keeps.setLnk (Keeps.set (Keeps.set (Keeps.set (Keeps.of_reg rfl _) _ (by simp)) _ (by simp)) _ (by simp)) _
  · exact answersSettled_of rfl ((guarded_of_takes _ ht (by decide)).trans (txqCtl_busy (s := s.outcome m 0) hgo hb))
      ⟨Keeps.of_reg rfl _, rfl⟩
  · refine answers_of rfl (txqSent_busy hb) ?_
    obtain ⟨hBusy, hSec, hNs⟩ := txqStamp_status s
    by_cases hup : s.laneUp s.lnk.txGo.1 = true
    · rw [if_pos hup, txqCounted_get _ _ _ (by simp), txqCounted_get _ _ _ (by simp), txqCounted_get _ _ _ (by simp)]
      exact ⟨hBusy, rfl, hSec, hNs, fun _ => ⟨(State.get_set_same _ _ _).trans (by rw [txqStamp_get, txqStamped_sent]; rfl), Tab.get_set_same _ _ _ _⟩⟩
    · rw [if_neg hup]
      exact ⟨hBusy, rfl, hSec, hNs, fun h => absurd h hup⟩

end Sys2Proof.Machine
end

section
/-! SUPPORT. The IEEE 1588 time (R182). -/
namespace Sys2Proof.Machine
open Sys2Proof

/-! The time read from its count -/

/-- The time depends on its count, the clock and the rate alone. -/
theorem linkNum_congr {s t : State} (hon : t.lnk.on = s.lnk.on) (hnum : t.lnk.num = s.lnk.num) (hat : t.lnk.at_ = s.lnk.at_)
    (hnow : t.now = s.now) (hrate : t.get LNK.PTP_RATE.ADJ = s.get LNK.PTP_RATE.ADJ) : t.linkNum = s.linkNum := by
  simp only [State.linkNum, State.ptpRate, hon, hnum, hat, hnow, hrate]

theorem linkTime_congr {s t : State} (hon : t.lnk.on = s.lnk.on) (hnum : t.linkNum = s.linkNum) : t.linkTime = s.linkTime := by
  simp only [State.linkTime, hon, hnum]

theorem set_linkTime (s : State) {f : Fld} (n : Nat) (h : ¬LNK.PTP_RATE.ADJ.key = f.key) : (s.set f n).linkTime = s.linkTime :=
  linkTime_congr rfl (linkNum_congr rfl rfl rfl rfl (State.get_set_of_key_ne s n h))

theorem ask_linkTime (s : State) : s.ask.linkTime = s.linkTime := linkTime_congr rfl (linkNum_congr rfl rfl rfl rfl rfl)

/-- A time of whole nanoseconds reads as seconds and nanoseconds. -/
theorem linkTime_of_num {s : State} {sec ns : Nat} (hon : s.lnk.on = true) (hns : ns < 1000000000)
    (hnum : s.linkNum = ((sec * 1000000000 + ns : Nat) : Int) * nsUnit) : s.linkTime = (sec % 2 ^ 48, ns) := by
  have h : (s.linkNum / 3072000000000000).toNat = sec * 1000000000 + ns := by
    rw [hnum]; simp only [nsUnit]; omega
  simp only [State.linkTime, hon, if_true, h, splitNs]
  congr 1 <;> omega

/-- The count of a time that was set at the present instant. -/
theorem linkNum_at_now {s : State} (h : s.lnk.at_ = s.now) : s.linkNum = s.lnk.num := by
  simp [State.linkNum, h]

/-- The second that PTP_LD names. -/
def State.ptpLdSec (s : State) : Nat := s.get LNK.PTP_LD_SEC_HI.SEC * 2 ^ 32 + s.get LNK.PTP_LD_SEC_LO.SEC

theorem ptpLoad_eq (s : State) : s.ptpLoad = (s.setLnk { s.lnk with
    num := ((s.ptpLdSec * 1000000000 + s.get LNK.PTP_LD_NS.NS : Nat) : Int) * nsUnit, at_ := s.now }).set LNK.PTP_CTL.SET 1 := rfl

/-- A load sets the time to PTP_LD. -/
theorem ptpLoad_linkTime {s : State} (hon : s.lnk.on = true) (hns : s.get LNK.PTP_LD_NS.NS < 1000000000) :
    s.ptpLoad.linkTime = (s.ptpLdSec % 2 ^ 48, s.get LNK.PTP_LD_NS.NS) :=
  linkTime_of_num (s := s.ptpLoad) hon hns (linkNum_at_now rfl)

theorem ptpMove_eq {s : State} (h : 0 ≤ s.linkNum + sext 32 (s.get LNK.PTP_STEP.NS) * nsUnit) : s.ptpMove =
    (s.setLnk { s.lnk with num := s.linkNum + sext 32 (s.get LNK.PTP_STEP.NS) * nsUnit, at_ := s.now }).set LNK.PTP_CTL.SET 1 := by
  have hm : s.ptpMove = (s.setLnk { s.lnk with num := max 0 (s.linkNum + sext 32 (s.get LNK.PTP_STEP.NS) * nsUnit), at_ := s.now }).set
    LNK.PTP_CTL.SET 1 := rfl
  rw [hm, max_eq_right h]

/-! Writes of PTP_CTL -/

section
variable {s : State} {v : Word}

theorem ptpCtl_load (h0 : v.getLsbD 0 = true) (h3 : v.getLsbD 3 = false) : s.ptpCtl v = s.ptpLoad := by
  simp only [State.ptpCtl, h0, h3, if_true, Bool.false_eq_true, if_false]

/-- Of LOAD_NOW, LOAD_PPS and STEP a legal word sets one. -/
theorem ptpOne_pps (h : ptpOne v = true) (h1 : v.getLsbD 1 = true) : v.getLsbD 0 = false ∧ v.getLsbD 2 = false := by
  revert h; unfold ptpOne; rw [h1]; cases v.getLsbD 0 <;> cases v.getLsbD 2 <;> decide

theorem ptpOne_step (h : ptpOne v = true) (h2 : v.getLsbD 2 = true) : v.getLsbD 0 = false ∧ v.getLsbD 1 = false := by
  revert h; unfold ptpOne; rw [h2]; cases v.getLsbD 0 <;> cases v.getLsbD 1 <;> decide

theorem ptpCtl_pps (h : ptpOne v = true) (h1 : v.getLsbD 1 = true) (h3 : v.getLsbD 3 = false) :
    s.ptpCtl v = s.set LNK.PTP_CTL.LPEND 1 := by
  simp only [State.ptpCtl, ptpOne_pps h h1, h1, h3, if_true, Bool.false_eq_true, if_false]

theorem ptpCtl_step (h : ptpOne v = true) (h2 : v.getLsbD 2 = true) (h3 : v.getLsbD 3 = false) : s.ptpCtl v = s.ptpMove := by
  simp only [State.ptpCtl, ptpOne_step h h2, h2, h3, if_true, Bool.false_eq_true, if_false]

theorem ptpCtl_beat (h : v.toNat % 8 = 0) (h3 : v.getLsbD 3 = true) :
    s.ptpCtl v = (s.set LNK.PTP_CTL.VALID 1).setLnk { s.lnk with beatAt := s.now } := by
  have hbit (i : Nat) (hi : i < 3) : v.getLsbD i = false := by
    have hm := Nat.testBit_mod_two_pow v.toNat 3 i
    simpa [h, hi, BitVec.getLsbD] using hm.symm
  simp only [State.ptpCtl, hbit 0, hbit 1, hbit 2, Nat.reduceLT, h3, if_true, Bool.false_eq_true, if_false]
  rfl

end

/-! PPS_IN -/

/-- The time is latched for the PPS words. -/
def State.ppsLatched (s : State) : State := s.setLnk { s.lnk with pps := s.linkTime }

theorem ppsEdge_on {s : State} (hclk : s.clkOn 3 = true) (hrst : s.resetting 0x2B = false) :
    s.ppsEdge = if s.flag LNK.PTP_CTL.LPEND then s.ppsLatched.ptpLoad.set LNK.PTP_CTL.LPEND 0 else s.ppsLatched := by
  simp only [State.ppsEdge, hclk, hrst]
  rfl

/-- A read of TIME_SEC_HI latches the three words of the time. -/
theorem latchTime_eq (s : State) : s.latchTime = ((s.set LNK.TIME_SEC_HI.SEC (s.linkTime.1 / 2 ^ 32)).set LNK.TIME_SEC_LO.SEC s.linkTime.1).set
    LNK.TIME_NS.NS s.linkTime.2 := rfl

/-- Settles O33, clause by clause: each write of PTP_CTL is brought to its one effect on the time. -/
theorem ptpTime : Obligations.PtpTime := by
  refine ⟨fun s m v ht hon => ⟨fun h0 h3 hns => ?_, fun h1 h3 => ?_, fun h2 h3 hpos => ?_, fun h3 h => ?_⟩, fun s m v ht h0 h1 => ?_,
    fun s hv => ?_, fun s hclk hrst hon hns => ?_, fun s m hm hp => ?_⟩
  · refine answersSettled_of rfl ((guardedBy_of_take _ ht (by decide)).trans (ptpCtl_load h0 h3)) ⟨?_, ?_, ?_⟩
    · exact ptpLoad_linkTime (s := s.outcome m 0) hon hns
    · exact State.get_set_same _ _ _
    · exact Keeps.set (Keeps.of_reg rfl _) _ (by simp)
  · have hone : ptpOne v = true := ((judge_take_iff _ _ _ _ _ _).mp ht.2).2.2.2.2.2
    refine answersSettled_of rfl ((guardedBy_of_take _ ht (by decide)).trans (ptpCtl_pps hone h1 h3)) ⟨?_, ?_, rfl⟩
    · exact State.get_set_same _ _ _
    · exact Keeps.set (Keeps.of_reg rfl _) _ (by simp)
  · have hone : ptpOne v = true := ((judge_take_iff _ _ _ _ _ _).mp ht.2).2.2.2.2.2
    refine answersSettled_of rfl ((guardedBy_of_take _ ht (by decide)).trans
      ((ptpCtl_step hone h2 h3).trans (ptpMove_eq (s := s.outcome m 0) hpos))) ⟨?_, ?_, ?_⟩
    · exact linkNum_at_now rfl
    · exact State.get_set_same _ _ _
    · exact Keeps.set (Keeps.of_reg rfl _) _ (by simp)
  · refine answersSettled_of rfl ((guardedBy_of_take _ ht (by decide)).trans (ptpCtl_beat h h3)) ⟨by simp, rfl, ?_, ?_⟩
    · exact linkNum_congr rfl rfl rfl rfl (by simp)
    · exact Keeps.setLnk (Keeps.set (Keeps.of_reg rfl _) _ (by simp)) _
  · refine answersVia_of rfl (congrArg State.settle (guardedBy_of_value _ ht)) ⟨Keeps.of_reg (by simp) _, ?_⟩
    · rw [breakKey_of_page_ne (by decide)]; rfl
  · refine answers_of rfl (if_pos hv) ⟨State.get_set_same _ _ _, rfl, Keeps.set (Keeps.of_reg rfl _) _ (by simp)⟩
  · refine answers_of rfl (ppsEdge_on hclk hrst) ?_
    by_cases hl : s.flag LNK.PTP_CTL.LPEND = true
    · have hload : s.ppsLatched.ptpLoad.linkTime = (s.ptpLdSec % 2 ^ 48, s.get LNK.PTP_LD_NS.NS) :=
        ptpLoad_linkTime (s := s.ppsLatched) hon hns
      rw [if_pos hl, set_linkTime _ _ (by simp), hload]
      refine ⟨by simp [ptpLoad_eq, State.ppsLatched], fun _ => ⟨rfl, by simp, by simp [ptpLoad_eq]⟩, fun h => absurd hl (by simp [h]), ?_⟩
      rw [ptpLoad_eq]
      exact Keeps.set (Keeps.set (Keeps.setLnk (Keeps.setLnk (Keeps.refl s _) _) _) _ (by simp)) _ (by simp)
    · rw [if_neg hl]
      exact ⟨rfl, fun h => absurd h hl, fun _ => linkTime_congr rfl (linkNum_congr rfl rfl rfl rfl rfl), Keeps.of_reg rfl _⟩
  · refine answers_of rfl (ask_readBy_on (fun t => t.linkTime.1 / 2 ^ 32) State.latchTime hm (by decide) hp) ?_
    simp only [show pageOf 0x2B058 = 0x2B from rfl, ask_linkTime]
    by_cases hr : s.readsWithEffect m 0x2B = true
    · simp only [hr, if_true, latchTime_eq, ask_linkTime]
      refine ⟨by simp, ?_, fun _ => ⟨by simp, by simp⟩, fun h => absurd h (by decide)⟩
      exact Keeps.reg_eq (Keeps.set (Keeps.set (Keeps.set (Keeps.of_reg (State.ask_reg s) _) _ (by simp)) _ (by simp)) _ (by simp)) rfl
    · simp only [hr]
      exact ⟨by simp, Keeps.of_reg rfl _, fun h => absurd h (by decide), fun _ => Keeps.of_reg rfl _⟩

end Sys2Proof.Machine
end

section
/-! SUPPORT. An access that is dropped with a notice: what stands in FLT.ACCESS_NOTE when the source fires (R4, R6, R358). -/
namespace Sys2Proof.Machine
open Sys2Proof

/-- The note of an access, before its source fires. -/
def State.accNoted (s : State) (m : Master) (a c : Nat) : State :=
  (((s.set FLT.ACCESS_NOTE.MASTER m.num).set FLT.ACCESS_NOTE.CAUSE c).set FLT.ACCESS_NOTE.PAGE (pageOf a)).set FLT.ACCESS_NOTE.OFFSET (a % 0x1000)

theorem accNotice_size (s : State) (m : Master) (a : Nat) :
    s.accNotice m a 0 = (s.accNoted m a 0).fire 0x04 FLT.src.ACCESS_SIZE { master := m.num } := rfl

theorem accNotice_value (s : State) (m : Master) (a : Nat) :
    s.accNotice m a 1 = (s.accNoted m a 1).fire 0x04 FLT.src.ACCESS_VALUE { master := m.num } := rfl

section
variable (s : State) (m : Master) (a c : Nat)

@[simp] theorem accNoted_master : (s.accNoted m a c).get FLT.ACCESS_NOTE.MASTER = m.num := by
  cases m <;> simp [State.accNoted, Master.num]

@[simp] theorem accNoted_cause : (s.accNoted m a c).get FLT.ACCESS_NOTE.CAUSE = c % 4 := by simp [State.accNoted]

@[simp] theorem accNoted_page : (s.accNoted m a c).get FLT.ACCESS_NOTE.PAGE = pageOf a % 128 := by simp [State.accNoted]

@[simp] theorem accNoted_offset : (s.accNoted m a c).get FLT.ACCESS_NOTE.OFFSET = a % 0x1000 := by simp [State.accNoted]

/-- The note touches nothing but the register file. -/
theorem accNoted_regOnly {s t : State} (h : t = { s with reg := t.reg }) (m : Master) (a c : Nat) :
    t.accNoted m a c = { s with reg := (t.accNoted m a c).reg } :=
  set_regOnly (set_regOnly (set_regOnly (set_regOnly h _ _) _ _) _ _) _ _

/-- A field outside page FLT reads as before. -/
theorem accNoted_get {f : Fld} (hf : f.key / 0x20000 ≠ 4) : (s.accNoted m a c).get f = s.get f := by
  have hne {g : Fld} (hg : g.key / 0x20000 = 4) : ¬f.key = g.key := fun e => hf (e ▸ hg)
  unfold State.accNoted
  rw [State.get_set_of_key_ne _ _ (hne rfl), State.get_set_of_key_ne _ _ (hne rfl), State.get_set_of_key_ne _ _ (hne rfl),
    State.get_set_of_key_ne _ _ (hne rfl)]

/-- A field other than the note's reads as before. -/
theorem Keeps.accNoted {s t : State} {ks : List Nat} (h : Keeps s t ks) (m : Master) (a c : Nat)
    (hk : [FLT.ACCESS_NOTE.MASTER.key, FLT.ACCESS_NOTE.CAUSE.key, FLT.ACCESS_NOTE.PAGE.key, FLT.ACCESS_NOTE.OFFSET.key] ⊆ ks) :
    Keeps s (t.accNoted m a c) ks :=
  Keeps.set (Keeps.set (Keeps.set (Keeps.set h _ (hk (by simp))) _ (hk (by simp))) _ (hk (by simp))) _ (hk (by simp))

end

/-- An access that R4 forbids raises ACCESS_SIZE. -/
theorem badSize_of_access {s : State} {m : Master} (h : s.canAccess m = true) (a : Nat) :
    s.badSize m a = (s.accNoted m a 0).fire 0x04 FLT.src.ACCESS_SIZE { master := m.num } := by
  simp only [State.badSize, h, if_true, accNotice_size]

end Sys2Proof.Machine
end

section
/-! SUPPORT. HELD and PROT_MUTE follow the slots (R444): what settling can do, said once, and when it leaves the register file. -/
namespace Sys2Proof.Machine
open Sys2Proof

/-- What every step of settling keeps, settling keeps. -/
theorem settle_induction {P : State → Prop} (hstep : ∀ t : State, ∀ j < 64, ∀ b f, P t → P (t.follow j b f)) {s : State} (h : P s) :
    P s.settle := by
  unfold State.settle
  refine List.foldlRecOn _ _ h fun t ht j hj => ?_
  have hj : j < 64 := List.mem_range.mp hj
  exact hstep _ j hj _ _ (hstep _ j hj _ _ ht)

/-- One source of a slot page: nothing, the end of its condition, or the condition and its firing. -/
theorem follow_cases (s : State) (j b : Nat) (f : Nat → Bool) :
    s.follow j b f = s ∨ s.follow j b f = s.condEnd (0x40 + j) b ∨
      ∃ i ∈ s.active, s.follow j b f = s.condBegin (0x40 + j) b { slot := some i } := by
  unfold State.follow
  split
  next i hi => exact .inr (.inr ⟨i, List.mem_of_find?_eq_some hi, rfl⟩)
  next => split
          · exact .inr (.inl rfl)
          · exact .inl rfl

/-- A condition that begins on a page that is off is noted, and nothing else. -/
theorem condBegin_reg_of_off {s : State} {p : Nat} (h : s.pageOff p = true) (b : Nat) (w : Why) : (s.condBegin p b w).reg = s.reg := by
  unfold State.condBegin
  split
  · rfl
  · rw [fire_off]
    have hoff : ∀ c, State.pageOff { s with flt := { s.flt with conds := c } } p = s.pageOff p := fun _ => rfl
    simp [State.canFire, hoff, h]

/-- A page in block reset is off. -/
theorem pageOff_of_resetting {s : State} {p : Nat} (h : s.resetting p = true) : s.pageOff p = true := by
  have h' : s.flag (HDR.PAGE_STAT.RESET_ACTIVE p) = true := h
  simp [State.pageOff, h']

/-- Where every slot page is in block reset, settling leaves the register file. -/
theorem settle_reg_of_resetting {s : State} (h : ∀ j < 64, s.resetting (0x40 + j) = true) : s.settle.reg = s.reg := by
  refine settle_induction (P := fun t => t.reg = s.reg) (fun t j hj b f ht => ?_) rfl
  have hr : t.resetting (0x40 + j) = true := by
    rw [← h j hj]; simp only [State.resetting, State.flag, State.get_of_reg ht]
  rcases follow_cases t j b f with e | e | ⟨i, -, e⟩
  · rw [e, ht]
  · rw [e]; exact ht
  · rw [e, condBegin_reg_of_off (pageOff_of_resetting hr), ht]

/-- Where no slot is enabled, settling leaves the register file, the slots and the resets. -/
theorem settle_of_inactive {s : State} (h : s.active = []) : s.settle.reg = s.reg ∧ s.settle.active = [] ∧ s.settle.inReset = s.inReset := by
  refine settle_induction (P := fun t => t.reg = s.reg ∧ t.active = [] ∧ t.inReset = s.inReset) (fun t j _ b f ht => ?_) ⟨rfl, h, rfl⟩
  rcases follow_cases t j b f with e | e | ⟨i, hi, -⟩
  · rwa [e]
  · rwa [e]
  · rw [ht.2.1] at hi; exact absurd hi List.not_mem_nil

end Sys2Proof.Machine
end

section
/-! SUPPORT. An SPI read at an address that R110 forbids (R110, R111, R114). -/
namespace Sys2Proof.Machine
open Sys2Proof

theorem serialOk_eq_false {a : Nat} (h : 0x80000 ≤ a ∨ a % 4 ≠ 0) : serialOk a = false := by
  simp only [serialOk, Bool.and_eq_false_iff, decide_eq_false_iff_not, beq_eq_false_iff_ne]; omega

/-- A read without an access returns zeros. -/
theorem readRun_zeros (s : State) (n : Nat) : s.readRun (fun s _ => s.reply 0) n = { s with out := s.out ++ List.replicate n 0 } := by
  unfold State.readRun
  induction n with
  | zero => simp
  | succ n ih => rw [List.range_succ, List.foldl_append, ih, List.replicate_succ']; simp [State.reply]

theorem count_canAccess (s : State) {f : Fld} (n : Nat) (m : Master) (hf : bearsOnAccess (f.key / 32) = false) :
    (s.count f n).canAccess m = s.canAccess m := set_canAccess s _ hf m

theorem bearsOnAccess_cut (port : Fin 2) : bearsOnAccess ((HSI.SPI_STAT.CUT port).key / 32) = false := by
  simp [bearsOnAccess]; omega

theorem spiBad_of_access {s : State} {m : Master} (h : s.canAccess m = true) (port : Fin 2) (a words : Nat) :
    s.spiBad port m a words =
      ((s.count (HSI.SPI_STAT.CUT port) words).accNoted m a 0).fire 0x04 FLT.src.ACCESS_SIZE { master := m.num } := by
  rw [State.spiBad, if_pos h, badSize_of_access (by rw [count_canAccess s _ m (bearsOnAccess_cut port), h])]

/-- A read at such an address returns zeros and raises ACCESS_SIZE; the counter of cut words is written with the value that it has. -/
theorem execSpiRead_bad {s : State} {port : Fin 2} {a : BitVec 24} (hbad : 0x80000 ≤ a.toNat ∨ a.toNat % 4 ≠ 0)
    (hacc : s.canAccess (spiMaster port) = true) (n : Nat) : execSpiRead port a n s =
    ok (((State.count { s with out := List.replicate n 0 } (HSI.SPI_STAT.CUT port) 0).accNoted (spiMaster port) a.toNat 0).fire 0x04
      FLT.src.ACCESS_SIZE { master := (spiMaster port).num }) := by
  simp only [execSpiRead, serialOk_eq_false hbad, Bool.false_eq_true, if_false, hacc, if_true, readRun_zeros]
  exact congrArg ok (spiBad_of_access (s := { s with out := List.replicate n 0 }) hacc port _ 0)

/-! The counterexample -/

/-- A part whose register file lists the reset value of SPI_STAT.CUT, which no canonical one does, with page FLT and the slot pages in block
reset. -/
def cutListed : State :=
  { State.reset with
    rst := { loaded := true }
    reg := ((HSI.SPI_STAT.CUT 0).key, 0) :: ((HDR.PAGE_STAT.RESET_ACTIVE 4).key, 1) ::
      (List.range 64).map fun j => ((HDR.PAGE_STAT.RESET_ACTIVE (0x40 + j)).key, 1) }

/-- A field at the place of SPI_STAT.CUT with another reset value: it tells a listed 0 from an unlisted one. -/
def cutWitness : Fld := { HSI.SPI_STAT.CUT 0 with rst := 1 }

/-- The pages that FLT's source and settling could fire on are in block reset. -/
def State.quietPages (s : State) : Prop := s.resetting 4 = true ∧ ∀ j < 64, s.resetting (0x40 + j) = true

theorem cutListed_quiet : cutListed.quietPages := by
  unfold State.quietPages; decide

/-- States that agree on PAGE_STAT are quiet together. -/
theorem quietPages_of_keeps {s t : State} {ks : List Nat} (h : Keeps s t ks) (hk : ∀ p, (HDR.PAGE_STAT.RESET_ACTIVE p).key ∉ ks)
    (hs : s.quietPages) : t.quietPages := by
  have hp (p : Nat) : t.resetting p = s.resetting p := by simp only [State.resetting, State.flag, h _ (hk p)]
  exact ⟨(hp 4).trans hs.1, fun j hj => (hp _).trans (hs.2 j hj)⟩

/-- On quiet pages neither the notice nor settling changes the register file. -/
theorem quiet_fire_settle_reg {s : State} (h : s.quietPages) (b : Nat) (w : Why) : (s.fire 4 b w).settle.reg = s.reg := by
  rw [fire_off w (by simp [State.canFire, pageOff_of_resetting h.1]), settle_reg_of_resetting h.2]

/-- What an SPI read of no word at address 1 leaves of it before the notice fires. -/
def cutRead : State := (State.count { cutListed with out := [] } (HSI.SPI_STAT.CUT 0) 0).accNoted .m1 1 0

theorem cutRead_quiet : cutRead.quietPages := by
  refine quietPages_of_keeps (ks := (HSI.SPI_STAT.CUT 0).key :: [FLT.ACCESS_NOTE.MASTER.key, FLT.ACCESS_NOTE.CAUSE.key,
    FLT.ACCESS_NOTE.PAGE.key, FLT.ACCESS_NOTE.OFFSET.key]) ?_ (fun p => by simp; omega) cutListed_quiet
  exact Keeps.accNoted (Keeps.set (Keeps.of_reg rfl _) _ (by simp)) _ _ _ (by simp)

/-- The read takes the listed 0 away. -/
theorem cutRead_witness : cutRead.get cutWitness = 1 := by
  rw [cutRead, accNoted_get _ _ _ _ (by decide)]; decide

theorem exec_cutRead : exec (.spiRead 0 1 0) cutListed = .next (cutRead.fire 0x04 FLT.src.ACCESS_SIZE { master := 1 }).settle :=
  execSpiRead_bad (s := cutListed) (port := 0) (a := 1) (.inr (by decide)) (by decide) 0

/-- Refutes O60 in the clause about an SPI read at an address that breaks R110. The read writes SPI_STAT.CUT with the value that it holds. In a
register file that lists the reset value 0 there, as `cutListed` does and a canonical one does not, the write takes the entry away, and
Keeps speaks of every field record at that place, also of one with another reset value. -/
theorem not_serialPorts : ¬ Obligations.SerialPorts := by
  intro ⟨hspi, _⟩
  obtain ⟨hbad, -⟩ := (hspi cutListed 0 1 0 0 .m1 5 rfl rfl).2
  obtain ⟨u, hx, -, hkeep⟩ := (hbad (.inr (by decide)) (by decide)).2 0 (by decide)
  have hreg : u.reg = cutRead.reg := by
    have he := congrArg State.reg (Host.Outcome.next.inj (hx.symm.trans exec_cutRead))
    rwa [quiet_fire_settle_reg cutRead_quiet,
      quiet_fire_settle_reg (quietPages_of_keeps hkeep (fun p => by simp; omega) cutListed_quiet)] at he
  have hone : u.get cutWitness = 1 := (State.get_of_reg hreg _).trans cutRead_witness
  have hzero : u.get cutWitness = 0 := hkeep cutWitness (by decide)
  exact absurd (hone.symm.trans hzero) (by decide)

end Sys2Proof.Machine
end

section
/-! SUPPORT. The slots that are enabled, and whether the part is in reset: what a source of a slot page that fires can do to them. It resets
the part, or leaves both alone (R340, R344, R412). -/
namespace Sys2Proof.Machine
open Sys2Proof

/-- The slots in use, and what tells whether a reset is in force. -/
def State.activity (s : State) : List Nat × Rst × Aon := (s.active, s.rst, s.aon)

theorem activity_of {s t : State} (hactive : t.active = s.active) (hrst : t.rst = s.rst) (haon : t.aon = s.aon) : t.activity = s.activity := by
  simp only [State.activity, hactive, hrst, haon]

@[simp] theorem set_activity (s : State) (f : Fld) (v : Nat) : (s.set f v).activity = s.activity := rfl
@[simp] theorem modSlot_activity (s : State) (i : Nat) (f : Slot → Slot) : (s.modSlot i f).activity = s.activity := rfl
@[simp] theorem modCh_activity (s : State) (c : Nat) (f : BiasCh → BiasCh) : (s.modCh c f).activity = s.activity := rfl
@[simp] theorem putBit_activity (s : State) (f : Fld) (i : Nat) (b : Bool) : (s.putBit f i b).activity = s.activity := rfl
@[simp] theorem count_activity (s : State) (f : Fld) (n : Nat) : (s.count f n).activity = s.activity := rfl

/-! Holds of the slots -/

@[simp] theorem silence_activity (s : State) (i : Nat) : (s.silence i).activity = s.activity := by
  unfold State.silence; rw [set_activity, set_activity]
@[simp] theorem cut_activity (s : State) (i : Nat) : (s.cut i).activity = s.activity := rfl

@[simp] theorem fadeOut_activity (s : State) (i t : Nat) : (s.fadeOut i t).activity = s.activity := by
  unfold State.fadeOut; split <;> rfl

@[simp] theorem hold_activity (s : State) (b i : Nat) : (s.hold b i).activity = s.activity := by
  unfold State.hold State.holdAt
  dsimp only
  split_ifs <;> simp

@[simp] theorem unhold_activity (s : State) (b i : Nat) : (s.unhold b i).activity = s.activity := by
  unfold State.unhold; dsimp only; split_ifs <;> simp

@[simp] theorem holdAll_activity (s : State) (b : Nat) (on : Bool) : (s.holdAll b on).activity = s.activity :=
  foldl_keeps State.activity _ (fun t i => by cases on <;> simp) _ _

@[simp] theorem cutRamps_activity (s : State) : s.cutRamps.activity = s.activity :=
  foldl_keeps State.activity _ (fun t i => cut_activity t i) _ _

@[simp] theorem syncGate_activity (s : State) : s.syncGate.activity = s.activity := by
  unfold State.syncGate; dsimp only; split_ifs <;> simp

@[simp] theorem txOff_activity (s : State) : s.txOff.activity = s.activity := by
  unfold State.txOff
  rw [cutRamps_activity]
  exact foldl_keeps State.activity _ (fun t i => by dsimp only; split_ifs <;> simp) _ _

/-! Records -/

@[simp] theorem enter_activity (s : State) (r : Rec) : (s.enter r).activity = s.activity := by
  unfold State.enter; dsimp only; split_ifs <;> rfl

@[simp] theorem startFlush_activity (s : State) : s.startFlush.activity = s.activity := by
  unfold State.startFlush; split_ifs <;> rfl

@[simp] theorem place_activity (s : State) (r : Rec) : (s.place r).1.activity = s.activity := by
  unfold State.place
  dsimp only
  split_ifs
  · simp
  · split <;> simp <;> rfl

@[simp] theorem record_activity (s : State) (r : Rec) : (s.record r).1.activity = s.activity := by
  unfold State.record
  dsimp only
  split_ifs <;> simp <;> rfl

@[simp] theorem note_activity (s : State) (r : Rec) : (s.note r).1.activity = s.activity := by
  unfold State.note; dsimp only; split_ifs <;> simp

/-! Reactions -/

@[simp] theorem startMove_activity (s : State) (c : Nat) : (s.startMove c).activity = s.activity := by
  unfold State.startMove; dsimp only; split_ifs <;> simp

@[simp] theorem enterSafe_activity (s : State) (c : Nat) : (s.enterSafe c).activity = s.activity := by
  unfold State.enterSafe State.retargetNow; dsimp only; split_ifs <;> simp

@[simp] theorem biasSafe_activity (s : State) : s.biasSafe.activity = s.activity :=
  foldl_keeps State.activity _ (fun t c => enterSafe_activity t c) _ _

theorem holdCores_activity (s : State) : s.holdCores.activity = s.activity := activity_of rfl rfl rfl

theorem trap_activity (s : State) (p b : Nat) : (s.trap p b).activity = s.activity := by
  unfold State.trap
  dsimp only
  split_ifs <;> simp [holdCores_activity]

@[simp] theorem trapAll_activity (s : State) (p b : Nat) : (s.trapAll p b).activity = s.activity := trap_activity { s with nmi := s.nmi + 1 } p b

@[simp] theorem latchTerminal_activity (s : State) (p b : Nat) (forced : Bool) : (s.latchTerminal p b forced).activity = s.activity := by
  unfold State.latchTerminal; split_ifs <;> rfl

@[simp] theorem softReact_activity (s : State) (p b r cls : Nat) (forced : Bool) : (s.softReact p b r cls forced).activity = s.activity := by
  unfold State.softReact; dsimp only; split_ifs <;> simp

@[simp] theorem status_activity (s : State) (p b : Nat) : (s.status p b).activity = s.activity := by
  unfold State.status; dsimp only; split_ifs <;> simp

@[simp] theorem updFirst_activity (s : State) (p : Nat) : (s.updFirst p).activity = s.activity := by
  unfold State.updFirst; split_ifs <;> simp

/-! Block resets of the event page, the governor page and the slot pages -/

@[simp] theorem clearFlds_activity (s : State) (fs : List Fld) : (s.clearFlds fs).activity = s.activity :=
  foldl_keeps State.activity _ (fun t f => set_activity t f _) _ _

theorem setGov_activity (s : State) (g : Tab Gov) : State.activity { s with gov := g } = s.activity := rfl

theorem restartObs_activity (s : State) (i : Nat) : (s.restartObs i).activity = s.activity :=
  (setGov_activity _ _).trans (clearFlds_activity _ _)

@[simp] theorem restartSlot_activity (s : State) (i : Nat) : (s.restartSlot i).activity = s.activity := by
  have hobs (f g : Slot → Slot) : ((((s.modSlot i f).cut i).modSlot i g).restartObs i).activity = s.activity :=
    (restartObs_activity _ i).trans ((modSlot_activity _ i g).trans ((cut_activity _ i).trans (modSlot_activity s i f)))
  refine (set_activity _ _ _).trans ?_
  split
  · exact (set_activity _ _ _).trans (hobs _ _)
  · exact hobs _ _

@[simp] theorem badFrom_activity (s : State) (p : Nat) : (s.badFrom p).activity = s.activity := by
  unfold State.badFrom
  exact foldl_keeps State.activity _ (fun t i => modSlot_activity t i _) _ _

/-- The pages of which settling may fire a source, or a record raise one: EVT, GOV and the slot pages. -/
def settlePage (p : Nat) : Prop := p = 0x06 ∨ p = 0x23 ∨ 0x40 ≤ p

theorem restart_evt (s : State) :
    s.restart 0x06 = { s.badFrom 0x06 with evt := { (s.badFrom 0x06).evt with flushing := false, latching := false } } := rfl

theorem restart_gov (s : State) : s.restart 0x23 = { s.badFrom 0x23 with
    gov := (s.badFrom 0x23).gov.map fun e => (e.1, { e.2 with capN := 0, capOk := true, capValid := 0, clean := 0 }) } := rfl

theorem restart_activity (s : State) {p : Nat} (hp : settlePage p) : (s.restart p).activity = s.activity := by
  rcases hp with rfl | rfl | hp
  · rw [restart_evt, ← badFrom_activity s 0x06]; exact activity_of rfl rfl rfl
  · rw [restart_gov, ← badFrom_activity s 0x23]; exact activity_of rfl rfl rfl
  · unfold State.restart
    rw [if_pos (.inr hp), ← badFrom_activity s p]
    exact foldl_keeps State.activity _ (fun t i => restartSlot_activity t i) _ _

theorem blockReset_activity (s : State) {p : Nat} (hp : settlePage p) : (s.blockReset p).activity = s.activity := by
  unfold State.blockReset
  dsimp only
  split_ifs
  · rfl
  · rw [restart_activity _ hp]; rfl

/-! A firing resets the part or leaves both alone -/

/-- The state is in reset, or has the enabled slots of before and is as far from reset. -/
def State.ends (s t : State) : Prop := t.inReset = true ∨ t.active = s.active ∧ t.inReset = s.inReset

theorem ends_of_activity {s t : State} (h : t.activity = s.activity) : s.ends t := by
  simp only [State.activity, Prod.mk.injEq] at h
  obtain ⟨hactive, hrst, haon⟩ := h
  exact .inr ⟨hactive, by simp only [State.inReset, hrst, haon]⟩

theorem State.ends.trans {s t u : State} (h : s.ends t) (h' : t.ends u) : s.ends u := by
  rcases h' with h' | ⟨hactive, hreset⟩
  · exact .inl h'
  · rcases h with h | ⟨hactive', hreset'⟩
    · exact .inl (hreset.trans h)
    · exact .inr ⟨hactive.trans hactive', hreset.trans hreset'⟩

theorem chipReset_inReset (s : State) (c : Cause) : (s.chipReset c).inReset = true := by
  cases c <;> simp [State.chipReset, State.inReset, Rst.raise]

theorem reactChip_ends (s : State) (p : Nat) (trip : Bool) : s.ends (s.reactChip p trip) := by
  have htx (t : State) (ht : t.active = s.active ∧ t.inReset = s.inReset) :
      State.ends s { t.txOff with rst := { t.rst with faultWaits := true, waitPage := p } } := by
    have h := txOff_activity t
    simp only [State.activity, Prod.mk.injEq] at h
    refine .inr ⟨h.1.trans ht.1, Eq.trans ?_ ht.2⟩
    simp only [State.inReset, h.2.2]
  unfold State.reactChip
  dsimp only
  split_ifs
  · exact ends_of_activity rfl
  · exact htx _ ⟨rfl, rfl⟩
  · exact .inl (chipReset_inReset _ _)

theorem hardReact_ends (s : State) {p : Nat} (hp : settlePage p) (l : List (Nat × Nat)) : s.ends (s.hardReact p l) := by
  unfold State.hardReact
  split_ifs
  · exact reactChip_ends s p _
  · exact ends_of_activity (blockReset_activity s hp)
  · exact ends_of_activity rfl

theorem reactions_ends (s : State) {p : Nat} (hp : settlePage p) (b r cls : Nat) (forced : Bool) : s.ends (s.reactions p b r cls forced) :=
  (ends_of_activity (softReact_activity s p b r cls forced)).trans (hardReact_ends _ hp _)

section
variable {log : State → Rec → State} (hlog : ∀ (t : State) (r : Rec), t.ends (log t r))
include hlog

theorem marks_ends (s : State) (p b : Nat) (w : Why) : s.ends (s.marks log p b w).1 := by
  have hst : s.ends ((s.status p b).updFirst p) := ends_of_activity (by simp)
  unfold State.marks
  dsimp only
  split_ifs
  · exact ends_of_activity rfl
  · exact (ends_of_activity (count_activity s FLT.SHADOW.COUNT 1)).trans (hlog _ _)
  · exact hlog _ _
  all_goals exact (hst : s.ends ((s.status p b).updFirst p)).trans (hlog _ _)

theorem occurs_ends (s : State) {p : Nat} (hp : settlePage p) (b : Nat) (w : Why) : s.ends (s.occurs log p b w) := by
  unfold State.occurs
  dsimp only
  split
  · exact marks_ends hlog s p b w
  · exact (marks_ends hlog s p b w).trans (reactions_ends _ hp _ _ _ _)

end

theorem log_ends (s : State) (r : Rec) : s.ends (s.log r) := by
  unfold State.log
  dsimp only
  split_ifs
  · exact (ends_of_activity (note_activity s r)).trans
      (occurs_ends (fun t q => ends_of_activity (note_activity t q)) _ (.inl rfl) _ _)
  · exact ends_of_activity (note_activity s r)

theorem termPermit_ends (s : State) : s.ends s.termPermit := by
  unfold State.termPermit
  split_ifs
  · have hgate : s.ends ((s.set GOV.PERMIT.PERMIT 0).set GOV.PERMIT.CAUSE 4).syncGate := ends_of_activity (by simp)
    exact hgate.trans (occurs_ends log_ends _ (.inr (.inl rfl)) _ _)
  · exact ends_of_activity rfl

/-- A source of a slot page that fires resets the part, or leaves the enabled slots as they are. -/
theorem fire_ends (s : State) {p : Nat} (hp : settlePage p) (b : Nat) (w : Why) : s.ends (s.fire p b w) := by
  unfold State.fire
  dsimp only
  split
  · exact marks_ends log_ends s p b w
  · exact ((marks_ends log_ends s p b w).trans (reactions_ends _ hp _ _ _ _)).trans (termPermit_ends _)

theorem condBegin_ends (s : State) {p : Nat} (hp : settlePage p) (b : Nat) (w : Why) : s.ends (s.condBegin p b w) := by
  unfold State.condBegin
  split_ifs
  · exact ends_of_activity rfl
  · have h : s.ends { s with flt := { s.flt with conds := NSet.add s.flt.conds (srcKey p b) } } := ends_of_activity rfl
    exact h.trans (fire_ends _ hp b w)

/-- Settling resets the part, or leaves the enabled slots as they are. -/
theorem settle_ends (s : State) : s.ends s.settle := by
  refine settle_induction (P := s.ends) (fun t j _ b f ht => ht.trans ?_) (ends_of_activity rfl)
  rcases follow_cases t j b f with e | e | ⟨i, -, e⟩ <;> rw [e]
  · exact ends_of_activity rfl
  · exact ends_of_activity rfl
  · exact condBegin_ends t (.inr (.inr (Nat.le_add_right _ _))) b _

end Sys2Proof.Machine
end

section
namespace Sys2Proof.Machine
open Sys2Proof

/-- The page PCI of a part that has booted stands in a block reset. -/
def pciInReset : State := ({ State.reset with rst := { loaded := true } } : State).set (HDR.PAGE_STAT.RESET_ACTIVE 0x2C) 1

/-- That part, the pin PERST released by a link change. -/
def pciUnmoved : State := { pciInReset with board := { pciInReset.board with perstN := false } }

/-- A link change during a block reset of page PCI moves the pin PERST and no register. -/
theorem exec_linkChange_pciInReset : exec (.pcieLinkStateChange 4 0 0 true) pciInReset = .next pciUnmoved.settle := rfl

/-- A state that settled out of reset with no slot enabled has the registers of before. -/
theorem reg_of_settle_inactive {t u : State} (h : u.settle = t) (hreset : t.inReset = false) (hactive : t.active = []) : u.reg = t.reg := by
  rcases settle_ends u with e | ⟨e, -⟩
  · rw [h, hreset] at e; exact Bool.noConfusion e
  · rw [← h]; exact (settle_of_inactive (by rw [← e, h, hactive])).1.symm

/-- Refutes O59 in the clause about a link change: where page PCI stands in a block reset, the change to Recovery does not show in LINK_STAT. -/
theorem not_registerAccess : ¬ Obligations.RegisterAccess := by
  unfold Obligations.RegisterAccess
  intro ⟨_, _, _, _, _, _, hlink, _⟩
  obtain ⟨u, hexec, -, -, hltssm, -⟩ := hlink pciInReset 4 0 0 true rfl
  obtain ⟨hreg, hactive, hreset⟩ := settle_of_inactive (s := pciUnmoved) rfl
  have hsettle : (u.condEnd 0x2C PCI.src.LINK_DOWN).settle = pciUnmoved.settle :=
    Host.Outcome.next.inj (hexec.symm.trans exec_linkChange_pciInReset)
  have hu : u.reg = pciUnmoved.reg := (reg_of_settle_inactive hsettle hreset hactive).trans hreg
  have hzero : u.get PCI.LINK_STAT.LTSSM = 0 := (State.get_of_reg hu _).trans rfl
  exact absurd (hltssm.symm.trans hzero) (by decide)

end Sys2Proof.Machine
end

section
/-! SUPPORT. A write of a reserved value: whatever its register, it comes to the fabric's check at its own address, with the fields of the
register that the address shows (R6). -/
namespace Sys2Proof.Machine
open Sys2Proof

/-- What the fabric leaves of a write that it drops for its value. -/
def State.valueDrop (s : State) (m : Master) (a : Nat) : State := (((s.outcome m 4).breakKey m a).accNotice m a 1).settle

/-- The fields whose values R6 checks in a write at a bus address. -/
def State.checkedFlds (s : State) (a : Nat) : List Fld :=
  if 0x3100 ≤ a ∧ a < 0x31C0 then clockFlds ((a - 0x3100) / 4) else fieldsAt (s.home a)

/-- A write by a master with rights to a page that is on, which carries a reserved value. -/
structure State.Reserved (s : State) (m : Master) (a : Nat) (v : Word) : Prop where
  aligned : a % 4 = 0
  inSpace : a < 0x80000
  reaches : s.reaches m
  page : pageOf a ≠ 0x2F
  rights : s.mayWrite m a v = true
  on : 0x10 ≤ a % 0x1000 → s.pageOff (pageOf a) = false
  unlisted : listed (s.checkedFlds a) v = false

/-- A write left the note of NVM.RESULT at most, and then was dropped for its value. -/
def State.Dropped (s : State) (m : Master) (a : Nat) (t : State) : Prop :=
  ∃ u, u = { s with reg := u.reg } ∧ Keeps s u [NVM.RESULT.CAUSE.key, NVM.RESULT.REGION.key] ∧ t = u.valueDrop m a

theorem Dropped.ite {s : State} {m : Master} {a : Nat} {c : Prop} [Decidable c] {x y : State} (hx : c → s.Dropped m a x)
    (hy : ¬c → s.Dropped m a y) : s.Dropped m a (if c then x else y) := iteInduction hx hy

/-- A register that no selection register names, and that is not ISL_CLK, which DIV_REQ makes a case of its own. -/
abbrev ownFields (a : Nat) : Prop :=
  (a < 0x3100 ∨ 0x31C0 ≤ a) ∧ (a < 0x2204C ∨ 0x2206C ≤ a) ∧ a ≠ 0xE04C ∧ a ≠ 0xE054 ∧ a ≠ 0xE058 ∧ a ≠ 0xE05C ∧ a ≠ 0xE060 ∧
    a ≠ 0x23058 ∧ a ≠ 0x23068 ∧ a ≠ 0x20068 ∧ a ≠ 0x4058 ∧ a ≠ 0x5054 ∧ a ≠ 0x6064 ∧ a ≠ 0x6068

theorem checkedFlds_eq {a : Nat} (h : ownFields a) (s : State) : s.checkedFlds a = fieldsAt a := by
  unfold ownFields at h
  have hhome : s.home a = a := by
    unfold State.home
    iterate 12 refine (if_neg (by omega)).trans ?_
    exact if_neg (by omega)
  rw [State.checkedFlds, if_neg (by omega), hhome]

/-- The words of a sequencer entry have no reserved value of a field. -/
theorem listed_SEQ_DATA {k w : Nat} (hk : k < 4) (hw : w < 2) (v : Word) : listed (fieldsAt (0x25048 + 0x1000 * k + 4 * w)) v = true := by
  interval_cases k <;> interval_cases w <;> rfl

theorem fieldsAt_RFFE_CMD0 {k : Nat} (hk : k < 4) : fieldsAt (0x25088 + 0x1000 * k) = [FEC.RFFE_CMD0.VALID k, FEC.RFFE_CMD0.BUS k,
    FEC.RFFE_CMD0.TYPE k, FEC.RFFE_CMD0.USID k, FEC.RFFE_CMD0.ADDR k, FEC.RFFE_CMD0.LEN k] := by
  interval_cases k <;> rfl

/-- Of the words of a command only the first has a field with reserved values, TYPE, and a reserved TYPE makes a reserved combination. -/
theorem cmd0Ok_of_unlisted {k w : Nat} (hk : k < 4) (hw : w < 2) {v : Word} (hl : listed (fieldsAt (0x25088 + 0x1000 * k + 4 * w)) v = false) :
    w = 0 ∧ cmd0Ok v.toNat = false := by
  match w, hw with
  | 0, _ =>
    rw [Nat.mul_zero, Nat.add_zero, fieldsAt_RFFE_CMD0 hk] at hl
    have ht : ¬bits v.toNat 28 2 ≤ 2 := fun ht => by
      simp [ht, listed, Fld.legal, Fld.writable, Fld.of, FEC.RFFE_CMD0.VALID, FEC.RFFE_CMD0.BUS, FEC.RFFE_CMD0.TYPE, FEC.RFFE_CMD0.USID,
        FEC.RFFE_CMD0.ADDR, FEC.RFFE_CMD0.LEN] at hl
    exact ⟨rfl, by simp [cmd0Ok, ht]⟩
  | 1, _ =>
    interval_cases k <;> exact Bool.noConfusion (show true = false from hl)

namespace State.Reserved

variable {s : State} {m : Master} {a : Nat} {v : Word} (h : s.Reserved m a v)
include h

/-- The verdict on such a write, against a list of fields with an unlisted value. -/
theorem judge_value {fs : List Fld} {ok : Bool} (hv : (!listed fs v || !ok) = true) : s.judge m a v fs ok = .value := by
  have hoff : (decide (0x10 ≤ a % 0x1000) && s.pageOff (pageOf a)) = false := by
    by_cases ho : 0x10 ≤ a % 0x1000
    · simp [h.on ho]
    · simp [ho]
  simp [State.judge, h.reaches.2, h.page, h.rights, hoff, hv]

/-- The fabric's check drops it where the value is not listed, or the further condition fails. -/
theorem guardedBy_eq {fs : List Fld} {ok : Bool} (hv : (!listed fs v || !ok) = true) (f : State → State) :
    s.guardedBy m a v fs ok f = s.valueDrop m a := guardedBy_of_value f ⟨h.reaches.1, h.judge_value hv⟩

/-- A write checked against the fields that its address shows. -/
theorem shown {b : Nat} {fs : List Fld} {ok : Bool} {f : State → State} (hb : b = a) (hfs : fs = s.checkedFlds a) :
    s.Dropped m a (s.guardedBy m b v fs ok f) := by
  subst hb hfs
  exact ⟨s, rfl, Keeps.refl s _, h.guardedBy_eq (by simp [h.unlisted]) f⟩

/-- A write checked against the fields placed at its address, and on a further condition. -/
theorem placedBy {b : Nat} {ok : Bool} {f : State → State} (hb : b = a ∧ ownFields a) : s.Dropped m a (s.guardedBy m b v (fieldsAt b) ok f) :=
  h.shown hb.1 (by rw [hb.1, checkedFlds_eq hb.2])

/-- A write checked against the fields placed at its address. -/
theorem placed {b : Nat} {f : State → State} (hb : b = a ∧ ownFields a) : s.Dropped m a (s.guarded m b v f) := h.placedBy hb

/-- A register that only takes its word. -/
theorem plain (hclk : ¬(0x3100 ≤ a ∧ a < 0x31C0)) {ok : Bool} {f : State → State} :
    s.Dropped m a (s.guardedBy m a v (fieldsAt (s.home a)) ok f) :=
  h.shown rfl (if_neg hclk).symm

/-- A write of a register in page NVM that takes a KEY. -/
theorem keyed {b region : Nat} {f : State → State} (hb : b = a ∧ ownFields a) : s.Dropped m a (s.keyed m b v region f) := by
  obtain ⟨rfl, ho⟩ := hb
  have hv : (!listed (fieldsAt b) v || !true) = true := by rw [← checkedFlds_eq ho, h.unlisted]; rfl
  have hcalm : ((s.set NVM.RESULT.CAUSE 7).set NVM.RESULT.REGION region).ownCalm = true := by
    rw [set_ownCalm _ _ rfl, set_ownCalm _ _ rfl, h.reaches.1]
  have hjudge : ((s.set NVM.RESULT.CAUSE 7).set NVM.RESULT.REGION region).judge m b v (fieldsAt b) true = .value := by
    rw [set_judge _ _ rfl _ h.inSpace, set_judge _ _ rfl _ h.inSpace, h.judge_value hv]
  refine ⟨(s.set NVM.RESULT.CAUSE 7).set NVM.RESULT.REGION region, rfl,
    Keeps.set (Keeps.set (Keeps.refl s _) _ (by simp)) _ (by simp), ?_⟩
  unfold State.keyed
  rw [h.judge_value hv]
  exact guardedBy_of_value f ⟨hcalm, hjudge⟩

/-- A write of a header register. -/
theorem headWrite (ho : a % 0x1000 < 0x40) : s.Dropped m a (s.headWrite m (pageOf a) (a % 0x1000) v) := by
  unfold pageOf State.headWrite
  iterate 7 refine Dropped.ite (fun e => h.placed (by omega)) fun _ => ?_
  exact h.placed (by omega)

/-- CFG, VAL, GEN and the other registers of a bias channel. -/
theorem biasWrite (he : 0xB000 ≤ a ∧ a < 0xD000 ∧ 0x100 ≤ a % 0x1000 ∧ a % 0x1000 < 0x500) :
    s.Dropped m a (let c := 32 * (a / 0x1000 - 0xB) + (a % 0x1000 - 0x100) / 0x20
      if a % 0x20 = 0 then s.biasCfgWrite m c v
      else if a % 0x20 = 4 then s.biasValWrite m c v
      else if a % 0x20 = 0xC then s.biasGenWrite m c v
      else s.plainWrite m a v) := by
  have haddr (w : Nat) : biasAddr (32 * (a / 0x1000 - 0xB) + (a % 0x1000 - 0x100) / 0x20) w = a - a % 0x20 + 4 * w := by
    unfold biasAddr; omega
  refine Dropped.ite (fun e => h.placed ?_) fun _ => ?_
  · rw [haddr]; omega
  refine Dropped.ite (fun e => h.placed ?_) fun _ => ?_
  · rw [haddr]; omega
  refine Dropped.ite (fun e => h.placedBy ?_) fun _ => ?_
  · rw [haddr]; omega
  exact h.plain (by omega)

/-- A write in pages 0x00 to 0x0F. -/
theorem lowWrite (hp : a < 0x10000) : s.Dropped m a (s.lowWrite m a v) := by
  have ha := h.aligned
  unfold State.lowWrite
  iterate 5 refine Dropped.ite (fun e => h.placed (by omega)) fun _ => ?_
  refine Dropped.ite (fun e => h.placedBy (by omega)) fun _ => ?_
  iterate 5 refine Dropped.ite (fun e => h.placed (by omega)) fun _ => ?_
  refine Dropped.ite (fun e => h.shown (by omega) (if_pos e).symm) fun hclk => ?_
  refine Dropped.ite (fun e => h.shown e.symm (by rw [e]; rfl)) fun _ => ?_
  iterate 2 refine Dropped.ite (fun e => h.placed (by omega)) fun _ => ?_
  refine Dropped.ite (fun _ => h.plain hclk) fun _ => ?_
  iterate 2 refine Dropped.ite (fun e => h.placed (by omega)) fun _ => ?_
  refine Dropped.ite (fun e => h.placedBy (by omega)) fun _ => ?_
  refine Dropped.ite (fun _ => h.plain hclk) fun _ => ?_
  refine Dropped.ite (fun e => h.placed (by omega)) fun _ => ?_
  iterate 3 refine Dropped.ite (fun e => h.keyed (by omega)) fun _ => ?_
  refine Dropped.ite (fun e => h.placed (by omega)) fun _ => ?_
  refine Dropped.ite (fun e => h.placedBy (by omega)) fun _ => ?_
  refine Dropped.ite (fun e => ?_) fun _ => ?_
  · unfold State.mbxCmdWrite; exact h.placedBy (by omega)
  refine Dropped.ite (fun e => h.placed (by omega)) fun _ => ?_
  refine Dropped.ite (fun e => h.placedBy (by omega)) fun _ => ?_
  refine Dropped.ite (fun e => ?_) fun _ => ?_
  · unfold State.monDiffWrite; exact h.placedBy (by omega)
  iterate 2 refine Dropped.ite (fun e => h.placed (by omega)) fun _ => ?_
  refine Dropped.ite (fun e => h.biasWrite e) fun _ => ?_
  iterate 2 refine Dropped.ite (fun e => h.placed (by omega)) fun _ => ?_
  refine Dropped.ite (fun _ => h.plain hclk) fun _ => ?_
  refine Dropped.ite (fun e => h.placed (by omega)) fun _ => ?_
  refine Dropped.ite (fun e => h.shown e.symm (by rw [e]; rfl)) fun _ => ?_
  exact h.plain hclk

/-- A write in pages 0x10 to 0x24. -/
theorem midWrite (hp : 0x10 ≤ pageOf a ∧ pageOf a < 0x25) : s.Dropped m a (s.midWrite m a v) := by
  have ha := h.aligned
  have hplain {ok : Bool} {f : State → State} := h.plain (by unfold pageOf at hp; omega) (ok := ok) (f := f)
  unfold pageOf at hp
  unfold State.midWrite pageOf
  iterate 2 refine Dropped.ite (fun e => h.placed (by omega)) fun _ => ?_
  refine Dropped.ite (fun _ => hplain) fun _ => ?_
  iterate 6 refine Dropped.ite (fun e => h.placed (by omega)) fun _ => ?_
  refine Dropped.ite (fun e => h.shown e.symm (by rw [e]; simp [State.checkedFlds, State.home])) fun _ => ?_
  iterate 4 refine Dropped.ite (fun e => h.placed (by omega)) fun _ => ?_
  refine Dropped.ite (fun e => h.placedBy (by omega)) fun _ => ?_
  refine Dropped.ite (fun e => h.placed (by omega)) fun _ => ?_
  exact hplain

/-- A write of SEQ_DATA0 or SEQ_DATA1. -/
theorem seqDataWrite {k w : Nat} (hk : k < 4) (hw : w < 2) (hb : 0x25048 + 0x1000 * k + 4 * w = a) : s.Dropped m a (s.seqDataWrite m k w v) := by
  have hl := h.unlisted
  rw [checkedFlds_eq (by omega), ← hb, listed_SEQ_DATA hk hw] at hl
  exact Bool.noConfusion hl

/-- A write of RFFE_CMD0 or RFFE_CMD1: what TYPE does not list is a reserved combination. -/
theorem cmdDataWrite {k w : Nat} (hk : k < 4) (hw : w < 2) (hb : 0x25088 + 0x1000 * k + 4 * w = a) : s.Dropped m a (s.cmdDataWrite m k w v) := by
  have hl := h.unlisted
  rw [checkedFlds_eq (by omega), ← hb] at hl
  obtain ⟨rfl, hok⟩ := cmd0Ok_of_unlisted hk hw hl
  subst hb
  exact ⟨s, rfl, Keeps.refl s _, h.guardedBy_eq (by simp [hok]) _⟩

/-- A write in pages 0x25 to 0x3F. -/
theorem highWrite (hp : 0x25 ≤ pageOf a ∧ pageOf a < 0x40) : s.Dropped m a (s.highWrite m a v) := by
  have ha := h.aligned
  have hplain {ok : Bool} {f : State → State} := h.plain (by unfold pageOf at hp; omega) (ok := ok) (f := f)
  unfold pageOf at hp
  unfold State.highWrite pageOf
  refine Dropped.ite (fun e => h.placed (by omega)) fun _ => ?_
  refine Dropped.ite (fun e => h.seqDataWrite (by omega) (by omega) (by omega)) fun _ => ?_
  iterate 2 refine Dropped.ite (fun e => h.placed (by omega)) fun _ => ?_
  refine Dropped.ite (fun e => h.cmdDataWrite (by omega) (by omega) (by omega)) fun _ => ?_
  refine Dropped.ite (fun e => h.placedBy (by omega)) fun _ => ?_
  iterate 6 refine Dropped.ite (fun e => h.placed (by omega)) fun _ => ?_
  refine Dropped.ite (fun e => h.placedBy (by omega)) fun _ => ?_
  iterate 8 refine Dropped.ite (fun e => h.placed (by omega)) fun _ => ?_
  exact hplain

/-- A write in a slot page. -/
theorem slotBusWrite (hp : 0x40000 ≤ a) : s.Dropped m a (s.slotBusWrite m a v) := by
  have hplain {ok : Bool} {f : State → State} := h.plain (by omega) (ok := ok) (f := f)
  have hs := h.inSpace
  have hbase (hr : 0x100 ≤ a % 0x1000 ∧ a % 0x1000 < 0x300) : slotBase (8 * (pageOf a - 0x40) + (a % 0x1000 - 0x100) / 0x40) = a - a % 0x40 := by
    unfold slotBase pageOf; omega
  unfold State.slotBusWrite
  refine Dropped.ite (fun _ => hplain) fun hr => ?_
  have hr' := hbase (by omega)
  iterate 5 refine Dropped.ite (fun e => h.placed (by omega)) fun _ => ?_
  refine Dropped.ite (fun e => h.placedBy (by omega)) fun _ => ?_
  exact hplain

/-- A write of a reserved value is dropped, whatever its register. -/
theorem busWrite : s.Dropped m a (s.busWrite m a v) := by
  unfold State.busWrite
  refine Dropped.ite (fun e => h.headWrite e) fun _ => ?_
  refine Dropped.ite (fun e => h.lowWrite (by unfold pageOf at e; omega)) fun _ => ?_
  refine Dropped.ite (fun e => h.midWrite ⟨by omega, e⟩) fun _ => ?_
  refine Dropped.ite (fun e => h.highWrite ⟨by omega, e⟩) fun e => ?_
  exact h.slotBusWrite (by unfold pageOf at e; omega)

end State.Reserved

/-- A state that differs from `s` at most in the registers, the ports and the instant of FLT's key sequence. -/
def State.noted (s t : State) : Prop := t = { s with reg := t.reg, ports := t.ports, flt := { s.flt with keyAt := t.flt.keyAt } }

theorem breakKey_noted {s t : State} (h : s.noted t) (m : Master) (a : Nat) : s.noted (t.breakKey m a) := by
  unfold State.breakKey
  split_ifs
  · unfold State.noted; rw [h]
  · exact h

theorem regOnly_noted {s t u : State} (h : s.noted t) (hu : u = { t with reg := u.reg }) : s.noted u := by
  unfold State.noted; rw [hu, h]

/-- Settles O57: the write comes to the fabric's check with the fields of its register, whatever handler its address selects. -/
theorem reservedValuesDropped : Obligations.ReservedValuesDropped := by
  unfold Obligations.ReservedValuesDropped
  intro s m a v haligned hreaches hpage hrights hon hunlisted
  have ha : a.toNat < 0x80000 := a.isLt
  obtain ⟨u, hu, hkeeps, hdrop⟩ := State.Reserved.busWrite ⟨haligned, ha, hreaches, hpage, hrights, hon, hunlisted⟩
  have hnoted : s.noted ((u.outcome m 4).breakKey m a.toNat) := breakKey_noted (by unfold State.noted; rw [hu]; rfl) m a.toNat
  have hexec : exec (.registerWrite m a 15 v) s = .next (s.busWrite m a.toNat v).settle := by
    change Machine.ok (s.writeAccess m a.toNat 15 v) = _
    rw [State.writeAccess, if_neg (by simp [haligned])]; rfl
  refine ⟨((u.outcome m 4).breakKey m a.toNat).accNoted m a.toNat 1, ?_, ?_, by simp, by simp, ?_, by simp, ?_⟩
  · rw [hexec, hdrop, State.valueDrop, accNotice_value]
  · exact regOnly_noted hnoted (accNoted_regOnly rfl m _ 1)
  · have hp : pageOf a.toNat < 128 := by unfold pageOf; omega
    rw [accNoted_page]; omega
  · have hbroken : Keeps s ((u.outcome m 4).breakKey m a.toNat) _ := hkeeps.reg_eq (State.breakKey_reg _ _ _)
    exact Keeps.accNoted (hbroken.mono (by simp)) _ _ _ (by simp)

end Sys2Proof.Machine
end

section
/-! SUPPORT. The register file at reset (R56). -/
namespace Sys2Proof.Machine
open Sys2Proof

/-- At reset nothing is stored, so every field reads its reset value. -/
@[simp] theorem reset_get (f : Fld) : State.reset.get f = f.rst := rfl

/-- Settles O3: the register file at reset is empty, and the values named are the reset values in the fields' descriptions. -/
theorem resetFields : Obligations.ResetFields :=
  ⟨reset_get, reset_get IDN.PROFILE.ACTIVE, reset_get PWR.RESET_CAUSE.AON_POR, reset_get PWR.RESET_CAUSE.CHIP_POR,
    fun k => reset_get (PWR.ENG_RAIL.VTARGET k), fun i => reset_get (SLP.SLOT_STAT.STATE i), reset_get GOV.PERMIT.PERMIT, rfl, rfl⟩

end Sys2Proof.Machine
end

section
/-! SUPPORT. The requests for a profile (R20 to R24, R90, R449). -/
namespace Sys2Proof.Machine
open Sys2Proof

/-- The profile that a written word names. -/
theorem of_PROFILE_REQ (v : Word) : IDN.PROFILE.REQ.of v = v.toNat % 4 := by
  simp [Fld.of, bits, IDN.PROFILE.REQ]

/-- The causes of refusal do not read the status of the ports. -/
theorem outcome_profRefusal (s : State) (m : Master) (o p : Nat) : (s.outcome m o).profRefusal p = s.profRefusal p := rfl

section
variable {s : State} {m p : Nat}

/-- The active profile asked for while no change is pending: nothing happens. -/
theorem profRequest_active (ha : s.get IDN.PROFILE.ACTIVE = p) (hp : s.flag IDN.PROFILE.PENDING = false) : s.profRequest m p = s :=
  if_pos ⟨ha.symm, by simp [hp]⟩

section
variable (h : s.get IDN.PROFILE.ACTIVE ≠ p ∨ s.flag IDN.PROFILE.PENDING = true)
include h

/-- A request for another profile, or with a change pending, is one that has to be judged. -/
theorem profRequest_judged : ¬(p = s.get IDN.PROFILE.ACTIVE ∧ (!s.flag IDN.PROFILE.PENDING) = true) :=
  fun ⟨ha, hp⟩ => h.elim (fun hne => hne ha.symm) fun hpend => by simp [hpend] at hp

theorem profRequest_refused {c i : Nat} (hr : s.profRefusal p = some (c, i)) : s.profRequest m p =
    ((s.set IDN.PROFILE.REFUSE c).set IDN.PROFILE.OFFENDER i).fire 0x00 IDN.src.PROF_REFUSED { master := m } := by
  rw [State.profRequest, if_neg (profRequest_judged h), hr]

theorem profRequest_accepted (hr : s.profRefusal p = none) : s.profRequest m p = s.profAccept p := by
  rw [State.profRequest, if_neg (profRequest_judged h), hr]

end
end

/-- The register file after a request is accepted. -/
theorem profAccept_get (s : State) (p : Nat) (f : Fld) : (s.profAccept p).get f =
    ((((s.set IDN.PROFILE.REQ p).set IDN.PROFILE.PENDING 1).set IDN.PROFILE.REFUSE 0).set IDN.PROFILE.OFFENDER 0).get f := rfl

/-- A write of IDN.PROFILE that the fabric takes is a request for the profile in its low bits. -/
theorem profileWrite_of_takes {s : State} {m : Master} {v : Word} (h : s.takes m 0x50 v) :
    s.profileWrite m v = (s.outcome m 0).profRequest m.num (v.toNat % 4) := by
  rw [State.profileWrite, guarded_of_takes _ h (by decide), of_PROFILE_REQ]

/-- Settles O17: a request that the fabric takes names the active profile with no change pending, or is refused, or is accepted. -/
theorem profileRequests : Obligations.ProfileRequests := by
  intro s m v ht
  have hw := profileWrite_of_takes ht
  refine ⟨fun ha hp => ?_, fun hchange c i hr => ?_, fun hchange hr => ?_⟩
  · exact answersSettled_of rfl (hw.trans (profRequest_active (s := s.outcome m 0) ha hp)) (Keeps.of_reg rfl _)
  · rw [← outcome_profRefusal s m 0] at hr
    refine answersVia_of rfl (congrArg State.settle (hw.trans (profRequest_refused (s := s.outcome m 0) hchange hr))) ⟨by simp, by simp, ?_⟩
    exact Keeps.set (Keeps.set (Keeps.of_reg rfl _) _ (by simp)) _ (by simp)
  · rw [← outcome_profRefusal s m 0] at hr
    refine answersSettled_of rfl (hw.trans (profRequest_accepted (s := s.outcome m 0) hchange hr)) ⟨?_, ?_, ?_, ?_, rfl, rfl, rfl, rfl⟩
    all_goals simp [profAccept_get]

end Sys2Proof.Machine
end

section
/-! SUPPORT. The wake by a match of the I²C address, and the opening of the pad latches (R44, R91 to R95). -/
namespace Sys2Proof.Machine
open Sys2Proof

/-! A match of the address -/

/-- A field that is set where a condition holds. -/
def State.setIf (s : State) (b : Bool) (f : Fld) (v : Nat) : State := if b then s.set f v else s

@[simp] theorem setIf_aon (s : State) (b : Bool) (f : Fld) (v : Nat) : (s.setIf b f v).aon = s.aon := by cases b <;> rfl
@[simp] theorem setIf_rst (s : State) (b : Bool) (f : Fld) (v : Nat) : (s.setIf b f v).rst = s.rst := by cases b <;> rfl
@[simp] theorem setIf_now (s : State) (b : Bool) (f : Fld) (v : Nat) : (s.setIf b f v).now = s.now := by cases b <;> rfl

@[simp] theorem setIf_get (s : State) (b : Bool) {f g : Fld} (v : Nat) (h : ¬g.key = f.key) : (s.setIf b f v).get g = s.get g := by
  cases b
  · rfl
  · exact State.get_set_of_key_ne s v h

/-- The wake reset is in force. -/
def State.wakeHeld (s : State) : State :=
  { s with aon := { s.aon with asleep := false, waking := true, wakeAt := s.now, wakeLatch := 0 }, rst := { s.rst with wake := true } }

/-- WAKE_CAUSE names what the SLEEP was and what has ended it (R94). -/
def State.wakeNamed (s : State) (cause : Nat) : State :=
  (((((s.set PWR.WAKE_CAUSE.SLEEP_SEC (min 0xFFFF ((s.now - s.aon.sleepAt) / 983040000))).set PWR.WAKE_CAUSE.FROM_STATE s.aon.fromState).setIf
    s.aon.flushCut PWR.WAKE_CAUSE.FLUSH_CUT 1).setIf (tbit cause 0) PWR.WAKE_CAUSE.MATCH 1).setIf (tbit cause 1) PWR.WAKE_CAUSE.REPLAY 1).setIf
    (tbit cause 2) PWR.WAKE_CAUSE.RUN_REQ 1

/-- RESET_N is sensed again, by its level (R93). -/
def State.pinSensed (s : State) : State := if s.board.resetN then s else { s.markCause .pin with rst := { s.rst with pin := true } }

@[simp] theorem pinSensed_aon (s : State) : s.pinSensed.aon = s.aon := by unfold State.pinSensed; split_ifs <;> rfl
@[simp] theorem pinSensed_now (s : State) : s.pinSensed.now = s.now := by unfold State.pinSensed; split_ifs <;> rfl
@[simp] theorem pinSensed_wake (s : State) : s.pinSensed.rst.wake = s.rst.wake := by unfold State.pinSensed; split_ifs <;> rfl

@[simp] theorem pinSensed_get (s : State) {g : Fld} (h : ¬g.key = PWR.RESET_CAUSE.PIN.key) : s.pinSensed.get g = s.get g := by
  unfold State.pinSensed
  split_ifs
  · rfl
  · exact State.get_set_of_key_ne s 1 h

/-- The state from which a wake senses the pins again. -/
def State.wakeBegun (s : State) (cause : Nat) : State :=
  { s.wakeHeld.wakeNamed cause with aon := { (s.wakeHeld.wakeNamed cause).aon with flushCut := false } }

theorem beginWake_eq (s : State) (cause : Nat) : s.beginWake cause = (s.wakeBegun cause).pinSensed := rfl

theorem wakeBegun_get (s : State) (cause : Nat) (g : Fld) : (s.wakeBegun cause).get g = (s.wakeHeld.wakeNamed cause).get g := rfl

/-- What a wake does to I00's own state. -/
theorem beginWake_aon (s : State) (cause : Nat) : (s.beginWake cause).aon =
    { s.aon with asleep := false, waking := true, wakeAt := s.now, wakeLatch := 0, flushCut := false } := by
  simp [beginWake_eq, State.wakeBegun, State.wakeNamed, State.wakeHeld]

theorem beginWake_now (s : State) (cause : Nat) : (s.beginWake cause).now = s.now := by
  simp [beginWake_eq, State.wakeBegun, State.wakeNamed, State.wakeHeld]

theorem beginWake_wake (s : State) (cause : Nat) : (s.beginWake cause).rst.wake = true := by
  simp [beginWake_eq, State.wakeBegun, State.wakeNamed, State.wakeHeld]

theorem beginWake_fromState (s : State) (cause : Nat) : (s.beginWake cause).get PWR.WAKE_CAUSE.FROM_STATE = s.aon.fromState % 4 := by
  simp [beginWake_eq, wakeBegun_get, State.wakeNamed, State.wakeHeld]

theorem beginWake_match (s : State) {cause : Nat} (h : tbit cause 0 = true) : (s.beginWake cause).get PWR.WAKE_CAUSE.MATCH = 1 := by
  have hset (t : State) : (t.setIf (tbit cause 0) PWR.WAKE_CAUSE.MATCH 1).get PWR.WAKE_CAUSE.MATCH = 1 := by
    simp [State.setIf, h]
  simp [beginWake_eq, wakeBegun_get, State.wakeNamed, hset]

section
variable {s : State} {a : Nat}

/-- The state in which the acknowledge bit of a match shows. -/
def State.acked (s : State) : State := { s with aon := { s.aon with wakeAck := true, ackAt := s.now } }

theorem i2cMatch_wakes (hsleep : s.aon.asleep = true) (hown : a = s.i2cOwn) (hlost : s.aon.i2cLost = false) :
    s.i2cMatch a = s.acked.beginWake 1 := by
  simp [State.i2cMatch, State.acked, hsleep, hown, hlost]

theorem i2cMatch_ignored (hsleep : s.aon.asleep = true) (h : a ≠ s.i2cOwn ∨ s.aon.i2cLost = true) :
    s.i2cMatch a = { s with aon := { s.aon with wakeAck := false } } := by
  have hmiss : (a == s.i2cOwn && !s.aon.i2cLost) = false := by
    rcases h with h | h <;> simp [h]
  simp only [State.i2cMatch, hmiss, hsleep, if_true, Bool.false_eq_true, if_false]

theorem i2cMatch_latched {t : PwrTr} (hawake : s.aon.asleep = false) (htr : s.tr = some t) (htarget : t.target = 3)
    (hown : a = s.i2cOwn) (hlost : s.aon.i2cLost = false) :
    s.i2cMatch a = { s with aon := { s.aon with wakeAck := true, ackAt := s.now, wakeLatch := setBit s.aon.wakeLatch 0 } } := by
  simp [State.i2cMatch, hawake, htr, htarget, hown, hlost]

/-- The acknowledge bit of a match that wakes the part shows at its instant. -/
theorem acked_beginWake_ackBit (s : State) (cause : Nat) : (s.acked.beginWake cause).ackBit = true := by
  simp [State.ackBit, beginWake_aon, beginWake_now, State.acked]

end

/-! The pad latches -/

/-- A field of a register below the bias pages reads as before a write into them. -/
theorem get_set_bias (s : State) {f g : Fld} (v : Nat) (hf : 32 * 0xB000 ≤ f.key) (hg : g.key < 32 * 0xB000) : (s.set f v).get g = s.get g :=
  State.get_set_ne s v (by omega)

theorem bState_key_le (c : Nat) : 32 * 0xB000 ≤ (bState c).key := by
  simp only [bState, key_BIA_STAT_STATE]; omega

theorem SAFE_key_le (h : Nat) : 32 * 0xB000 ≤ (BIA.SAFE_STAT.SAFE h).key := by
  simp only [key_BIA_SAFE_STAT_SAFE]; omega

section
variable {g : Fld} (hg : g.key < 32 * 0xB000)
include hg

theorem startMove_get_below (s : State) (c : Nat) : (s.startMove c).get g = s.get g := by
  unfold State.startMove
  dsimp only
  split_ifs <;> exact get_set_bias _ _ (bState_key_le c) hg

theorem retargetNow_get_below (s : State) (c : Nat) : (s.retargetNow c).get g = s.get g := by
  unfold State.retargetNow
  dsimp only
  split_ifs
  · exact startMove_get_below hg s c
  · rfl
  · exact get_set_bias _ _ (bState_key_le c) hg

theorem enterSafe_get_below (s : State) (c : Nat) : (s.enterSafe c).get g = s.get g := by
  unfold State.enterSafe
  dsimp only
  split_ifs
  · rfl
  · rfl
  · exact (retargetNow_get_below hg _ c).trans (get_set_bias s _ (SAFE_key_le _) hg)

end

theorem retargetNow_activity (s : State) (c : Nat) : (s.retargetNow c).activity = s.activity := by
  unfold State.retargetNow
  dsimp only
  split_ifs <;> simp

/-- One bias output leaves the latch: it follows its page again, from its held code. -/
def State.openBias (s : State) (c : Nat) : State :=
  if s.get (bState c) = bHeld then
    let u := (s.modCh c fun x => { x with safeDue := false }).set (bState c) (if s.iced then bFrozen else bIdle)
    if (s.ch c).safeDue then u.enterSafe c else u.retargetNow c
  else s

theorem openBias_activity (s : State) (c : Nat) : (s.openBias c).activity = s.activity := by
  unfold State.openBias
  dsimp only
  split_ifs <;> simp [retargetNow_activity]

theorem openBias_get_below {g : Fld} (hg : g.key < 32 * 0xB000) (s : State) (c : Nat) : (s.openBias c).get g = s.get g := by
  have hset (v : Nat) : ((s.modCh c fun x => { x with safeDue := false }).set (bState c) v).get g = s.get g :=
    get_set_bias _ v (bState_key_le c) hg
  unfold State.openBias
  dsimp only
  split_ifs
  · exact (enterSafe_get_below hg _ c).trans (hset _)
  · exact (enterSafe_get_below hg _ c).trans (hset _)
  · exact (retargetNow_get_below hg _ c).trans (hset _)
  · exact (retargetNow_get_below hg _ c).trans (hset _)
  · rfl

/-- The latches read open, and what waits for the release has still to follow. -/
def State.unlatched (s : State) : State :=
  ({ s with aon := { s.aon with padsHeld := false, feHeld := [], biasHeld := [] } }.set PWR.PAD_RELEASE.FE_HELD 0).set PWR.PAD_RELEASE.BIAS_HELD 0

/-- A sequencer whose start waits for the release starts now. -/
def State.openFec (s : State) (k : Nat) : State := s.modFec k fun x => if x.startDue then { x with startAt := s.now } else x

theorem openPads_held {s : State} (h : s.aon.padsHeld = true) :
    s.openPads = (List.range 64).foldl State.openBias ((List.range 4).foldl State.openFec s.unlatched) := by
  unfold State.openPads
  rw [if_pos h]
  rfl

theorem openPads_open {s : State} (h : s.aon.padsHeld = false) : s.openPads = s := by
  simp [State.openPads, h]

theorem openPads_padsHeld {s : State} (h : s.aon.padsHeld = true) : s.openPads.aon.padsHeld = false := by
  have hact : s.openPads.activity = s.unlatched.activity := by
    rw [openPads_held h]
    exact (foldl_keeps State.activity _ openBias_activity _ _).trans (foldl_keeps State.activity State.openFec (fun _ _ => rfl) _ _)
  exact congrArg (fun x => x.2.2.padsHeld) hact

/-- What the release leaves in the registers below the bias pages. -/
theorem openPads_get_below {s : State} (h : s.aon.padsHeld = true) {g : Fld} (hg : g.key < 32 * 0xB000) :
    s.openPads.get g = s.unlatched.get g := by
  rw [openPads_held h]
  exact (foldl_keeps (fun t : State => t.get g) _ (openBias_get_below hg) _ _).trans
    (foldl_keeps (fun t : State => t.get g) State.openFec (fun _ _ => rfl) _ _)

/-- A write of PAD_RELEASE that the fabric takes. -/
theorem padWrite_of_takes {s : State} {m : Master} {v : Word} (h : s.takes m 0x2050 v) :
    s.padWrite m v = if v.getLsbD 0 then (s.outcome m 0).openPads.log (s.padRec m.num) else s.outcome m 0 :=
  guarded_of_takes _ h (by decide)

/-- Settles O16: a match is told by whether the part sleeps and the address is its own; a release that is taken opens the latches before its
record is made. -/
theorem powerStateExit : Obligations.PowerStateExit := by
  refine ⟨fun s a hsleep hown hlost => ?_, fun s a hsleep h => ?_, fun s a t hawake htr htarget hown hlost => ?_, fun s m v ht =>
    ⟨fun hv hopen => ?_, fun hv hheld => ?_, fun hv => ?_⟩⟩
  · exact answers_of rfl (i2cMatch_wakes hsleep hown hlost)
      ⟨by simp [beginWake_aon], beginWake_wake _ _, acked_beginWake_ackBit _ _, beginWake_match _ rfl, beginWake_fromState _ _⟩
  · exact answers_of rfl (i2cMatch_ignored hsleep h) rfl
  · exact answers_of rfl (i2cMatch_latched hawake htr htarget hown hlost) ⟨rfl, by simp [State.ackBit], Keeps.of_reg rfl _⟩
  · refine answersVia_of rfl ((padWrite_of_takes ht).trans (if_pos hv)) ?_
    rw [openPads_open (s := s.outcome m 0) hopen]
    exact Keeps.of_reg rfl _
  · have hheld' : (s.outcome m 0).aon.padsHeld = true := hheld
    refine answersVia_of rfl ((padWrite_of_takes ht).trans (if_pos hv)) ⟨openPads_padsHeld hheld', ?_, ?_⟩ <;>
      rw [openPads_get_below hheld' (by simp)] <;> simp [State.unlatched]
  · exact answers_of rfl ((padWrite_of_takes ht).trans (if_neg (Bool.eq_false_iff.mp hv))) (Keeps.of_reg rfl _)

end Sys2Proof.Machine
end

section
/-! SUPPORT. The supervised rails, the islands that they feed, and the clocks that follow (R445). -/
namespace Sys2Proof.Machine
open Sys2Proof

/-! Bits -/

theorem tbit_eq_testBit (v i : Nat) : tbit v i = v.testBit i := by
  rw [tbit, Nat.testBit_eq_decide_div_mod_eq, beq_eq_decide]

theorem tbit_setBit_same (v i : Nat) : tbit (setBit v i) i = true := by
  unfold setBit
  split_ifs with h
  · exact h
  · rw [tbit_eq_testBit, Nat.add_comm, Nat.testBit_two_pow_add_eq, ← tbit_eq_testBit]
    simpa using h

/-! Sets of numbers -/

theorem NSet.mem_add {l : List Nat} {k n : Nat} : n ∈ NSet.add l k ↔ n = k ∨ n ∈ l := by
  induction l with
  | nil => simp [NSet.add]
  | cons h t ih =>
    unfold NSet.add
    split_ifs with hlt heq
    · simp
    · simp [heq]
    · simp [ih, or_left_comm]

theorem NSet.mem_foldl_add {ks l : List Nat} {n : Nat} : n ∈ ks.foldl NSet.add l ↔ n ∈ ks ∨ n ∈ l := by
  induction ks generalizing l with
  | nil => simp
  | cons k ks ih => rw [List.foldl_cons, ih, NSet.mem_add, List.mem_cons, or_left_comm, or_assoc]

/-! What a change of a clock leaves alone -/

/-- A state that differs from `s` at most in the registers, the chiplets, the time and the canceller. -/
def State.reclocked (s t : State) : Prop := t = { s with reg := t.reg, cnv := t.cnv, lnk := t.lnk, can := t.can }

theorem State.reclocked.trans {s t u : State} (h : s.reclocked t) (h' : t.reclocked u) : s.reclocked u := by
  unfold State.reclocked at h' ⊢
  rw [h', h]

/-- Steps that each leave the rest alone leave it alone together. -/
theorem foldl_reclocked {α : Type} {f : State → α → State} (hf : ∀ (t : State) x, t.reclocked (f t x)) (l : List α) (s : State) :
    s.reclocked (l.foldl f s) :=
  List.foldlRecOn l f (motive := s.reclocked) rfl fun t ht x _ => ht.trans (hf t x)

theorem modChip_reclocked (s : State) (n : Nat) (f : Cnv → Cnv) : s.reclocked (s.modChip n f) := rfl
theorem set_reclocked (s : State) (f : Fld) (v : Nat) : s.reclocked (s.set f v) := rfl
theorem setCan_reclocked (s : State) (c : Can) : s.reclocked { s with can := c } := rfl

theorem cnvLoad_reclocked (s : State) (n : Nat) : s.reclocked (s.cnvLoad n) := by
  unfold State.cnvLoad
  split_ifs
  · rfl
  · refine (modChip_reclocked s n _).trans (foldl_reclocked ?_ _ _)
    intro t c
    exact ((((set_reclocked t _ _).trans (set_reclocked _ _ _)).trans (set_reclocked _ _ _)).trans (set_reclocked _ _ _)).trans
      (modChip_reclocked _ n _)

theorem syncLnk_reclocked (s : State) : s.reclocked s.syncLnk := by
  unfold State.syncLnk
  split_ifs <;> rfl

theorem syncClusters_reclocked (s : State) : s.reclocked s.syncClusters := by
  refine (setCan_reclocked s _).trans (foldl_reclocked ?_ _ _)
  exact fun t k => set_reclocked t _ _

theorem syncClocks_reclocked (s : State) : s.reclocked s.syncClocks :=
  ((foldl_reclocked cnvLoad_reclocked _ s).trans (syncLnk_reclocked _)).trans (syncClusters_reclocked _)

@[simp] theorem syncClocks_board (s : State) : s.syncClocks.board = s.board := by rw [syncClocks_reclocked s]
@[simp] theorem syncClocks_needReq (s : State) : s.syncClocks.needReq = s.needReq := by rw [syncClocks_reclocked s]

/-! The rails of the islands -/

/-- After a change of a rail, each island that it feeds waits for a new request. -/
theorem waitRequest_waits (s : State) {r n : Nat} (hn : n < 48) (hr : tbit (islandRails n) r = true) : n ∈ (s.waitRequest r).needReq :=
  NSet.mem_foldl_add.mpr (.inl (List.mem_filter.mpr ⟨List.mem_range.mpr hn, hr⟩))

/-- An island of a low rail is without power. -/
theorem powered_of_low {s : State} {r n : Nat} (hlow : tbit s.board.supLow r = true) (hr : tbit (islandRails n) r = true) :
    s.powered n = false := by
  have hbit : (s.board.supLow &&& islandRails n).testBit r = true := by
    rw [Nat.testBit_and, ← tbit_eq_testBit, ← tbit_eq_testBit, hlow, hr]; rfl
  have hne : s.board.supLow &&& islandRails n ≠ 0 := fun e => by simp [e] at hbit
  simpa [State.powered] using hne

section
variable {s : State} {r : Nat}

/-- The rail is marked low, and the clocks of its islands stop until a new request. -/
def State.railLowered (s : State) (r : Nat) : State :=
  (State.waitRequest { s with board := { s.board with supLow := setBit s.board.supLow r } } r).syncClocks

/-- The rail is marked present, and the clocks of its islands still wait for a new request. -/
def State.railRestored (s : State) (r : Nat) : State :=
  (State.waitRequest { s with board := { s.board with supLow := clrBit s.board.supLow r } } r).syncClocks

theorem supplyLow_first (hr : r < 9) (hreset : s.inReset = false) (hholds : s.holds 0x02 PWR.src.SUPPLY_LOW = false) :
    s.supplyLow r = (s.railLowered r).condBegin 0x02 PWR.src.SUPPLY_LOW {} := by
  have hreset' (b : Board) : State.inReset { s with board := b } = false := hreset
  have hholds' (b : Board) : State.holds { s with board := b } 0x02 PWR.src.SUPPLY_LOW = false := hholds
  simp only [State.supplyLow, Nat.not_le.mpr hr, hreset', hholds', if_false, Bool.false_eq_true]
  rfl

@[simp] theorem condEnd_board (s : State) (p b : Nat) : (s.condEnd p b).board = s.board := rfl
@[simp] theorem condEnd_needReq (s : State) (p b : Nat) : (s.condEnd p b).needReq = s.needReq := rfl

/-- A rail that returns leaves SUPPLY_LOW to end where no other rail is low. -/
theorem supplyPresent_back (hr : r < 9) (hreset : s.inReset = false) (hlow : tbit s.board.supLow r = true) :
    s.supplyPresent r = s.railRestored r ∨ s.supplyPresent r = (s.railRestored r).condEnd 0x02 PWR.src.SUPPLY_LOW := by
  have hreset' (b : Board) : State.inReset { s with board := b } = false := hreset
  simp only [State.supplyPresent, Nat.not_le.mpr hr, hreset', hlow, Bool.not_true, if_false, Bool.false_eq_true]
  split_ifs
  · exact .inr rfl
  · exact .inl rfl

theorem railLowered_board : (s.railLowered r).board = { s.board with supLow := setBit s.board.supLow r } := syncClocks_board _

theorem railLowered_island {n : Nat} (hn : n < 48) (hr : tbit (islandRails n) r = true) :
    (s.railLowered r).powered n = false ∧ n ∈ (s.railLowered r).needReq := by
  refine ⟨powered_of_low (r := r) ?_ hr, ?_⟩
  · rw [railLowered_board]; exact tbit_setBit_same _ _
  · rw [State.railLowered, syncClocks_needReq]; exact waitRequest_waits _ hn hr

theorem railRestored_board : (s.railRestored r).board = { s.board with supLow := clrBit s.board.supLow r } := syncClocks_board _

theorem railRestored_island {n : Nat} (hn : n < 48) (hr : tbit (islandRails n) r = true) : n ∈ (s.railRestored r).needReq := by
  rw [State.railRestored, syncClocks_needReq]; exact waitRequest_waits _ hn hr

/-! The monitored rails outside the reach of the chip power-on reset -/

theorem railFall_unarmed (h : s.porArmed = false) : s.railFall r = { s with
    aon := if s.aon.asleep then { s.aon with feLost := s.aon.feLost || r == 1, i2cLost := s.aon.i2cLost || r == 2 } else s.aon
    board := { s.board with railsLow := setBit s.board.railsLow r } } := by
  simp only [State.railFall, h, Bool.false_eq_true, if_false]

theorem railRise_unarmed (h : s.porArmed = false) : s.railRise r = { s with
    board := { s.board with railsLow := clrBit s.board.railsLow r }
    aon := if s.rst.wake then { s.aon with wakeAt := max s.aon.wakeAt s.now } else s.aon } := by
  simp only [State.railRise, h, Bool.false_eq_true, if_false]
  split_ifs <;> rfl

end

/-- Settles O9: a change of a rail marks it and makes its islands wait, before the source and the clocks follow. -/
theorem supplyMonitors : Obligations.SupplyMonitors := by
  refine ⟨fun s r hr hreset hholds => ?_, fun s r hr hreset hlow => ?_, fun s r harmed => ⟨?_, ?_⟩⟩
  · exact answersVia_of rfl (congrArg State.settle (supplyLow_first hr hreset hholds))
      ⟨railLowered_board, fun n hn hisl => railLowered_island hn hisl⟩
  · have hboard := railRestored_board (s := s) (r := r.val)
    have hwaits : ∀ n < 48, tbit (islandRails n) r.val = true → n ∈ (s.railRestored r.val).needReq := fun n hn hisl => railRestored_island hn hisl
    rcases supplyPresent_back hr hreset hlow with e | e
    · exact answersSettled_of rfl e ⟨hboard, hwaits⟩
    · exact answersSettled_of rfl e ⟨by rw [condEnd_board, hboard], by simpa only [condEnd_needReq] using hwaits⟩
  · exact answers_of rfl (railFall_unarmed harmed) ⟨rfl, rfl, rfl⟩
  · exact answers_of rfl (railRise_unarmed harmed) ⟨rfl, rfl, Keeps.of_reg rfl _⟩

end Sys2Proof.Machine
end

section
/-! SUPPORT. The pins of a part that sleeps, and the power-on reset of I00 (R45, R52, R56). -/
namespace Sys2Proof.Machine
open Sys2Proof

section
variable {s : State} (hsleep : s.aon.asleep = true)
include hsleep

theorem pinLow_asleep : s.pinLow = { s with board := { s.board with resetN := false } } := by
  simp only [State.pinLow, hsleep, if_true]

theorem pfailEdge_asleep : s.pfailEdge = { s with board := { s.board with pfailN := false } } := by
  simp only [State.pfailEdge, hsleep, if_true]

theorem inReset_of_asleep : s.inReset = true := by
  simp [State.inReset, hsleep]

/-- Resets that change in SLEEP start nothing. -/
theorem release_asleep (r : Rst) : s.release r = { s with rst := r } := by
  have h : State.inReset { s with rst := r } = true := inReset_of_asleep hsleep
  simp only [State.release, h, Bool.not_true, Bool.and_false, Bool.false_eq_true, if_false]

theorem pinHigh_asleep (hpin : s.rst.pin = false) (hpf : s.rst.pinInPf = false) :
    s.pinHigh = { s with board := { s.board with resetN := true } } := by
  have hrst : { s.rst with pin := false, pinInPf := false } = s.rst := by
    cases hr : s.rst
    simp only [hr] at hpin hpf
    simp only [hpin, hpf]
  have hhigh : s.pinHigh = State.release { s with board := { s.board with resetN := true } } { s.rst with pin := false, pinInPf := false } := by
    unfold State.pinHigh
    exact congrArg (fun t : State => t.release { t.rst with pin := false, pinInPf := false }) (if_neg (by simp [hpin]))
  rw [hhigh, hrst, release_asleep (s := { s with board := { s.board with resetN := true } }) hsleep]

end

/-- VDD_AON below 0.4 V leaves no register stored. -/
theorem aonPor_below_get (s : State) (f : Fld) : (s.aonPor true).get f = f.rst := rfl

/-- Settles O58: what a sleeping part does with each of its pins, and what VDD_AON does to it. -/
theorem sleepSensesNoPins : Obligations.SleepSensesNoPins := by
  refine ⟨fun s hsleep => ⟨⟨_, rfl, pinLow_asleep hsleep⟩, fun hpin hpf => ⟨_, rfl, pinHigh_asleep hsleep hpin hpf⟩,
    answersSettled_of rfl (pfailEdge_asleep hsleep) rfl, fun addr => ⟨fun ⟨hown, hlost⟩ => ?_, fun hother => ?_⟩⟩, fun s => ?_⟩
  · exact answers_of rfl (i2cMatch_wakes hsleep hown hlost)
      ⟨by simp [beginWake_aon], acked_beginWake_ackBit _ _, beginWake_wake _ _, by simp [State.inReset, beginWake_wake]⟩
  · exact answers_of rfl (i2cMatch_ignored hsleep (.inl hother)) rfl
  · exact answers_of rfl rfl ⟨rfl, rfl, rfl, rfl, aonPor_below_get s⟩

end Sys2Proof.Machine
end

section
/-! SUPPORT. What the AON power-on reset leaves of the register file (R52, R56). -/
namespace Sys2Proof.Machine
open Sys2Proof

/-- A table cut down to the keys that a test accepts reads as before at these keys, and at the others as an unlisted key. -/
theorem Tab.get_filter_key {α : Type} (d : α) (t : Tab α) (q : Nat → Bool) (k : Nat) :
    Tab.get d (t.filter fun e => q e.1) k = if q k then Tab.get d t k else d := by
  induction t with
  | nil => simp [Tab.get]
  | cons e t ih =>
    by_cases hk : e.1 = k
    · subst hk
      cases h : q e.1
      · simpa [h] using ih
      · simp [h, Tab.get]
    · cases h : q e.1 <;> simpa [h, Tab.get, hk] using ih

/-- What VDD_AON above 0.4 V keeps of the register file. -/
def State.aonKept (s : State) : State := { s.aonPor true with reg := s.reg.filter fun e => e.1 / 32 == 0x4070 }

theorem aonPor_latched (s : State) :
    s.aonPor false = if s.aonKept.flag FLT.TERM.SET then s.aonKept.set PWR.RESET_CAUSE.TERMINAL 1 else s.aonKept := rfl

theorem aonKept_get (s : State) {f : Fld} (hlo : f.lo < 32) : s.aonKept.get f = if f.addr = 0x4070 then s.get f else f.rst := by
  have haddr : f.key / 32 = f.addr := by unfold Fld.key; omega
  refine (Tab.get_filter_key f.rst s.reg (fun k => k / 32 == 0x4070) f.key).trans ?_
  simp only [haddr, beq_iff_eq]
  rfl

theorem aonPor_get (s : State) {f : Fld} (hlo : f.lo < 32) (hf : f.key ≠ PWR.RESET_CAUSE.TERMINAL.key) :
    (s.aonPor false).get f = if f.addr = 0x4070 then s.get f else f.rst := by
  rw [aonPor_latched, ← aonKept_get s hlo]
  split_ifs
  · exact State.get_set_ne _ 1 hf
  · rfl

/-- The reset touches neither the one-time-programmable memory nor the stored events, and disables every slot. -/
theorem aonPor_rest (s : State) (below : Bool) : (s.aonPor below).rst.aon = true ∧ (s.aonPor below).active = [] ∧
    (s.aonPor below).otp = s.otp ∧ (s.aonPor below).evt.store = s.evt.store := by
  cases below
  · rw [aonPor_latched]; split_ifs <;> exact ⟨rfl, rfl, rfl, rfl⟩
  · exact ⟨rfl, rfl, rfl, rfl⟩

/-- Settles O6: below 0.4 V nothing stays stored; otherwise FLT.TERM does, and TERMINAL copies it. -/
theorem aonPowerOnResetRestarts : Obligations.AonPowerOnResetRestarts := by
  intro s below
  obtain ⟨haon, hactive, hotp, hstore⟩ := aonPor_rest s below
  refine answers_of rfl rfl ⟨haon, ?_, hactive, hotp, hstore, ?_, ?_⟩
  · rw [State.inReset, haon]; rfl
  · rintro rfl; exact aonPor_below_get s
  · rintro rfl f hlo hf; exact aonPor_get s hlo hf

end Sys2Proof.Machine
end

section
/-! SUPPORT. What a change of a clock, a change of the dividers and a closing permit gate leave of the registers (R62, R64, R172). -/
namespace Sys2Proof.Machine
open Sys2Proof

/-- What every step of a fold keeps of a projection, the fold keeps; the steps may use that their elements are in the list. -/
theorem foldl_keeps_mem {α β γ : Type} (P : β → γ) (f : β → α → β) (l : List α) (h : ∀ b, ∀ a ∈ l, P (f b a) = P b) (b : β) :
    P (l.foldl f b) = P b :=
  List.foldlRecOn l f (motive := fun x => P x = P b) rfl fun x hx a ha => (h x a ha).trans hx

/-! Clocks -/

/-- A field outside the pages of the chiplets and of the clusters, or in the header of a page: what follows a change of a clock writes none
of these. -/
def Fld.offClocked (g : Fld) : Prop :=
  g.key < 32 * 0x10000 ∨ (32 * 0x18000 ≤ g.key ∧ g.key < 32 * 0x30000) ∨ g.key / 32 % 0x1000 < 0x40

theorem syncLnk_get (s : State) (g : Fld) : s.syncLnk.get g = s.get g := by
  unfold State.syncLnk
  split_ifs <;> rfl

section
variable {g : Fld} (hg : g.offClocked)
include hg

theorem cnvLoad_get (s : State) {n : Nat} (hn : n < 8) : (s.cnvLoad n).get g = s.get g := by
  unfold Fld.offClocked at hg
  unfold State.cnvLoad
  split_ifs
  · rfl
  · refine (foldl_keeps_mem (fun t : State => t.get g) _ _ (fun t c hc => ?_) _).trans rfl
    have hc := List.mem_range.mp hc
    have hrx (f : Fld) (hf : f = CNV.RX_CFG.DSA n c ∨ f = CNV.RX_CFG.ROLE n c ∨ f = CNV.TX_CFG.FS n c ∨ f = CNV.TX_CFG.ROLE n c) :
        ¬g.key = f.key := by
      rcases hf with rfl | rfl | rfl | rfl <;> simp only [key_CNV_RX_CFG_DSA, key_CNV_RX_CFG_ROLE, key_CNV_TX_CFG_FS, key_CNV_TX_CFG_ROLE] <;> omega
    refine (State.get_set_of_key_ne _ _ (hrx _ (by simp))).trans ((State.get_set_of_key_ne _ _ (hrx _ (by simp))).trans
      ((State.get_set_of_key_ne _ _ (hrx _ (by simp))).trans (State.get_set_of_key_ne _ _ (hrx _ (by simp)))))

theorem syncClusters_get (s : State) : s.syncClusters.get g = s.get g := by
  unfold Fld.offClocked at hg
  refine (foldl_keeps_mem (fun t : State => t.get g) _ _ (fun t k hk => State.get_set_of_key_ne t _ ?_) _).trans rfl
  have hk := List.mem_range.mp hk
  simp only [key_YCL_ENG_STAT_STATE]
  omega

theorem syncClocks_get (s : State) : s.syncClocks.get g = s.get g :=
  (syncClusters_get hg _).trans ((syncLnk_get _ g).trans
    (foldl_keeps_mem (fun t : State => t.get g) _ _ (fun t _ hn => cnvLoad_get hg t (List.mem_range.mp hn)) s))

end

/-! The permit gate -/

/-- A field below the slot pages, or in the header of a page: no slot has it among its registers. -/
def Fld.offSlots (g : Fld) : Prop := g.key < 32 * 0x40000 ∨ g.key / 32 % 0x1000 < 0x40

theorem cutRamps_get (s : State) (g : Fld) : s.cutRamps.get g = s.get g :=
  foldl_keeps (fun t : State => t.get g) State.cut (fun _ _ => rfl) _ _

section
variable {g : Fld} (hg : g.offSlots)
include hg

/-- A write of the register at offset `o` of a slot's block. -/
theorem get_set_slot (s : State) {f : Fld} (i o b v : Nat) (hf : f.key = 32 * (slotBase i + o) + b) (ho : o < 0x40) (hb : b < 32) :
    (s.set f v).get g = s.get g := by
  refine State.get_set_ne s v fun e => ?_
  unfold Fld.offSlots at hg
  unfold slotBase at hf
  omega

theorem silence_get (s : State) (i : Nat) : (s.silence i).get g = s.get g := by
  unfold State.silence
  rw [get_set_slot hg _ i 0x1C 0 _ rfl (by decide) (by decide), get_set_slot hg _ i 0x1C 28 _ rfl (by decide) (by decide)]

theorem set_STATE_get (s : State) (i v : Nat) : (s.set (SLP.SLOT_STAT.STATE i) v).get g = s.get g :=
  get_set_slot hg s i 4 20 v rfl (by decide) (by decide)

theorem txOff_get (s : State) : s.txOff.get g = s.get g := by
  refine (cutRamps_get _ g).trans (foldl_keeps (fun t : State => t.get g) _ (fun t i => ?_) _ _)
  dsimp only
  split_ifs
  · exact (silence_get hg _ i).trans (set_STATE_get hg _ i _)
  · rfl

end

end Sys2Proof.Machine
end

section
/-! SUPPORT. The PLLs (R61, R62). -/
namespace Sys2Proof.Machine
open Sys2Proof

/-- A field of page CLK is below the pages that follow the clocks, and below the slot pages. -/
theorem offClocked_of_lt {g : Fld} (h : g.key < 32 * 0x4000) : g.offClocked := .inl (by omega)
theorem offSlots_of_lt {g : Fld} (h : g.key < 32 * 0x4000) : g.offSlots := .inl (by omega)

theorem fieldsAt_PLL_CTL : ∀ p : Fin 7, fieldsAt (0x3080 + 4 * p.val) = [CLK.PLL_CTL.LOCK p, CLK.PLL_CTL.UNLOCK_SEEN p, CLK.PLL_CTL.EN p]
  | 0 | 1 | 2 | 3 | 4 | 5 | 6 => rfl

theorem of_PLL_EN (p : Nat) (v : Word) : (CLK.PLL_CTL.EN p).of v = v.toNat % 2 := by simp [Fld.of, bits, CLK.PLL_CTL.EN]

/-- UNLOCK_SEEN clears where 1 is written to it. -/
def State.unlockSeen (s : State) (p : Nat) (v : Word) : State := s.writeFld v (CLK.PLL_CTL.UNLOCK_SEEN p)

theorem unlockSeen_get (s : State) (p : Nat) (v : Word) : (s.unlockSeen p v).get (CLK.PLL_CTL.EN p) = s.get (CLK.PLL_CTL.EN p) :=
  State.get_set_ne s _ (by simp)

theorem writeReg_PLL_CTL (s : State) (p : Fin 7) (v : Word) :
    s.writeReg (0x3080 + 4 * p.val) v = (s.unlockSeen p v).set (CLK.PLL_CTL.EN p) (v.toNat % 2) := by
  simp only [State.writeReg, fieldsAt_PLL_CTL, State.writeFlds, List.foldl]
  rw [← of_PLL_EN p]
  rfl

/-- A write stops a PLL. -/
def State.pllStops (s : State) (p : Nat) (v : Word) : Prop := s.flag (CLK.PLL_CTL.EN p) = true ∧ v.toNat % 2 = 0

theorem pllWrite_refused {s : State} {p : Nat} {v : Word} (h : s.pllStops p v) (hu : s.pllUsed p = true) :
    s.pllWrite p v = s.unlockSeen p v := by
  simp [State.pllWrite, of_PLL_EN, h.1, h.2, hu, State.unlockSeen]

/-- EN after a write that does not stop a PLL in use. -/
theorem pllWrite_get_EN {s : State} {p : Fin 7} {v : Word} (h : ¬(s.pllStops p v ∧ s.pllUsed p = true)) :
    (s.pllWrite p v).get (CLK.PLL_CTL.EN p) = v.toNat % 2 := by
  have hlow : (CLK.PLL_CTL.EN p).key < 32 * 0x4000 := by simp; omega
  have hw : (s.writeReg (0x3080 + 4 * p.val) v).get (CLK.PLL_CTL.EN p) = v.toNat % 2 := by simp [writeReg_PLL_CTL]
  have href : ¬((s.flag (CLK.PLL_CTL.EN p) && (CLK.PLL_CTL.EN p).of v == 0) && s.pllUsed p) = true := by
    simpa [State.pllStops, of_PLL_EN] using h
  unfold State.pllWrite
  dsimp only
  rw [if_neg href]
  split_ifs
  · rw [syncClocks_get (offClocked_of_lt hlow), State.get_set_ne _ _ (by simp), hw]
  · exact hw

theorem pllLock_locks {s : State} {p : Nat} (hreset : s.inReset = false) (hen : s.flag (CLK.PLL_CTL.EN p) = true)
    (hok : s.flag CLK.OSC_STAT.REF_OK = true) : s.pllLock p = (s.set (CLK.PLL_CTL.LOCK p) 1).syncClocks := by
  simp [State.pllLock, hreset, hen, hok]

/-! Loss of lock -/

theorem dropIsland_get (s : State) (n : Nat) {g : Fld} (h : ¬g.key = (CLK.ISL_CLK.SRC_NOW n).key) : (s.dropIsland n).get g = s.get g := by
  unfold State.dropIsland
  split_ifs
  · exact State.get_set_of_key_ne s 0 h
  · rfl

theorem dropIsland_leaves (s : State) (n : Nat) : (s.dropIsland n).get (CLK.ISL_CLK.SRC_NOW n) ≠ 1 := by
  unfold State.dropIsland
  split_ifs with h
  · simp
  · exact h

theorem dropIsland_keeps_off {s : State} {m : Nat} (n : Nat) (h : s.get (CLK.ISL_CLK.SRC_NOW m) ≠ 1) :
    (s.dropIsland n).get (CLK.ISL_CLK.SRC_NOW m) ≠ 1 := by
  by_cases hn : m = n
  · subst hn; exact dropIsland_leaves s m
  · rwa [dropIsland_get s n (by simp; omega)]

/-- After a list of islands has left its PLL, none of them runs from it. -/
theorem dropIslands_off (l : List Nat) (s : State) {n : Nat} (h : n ∈ l ∨ s.get (CLK.ISL_CLK.SRC_NOW n) ≠ 1) :
    (l.foldl State.dropIsland s).get (CLK.ISL_CLK.SRC_NOW n) ≠ 1 := by
  induction l generalizing s with
  | nil => simpa using h
  | cons k l ih =>
    refine ih _ ?_
    rcases h with h | h
    · rcases List.mem_cons.mp h with rfl | h
      · exact .inr (dropIsland_leaves s n)
      · exact .inl h
    · exact .inr (dropIsland_keeps_off k h)

/-- A field other than an island's source in use stands while islands leave their PLL. -/
theorem dropIslands_get {g : Fld} (hg : ∀ n, ¬g.key = (CLK.ISL_CLK.SRC_NOW n).key) (l : List Nat) (s : State) :
    (l.foldl State.dropIsland s).get g = s.get g :=
  foldl_keeps (fun t : State => t.get g) _ (fun t n => dropIsland_get t n (hg n)) l s

/-- The PLL reads unlocked, its islands have left it, and the transmit paths that need it are off. -/
def State.unlocked (s : State) (p : Nat) : State :=
  let t := ((List.range 48).filter fun n => pllOf n == some p).foldl State.dropIsland
    ((s.set (CLK.PLL_CTL.LOCK p) 0).set (CLK.PLL_CTL.UNLOCK_SEEN p) 1)
  if p = 0 ∨ p = 1 then t.txOff else t

theorem unlock_locked {s : State} {p : Nat} (h : s.flag (CLK.PLL_CTL.LOCK p) = true) :
    s.unlock p = (s.unlocked p).syncClocks.fire 0x03 CLK.src.PLL_UNLOCK {} := by
  simp only [State.unlock, h, Bool.not_true, Bool.false_eq_true, if_false]
  rfl

theorem unlocked_get (s : State) (p : Nat) {g : Fld} (hg : g.offSlots) : (s.unlocked p).get g =
    (((List.range 48).filter fun n => pllOf n == some p).foldl State.dropIsland
      ((s.set (CLK.PLL_CTL.LOCK p) 0).set (CLK.PLL_CTL.UNLOCK_SEEN p) 1)).get g := by
  unfold State.unlocked
  dsimp only
  split_ifs
  · exact txOff_get hg _
  · rfl

theorem unlocked_shows (s : State) (p : Fin 7) : (s.unlocked p).get (CLK.PLL_CTL.LOCK p) = 0 ∧
    (s.unlocked p).get (CLK.PLL_CTL.UNLOCK_SEEN p) = 1 ∧
    ∀ n < 48, pllOf n = some p.val → (s.unlocked p).get (CLK.ISL_CLK.SRC_NOW n) ≠ 1 := by
  refine ⟨?_, ?_, fun n hn hp => ?_⟩
  · rw [unlocked_get s p (offSlots_of_lt (by simp; omega)), dropIslands_get (fun n => by simp; omega)]
    simp
  · rw [unlocked_get s p (offSlots_of_lt (by simp; omega)), dropIslands_get (fun n => by simp; omega)]
    simp
  · rw [unlocked_get s p (offSlots_of_lt (by simp; omega))]
    exact dropIslands_off _ _ (.inl (by simpa [hn] using hp))

/-- Settles O11: a write of EN by whether it would stop a PLL in use; the lock; and the loss of lock before its source fires. -/
theorem pllCommands : Obligations.PllCommands := by
  refine ⟨fun s m p v ht => ?_, fun s p hreset hen hok => ?_, fun s p hreset hen hlock => ?_⟩
  · have hpage : pageOf (0x3080 + 4 * p.val) ≠ 4 := by unfold pageOf; omega
    refine answersSettled_of rfl (guarded_of_takes _ ht hpage) ?_
    by_cases h : s.pllStops p v ∧ s.pllUsed p = true
    · have h' : (s.outcome m 0).pllStops p v ∧ (s.outcome m 0).pllUsed p = true := h
      obtain ⟨⟨hen, hv⟩, hu⟩ := h
      rw [pllWrite_refused h'.1 h'.2, unlockSeen_get, if_pos ⟨hen, hv, hu⟩]
      simpa [State.flag] using hen
    · have h' : ¬((s.outcome m 0).pllStops p v ∧ (s.outcome m 0).pllUsed p = true) := h
      rw [pllWrite_get_EN h', if_neg fun ⟨hen, hv, hu⟩ => h ⟨⟨hen, hv⟩, hu⟩]
  · refine answers_of rfl (pllLock_locks hreset hen hok) ?_
    rw [syncClocks_get (offClocked_of_lt (by simp; omega))]
    simp
  · refine answersVia_of rfl (congrArg State.settle ?_) (unlocked_shows s p)
    simp only [hreset, hen, Bool.not_false, Bool.and_self, if_true]
    exact unlock_locked hlock

end Sys2Proof.Machine
end

section
/-! SUPPORT. The clocks of the islands and the dividers of the clusters (R63, R64, R70 to R73). -/
namespace Sys2Proof.Machine
open Sys2Proof

/-! Dividers -/

/-- The divider that a cluster is asked for, without the limit that its neighbours set to code 6 (R70, R71). -/
def State.divAsked (s : State) (k : Nat) : Nat := max (max (s.clusterDiv k) (s.thermalDiv k)) (s.get (CLK.ISL_CLK.DIV_REQ (19 + k)))

/-- The neighbours' limit only tells code 5 from code 6, which need no voltage. -/
theorem divGoal_cases (s : State) (k : Nat) : s.divGoal k = s.divAsked k ∨ 2 ≤ s.divGoal k ∧ 2 ≤ s.divAsked k := by
  unfold State.divGoal State.ownerDiv State.divAsked
  dsimp only
  split_ifs with h
  · exact .inr ⟨by omega, by omega⟩
  · exact .inl rfl

theorem minVolt_of_two_le {c : Nat} (h : 2 ≤ c) : minVolt c = 0 := by
  unfold minVolt; split_ifs <;> omega

theorem minVolt_divGoal (s : State) (k : Nat) : minVolt (s.divGoal k) = minVolt (s.divAsked k) := by
  rcases divGoal_cases s k with h | ⟨h, h'⟩
  · rw [h]
  · rw [minVolt_of_two_le h, minVolt_of_two_le h']

/-- The rail of a cluster bears the divider that it is asked for, or the cluster need not be faster for it. -/
def State.divBorne (s : State) (k : Nat) : Prop :=
  minVolt (s.divAsked k) ≤ s.get (PWR.ENG_RAIL.VCONFIRMED (k / 4)) ∨ s.get (CLK.ISL_CLK.DIV_APPLIED (19 + k)) ≤ s.divAsked k

theorem applyDiv_borne {s : State} {k : Nat} (h : s.divBorne k) :
    s.applyDiv k = s.set (CLK.ISL_CLK.DIV_APPLIED (19 + k)) (s.divGoal k) := by
  refine if_pos ?_
  rw [minVolt_divGoal]
  rcases h with h | h
  · exact .inr h
  · rcases divGoal_cases s k with e | ⟨-, e⟩
    · exact .inl (e ▸ h)
    · exact .inr (by rw [minVolt_of_two_le e]; omega)

/-- One step of applyDivs writes DIV_APPLIED or REFUSE of its cluster. -/
theorem applyDiv_cases (s : State) (j : Nat) :
    (∃ v, s.applyDiv j = s.set (CLK.ISL_CLK.DIV_APPLIED (19 + j)) v) ∨ ∃ v, s.applyDiv j = s.set (CLK.ISL_CLK.REFUSE (19 + j)) v := by
  unfold State.applyDiv
  dsimp only
  split_ifs
  · exact .inl ⟨_, rfl⟩
  · exact .inr ⟨_, rfl⟩

/-- The divider asked for is a matter of the profile, the enforcement level and DIV_REQ. -/
theorem divAsked_congr {s t : State} {k : Nat} (hprof : t.prof = s.prof) (hactive : t.get IDN.PROFILE.ACTIVE = s.get IDN.PROFILE.ACTIVE)
    (hlevel : t.get THM.STAT.LEVEL = s.get THM.STAT.LEVEL)
    (hreq : t.get (CLK.ISL_CLK.DIV_REQ (19 + k)) = s.get (CLK.ISL_CLK.DIV_REQ (19 + k))) : t.divAsked k = s.divAsked k := by
  simp only [State.divAsked, State.thermalDiv, State.clusterDiv, hprof, hactive, hlevel, hreq]

theorem set_DIV_APPLIED_divAsked (s : State) (k n v : Nat) : (s.set (CLK.ISL_CLK.DIV_APPLIED n) v).divAsked k = s.divAsked k :=
  divAsked_congr rfl (State.get_set_of_key_ne s v (by simp; omega)) (State.get_set_of_key_ne s v (by simp; omega))
    (State.get_set_of_key_ne s v (by simp; omega))

theorem set_REFUSE_divAsked (s : State) (k n v : Nat) : (s.set (CLK.ISL_CLK.REFUSE n) v).divAsked k = s.divAsked k :=
  divAsked_congr rfl (State.get_set_of_key_ne s v (by simp; omega)) (State.get_set_of_key_ne s v (by simp; omega))
    (State.get_set_of_key_ne s v (by simp; omega))

/-- A divider that its rail bears stays so, and is not refused, while every cluster's divider is applied. -/
theorem applyDiv_keeps_borne {s : State} {k : Nat} (j : Nat) (h : s.divBorne k ∧ s.get (CLK.ISL_CLK.REFUSE (19 + k)) = 0) :
    (s.applyDiv j).divBorne k ∧ (s.applyDiv j).get (CLK.ISL_CLK.REFUSE (19 + k)) = 0 := by
  obtain ⟨hb, hr⟩ := h
  have hvolt (n v : Nat) : (s.set (CLK.ISL_CLK.DIV_APPLIED n) v).get (PWR.ENG_RAIL.VCONFIRMED (k / 4)) =
      s.get (PWR.ENG_RAIL.VCONFIRMED (k / 4)) := by
    rw [State.get_set_of_key_ne _ _ (by simp; omega)]
  by_cases hj : j = k
  · subst hj
    rw [applyDiv_borne hb]
    refine ⟨?_, by rwa [State.get_set_of_key_ne _ _ (by simp)]⟩
    rcases divGoal_cases s j with e | ⟨-, e⟩
    · refine .inr ?_
      rw [set_DIV_APPLIED_divAsked, State.get_set_same, e]
      exact Nat.mod_le _ _
    · refine .inl ?_
      rw [set_DIV_APPLIED_divAsked, minVolt_of_two_le e]
      exact Nat.zero_le _
  · rcases applyDiv_cases s j with ⟨v, e⟩ | ⟨v, e⟩ <;> rw [e]
    · refine ⟨?_, by rwa [State.get_set_of_key_ne _ _ (by simp; omega)]⟩
      unfold State.divBorne
      rwa [set_DIV_APPLIED_divAsked, hvolt, State.get_set_of_key_ne _ _ (by simp; omega)]
    · refine ⟨?_, by rwa [State.get_set_of_key_ne _ _ (by simp; omega)]⟩
      unfold State.divBorne
      rwa [set_REFUSE_divAsked, State.get_set_of_key_ne _ _ (by simp; omega), State.get_set_of_key_ne _ _ (by simp; omega)]

theorem applyDivs_keeps_unrefused {s : State} {k : Nat} (hk : k < 16) (h : s.divBorne k) (hr : s.get (CLK.ISL_CLK.REFUSE (19 + k)) = 0) :
    s.applyDivs.get (CLK.ISL_CLK.REFUSE (19 + k)) = 0 := by
  unfold State.applyDivs
  rw [syncClusters_get (.inl (by simp; omega))]
  exact (List.foldlRecOn _ _ (motive := fun t : State => t.divBorne k ∧ t.get (CLK.ISL_CLK.REFUSE (19 + k)) = 0) ⟨h, hr⟩
    fun t ht j _ => applyDiv_keeps_borne (j % 16) ht).2

theorem applyDivs_get {g : Fld} (hg : g.offClocked) (ha : ∀ n, ¬g.key = (CLK.ISL_CLK.DIV_APPLIED n).key)
    (hr : ∀ n, ¬g.key = (CLK.ISL_CLK.REFUSE n).key) (s : State) : s.applyDivs.get g = s.get g := by
  refine (syncClusters_get hg _).trans (foldl_keeps (fun t : State => t.get g) _ (fun t j => ?_) _ _)
  rcases applyDiv_cases t (j % 16) with ⟨v, e⟩ | ⟨v, e⟩ <;> rw [e]
  · exact State.get_set_of_key_ne t v (ha _)
  · exact State.get_set_of_key_ne t v (hr _)

/-! A write of ISL_CLK -/

theorem of_ISL_SRC_lt (n : Nat) (v : Word) : (CLK.ISL_CLK.SRC n).of v < 4 := by
  simp only [Fld.of, bits, CLK.ISL_CLK.SRC]; omega

theorem clockCause_lt (s : State) (n src div : Nat) : s.clockCause n src div < 16 := by
  unfold State.clockCause; split_ifs <;> omega

/-- The island's source is the one written, and nothing refuses it. -/
def State.clockSourced (s : State) (n src : Nat) : State :=
  { (((s.set (CLK.ISL_CLK.SRC n) src).set (CLK.ISL_CLK.SRC_NOW n) src).set (CLK.ISL_CLK.REFUSE n) 0) with needReq := NSet.rem s.needReq n }

theorem clockSourced_get (s : State) (n src : Nat) (g : Fld) : (s.clockSourced n src).get g =
    (((s.set (CLK.ISL_CLK.SRC n) src).set (CLK.ISL_CLK.SRC_NOW n) src).set (CLK.ISL_CLK.REFUSE n) 0).get g := rfl

/-- The state from which the clocks and the link follow a write that is accepted. -/
def State.clockTaken (s : State) (n src div : Nat) : State :=
  if yarrow n then ((s.clockSourced n src).set (CLK.ISL_CLK.DIV_REQ n) div).applyDivs else s.clockSourced n src

section
variable {s : State} {n src div : Nat}

theorem islandClock_refused (h : s.clockCause n src div ≠ 0) :
    s.islandClock n src div = s.set (CLK.ISL_CLK.REFUSE n) (s.clockCause n src div) := if_pos h

theorem islandClock_taken (h : ¬s.clockCause n src div ≠ 0) : s.islandClock n src div = (s.clockTaken n src div).syncClocks.followLink := by
  refine (if_neg h).trans ?_
  unfold State.clockTaken
  split_ifs <;> rfl

/-- A write that no cause refuses asks a cluster for no divider that its rail does not bear. -/
theorem divBorne_of_accepted {k : Nat} (hk : k < 16) (h : ¬s.clockCause (19 + k) src div ≠ 0) :
    (s.set (CLK.ISL_CLK.DIV_REQ (19 + k)) div).divBorne k := by
  have hvolt : ¬s.clockVolt (19 + k) src div = true := fun hv => h (by unfold State.clockCause; split_ifs <;> omega)
  have hy : yarrow (19 + k) = true := by simp [yarrow]; omega
  unfold State.divBorne
  rw [← minVolt_divGoal]
  by_contra hnot
  obtain ⟨hlow, hfast⟩ := not_or.mp hnot
  have hgoal : (s.set (CLK.ISL_CLK.DIV_REQ (19 + k)) div).divGoal k = (s.set (CLK.ISL_CLK.DIV_REQ (19 + k)) div).divAsked k := by
    rcases divGoal_cases (s.set (CLK.ISL_CLK.DIV_REQ (19 + k)) div) k with e | ⟨e, -⟩
    · exact e
    · rw [minVolt_of_two_le e] at hlow; omega
  rw [State.get_set_of_key_ne _ _ (by simp; omega)] at hlow
  rw [State.get_set_of_key_ne _ _ (by simp), ← hgoal] at hfast
  refine hvolt ?_
  simp only [State.clockVolt, hy, Nat.add_sub_cancel_left, Bool.true_and, Bool.and_eq_true, Bool.or_eq_true, decide_eq_true_eq]
  exact ⟨.inl (by omega), by omega⟩

theorem clockSourced_divBorne {k : Nat} (hk : k < 16) (h : (s.set (CLK.ISL_CLK.DIV_REQ (19 + k)) div).divBorne k) :
    ((s.clockSourced (19 + k) src).set (CLK.ISL_CLK.DIV_REQ (19 + k)) div).divBorne k := by
  have hget (f : Fld) (hsrc : ¬f.key = (CLK.ISL_CLK.SRC (19 + k)).key) (hnow : ¬f.key = (CLK.ISL_CLK.SRC_NOW (19 + k)).key)
      (href : ¬f.key = (CLK.ISL_CLK.REFUSE (19 + k)).key) (hreq : ¬f.key = (CLK.ISL_CLK.DIV_REQ (19 + k)).key) :
      ((s.clockSourced (19 + k) src).set (CLK.ISL_CLK.DIV_REQ (19 + k)) div).get f = (s.set (CLK.ISL_CLK.DIV_REQ (19 + k)) div).get f := by
    rw [State.get_set_of_key_ne _ _ hreq, State.get_set_of_key_ne _ _ hreq, clockSourced_get, State.get_set_of_key_ne _ _ href,
      State.get_set_of_key_ne _ _ hnow, State.get_set_of_key_ne _ _ hsrc]
  have hasked : ((s.clockSourced (19 + k) src).set (CLK.ISL_CLK.DIV_REQ (19 + k)) div).divAsked k =
      (s.set (CLK.ISL_CLK.DIV_REQ (19 + k)) div).divAsked k :=
    divAsked_congr rfl (hget _ (by simp; omega) (by simp; omega) (by simp; omega) (by simp; omega))
      (hget _ (by simp; omega) (by simp; omega) (by simp; omega) (by simp; omega)) (by simp)
  unfold State.divBorne
  rwa [hasked, hget _ (by simp; omega) (by simp; omega) (by simp; omega) (by simp; omega),
    hget _ (by simp) (by simp) (by simp) (by simp)]

theorem clockTaken_shows (hsrc : src < 4) (h : ¬s.clockCause n src div ≠ 0) :
    (s.clockTaken n src div).get (CLK.ISL_CLK.SRC n) = src ∧ (s.clockTaken n src div).get (CLK.ISL_CLK.SRC_NOW n) = src ∧
      (s.clockTaken n src div).get (CLK.ISL_CLK.REFUSE n) = 0 := by
  have hsourced : (s.clockSourced n src).get (CLK.ISL_CLK.SRC n) = src ∧ (s.clockSourced n src).get (CLK.ISL_CLK.SRC_NOW n) = src ∧
      (s.clockSourced n src).get (CLK.ISL_CLK.REFUSE n) = 0 := by
    simp [clockSourced_get, Nat.mod_eq_of_lt hsrc]
  unfold State.clockTaken
  split_ifs with hy
  · obtain ⟨k, hk, rfl⟩ : ∃ k, k < 16 ∧ n = 19 + k := by
      simp only [yarrow, Bool.and_eq_true, decide_eq_true_eq] at hy
      exact ⟨n - 19, by omega, by omega⟩
    have hlt : 32 * (0x3100 + 4 * (19 + k)) + 32 < 32 * 0x10000 := by omega
    refine ⟨?_, ?_, applyDivs_keeps_unrefused hk (clockSourced_divBorne hk (divBorne_of_accepted hk h)) ?_⟩
    · rw [applyDivs_get (.inl (by simp; omega)) (fun m => by simp; omega) (fun m => by simp; omega),
        State.get_set_of_key_ne _ _ (by simp), hsourced.1]
    · rw [applyDivs_get (.inl (by simp; omega)) (fun m => by simp; omega) (fun m => by simp; omega),
        State.get_set_of_key_ne _ _ (by simp), hsourced.2.1]
    · rw [State.get_set_of_key_ne _ _ (by simp), hsourced.2.2]
  · exact hsourced

end

/-- Settles O12: a cause of refusal changes REFUSE alone; without one the source is taken, and the divider that the cluster is then given
is never one that its rail does not bear. -/
theorem islandClockWrites : Obligations.IslandClockWrites := by
  intro s m n v hv
  have hpage : pageOf (0x3100 + 4 * n.val) ≠ 4 := by unfold pageOf; omega
  have hw := guardedBy_of_take (fun t => t.islandClock n ((CLK.ISL_CLK.SRC n).of v) ((CLK.ISL_CLK.DIV_REQ n).of v)) hv hpage
  have hcause : (s.outcome m 0).clockCause n ((CLK.ISL_CLK.SRC n).of v) ((CLK.ISL_CLK.DIV_REQ n).of v) =
      s.clockCause n ((CLK.ISL_CLK.SRC n).of v) ((CLK.ISL_CLK.DIV_REQ n).of v) := rfl
  by_cases h : s.clockCause n ((CLK.ISL_CLK.SRC n).of v) ((CLK.ISL_CLK.DIV_REQ n).of v) ≠ 0
  · simp only [if_pos h]
    refine answersVia_of rfl (congrArg State.settle (hw.trans (islandClock_refused (hcause ▸ h)))) ⟨?_, ?_⟩
    · rw [State.get_set_same, hcause, w_CLK_ISL_CLK_REFUSE]
      exact Nat.mod_eq_of_lt (clockCause_lt _ _ _ _)
    · exact Keeps.set (Keeps.of_reg rfl _) _ (by simp)
  · simp only [if_neg h]
    exact answersVia_of rfl (congrArg State.settle (hw.trans (islandClock_taken (hcause ▸ h))))
      (clockTaken_shows (of_ISL_SRC_lt n v) (hcause ▸ h))

end Sys2Proof.Machine
end

section
/-! SUPPORT. What a record, a status bit and the reactions that reset nothing leave of the registers and of the store (R340 to R344, R408 to
R415). -/
namespace Sys2Proof.Machine
open Sys2Proof

/-! Records -/

/-- A record is placed, with or without a token of its code's bucket, or counted as pending. -/
theorem record_cases (s : State) (r : Rec) :
    (∃ q, s.record r = ((s.refilled r.code).set (EVT.RL_STAT.PENDING r.code) 0).place q) ∨
    (∃ q v, s.record r = (((s.refilled r.code).set (EVT.RL_STAT.TOKENS r.code) v).set (EVT.RL_STAT.PENDING r.code) 0).place q) ∨
    ∃ v, s.record r = ((s.refilled r.code).set (EVT.RL_STAT.PENDING r.code) v, false) := by
  unfold State.record
  dsimp only
  split
  · split
    · exact .inl ⟨_, rfl⟩
    · exact .inr (.inl ⟨_, _, rfl⟩)
  · exact .inr (.inr ⟨_, rfl⟩)

/-- A field outside page EVT and below the rate limits: no record writes it. -/
def Fld.offRecords (g : Fld) : Prop := g.key / 32 / 0x1000 ≠ 6 ∧ g.key < 32 * 0x200000

theorem startFlush_get (s : State) (g : Fld) : s.startFlush.get g = s.get g := by
  unfold State.startFlush; split_ifs <;> rfl

section
variable {g : Fld} (hg : g.offRecords)
include hg

theorem get_set_record (s : State) {f : Fld} (v : Nat) (hf : f.key / 32 / 0x1000 = 6 ∨ 32 * 0x200000 ≤ f.key) : (s.set f v).get g = s.get g :=
  State.get_set_ne s v fun e => by
    obtain ⟨hpage, hlt⟩ := hg
    rw [e] at hpage hlt
    omega

theorem enter_get (s : State) (r : Rec) : (s.enter r).get g = s.get g := by
  unfold State.enter
  dsimp only
  split_ifs
  · rfl
  · exact get_set_record hg s _ (.inl rfl)
  · exact get_set_record hg _ _ (.inl rfl)

theorem place_get (s : State) (r : Rec) : (s.place r).1.get g = s.get g := by
  have hlost : (s.count EVT.LOSS.DROPPED 1).get g = s.get g := get_set_record hg s _ (.inl rfl)
  unfold State.place
  dsimp only
  split_ifs
  · exact enter_get hg s r
  · split
    · exact (enter_get hg _ r).trans hlost
    · exact hlost

theorem record_get (s : State) (r : Rec) : (s.record r).1.get g = s.get g := by
  have htok (t : State) (c v : Nat) : (t.set (EVT.RL_STAT.TOKENS c) v).get g = t.get g := get_set_record hg t v (.inr (by simp; omega))
  have hpend (t : State) (c v : Nat) : (t.set (EVT.RL_STAT.PENDING c) v).get g = t.get g := get_set_record hg t v (.inr (by simp; omega))
  have hfill : (s.refilled r.code).get g = s.get g := htok s _ _
  rcases record_cases s r with ⟨q, e⟩ | ⟨q, v, e⟩ | ⟨v, e⟩ <;> rw [e]
  · exact (place_get hg _ _).trans ((hpend _ _ _).trans hfill)
  · exact (place_get hg _ _).trans ((hpend _ _ _).trans ((htok _ _ _).trans hfill))
  · exact (hpend _ _ _).trans hfill

theorem note_get (s : State) (r : Rec) : (s.note r).1.get g = s.get g := by
  unfold State.note
  dsimp only
  split_ifs
  · exact (startFlush_get _ g).trans (record_get hg s r)
  · exact record_get hg s r

end

/-- A record that finds a place and a number drops none. -/
theorem place_fits {s : State} (hlen : s.evt.buf.length < 256) (hseq : s.get EVT.LAST.SEQ ≠ 0xFFFFFFFE) (r : Rec) :
    (s.place r).2 = false := by
  simp [State.place, hlen, hseq]

theorem note_fits {s : State} (h : s.hasRoom 1) (r : Rec) : (s.note r).2 = false := by
  obtain ⟨hlen, hseq⟩ := h
  have hseq : s.get EVT.LAST.SEQ ≠ 0xFFFFFFFE := fun e => hseq 0 (by decide) (by simp [e])
  have hfill : (s.refilled r.code).get EVT.LAST.SEQ = s.get EVT.LAST.SEQ := State.get_set_ne s _ (by simp; omega)
  have hlen : s.evt.buf.length < 256 := by omega
  change (s.record r).2 = false
  rcases record_cases s r with ⟨q, e⟩ | ⟨q, v, e⟩ | ⟨v, e⟩ <;> rw [e]
  · refine place_fits ?_ ?_ q
    · exact hlen
    · rwa [State.get_set_of_key_ne _ _ (by simp; omega), hfill]
  · refine place_fits ?_ ?_ q
    · exact hlen
    · rwa [State.get_set_of_key_ne _ _ (by simp; omega), State.get_set_of_key_ne _ _ (by simp; omega), hfill]

theorem log_fits {s : State} (h : s.hasRoom 1) (r : Rec) : s.log r = (s.note r).1 := by
  simp [State.log, note_fits h r]

/-! Status bits -/

/-- The bits that a source sets are in the header of its page. -/
theorem status_get (s : State) (p b : Nat) {g : Fld} (hg : g.key / 32 % 0x1000 < 0x10 ∨ 0x24 ≤ g.key / 32 % 0x1000) :
    (s.status p b).get g = s.get g := by
  have hset (t : State) (f : Fld) (v : Nat) (hf : f = HDR.IRQ_STAT.BITS p ∨ f = HDR.ERR_STAT.BITS p ∨ f = HDR.ERR_FIRST.VALID p ∨
      f = HDR.ERR_FIRST.BIT p) : (t.set f v).get g = t.get g := by
    refine State.get_set_ne t v ?_
    rcases hf with rfl | rfl | rfl | rfl <;> simp <;> omega
  have hput (t : State) (f : Fld) (hf : f = HDR.IRQ_STAT.BITS p ∨ f = HDR.ERR_STAT.BITS p) : (t.putBit f b true).get g = t.get g :=
    hset t f _ (hf.imp id .inl)
  unfold State.status
  dsimp only
  split_ifs
  · exact hput s _ (.inl rfl)
  · exact (hset _ _ _ (by simp)).trans ((hset _ _ _ (by simp)).trans ((hput _ _ (.inr rfl)).trans (hput s _ (.inl rfl))))
  · exact (hput _ _ (.inr rfl)).trans (hput s _ (.inl rfl))

theorem tbit_setBit_mod (v b : Nat) {w : Nat} (h : b < w) : tbit (setBit v b % 2 ^ w) b = true := by
  rw [tbit_eq_testBit, Nat.testBit_mod_two_pow, ← tbit_eq_testBit, tbit_setBit_same]
  simpa using h

/-- A source that fires sets its bit of IRQ_STAT. -/
theorem status_sets (s : State) (p : Nat) {b : Nat} (hb : b < 32) : tbit ((s.status p b).get (HDR.IRQ_STAT.BITS p)) b = true := by
  have hput : tbit ((s.putBit (HDR.IRQ_STAT.BITS p) b true).get (HDR.IRQ_STAT.BITS p)) b = true := by
    rw [State.putBit, State.get_set_same]
    exact tbit_setBit_mod _ b hb
  have hne (t : State) (f : Fld) (v : Nat) (hf : f = HDR.ERR_STAT.BITS p ∨ f = HDR.ERR_FIRST.VALID p ∨ f = HDR.ERR_FIRST.BIT p) :
      (t.set f v).get (HDR.IRQ_STAT.BITS p) = t.get (HDR.IRQ_STAT.BITS p) := by
    refine State.get_set_ne t v ?_
    rcases hf with rfl | rfl | rfl
    · simp
    · simp; omega
    · simp
  unfold State.status State.putBit
  dsimp only
  split_ifs
  · exact hput
  · rwa [hne _ _ _ (by simp), hne _ _ _ (by simp), hne _ _ _ (by simp)]
  · rwa [hne _ _ _ (by simp)]

theorem updFirst_get (s : State) (p : Nat) {g : Fld} (hg : g.key / 32 ≠ 0x4050) : (s.updFirst p).get g = s.get g := by
  have hset (t : State) (f : Fld) (v : Nat) (hf : f = FLT.FIRST.VALID ∨ f = FLT.FIRST.PAGE) : (t.set f v).get g = t.get g := by
    refine State.get_set_ne t v ?_
    rcases hf with rfl | rfl <;> simp <;> omega
  unfold State.updFirst
  split_ifs
  · exact (hset _ _ _ (by simp)).trans (hset _ _ _ (by simp))
  · rfl
  · exact (hset _ _ _ (by simp)).trans (hset _ _ _ (by simp))
  · rfl

@[simp] theorem status_evt (s : State) (p b : Nat) : (s.status p b).evt = s.evt := by
  unfold State.status; dsimp only; split_ifs <;> rfl
@[simp] theorem updFirst_evt (s : State) (p : Nat) : (s.updFirst p).evt = s.evt := by
  unfold State.updFirst; split_ifs <;> rfl

/-! What firings leave of the NVM store -/

@[simp] theorem putBit_nvm (s : State) (f : Fld) (i : Nat) (b : Bool) : (s.putBit f i b).nvm = s.nvm := rfl
@[simp] theorem count_nvm (s : State) (f : Fld) (n : Nat) : (s.count f n).nvm = s.nvm := rfl
@[simp] theorem modCh_nvm (s : State) (c : Nat) (f : BiasCh → BiasCh) : (s.modCh c f).nvm = s.nvm := rfl

@[simp] theorem silence_nvm (s : State) (i : Nat) : (s.silence i).nvm = s.nvm := by
  unfold State.silence; rw [State.set_nvm, State.set_nvm]
@[simp] theorem cut_nvm (s : State) (i : Nat) : (s.cut i).nvm = s.nvm := rfl

@[simp] theorem fadeOut_nvm (s : State) (i t : Nat) : (s.fadeOut i t).nvm = s.nvm := by
  unfold State.fadeOut; split <;> rfl

@[simp] theorem hold_nvm (s : State) (b i : Nat) : (s.hold b i).nvm = s.nvm := by
  unfold State.hold State.holdAt; dsimp only; split_ifs <;> simp

@[simp] theorem unhold_nvm (s : State) (b i : Nat) : (s.unhold b i).nvm = s.nvm := by
  unfold State.unhold; dsimp only; split_ifs <;> simp

@[simp] theorem cutRamps_nvm (s : State) : s.cutRamps.nvm = s.nvm := foldl_keeps State.nvm State.cut cut_nvm _ _

@[simp] theorem syncGate_nvm (s : State) : s.syncGate.nvm = s.nvm := by
  have hall (b : Nat) (on : Bool) : (s.holdAll b on).nvm = s.nvm := foldl_keeps State.nvm _ (fun t i => by cases on <;> simp) _ _
  unfold State.syncGate; dsimp only; split_ifs <;> simp [hall]

@[simp] theorem txOff_nvm (s : State) : s.txOff.nvm = s.nvm := by
  refine (cutRamps_nvm _).trans (foldl_keeps State.nvm _ (fun t i => ?_) _ _)
  dsimp only; split_ifs <;> simp

@[simp] theorem enter_nvm (s : State) (r : Rec) : (s.enter r).nvm = s.nvm := by
  unfold State.enter; dsimp only; split_ifs <;> rfl

@[simp] theorem startFlush_nvm (s : State) : s.startFlush.nvm = s.nvm := by
  unfold State.startFlush; split_ifs <;> rfl

@[simp] theorem place_nvm (s : State) (r : Rec) : (s.place r).1.nvm = s.nvm := by
  unfold State.place
  dsimp only
  split_ifs
  · simp
  · split <;> simp

@[simp] theorem record_nvm (s : State) (r : Rec) : (s.record r).1.nvm = s.nvm := by
  rcases record_cases s r with ⟨q, e⟩ | ⟨q, v, e⟩ | ⟨v, e⟩ <;> rw [e]
  · exact place_nvm _ q
  · exact place_nvm _ q
  · rfl

@[simp] theorem note_nvm (s : State) (r : Rec) : (s.note r).1.nvm = s.nvm := by
  unfold State.note; dsimp only; split_ifs <;> simp

@[simp] theorem startMove_nvm (s : State) (c : Nat) : (s.startMove c).nvm = s.nvm := by
  unfold State.startMove; dsimp only; split_ifs <;> simp

@[simp] theorem enterSafe_nvm (s : State) (c : Nat) : (s.enterSafe c).nvm = s.nvm := by
  unfold State.enterSafe State.retargetNow; dsimp only; split_ifs <;> simp

@[simp] theorem trapAll_nvm (s : State) (p b : Nat) : (s.trapAll p b).nvm = s.nvm := by
  unfold State.trapAll State.trap; dsimp only; split_ifs <;> rfl

@[simp] theorem latchTerminal_nvm (s : State) (p b : Nat) (forced : Bool) : (s.latchTerminal p b forced).nvm = s.nvm := by
  unfold State.latchTerminal; split_ifs <;> rfl

@[simp] theorem softReact_nvm (s : State) (p b r cls : Nat) (forced : Bool) : (s.softReact p b r cls forced).nvm = s.nvm := by
  have hsafe (t : State) : t.biasSafe.nvm = t.nvm := foldl_keeps State.nvm _ enterSafe_nvm _ _
  unfold State.softReact; dsimp only; split_ifs <;> simp [hsafe]

@[simp] theorem status_nvm (s : State) (p b : Nat) : (s.status p b).nvm = s.nvm := by
  unfold State.status; dsimp only; split_ifs <;> rfl
@[simp] theorem updFirst_nvm (s : State) (p : Nat) : (s.updFirst p).nvm = s.nvm := by
  unfold State.updFirst; split_ifs <;> rfl

@[simp] theorem badFrom_nvm (s : State) (p : Nat) : (s.badFrom p).nvm = s.nvm := by
  unfold State.badFrom; exact foldl_keeps State.nvm _ (fun t i => State.modSlot_nvm t i _) _ _

end Sys2Proof.Machine
end

section
/-! SUPPORT. A source whose reactions reset nothing, and one that resets the chip (R340, R344). -/
namespace Sys2Proof.Machine
open Sys2Proof

/-! A mild firing -/

/-- The state in which a source that fires is recorded: its bits are set, and FLT.FIRST has followed. -/
def State.marked (s : State) (p b : Nat) : State := (s.status p b).updFirst p

theorem marks_armed {s : State} {p b : Nat} (log : State → Rec → State) (w : Why) (h : s.armed p b) : s.marks log p b w =
    (log (s.marked p b) ((s.marked p b).srcRec p b (if s.masked p b then 0 else s.srcReact p b) false w),
      some (if s.masked p b then 0 else s.srcReact p b, s.srcCls p b)) := by
  obtain ⟨hfire, hshadow, hgate, -⟩ := h
  simp [State.marks, hfire, hshadow, hgate, State.marked]

theorem marked_get (s : State) (p b : Nat) {g : Fld} (hg : g.key / 32 % 0x1000 < 0x10 ∨ 0x24 ≤ g.key / 32 % 0x1000) (hfirst : g.key / 32 ≠ 0x4050) :
    (s.marked p b).get g = s.get g :=
  (updFirst_get _ p hfirst).trans (status_get s p b hg)

@[simp] theorem marked_nvm (s : State) (p b : Nat) : (s.marked p b).nvm = s.nvm := by simp [State.marked]
@[simp] theorem marked_activity (s : State) (p b : Nat) : (s.marked p b).activity = s.activity := by simp [State.marked]

theorem marked_hasRoom {s : State} {n : Nat} (h : s.hasRoom n) (p b : Nat) : (s.marked p b).hasRoom n := by
  have hevt : (s.marked p b).evt = s.evt := by simp [State.marked]
  have hseq : (s.marked p b).get EVT.LAST.SEQ = s.get EVT.LAST.SEQ := marked_get s p b (.inr (by simp)) (by simp)
  rw [State.hasRoom, hevt, hseq]
  exact h

/-- Reactions that neither reset, trap, make the bias outputs safe nor latch leave the register file. -/
theorem reactions_mild_get (s : State) (p b cls : Nat) {r : Nat} (forced : Bool) (hr : r % 8 = 0) (hr' : r < 16) (hcls : cls < 4) (g : Fld) :
    (s.reactions p b r cls forced).get g = s.get g := by
  have hbit : tbit r 0 = false ∧ tbit r 1 = false ∧ tbit r 2 = false ∧ tbit r 4 = false := by
    have : r = 0 ∨ r = 8 := by omega
    rcases this with rfl | rfl <;> decide
  obtain ⟨h0, h1, h2, h4⟩ := hbit
  have hsoft : s.softReact p b r cls forced = if 2 ≤ cls then s.startFlush else s := by
    have : cls ≠ 4 := by omega
    simp [State.softReact, h0, h4, this]
  have hhard (t : State) : t.hardReact p [(b, r)] = t := by simp [State.hardReact, h1, h2]
  rw [State.reactions, hhard, hsoft]
  split_ifs
  · exact startFlush_get s g
  · rfl

/-- Where no permit stands that the latch withdraws, the latch withdraws none. -/
theorem termPermit_idle {s : State} (h : (s.flag FLT.TERM.SET && s.flag GOV.PERMIT.PERMIT) = false) : s.termPermit = s := by
  simp [State.termPermit, h]

/-- An armed source with a mild reaction and a record that finds room sets its bits; no other register changes but the record's. -/
theorem fire_mild_get {s : State} {p b : Nat} (w : Why) (ha : s.armed p b) (hm : s.mild p b) (hroom : s.hasRoom 1) {g : Fld}
    (hg : g.offRecords) : (s.fire p b w).get g = (s.marked p b).get g := by
  obtain ⟨hr, hr', hcls, -⟩ := hm
  obtain ⟨-, -, -, hterm⟩ := id ha
  have hreact : (if s.masked p b then 0 else s.srcReact p b) % 8 = 0 ∧ (if s.masked p b then 0 else s.srcReact p b) < 16 := by
    split_ifs <;> omega
  have hfired (g : Fld) (hg : g.offRecords) : ((((s.marked p b).log ((s.marked p b).srcRec p b (if s.masked p b then 0 else s.srcReact p b)
      false w)).reactions p b (if s.masked p b then 0 else s.srcReact p b) (s.srcCls p b) w.forced)).get g = (s.marked p b).get g := by
    rw [reactions_mild_get _ _ _ _ _ hreact.1 hreact.2 hcls, log_fits (marked_hasRoom hroom p b), note_get hg]
  have hpermit : (s.marked p b).get FLT.TERM.SET = s.get FLT.TERM.SET ∧ (s.marked p b).get GOV.PERMIT.PERMIT = s.get GOV.PERMIT.PERMIT :=
    ⟨marked_get s p b (.inr (by simp)) (by simp), marked_get s p b (.inr (by simp)) (by simp)⟩
  rw [State.fire, marks_armed _ _ ha]
  dsimp only
  rw [termPermit_idle, hfired g hg]
  simpa only [State.flag, hfired FLT.TERM.SET ⟨by simp, by simp⟩, hfired GOV.PERMIT.PERMIT ⟨by simp, by simp⟩, hpermit] using hterm

/-! A chip reset -/

/-- What a chip reset leaves of the register file: what I00 and the NVM keep, with the cause's bit. -/
theorem chipReset_get (s : State) (c : Cause) (g : Fld) :
    (s.chipReset c).get g = if keptAddr (g.key / 32) then (s.markCause c).get g else g.rst :=
  Tab.get_filter_key g.rst (s.markCause c).reg (fun k => keptAddr (k / 32)) g.key

theorem faultReset_shows (s : State) (p : Nat) : (s.faultReset p).rst.fault = true ∧ (s.faultReset p).active = [] ∧
    (s.faultReset p).get PWR.RESET_CAUSE.FAULT = 1 ∧ (s.faultReset p).get PWR.RESET_CAUSE.FAULT_PAGE = faultPage p % 256 := by
  refine ⟨rfl, rfl, ?_, ?_⟩
  · rw [State.faultReset, chipReset_get]
    simp [keptAddr, State.markCause]
  · rw [State.faultReset, chipReset_get]
    simp [keptAddr, State.markCause]

/-- Neither the power-fail sequence nor a region write runs, and no chip reset waits for one. -/
def State.resetReady (s : State) : Prop := s.pfRuns = false ∧ s.nvm.group = false ∧ s.rst.faultWaits = false

theorem resetReady_congr {s t : State} (hrst : t.rst = s.rst) (hnvm : t.nvm = s.nvm) (h : s.resetReady) : t.resetReady := by
  rwa [State.resetReady, State.pfRuns, hrst, hnvm]

theorem resetReady_of_activity {s t : State} (hact : t.activity = s.activity) (hnvm : t.nvm = s.nvm) (h : s.resetReady) : t.resetReady :=
  resetReady_congr (congrArg (fun x => x.2.1) hact) hnvm h

/-- A chip reset reaction then acts at once. -/
theorem reactChip_ready {s : State} (h : s.resetReady) (p : Nat) (trip : Bool) :
    s.reactChip p trip = State.faultReset { s with aon := { s.aon with trip := trip } } p := by
  obtain ⟨hpf, hgroup, hwait⟩ := h
  have hpf : (s.rst.pf == .running) = false := hpf
  simp only [State.reactChip, hwait, hpf, hgroup, Bool.false_and, Bool.or_self, Bool.false_eq_true, if_false]

theorem faultReset_ready {s : State} (h : s.resetReady) (p : Nat) : (s.faultReset p).resetReady := ⟨h.1, rfl, rfl⟩

theorem blockReset_evt_nvm (s : State) : (s.blockReset 0x06).nvm = s.nvm := by
  unfold State.blockReset
  dsimp only
  split_ifs
  · rfl
  · rw [restart_evt]; exact badFrom_nvm _ _

theorem note_ready {s : State} (h : s.resetReady) (r : Rec) : (s.note r).1.resetReady :=
  resetReady_of_activity (note_activity s r) (note_nvm s r) h

theorem softReact_ready {s : State} (h : s.resetReady) (p b r cls : Nat) (forced : Bool) : (s.softReact p b r cls forced).resetReady :=
  resetReady_of_activity (softReact_activity s p b r cls forced) (softReact_nvm s p b r cls forced) h

theorem hardReact_ready {s : State} (h : s.resetReady) (l : List (Nat × Nat)) : (s.hardReact 0x06 l).resetReady := by
  have htrip (trip : Bool) : State.resetReady { s with aon := { s.aon with trip := trip } } := resetReady_congr rfl rfl h
  unfold State.hardReact
  split_ifs
  · rw [reactChip_ready h]; exact faultReset_ready (htrip _) 0x06
  · exact resetReady_of_activity (blockReset_activity s (.inl rfl)) (blockReset_evt_nvm s) h
  · exact h

section
variable {log : State → Rec → State} (hlog : ∀ {t : State}, t.resetReady → ∀ r : Rec, (log t r).resetReady)
include hlog

theorem marks_ready {s : State} (h : s.resetReady) (p b : Nat) (w : Why) : (s.marks log p b w).1.resetReady := by
  have hst : (s.marked p b).resetReady := resetReady_of_activity (marked_activity s p b) (marked_nvm s p b) h
  have hcnt : (s.count FLT.SHADOW.COUNT 1).resetReady := resetReady_congr rfl rfl h
  unfold State.marks
  dsimp only
  split_ifs
  · exact h
  · exact hlog hcnt _
  · exact hlog h _
  all_goals exact hlog hst _

theorem occurs_ready {s : State} (h : s.resetReady) (b : Nat) (w : Why) : (s.occurs log 0x06 b w).resetReady := by
  unfold State.occurs
  dsimp only
  split
  · exact marks_ready hlog h 0x06 b w
  · exact hardReact_ready (softReact_ready (marks_ready hlog h 0x06 b w) _ _ _ _ _) _

end

/-- A record, with the reactions of EVT_DROP where it displaces one, leaves the part as ready for a chip reset. -/
theorem log_ready {s : State} (h : s.resetReady) (r : Rec) : (s.log r).resetReady := by
  unfold State.log
  dsimp only
  split_ifs
  · exact occurs_ready (fun ht q => note_ready ht q) (note_ready h r) _ _
  · exact note_ready h r

/-- An armed, unmasked source with chip reset among its reactions begins the fault reset that names its page. -/
theorem fire_resets {s : State} {p b : Nat} (w : Why) (ha : s.armed p b) (hm : s.masked p b = false) (hr : tbit (s.srcReact p b) 2 = true)
    (h : s.resetReady) : ∃ t : State, s.fire p b w = t.faultReset p := by
  have hlog := log_ready (resetReady_of_activity (marked_activity s p b) (marked_nvm s p b) h)
    ((s.marked p b).srcRec p b (s.srcReact p b) false w)
  have hhard (t : State) (ht : t.resetReady) : ∃ u : State, t.hardReact p [(b, s.srcReact p b)] = u.faultReset p :=
    ⟨_, by rw [State.hardReact, if_pos (by simpa using hr), reactChip_ready ht]⟩
  obtain ⟨u, hu⟩ := hhard _ (softReact_ready hlog p b (s.srcReact p b) (s.srcCls p b) w.forced)
  have hreset : (u.faultReset p).inReset = true := chipReset_inReset _ _
  refine ⟨u, ?_⟩
  rw [State.fire, marks_armed _ _ ha]
  simp only [hm, Bool.false_eq_true, if_false]
  rw [State.reactions, hu, State.termPermit, if_neg (by simp [hreset])]

/-! The detectors -/

theorem hsBit_lt (k : HsKind) : hsBit k < 32 := by cases k <;> decide

theorem execHandshakeDetectorTrip_beyond {s : State} {k : HsKind} (h : k = .temp → s.hsBeyond 240 = true) :
    execHandshakeDetectorTrip k s = ok (s.condBegin 0x03 (hsBit k) {}) := by
  unfold execHandshakeDetectorTrip
  rw [if_neg fun ⟨ht, hb⟩ => by simp [h ht] at hb]

/-- The condition of a source holds from now on. -/
def State.condHeld (s : State) (p b : Nat) : State := { s with flt := { s.flt with conds := NSet.add s.flt.conds (srcKey p b) } }

theorem condBegin_new {s : State} {p b : Nat} (w : Why) (h : s.holds p b = false) : s.condBegin p b w = (s.condHeld p b).fire p b w := by
  simp only [State.condBegin, h, Bool.false_eq_true, if_false]
  rfl

theorem wordBad_active {s : State} {i : Nat} (h : i ∈ s.active) : s.wordBad i =
    (((s.count (SLP.SLOT_CNT.INVALID i) 1).fire (0x40 + i / 8) SLP.src.INVALID { slot := some i }).obsReset i).fire 0x03 CLK.src.HS_PARITY {} := by
  simp [State.wordBad, h]

theorem wordBad_inactive {s : State} {i : Nat} (h : i ∉ s.active) : s.wordBad i = s.fire 0x03 CLK.src.HS_PARITY {} := by
  simp [State.wordBad, h]

/-- Settles O13: a detector's source sets its bit where it resets nothing, and a parity error's source resets the chip. -/
theorem channelDetectors : Obligations.ChannelDetectors := by
  refine ⟨fun s k hbeyond hholds harmed hr hr' hcls hroom => ?_, fun s i hi => ?_, fun s i hi harmed hmask hreact hpf hgroup hwait => ?_⟩
  · have hmild : (s.condHeld 0x03 (hsBit k)).mild 0x03 (hsBit k) := ⟨hr, hr', hcls, harmed.2.2.2⟩
    refine answersSettled_of (execHandshakeDetectorTrip_beyond hbeyond) (condBegin_new {} hholds) ?_
    rw [fire_mild_get {} (s := s.condHeld 0x03 (hsBit k)) harmed hmild hroom ⟨by simp, by simp⟩, State.marked, updFirst_get _ _ (by simp)]
    exact status_sets _ _ (hsBit_lt k)
  · refine answersVia_of rfl (congrArg State.settle (wordBad_active hi)) ⟨?_, ?_⟩
    · rw [State.count, State.get_set_same]; rfl
    · exact Keeps.set (Keeps.refl s _) _ (by simp)
  · obtain ⟨t, ht⟩ := fire_resets {} harmed hmask hreact ⟨hpf, hgroup, hwait⟩
    obtain ⟨hfault, hactive, hcause, hpage⟩ := faultReset_shows t 0x03
    exact answersSettled_of rfl ((wordBad_inactive hi).trans ht) ⟨hfault, hcause, hpage, hactive⟩

end Sys2Proof.Machine
end

section
/-! SUPPORT. What the restart of a block leaves as it is (R447): the headers of the pages and page CLK, the reset shadows, and whether a
calibration set is in force. -/
namespace Sys2Proof.Machine
open Sys2Proof

/-- A field in the storage of a block: past the headers, in the pages apart from CLK and in the tables above the pages. -/
def Fld.inBlock (f : Fld) : Prop := 32 * 0x80000 ≤ f.key ∨ (0x40 ≤ f.key / 32 % 0x1000 ∧ f.key / 32 / 0x1000 ≠ 3)

/-- What a restart keeps. -/
def State.sheltered (s : State) (g : Fld) : Nat × Tab (Option Nat) × Bool := (s.get g, s.flt.shadows, s.nvm.calBad)

/-- A register of a slot is in its block. -/
theorem inBlock_slot {f : Fld} (i o b : Nat) (hf : f.key = 32 * (slotBase i + o) + b) (ho : o < 0x40) (hb : b < 32) : f.inBlock := by
  unfold slotBase at hf
  unfold Fld.inBlock
  omega

theorem sheltered_congr {s t : State} (g : Fld) (hreg : t.reg = s.reg) (hflt : t.flt.shadows = s.flt.shadows)
    (hnvm : t.nvm.calBad = s.nvm.calBad) : t.sheltered g = s.sheltered g := by
  simp only [State.sheltered, State.get, hreg, hflt, hnvm]

theorem modSlot_sheltered (s : State) (i : Nat) (f : Slot → Slot) (g : Fld) : (s.modSlot i f).sheltered g = s.sheltered g :=
  sheltered_congr g rfl rfl rfl

theorem ite_sheltered {c : Prop} [Decidable c] {s t : State} {g : Fld} {x : Nat × Tab (Option Nat) × Bool} (hs : c → s.sheltered g = x)
    (ht : ¬c → t.sheltered g = x) : (if c then s else t).sheltered g = x :=
  iteInduction (motive := fun u : State => u.sheltered g = x) hs ht

section
variable {g : Fld} (hg : ¬g.inBlock)
include hg

theorem set_sheltered (s : State) {f : Fld} (v : Nat) (hf : f.inBlock) : (s.set f v).sheltered g = s.sheltered g := by
  have h : (s.set f v).get g = s.get g := State.get_set_ne s v fun e => hg (by unfold Fld.inBlock at hf ⊢; rwa [e])
  exact congrArg (fun x => (x, s.flt.shadows, s.nvm.calBad)) h

theorem clearFlds_sheltered (s : State) (fs : List Fld) (hf : ∀ f ∈ fs, f.inBlock) : (s.clearFlds fs).sheltered g = s.sheltered g :=
  foldl_keeps_mem (fun t : State => t.sheltered g) _ fs (fun t f h => set_sheltered hg t _ (hf f h)) s


theorem restartObs_sheltered (s : State) (i : Nat) : (s.restartObs i).sheltered g = s.sheltered g := by
  have hclear := clearFlds_sheltered hg s [OBS.SUM0.WORST_LG i, OBS.SUM0.WORST_BIN i, OBS.SUM1.IPHYS_MIN i, OBS.SUM1.HIST i,
    OBS.SUM1.VALID_BINS i] fun f hf => .inl (by
      simp only [List.mem_cons, List.not_mem_nil, or_false] at hf
      rcases hf with rfl | rfl | rfl | rfl | rfl <;> (simp; omega))
  exact Eq.trans (sheltered_congr g (by rfl) (by rfl) (by rfl)) hclear

theorem restartSlot_sheltered (s : State) (i : Nat) : (s.restartSlot i).sheltered g = s.sheltered g := by
  have hmod (t : State) (f : Slot → Slot) : (t.modSlot i f).sheltered g = t.sheltered g := modSlot_sheltered t i f g
  have hcut (t : State) : (t.cut i).sheltered g = t.sheltered g := sheltered_congr g rfl rfl rfl
  have hobs (f f' : Slot → Slot) : ((((s.modSlot i f).cut i).modSlot i f').restartObs i).sheltered g = s.sheltered g := by
    rw [restartObs_sheltered hg, hmod, hcut, hmod]
  unfold State.restartSlot
  dsimp only
  rw [set_sheltered hg _ _ (inBlock_slot i 4 11 rfl (by decide) (by decide))]
  split_ifs
  · rw [set_sheltered hg _ _ (inBlock_slot i 4 24 rfl (by decide) (by decide)), hobs]
  · rw [hobs]

theorem restartCan_sheltered (s : State) : s.restartCan.sheltered g = s.sheltered g := by
  have hpend (t : State) (i : Nat) : (t.set (CAN.SLOT_INFO.WARM_PEND i) 0).sheltered g = t.sheltered g :=
    set_sheltered hg t 0 (by simp [Fld.inBlock]; omega)
  refine Eq.trans (sheltered_congr g (by rfl) (by rfl) (by rfl)) (foldl_keeps (fun t : State => t.sheltered g) (fun t i =>
    { t.set (CAN.SLOT_INFO.WARM_PEND i) 0 with canS := Tab.upd {} t.canS i fun c => { c with adaptAt := none, warmAt := none, lastAdapt := none, divWin := 0 } })
    (fun t i => (sheltered_congr g rfl rfl rfl).trans (hpend t i)) s.active s)

theorem restartClover_sheltered (s : State) : s.restartClover.sheltered g = s.sheltered g := by
  have hclear := clearFlds_sheltered hg s (CLV.PERIOD.COUNT :: (List.range 544).map CLV.LOOP_STAT.OBSV) fun f hf => by
    rw [List.mem_cons, List.mem_map] at hf
    obtain rfl | ⟨l, -, rfl⟩ := hf
    · simp [Fld.inBlock]
    · simp [Fld.inBlock]; omega
  unfold State.restartClover
  dsimp only
  refine Eq.trans ?_ hclear
  generalize s.clearFlds _ = t
  exact sheltered_congr g rfl rfl rfl

theorem restartCap_sheltered (s : State) : s.restartCap.sheltered g = s.sheltered g := by
  have hclear := clearFlds_sheltered hg s [CAP.INJ_CTL.ACTIVE, CAP.LCAP_CTL.ARMED, CAP.LCAP_CTL.DONE, CAP.IQ_CTL.ARMED, CAP.IQ_CTL.DONE]
    (by simp [Fld.inBlock])
  exact Eq.trans (sheltered_congr g (by rfl) (by rfl) (by rfl)) hclear

theorem restartFec_sheltered (s : State) {k : Nat} (hk : k < 4) : (s.restartFec k).sheltered g = s.sheltered g := by
  have hclear := clearFlds_sheltered hg s [FEC.SEQ_CTL.RUNNING k, FEC.RFFE_RD.BUSY k] (by simp [Fld.inBlock]; omega)
  have hlevel (t : State) (v : Nat) : (t.set (FEC.LEVEL.NOW k) v).sheltered g = t.sheltered g :=
    set_sheltered hg t v (by simp [Fld.inBlock]; omega)
  exact Eq.trans (sheltered_congr g (by rfl) (by rfl) (by rfl)) ((hlevel _ (s.get (FEC.IDLE.LEVEL k))).trans hclear)

theorem restartTdd_sheltered (s : State) : s.restartTdd.sheltered g = s.sheltered g := by
  have hclear (t : State) (p : Nat) : (t.clearFlds [TDD.SYNC_STAT.STATE p, TDD.SYNC_STAT.MISSES p]).sheltered g = t.sheltered g :=
    clearFlds_sheltered hg t _ (by simp [Fld.inBlock]; omega)
  change (List.foldl _ s _).sheltered g = _
  exact foldl_keeps (fun t : State => t.sheltered g) _ hclear _ _

theorem restartPwt_sheltered (s : State) : s.restartPwt.sheltered g = s.sheltered g := by
  have hclear := clearFlds_sheltered hg s [PWT.TXON.ON, PWT.TXPEND.PEND] (by simp [Fld.inBlock])
  exact Eq.trans (sheltered_congr g (by rfl) (by rfl) (by rfl)) hclear

theorem restartLnk_sheltered (s : State) : s.restartLnk.sheltered g = s.sheltered g := by
  have hranges {f : Nat → Fld} (hf : ∀ j < 16, (f j).inBlock) : ∀ x ∈ (List.range 16).map f, x.inBlock := fun x hx => by
    obtain ⟨j, hj, rfl⟩ := List.mem_map.mp hx
    exact hf j (List.mem_range.mp hj)
  have hup (t : State) : (t.clearFlds ((List.range 16).map LNK.LANE_STAT.UP)).sheltered g = t.sheltered g :=
    clearFlds_sheltered hg t _ (hranges fun j hj => by simp [Fld.inBlock]; omega)
  have hlocal (t : State) (n : Nat) (hn : n ≤ 16) :
      ((List.range n).foldl (fun s l => s.put (LNK.LANE_STAT.LFAULT l) (s.flag (LNK.LANE_CTL.EN l))) t).sheltered g = t.sheltered g :=
    foldl_keeps_mem (fun t : State => t.sheltered g) _ _ (fun t l hl => set_sheltered hg t _ (by
      have hl := List.mem_range.mp hl
      simp [Fld.inBlock]; omega)) t
  have hqueues (t : State) : (t.clearFlds ([LNK.RXQ_STAT.VALID, LNK.RXQ_STAT.LEVEL, LNK.TXQ_CTL.BUSY] ++
      (List.range 16).map CAN.EXT_REF.LIVE)).sheltered g = t.sheltered g := by
    refine clearFlds_sheltered hg t _ fun f hf => ?_
    rcases List.mem_append.mp hf with hf | hf
    · simp only [List.mem_cons, List.not_mem_nil, or_false] at hf
      rcases hf with rfl | rfl | rfl <;> simp [Fld.inBlock]
    · exact hranges (fun j hj => by simp [Fld.inBlock]; omega) f hf
  unfold State.restartLnk
  dsimp only
  refine Eq.trans ?_ ((hqueues _).trans ((hlocal _ 16 (Nat.le_refl _)).trans (hup s)))
  generalize State.clearFlds _ _ = t
  exact sheltered_congr g rfl rfl rfl

omit hg in
theorem restartBias_sheltered (s : State) (h : Nat) : (s.restartBias h).sheltered g = s.sheltered g := by
  have hmod (t : State) (c : Nat) (f : BiasCh → BiasCh) : (t.modCh c f).sheltered g = t.sheltered g := sheltered_congr g rfl rfl rfl
  exact foldl_keeps (fun t : State => t.sheltered g) _ (fun t j => hmod t (32 * h + j) _) _ _

theorem mbxOver_sheltered (s : State) (r : Nat) : (s.mbxOver r).sheltered g = s.sheltered g := by
  unfold State.mbxOver
  dsimp only
  rw [set_sheltered hg _ _ (by simp [Fld.inBlock]), set_sheltered hg _ _ (by simp [Fld.inBlock]), set_sheltered hg _ _ (by simp [Fld.inBlock])]
  exact sheltered_congr g rfl rfl rfl

theorem restartNvm_sheltered (s : State) : s.restartNvm.sheltered g = s.sheltered g := by
  have hclear := clearFlds_sheltered hg s [NVM.STAT.BUSY, NVM.STAT.REGION, NVM.CAL_CTL.PEND, NVM.BPT_CTL.PEND, NVM.HDR_CTL.PEND,
    CAN.SNAP_STAT.BUSY] (by simp [Fld.inBlock])
  have hres (t : State) : (t.set CAN.SNAP_STAT.RESULT 3).sheltered g = t.sheltered g := set_sheltered hg t 3 (by simp [Fld.inBlock])
  unfold State.restartNvm
  dsimp only
  have hqueue : State.sheltered { s.clearFlds [NVM.STAT.BUSY, NVM.STAT.REGION, NVM.CAL_CTL.PEND, NVM.BPT_CTL.PEND, NVM.HDR_CTL.PEND,
      CAN.SNAP_STAT.BUSY] with nvm := { s.nvm with queue := [] } } g = s.sheltered g := Eq.trans (sheltered_congr g (by rfl) (by rfl) (by rfl)) hclear
  split_ifs
  · exact (mbxOver_sheltered hg _ _).trans ((hres _).trans hqueue)
  · exact (mbxOver_sheltered hg _ _).trans hqueue
  · exact (hres _).trans hqueue
  · exact hqueue

theorem restartSec_sheltered (s : State) : s.restartSec.sheltered g = s.sheltered g := by
  have hdrop (t : State) : t.dropLoad.sheltered g = t.sheltered g := by unfold State.dropLoad; split_ifs <;> [exact sheltered_congr g rfl rfl rfl; rfl]
  have hstat (t : State) (v w : Nat) : ((t.set NVM.STAT.BUSY v).set NVM.STAT.REGION w).sheltered g = t.sheltered g :=
    (set_sheltered hg _ _ (by simp [Fld.inBlock])).trans (set_sheltered hg _ _ (by simp [Fld.inBlock]))
  unfold State.restartSec
  dsimp only
  split_ifs
  · exact (mbxOver_sheltered hg _ _).trans ((hdrop _).trans (hstat _ _ _))
  · exact hstat _ _ _

theorem restartCores_sheltered (s : State) : s.restartCores.sheltered g = s.sheltered g := by
  have hrun : ((s.set APC.CORE_STAT.RUN 15).set APC.CORE_STAT.HALTED 0).sheltered g = s.sheltered g :=
    (set_sheltered hg _ _ (by simp [Fld.inBlock])).trans (set_sheltered hg _ _ (by simp [Fld.inBlock]))
  unfold State.restartCores
  dsimp only
  split_ifs
  · exact hrun
  · rfl

theorem restartPci_sheltered (s : State) : s.restartPci.sheltered g = s.sheltered g := by
  refine (clearFlds_sheltered hg _ _ (by simp [Fld.inBlock])).trans ?_
  split_ifs
  · exact set_sheltered hg s _ (by simp [Fld.inBlock])
  · rfl

theorem restartSyn_sheltered (s : State) : s.restartSyn.sheltered g = s.sheltered g := by
  refine foldl_keeps_mem (fun t : State => t.sheltered g) _ _ (fun t n hn => ?_) _
  have hn := List.mem_range.mp hn
  have hset (t : State) (f : Fld) (v : Nat) (hf : f = SYN.SYN_STAT.STEP n ∨ f = SYN.SYN_STAT.READY n ∨ f = SYN.SYN_STAT.LOCK n) :
      (t.set f v).sheltered g = t.sheltered g := by
    refine set_sheltered hg t v ?_
    rcases hf with rfl | rfl | rfl <;> (simp [Fld.inBlock]; omega)
  dsimp only
  split_ifs
  · exact Eq.trans (sheltered_congr g (by rfl) (by rfl) (by rfl)) ((hset _ (SYN.SYN_STAT.LOCK n) 0 (by simp)).trans ((hset _ (SYN.SYN_STAT.READY n) 0 (by simp)).trans
      (hset t (SYN.SYN_STAT.STEP n) 1 (by simp))))
  · rfl

theorem restartDiv_sheltered (s : State) : State.sheltered { s.clearFlds ((List.range 8).flatMap fun d => [DIV.STAT.PEND d, DIV.STAT.DIFF d])
    with divs := [] } g = s.sheltered g := by
  have hclear := clearFlds_sheltered hg s ((List.range 8).flatMap fun d => [DIV.STAT.PEND d, DIV.STAT.DIFF d]) fun f hf => by
    obtain ⟨d, hd, hf⟩ := List.mem_flatMap.mp hf
    have hd := List.mem_range.mp hd
    simp only [List.mem_cons, List.not_mem_nil, or_false] at hf
    rcases hf with rfl | rfl <;> (simp [Fld.inBlock]; omega)
  exact Eq.trans (sheltered_congr g (by rfl) (by rfl) (by rfl)) hclear

omit hg in
theorem badFrom_sheltered (s : State) (p : Nat) (g : Fld) : (s.badFrom p).sheltered g = s.sheltered g := by
  unfold State.badFrom
  exact foldl_keeps (fun t : State => t.sheltered g) _ (fun t i => modSlot_sheltered t i _ g) _ _

theorem restart_sheltered (s : State) (p : Nat) : (s.restart p).sheltered g = s.sheltered g := by
  have hbad := badFrom_sheltered s p g
  unfold State.restart
  dsimp only
  refine Eq.trans ?_ hbad
  generalize s.badFrom p = t
  refine ite_sheltered (fun _ => foldl_keeps (fun t : State => t.sheltered g) _ (fun t i => restartSlot_sheltered hg t i) _ _) fun _ => ?_
  refine ite_sheltered (fun _ => sheltered_congr g rfl rfl rfl) fun _ => ?_
  refine ite_sheltered (fun _ => sheltered_congr g rfl rfl rfl) fun _ => ?_
  refine ite_sheltered (fun _ => sheltered_congr g rfl rfl rfl) fun _ => ?_
  refine ite_sheltered (fun _ => sheltered_congr g rfl rfl rfl) fun _ => ?_
  refine ite_sheltered (fun _ => restartNvm_sheltered hg t) fun _ => ?_
  refine ite_sheltered (fun _ => restartSec_sheltered hg t) fun _ => ?_
  refine ite_sheltered (fun _ => sheltered_congr g rfl rfl rfl) fun _ => ?_
  refine ite_sheltered (fun _ => restartCores_sheltered hg t) fun _ => ?_
  refine ite_sheltered (fun _ => sheltered_congr g rfl rfl rfl) fun _ => ?_
  refine ite_sheltered (fun _ => sheltered_congr g rfl rfl rfl) fun _ => ?_
  refine ite_sheltered (fun _ => sheltered_congr g rfl rfl rfl) fun _ => ?_
  refine ite_sheltered (fun _ => restartBias_sheltered t _) fun _ => ?_
  refine ite_sheltered (fun _ => restartSyn_sheltered hg t) fun _ => ?_
  refine ite_sheltered (fun _ => restartTdd_sheltered hg t) fun _ => ?_
  refine ite_sheltered (fun _ => sheltered_congr g rfl rfl rfl) fun _ => ?_
  refine ite_sheltered (fun _ => restartCan_sheltered hg t) fun _ => ?_
  refine ite_sheltered (fun _ => foldl_keeps (fun t : State => t.sheltered g) _ (fun t i => restartObs_sheltered hg t i) _ _) fun _ => ?_
  refine ite_sheltered (fun _ => restartClover_sheltered hg t) fun _ => ?_
  refine ite_sheltered (fun _ => sheltered_congr g rfl rfl rfl) fun _ => ?_
  refine ite_sheltered (fun _ => restartCap_sheltered hg t) fun _ => ?_
  refine ite_sheltered (fun h => restartFec_sheltered hg t (by omega)) fun _ => ?_
  refine ite_sheltered (fun _ => restartDiv_sheltered hg t) fun _ => ?_
  refine ite_sheltered (fun _ => restartPwt_sheltered hg t) fun _ => ?_
  refine ite_sheltered (fun _ => restartLnk_sheltered hg t) fun _ => ?_
  refine ite_sheltered (fun _ => restartPci_sheltered hg t) fun _ => ?_
  refine ite_sheltered (fun _ => sheltered_congr g rfl rfl rfl) fun _ => ?_
  refine ite_sheltered (fun _ => sheltered_congr g rfl rfl rfl) fun _ => ?_
  rfl

end

end Sys2Proof.Machine
end

section
/-! SUPPORT. A clock that runs runs on while page registers are written again with what they hold (R63, R66, R445). -/
namespace Sys2Proof.Machine
open Sys2Proof

/-- The fields that decide on the clocks and the link: the requests, enables and resets of the pages, what stands past the headers below the
chiplets' pages, and the link's UP. -/
def Fld.clocks (g : Fld) : Prop :=
  (∃ p, g = HDR.PAGE_CTL.CLK_REQ p ∨ g = HDR.PAGE_CTL.EN p ∨ g = HDR.PAGE_STAT.RESET_ACTIVE p) ∨
    (g.key < 32 * 0x10000 ∧ 0x40 ≤ g.key / 32 % 0x1000) ∨ g = PCI.LINK_STAT.UP

theorem clocks_CLK_REQ (p : Nat) : (HDR.PAGE_CTL.CLK_REQ p).clocks := .inl ⟨p, .inl rfl⟩
theorem clocks_EN (p : Nat) : (HDR.PAGE_CTL.EN p).clocks := .inl ⟨p, .inr (.inl rfl)⟩
theorem clocks_RESET_ACTIVE (p : Nat) : (HDR.PAGE_STAT.RESET_ACTIVE p).clocks := .inl ⟨p, .inr (.inr rfl)⟩
theorem clocks_UP : PCI.LINK_STAT.UP.clocks := .inr (.inr rfl)

theorem offClocked_of_clocks {g : Fld} (h : g.clocks) : g.offClocked := by
  unfold Fld.offClocked
  rcases h with ⟨p, rfl | rfl | rfl⟩ | ⟨h, -⟩ | rfl
  · simp; omega
  · simp
  · simp; omega
  · exact .inl h
  · simp

/-- `t` has the boards, the resets, the conditions and the clocks' registers of `s`, and gates nothing that `s` does not gate. -/
structure State.wired (s t : State) : Prop where
  get : ∀ g : Fld, g.clocks → t.get g = s.get g
  board : t.board = s.board
  reset : t.inReset = s.inReset
  flt : t.flt = s.flt
  needReq : ∀ n ∈ t.needReq, n ∈ s.needReq
  gated : ∀ k, t.clusterGated k = true → s.clusterGated k = true

section
variable {s t u : State}

theorem State.wired.trans (h : s.wired t) (h' : t.wired u) : s.wired u where
  get g hg := (h'.get g hg).trans (h.get g hg)
  board := h'.board.trans h.board
  reset := h'.reset.trans h.reset
  flt := h'.flt.trans h.flt
  needReq n hn := h.needReq n (h'.needReq n hn)
  gated k hk := h.gated k (h'.gated k hk)

theorem State.wired.flag (h : s.wired t) {g : Fld} (hg : g.clocks) : t.flag g = s.flag g := by simp only [State.flag, h.get g hg]

theorem clusterGated_congr (hget : ∀ k, t.get (HDR.PAGE_CTL.EN k) = s.get (HDR.PAGE_CTL.EN k)) (hcan : t.can = s.can) (k : Nat) :
    t.clusterGated k = s.clusterGated k := by
  simp only [State.clusterGated, State.flag, hget, hcan]

theorem State.wired.srcRuns (h : s.wired t) {n : Nat} (hn : n < 48) : t.srcRuns n = s.srcRuns n := by
  have hnow : t.get (CLK.ISL_CLK.SRC_NOW n) = s.get (CLK.ISL_CLK.SRC_NOW n) := h.get _ (.inr (.inl (by simp; omega)))
  have hpll : ∀ p, pllOf n = some p → p < 7 := by
    intro p; unfold pllOf; split_ifs <;> simp <;> omega
  unfold State.srcRuns
  rw [hnow]
  dsimp only
  split_ifs
  · rfl
  · cases e : pllOf n with
    | none => rfl
    | some p =>
      have := hpll p e
      exact h.flag (.inr (.inl (by simp; omega)))
  · exact h.flag (.inr (.inl (by simp; omega)))
  · rfl

theorem State.wired.powered (h : s.wired t) (n : Nat) : t.powered n = s.powered n := by simp only [State.powered, h.board]

/-- A clock that runs runs on. -/
theorem State.wired.clkOn (h : s.wired t) {n : Nat} (hn : n < 48) (hs : s.clkOn n = true) : t.clkOn n = true := by
  have hreq : t.clkReq n = s.clkReq n := by simp only [State.clkReq, fun p => h.flag (clocks_CLK_REQ p)]
  simp only [State.clkOn, Bool.and_eq_true, Bool.not_eq_true', h.srcRuns hn, hreq, h.powered] at hs ⊢
  obtain ⟨⟨hon, hneed⟩, hgate⟩ := hs
  refine ⟨⟨hon, ?_⟩, ?_⟩
  · simp only [List.contains_eq_mem, decide_eq_false_iff_not] at hneed ⊢
    exact fun hn => hneed (h.needReq n hn)
  · by_cases hk : 19 ≤ n ∧ n ≤ 34
    · simp only [hk.1, hk.2, decide_true, Bool.true_and] at hgate ⊢
      have hg := h.gated (n - 19)
      rw [hgate] at hg
      exact Bool.eq_false_iff.mpr fun e => Bool.false_ne_true (hg e)
    · simp; omega

/-! The steps -/

/-- A field keeps its value when it is written with it. -/
theorem set_self_get (s : State) {f g : Fld} (h : g.key = f.key → g = f) (hv : s.get f < 2 ^ f.w) : (s.set f (s.get f)).get g = s.get g := by
  by_cases e : g.key = f.key
  · rw [h e, State.get_set_same, Nat.mod_eq_of_lt hv]
  · exact State.get_set_of_key_ne s _ e

theorem wired_set_self (s : State) {f : Fld} {p : Nat} (hf : f = HDR.PAGE_CTL.CLK_REQ p ∨ f = HDR.PAGE_CTL.EN p) (hv : s.get f < 2) :
    s.wired (s.set f (s.get f)) := by
  have hw : f.w = 1 := by rcases hf with rfl | rfl <;> rfl
  have hget (g : Fld) (hg : g.clocks) : (s.set f (s.get f)).get g = s.get g := by
    refine set_self_get s (fun e => ?_) (by rwa [hw])
    rcases hf with rfl | rfl
    · rcases hg with ⟨q, rfl | rfl | rfl⟩ | ⟨-, h⟩ | rfl <;> simp at e
      · rw [e]
      all_goals omega
    · rcases hg with ⟨q, rfl | rfl | rfl⟩ | ⟨-, h⟩ | rfl <;> simp at e
      · omega
      · rw [e]
      all_goals omega
  exact ⟨hget, rfl, rfl, rfl, fun _ h => h, fun k h => by rwa [clusterGated_congr (fun k => hget _ (clocks_EN k)) rfl] at h⟩

theorem wired_request (s : State) (n : Nat) : s.wired { s with needReq := NSet.rem s.needReq n } :=
  ⟨fun _ _ => rfl, rfl, rfl, rfl, fun _ h => (List.mem_filter.mp h).1, fun _ h => h⟩

theorem cnvLoad_can (s : State) (n : Nat) : (s.cnvLoad n).can = s.can := by
  unfold State.cnvLoad
  split_ifs
  · rfl
  · refine (foldl_keeps State.can _ (fun t c => ?_) _ _).trans ?_ <;> rfl

theorem syncLnk_can (s : State) : s.syncLnk.can = s.can := by
  unfold State.syncLnk
  split_ifs <;> rfl

/-- The clusters that go off now have their jobs to hand over. -/
theorem syncClusters_can (s : State) : ∃ off : List Nat, s.syncClusters.can =
    { s.can with clOff := off, handDue := off.filter fun k => s.can.handDue.contains k || !s.can.clOff.contains k } :=
  ⟨_, (foldl_keeps State.can _ (fun t k => by rfl) _ _).trans rfl⟩

/-- A cluster that is gated afterwards was gated before. -/
theorem syncClusters_gated {s : State} {k : Nat} (h : s.syncClusters.clusterGated k = true) : s.clusterGated k = true := by
  have hen : s.syncClusters.get (HDR.PAGE_CTL.EN (0x30 + k)) = s.get (HDR.PAGE_CTL.EN (0x30 + k)) :=
    syncClusters_get (offClocked_of_clocks (clocks_EN _)) s
  obtain ⟨off, hcan⟩ := syncClusters_can s
  simp only [State.clusterGated, State.flag, hen, hcan, Bool.and_eq_true, Bool.not_eq_true', List.contains_eq_mem, decide_eq_true_eq,
    decide_eq_false_iff_not, List.mem_filter, Bool.or_eq_true, not_and, not_or, not_not] at h ⊢
  obtain ⟨⟨⟨he, hoff⟩, hdue⟩, hrun⟩ := h
  obtain ⟨hhand, hcl⟩ := hdue hoff
  exact ⟨⟨⟨he, hcl⟩, hhand⟩, hrun⟩

theorem wired_syncClocks (s : State) : s.wired s.syncClocks := by
  have hget (g : Fld) (hg : g.clocks) : s.syncClocks.get g = s.get g := syncClocks_get (offClocked_of_clocks hg) s
  have hre := syncClocks_reclocked s
  have hrst : s.syncClocks.rst = s.rst := by rw [hre]
  have haon : s.syncClocks.aon = s.aon := by rw [hre]
  refine ⟨hget, by rw [hre], by simp only [State.inReset, hrst, haon], by rw [hre], fun n hn => by rwa [syncClocks_needReq] at hn, fun k hk => ?_⟩
  have hcan : (((List.range 8).foldl (fun s n => s.cnvLoad n) s).syncLnk).can = s.can :=
    (syncLnk_can _).trans (foldl_keeps State.can _ (fun t n => cnvLoad_can t n) _ s)
  have hen (k : Nat) : (((List.range 8).foldl (fun s n => s.cnvLoad n) s).syncLnk).get (HDR.PAGE_CTL.EN k) = s.get (HDR.PAGE_CTL.EN k) :=
    (syncLnk_get _ _).trans (foldl_keeps_mem (fun t : State => t.get (HDR.PAGE_CTL.EN k)) _ _
      (fun t n hn => cnvLoad_get (offClocked_of_clocks (clocks_EN k)) t (List.mem_range.mp hn)) s)
  rw [← clusterGated_congr hen hcan]
  exact syncClusters_gated hk

/-! Writes of PAGE_CTL -/

/-- Where the link is up, is held in reset or has told its failure, nothing follows it. -/
def State.linkTold (s : State) : Prop :=
  s.flag PCI.LINK_STAT.UP = true ∨ s.board.perstN = false ∨ s.holds 0x2C PCI.src.LINK_DOWN = true

theorem State.wired.linkTold (h : s.wired t) (hs : s.linkTold) : t.linkTold := by
  rwa [State.linkTold, h.flag clocks_UP, h.board, State.holds, h.flt]

theorem followLink_told (h : s.linkTold) : s.followLink = s := by
  unfold State.followLink
  rcases h with h | h | h
  · simp [h]
  · simp [h]
  · simp [State.condBegin, h]

theorem wired_afterPageCtl (h : s.linkTold) (p : Nat) : s.wired (s.afterPageCtl p) := by
  have hclocks (t : State) (hst : s.wired t) : s.wired t.syncClocks.followLink := by
    have hw := hst.trans (wired_syncClocks t)
    rwa [followLink_told (hw.linkTold h)]
  unfold State.afterPageCtl
  dsimp only
  split_ifs
  · exact hclocks _ (wired_request s _)
  · exact hclocks _ ⟨fun _ _ => rfl, rfl, rfl, rfl, fun _ h => h, fun _ h => h⟩

/-- PAGE_CTL is written with what EN and CLK_REQ hold, and the clocks and the link have followed. -/
def State.pageKept (s : State) (p : Nat) : State :=
  ((s.set (HDR.PAGE_CTL.CLK_REQ p) (s.get (HDR.PAGE_CTL.CLK_REQ p))).set (HDR.PAGE_CTL.EN p) (s.get (HDR.PAGE_CTL.EN p))).afterPageCtl p

theorem wired_pageKept {p : Nat} (h : s.linkTold) (hreq : s.get (HDR.PAGE_CTL.CLK_REQ p) < 2) (hen : s.get (HDR.PAGE_CTL.EN p) < 2) :
    s.wired (s.pageKept p) := by
  have hw := wired_set_self s (p := p) (.inl rfl) hreq
  have hget := hw.get _ (clocks_EN p)
  have hw' := hw.trans (wired_set_self (s.set (HDR.PAGE_CTL.CLK_REQ p) (s.get (HDR.PAGE_CTL.CLK_REQ p))) (p := p) (.inr rfl) (by rwa [hget]))
  rw [hget] at hw'
  exact hw'.trans (wired_afterPageCtl (hw'.linkTold h) p)

/-- A write of SOFT_RESET with the other bits as they are. -/
def State.softWrite (s : State) (p : Nat) : Word := BitVec.ofNat 32 (2 + 4 * s.get (HDR.PAGE_CTL.CLK_REQ p) + s.get (HDR.PAGE_CTL.EN p))

theorem softWrite_bits {p : Nat} (hreq : s.get (HDR.PAGE_CTL.CLK_REQ p) < 2) (hen : s.get (HDR.PAGE_CTL.EN p) < 2) :
    (s.softWrite p).getLsbD 1 = true ∧ ((s.softWrite p).getLsbD 2).toNat = s.get (HDR.PAGE_CTL.CLK_REQ p) ∧
      ((s.softWrite p).getLsbD 0).toNat = s.get (HDR.PAGE_CTL.EN p) := by
  unfold State.softWrite
  generalize s.get (HDR.PAGE_CTL.CLK_REQ p) = c at hreq ⊢
  generalize s.get (HDR.PAGE_CTL.EN p) = e at hen ⊢
  interval_cases c <;> interval_cases e <;> decide

/-- The state on which a write that the fabric takes acts: the port's last write is noted, and a key sequence of FLT is broken. -/
def State.writeNoted (s : State) (m : Master) (a : Nat) : State := (s.outcome m 0).breakKey m a

theorem writeNoted_reg (s : State) (m : Master) (a : Nat) : (s.writeNoted m a).reg = s.reg := by
  unfold State.writeNoted State.breakKey; split_ifs <;> rfl

theorem guarded_take {s : State} {m : Master} {a : Nat} {v : Word} (f : State → State) (h : s.takes m a v) :
    s.guarded m a v f = f (s.writeNoted m a) := by
  obtain ⟨hc, hj⟩ := h
  unfold State.guarded
  rw [guardedBy_take f (by rw [ownDue_calm hc]; exact hj), ownDue_calm hc]
  rfl

end

end Sys2Proof.Machine
end

section
/-! SUPPORT. Block resets (R55, R350, R447). -/
namespace Sys2Proof.Machine
open Sys2Proof

section
variable {s : State} {m : Master} {a p : Nat} {v : Word}

theorem writeNoted_get (s : State) (m : Master) (a : Nat) (g : Fld) : (s.writeNoted m a).get g = s.get g := by
  simp only [State.get, writeNoted_reg]

theorem writeNoted_flag (s : State) (m : Master) (a : Nat) (g : Fld) : (s.writeNoted m a).flag g = s.flag g := by
  simp only [State.flag, writeNoted_get]

theorem writeNoted_linkTold (h : s.linkTold) : (s.writeNoted m a).linkTold := by
  have hholds : (s.writeNoted m a).holds 0x2C PCI.src.LINK_DOWN = s.holds 0x2C PCI.src.LINK_DOWN := by
    unfold State.writeNoted State.breakKey; split_ifs <;> rfl
  have hboard : (s.writeNoted m a).board = s.board := by
    unfold State.writeNoted State.breakKey; split_ifs <;> rfl
  rwa [State.linkTold, writeNoted_flag, hboard, hholds]

theorem writeNoted_clkOn (s : State) (m : Master) (a n : Nat) : (s.writeNoted m a).clkOn n = s.clkOn n := by
  unfold State.writeNoted State.breakKey; split_ifs <;> rfl

theorem writeNoted_powered (s : State) (m : Master) (a n : Nat) : (s.writeNoted m a).powered n = s.powered n := by
  unfold State.writeNoted State.breakKey; split_ifs <;> rfl

theorem writeNoted_inReset (s : State) (m : Master) (a : Nat) : (s.writeNoted m a).inReset = s.inReset := by
  unfold State.writeNoted State.breakKey; split_ifs <;> rfl

theorem inReset_of_takes (h : s.takes m a v) : s.inReset = false := by
  obtain ⟨hc, hj⟩ := h
  have hacc := ((judge_take_iff _ _ _ _ _ _).mp hj).1
  simp only [State.canAccess, Bool.and_eq_true, Bool.not_eq_true'] at hacc
  exact hacc.1.1

/-- A write of SOFT_RESET that the fabric takes: in OWN the drop counters clear; elsewhere the block resets where its island runs. -/
theorem pageCtl_soft (h : s.takes m (0x1000 * p + 8) (s.softWrite p)) (hreq : s.get (HDR.PAGE_CTL.CLK_REQ p) < 2)
    (hen : s.get (HDR.PAGE_CTL.EN p) < 2) (honly : s.clkReqOnly m (0x1000 * p + 8) = false) :
    s.pageCtl m p (s.softWrite p) =
      let t := (s.writeNoted m (0x1000 * p + 8)).pageKept p
      if p = 0x01 then (List.range 5).foldl (fun t m => (t.set (OWN.DROP_CNT.COUNT m) 0).set (OWN.DROP_CNT.LAST_PAGE m) 0) t
      else if t.clkOn (pageIsland p) && t.powered (pageIsland p) && !t.inReset then t.blockReset p else t := by
  obtain ⟨hsoft, hc, he⟩ := softWrite_bits hreq hen
  unfold State.pageCtl
  rw [guarded_take _ h]
  simp only [honly, hsoft, hc, he, Bool.not_true, Bool.or_self, Bool.false_eq_true, if_false, State.pageKept, writeNoted_get]

end

/-- RESET_ACTIVE and SOFT_RESET read 1, and the page's shadow is open, before the block restarts. -/
def State.resetBegun (s : State) (p : Nat) : State :=
  let t := (s.set (HDR.PAGE_STAT.RESET_ACTIVE p) 1).set (HDR.PAGE_CTL.SOFT_RESET p) 1
  { t with flt := { t.flt with shadows := t.flt.shadows.set none p (some 0) } }

theorem resetBegun_get (s : State) (p : Nat) (g : Fld) :
    (s.resetBegun p).get g = ((s.set (HDR.PAGE_STAT.RESET_ACTIVE p) 1).set (HDR.PAGE_CTL.SOFT_RESET p) 1).get g := rfl

theorem resetBegun_shadows (s : State) (p : Nat) : (s.resetBegun p).flt.shadows = s.flt.shadows.set none p (some 0) := rfl

theorem blockReset_begins {s : State} {p : Nat} (h : s.flag (HDR.PAGE_STAT.RESET_ACTIVE p) = false) :
    s.blockReset p = (s.resetBegun p).restart p := by
  unfold State.blockReset
  rw [h]
  rfl

/-- What a block reset that begins shows. -/
theorem blockReset_shows {s : State} (p : Fin 128) (h : s.flag (HDR.PAGE_STAT.RESET_ACTIVE p) = false) :
    (s.blockReset p).get (HDR.PAGE_STAT.RESET_ACTIVE p) = 1 ∧ (s.blockReset p).get (HDR.PAGE_CTL.SOFT_RESET p) = 1 ∧
      (s.blockReset p).shadowOpen p = true := by
  have hactive : ¬(HDR.PAGE_STAT.RESET_ACTIVE p).inBlock := by simp [Fld.inBlock]; omega
  have hsoft : ¬(HDR.PAGE_CTL.SOFT_RESET p).inBlock := by simp [Fld.inBlock]; omega
  obtain ⟨hget, hrest⟩ := Prod.mk.inj (restart_sheltered hactive (s.resetBegun p) p)
  obtain ⟨hshadows, -⟩ := Prod.mk.inj hrest
  obtain ⟨hget', -⟩ := Prod.mk.inj (restart_sheltered hsoft (s.resetBegun p) p)
  rw [blockReset_begins h, State.shadowOpen, hget, hget', hshadows, resetBegun_get, resetBegun_get, resetBegun_shadows, Tab.get_set_same]
  refine ⟨?_, ?_, rfl⟩
  · rw [State.get_set_of_key_ne _ _ (by simp; omega), State.get_set_same]; rfl
  · rw [State.get_set_same]; rfl

/-! The end of a block reset -/

theorem slot_congr {s t : State} (i : Nat) (h : t.slots = s.slots) : t.slot i = s.slot i := by simp only [State.slot, h]

theorem slot_modSlot (s : State) (i j : Nat) (f : Slot → Slot) : (s.modSlot i f).slot j = if j = i then f (s.slot i) else s.slot j :=
  Tab.get_upd _ _ _ _ _

/-- A change of a slot that leaves its reset alone leaves every slot's alone. -/
theorem inReset_modSlot (s : State) (i j : Nat) {f : Slot → Slot} (hf : ∀ x, (f x).inReset = x.inReset) :
    ((s.modSlot i f).slot j).inReset = (s.slot j).inReset := by
  rw [slot_modSlot]
  split_ifs with h
  · rw [hf, h]
  · rfl

theorem setGov_reg_slots (s : State) (g : Tab Gov) : State.reg { s with gov := g } = s.reg ∧ State.slots { s with gov := g } = s.slots := ⟨rfl, rfl⟩

theorem restartObs_slots (s : State) (i : Nat) : (s.restartObs i).slots = s.slots :=
  (setGov_reg_slots _ _).2.trans (foldl_keeps State.slots (fun t f => t.set f f.rst) (fun _ _ => rfl) _ s)

theorem restartObs_STATE (s : State) (i j : Nat) : (s.restartObs i).get (SLP.SLOT_STAT.STATE j) = s.get (SLP.SLOT_STAT.STATE j) := by
  refine (State.get_of_reg (setGov_reg_slots _ _).1 _).trans ?_
  refine foldl_keeps_mem (fun t : State => t.get (SLP.SLOT_STAT.STATE j)) _ _ (fun t f hf => State.get_set_of_key_ne t _ ?_) s
  simp only [List.mem_cons, List.not_mem_nil, or_false] at hf
  rcases hf with rfl | rfl | rfl | rfl | rfl <;> (simp [slotBase]; omega)

theorem silence_STATE (s : State) (i j : Nat) : (s.silence i).get (SLP.SLOT_STAT.STATE j) = s.get (SLP.SLOT_STAT.STATE j) :=
  (State.get_set_of_key_ne _ _ (by simp [slotBase]; omega)).trans (State.get_set_of_key_ne _ _ (by simp [slotBase]; omega))

theorem silence_sheltered {g : Fld} (hg : ¬g.inBlock) (s : State) (i : Nat) : (s.silence i).sheltered g = s.sheltered g :=
  (set_sheltered hg _ _ (inBlock_slot i 0x1C 0 rfl (by decide) (by decide))).trans
    (set_sheltered hg _ _ (inBlock_slot i 0x1C 28 rfl (by decide) (by decide)))

/-- The slot is out of reset and its histories are empty. -/
def State.slotFreed (s : State) (i : Nat) : State := (s.modSlot i fun x => { x with inReset := false }).restartObs i

theorem slotFreed_STATE (s : State) (i j : Nat) : (s.slotFreed i).get (SLP.SLOT_STAT.STATE j) = s.get (SLP.SLOT_STAT.STATE j) :=
  restartObs_STATE _ i j

theorem slotFreed_inReset (s : State) (i j : Nat) : ((s.slotFreed i).slot j).inReset = if j = i then false else (s.slot j).inReset := by
  rw [State.slotFreed, slot_congr j (restartObs_slots _ i), slot_modSlot]
  split_ifs <;> rfl

theorem slotFreed_sheltered {g : Fld} (hg : ¬g.inBlock) (s : State) (i : Nat) : (s.slotFreed i).sheltered g = s.sheltered g :=
  (restartObs_sheltered hg _ i).trans (modSlot_sheltered s i _ g)

/-- A slot whose reset ends is freed; one that carried output reads HELD, silent and due to ramp up, and one held by nothing resumes. -/
theorem restartEnd_cases (s : State) (i : Nat) : s.restartEnd i = s.slotFreed i ∨
    (∃ f : Slot → Slot, (∀ x, (f x).inReset = x.inReset) ∧ s.restartEnd i = (s.slotFreed i).modSlot i f) ∨
    ∃ f : Slot → Slot, (∀ x, (f x).inReset = x.inReset) ∧
      s.restartEnd i = ((((s.slotFreed i).cut i).modSlot i f).set (SLP.SLOT_STAT.STATE i) stHeld).silence i := by
  have hfreed : (s.modSlot i fun x => { x with inReset := false }).restartObs i = s.slotFreed i := rfl
  unfold State.restartEnd
  rw [hfreed]
  generalize s.slotFreed i = t
  dsimp only
  split
  · refine .inr (.inr ⟨_, ?_, Eq.refl _⟩)
    exact fun _ => rfl
  · split
    · refine .inr (.inl ⟨_, ?_, Eq.refl _⟩)
      exact fun _ => rfl
    · exact .inl rfl

/-- What the end of a slot's reset leaves: the headers and the shadows, and no slot in RAMP_DOWN or DRAIN that was in neither. -/
theorem restartEnd_sheltered {g : Fld} (hg : ¬g.inBlock) (s : State) (i : Nat) : (s.restartEnd i).sheltered g = s.sheltered g := by
  rcases restartEnd_cases s i with e | ⟨f, -, e⟩ | ⟨f, -, e⟩ <;> rw [e]
  · exact slotFreed_sheltered hg s i
  · exact (modSlot_sheltered _ i f g).trans (slotFreed_sheltered hg s i)
  · have hcut (t : State) : (t.cut i).sheltered g = t.sheltered g := sheltered_congr g rfl rfl rfl
    rw [silence_sheltered hg, set_sheltered hg _ _ (inBlock_slot i 4 20 rfl (by decide) (by decide)), modSlot_sheltered, hcut,
      slotFreed_sheltered hg]

theorem restartEnd_STATE (s : State) (i j : Nat) : (s.restartEnd i).get (SLP.SLOT_STAT.STATE j) = s.get (SLP.SLOT_STAT.STATE j) ∨
    (s.restartEnd i).get (SLP.SLOT_STAT.STATE j) = stHeld := by
  have hmod (t : State) (f : Slot → Slot) : (t.modSlot i f).get (SLP.SLOT_STAT.STATE j) = t.get (SLP.SLOT_STAT.STATE j) := State.get_of_reg rfl _
  have hcut (t : State) : (t.cut i).get (SLP.SLOT_STAT.STATE j) = t.get (SLP.SLOT_STAT.STATE j) := State.get_of_reg rfl _
  rcases restartEnd_cases s i with e | ⟨f, -, e⟩ | ⟨f, -, e⟩ <;> rw [e]
  · exact .inl (slotFreed_STATE s i j)
  · exact .inl ((hmod _ f).trans (slotFreed_STATE s i j))
  · rw [silence_STATE]
    by_cases h : j = i
    · rw [h, State.get_set_same]; exact .inr rfl
    · rw [State.get_set_of_key_ne _ _ (by simp [slotBase]; omega)]
      exact .inl ((hmod _ f).trans ((hcut _).trans (slotFreed_STATE s i j)))

theorem restartEnd_inReset (s : State) (i j : Nat) : ((s.restartEnd i).slot j).inReset = if j = i then false else (s.slot j).inReset := by
  rw [← slotFreed_inReset]
  rcases restartEnd_cases s i with e | ⟨f, hf, e⟩ | ⟨f, hf, e⟩ <;> rw [e]
  · exact inReset_modSlot _ i j hf
  · have hslots : (((((s.slotFreed i).cut i).modSlot i f).set (SLP.SLOT_STAT.STATE i) stHeld).silence i).slots =
        (((s.slotFreed i).cut i).modSlot i f).slots := rfl
    rw [slot_congr j hslots, inReset_modSlot _ i j hf]
    exact inReset_modSlot _ i j fun _ => rfl

/-- The end of a reset of one of the slots that it covers. -/
def State.slotEnd (off : State → Nat → State) (s : State) (i : Nat) : State :=
  let st := s.get (SLP.SLOT_STAT.STATE i)
  if (s.slot i).inReset then (if st = stRampDown ∨ st = stDrain then off (s.restartEnd i) i else s.restartEnd i) else s

/-- No slot of the list ramps down or drains. -/
def State.steady (s : State) (l : List Nat) : Prop :=
  ∀ i ∈ l, s.get (SLP.SLOT_STAT.STATE i) ≠ stRampDown ∧ s.get (SLP.SLOT_STAT.STATE i) ≠ stDrain

theorem steady_restartEnd {s : State} {l : List Nat} (h : s.steady l) (i : Nat) : (s.restartEnd i).steady l := fun j hj => by
  rcases restartEnd_STATE s i j with e | e <;> rw [e]
  · exact h j hj
  · decide

theorem slotEnd_steady {s : State} {l : List Nat} (off : State → Nat → State) (h : s.steady l) {i : Nat} (hi : i ∈ l) :
    s.slotEnd off i = if (s.slot i).inReset then s.restartEnd i else s := by
  unfold State.slotEnd
  dsimp only
  rw [if_neg (c := _ ∨ _) fun e => e.elim (h i hi).1 (h i hi).2]

/-- After the resets of a list of steady slots have ended, none of them is in reset, nor one that was not before; the headers and the
shadows stand. -/
theorem slotEnds (off : State → Nat → State) (l : List Nat) (s : State) {k : List Nat} (h : s.steady k) (hl : ∀ i ∈ l, i ∈ k) :
    (∀ g : Fld, ¬g.inBlock → (l.foldl (State.slotEnd off) s).sheltered g = s.sheltered g) ∧
      ∀ i, i ∈ l ∨ (s.slot i).inReset = false → ((l.foldl (State.slotEnd off) s).slot i).inReset = false := by
  induction l generalizing s with
  | nil => exact ⟨fun _ _ => rfl, fun i hi => by simpa using hi⟩
  | cons j l ih =>
    rw [List.foldl_cons, slotEnd_steady off h (hl j List.mem_cons_self)]
    have hl' : ∀ i ∈ l, i ∈ k := fun i hi => hl i (List.mem_cons_of_mem j hi)
    split_ifs with hj
    · obtain ⟨hkeep, hout⟩ := ih _ (steady_restartEnd h j) hl'
      refine ⟨fun g hg => (hkeep g hg).trans (restartEnd_sheltered hg s j), fun i hi => hout i ?_⟩
      rw [restartEnd_inReset]
      by_cases hij : i = j
      · exact .inr (if_pos hij)
      · rw [if_neg hij]
        exact hi.imp_left fun hm => (List.mem_cons.mp hm).resolve_left hij
    · obtain ⟨hkeep, hout⟩ := ih s h hl'
      refine ⟨hkeep, fun i hi => hout i ?_⟩
      rcases hi with hi | hi
      · rcases List.mem_cons.mp hi with rfl | hi
        · exact .inr (Bool.eq_false_iff.mpr hj)
        · exact .inl hi
      · exact .inr hi

/-- RESET_ACTIVE and SOFT_RESET read 0, and the page's shadow runs on for 10 µs. -/
def State.resetEnded (s : State) (p : Nat) : State :=
  let t := (s.set (HDR.PAGE_STAT.RESET_ACTIVE p) 0).set (HDR.PAGE_CTL.SOFT_RESET p) 0
  { t with flt := { t.flt with shadows := t.flt.shadows.set none p (some (t.now + us 10)) } }

theorem resetEnded_get (s : State) (p : Nat) (g : Fld) :
    (s.resetEnded p).get g = ((s.set (HDR.PAGE_STAT.RESET_ACTIVE p) 0).set (HDR.PAGE_CTL.SOFT_RESET p) 0).get g := rfl

theorem resetEnded_shadows (s : State) (p : Nat) : (s.resetEnded p).flt.shadows = s.flt.shadows.set none p (some (s.now + us 10)) := rfl

theorem blockEnd_ends {s : State} {p : Nat} (off : State → Nat → State) (h : s.flag (HDR.PAGE_STAT.RESET_ACTIVE p) = true) :
    s.blockEnd p off = (s.covered p).foldl (State.slotEnd off) (s.resetEnded p) := by
  unfold State.blockEnd
  rw [h]
  rfl

/-- What a block reset that ends shows, where none of its slots ramps down or drains. -/
theorem blockEnd_shows {s : State} (p : Fin 128) (off : State → Nat → State) (h : s.flag (HDR.PAGE_STAT.RESET_ACTIVE p) = true)
    (hsteady : s.steady (s.covered p)) :
    (s.blockEnd p off).get (HDR.PAGE_STAT.RESET_ACTIVE p) = 0 ∧ (s.blockEnd p off).get (HDR.PAGE_CTL.SOFT_RESET p) = 0 ∧
      Tab.get none (s.blockEnd p off).flt.shadows p = some (s.now + us 10) ∧
      ∀ i ∈ s.covered p, ((s.blockEnd p off).slot i).inReset = false := by
  have hactive : ¬(HDR.PAGE_STAT.RESET_ACTIVE p).inBlock := by simp [Fld.inBlock]; omega
  have hsoft : ¬(HDR.PAGE_CTL.SOFT_RESET p).inBlock := by simp [Fld.inBlock]; omega
  have hsteady' : (s.resetEnded p).steady (s.covered p) := fun i hi => by
    rw [resetEnded_get, State.get_set_of_key_ne _ _ (by simp [slotBase]; omega), State.get_set_of_key_ne _ _ (by simp [slotBase]; omega)]
    exact hsteady i hi
  obtain ⟨hkeep, hout⟩ := slotEnds off (s.covered p) (s.resetEnded p) hsteady' fun _ hi => hi
  obtain ⟨hget, hrest⟩ := Prod.mk.inj (hkeep _ hactive)
  obtain ⟨hshadows, -⟩ := Prod.mk.inj hrest
  obtain ⟨hget', -⟩ := Prod.mk.inj (hkeep _ hsoft)
  rw [blockEnd_ends off h, hget, hget', hshadows, resetEnded_get, resetEnded_get, resetEnded_shadows, Tab.get_set_same]
  refine ⟨?_, ?_, rfl, fun i hi => hout i (.inl hi)⟩
  · rw [State.get_set_of_key_ne _ _ (by simp; omega), State.get_set_same]; rfl
  · rw [State.get_set_same]; rfl

/-! The drop counters -/

/-- The drop counters of the masters read 0. -/
def State.dropsCleared (s : State) : State :=
  (List.range 5).foldl (fun t m => (t.set (OWN.DROP_CNT.COUNT m) 0).set (OWN.DROP_CNT.LAST_PAGE m) 0) s

theorem dropsCleared_flt (s : State) : s.dropsCleared.flt = s.flt :=
  foldl_keeps State.flt (fun t m => (t.set (OWN.DROP_CNT.COUNT m) 0).set (OWN.DROP_CNT.LAST_PAGE m) 0) (fun _ _ => rfl) _ s

theorem dropsCleared_get (s : State) {g : Fld} (hg : g.key / 32 < 0x1070 ∨ 0x1084 ≤ g.key / 32) : s.dropsCleared.get g = s.get g := by
  refine foldl_keeps_mem (fun t : State => t.get g) _ _ (fun t k hk => ?_) s
  have hk := List.mem_range.mp hk
  exact (State.get_set_of_key_ne _ _ (by simp; omega)).trans (State.get_set_of_key_ne _ _ (by simp; omega))

theorem dropsCleared_zero (s : State) {k : Nat} (hk : k < 5) :
    s.dropsCleared.get (OWN.DROP_CNT.COUNT k) = 0 ∧ s.dropsCleared.get (OWN.DROP_CNT.LAST_PAGE k) = 0 := by
  unfold State.dropsCleared
  interval_cases k <;> simp [List.range_succ]

/-- Settles O28: the write's other bits change no clock, so the reset begins where its island ran; its end frees each slot that it covers;
and in OWN it clears the drop counters alone. -/
theorem blockResets : Obligations.BlockResets := by
  refine ⟨fun s m p ht hreq hen hown honly hactive hclk hpow hlink => ?_, fun r s p hr hs hactive hsteady => ?_, fun s m ht hreq hen hlink => ?_⟩
  · have hw := wired_pageKept (s := s.writeNoted m (0x1000 * p.val + 8)) (p := p) (writeNoted_linkTold hlink) (by rwa [writeNoted_get])
      (by rwa [writeNoted_get])
    have hrun : ((s.writeNoted m (0x1000 * p.val + 8)).pageKept p).clkOn (pageIsland p) = true :=
      hw.clkOn (pageIsland_lt p.isLt) (by rwa [writeNoted_clkOn])
    have hrail : ((s.writeNoted m (0x1000 * p.val + 8)).pageKept p).powered (pageIsland p) = true :=
      (hw.powered _).trans ((writeNoted_powered _ _ _ _).trans hpow)
    have hreset : ((s.writeNoted m (0x1000 * p.val + 8)).pageKept p).inReset = false := by
      rw [hw.reset, writeNoted_inReset, inReset_of_takes ht]
    have hbegin : s.pageCtl m p (s.softWrite p) = ((s.writeNoted m (0x1000 * p.val + 8)).pageKept p).blockReset p := by
      rw [pageCtl_soft ht hreq hen honly]
      simp only [hown, if_false, hrun, hrail, hreset, Bool.not_false, Bool.and_self, if_true]
    exact answersSettled_of rfl hbegin
      (blockReset_shows p ((hw.flag (clocks_RESET_ACTIVE p)).trans ((writeNoted_flag _ _ _ _).trans hactive)))
  · subst hs
    exact answersVia_of rfl (congrArg State.settle (if_pos hr)) (blockEnd_shows p State.slotOff hactive hsteady)
  · have honly : s.clkReqOnly m (0x1000 * 1 + 8) = false := by
      simp [State.clkReqOnly, pageOf, undelegable]
    have hw := wired_pageKept (s := s.writeNoted m (0x1000 * 1 + 8)) (p := 1) (writeNoted_linkTold hlink) (by rwa [writeNoted_get])
      (by rwa [writeNoted_get])
    have hflt : (s.writeNoted m (0x1000 * 1 + 8)).flt = s.flt := by
      rw [State.writeNoted, breakKey_of_page_ne (by decide)]; rfl
    refine answers_of (u := ((s.writeNoted m (0x1000 * 1 + 8)).pageKept 1).dropsCleared) rfl (pageCtl_soft ht hreq hen honly)
      ⟨fun k hk => dropsCleared_zero _ hk, ?_, ?_, ?_, ?_⟩
    · rw [dropsCleared_get _ (.inl (by simp)), hw.get _ (clocks_RESET_ACTIVE 1), writeNoted_get]
    · rw [dropsCleared_get _ (.inl (by simp)), hw.get _ (.inr (.inl (by simp))), writeNoted_get]
    · rw [dropsCleared_get _ (.inl (by simp)), hw.get _ (.inr (.inl (by simp))), writeNoted_get]
    · rw [dropsCleared_flt, hw.flt, hflt]

end Sys2Proof.Machine
end

section
/-! SUPPORT. A firing leaves the registers of page CLK as they are or resets them, and leaves the calibration set in force (R340 to R344). -/
namespace Sys2Proof.Machine
open Sys2Proof

/-- A field of page CLK past its header. -/
def Fld.inClk (g : Fld) : Prop := 32 * 0x3040 ≤ g.key ∧ g.key < 32 * 0x4000

/-- The field has its value of before or that of a reset, and the calibration set is as valid as it was. -/
def State.stays (g : Fld) (s t : State) : Prop := (t.get g = s.get g ∨ t.get g = g.rst) ∧ t.nvm.calBad = s.nvm.calBad

theorem stays_of {s t : State} {g : Fld} (hget : t.get g = s.get g) (hnvm : t.nvm.calBad = s.nvm.calBad) : s.stays g t := ⟨.inl hget, hnvm⟩

theorem State.stays.trans {s t u : State} {g : Fld} (h : s.stays g t) (h' : t.stays g u) : s.stays g u := by
  refine ⟨?_, h'.2.trans h.2⟩
  rcases h'.1 with e | e
  · rw [e]; exact h.1
  · exact .inr e

section
variable {g : Fld} (hg : g.inClk)
include hg

theorem inClk_offRecords : g.offRecords := by obtain ⟨h, h'⟩ := hg; exact ⟨by omega, by omega⟩
theorem inClk_not_inBlock : ¬g.inBlock := by obtain ⟨h, h'⟩ := hg; unfold Fld.inBlock; omega
theorem inClk_offSlots : g.offSlots := offSlots_of_lt hg.2

theorem get_set_offClk (s : State) {f : Fld} (v : Nat) (hf : f.key < 32 * 0x3040 ∨ 32 * 0x4000 ≤ f.key) : (s.set f v).get g = s.get g :=
  State.get_set_of_key_ne s v (by obtain ⟨h, h'⟩ := hg; omega)

/-! A record and the bits -/

theorem note_stays (s : State) (r : Rec) : s.stays g (s.note r).1 :=
  stays_of (note_get (inClk_offRecords hg) s r) (congrArg Nvm.calBad (note_nvm s r))

theorem marked_stays (s : State) (p b : Nat) : s.stays g (s.marked p b) := by
  obtain ⟨h, h'⟩ := hg
  exact stays_of (marked_get s p b (by omega) (by omega)) (by simp)

/-! Reactions -/

theorem holdCores_get (s : State) : s.holdCores.get g = s.get g :=
  (State.get_of_reg (s := ((s.set APC.CORE_STAT.RUN 0).set APC.CORE_STAT.HALTED 0).set SEC.BOOT_STAT.CORES 0) rfl g).trans
    ((get_set_offClk hg _ _ (by simp)).trans ((get_set_offClk hg _ _ (by simp)).trans (get_set_offClk hg s _ (by simp))))

theorem trapAll_get (s : State) (p b : Nat) : (s.trapAll p b).get g = s.get g := by
  have hnmi : State.get { s with nmi := s.nmi + 1 } g = s.get g := State.get_of_reg rfl g
  have hnote (t : State) : (((t.set SEC.TRAP_NOTE.VALID 1).set SEC.TRAP_NOTE.PAGE p).set SEC.TRAP_NOTE.BIT b).get g = t.get g :=
    (get_set_offClk hg _ _ (by simp)).trans ((get_set_offClk hg _ _ (by simp)).trans (get_set_offClk hg t _ (by simp)))
  unfold State.trapAll State.trap
  dsimp only
  split_ifs
  · exact hnmi
  · exact (holdCores_get hg _).trans ((hnote _).trans hnmi)
  · exact (hnote _).trans hnmi

theorem latchTerminal_get (s : State) (p b : Nat) (forced : Bool) : (s.latchTerminal p b forced).get g = s.get g := by
  unfold State.latchTerminal
  split_ifs
  · rfl
  · exact (get_set_offClk hg _ _ (by simp)).trans ((get_set_offClk hg _ _ (by simp)).trans ((get_set_offClk hg _ _ (by simp)).trans
      ((get_set_offClk hg _ _ (by simp)).trans (get_set_offClk hg s _ (by simp)))))

theorem biasSafe_get (s : State) : s.biasSafe.get g = s.get g :=
  foldl_keeps (fun t : State => t.get g) _ (fun t c => enterSafe_get_below (by have := hg.2; omega) t c) _ _

theorem softReact_get (s : State) (p b r cls : Nat) (forced : Bool) : (s.softReact p b r cls forced).get g = s.get g := by
  unfold State.softReact
  dsimp only
  split_ifs <;> simp only [latchTerminal_get hg, trapAll_get hg, biasSafe_get hg, startFlush_get]

theorem faultReset_stays (s : State) (p : Nat) : s.stays g (s.faultReset p) := by
  refine ⟨.inr ?_, rfl⟩
  obtain ⟨h, h'⟩ := hg
  rw [State.faultReset, chipReset_get, if_neg]
  simp only [keptAddr, Bool.or_eq_true, beq_iff_eq]
  omega

theorem reactChip_stays (s : State) (p : Nat) (trip : Bool) : s.stays g (s.reactChip p trip) := by
  have hoff (t : State) (r : Rst) (ht : t.reg = s.reg ∧ t.nvm = s.nvm) : s.stays g { t.txOff with rst := r } :=
    stays_of ((State.get_of_reg (s := t.txOff) rfl g).trans ((txOff_get (inClk_offSlots hg) t).trans (State.get_of_reg ht.1 g)))
      (congrArg Nvm.calBad ((txOff_nvm t).trans ht.2))
  have htrip : s.stays g { s with aon := { s.aon with trip := trip } } := stays_of rfl rfl
  unfold State.reactChip
  dsimp only
  split_ifs
  · exact stays_of rfl rfl
  · exact hoff _ _ ⟨rfl, rfl⟩
  · exact htrip.trans (faultReset_stays hg _ p)

theorem blockReset_stays (s : State) (p : Nat) : s.stays g (s.blockReset p) := by
  obtain ⟨hlo, hhi⟩ := id hg
  cases h : s.flag (HDR.PAGE_STAT.RESET_ACTIVE p) with
  | true => unfold State.blockReset; rw [h]; exact stays_of rfl rfl
  | false =>
    obtain ⟨hget, hrest⟩ := Prod.mk.inj (restart_sheltered (inClk_not_inBlock hg) (s.resetBegun p) p)
    rw [blockReset_begins h]
    refine stays_of (hget.trans ?_) (Prod.mk.inj hrest).2
    rw [resetBegun_get, State.get_set_of_key_ne _ _ (by simp; omega), State.get_set_of_key_ne _ _ (by simp; omega)]

theorem reactions_stays (s : State) (p b r cls : Nat) (forced : Bool) : s.stays g (s.reactions p b r cls forced) := by
  unfold State.reactions
  have hsoft : s.stays g (s.softReact p b r cls forced) :=
    stays_of (softReact_get hg s p b r cls forced) (congrArg Nvm.calBad (softReact_nvm s p b r cls forced))
  refine hsoft.trans ?_
  unfold State.hardReact
  split_ifs
  · exact reactChip_stays hg _ p _
  · exact blockReset_stays hg _ p
  · exact stays_of rfl rfl

/-! A firing -/

section
variable {log : State → Rec → State} (hlog : ∀ (t : State) (r : Rec), t.stays g (log t r))
include hlog

theorem marks_stays (s : State) (p b : Nat) (w : Why) : s.stays g (s.marks log p b w).1 := by
  have hmark : s.stays g ((s.status p b).updFirst p) := marked_stays hg s p b
  have hcount : s.stays g (s.count FLT.SHADOW.COUNT 1) := stays_of (get_set_offClk hg s _ (by simp)) rfl
  unfold State.marks
  dsimp only
  split_ifs
  · exact stays_of rfl rfl
  · exact hcount.trans (hlog _ _)
  · exact hlog _ _
  all_goals exact hmark.trans (hlog _ _)

theorem occurs_stays (s : State) (p b : Nat) (w : Why) : s.stays g (s.occurs log p b w) := by
  unfold State.occurs
  dsimp only
  split
  · exact marks_stays hg hlog s p b w
  · exact (marks_stays hg hlog s p b w).trans (reactions_stays hg _ _ _ _ _ _)

end

theorem log_stays (s : State) (r : Rec) : s.stays g (s.log r) := by
  unfold State.log
  dsimp only
  split_ifs
  · exact (note_stays hg s r).trans (occurs_stays hg (note_stays hg) _ _ _ _)
  · exact note_stays hg s r

/-! Holds of the slots -/

theorem set_HOLD_get (s : State) (i v : Nat) : (s.set (SLP.SLOT_STAT.HOLD i) v).get g = s.get g :=
  get_set_slot (inClk_offSlots hg) s i 4 12 v rfl (by decide) (by decide)

theorem holdAt_get (s : State) (b i t : Nat) : (s.holdAt b i t).get g = s.get g := by
  have hput (u : State) : (u.putBit (SLP.SLOT_STAT.HOLD i) b true).get g = u.get g := set_HOLD_get hg u i _
  have hfade (u : State) : (u.fadeOut i t).get g = u.get g := by unfold State.fadeOut; split_ifs <;> exact State.get_of_reg rfl g
  have hcut (u : State) : (u.cut i).get g = u.get g := State.get_of_reg rfl g
  have hheld (u : State) (f : Slot → Slot) : ((u.modSlot i f).set (SLP.SLOT_STAT.STATE i) stHeld).get g = u.get g :=
    (set_STATE_get (inClk_offSlots hg) _ i _).trans (State.get_of_reg rfl g)
  unfold State.holdAt
  dsimp only
  split_ifs
  · rw [silence_get (inClk_offSlots hg), hcut, hheld, hput]
  · rw [hfade, hheld, hput]
  · rw [hcut, hput]
  · rw [hfade, hput]
  · exact hput s

theorem unhold_get (s : State) (b i : Nat) : (s.unhold b i).get g = s.get g := by
  have hput : (s.putBit (SLP.SLOT_STAT.HOLD i) b false).get g = s.get g := set_HOLD_get hg s i _
  unfold State.unhold
  dsimp only
  split_ifs
  · exact (State.get_of_reg rfl g).trans hput
  · exact hput

theorem syncGate_get (s : State) : s.syncGate.get g = s.get g := by
  have hall (on : Bool) : (s.holdAll hGate on).get g = s.get g :=
    foldl_keeps (fun t : State => t.get g) _ (fun t i => by cases on <;> [exact unhold_get hg t _ i; exact holdAt_get hg t _ i _]) _ _
  unfold State.syncGate
  dsimp only
  split_ifs
  · exact (cutRamps_get _ g).trans (hall _)
  · exact hall _

theorem gateClosed_stays (s : State) (v w : Nat) : s.stays g ((s.set GOV.PERMIT.PERMIT v).set GOV.PERMIT.CAUSE w).syncGate :=
  stays_of ((syncGate_get hg _).trans ((get_set_offClk hg _ _ (by simp)).trans (get_set_offClk hg s _ (by simp))))
    (congrArg Nvm.calBad (syncGate_nvm _))

theorem termPermit_stays (s : State) : s.stays g s.termPermit := by
  unfold State.termPermit
  split_ifs
  · exact (gateClosed_stays hg s 0 4).trans (occurs_stays hg (log_stays hg) _ _ _ _)
  · exact stays_of rfl rfl

theorem fire_stays (s : State) (p b : Nat) (w : Why) : s.stays g (s.fire p b w) := by
  unfold State.fire
  dsimp only
  split
  · exact marks_stays hg (log_stays hg) s p b w
  · exact ((marks_stays hg (log_stays hg) s p b w).trans (reactions_stays hg _ _ _ _ _ _)).trans (termPermit_stays hg _)

theorem condBegin_stays (s : State) (p b : Nat) (w : Why) : s.stays g (s.condBegin p b w) := by
  have hcond : s.stays g (s.condHeld p b) := stays_of rfl rfl
  cases h : s.holds p b with
  | true => unfold State.condBegin; rw [h]; exact stays_of rfl rfl
  | false => rw [condBegin_new w h]; exact hcond.trans (fire_stays hg _ p b w)

end

end Sys2Proof.Machine
end

section
/-! SUPPORT. REFCLK is declared lost or off-frequency, and returns (R58, R60). -/
namespace Sys2Proof.Machine
open Sys2Proof

/-! What the reactions to a lost REFCLK leave of page CLK -/

section
variable {g : Fld} (hg : g.inClk)
include hg

theorem clearKeys_get (s : State) : s.clearKeys.get g = s.get g := by
  have hkey (t : State) (j : Nat) : ((t.set (SEC.KEY_INFO.TYPE j) 0).set (SEC.KEY_ID.ID j) 0).get g = t.get g :=
    (get_set_offClk hg _ _ (by simp; omega)).trans (get_set_offClk hg _ _ (by simp; omega))
  exact (foldl_keeps (fun t : State => t.get g) _ hkey _ _).trans
    ((get_set_offClk hg _ _ (by simp)).trans ((get_set_offClk hg _ _ (by simp)).trans (State.get_of_reg rfl g)))

theorem erase_get (s : State) (forced : Bool) : (s.erase forced).get g = s.get g := by
  have hgone (t : State) (n : Nvm) (o : Otp) (f : Fld) (v : Nat) (hf : 32 * 0x4000 ≤ f.key) :
      (State.set { t.set SEC.STATE.ERASED 1 with nvm := n, otp := o } f v).get g = t.get g :=
    (get_set_offClk hg _ _ (.inr hf)).trans ((State.get_of_reg (s := t.set SEC.STATE.ERASED 1) rfl g).trans (get_set_offClk hg t _ (by simp)))
  unfold State.erase
  dsimp only
  split_ifs
  · rfl
  · exact clearKeys_get hg s
  · exact (hgone _ _ _ SEC.STATE.EPOCH _ (by simp)).trans (clearKeys_get hg s)
  · exact (hgone _ _ _ SEC.STATE.PROV_DEAD _ (by simp)).trans (clearKeys_get hg s)

theorem mbxOver_get (s : State) (r : Nat) : (s.mbxOver r).get g = s.get g :=
  (get_set_offClk hg _ _ (by simp)).trans ((get_set_offClk hg _ _ (by simp)).trans ((get_set_offClk hg _ _ (by simp)).trans (State.get_of_reg rfl g)))

theorem syncNvm_get (s : State) : s.syncNvm.get g = s.get g :=
  (get_set_offClk hg _ _ (by simp)).trans ((get_set_offClk hg _ _ (by simp)).trans ((get_set_offClk hg _ _ (by simp)).trans
    ((get_set_offClk hg _ _ (by simp)).trans ((get_set_offClk hg _ _ (by simp)).trans (get_set_offClk hg s _ (by simp))))))

theorem mbxAbort_get (s : State) : s.mbxAbort.get g = s.get g := by
  have hsync (q : List NvmReq) : (State.syncNvm { s with nvm := { s.nvm with queue := q } }).get g = s.get g :=
    (syncNvm_get hg _).trans (State.get_of_reg rfl g)
  have hdrop (t : State) : t.dropLoad.get g = t.get g := by
    unfold State.dropLoad; split_ifs <;> exact State.get_of_reg rfl g
  have hout (t : State) (x : Tansy) : (State.set { t with tansy := x } SEC.MBX_STAT.OUT 0).get g = t.get g :=
    (get_set_offClk hg _ _ (by simp)).trans (State.get_of_reg rfl g)
  unfold State.mbxAbort
  dsimp only
  split_ifs
  · exact (mbxOver_get hg _ _).trans ((hdrop _).trans ((hout _ _).trans (hsync _)))
  · exact hsync _

theorem chipDown_get (s : State) (n : Nat) : (s.chipDown n).get g = s.get g :=
  (syncClocks_get (offClocked_of_lt hg.2) _).trans ((get_set_offClk hg _ _ (by simp; omega)).trans
    ((get_set_offClk hg _ _ (by simp; omega)).trans (get_set_offClk hg s _ (by simp; omega))))

theorem holdChip_get (s : State) (n : Nat) : (s.holdChip n).get g = s.get g :=
  foldl_keeps (fun t : State => t.get g) _ (fun t i => holdAt_get hg t _ i _) _ _

theorem synDead_get (s : State) (n : Nat) : (s.synDead n).get g = s.get g := by
  have hmod (t : State) (f : Cnv → Cnv) : (t.modChip n f).get g = t.get g := State.get_of_reg rfl g
  unfold State.synDead
  rw [holdChip_get hg, hmod, chipDown_get hg, get_set_offClk hg _ _ (by simp; omega), get_set_offClk hg _ _ (by simp; omega)]

theorem divCancel_get (s : State) (f : Nat → Bool) : (s.divCancel f).get g = s.get g :=
  foldl_keeps (fun t : State => t.get g) _ (fun t d => get_set_offClk hg t 0 (by simp; omega)) _ _

end

/-! REF_OK stays 0 -/

theorem inClk_REF_OK : CLK.OSC_STAT.REF_OK.inClk := by simp [Fld.inClk]

/-- REF_OK reads 0. -/
def State.refOff (s : State) : Prop := s.get CLK.OSC_STAT.REF_OK = 0

section
variable {s t : State}

theorem refOff_of_get (h : s.refOff) (hget : t.get CLK.OSC_STAT.REF_OK = s.get CLK.OSC_STAT.REF_OK) : t.refOff := hget.trans h

theorem refOff_of_stays (h : s.refOff) (hst : s.stays CLK.OSC_STAT.REF_OK t) : t.refOff := hst.1.elim (fun e => e.trans h) fun e => e

theorem fire_refOff (h : s.refOff) (p b : Nat) (w : Why) : (s.fire p b w).refOff := refOff_of_stays h (fire_stays inClk_REF_OK s p b w)

theorem condBegin_refOff (h : s.refOff) (p b : Nat) (w : Why) : (s.condBegin p b w).refOff :=
  refOff_of_stays h (condBegin_stays inClk_REF_OK s p b w)

theorem settle_refOff (h : s.refOff) : s.settle.refOff := by
  refine settle_induction (fun t j _ b f ht => ?_) h
  rcases follow_cases t j b f with e | e | ⟨i, -, e⟩ <;> rw [e]
  · exact ht
  · exact ht
  · exact condBegin_refOff ht _ _ _

theorem updPermit_refOff (h : s.refOff) : s.updPermit.refOff := by
  have hgate (u : State) (v : Nat) (hu : u.refOff) : (u.set GOV.PERMIT.PERMIT v).refOff :=
    refOff_of_get hu (get_set_offClk inClk_REF_OK u v (by simp))
  have hcause (u : State) (v : Nat) (hu : u.refOff) : (u.set GOV.PERMIT.CAUSE v).refOff :=
    refOff_of_get hu (get_set_offClk inClk_REF_OK u v (by simp))
  have hsync (u : State) (hu : u.refOff) : u.syncGate.refOff := refOff_of_get hu (syncGate_get inClk_REF_OK u)
  unfold State.updPermit
  split
  · exact fire_refOff (hsync _ (hcause _ _ (hgate s _ h))) _ _ _
  · exact fire_refOff (hsync _ (hgate s _ h)) _ _ _
  · exact h

theorem alarm_refOff (h : s.refOff) (b lvl : Nat) (forced : Bool) : (s.alarm b lvl forced).refOff := by
  have hset (u : State) (f : Fld) (v : Nat) (hf : 32 * 0x4000 ≤ f.key) (hu : u.refOff) : (u.set f v).refOff :=
    refOff_of_get hu (get_set_offClk inClk_REF_OK u v (.inr hf))
  have habort (u : State) (hu : u.refOff) : (u.holdCores.mbxAbort.updPermit).refOff :=
    updPermit_refOff (refOff_of_get (refOff_of_get hu (holdCores_get inClk_REF_OK u)) (mbxAbort_get inClk_REF_OK _))
  have hlock : ((s.putBit SEC.ALARM_STAT.SRC b true).set SEC.STATE.LOCK 1).refOff := hset _ _ _ (by simp) (hset s _ _ (by simp) h)
  have herase (u : State) (hu : u.refOff) : (u.erase forced).refOff := refOff_of_get hu (erase_get inClk_REF_OK u forced)
  unfold State.alarm
  dsimp only
  split_ifs
  · exact hset s _ _ (by simp) h
  · exact fire_refOff (habort _ (herase _ hlock)) _ _ _
  · exact fire_refOff (habort _ hlock) _ _ _
  · exact habort _ (herase _ hlock)
  · exact habort _ hlock

theorem tamperBegin_refOff (h : s.refOff) (b : Nat) : (s.tamperBegin b).refOff := by
  have htamper (u : State) (hu : u.refOff) : (u.tamper b false).refOff := by
    unfold State.tamper
    dsimp only
    split_ifs
    · exact alarm_refOff (fire_refOff hu _ _ _) _ _ _
    · exact fire_refOff hu _ _ _
  unfold State.tamperBegin
  split_ifs
  · exact h
  · exact htamper _ h

theorem unlock_refOff (h : s.refOff) (p : Nat) : (s.unlock p).refOff := by
  cases hl : s.flag (CLK.PLL_CTL.LOCK p) with
  | false => unfold State.unlock; rw [hl]; exact h
  | true =>
    rw [unlock_locked hl]
    refine fire_refOff (refOff_of_get (refOff_of_get h ?_) (syncClocks_get (offClocked_of_lt (by simp)) _)) _ _ _
    rw [unlocked_get s p (offSlots_of_lt (by simp)), dropIslands_get (fun n => by simp; omega), State.get_set_of_key_ne _ _ (by simp; omega),
      State.get_set_of_key_ne _ _ (by simp; omega)]

theorem synFail_refOff (h : s.refOff) (n : Nat) : (s.synFail n).refOff :=
  fire_refOff (refOff_of_get h (synDead_get inClk_REF_OK s n)) _ _ _

/-- While REF_OK is 0 no retry runs: a chiplet whose lock falls fails. -/
theorem synUnlock_refOff (h : s.refOff) (n : Nat) : (s.synUnlock n).refOff := by
  have hdown (f : Nat → Bool) : ((((s.chipDown n).set (SYN.SYN_STAT.UNLOCK_SEEN n) 1).holdChip n).divCancel f).refOff :=
    refOff_of_get h ((divCancel_get inClk_REF_OK _ f).trans ((holdChip_get inClk_REF_OK _ n).trans
      ((get_set_offClk inClk_REF_OK _ _ (by simp; omega)).trans (chipDown_get inClk_REF_OK s n))))
  have hflag (f : Nat → Bool) : ((((s.chipDown n).set (SYN.SYN_STAT.UNLOCK_SEEN n) 1).holdChip n).divCancel f).flag CLK.OSC_STAT.REF_OK = false := by
    have := hdown f
    simp only [State.refOff] at this
    simp [State.flag, this]
  unfold State.synUnlock
  dsimp only
  split_ifs with hst hretry hok
  · exact h
  · exact synFail_refOff h n
  · rw [hflag] at hok; cases hok
  · exact fire_refOff (fire_refOff (refOff_of_get (hdown _) (synDead_get inClk_REF_OK _ n)) _ _ _) _ _ _

theorem refDeclare_refOff (s : State) (lost : Bool) (dev : Nat) : (s.refDeclare lost dev).refOff := by
  have hset (u : State) : (u.set CLK.OSC_STAT.REF_OK 0).refOff := State.get_set_same _ _ _
  have hoff (u : State) (hu : u.refOff) : u.txOff.refOff := refOff_of_get hu (txOff_get (offSlots_of_lt (by simp)) u)
  have hdrop (u : State) (hu : u.refOff) : ((List.range 48).foldl (fun s n => s.dropIsland n) u).syncClocks.refOff :=
    refOff_of_get hu ((syncClocks_get (offClocked_of_lt (by simp)) _).trans (dropIslands_get (fun n => by simp; omega) _ u))
  unfold State.refDeclare
  refine List.foldlRecOn _ _ (motive := State.refOff) ?_ fun u hu n _ => ?_
  · refine List.foldlRecOn _ _ (motive := State.refOff) ?_ fun u hu p _ => unlock_refOff hu p
    exact condBegin_refOff (hdrop _ (updPermit_refOff (tamperBegin_refOff (hoff _ (hset _)) _))) _ _ _
  · split_ifs
    · exact hu
    · exact synFail_refOff hu n
    · exact synUnlock_refOff hu n

end

/-! The monitor -/

/-- The board's REFCLK as a command says it is. -/
def State.refSeen (s : State) (on : Bool) (dev : Nat) : State := { s with board := { s.board with refclk := on, refDev := dev } }

theorem refFault_lost {s : State} (dev : Nat) (hreset : s.inReset = false) :
    s.refFault true dev = (s.refSeen false s.board.refDev).refDeclare true 0 := by
  have hr : (s.refSeen false s.board.refDev).inReset = false := hreset
  have hcases : s.refFault true dev =
      if (s.refSeen false s.board.refDev).inReset then s.refSeen false s.board.refDev else (s.refSeen false s.board.refDev).refDeclare true 0 := rfl
  rw [hcases, hr]
  rfl

/-- A deviation of a REFCLK that has edges. -/
theorem refFault_off {s : State} {dev : Nat} (hreset : s.inReset = false) (hclk : s.board.refclk = true) :
    s.refFault false dev = if !s.flag CLK.OSC_STAT.TRIMMED || decide (devSize dev ≤ 450) then (s.refSeen true dev).set CLK.OSC_STAT.DEV dev
      else (s.refSeen true dev).refDeclare false dev := by
  have hr : (s.refSeen true dev).inReset = false := hreset
  have hcases : s.refFault false dev =
      if (s.refSeen s.board.refclk dev).inReset then s.refSeen s.board.refclk dev
      else if !s.board.refclk then s.refSeen s.board.refclk dev
      else if !s.flag CLK.OSC_STAT.TRIMMED || decide (devSize dev ≤ 450) then (s.refSeen s.board.refclk dev).set CLK.OSC_STAT.DEV dev
      else (s.refSeen s.board.refclk dev).refDeclare false dev := rfl
  rw [hcases, hclk, hr]
  rfl

theorem refFault_declares {s : State} {lost : Bool} {dev : Nat} (hreset : s.inReset = false)
    (h : lost = true ∨ (s.flag CLK.OSC_STAT.TRIMMED = true ∧ s.board.refclk = true ∧ 450 < devSize dev)) : (s.refFault lost dev).refOff := by
  cases lost with
  | true => rw [refFault_lost dev hreset]; exact refDeclare_refOff _ true 0
  | false =>
    obtain ⟨htrim, hclk, hdev⟩ := h.resolve_left Bool.false_ne_true
    rw [refFault_off hreset hclk, if_neg (by simp [htrim, hdev])]
    exact refDeclare_refOff _ false dev

theorem refFault_shows {s : State} {dev : Nat} (hreset : s.inReset = false) (hclk : s.board.refclk = true) (hdev : devSize dev ≤ 450) :
    s.refFault false dev = (s.refSeen true dev).set CLK.OSC_STAT.DEV dev := by
  rw [refFault_off hreset hclk, if_pos (by simp [hdev])]

/-- Every enabled PLL of a list reads locked. -/
theorem locks_get (l : List Nat) (s : State) (p : Nat) (h : p ∈ l ∨ s.get (CLK.PLL_CTL.LOCK p) = 1) :
    (l.foldl (fun s p => s.set (CLK.PLL_CTL.LOCK p) 1) s).get (CLK.PLL_CTL.LOCK p) = 1 := by
  induction l generalizing s with
  | nil => simpa using h
  | cons k l ih =>
    refine ih _ ?_
    by_cases e : p = k
    · subst e
      exact .inr (State.get_set_same _ _ _)
    · rw [State.get_set_of_key_ne _ _ (by simp; omega)]
      exact h.imp_left fun h => (List.mem_cons.mp h).resolve_left e

theorem locks_keep {g : Fld} (hg : ∀ p, ¬g.key = (CLK.PLL_CTL.LOCK p).key) (l : List Nat) (s : State) :
    (l.foldl (fun s p => s.set (CLK.PLL_CTL.LOCK p) 1) s).get g = s.get g :=
  foldl_keeps (fun t : State => t.get g) _ (fun t p => State.get_set_of_key_ne t 1 (hg p)) l s

/-- REF_OK reads 1 with the deviation measured, and each enabled PLL is locked. -/
def State.refLocked (s : State) (dev : Nat) : State :=
  let t := ((s.refSeen true dev).set CLK.OSC_STAT.DEV dev).set CLK.OSC_STAT.REF_OK 1
  ((List.range 7).filter fun p => t.flag (CLK.PLL_CTL.EN p)).foldl (fun s p => s.set (CLK.PLL_CTL.LOCK p) 1) t

/-- REFCLK is back, and the conditions of its loss have ended. -/
def State.refBack (s : State) (dev : Nat) : State := ((s.refLocked dev).condEnd 0x03 CLK.src.REFCLK_FAULT).condEnd 0x08 SEC.src.CLOCK

theorem refBack_get (s : State) (dev : Nat) (g : Fld) : (s.refBack dev).get g = (s.refLocked dev).get g := State.get_of_reg rfl g

theorem refReturn_back {s : State} {dev : Nat} (hreset : s.inReset = false)
    (h : s.flag CLK.OSC_STAT.TRIMMED = false ∨ devSize dev < 550) : s.refReturn dev = (s.refBack dev).updPermit.syncClocks := by
  have hr : (s.refSeen true dev).inReset = false := hreset
  have hnot : ¬(s.flag CLK.OSC_STAT.TRIMMED && decide (550 ≤ devSize dev)) = true := by
    simp only [Bool.and_eq_true, decide_eq_true_eq]
    rintro ⟨ht, hd⟩
    rcases h with h | h
    · rw [h] at ht; cases ht
    · omega
  have hcases : s.refReturn dev =
      if (s.refSeen true dev).inReset then s.refSeen true dev
      else if s.flag CLK.OSC_STAT.TRIMMED && decide (550 ≤ devSize dev) then (s.refSeen true dev).refDeclare false dev
      else (s.refBack dev).updPermit.syncClocks := rfl
  rw [hcases, hr, if_neg Bool.false_ne_true, if_neg hnot]

theorem condEnd_holds (s : State) (p b q c : Nat) : (s.condEnd p b).holds q c = (s.holds q c && srcKey q c != srcKey p b) := by
  simp only [State.holds, State.condEnd, NSet.rem, List.contains_eq_mem, List.mem_filter, Bool.decide_and, Bool.decide_eq_true]

theorem refBack_shows (s : State) {dev : Nat} (hdev : dev < 2 ^ 16) :
    (s.refBack dev).get CLK.OSC_STAT.REF_OK = 1 ∧ (s.refBack dev).get CLK.OSC_STAT.DEV = dev ∧
      (s.refBack dev).holds 0x03 CLK.src.REFCLK_FAULT = false ∧
      (∀ p < 7, s.flag (CLK.PLL_CTL.EN p) = true → (s.refBack dev).get (CLK.PLL_CTL.LOCK p) = 1) ∧
      ∀ n < 48, (s.refBack dev).get (CLK.ISL_CLK.SRC_NOW n) = s.get (CLK.ISL_CLK.SRC_NOW n) := by
  have hset (g : Fld) (h : ¬g.key = CLK.OSC_STAT.DEV.key) (h' : ¬g.key = CLK.OSC_STAT.REF_OK.key) :
      (((s.refSeen true dev).set CLK.OSC_STAT.DEV dev).set CLK.OSC_STAT.REF_OK 1).get g = s.get g :=
    (State.get_set_of_key_ne _ _ h').trans ((State.get_set_of_key_ne _ _ h).trans (State.get_of_reg rfl g))
  have hkeep {g : Fld} (hg : ∀ p, ¬g.key = (CLK.PLL_CTL.LOCK p).key) : (s.refBack dev).get g =
      (((s.refSeen true dev).set CLK.OSC_STAT.DEV dev).set CLK.OSC_STAT.REF_OK 1).get g := (refBack_get s dev g).trans (locks_keep hg _ _)
  refine ⟨?_, ?_, ?_, fun p hp hen => ?_, fun n _ => ?_⟩
  · rw [hkeep fun p => by simp; omega, State.get_set_same]; rfl
  · rw [hkeep fun p => by simp; omega, State.get_set_of_key_ne _ _ (by simp), State.get_set_same]
    exact Nat.mod_eq_of_lt hdev
  · rw [State.refBack, condEnd_holds, condEnd_holds]
    simp
  · refine (refBack_get s dev _).trans (locks_get _ _ p (.inl (List.mem_filter.mpr ⟨List.mem_range.mpr hp, ?_⟩)))
    rwa [State.flag, hset _ (by simp; omega) (by simp; omega)]
  · rw [hkeep fun p => by simp; omega, hset _ (by simp; omega) (by simp; omega)]

/-- Settles O10: what the lost REFCLK brings writes REF_OK nowhere but by a chip reset, whose value is 0. -/
theorem referenceMonitor : Obligations.ReferenceMonitor := by
  refine ⟨fun s lost dev hreset h => ?_, fun s dev hreset hclk hdev => ?_, fun s dev hreset h => ?_⟩
  · exact answers_of rfl rfl (settle_refOff (refFault_declares hreset h))
  · refine answersSettled_of rfl (refFault_shows hreset hclk hdev) ⟨?_, Keeps.set (Keeps.of_reg rfl _) _ (by simp)⟩
    rw [State.get_set_same]
    exact Nat.mod_eq_of_lt dev.isLt
  · exact answersVia_of rfl (congrArg State.settle (refReturn_back hreset h)) (refBack_shows s dev.isLt)

end Sys2Proof.Machine
end

section
/-! SUPPORT. The stored power-up entries of the bias channels (R313, R402). -/
namespace Sys2Proof.Machine
open Sys2Proof

/-! Bits of a number -/

theorem putBit_split (v i : Nat) (b : Bool) : Machine.putBit v i b = 2 ^ i * (v / 2 ^ i / 2 * 2 + b.toNat) + v % 2 ^ i := by
  have hv := Nat.div_add_mod v (2 ^ i)
  have h2 := Nat.div_add_mod (v / 2 ^ i) 2
  have hm : 2 ^ i * (v / 2 ^ i) = 2 ^ i * (v / 2 ^ i / 2 * 2) + 2 ^ i * (v / 2 ^ i % 2) := by rw [← Nat.mul_add]; congr 1; omega
  have hb : 2 ^ i * (v / 2 ^ i / 2 * 2 + b.toNat) = 2 ^ i * (v / 2 ^ i / 2 * 2) + 2 ^ i * b.toNat := Nat.mul_add _ _ _
  unfold Machine.putBit setBit clrBit tbit
  rw [hb]
  rcases Nat.mod_two_eq_zero_or_one (v / 2 ^ i) with e | e <;> rw [e] at hm ⊢ <;> cases b <;>
    simp only [beq_self_eq_true, Nat.reduceBEq, if_true, if_false, Bool.false_eq_true, Bool.toNat_true, Bool.toNat_false, Nat.mul_one,
      Nat.mul_zero] at hm ⊢ <;> omega

/-- A bit put is that bit, and the others stand. -/
theorem tbit_putBit (v i j : Nat) (b : Bool) : tbit (Machine.putBit v i b) j = if j = i then b else tbit v j := by
  have hlt : v % 2 ^ i < 2 ^ i := Nat.mod_lt _ (Nat.two_pow_pos i)
  have hv : v.testBit j = (2 ^ i * (v / 2 ^ i) + v % 2 ^ i).testBit j := by rw [Nat.div_add_mod]
  rw [tbit_eq_testBit, tbit_eq_testBit, putBit_split, hv, Nat.testBit_two_pow_mul_add _ hlt, Nat.testBit_two_pow_mul_add _ hlt]
  rcases Nat.lt_trichotomy j i with h | h | h
  · simp [h, Nat.ne_of_lt h]
  · subst h
    cases b <;> simp [Nat.testBit_zero]
  · obtain ⟨k, rfl⟩ : ∃ k, j = i + (k + 1) := ⟨j - i - 1, by omega⟩
    have hhalf : (v / 2 ^ i / 2 * 2 + b.toNat) / 2 = v / 2 ^ i / 2 := by
      have := b.toNat_lt; omega
    simp [Nat.testBit_succ, hhalf]

theorem tbit_mod {v w j : Nat} (h : j < w) : tbit (v % 2 ^ w) j = tbit v j := by
  rw [tbit_eq_testBit, tbit_eq_testBit, Nat.testBit_mod_two_pow]
  simp [h]

/-! A channel's registers -/

theorem fieldsAt_BIA_VAL {c : Nat} (hc : c < 64) : fieldsAt (biasAddr c 1) = [BIA.VAL.SPAN (c / 32) (c % 32), BIA.VAL.CODE (c / 32) (c % 32)] := by
  interval_cases c <;> rfl

theorem fieldsAt_BIA_CFG {c : Nat} (hc : c < 64) : fieldsAt (biasAddr c 0) = [BIA.CFG.GEN (c / 32) (c % 32), BIA.CFG.RB_EN (c / 32) (c % 32),
    BIA.CFG.RB_ACT (c / 32) (c % 32), BIA.CFG.STEP (c / 32) (c % 32), BIA.CFG.RATE (c / 32) (c % 32)] := by
  interval_cases c <;> rfl

theorem fieldsAt_BIA_WIN {c : Nat} (hc : c < 64) : fieldsAt (biasAddr c 4) = [BIA.WIN.CNT (c / 32) (c % 32), BIA.WIN.TOL (c / 32) (c % 32)] := by
  interval_cases c <;> rfl

/-! A channel's entry -/

/-- What a power-up entry fills of a channel: its power-up values, VAL and the bit of SAFE_MASK. -/
def State.biasEntry (s : State) (c : Nat) : Nat × Nat × Nat × Nat × Bool :=
  ((s.ch c).valP, (s.ch c).cfgP, s.get (BIA.VAL.SPAN (c / 32) (c % 32)), s.get (BIA.VAL.CODE (c / 32) (c % 32)),
    tbit (s.get (BIA.SAFE_MASK.MASK (c / 32))) (c % 32))

/-- What the stored entry of a channel holds of it. -/
def State.bptEntry (s : State) (c : Nat) : Nat × Nat × Nat × Nat × Bool :=
  (s.bptWord c 0, s.bptWord c 1, bits (s.bptWord c 0) 16 2, bits (s.bptWord c 0) 0 16, tbit (s.bptWord c 3) 0)

theorem bptEntry_congr {s t : State} (h : t.nvm.bpt = s.nvm.bpt) (c : Nat) : t.bptEntry c = s.bptEntry c := by
  simp only [State.bptEntry, State.bptWord, h]

/-- A register of a channel that is neither VAL nor SAFE_MASK. -/
def Fld.offEntries (f : Fld) : Prop := f.key / 32 % 32 ≠ 4 ∧ (f.key / 32 % 32 = 0 → f.key / 32 < 0xB040 ∨ 0x100 ≤ f.key / 32 % 0x1000)

theorem set_biasEntry (s : State) {f : Fld} (v : Nat) (hf : f.offEntries) (c : Nat) : (s.set f v).biasEntry c = s.biasEntry c := by
  obtain ⟨h4, h0⟩ := hf
  have hspan : (s.set f v).get (BIA.VAL.SPAN (c / 32) (c % 32)) = s.get (BIA.VAL.SPAN (c / 32) (c % 32)) :=
    State.get_set_ne s v fun e => by rw [← e] at h4; simp at h4; omega
  have hcode : (s.set f v).get (BIA.VAL.CODE (c / 32) (c % 32)) = s.get (BIA.VAL.CODE (c / 32) (c % 32)) :=
    State.get_set_ne s v fun e => by rw [← e] at h4; simp at h4; omega
  have hmask : (s.set f v).get (BIA.SAFE_MASK.MASK (c / 32)) = s.get (BIA.SAFE_MASK.MASK (c / 32)) :=
    State.get_set_ne s v fun e => by rw [← e] at h0; simp at h0; omega
  simp only [State.biasEntry, hspan, hcode, hmask]
  rfl

theorem modCh_biasEntry (s : State) (d c : Nat) {f : BiasCh → BiasCh} (hf : ∀ x, (f x).valP = x.valP ∧ (f x).cfgP = x.cfgP) :
    (s.modCh d f).biasEntry c = s.biasEntry c := by
  have hch : ((s.modCh d f).ch c).valP = (s.ch c).valP ∧ ((s.modCh d f).ch c).cfgP = (s.ch c).cfgP := by
    rw [State.ch, State.modCh, Tab.get_upd]
    split_ifs with h
    · rw [h]; exact hf _
    · exact ⟨rfl, rfl⟩
  have hreg (g : Fld) : (s.modCh d f).get g = s.get g := State.get_of_reg rfl g
  simp only [State.biasEntry, hch, hreg]

theorem startMove_biasEntry (s : State) (d c : Nat) : (s.startMove d).biasEntry c = s.biasEntry c := by
  have hstate (t : State) (v : Nat) : (t.set (bState d) v).biasEntry c = t.biasEntry c :=
    set_biasEntry t v ⟨by simp [bState]; omega, by simp [bState]; omega⟩ c
  have hmoved {f f' : BiasCh → BiasCh} (v : Nat) (hf : ∀ x, (f x).valP = x.valP ∧ (f x).cfgP = x.cfgP)
      (hf' : ∀ x, (f' x).valP = x.valP ∧ (f' x).cfgP = x.cfgP) :
      (((s.modCh d f).modCh d f').set (bState d) v).biasEntry c = s.biasEntry c := by
    rw [hstate, modCh_biasEntry _ d c hf', modCh_biasEntry s d c hf]
  unfold State.startMove
  dsimp only
  split_ifs <;> (refine hmoved _ ?_ ?_ <;> exact fun _ => ⟨rfl, rfl⟩)

/-- The channel's registers and power-up values are those of its entry; it has not begun to move. -/
def State.biasTaken (s : State) (c : Nat) : State :=
  let s := ((s.writeReg (biasAddr c 1) (BitVec.ofNat 32 (s.bptWord c 0))).writeReg (biasAddr c 0) (BitVec.ofNat 32 (s.bptWord c 1))).writeReg
    (biasAddr c 4) (BitVec.ofNat 32 (s.bptWord c 2))
  let s := s.putBit (BIA.SAFE_MASK.MASK (c / 32)) (c % 32) (tbit (s.bptWord c 3) 0)
  s.modCh c fun x => { x with valP := s.bptWord c 0, cfgP := s.bptWord c 1, winP := s.bptWord c 2 }

theorem loadBias_eq (s : State) (c : Nat) :
    s.loadBias c = if (s.biasTaken c).get (bState c) = bHeld then s.biasTaken c else (s.biasTaken c).startMove c := rfl

section
variable {c : Nat} (hc : c < 64)
include hc

theorem writeReg_BIA_VAL (s : State) (v : Word) : s.writeReg (biasAddr c 1) v =
    (s.set (BIA.VAL.SPAN (c / 32) (c % 32)) (bits v.toNat 16 2)).set (BIA.VAL.CODE (c / 32) (c % 32)) (bits v.toNat 0 16) := by
  rw [State.writeReg, fieldsAt_BIA_VAL hc]
  rfl

theorem writeReg_BIA_CFG_biasEntry (s : State) (v : Word) (d : Nat) : (s.writeReg (biasAddr c 0) v).biasEntry d = s.biasEntry d := by
  have hset (t : State) {f : Fld} (hf : f ∈ [BIA.CFG.GEN (c / 32) (c % 32), BIA.CFG.RB_EN (c / 32) (c % 32), BIA.CFG.RB_ACT (c / 32) (c % 32),
      BIA.CFG.STEP (c / 32) (c % 32), BIA.CFG.RATE (c / 32) (c % 32)]) : (t.writeFld v f).biasEntry d = t.biasEntry d := by
    simp only [List.mem_cons, List.not_mem_nil, or_false] at hf
    rcases hf with rfl | rfl | rfl | rfl | rfl <;> exact set_biasEntry t _ ⟨by simp; omega, by simp; omega⟩ d
  rw [State.writeReg, fieldsAt_BIA_CFG hc]
  exact foldl_keeps_mem (fun t : State => t.biasEntry d) _ _ (fun t f hf => hset t hf) s

theorem writeReg_BIA_WIN_biasEntry (s : State) (v : Word) (d : Nat) : (s.writeReg (biasAddr c 4) v).biasEntry d = s.biasEntry d := by
  have hset (t : State) {f : Fld} (hf : f ∈ [BIA.WIN.CNT (c / 32) (c % 32), BIA.WIN.TOL (c / 32) (c % 32)]) :
      (t.writeFld v f).biasEntry d = t.biasEntry d := by
    simp only [List.mem_cons, List.not_mem_nil, or_false] at hf
    rcases hf with rfl | rfl <;> exact set_biasEntry t _ ⟨by simp; omega, by simp; omega⟩ d
  rw [State.writeReg, fieldsAt_BIA_WIN hc]
  exact foldl_keeps_mem (fun t : State => t.biasEntry d) _ _ (fun t f hf => hset t hf) s

end

/-- A write of a register changes the register file alone. -/
theorem writeReg_regs (s : State) (a : Nat) (v : Word) : (s.writeReg a v).nvm = s.nvm ∧ (s.writeReg a v).bias = s.bias := by
  have hfld (t : State) (f : Fld) : ((t.writeFld v f).nvm, (t.writeFld v f).bias) = (t.nvm, t.bias) := by
    unfold State.writeFld; split <;> rfl
  exact Prod.mk.inj (foldl_keeps (fun t : State => (t.nvm, t.bias)) (fun t f => t.writeFld v f) hfld (fieldsAt a) s)

section
variable {c d : Nat} (hc : c < 64)
include hc

/-- VAL, where the channel is that whose entry is taken. -/
theorem writeReg_BIA_VAL_biasEntry (s : State) (w : Nat) : (s.writeReg (biasAddr c 1) (BitVec.ofNat 32 w)).biasEntry d =
    if d = c then ((s.ch c).valP, (s.ch c).cfgP, bits w 16 2, bits w 0 16, tbit (s.get (BIA.SAFE_MASK.MASK (c / 32))) (c % 32))
    else s.biasEntry d := by
  have hch (f g : Fld) (v v' : Nat) : ((s.set f v).set g v').ch d = s.ch d := rfl
  rw [writeReg_BIA_VAL hc, BitVec.toNat_ofNat]
  split_ifs with h
  · subst h
    have hmask (v v' : Nat) : ((s.set (BIA.VAL.SPAN (d / 32) (d % 32)) v).set (BIA.VAL.CODE (d / 32) (d % 32)) v').get
        (BIA.SAFE_MASK.MASK (d / 32)) = s.get (BIA.SAFE_MASK.MASK (d / 32)) :=
      (State.get_set_of_key_ne _ _ (by simp; omega)).trans (State.get_set_of_key_ne _ _ (by simp; omega))
    rw [State.biasEntry, hch, hmask, State.get_set_same, State.get_set_of_key_ne _ _ (by simp), State.get_set_same]
    simp only [bits, w_BIA_VAL_SPAN, w_BIA_VAL_CODE]
    congr 3
    · omega
    · congr 1; omega
  · have hne (f : Fld) (hf : f = BIA.VAL.SPAN (d / 32) (d % 32) ∨ f = BIA.VAL.CODE (d / 32) (d % 32) ∨ f = BIA.SAFE_MASK.MASK (d / 32))
        (v v' : Nat) : ((s.set (BIA.VAL.SPAN (c / 32) (c % 32)) v).set (BIA.VAL.CODE (c / 32) (c % 32)) v').get f = s.get f := by
      refine (State.get_set_of_key_ne _ _ ?_).trans (State.get_set_of_key_ne _ _ ?_) <;> rcases hf with rfl | rfl | rfl <;> (simp; omega)
    rw [State.biasEntry, hch, hne _ (by simp), hne _ (by simp), hne _ (by simp)]
    rfl

/-- The three registers that an entry fills. -/
def State.biasWritten (s : State) (c : Nat) : State :=
  ((s.writeReg (biasAddr c 1) (BitVec.ofNat 32 (s.bptWord c 0))).writeReg (biasAddr c 0) (BitVec.ofNat 32 (s.bptWord c 1))).writeReg
    (biasAddr c 4) (BitVec.ofNat 32 (s.bptWord c 2))

omit hc in
theorem biasWritten_regs (s : State) (c : Nat) : (s.biasWritten c).nvm = s.nvm ∧ (s.biasWritten c).bias = s.bias := by
  obtain ⟨hn, hb⟩ := writeReg_regs s (biasAddr c 1) (BitVec.ofNat 32 (s.bptWord c 0))
  obtain ⟨hn', hb'⟩ := writeReg_regs (s.writeReg (biasAddr c 1) (BitVec.ofNat 32 (s.bptWord c 0))) (biasAddr c 0) (BitVec.ofNat 32 (s.bptWord c 1))
  obtain ⟨hn'', hb''⟩ := writeReg_regs ((s.writeReg (biasAddr c 1) (BitVec.ofNat 32 (s.bptWord c 0))).writeReg (biasAddr c 0)
    (BitVec.ofNat 32 (s.bptWord c 1))) (biasAddr c 4) (BitVec.ofNat 32 (s.bptWord c 2))
  exact ⟨hn''.trans (hn'.trans hn), hb''.trans (hb'.trans hb)⟩

omit hc in
theorem biasWritten_bptWord (s : State) (c w : Nat) : (s.biasWritten c).bptWord c w = s.bptWord c w := by
  simp only [State.bptWord, (biasWritten_regs s c).1]

theorem biasWritten_biasEntry (s : State) : (s.biasWritten c).biasEntry d =
    if d = c then ((s.ch c).valP, (s.ch c).cfgP, bits (s.bptWord c 0) 16 2, bits (s.bptWord c 0) 0 16,
      tbit (s.get (BIA.SAFE_MASK.MASK (c / 32))) (c % 32)) else s.biasEntry d := by
  rw [State.biasWritten, writeReg_BIA_WIN_biasEntry hc, writeReg_BIA_CFG_biasEntry hc, writeReg_BIA_VAL_biasEntry hc]

omit hc in
/-- A bit of SAFE_MASK that is put is the channel's own. -/
theorem putMask_biasEntry (s : State) (b : Bool) : (s.putBit (BIA.SAFE_MASK.MASK (c / 32)) (c % 32) b).biasEntry d =
    if d = c then ((s.ch c).valP, (s.ch c).cfgP, s.get (BIA.VAL.SPAN (c / 32) (c % 32)), s.get (BIA.VAL.CODE (c / 32) (c % 32)), b)
    else s.biasEntry d := by
  have hval (f : Fld) (hf : f = BIA.VAL.SPAN (d / 32) (d % 32) ∨ f = BIA.VAL.CODE (d / 32) (d % 32)) :
      (s.putBit (BIA.SAFE_MASK.MASK (c / 32)) (c % 32) b).get f = s.get f := by
    refine State.get_set_of_key_ne _ _ ?_
    rcases hf with rfl | rfl <;> (simp; omega)
  have hbit : tbit ((s.putBit (BIA.SAFE_MASK.MASK (c / 32)) (c % 32) b).get (BIA.SAFE_MASK.MASK (d / 32))) (d % 32) =
      if d = c then b else tbit (s.get (BIA.SAFE_MASK.MASK (d / 32))) (d % 32) := by
    by_cases h : d / 32 = c / 32
    · rw [h, State.putBit, State.get_set_same, w_BIA_SAFE_MASK_MASK, tbit_mod (by omega), tbit_putBit]
      by_cases e : d = c
      · rw [if_pos e, if_pos (by rw [e])]
      · rw [if_neg e, if_neg (by omega)]
    · rw [State.putBit, State.get_set_of_key_ne _ _ (by simp; omega), if_neg (by omega)]
  rw [State.biasEntry, hval _ (.inl rfl), hval _ (.inr rfl), hbit]
  split_ifs with h
  · subst h; rfl
  · rfl

theorem biasTaken_biasEntry (s : State) : (s.biasTaken c).biasEntry d = if d = c then s.bptEntry c else s.biasEntry d := by
  have htaken : s.biasTaken c = ((s.biasWritten c).putBit (BIA.SAFE_MASK.MASK (c / 32)) (c % 32) (tbit ((s.biasWritten c).bptWord c 3) 0)).modCh c
    fun x => { x with valP := (s.biasWritten c).bptWord c 0, cfgP := (s.biasWritten c).bptWord c 1, winP := (s.biasWritten c).bptWord c 2 } := rfl
  have hch (t : State) (f : BiasCh → BiasCh) : (t.modCh c f).biasEntry d = if d = c then
      ((f (t.ch c)).valP, (f (t.ch c)).cfgP, t.get (BIA.VAL.SPAN (c / 32) (c % 32)), t.get (BIA.VAL.CODE (c / 32) (c % 32)),
        tbit (t.get (BIA.SAFE_MASK.MASK (c / 32))) (c % 32)) else t.biasEntry d := by
    have hreg (g : Fld) : (t.modCh c f).get g = t.get g := State.get_of_reg rfl g
    have hch' : (t.modCh c f).ch d = if d = c then f (t.ch c) else t.ch d := Tab.get_upd _ _ _ _ _
    split_ifs with h
    · subst h
      simp only [State.biasEntry, hreg, hch', if_true]
    · simp only [State.biasEntry, hreg, hch', h, if_false]
  have hput := putMask_biasEntry (c := c) (d := d) (s.biasWritten c) (tbit ((s.biasWritten c).bptWord c 3) 0)
  have hwritten := biasWritten_biasEntry hc s (d := d)
  rw [htaken, hch]
  split_ifs with h
  · subst h
    rw [if_pos rfl] at hput hwritten
    simp only [State.biasEntry, Prod.mk.injEq] at hput hwritten
    obtain ⟨-, -, hspan, hcode, hmask⟩ := hput
    obtain ⟨-, -, hspan', hcode', -⟩ := hwritten
    rw [hspan, hcode, hmask, hspan', hcode']
    simp only [biasWritten_bptWord]
    rfl
  · rw [hput, if_neg h, hwritten, if_neg h]

/-- A channel that takes its entry shows it, and the other channels are as before. -/
theorem loadBias_biasEntry (s : State) : (s.loadBias c).biasEntry d = if d = c then s.bptEntry c else s.biasEntry d := by
  rw [loadBias_eq, ← biasTaken_biasEntry hc]
  split_ifs
  · rfl
  · exact startMove_biasEntry _ c d

end

theorem loadBias_nvm (s : State) (c : Nat) : (s.loadBias c).nvm = s.nvm := by
  have htaken : (s.biasTaken c).nvm = s.nvm := (biasWritten_regs s c).1
  rw [loadBias_eq]
  split_ifs
  · exact htaken
  · exact (startMove_nvm _ c).trans htaken

/-- After a list of channels has taken their entries, each of them shows its own. -/
theorem loadBiases_biasEntry (l : List Nat) (hl : ∀ c ∈ l, c < 64) (s : State) {c : Nat} (h : c ∈ l ∨ s.biasEntry c = s.bptEntry c) :
    (l.foldl (fun s c => s.loadBias c) s).biasEntry c = s.bptEntry c := by
  induction l generalizing s with
  | nil => simpa using h
  | cons d l ih =>
    have hd := hl d List.mem_cons_self
    have hbpt : (s.loadBias d).bptEntry c = s.bptEntry c := bptEntry_congr (congrArg Nvm.bpt (loadBias_nvm s d)) c
    rw [List.foldl_cons, ih (fun c hc => hl c (List.mem_cons_of_mem d hc)) _ ?_, hbpt]
    rw [loadBias_biasEntry hd, hbpt]
    by_cases e : c = d
    · exact .inr ((if_pos e).trans (by rw [e]))
    · rw [if_neg e]
      exact h.imp_left fun h => (List.mem_cons.mp h).resolve_left e

/-! What the entries leave -/

/-- The resets, whether the part is asleep, and the board. -/
def State.bench (s : State) : Rst × Bool × Board := (s.rst, s.aon.asleep, s.board)

theorem startMove_bench (s : State) (c : Nat) : (s.startMove c).bench = s.bench := by
  unfold State.startMove
  dsimp only
  split_ifs <;> rfl

theorem writeReg_bench (s : State) (a : Nat) (v : Word) : (s.writeReg a v).bench = s.bench :=
  foldl_keeps State.bench _ (fun t f => by unfold State.writeFld; split <;> rfl) (fieldsAt a) s

theorem loadBias_bench (s : State) (c : Nat) : (s.loadBias c).bench = s.bench := by
  have hwritten : (s.biasWritten c).bench = s.bench := by
    rw [State.biasWritten, writeReg_bench, writeReg_bench, writeReg_bench]
  have htaken : (s.biasTaken c).bench = s.bench := hwritten
  rw [loadBias_eq]
  split_ifs
  · exact htaken
  · exact (startMove_bench _ c).trans htaken

section
variable {g : Fld} (hg : g.key < 32 * 0xB000)
include hg

theorem writeReg_get_below (s : State) {a : Nat} (ha : ∀ f ∈ fieldsAt a, 32 * 0xB000 ≤ f.key) (v : Word) : (s.writeReg a v).get g = s.get g := by
  refine foldl_keeps_mem (fun t : State => t.get g) _ _ (fun t f hf => ?_) s
  have hset (w : Nat) : (t.set f w).get g = t.get g := get_set_bias t w (ha f hf) hg
  unfold State.writeFld
  split
  · exact hset _
  · exact hset _
  · exact hset _
  · exact hset _
  · rfl

theorem loadBias_get_below (s : State) {c : Nat} (hc : c < 64) : (s.loadBias c).get g = s.get g := by
  have hwritten : (s.biasWritten c).get g = s.get g := by
    rw [State.biasWritten, writeReg_get_below hg _ (by rw [fieldsAt_BIA_WIN hc]; simp; omega),
      writeReg_get_below hg _ (by rw [fieldsAt_BIA_CFG hc]; simp; omega), writeReg_get_below hg _ (by rw [fieldsAt_BIA_VAL hc]; simp; omega)]
  have htaken : (s.biasTaken c).get g = s.get g :=
    (State.get_of_reg (s := (s.biasWritten c).putBit (BIA.SAFE_MASK.MASK (c / 32)) (c % 32) (tbit ((s.biasWritten c).bptWord c 3) 0)) rfl g).trans
      ((get_set_bias _ _ (by simp; omega) hg).trans hwritten)
  rw [loadBias_eq]
  split_ifs
  · exact htaken
  · exact (startMove_get_below hg _ c).trans htaken

end

end Sys2Proof.Machine
end

section
/-! SUPPORT. The end of the NVM load (R57, R397, R400 to R404). -/
namespace Sys2Proof.Machine
open Sys2Proof

/-! The counters -/

/-- Loading the counters changes of the store no more than the counters' own region. -/
def Nvm.recounted (n m : Nvm) : Prop :=
  m.cal = n.cal ∧ m.calUser = n.calUser ∧ m.calBad = n.calBad ∧ m.bpt = n.bpt ∧ m.copy = n.copy ∧ m.minSvn = n.minSvn ∧
    ∀ r ≠ rgCounters, Tab.get none m.old r = Tab.get none n.old r

theorem writeCounters_recounted (s : State) : s.nvm.recounted s.writeCounters.nvm := by
  have hold : (s.nvm.renew rgCounters).old = Tab.set none s.nvm.old rgCounters (some s.nvm.image) := rfl
  unfold State.writeCounters
  split_ifs
  · refine ⟨rfl, rfl, rfl, rfl, rfl, rfl, fun r hr => ?_⟩
    change Tab.get none (s.nvm.renew rgCounters).old r = _
    rw [hold]
    exact Tab.get_set_ne none none _ _ hr
  · exact ⟨rfl, rfl, rfl, rfl, rfl, rfl, fun _ _ => rfl⟩

/-- The counters as the load finds them, before a power cycle is counted. -/
def State.countersShown (s : State) : State :=
  let s := if s.aon.loadDue then
      let t : State := { s with aon := { s.aon with opBase := s.nvm.opSec, opFrom := s.now, loadDue := false } }
      let t := t.set NVM.PCYC.COUNT s.nvm.pcyc
      ({ t with evt := { t.evt with buf := t.evt.buf.map fun r : Rec => { r with opSec := s.nvm.opSec, tick := 0, pcyc := s.nvm.pcyc } } } : State)
    else s
  (s.set NVM.OP_SEC_LO.SEC s.opSec).set NVM.OP_SEC_HI.SEC (s.opSec / 2 ^ 32)

theorem loadCounters_eq (s : State) : s.loadCounters = if s.countersShown.aon.pcycDue then
    (({ s.countersShown with aon := { s.countersShown.aon with pcycDue := false } } : State).wrap NVM.PCYC.COUNT).writeCounters
    else s.countersShown := rfl

theorem countersShown_regs (s : State) : s.countersShown.nvm = s.nvm ∧ s.countersShown.bench = s.bench := by
  unfold State.countersShown
  dsimp only
  split_ifs <;> exact ⟨rfl, rfl⟩

/-- A field outside the counters' registers. -/
def Fld.offCounters (g : Fld) : Prop := g.key < 32 * 0x7090 ∨ 32 * 0x709C ≤ g.key

theorem countersShown_get (s : State) {g : Fld} (hg : g.offCounters) : s.countersShown.get g = s.get g := by
  unfold Fld.offCounters at hg
  have hsec (t : State) (v w : Nat) : ((t.set NVM.OP_SEC_LO.SEC v).set NVM.OP_SEC_HI.SEC w).get g = t.get g :=
    (State.get_set_of_key_ne _ _ (by simp; omega)).trans (State.get_set_of_key_ne _ _ (by simp; omega))
  have hload (a : Aon) (e : Evt) (v : Nat) : State.get { State.set { s with aon := a } NVM.PCYC.COUNT v with evt := e } g = s.get g :=
    (State.get_of_reg (s := State.set { s with aon := a } NVM.PCYC.COUNT v) rfl g).trans
      ((State.get_set_of_key_ne _ _ (by simp; omega)).trans (State.get_of_reg rfl g))
  unfold State.countersShown
  dsimp only
  split_ifs
  · exact (hsec _ _ _).trans (hload _ _ _)
  · exact hsec _ _ _

theorem loadCounters_recounted (s : State) : s.nvm.recounted s.loadCounters.nvm := by
  obtain ⟨hnvm, -⟩ := countersShown_regs s
  rw [loadCounters_eq, ← hnvm]
  split_ifs
  · exact writeCounters_recounted _
  · exact ⟨rfl, rfl, rfl, rfl, rfl, rfl, fun _ _ => rfl⟩

theorem writeCounters_regs (s : State) : s.writeCounters.reg = s.reg ∧ s.writeCounters.bench = s.bench := by
  unfold State.writeCounters
  split_ifs <;> exact ⟨rfl, rfl⟩

theorem loadCounters_get (s : State) {g : Fld} (hg : g.offCounters) : s.loadCounters.get g = s.get g := by
  rw [loadCounters_eq, ← countersShown_get s hg]
  unfold Fld.offCounters at hg
  split_ifs
  · refine (State.get_of_reg (writeCounters_regs _).1 g).trans ?_
    exact (State.get_set_of_key_ne _ _ (by simp; omega)).trans (State.get_of_reg rfl g)
  · rfl

theorem loadCounters_bench (s : State) : s.loadCounters.bench = s.bench := by
  rw [loadCounters_eq, ← (countersShown_regs s).2]
  split_ifs
  · exact (writeCounters_regs _).2
  · rfl

/-! The regions in force -/

/-- The state after the load of the regions but the counters and the bias entries. -/
def State.regionsLoaded (s : State) : State := s.loadCal.loadRegs.loadCopies

theorem loadCal_valid {s : State} (h : s.nvm.calBad = false) :
    s.loadCal = State.set { s with nvm := { s.nvm with staged := s.nvm.cal, calLive := s.nvm.cal } } CLK.OSC_STAT.TRIMMED 1 := by
  unfold State.loadCal
  dsimp only
  rw [h]
  rfl

theorem loadCopies_regs (s : State) : s.loadCopies.nvm = s.nvm ∧ s.loadCopies.bench = s.bench ∧ s.loadCopies.reg = s.reg := by
  unfold State.loadCopies
  dsimp only
  split_ifs <;> exact ⟨rfl, rfl, rfl⟩

/-- A word of the delegation, staged and in force. -/
def State.delegWord (s : State) (d : Nat) : State :=
  let m := Tab.get (delegFactory d) s.nvm.deleg d
  (s.set (NVM.HDR_DELEG.MASK d) m).set (OWN.DELEGATE.MASK d) m

def State.delegLoaded (s : State) : State := (List.range 4).foldl State.delegWord s

theorem delegLoaded_regs (s : State) : s.delegLoaded.nvm = s.nvm ∧ s.delegLoaded.bench = s.bench :=
  Prod.mk.inj (foldl_keeps (fun t : State => (t.nvm, t.bench)) State.delegWord (fun _ _ => rfl) (List.range 4) s)

theorem delegLoaded_get (s : State) {g : Fld} (h : g.key < 32 * 0x1060 ∨ (32 * 0x1070 ≤ g.key ∧ g.key < 32 * 0x7078) ∨ 32 * 0x7088 ≤ g.key) :
    s.delegLoaded.get g = s.get g := by
  refine foldl_keeps_mem (fun t : State => t.get g) _ _ (fun t d hd => ?_) s
  have hd := List.mem_range.mp hd
  exact (State.get_set_of_key_ne _ _ (by simp; omega)).trans (State.get_set_of_key_ne _ _ (by simp; omega))

theorem loadRegs_eq (s : State) : s.loadRegs = ((((s.delegLoaded).set NVM.HDR_CTL.COPY s.delegLoaded.nvm.copy).set NVM.HDR_SVN.MIN_SVN
    s.delegLoaded.nvm.minSvn).set SEC.ALARM_LVL.LVL (if s.delegLoaded.nvm.zeroDue then alarmLvlFactory else s.delegLoaded.nvm.alarmLvl)).syncSnap := by
  have hword : (fun (t : State) d => (t.set (NVM.HDR_DELEG.MASK d) (Tab.get (delegFactory d) t.nvm.deleg d)).set (OWN.DELEGATE.MASK d)
      (Tab.get (delegFactory d) t.nvm.deleg d)) = State.delegWord := rfl
  unfold State.loadRegs
  dsimp only
  rw [hword]
  rfl

theorem syncSnap_get (s : State) {g : Fld} (hg : g.key < 32 * 0xB000) : s.syncSnap.get g = s.get g :=
  (State.get_set_of_key_ne _ _ (by simp; omega)).trans (State.get_set_of_key_ne _ _ (by simp; omega))

theorem loadRegs_regs (s : State) : s.loadRegs.nvm = s.nvm ∧ s.loadRegs.bench = s.bench := by
  have hset (t : State) (f : Fld) (v : Nat) : (t.set f v).nvm = t.nvm ∧ (t.set f v).bench = t.bench := ⟨rfl, rfl⟩
  have hsnap (t : State) : t.syncSnap.nvm = t.nvm ∧ t.syncSnap.bench = t.bench := ⟨rfl, rfl⟩
  rw [loadRegs_eq, (hsnap _).1, (hsnap _).2, (hset _ _ _).1, (hset _ _ _).2, (hset _ _ _).1, (hset _ _ _).2, (hset _ _ _).1, (hset _ _ _).2]
  exact delegLoaded_regs s

theorem loadRegs_get (s : State) {g : Fld} (hg : g.key < 32 * 0x1060 ∨ (32 * 0x1070 ≤ g.key ∧ g.key < 32 * 0x7074)) :
    s.loadRegs.get g = s.get g := by
  rw [loadRegs_eq, syncSnap_get _ (by omega), State.get_set_of_key_ne _ _ (by simp; omega), State.get_set_of_key_ne _ _ (by simp; omega),
    State.get_set_of_key_ne _ _ (by simp; omega), delegLoaded_get s (by omega)]

theorem loadRegs_shows (s : State) : s.loadRegs.get NVM.HDR_CTL.COPY = s.nvm.copy % 2 ∧ s.loadRegs.get NVM.HDR_SVN.MIN_SVN = s.nvm.minSvn % 65536 := by
  rw [loadRegs_eq, syncSnap_get _ (by simp), syncSnap_get _ (by simp), (delegLoaded_regs s).1]
  refine ⟨?_, ?_⟩
  · rw [State.get_set_of_key_ne _ _ (by simp), State.get_set_of_key_ne _ _ (by simp), State.get_set_same]
    rfl
  · rw [State.get_set_of_key_ne _ _ (by simp), State.get_set_same]
    rfl

section
variable {s : State} (h : s.nvm.calBad = false)
include h

theorem regionsLoaded_nvm : s.regionsLoaded.nvm = { s.nvm with staged := s.nvm.cal, calLive := s.nvm.cal } := by
  rw [State.regionsLoaded, (loadCopies_regs _).1, (loadRegs_regs _).1, loadCal_valid h]
  rfl

theorem regionsLoaded_bench : s.regionsLoaded.bench = s.bench := by
  rw [State.regionsLoaded, (loadCopies_regs _).2.1, (loadRegs_regs _).2, loadCal_valid h]
  rfl

theorem regionsLoaded_get {g : Fld} (hg : g.key = NVM.ECC.CE_CNT.key ∨ g.key = NVM.ECC.UE_CNT.key) : s.regionsLoaded.get g = s.get g := by
  rw [State.regionsLoaded, State.get_of_reg (loadCopies_regs _).2.2, loadRegs_get _ (by simp at hg; omega), loadCal_valid h,
    State.get_set_of_key_ne _ _ (by simp at hg ⊢; omega)]
  exact State.get_of_reg rfl g

theorem regionsLoaded_shows : s.regionsLoaded.get CLK.OSC_STAT.TRIMMED = 1 ∧ s.regionsLoaded.get NVM.HDR_CTL.COPY = s.nvm.copy % 2 ∧
    s.regionsLoaded.get NVM.HDR_SVN.MIN_SVN = s.nvm.minSvn % 65536 := by
  have hreg (g : Fld) : s.regionsLoaded.get g = s.loadCal.loadRegs.get g := State.get_of_reg (loadCopies_regs _).2.2 g
  have hnvm : s.loadCal.nvm = { s.nvm with staged := s.nvm.cal, calLive := s.nvm.cal } := by rw [loadCal_valid h]; rfl
  obtain ⟨hcopy, hsvn⟩ := loadRegs_shows s.loadCal
  rw [hreg, hreg, hreg, hcopy, hsvn, hnvm, loadRegs_get _ (by simp), loadCal_valid h, State.get_set_same]
  exact ⟨rfl, rfl, rfl⟩

end

/-! The whole load -/

/-- The errors are counted and the counters are loaded. -/
def State.loadCounted (s : State) (ce : Nat) (ue : List Nat) : State :=
  (State.loadErrors { s with rst := { s.rst with loaded := true } } ce ue).loadCounters

/-- The regions are in force, and each channel has taken its entry. -/
def State.loadFilled (s : State) : State := (List.range 64).foldl (fun s c => s.loadBias c) s.regionsLoaded

/-- The monitor shows REFCLK as the board has it. -/
def State.loadShown (s : State) : State :=
  (s.put CLK.OSC_STAT.REF_OK s.board.refclk).set CLK.OSC_STAT.DEV (if s.board.refclk then s.board.refDev else 0)

/-- The end of the load, before the sources that its errors raise. -/
def State.loadTaken (s : State) (ce : Nat) (ue : List Nat) : State := ((s.loadCounted ce ue).loadFilled).loadShown

/-- The regions with an error in their valid record fall back. -/
def State.spoiled (s : State) (ue : List Nat) : Nvm := (ue.filter loaderRegion).foldl Nvm.spoil s.nvm

theorem loadCounted_recounted (s : State) (ce : Nat) (ue : List Nat) : (s.spoiled ue).recounted (s.loadCounted ce ue).nvm :=
  loadCounters_recounted _

theorem loadCounted_bench (s : State) (ce : Nat) (ue : List Nat) :
    (s.loadCounted ce ue).bench = ({ s.rst with loaded := true }, s.aon.asleep, s.board) := loadCounters_bench _

theorem loadCounted_get (s : State) (ce : Nat) (ue : List Nat) :
    (s.loadCounted ce ue).get NVM.ECC.CE_CNT = satAdd 16 (s.get NVM.ECC.CE_CNT) ce % 2 ^ 16 ∧
      (s.loadCounted ce ue).get NVM.ECC.UE_CNT = satAdd 16 (s.get NVM.ECC.UE_CNT) (ue.filter loaderRegion).length % 2 ^ 16 := by
  have hget (r : Rst) (n : Nvm) (g : Fld) : State.get { s with rst := r, nvm := n } g = s.get g := State.get_of_reg rfl g
  unfold State.loadCounted State.loadErrors
  rw [loadCounters_get _ (.inl (by simp)), loadCounters_get _ (.inl (by simp))]
  dsimp only
  refine ⟨?_, ?_⟩
  · rw [State.count, State.get_set_of_key_ne _ _ (by simp), State.count, State.get_set_same, hget]
    rfl
  · rw [State.count, State.get_set_same, State.count, State.get_set_of_key_ne _ _ (by simp), hget]
    rfl

theorem loadFilled_regs {s : State} (h : s.nvm.calBad = false) :
    s.loadFilled.nvm = { s.nvm with staged := s.nvm.cal, calLive := s.nvm.cal } ∧ s.loadFilled.bench = s.bench :=
  ⟨(foldl_keeps State.nvm (fun s c => State.loadBias s c) loadBias_nvm _ _).trans (regionsLoaded_nvm h),
    (foldl_keeps State.bench (fun s c => State.loadBias s c) loadBias_bench _ _).trans (regionsLoaded_bench h)⟩

theorem loadFilled_get (s : State) {g : Fld} (hg : g.key < 32 * 0xB000) : s.loadFilled.get g = s.regionsLoaded.get g :=
  foldl_keeps_mem (fun t : State => t.get g) _ _ (fun t _ hc => loadBias_get_below hg t (List.mem_range.mp hc)) _

theorem loadFilled_biasEntry {s : State} (h : s.nvm.calBad = false) {c : Nat} (hc : c < 64) : s.loadFilled.biasEntry c = s.bptEntry c :=
  (loadBiases_biasEntry _ (fun _ hd => List.mem_range.mp hd) _ (.inl (List.mem_range.mpr hc))).trans
    (bptEntry_congr (by rw [regionsLoaded_nvm h]) c)

theorem loadShown_regs (s : State) : s.loadShown.nvm = s.nvm ∧ s.loadShown.bench = s.bench := ⟨rfl, rfl⟩

theorem loadShown_get (s : State) {g : Fld} (hg : g.key / 32 ≠ 0x3040 ∨ g.key = CLK.OSC_STAT.TRIMMED.key) : s.loadShown.get g = s.get g :=
  (State.get_set_of_key_ne _ _ (by simp at hg ⊢; omega)).trans (State.get_set_of_key_ne _ _ (by simp at hg ⊢; omega))

theorem loadShown_REF_OK (s : State) : s.loadShown.get CLK.OSC_STAT.REF_OK = s.board.refclk.toNat := by
  rw [State.loadShown, State.get_set_of_key_ne _ _ (by simp), State.put, State.get_set_same]
  cases s.board.refclk <;> rfl

theorem loadShown_biasEntry (s : State) (c : Nat) : s.loadShown.biasEntry c = s.biasEntry c :=
  (set_biasEntry _ _ ⟨by simp, by simp⟩ c).trans (set_biasEntry _ _ ⟨by simp, by simp⟩ c)

/-- What the end of the load shows, where the calibration set is valid after its errors. -/
structure State.loadEnds (s u : State) (n : Nvm) : Prop where
  loaded : u.rst.loaded = true
  reset : u.inReset = s.inReset
  board : u.board = s.board
  cal : u.nvm.cal = n.cal ∧ u.nvm.calLive = n.cal ∧ u.nvm.staged = n.cal ∧ u.nvm.calUser = n.calUser ∧ u.nvm.calBad = false
  old : ∀ r ≠ rgCounters, Tab.get none u.nvm.old r = Tab.get none n.old r
  trimmed : u.get CLK.OSC_STAT.TRIMMED = 1
  ref : u.get CLK.OSC_STAT.REF_OK = s.board.refclk.toNat
  header : u.get NVM.HDR_CTL.COPY = n.copy % 2 ∧ u.get NVM.HDR_SVN.MIN_SVN = n.minSvn % 65536
  bias : ∀ c < 64, u.biasEntry c = State.bptEntry { s with nvm := n } c

theorem loadTaken_ends {s : State} (ce : Nat) {ue : List Nat} (h : (s.spoiled ue).calBad = false) :
    s.loadEnds (s.loadTaken ce ue) (s.spoiled ue) := by
  obtain ⟨hcal, huser, hbad, hbpt, hcopy, hsvn, hold⟩ := loadCounted_recounted s ce ue
  have hvalid : (s.loadCounted ce ue).nvm.calBad = false := hbad.trans h
  obtain ⟨hnvm, hbench⟩ := loadFilled_regs hvalid
  have hnvm' : (s.loadTaken ce ue).nvm = _ := (loadShown_regs _).1.trans hnvm
  have hbench' : (s.loadTaken ce ue).bench = ({ s.rst with loaded := true }, s.aon.asleep, s.board) :=
    (loadShown_regs _).2.trans (hbench.trans (loadCounted_bench s ce ue))
  have hbench'' : (s.loadCounted ce ue).loadFilled.bench = ({ s.rst with loaded := true }, s.aon.asleep, s.board) :=
    hbench.trans (loadCounted_bench s ce ue)
  have hget {g : Fld} (hg : g.key / 32 ≠ 0x3040 ∨ g.key = CLK.OSC_STAT.TRIMMED.key) (hlow : g.key < 32 * 0xB000) :
      (s.loadTaken ce ue).get g = (s.loadCounted ce ue).regionsLoaded.get g := (loadShown_get _ hg).trans (loadFilled_get _ hlow)
  obtain ⟨htrim, hctl, hmin⟩ := regionsLoaded_shows hvalid
  simp only [State.bench, Prod.mk.injEq] at hbench' hbench''
  obtain ⟨hrst, hasleep, hboard⟩ := hbench'
  refine ⟨?_, ?_, hboard, ?_, ?_, ?_, ?_, ⟨?_, ?_⟩, fun c hc => ?_⟩
  · rw [hrst]
  · simp only [State.inReset, hrst, hasleep]
  · rw [hnvm']
    exact ⟨hcal, hcal, hcal, huser, hvalid⟩
  · rw [hnvm']
    exact hold
  · rw [hget (.inr rfl) (by simp), htrim]
  · rw [State.loadTaken, loadShown_REF_OK, hbench''.2.2]
  · rw [hget (.inl (by simp)) (by simp), hctl, hcopy]
  · rw [hget (.inl (by simp)) (by simp), hmin, hsvn]
  · rw [State.loadTaken, loadShown_biasEntry, loadFilled_biasEntry hvalid hc]
    exact bptEntry_congr hbpt c

theorem loadTaken_get (s : State) (ce : Nat) {ue : List Nat} (h : (s.spoiled ue).calBad = false) :
    (s.loadTaken ce ue).get NVM.ECC.CE_CNT = satAdd 16 (s.get NVM.ECC.CE_CNT) ce % 2 ^ 16 ∧
      (s.loadTaken ce ue).get NVM.ECC.UE_CNT = satAdd 16 (s.get NVM.ECC.UE_CNT) (ue.filter loaderRegion).length % 2 ^ 16 := by
  have hvalid : (s.loadCounted ce ue).nvm.calBad = false := (loadCounted_recounted s ce ue).2.2.1.trans h
  obtain ⟨hce, hue⟩ := loadCounted_get s ce ue
  refine ⟨?_, ?_⟩
  · rw [State.loadTaken, loadShown_get _ (.inl (by simp)), loadFilled_get _ (by simp), regionsLoaded_get hvalid (.inl rfl), hce]
  · rw [State.loadTaken, loadShown_get _ (.inl (by simp)), loadFilled_get _ (by simp), regionsLoaded_get hvalid (.inr rfl), hue]

/-! The load's answers -/

theorem loadDone_eq {s : State} (ce : Nat) (ue : List Nat) (hreset : s.inReset = false) (hloaded : s.rst.loaded = false)
    (hcal : (s.spoiled ue).calBad = false) (href : s.board.refclk = true → devSize s.board.refDev < 550) :
    s.loadDone ce ue =
      let t := if ue.any loaderRegion then (s.loadTaken ce ue).fire 0x07 NVM.src.NVM_UE {} else s.loadTaken ce ue
      let t := if t.nvm.calBad then t.fire 0x07 NVM.src.CAL_LOST {} else t
      let t := if t.inReset then t else t.sleepAlarms.tellTampers
      if t.inReset then t else t.startRec := by
  have hboard := (loadTaken_ends ce hcal).board
  have hin : ¬((s.loadTaken ce ue).board.refclk && (s.loadTaken ce ue).flag CLK.OSC_STAT.TRIMMED &&
      decide (550 ≤ devSize (s.loadTaken ce ue).board.refDev)) = true := by
    rw [hboard]
    simp only [Bool.and_eq_true, decide_eq_true_eq]
    rintro ⟨⟨hclk, -⟩, hdev⟩
    have := href hclk
    omega
  have hcases : s.loadDone ce ue =
      if s.inReset || s.rst.loaded then s
      else
        let t := if (s.loadTaken ce ue).board.refclk && (s.loadTaken ce ue).flag CLK.OSC_STAT.TRIMMED &&
          decide (550 ≤ devSize (s.loadTaken ce ue).board.refDev) then (s.loadTaken ce ue).refDeclare false (s.loadTaken ce ue).board.refDev
          else s.loadTaken ce ue
        let t := if ue.any loaderRegion then t.fire 0x07 NVM.src.NVM_UE {} else t
        let t := if t.nvm.calBad then t.fire 0x07 NVM.src.CAL_LOST {} else t
        let t := if t.inReset then t else t.sleepAlarms.tellTampers
        if t.inReset then t else t.startRec := rfl
  rw [hcases, hreset, hloaded, if_neg (by simp), if_neg hin]

section
variable {s : State} (hreset : s.inReset = false) (hloaded : s.rst.loaded = false) (hbad : s.nvm.calBad = false)
  (href : s.board.refclk = true → devSize s.board.refDev < 550)
include hreset hloaded hbad href

/-- A load that meets no uncorrectable error. -/
theorem load_clean (ce : Nat) {ue : List (Fin 9)} (hue : ∀ r ∈ ue, loaderRegion r = false) :
    AnswersVia (.nvmLoadDone ce ue) s (fun u => (let w := u.sleepAlarms.tellTampers; if w.inReset then w else w.startRec).settle) fun u =>
      u.get NVM.ECC.CE_CNT = satAdd 16 (s.get NVM.ECC.CE_CNT) ce % 2 ^ 16 ∧ u.get NVM.ECC.UE_CNT = satAdd 16 (s.get NVM.ECC.UE_CNT) 0 % 2 ^ 16 ∧
      u.rst.loaded = true ∧ u.nvm.calLive = s.nvm.cal ∧ u.nvm.staged = s.nvm.cal ∧ u.get CLK.OSC_STAT.TRIMMED = 1 ∧
      u.get CLK.OSC_STAT.REF_OK = s.board.refclk.toNat ∧ u.get NVM.HDR_CTL.COPY = s.nvm.copy % 2 ∧
      u.get NVM.HDR_SVN.MIN_SVN = s.nvm.minSvn % 65536 ∧
      (∀ c < 64, (u.ch c).valP = s.bptWord c 0 ∧ (u.ch c).cfgP = s.bptWord c 1 ∧
        u.get (BIA.VAL.SPAN (c / 32) (c % 32)) = bits (s.bptWord c 0) 16 2 ∧ u.get (BIA.VAL.CODE (c / 32) (c % 32)) = bits (s.bptWord c 0) 0 16 ∧
        tbit (u.get (BIA.SAFE_MASK.MASK (c / 32))) (c % 32) = tbit (s.bptWord c 3) 0) := by
  have hnone : (ue.map (·.val)).filter loaderRegion = [] := by simpa [List.filter_eq_nil_iff] using hue
  have hany : (ue.map (·.val)).any loaderRegion = false := by simpa [List.any_eq_false] using hue
  have hstore : s.spoiled (ue.map (·.val)) = s.nvm := by rw [State.spoiled, hnone]; rfl
  have hcal : (s.spoiled (ue.map (·.val))).calBad = false := by rw [hstore, hbad]
  have hends := loadTaken_ends ce hcal
  obtain ⟨hce, hue'⟩ := loadTaken_get s ce hcal
  rw [hstore] at hends
  rw [hnone, List.length_nil] at hue'
  obtain ⟨hload, hin, -, ⟨-, hlive, hstaged, -, hvalid⟩, -, htrim, hok, ⟨hcopy, hsvn⟩, hbias⟩ := hends
  have hentry (c : Nat) (hc : c < 64) : (s.loadTaken ce (ue.map (·.val))).biasEntry c = s.bptEntry c :=
    (hbias c hc).trans (bptEntry_congr rfl c)
  simp only [State.biasEntry, State.bptEntry, Prod.mk.injEq] at hentry
  refine answersVia_of (u := s.loadTaken ce (ue.map (·.val))) rfl (congrArg State.settle ?_)
    ⟨?_, ?_, ?_, ?_, ?_, ?_, ?_, ?_, ?_, fun c hc => ?_⟩
  · rw [loadDone_eq ce _ hreset hloaded hcal href, hany]
    simp only [Bool.false_eq_true, if_false, hvalid, hin, hreset]
  exacts [hce, hue', hload, hlive, hstaged, htrim, hok, hcopy, hsvn, hentry c hc]

theorem load_spoiled {i : NvmImage} (hold : Tab.get none s.nvm.old rgCal = some i) :
    AnswersVia (.nvmLoadDone 0 [3]) s (fun u => (let t := u.fire 0x07 NVM.src.NVM_UE {}
        let w := if t.inReset then t else t.sleepAlarms.tellTampers
        if w.inReset then w else w.startRec).settle) fun u =>
      u.nvm.cal = i.cal ∧ u.nvm.calLive = i.cal ∧ u.nvm.staged = i.cal ∧ u.nvm.calUser = i.calUser ∧ Tab.get none u.nvm.old rgCal = none ∧
      u.get NVM.ECC.UE_CNT = satAdd 16 (s.get NVM.ECC.UE_CNT) 1 % 2 ^ 16 := by
  have hstore : s.spoiled [3] = { s.nvm.take rgCal i with old := Tab.set none s.nvm.old rgCal none } := by
    have hspoil : s.spoiled [3] = s.nvm.spoil rgCal := rfl
    rw [hspoil, Nvm.spoil, hold]
  have hcal : (s.spoiled [3]).calBad = false := by rw [hstore]; exact hbad
  have hends := loadTaken_ends 0 hcal
  obtain ⟨-, hue⟩ := loadTaken_get s 0 hcal
  rw [hstore] at hends
  obtain ⟨-, -, -, ⟨hset, hlive, hstaged, huser, hvalid⟩, hother, -, -, -, -⟩ := hends
  have hfired : ((s.loadTaken 0 [3]).fire 0x07 NVM.src.NVM_UE {}).nvm.calBad = false :=
    (fire_stays inClk_REF_OK _ _ _ _).2.trans hvalid
  have hgone : Tab.get none (Tab.set none s.nvm.old rgCal none) rgCal = none := Tab.get_set_same _ _ _ _
  refine answersVia_of (u := s.loadTaken 0 [3]) rfl (congrArg State.settle ?_)
    ⟨hset, hlive, hstaged, huser, (hother rgCal (by decide)).trans hgone, hue⟩
  have hloads : s.loadDone 0 [3] = _ := loadDone_eq 0 [3] hreset hloaded hcal href
  refine hloads.trans ?_
  simp only [show [3].any loaderRegion = true from rfl, if_true, hfired, Bool.false_eq_true, if_false]

end

end Sys2Proof.Machine
end

section
/-! SUPPORT. The counters' boundary, the end of a word group, and PFAIL_N (R45, R76, R344, R404). -/
namespace Sys2Proof.Machine
open Sys2Proof

/-! The counters -/

/-- The next 360 s boundary of operating time has come. -/
def State.boundaryMet (s : State) : State :=
  let b := max (s.nvm.opAt / 360 + 1) ((s.opSec + 359) / 360) * 360
  let s := s.until (s.aon.opFrom + (b - s.aon.opBase) * 983040000)
  { s with nvm := { s.nvm with opAt := b } }

theorem boundaryMet_regs (s : State) : s.boundaryMet.reg = s.reg ∧ s.boundaryMet.nvm = { s.nvm with opAt := s.boundaryMet.nvm.opAt } ∧
    s.now ≤ s.boundaryMet.now ∧ s.boundaryMet.nvm.opAt % 360 = 0 :=
  ⟨rfl, rfl, Nat.le_max_left _ _, Nat.mul_mod_left _ _⟩

theorem counterBoundary_open {s : State} (hreset : s.inReset = false) (hloaded : s.rst.loaded = true) (hpf : s.pfRuns = false)
    (hwait : s.rst.faultWaits = false) : s.counterBoundary = s.boundaryMet.writeCounters := by
  have hcases : s.counterBoundary = if s.inReset || !s.rst.loaded then s
      else if s.pfRuns || s.rst.faultWaits then s.boundaryMet else s.boundaryMet.writeCounters := rfl
  rw [hcases, hreset, hloaded, hpf, hwait]
  rfl

theorem counterWrite_answers {s : State} (hreset : s.inReset = false) (hloaded : s.rst.loaded = true) (hpf : s.pfRuns = false)
    (hwait : s.rst.faultWaits = false) : AnswersSettled .counterWrite s fun u =>
      s.now ≤ u.now ∧ Keeps s u [] ∧ (s.flag THM.STAT.NVM_OK = true → u.nvm.opSec = u.opSec ∧ u.nvm.pcyc = s.get NVM.PCYC.COUNT) ∧
      (s.flag THM.STAT.NVM_OK = false → u.nvm = { s.nvm with opAt := u.nvm.opAt }) ∧ u.nvm.opAt % 360 = 0 := by
  obtain ⟨hreg, hnvm, hnow, hat⟩ := boundaryMet_regs s
  have hflag : s.boundaryMet.flag THM.STAT.NVM_OK = s.flag THM.STAT.NVM_OK := by rw [State.flag, State.get_of_reg hreg]; rfl
  refine answersSettled_of rfl (counterBoundary_open hreset hloaded hpf hwait) ?_
  cases hok : s.flag THM.STAT.NVM_OK with
  | true =>
    have hwritten : s.boundaryMet.writeCounters = { s.boundaryMet with
        nvm := { s.boundaryMet.nvm.renew rgCounters with opSec := s.boundaryMet.opSec, pcyc := s.boundaryMet.get NVM.PCYC.COUNT } } := if_pos (hflag.trans hok)
    rw [hwritten]
    exact ⟨hnow, Keeps.of_reg hreg [], fun _ => ⟨rfl, State.get_of_reg hreg _⟩, fun h => by simp at h, hat⟩
  | false =>
    have hkept : s.boundaryMet.writeCounters = s.boundaryMet := if_neg fun h => by rw [hflag, hok] at h; cases h
    rw [hkept]
    exact ⟨hnow, Keeps.of_reg hreg [], fun h => by simp at h, fun _ => hnvm, hat⟩

/-! The word group -/

theorem wordGroupDone_answers {s : State} (hwait : s.rst.faultWaits = true) (hpf : s.pfRuns = false) :
    AnswersSettled .nvmWordGroupDone s fun u => u.rst.fault = true :=
  answersSettled_of rfl (if_pos (by rw [hwait, hpf]; rfl)) (faultReset_shows s s.rst.waitPage).1

/-! PFAIL_N -/

theorem bench_congr {s t : State} (hrst : t.rst = s.rst) (haon : t.aon.asleep = s.aon.asleep) (hboard : t.board = s.board) :
    t.bench = s.bench := by
  simp only [State.bench, hrst, haon, hboard]

theorem txOff_board (s : State) : s.txOff.board = s.board := by
  have hcut (t : State) (i : Nat) : (t.cut i).board = t.board := rfl
  have hsilence (t : State) (i : Nat) : (t.silence i).board = t.board := rfl
  refine (foldl_keeps State.board State.cut hcut _ _).trans (foldl_keeps State.board _ (fun t i => ?_) _ _)
  dsimp only
  split_ifs
  · rw [hsilence, State.set_board, State.modSlot_board, hcut]
  · exact hcut t i

theorem txOff_bench (s : State) : s.txOff.bench = s.bench := by
  have h := txOff_activity s
  simp only [State.activity, Prod.mk.injEq] at h
  exact bench_congr h.2.1 (congrArg Aon.asleep h.2.2) (txOff_board s)

theorem syncClocks_bench (s : State) : s.syncClocks.bench = s.bench := by
  have hre := syncClocks_reclocked s
  have hrst : s.syncClocks.rst = s.rst := by rw [hre]
  have haon : s.syncClocks.aon = s.aon := by rw [hre]
  exact bench_congr hrst (congrArg Aon.asleep haon) (syncClocks_board s)

theorem unhold_bench (s : State) (b i : Nat) : (s.unhold b i).bench = s.bench := by
  unfold State.unhold
  dsimp only
  split_ifs <;> exact bench_congr rfl rfl rfl

theorem freePower_bench (s : State) : s.freePower.bench = s.bench :=
  foldl_keeps State.bench (fun t i => if false then t.hold hPower i else t.unhold hPower i) (fun t i => unhold_bench t hPower i) _ _

theorem iced_bench (s : State) (b : Bool) : State.bench { s with iced := b } = s.bench := rfl

/-- A channel's limiter freezes. -/
def State.freezeCh (s : State) (c : Nat) : State :=
  if s.get (bState c) = bClamp ∨ s.get (bState c) = bHeld then s else s.set (bState c) bFrozen

theorem freezeCh_bench (s : State) (c : Nat) : (s.freezeCh c).bench = s.bench := by
  unfold State.freezeCh
  split_ifs
  · rfl
  · exact bench_congr rfl rfl rfl

theorem biasFreeze_bench (s : State) : s.biasFreeze.bench = s.bench :=
  (foldl_keeps State.bench State.freezeCh freezeCh_bench (List.range 64) { s with iced := true }).trans (iced_bench s true)

/-- A frozen channel resumes. -/
def State.thawCh (s : State) (c : Nat) : State :=
  if s.get (bState c) = bFrozen then
    (if (s.ch c).range = 0 ∨ (s.biasTarget c).2 ≠ (s.ch c).spanTo then s.startMove c else s.set (bState c) bRange)
  else s

theorem thawCh_bench (s : State) (c : Nat) : (s.thawCh c).bench = s.bench := by
  unfold State.thawCh
  split_ifs
  · exact startMove_bench s c
  · exact bench_congr rfl rfl rfl
  · rfl

theorem biasThaw_bench (s : State) : s.biasThaw.bench = s.bench :=
  (foldl_keeps State.bench State.thawCh thawCh_bench (List.range 64) { s with iced := false }).trans (iced_bench s false)

theorem convDown_bench (s : State) : s.convDown.bench = s.bench := by
  refine (syncClocks_bench _).trans (foldl_keeps State.bench _ (fun t n => ?_) _ _)
  exact bench_congr rfl rfl rfl

/-- The transition in progress has ended where it began. -/
def State.trEnded (s : State) (origin : Nat) : State :=
  let s := { ((s.set PWR.PWR_CMD.BUSY 0).set PWR.PWR_CMD.REQ origin) with tr := none }
  { s with aon := { s.aon with wakeLatch := 0 } }

theorem pwrBack_some {s : State} {t : PwrTr} (h : s.tr = some t) : s.pwrBack =
    let u := if t.origin = pStandby then (s.trEnded t.origin).biasFreeze.convDown else (s.trEnded t.origin).biasThaw
    if t.origin = pRun then u.freePower else u := by
  unfold State.pwrBack
  rw [h]
  rfl

theorem pwrBack_none {s : State} (h : s.tr = none) : s.pwrBack = s := by
  unfold State.pwrBack
  rw [h]

theorem pwrBack_bench (s : State) : s.pwrBack.bench = s.bench := by
  cases h : s.tr with
  | none => rw [pwrBack_none h]
  | some t =>
    have hend : (s.trEnded t.origin).bench = s.bench := bench_congr rfl rfl rfl
    rw [pwrBack_some h]
    dsimp only
    split_ifs
    · rw [freePower_bench, convDown_bench, biasFreeze_bench, hend]
    · rw [freePower_bench, biasThaw_bench, hend]
    · rw [convDown_bench, biasFreeze_bench, hend]
    · rw [biasThaw_bench, hend]

/-! The outputs -/

/-- A change of a slot that does not raise its weight leaves a weight of 0. -/
theorem weight_modSlot {s : State} {i : Nat} (j : Nat) {f : Slot → Slot} (hf : ∀ x : Slot, (f x).weight = x.weight ∨ (f x).weight = 0)
    (h : (s.slot i).weight = 0) : ((s.modSlot j f).slot i).weight = 0 := by
  rw [slot_modSlot]
  split_ifs with e
  · rcases hf (s.slot j) with e' | e'
    · rw [e', ← e, h]
    · exact e'
  · exact h

theorem weight_cut (s : State) (i : Nat) : ((s.cut i).slot i).weight = 0 := by
  have hcut : (s.cut i).slot i = _ := (slot_modSlot s i i _).trans (if_pos rfl)
  rw [hcut]

theorem weight_cut_keeps {s : State} {i : Nat} (j : Nat) (h : (s.slot i).weight = 0) : ((s.cut j).slot i).weight = 0 :=
  weight_modSlot j (fun _ => .inr rfl) h

/-- Cutting a list of slots leaves each of them without weight, and the others no heavier. -/
theorem cuts_weight (l : List Nat) (s : State) {i : Nat} (h : i ∈ l ∨ (s.slot i).weight = 0) : ((l.foldl State.cut s).slot i).weight = 0 := by
  induction l generalizing s with
  | nil => simpa using h
  | cons j l ih =>
    refine ih _ ?_
    by_cases e : i = j
    · subst e; exact .inr (weight_cut s i)
    · exact h.imp (fun h => (List.mem_cons.mp h).resolve_left e) (weight_cut_keeps j)

/-- One enabled slot goes off at the permit gate. -/
def State.slotOffAt (s : State) (i : Nat) : State :=
  if s.get (SLP.SLOT_STAT.STATE i) = stRampUp ∨ s.get (SLP.SLOT_STAT.STATE i) = stOn then
    (((s.cut i).modSlot i fun x => { x with resume := true, muteGain := some (sext 12 (s.get (SLP.GAIN_STAT.APPLIED i))) }).set
      (SLP.SLOT_STAT.STATE i) stHeld).silence i
  else s.cut i

theorem txOff_eq (s : State) : s.txOff = (s.enabled.foldl State.slotOffAt s).cutRamps := rfl

theorem slotOffAt_slots (s : State) (i : Nat) : ∃ f : Slot → Slot, (∀ x, (f x).weight = x.weight) ∧
    ∀ j, (s.slotOffAt i).slot j = ((s.cut i).modSlot i f).slot j := by
  unfold State.slotOffAt
  split_ifs
  · refine ⟨fun x => { x with resume := true, muteGain := some (sext 12 (s.get (SLP.GAIN_STAT.APPLIED i))) }, fun _ => rfl,
      fun j => slot_congr j ?_⟩
    rfl
  · refine ⟨fun x => x, fun _ => rfl, fun j => ?_⟩
    rw [slot_modSlot]
    split_ifs with e
    · rw [e]
    · rfl

theorem slotOffAt_weight (s : State) {i j : Nat} (h : i = j ∨ (s.slot i).weight = 0) : ((s.slotOffAt j).slot i).weight = 0 := by
  obtain ⟨f, hf, hslot⟩ := slotOffAt_slots s j
  rw [hslot]
  refine weight_modSlot j (fun x => .inl (hf x)) ?_
  rcases h with rfl | h
  · exact weight_cut s i
  · exact weight_cut_keeps j h

theorem slotOffs_weight (l : List Nat) (s : State) {i : Nat} (h : i ∈ l ∨ (s.slot i).weight = 0) :
    ((l.foldl State.slotOffAt s).slot i).weight = 0 := by
  induction l generalizing s with
  | nil => simpa using h
  | cons j l ih =>
    refine ih _ ?_
    by_cases e : i = j
    · exact .inr (slotOffAt_weight s (.inl e))
    · exact h.imp (fun h => (List.mem_cons.mp h).resolve_left e) fun h => slotOffAt_weight s (.inr h)

/-- A slot that is not among those that go off keeps its state. -/
theorem slotOffs_STATE (l : List Nat) (s : State) {i : Nat} (h : i ∉ l) :
    (l.foldl State.slotOffAt s).get (SLP.SLOT_STAT.STATE i) = s.get (SLP.SLOT_STAT.STATE i) := by
  refine foldl_keeps_mem (fun t : State => t.get (SLP.SLOT_STAT.STATE i)) _ _ (fun t j hj => ?_) s
  have hne : i ≠ j := fun e => h (e ▸ hj)
  have hcut : (t.cut j).get (SLP.SLOT_STAT.STATE i) = t.get (SLP.SLOT_STAT.STATE i) := State.get_of_reg rfl _
  have hmod (u : State) (f : Slot → Slot) : (u.modSlot j f).get (SLP.SLOT_STAT.STATE i) = u.get (SLP.SLOT_STAT.STATE i) := State.get_of_reg rfl _
  unfold State.slotOffAt
  split_ifs
  · rw [silence_STATE, State.get_set_of_key_ne _ _ (by simp [slotBase]; omega), hmod, hcut]
  · exact hcut

/-- After all transmission has gone off, no enabled slot has an output. -/
theorem txOff_weight {s : State} {i : Nat} (hi : i ∈ s.active) (hlo : 1 < s.get (SLP.SLOT_STAT.STATE i)) (hhi : s.get (SLP.SLOT_STAT.STATE i) < 7) :
    (s.txOff.slot i).weight = 0 := by
  have hactive : (s.enabled.foldl State.slotOffAt s).active = s.active := by
    have hcut (t : State) (j : Nat) : (t.cut j).active = t.active := rfl
    have hsilence (t : State) (j : Nat) : (t.silence j).active = t.active := rfl
    refine foldl_keeps State.active _ (fun t j => ?_) _ _
    unfold State.slotOffAt
    split_ifs
    · rw [hsilence, State.set_active, State.modSlot_active, hcut]
    · exact hcut t j
  rw [txOff_eq]
  refine cuts_weight _ _ ?_
  by_cases h : i ∈ s.enabled
  · exact .inr (slotOffs_weight _ s (.inl h))
  · have hstate := slotOffs_STATE s.enabled s h
    have hramp : s.get (SLP.SLOT_STAT.STATE i) = stRampDown := by
      have hnot : ¬(stPrep ≤ s.get (SLP.SLOT_STAT.STATE i) ∧ s.get (SLP.SLOT_STAT.STATE i) ≤ stHeld) := fun e =>
        h (List.mem_filter.mpr ⟨hi, by simpa using e⟩)
      simp only [stPrep, stHeld, stRampDown] at hnot ⊢
      omega
    exact .inl (List.mem_filter.mpr ⟨by rwa [hactive], by rw [hstate, hramp]; rfl⟩)

/-! The edge of PFAIL_N -/

/-- PFAIL_N is low and the power-fail sequence runs. -/
def State.pfailBegun (s : State) : State :=
  { s with board := { s.board with pfailN := false }, rst := { s.rst with pf := .running } }

/-- The transmission is off, and a transition that PFAIL_N ends is given up. -/
def State.pfailOff (s : State) : State := if s.latchedEntry then s.pfailBegun.txOff else s.pfailBegun.pwrBack.txOff

theorem pfailEdge_runs {s : State} (hasleep : s.aon.asleep = false) (hreset : s.inReset = false) (hloaded : s.rst.loaded = true)
    (hpf : s.rst.pf = .idle) : s.pfailEdge = s.pfailOff.pfailTell (if s.latchedEntry then none else s.tr) := by
  have hcases : s.pfailEdge = if s.aon.asleep then { s with board := { s.board with pfailN := false } }
      else if s.inReset then
        { State.markCause { s with board := { s.board with pfailN := false } } .pfail with
          rst := { s.rst with pfail := true, pfailAt := s.now, pf := .held, loaded := false }, aon := { s.aon with trip := false } }
      else if !s.rst.loaded then
        { State.chipReset { s with board := { s.board with pfailN := false } } .pfail with
          rst := { (State.chipReset { s with board := { s.board with pfailN := false } } .pfail).rst with pf := .held } }
      else if s.rst.pf != .idle then { s with board := { s.board with pfailN := false } }
      else if s.latchedEntry then s.pfailBegun.txOff.pfailTell none else s.pfailBegun.pwrBack.txOff.pfailTell s.tr := rfl
  rw [hcases, hasleep, hreset, hloaded, hpf]
  simp only [Bool.false_eq_true, if_false, Bool.not_true, bne_self_eq_false, State.pfailOff]
  split_ifs <;> rfl

theorem pfailOff_bench (s : State) : s.pfailOff.bench = s.pfailBegun.bench := by
  unfold State.pfailOff
  split_ifs
  · exact txOff_bench _
  · exact (txOff_bench _).trans (pwrBack_bench _)

theorem pfailOff_shows (s : State) : s.pfailOff.rst.pf = .running ∧ s.pfailOff.board.pfailN = false ∧ s.pfailOff.pfRuns = true ∧
    (s.tr = none → ∀ i ∈ s.active, 1 < s.get (SLP.SLOT_STAT.STATE i) → s.get (SLP.SLOT_STAT.STATE i) < 7 → (s.pfailOff.slot i).weight = 0) ∧
    ∀ p, s.pfailOff.portOpen p = false := by
  have hbench := pfailOff_bench s
  simp only [State.bench, Prod.mk.injEq] at hbench
  obtain ⟨hrst, -, hboard⟩ := hbench
  have hruns : s.pfailOff.pfRuns = true := by rw [State.pfRuns, hrst]; rfl
  refine ⟨by rw [hrst]; rfl, by rw [hboard]; rfl, hruns, fun htr i hi hlo hhi => ?_, fun p => ?_⟩
  · have hentry : s.latchedEntry = false := by rw [State.latchedEntry, htr]
    have hoff : s.pfailOff = s.pfailBegun.txOff := by
      rw [State.pfailOff, hentry, pwrBack_none (s := s.pfailBegun) htr]
      rfl
    rw [hoff]
    exact txOff_weight (s := s.pfailBegun) hi hlo hhi
  · simp [State.portOpen, hruns]

theorem pfailWarn_answers {s : State} (hasleep : s.aon.asleep = false) (hreset : s.inReset = false) (hloaded : s.rst.loaded = true)
    (hpf : s.rst.pf = .idle) :
    AnswersVia .pfailWarn s (fun u => (u.pfailTell (if s.latchedEntry then none else s.tr)).settle) fun u =>
      u.rst.pf = .running ∧ u.board.pfailN = false ∧ u.pfRuns = true ∧
      (s.tr = none → ∀ i ∈ s.active, 1 < s.get (SLP.SLOT_STAT.STATE i) → s.get (SLP.SLOT_STAT.STATE i) < 7 → (u.slot i).weight = 0) ∧
      ∀ p, u.portOpen p = false :=
  answersVia_of (u := s.pfailOff) rfl (congrArg State.settle (pfailEdge_runs hasleep hreset hloaded hpf)) (pfailOff_shows s)

end Sys2Proof.Machine
end

section
/-! SUPPORT. Requests of the NVM controller: queued, refused and ended (R396). -/
namespace Sys2Proof.Machine
open Sys2Proof

/-! The store -/

/-- The part with another NVM store. -/
def State.withNvm (s : State) (n : Nvm) : State := { s with nvm := n }

@[simp] theorem State.withNvm_nvm (s : State) (n : Nvm) : (s.withNvm n).nvm = n := rfl

/-! What the status registers show of the queue -/

theorem syncNvm_eq (s : State) : s.syncNvm = (((((s.put NVM.STAT.BUSY (!s.nvm.queue.isEmpty)).set NVM.STAT.REGION
    ((s.nvm.queue.head?.map (·.region)).getD 0)).put NVM.CAL_CTL.PEND (s.nvm.holds rgCal)).put NVM.BPT_CTL.PEND (s.nvm.holds rgBias)).put
    NVM.HDR_CTL.PEND (s.nvm.queue.any fun q => q.region == rgHeader && !q.tansy)).put CAN.SNAP_STAT.BUSY (s.nvm.holds rgSnap) := rfl

theorem bool_mod_two (b : Bool) : b.toNat % 2 = b.toNat := by cases b <;> rfl

theorem syncNvm_shows (s : State) : s.syncNvm.get NVM.STAT.BUSY = (!s.nvm.queue.isEmpty).toNat ∧
    s.syncNvm.get NVM.CAL_CTL.PEND = (s.nvm.holds rgCal).toNat ∧ s.syncNvm.get NVM.BPT_CTL.PEND = (s.nvm.holds rgBias).toNat ∧
    s.syncNvm.get NVM.HDR_CTL.PEND = (s.nvm.queue.any fun q => q.region == rgHeader && !q.tansy).toNat := by
  rw [syncNvm_eq]
  simp [State.put, bool_mod_two]

theorem syncNvm_COPY (s : State) : s.syncNvm.get NVM.HDR_CTL.COPY = s.get NVM.HDR_CTL.COPY := by
  rw [syncNvm_eq]
  simp [State.put]

/-! A request -/

/-- A request stands last in the queue. -/
def State.queued (s : State) (r : NvmReq) : State := (s.withNvm { s.nvm with queue := s.nvm.queue ++ [r] }).syncNvm

/-- A request has ended with a cause; its source has still to fire. -/
def State.nvmEnded (s : State) (region cause : Nat) : State := (s.set NVM.RESULT.CAUSE cause).set NVM.RESULT.REGION region

theorem nvmEnded_nvm (s : State) (region cause : Nat) : (s.nvmEnded region cause).nvm = s.nvm := rfl

theorem nvmEnded_shows (s : State) (region cause : Nat) : (s.nvmEnded region cause).get NVM.RESULT.CAUSE = cause % 16 ∧
    (s.nvmEnded region cause).get NVM.RESULT.REGION = region % 16 := by
  simp [State.nvmEnded]

theorem Keeps.nvmEnded {s t : State} {ks : List Nat} (h : Keeps s t ks) (region cause : Nat) (hc : NVM.RESULT.CAUSE.key ∈ ks)
    (hr : NVM.RESULT.REGION.key ∈ ks) : Keeps s (t.nvmEnded region cause) ks := (h.set cause hc).set region hr

theorem nvmEnd_done (s : State) (m region : Nat) : s.nvmEnd m region 1 = (s.nvmEnded region 1).fire 0x07 NVM.src.WR_DONE { master := m } := rfl

theorem nvmEnd_refused (s : State) (m region : Nat) {cause : Nat} (h : cause ≠ 1) :
    s.nvmEnd m region cause = (s.nvmEnded region cause).fire 0x07 NVM.src.WR_REFUSED { master := m } := by
  unfold State.nvmEnd
  rw [if_neg h]
  rfl

/-- The causes that refuse a request at once are 2, 3 and 4. -/
theorem nvmCause_values (s : State) (r : Nat) : s.nvmCause r ≠ 1 ∧ s.nvmCause r < 16 := by
  unfold State.nvmCause
  split_ifs <;> decide

theorem nvmCause_congr {s t : State} (hok : t.get THM.STAT.NVM_OK = s.get THM.STAT.NVM_OK) (hrst : t.rst = s.rst) (hnvm : t.nvm = s.nvm) (r : Nat) :
    t.nvmCause r = s.nvmCause r := by
  unfold State.nvmCause State.flag State.pfRuns
  rw [hok, hrst, hnvm]

theorem nvmRequest_queued {s : State} {r : NvmReq} (m : Nat) (h : s.nvmCause r.region = 0) : s.nvmRequest m r = s.queued r := if_pos h

theorem nvmRequest_refused {s : State} {r : NvmReq} (m : Nat) (h : s.nvmCause r.region ≠ 0) :
    s.nvmRequest m r = (s.nvmEnded r.region (s.nvmCause r.region)).fire 0x07 NVM.src.WR_REFUSED { master := m } :=
  (if_neg h).trans (nvmEnd_refused s m r.region (nvmCause_values s r.region).1)

/-- A request that a master makes shows in its PEND bit, and the store is busy. -/
theorem queued_shows (s : State) (r : NvmReq) : (s.queued r).get NVM.STAT.BUSY = 1 ∧
    (r.region = rgCal → (s.queued r).get NVM.CAL_CTL.PEND = 1) ∧ (r.region = rgBias → (s.queued r).get NVM.BPT_CTL.PEND = 1) ∧
    (r.region = rgHeader → r.tansy = false → (s.queued r).get NVM.HDR_CTL.PEND = 1) := by
  obtain ⟨hbusy, hcal, hbpt, hhdr⟩ := syncNvm_shows (s.withNvm { s.nvm with queue := s.nvm.queue ++ [r] })
  refine ⟨hbusy.trans ?_, fun h => hcal.trans ?_, fun h => hbpt.trans ?_, fun h h' => hhdr.trans ?_⟩
  · simp
  · simp [Nvm.holds, h]
  · simp [Nvm.holds, h]
  · simp [h, h']

/-! A control register with a KEY field -/

/-- A write that the fabric takes carries the right KEY. -/
theorem keyed_of_takes {s : State} {m : Master} {a : Nat} {v : Word} (region : Nat) (f : State → State) (h : s.takes m a v) (ha : pageOf a ≠ 4) :
    s.keyed m a v region f = f (s.outcome m 0) := by
  unfold State.keyed
  rw [h.2]
  exact guarded_of_takes f h ha

end Sys2Proof.Machine
end

section
/-! SUPPORT. Accesses of the calibration set, of the bias power-up table and of the boot header (R399 to R403). -/
namespace Sys2Proof.Machine
open Sys2Proof

/-- A bit of a written word as a field's value. -/
theorem bits_bit (v : Word) (i : Nat) : bits v.toNat i 1 = (v.getLsbD i).toNat := (Nat.toNat_testBit v.toNat i).symm

section
variable {s : State} {m : Master} {v : Word}

/-! CAL_DATA -/

theorem calNext_INDEX (s : State) : s.calNext.get NVM.CAL_SEL.INDEX = (s.get NVM.CAL_SEL.INDEX + 1) % 2048 :=
  State.get_set_same s NVM.CAL_SEL.INDEX _

theorem calNext_keeps (s : State) : Keeps s s.calNext [NVM.CAL_SEL.INDEX.key] := (Keeps.refl s _).set _ (by simp)

theorem calNext_nvm (s : State) : s.calNext.nvm = s.nvm := rfl

theorem calData_pending (h : s.flag NVM.CAL_CTL.PEND = true) : s.calData v = s.calNext := if_pos h

theorem calData_open (h : s.flag NVM.CAL_CTL.PEND = false) :
    s.calData v = (s.withNvm { s.nvm with staged := Tab.set 0 s.nvm.staged (s.get NVM.CAL_SEL.INDEX) v.toNat }).calNext :=
  if_neg (by rw [h]; decide)

theorem calData_shows (s : State) (v : Word) : (s.calData v).get NVM.CAL_SEL.INDEX = (s.get NVM.CAL_SEL.INDEX + 1) % 2048 ∧
    (s.calData v).nvm.cal = s.nvm.cal ∧ (∀ e, Tab.get 0 (s.calData v).nvm.staged e =
      if e = s.get NVM.CAL_SEL.INDEX ∧ s.flag NVM.CAL_CTL.PEND = false then v.toNat else Tab.get 0 s.nvm.staged e) ∧
    Keeps s (s.calData v) [NVM.CAL_SEL.INDEX.key] := by
  cases h : s.flag NVM.CAL_CTL.PEND with
  | true =>
    rw [calData_pending h]
    exact ⟨calNext_INDEX s, rfl, fun e => by simp [calNext_nvm], calNext_keeps s⟩
  | false =>
    rw [calData_open h]
    refine ⟨calNext_INDEX _, rfl, fun e => ?_, calNext_keeps _⟩
    rw [calNext_nvm, State.withNvm_nvm, Tab.get_set]
    simp

theorem calDataWrite_answers (h : s.takes m 0x7054 v) : Answers (.calDataAccess m true v) s fun u =>
    u.get NVM.CAL_SEL.INDEX = (s.get NVM.CAL_SEL.INDEX + 1) % 2048 ∧ u.nvm.cal = s.nvm.cal ∧ (∀ e, Tab.get 0 u.nvm.staged e =
      if e = s.get NVM.CAL_SEL.INDEX ∧ s.flag NVM.CAL_CTL.PEND = false then v.toNat else Tab.get 0 s.nvm.staged e) ∧
    Keeps s u [NVM.CAL_SEL.INDEX.key] :=
  answers_of rfl (guarded_of_takes (fun t => t.calData v) h (by decide)) (calData_shows (s.outcome m 0) v)

theorem calDataRead_answers (h : s.reaches m) (hon : s.pageOff 0x07 = false) : Answers (.calDataAccess m false v) s fun u =>
    u.out = [BitVec.ofNat 32 (Tab.get 0 s.nvm.staged (s.get NVM.CAL_SEL.INDEX))] ∧ u.nvm = s.nvm ∧
    (s.readsWithEffect m 0x07 = true → u.get NVM.CAL_SEL.INDEX = (s.get NVM.CAL_SEL.INDEX + 1) % 2048) ∧
    (s.readsWithEffect m 0x07 = false → Keeps s u []) ∧ Keeps s u [NVM.CAL_SEL.INDEX.key] := by
  refine answers_of rfl (ask_readBy_on State.calWord State.calNext h (by decide) hon) ?_
  rw [show pageOf 0x7054 = 0x07 from rfl]
  cases hr : s.readsWithEffect m 0x07 with
  | true => exact ⟨rfl, rfl, fun _ => calNext_INDEX s.ask, nofun, (calNext_keeps s.ask).reg_eq rfl⟩
  | false => exact ⟨rfl, rfl, nofun, fun _ => Keeps.of_reg rfl _, Keeps.of_reg rfl _⟩

/-! CAL_CTL -/

/-- The state in which a write of CAL_CTL that the fabric takes has stored CHECK_EN. -/
def State.calChecked (s : State) (m : Master) (v : Word) : State := (s.outcome m 0).set NVM.CAL_CTL.CHECK_EN (v.getLsbD 2).toNat

theorem calChecked_keeps (s : State) (m : Master) (v : Word) : Keeps s (s.calChecked m v) [NVM.CAL_CTL.CHECK_EN.key] :=
  (Keeps.of_reg (State.outcome_reg s m 0) _).set _ (by simp)

theorem calChecked_nvmCause (s : State) (m : Master) (v : Word) (r : Nat) : (s.calChecked m v).nvmCause r = s.nvmCause r :=
  nvmCause_congr (calChecked_keeps s m v _ (by simp)) rfl rfl r

/-- CHECK_EN is set and the staged set has another CRC-32 than the expected one. -/
def State.calFails (s : State) (v : Word) : Bool := v.getLsbD 2 && s.calCrc != s.get NVM.CAL_CRC_EXP.CRC

theorem calChecked_fails (s : State) (m : Master) (v : Word) :
    ((s.calChecked m v).flag NVM.CAL_CTL.CHECK_EN && (s.calChecked m v).calCrc != (s.calChecked m v).get NVM.CAL_CRC_EXP.CRC) = s.calFails v := by
  have hflag : (s.calChecked m v).flag NVM.CAL_CTL.CHECK_EN = v.getLsbD 2 := by
    rw [State.flag, State.calChecked, State.get_set_same]
    cases v.getLsbD 2 <;> rfl
  have hexp : (s.calChecked m v).get NVM.CAL_CRC_EXP.CRC = s.get NVM.CAL_CRC_EXP.CRC := calChecked_keeps s m v _ (by simp)
  have hcrc : (s.calChecked m v).calCrc = s.calCrc := rfl
  rw [hflag, hexp, hcrc]
  rfl

theorem writeReg_CAL_CTL (s : State) (v : Word) : s.writeReg 0x705C v = s.set NVM.CAL_CTL.CHECK_EN (v.getLsbD 2).toNat := by
  rw [← bits_bit]
  rfl

theorem calCtlWrite_commits (h : s.takes m 0x705C v) (hwrite : v.getLsbD 0 = true) (hrevert : v.getLsbD 1 = false) :
    s.calCtlWrite m v = if s.calFails v then (s.calChecked m v).nvmEnd m.num rgCal 5
      else (s.calChecked m v).nvmRequest m.num { region := rgCal, data := s.nvm.staged } := by
  rw [State.calCtlWrite, keyed_of_takes _ _ h (by decide), State.calCtl, writeReg_CAL_CTL, hwrite, hrevert, ← calChecked_fails s m v]
  rfl

theorem calCtlWrite_reverts (h : s.takes m 0x705C v) (hwrite : v.getLsbD 0 = false) (hrevert : v.getLsbD 1 = true) :
    s.calCtlWrite m v = (s.calChecked m v).withNvm { s.nvm with staged := s.nvm.cal } := by
  rw [State.calCtlWrite, keyed_of_takes _ _ h (by decide), State.calCtl, writeReg_CAL_CTL, hwrite, hrevert]
  rfl

theorem calCommit_fails (h : s.takes m 0x705C v) (hwrite : v.getLsbD 0 = true) (hrevert : v.getLsbD 1 = false) (hcheck : v.getLsbD 2 = true)
    (hcrc : s.calCrc ≠ s.get NVM.CAL_CRC_EXP.CRC) :
    AnswersVia (.calCommit m v) s (fun u => (u.fire 0x07 NVM.src.WR_REFUSED { master := m.num }).settle) fun u =>
      u.get NVM.RESULT.CAUSE = 5 ∧ u.get NVM.RESULT.REGION = 3 ∧ u.nvm = s.nvm ∧
      Keeps s u [NVM.RESULT.CAUSE.key, NVM.RESULT.REGION.key, NVM.CAL_CTL.CHECK_EN.key] := by
  have hfails : s.calFails v = true := by simp [State.calFails, hcheck, hcrc]
  have hends : s.calCtlWrite m v = ((s.calChecked m v).nvmEnded rgCal 5).fire 0x07 NVM.src.WR_REFUSED { master := m.num } := by
    rw [calCtlWrite_commits h hwrite hrevert, if_pos hfails, nvmEnd_refused _ _ _ (by decide)]
  obtain ⟨hcause, hregion⟩ := nvmEnded_shows (s.calChecked m v) rgCal 5
  exact answersVia_of rfl (congrArg State.settle hends) ⟨hcause, hregion, rfl,
    ((calChecked_keeps s m v).mono (by simp)).nvmEnded _ _ (by simp) (by simp)⟩

section
variable (h : s.takes m 0x705C v) (hwrite : v.getLsbD 0 = true) (hrevert : v.getLsbD 1 = false)
  (hpass : v.getLsbD 2 = false ∨ s.calCrc = s.get NVM.CAL_CRC_EXP.CRC)
include h hwrite hrevert hpass

theorem calCtlWrite_requests :
    s.calCtlWrite m v = (s.calChecked m v).nvmRequest m.num { region := rgCal, data := s.nvm.staged } := by
  have hfails : ¬s.calFails v = true := by
    rcases hpass with hoff | hcrc
    · rw [State.calFails, hoff]; simp
    · simp [State.calFails, hcrc]
  rw [calCtlWrite_commits h hwrite hrevert, if_neg hfails]

theorem calCommit_queues (hcause : s.nvmCause 3 = 0) : AnswersSettled (.calCommit m v) s fun u =>
    u.nvm.queue = s.nvm.queue ++ [{ region := 3, data := s.nvm.staged }] ∧ u.nvm.cal = s.nvm.cal ∧ u.nvm.staged = s.nvm.staged ∧
    u.get NVM.CAL_CTL.PEND = 1 ∧ u.get NVM.STAT.BUSY = 1 := by
  have hqueues := (calCtlWrite_requests h hwrite hrevert hpass).trans
    (nvmRequest_queued m.num ((calChecked_nvmCause s m v 3).trans hcause))
  obtain ⟨hbusy, hpend, -, -⟩ := queued_shows (s.calChecked m v) { region := rgCal, data := s.nvm.staged }
  exact answersSettled_of rfl hqueues ⟨rfl, rfl, rfl, hpend rfl, hbusy⟩

theorem calCommit_refused (hcause : s.nvmCause 3 ≠ 0) :
    AnswersVia (.calCommit m v) s (fun u => (u.fire 0x07 NVM.src.WR_REFUSED { master := m.num }).settle) fun u =>
      u.get NVM.RESULT.CAUSE = s.nvmCause 3 ∧ u.nvm = s.nvm := by
  have hends := (calCtlWrite_requests h hwrite hrevert hpass).trans
    (nvmRequest_refused m.num (by rw [calChecked_nvmCause]; exact hcause))
  rw [calChecked_nvmCause] at hends
  refine answersVia_of rfl (congrArg State.settle hends) ⟨?_, rfl⟩
  exact (nvmEnded_shows _ _ _).1.trans (Nat.mod_eq_of_lt (nvmCause_values s 3).2)

end

theorem calRevert_answers (h : s.takes m 0x705C v) (hwrite : v.getLsbD 0 = false) (hrevert : v.getLsbD 1 = true) :
    AnswersSettled (.calRevert m v) s fun u => u.nvm = { s.nvm with staged := s.nvm.cal } ∧ Keeps s u [NVM.CAL_CTL.CHECK_EN.key] :=
  answersSettled_of rfl (calCtlWrite_reverts h hwrite hrevert) ⟨rfl, (calChecked_keeps s m v).reg_eq rfl⟩

/-! BPT_CTL -/

/-- The table of the channels is that of the register file. -/
theorem bptImage_congr {s t : State} (h : t.reg = s.reg) : t.bptImage = s.bptImage := by
  have hget : t.get = s.get := funext (State.get_of_reg h)
  unfold State.bptImage State.assemble
  rw [hget]

theorem bptSave_answers (h : s.takes m 0x7070 v) (hsave : v.getLsbD 0 = true) (hcause : s.nvmCause 4 = 0) :
    AnswersSettled (.bptSave m v) s fun u => u.nvm.queue = s.nvm.queue ++ [{ region := 4, data := s.bptImage }] ∧ u.nvm.bpt = s.nvm.bpt ∧
      u.get NVM.BPT_CTL.PEND = 1 := by
  have hqueues : s.bptCtlWrite m v = (s.outcome m 0).queued { region := rgBias, data := s.bptImage } := by
    rw [State.bptCtlWrite, keyed_of_takes _ _ h (by decide), if_pos hsave, bptImage_congr (State.outcome_reg s m 0)]
    exact nvmRequest_queued m.num hcause
  obtain ⟨-, -, hpend, -⟩ := queued_shows (s.outcome m 0) { region := rgBias, data := s.bptImage }
  exact answersSettled_of rfl hqueues ⟨rfl, rfl, hpend rfl⟩

/-! HDR_CTL -/

/-- The state in which a write of HDR_CTL that the fabric takes has stored COPY. -/
def State.hdrChosen (s : State) (m : Master) (v : Word) : State := (s.outcome m 0).set NVM.HDR_CTL.COPY (v.getLsbD 4).toNat

theorem hdrChosen_keeps (s : State) (m : Master) (v : Word) : Keeps s (s.hdrChosen m v) [NVM.HDR_CTL.COPY.key] :=
  (Keeps.of_reg (State.outcome_reg s m 0) _).set _ (by simp)

theorem hdrChosen_COPY (s : State) (m : Master) (v : Word) : (s.hdrChosen m v).get NVM.HDR_CTL.COPY = (v.getLsbD 4).toNat :=
  (State.get_set_same _ _ _).trans (bool_mod_two _)

theorem writeReg_HDR_CTL (s : State) (v : Word) : s.writeReg 0x7074 v = s.set NVM.HDR_CTL.COPY (v.getLsbD 4).toNat := by
  rw [← bits_bit]
  rfl

/-- After a word for each place of a list, each place has its own. -/
theorem Tab.get_foldl_set [DecidableEq α] (dflt v : Nat → α) (place : Nat → Nat) (hinj : ∀ i j, place i = place j → i = j) (l : List Nat) (t : Tab α)
    {j : Nat} (h : j ∈ l ∨ Tab.get (dflt j) t (place j) = v j) :
    Tab.get (dflt j) (l.foldl (fun t k => Tab.set (dflt k) t (place k) (v k)) t) (place j) = v j := by
  induction l generalizing t with
  | nil => simpa using h
  | cons k l ih =>
    refine ih _ ?_
    by_cases e : j = k
    · subst e; exact .inr (Tab.get_set_same _ _ _ _)
    · refine h.imp (fun h => (List.mem_cons.mp h).resolve_left e) fun h => ?_
      rw [Tab.get_set_ne _ _ _ _ fun e' => e (hinj j k e'), h]

/-- Places that a list does not name keep their words. -/
theorem Tab.get_foldl_set_ne [DecidableEq α] (d : α) (dflt v : Nat → α) (place : Nat → Nat) (l : List Nat) (t : Tab α) {j : Nat}
    (h : ∀ k ∈ l, place k ≠ j) : Tab.get d (l.foldl (fun t k => Tab.set (dflt k) t (place k) (v k)) t) j = Tab.get d t j :=
  foldl_keeps_mem (fun t => Tab.get d t j) _ _ (fun t k hk => Tab.get_set_ne d _ t _ fun e => h k hk e.symm) t

theorem hdrImage_COPY (s : State) : Tab.get 0 s.hdrImage 0 = s.get NVM.HDR_CTL.COPY :=
  (Tab.get_foldl_set_ne 0 (fun _ => 0) _ (· + 1) _ _ fun k _ => Nat.succ_ne_zero k).trans (Tab.get_set_same _ _ _ _)

theorem hdrImage_MASK (s : State) {d : Nat} (hd : d < 4) : Tab.get 0 s.hdrImage (d + 1) = s.get (NVM.HDR_DELEG.MASK d) :=
  Tab.get_foldl_set (fun _ => 0) (fun d => s.get (NVM.HDR_DELEG.MASK d)) (· + 1) (fun _ _ e => Nat.succ.inj e) _ _ (.inl (List.mem_range.mpr hd))

theorem hdrCommit_answers (h : s.takes m 0x7074 v) (hwrite : v.getLsbD 0 = true) (hcause : s.nvmCause 0 = 0) :
    AnswersSettled (.hdrCommit m v) s fun u =>
      (∃ r, u.nvm.queue = s.nvm.queue ++ [r] ∧ r.region = 0 ∧ r.tansy = false ∧ Tab.get 0 r.data 0 = (v.getLsbD 4).toNat ∧
        ∀ d < 4, Tab.get 0 r.data (d + 1) = s.get (NVM.HDR_DELEG.MASK d)) ∧
      u.get NVM.HDR_CTL.COPY = (v.getLsbD 4).toNat ∧ u.get NVM.HDR_CTL.PEND = 1 ∧ u.nvm.copy = s.nvm.copy := by
  have hcause' : (s.hdrChosen m v).nvmCause 0 = 0 := (nvmCause_congr (hdrChosen_keeps s m v _ (by simp)) rfl rfl 0).trans hcause
  have hqueues : s.hdrCtlWrite m v = (s.hdrChosen m v).queued { region := rgHeader, data := (s.hdrChosen m v).hdrImage } := by
    rw [State.hdrCtlWrite, keyed_of_takes _ _ h (by decide), writeReg_HDR_CTL, if_pos hwrite]
    exact nvmRequest_queued m.num hcause'
  obtain ⟨-, -, -, hpend⟩ := queued_shows (s.hdrChosen m v) { region := rgHeader, data := (s.hdrChosen m v).hdrImage }
  refine answersSettled_of rfl hqueues ⟨⟨_, rfl, rfl, rfl, ?_, fun d hd => ?_⟩, ?_, hpend rfl rfl, rfl⟩
  · exact (hdrImage_COPY _).trans (hdrChosen_COPY s m v)
  · exact (hdrImage_MASK _ hd).trans (hdrChosen_keeps s m v _ (by simp; omega))
  · exact (syncNvm_COPY _).trans (hdrChosen_COPY s m v)

end

end Sys2Proof.Machine
end

section
/-! O55. The NVM load, region writes, the counters and power fail. -/
namespace Sys2Proof.Machine
open Sys2Proof

/-! What a region holds after its write -/

theorem renew_regs (n : Nvm) (r : Nat) : (n.renew r).calLive = n.calLive ∧ (n.renew r).cal = n.cal ∧ (n.renew r).calUser = n.calUser ∧
    (n.renew r).minSvn = n.minSvn := by
  unfold Nvm.renew
  split_ifs <;> exact ⟨rfl, rfl, rfl, rfl⟩

theorem commit_calLive (n : Nvm) (q : NvmReq) : (n.commit q).calLive = n.calLive := by
  unfold Nvm.commit
  split_ifs <;> rfl

theorem commit_cal {n : Nvm} {q : NvmReq} (h : q.region = 3) : (n.commit q).cal = q.data ∧
    ∀ e < 2048, (n.commit q).calUser.contains e = true ↔ n.calUser.contains e = true ∨ Tab.get 0 q.data e ≠ Tab.get 0 n.cal e := by
  have hcommit : n.commit q = { n with
      cal := q.data, calBad := false
      calUser := ((List.range 2048).filter fun e => Tab.get 0 q.data e != Tab.get 0 n.cal e).foldl NSet.add n.calUser } := if_pos h
  rw [hcommit]
  refine ⟨rfl, fun e he => ?_⟩
  simp only [List.contains_iff_mem, NSet.mem_foldl_add, List.mem_filter, List.mem_range, bne_iff_ne]
  tauto

theorem commit_bpt {n : Nvm} {q : NvmReq} (h : q.region = 4) {k : Nat} (hk : k < 256) :
    Tab.get (bptShipped (k % 4)) (n.commit q).bpt k = Tab.get 0 q.data k := by
  have hcommit : (n.commit q).bpt = (List.range 256).foldl (fun t k => Tab.set (bptShipped (k % 4)) t k (Tab.get 0 q.data k)) [] := by
    rw [Nvm.commit, if_neg (by rw [h]; decide), if_pos h]
  rw [hcommit]
  exact Tab.get_foldl_set (fun k => bptShipped (k % 4)) (Tab.get 0 q.data) id (fun _ _ e => e) _ _ (.inl (List.mem_range.mpr hk))

theorem commit_header {n : Nvm} {q : NvmReq} (h : q.region = 0) (htansy : q.tansy = false) :
    (n.commit q).copy = Tab.get 0 q.data 0 ∧ (n.commit q).minSvn = n.minSvn ∧
    ∀ d < 4, Tab.get (delegFactory d) (n.commit q).deleg d = Tab.get 0 q.data (d + 1) := by
  have hcommit : n.commit q = { n with
      copy := Tab.get 0 q.data 0
      deleg := (List.range 4).foldl (fun t d => Tab.set (delegFactory d) t d (Tab.get 0 q.data (d + 1))) [] } := by
    rw [Nvm.commit, if_neg (by rw [h]; decide), if_neg (by rw [h]; decide), if_pos h, if_neg (by rw [htansy]; decide)]
  rw [hcommit]
  refine ⟨rfl, rfl, fun d hd => ?_⟩
  exact Tab.get_foldl_set delegFactory (fun d => Tab.get 0 q.data (d + 1)) id (fun _ _ e => e) _ _ (.inl (List.mem_range.mpr hd))

/-! The end of a region write -/

/-- The store is `n`, and the front request has left the queue. -/
def State.dequeued (s : State) (n : Nvm) (rest : List NvmReq) : State := (s.withNvm { n with queue := rest }).syncNvm

theorem dequeued_nvm (s : State) (n : Nvm) (rest : List NvmReq) : (s.dequeued n rest).nvm = { n with queue := rest } := rfl

section
variable {s : State} {q : NvmReq} {rest : List NvmReq} (hq : s.nvm.queue = q :: rest) (hsnap : q.region ≠ 8) (htansy : q.tansy = false)
include hq hsnap htansy

theorem nvmDone_stored : s.nvmDone true = (s.dequeued ((s.nvm.renew q.region).commit q) rest).nvmEnd 7 q.region 1 := by
  unfold State.nvmDone
  rw [hq]
  dsimp only
  rw [if_neg hsnap, htansy]
  rfl

theorem nvmDone_failed : s.nvmDone false = (s.dequeued s.nvm rest).nvmEnd 7 q.region 6 := by
  unfold State.nvmDone
  rw [hq]
  dsimp only
  rw [if_neg hsnap, htansy]
  rfl

theorem nvmWriteDone_stored : AnswersVia (.nvmWriteDone true) s (fun u => (u.fire 0x07 NVM.src.WR_DONE { master := 7 }).settle) fun u =>
    u.get NVM.RESULT.CAUSE = 1 ∧ u.get NVM.RESULT.REGION = q.region % 16 ∧ u.nvm.queue = rest ∧ u.nvm.calLive = s.nvm.calLive ∧
    (q.region = 3 → u.nvm.cal = q.data ∧ ∀ e < 2048, u.nvm.calUser.contains e = true ↔
      s.nvm.calUser.contains e = true ∨ Tab.get 0 q.data e ≠ Tab.get 0 s.nvm.cal e) ∧
    (q.region = 4 → ∀ c < 64, ∀ w < 4, u.bptWord c w = Tab.get 0 q.data (4 * c + w)) ∧
    (q.region = 0 → u.nvm.copy = Tab.get 0 q.data 0 ∧ u.nvm.minSvn = s.nvm.minSvn ∧
      ∀ d < 4, Tab.get (delegFactory d) u.nvm.deleg d = Tab.get 0 q.data (d + 1)) := by
  have hends := (nvmDone_stored hq hsnap htansy).trans (nvmEnd_done _ _ _)
  obtain ⟨hlive, hcal, huser, hsvn⟩ := renew_regs s.nvm q.region
  obtain ⟨hcause, hregion⟩ := nvmEnded_shows (s.dequeued ((s.nvm.renew q.region).commit q) rest) q.region 1
  refine answersVia_of rfl (congrArg State.settle hends) ⟨hcause, hregion, rfl, (commit_calLive _ q).trans hlive, fun h => ?_, fun h c hc w hw => ?_,
    fun h => ?_⟩
  · rw [nvmEnded_nvm, dequeued_nvm, ← hcal, ← huser]
    exact commit_cal h
  · have hmod : (4 * c + w) % 4 = w := by omega
    rw [State.bptWord, nvmEnded_nvm, dequeued_nvm, ← commit_bpt (n := s.nvm.renew q.region) h (by omega : 4 * c + w < 256), hmod]
  · rw [nvmEnded_nvm, dequeued_nvm, ← hsvn]
    exact commit_header h htansy

theorem nvmWriteDone_failed : AnswersVia (.nvmWriteDone false) s (fun u => (u.fire 0x07 NVM.src.WR_REFUSED { master := 7 }).settle) fun u =>
    u.get NVM.RESULT.CAUSE = 6 ∧ u.get NVM.RESULT.REGION = q.region % 16 ∧ u.nvm = { s.nvm with queue := rest } := by
  have hends := (nvmDone_failed hq hsnap htansy).trans (nvmEnd_refused _ _ _ (by decide))
  obtain ⟨hcause, hregion⟩ := nvmEnded_shows (s.dequeued s.nvm rest) q.region 6
  exact answersVia_of rfl (congrArg State.settle hends) ⟨hcause, hregion, rfl⟩

end

/-- Settles O55, by what each command of the NVM controller leaves: the load's stages in order, the requests' queue and the
committed regions. -/
theorem nvmRegionsAndLoad : Obligations.NvmRegionsAndLoad := by
  unfold Obligations.NvmRegionsAndLoad
  refine ⟨fun s ce ue hreset hloaded hbad href hue => load_clean hreset hloaded hbad href ce hue,
    fun s i hreset hloaded hbad href hold => load_spoiled hreset hloaded hbad href hold, fun s m v => ⟨calDataWrite_answers, calDataRead_answers,
      fun h hwrite hrevert => ⟨calCommit_fails h hwrite hrevert, fun hpass => ⟨calCommit_queues h hwrite hrevert hpass,
        calCommit_refused h hwrite hrevert hpass⟩⟩, calRevert_answers, bptSave_answers, hdrCommit_answers⟩,
    fun s q rest hq hsnap htansy => ⟨nvmWriteDone_stored hq hsnap htansy, nvmWriteDone_failed hq hsnap htansy⟩,
    fun s => counterWrite_answers, fun s => wordGroupDone_answers, fun s hasleep hreset hloaded hpf _ => pfailWarn_answers hasleep hreset hloaded hpf⟩

end Sys2Proof.Machine
end

section
/-! SUPPORT. The requests for a power state (R83 to R86, R158). -/
namespace Sys2Proof.Machine
open Sys2Proof

/-! A hold that ramps -/

@[simp] theorem silence_tr (s : State) (i : Nat) : (s.silence i).tr = s.tr := by
  unfold State.silence; rw [State.set_tr, State.set_tr]

@[simp] theorem fadeOut_tr (s : State) (i t : Nat) : (s.fadeOut i t).tr = s.tr := by
  unfold State.fadeOut; split <;> rfl

@[simp] theorem hold_tr (s : State) (b i : Nat) : (s.hold b i).tr = s.tr := by
  have hput (u : State) : (u.putBit (SLP.SLOT_STAT.HOLD i) b true).tr = u.tr := rfl
  have hcut (u : State) : (u.cut i).tr = u.tr := rfl
  unfold State.hold State.holdAt
  dsimp only
  split_ifs <;> simp [hput, hcut]

theorem fadeOut_get (s : State) (i t : Nat) (g : Fld) : (s.fadeOut i t).get g = s.get g := by
  unfold State.fadeOut; split <;> rfl

/-- A reason other than GATE writes its bit of HOLD, and of the other fields STATE alone: the gain falls with the ramp. -/
theorem hold_get {b : Nat} (hb : b ≠ hGate) (s : State) (i : Nat) {g : Fld} (hg : ¬g.key = (SLP.SLOT_STAT.STATE i).key) :
    (s.hold b i).get g = (s.putBit (SLP.SLOT_STAT.HOLD i) b true).get g := by
  unfold State.hold State.holdAt
  dsimp only
  split_ifs <;> simp only [fadeOut_get, State.get_set_of_key_ne _ _ hg, State.modSlot_get]

theorem hold_get_offSlots {b : Nat} (hb : b ≠ hGate) (s : State) (i : Nat) {g : Fld} (hg : g.offSlots) : (s.hold b i).get g = s.get g := by
  have hstate : ¬g.key = (SLP.SLOT_STAT.STATE i).key := by
    simp only [Fld.offSlots, key_SLP_SLOT_STAT_STATE, slotBase] at hg ⊢; omega
  exact (hold_get hb s i hstate).trans (get_set_slot hg s i 4 12 _ rfl (by decide) (by decide))

/-- The reason stands on the slot on which it arises, and on every other where it stood. -/
theorem hold_stands {b : Nat} (hb : b ≠ hGate) (hb8 : b < 8) (s : State) (i j : Nat)
    (h : i = j ∨ tbit (s.get (SLP.SLOT_STAT.HOLD i)) b = true) : tbit ((s.hold b j).get (SLP.SLOT_STAT.HOLD i)) b = true := by
  rw [hold_get hb s j (by simp only [key_SLP_SLOT_STAT_HOLD, key_SLP_SLOT_STAT_STATE]; omega), State.putBit_eq]
  by_cases e : i = j
  · subst e
    rw [State.get_set_same]
    exact tbit_setBit_mod _ b hb8
  · rw [State.get_set_of_key_ne _ _ (by simp only [key_SLP_SLOT_STAT_HOLD, slotBase]; omega)]
    exact h.resolve_left e

theorem foldl_hold_stands {b : Nat} (hb : b ≠ hGate) (hb8 : b < 8) (l : List Nat) (s : State) {i : Nat}
    (h : i ∈ l ∨ tbit (s.get (SLP.SLOT_STAT.HOLD i)) b = true) :
    tbit ((l.foldl (fun t j => t.hold b j) s).get (SLP.SLOT_STAT.HOLD i)) b = true := by
  induction l generalizing s with
  | nil => simpa using h
  | cons j l ih =>
    refine ih _ ?_
    rcases h with h | h
    · exact (List.mem_cons.mp h).symm.imp_right fun e => hold_stands hb hb8 s i j (.inl e)
    · exact .inr (hold_stands hb hb8 s i j (.inr h))

/-! HOLD.POWER on every enabled slot -/

theorem holdPower_eq (s : State) : s.holdPower = s.enabled.foldl (fun t i => t.hold hPower i) s := rfl

@[simp] theorem holdPower_tr (s : State) : s.holdPower.tr = s.tr := foldl_keeps State.tr _ (fun t i => hold_tr t hPower i) _ _

theorem holdPower_get (s : State) {g : Fld} (hg : g.offSlots) : s.holdPower.get g = s.get g :=
  foldl_keeps (fun t : State => t.get g) _ (fun t i => hold_get_offSlots (by decide) t i hg) _ _

theorem holdPower_stands {s : State} {i : Nat} (h : i ∈ s.enabled) : tbit (s.holdPower.get (SLP.SLOT_STAT.HOLD i)) hPower = true :=
  foldl_hold_stands (by decide) (by decide) s.enabled s (.inl h)

/-! A request that is accepted -/

/-- The transition to a state has begun, and no slot is held for it yet. -/
def State.pwrBegun (s : State) (req : Nat) : State :=
  let t := { ((s.set PWR.PWR_CMD.REQ req).set PWR.PWR_CMD.BUSY 1) with
    tr := some { origin := s.get PWR.PWR_CMD.STATE, target := req, at_ := s.now, phase := 0 } }
  if req = pSleep then { t with aon := { s.aon with fromState := s.get PWR.PWR_CMD.STATE, wakeLatch := 0, flushCut := false } } else t

theorem pwrAccept_eq (s : State) (req : Nat) :
    s.pwrAccept req = if s.get PWR.PWR_CMD.STATE = pRun then (s.pwrBegun req).holdPower else s.pwrBegun req := rfl

theorem pwrBegun_reg (s : State) (req : Nat) : (s.pwrBegun req).reg = ((s.set PWR.PWR_CMD.REQ req).set PWR.PWR_CMD.BUSY 1).reg := by
  unfold State.pwrBegun; dsimp only; split_ifs <;> rfl

theorem pwrBegun_tr (s : State) (req : Nat) :
    (s.pwrBegun req).tr = some { origin := s.get PWR.PWR_CMD.STATE, target := req, at_ := s.now, phase := 0 } := by
  unfold State.pwrBegun; dsimp only; split_ifs <;> rfl

theorem pwrBegun_active (s : State) (req : Nat) : (s.pwrBegun req).active = s.active := by
  unfold State.pwrBegun; dsimp only; split_ifs <;> rfl

theorem pwrBegun_keeps (s : State) (req : Nat) : Keeps s (s.pwrBegun req) [PWR.PWR_CMD.REQ.key, PWR.PWR_CMD.BUSY.key] :=
  (Keeps.set (Keeps.set (Keeps.refl s _) req (by simp)) 1 (by simp)).reg_eq (pwrBegun_reg s req)

/-- The slots that are enabled stay so as a transition begins. -/
theorem pwrBegun_enabled (s : State) (req : Nat) : (s.pwrBegun req).enabled = s.enabled := by
  have hstate (i : Nat) : (s.pwrBegun req).get (SLP.SLOT_STAT.STATE i) = s.get (SLP.SLOT_STAT.STATE i) :=
    pwrBegun_keeps s req _ (by
      simp only [List.mem_cons, List.not_mem_nil, or_false, key_SLP_SLOT_STAT_STATE, key_PWR_PWR_CMD_REQ, key_PWR_PWR_CMD_BUSY, slotBase]; omega)
  simp only [State.enabled, pwrBegun_active, hstate]

theorem pwrAccept_tr (s : State) (req : Nat) :
    (s.pwrAccept req).tr = some { origin := s.get PWR.PWR_CMD.STATE, target := req, at_ := s.now, phase := 0 } := by
  rw [pwrAccept_eq]
  split_ifs
  · exact (holdPower_tr _).trans (pwrBegun_tr s req)
  · exact pwrBegun_tr s req

/-- Outside the slots an accepted request writes REQ and BUSY. -/
theorem pwrAccept_get (s : State) (req : Nat) {g : Fld} (hg : g.offSlots) :
    (s.pwrAccept req).get g = ((s.set PWR.PWR_CMD.REQ req).set PWR.PWR_CMD.BUSY 1).get g := by
  have hbegun := State.get_of_reg (pwrBegun_reg s req) g
  rw [pwrAccept_eq]
  split_ifs
  · exact (holdPower_get _ hg).trans hbegun
  · exact hbegun

theorem pwrAccept_shows (s : State) {req : Nat} (hreq : req < 4) : (s.pwrAccept req).get PWR.PWR_CMD.REQ = req ∧
    (s.pwrAccept req).get PWR.PWR_CMD.BUSY = 1 ∧ (s.pwrAccept req).get PWR.PWR_CMD.STATE = s.get PWR.PWR_CMD.STATE := by
  refine ⟨?_, ?_, ?_⟩ <;> rw [pwrAccept_get s req (offSlots_of_lt (by simp))] <;> simp [Nat.mod_eq_of_lt hreq]

theorem pwrAccept_holds {s : State} {i : Nat} (req : Nat) (hrun : s.get PWR.PWR_CMD.STATE = pRun) (hi : i ∈ s.enabled) :
    tbit ((s.pwrAccept req).get (SLP.SLOT_STAT.HOLD i)) hPower = true := by
  rw [pwrAccept_eq, if_pos hrun]
  exact holdPower_stands (by rwa [pwrBegun_enabled])

/-! A request that is refused -/

/-- The refusal is counted and named. -/
def State.pwrRefused (s : State) (req code : Nat) : State :=
  (((s.count PWR.REFUSE_CNT.COUNT 1).set PWR.REFUSER.CODE code).set PWR.REFUSER.REQ_STATE req).put PWR.REFUSER.ABORT false

theorem pwrCount_refused (s : State) (m req code : Nat) : s.pwrCount m req code false =
    (s.pwrRefused req code).fire 0x02 PWR.src.PWR_REFUSED { master := m, detail := (s.pwrRefused req code).pwrDetail req } := rfl

theorem pwrRefused_keeps (s : State) (req code : Nat) : Keeps s (s.pwrRefused req code)
    [PWR.REFUSE_CNT.COUNT.key, PWR.REFUSER.CODE.key, PWR.REFUSER.REQ_STATE.key, PWR.REFUSER.ABORT.key] :=
  Keeps.set (Keeps.set (Keeps.set (Keeps.set (Keeps.refl s _) _ (by simp)) _ (by simp)) _ (by simp)) _ (by simp)

theorem pwrRefused_shows (s : State) {req : Nat} (code : Nat) (hreq : req < 4) :
    (s.pwrRefused req code).get PWR.REFUSE_CNT.COUNT = satAdd 16 (s.get PWR.REFUSE_CNT.COUNT) 1 % 2 ^ 16 ∧
    (s.pwrRefused req code).get PWR.REFUSER.CODE = code % 256 ∧ (s.pwrRefused req code).get PWR.REFUSER.REQ_STATE = req ∧
    (s.pwrRefused req code).get PWR.REFUSER.ABORT = 0 := by
  simp [State.pwrRefused, State.put_eq, State.count_eq, Nat.mod_eq_of_lt hreq]

/-! A request while no transition runs -/

section
variable {s : State} {m req : Nat} (hidle : s.flag PWR.PWR_CMD.BUSY = false)
include hidle

theorem pwrRequest_inForce (h : s.get PWR.PWR_CMD.STATE = req) : s.pwrRequest m req = s := by
  rw [State.pwrRequest, if_neg (by simp [hidle]), if_pos h.symm]

theorem pwrRequest_vetoed (h : s.get PWR.PWR_CMD.STATE ≠ req) {c : Nat} (hveto : s.pwrVeto = some c) :
    s.pwrRequest m req = s.pwrCount m req c false := by
  rw [State.pwrRequest, if_neg (by simp [hidle]), if_neg h.symm, hveto]

theorem pwrRequest_accepted (h : s.get PWR.PWR_CMD.STATE ≠ req) (hveto : s.pwrVeto = none) : s.pwrRequest m req = s.pwrAccept req := by
  rw [State.pwrRequest, if_neg (by simp [hidle]), if_neg h.symm, hveto]

end

/-- The power state that a written word asks for. -/
theorem of_PWR_CMD_REQ (v : Word) : PWR.PWR_CMD.REQ.of v = v.toNat % 4 := by
  simp [Fld.of, bits, PWR.PWR_CMD.REQ]

/-- A write of PWR_CMD that the fabric takes is a request for the state in its low bits. -/
theorem pwrCmdWrite_of_takes {s : State} {m : Master} {v : Word} (h : s.takes m 0x2040 v) :
    s.pwrCmdWrite m v = (s.outcome m 0).pwrRequest m.num (v.toNat % 4) := by
  rw [State.pwrCmdWrite, guarded_of_takes _ h (by decide), of_PWR_CMD_REQ]

/-- The vetoes do not read the status of the ports. -/
theorem outcome_pwrVeto (s : State) (m : Master) (o : Nat) : (s.outcome m o).pwrVeto = s.pwrVeto := rfl

/-- Settles O14: a request that the fabric takes while no transition runs names the state in force, or meets a veto, or is accepted. -/
theorem powerStateRequests : Obligations.PowerStateRequests := by
  intro s m v ht hbusy
  have hidle : (s.outcome m 0).flag PWR.PWR_CMD.BUSY = false := hbusy
  have hw := pwrCmdWrite_of_takes ht
  have hreq : v.toNat % 4 < 4 := Nat.mod_lt _ (by decide)
  refine ⟨fun hstate => ?_, fun hstate c hveto => ?_, fun hstate hveto => ?_⟩
  · exact answersSettled_of rfl (hw.trans (pwrRequest_inForce hidle hstate)) (Keeps.of_reg rfl _)
  · rw [← outcome_pwrVeto s m 0] at hveto
    obtain ⟨hcount, hcode, hasked, habort⟩ := pwrRefused_shows (s.outcome m 0) c hreq
    exact answersVia_of rfl (congrArg State.settle ((hw.trans (pwrRequest_vetoed hidle hstate hveto)).trans (pwrCount_refused _ _ _ _)))
      ⟨hcount, hcode, hasked, habort, pwrRefused_keeps (s.outcome m 0) _ c⟩
  · rw [← outcome_pwrVeto s m 0] at hveto
    obtain ⟨hasked, hbegun, hstays⟩ := pwrAccept_shows (s.outcome m 0) hreq
    exact answersSettled_of rfl (hw.trans (pwrRequest_accepted hidle hstate hveto))
      ⟨hasked, hbegun, hstays, pwrAccept_tr _ _, fun hrun i hi => pwrAccept_holds _ hrun hi⟩

end Sys2Proof.Machine
end

section
/-! SUPPORT. The tenure of the part: who holds it and until when. What a source of page OWN, of the mailbox, of the recorder or of the
permit that fires can do to it: it resets the part, or leaves the tenure as it is (R116, R120, R123, R340, R344). -/
namespace Sys2Proof.Machine
open Sys2Proof

/-- What tells whether a time of ownership is over: its state, the heartbeat's limit, and the instants since which the times count. -/
def State.tenure (s : State) : Nat × Nat × Own := (s.get OWN.OWN_STAT.STATE, s.get OWN.BEAT_MAX.MS, s.own)

/-- A field outside OWN_STAT and BEAT_MAX. -/
def Fld.offTenure (f : Fld) : Prop := f.key / 32 ≠ 0x1044 ∧ f.key / 32 ≠ 0x104C

/-- The fields of a page's header are. -/
theorem offTenure_header {f : Fld} (h : f.key / 32 % 0x1000 < 0x40) : f.offTenure := ⟨by omega, by omega⟩

/-- So are those of every page above OWN. -/
theorem offTenure_above {f : Fld} (h : 32 * 0x2000 ≤ f.key) : f.offTenure := ⟨by omega, by omega⟩

theorem tenure_congr {s t : State} (hreg : t.reg = s.reg) (hown : t.own = s.own) : t.tenure = s.tenure := by
  simp only [State.tenure, State.get, hreg, hown]

theorem set_tenure (s : State) {f : Fld} (v : Nat) (h : f.offTenure) : (s.set f v).tenure = s.tenure := by
  obtain ⟨hstat, hbeat⟩ := h
  have hget (g : Fld) (hg : g.key / 32 ≠ f.key / 32) : (s.set f v).get g = s.get g := State.get_set_ne s v fun e => hg (by rw [e])
  simp only [State.tenure, hget OWN.OWN_STAT.STATE (Ne.symm hstat), hget OWN.BEAT_MAX.MS (Ne.symm hbeat), State.set_own]

/-! Holds of the slots -/

theorem slotField_offTenure {f : Fld} {i o b : Nat} (h : f.key = 32 * (slotBase i + o) + b) : f.offTenure :=
  offTenure_above (by unfold slotBase at h; omega)

@[simp] theorem modSlot_tenure (s : State) (i : Nat) (f : Slot → Slot) : (s.modSlot i f).tenure = s.tenure := rfl
@[simp] theorem cut_tenure (s : State) (i : Nat) : (s.cut i).tenure = s.tenure := rfl

@[simp] theorem set_STATE_tenure (s : State) (i v : Nat) : (s.set (SLP.SLOT_STAT.STATE i) v).tenure = s.tenure :=
  set_tenure s v (slotField_offTenure (i := i) (o := 4) (b := 20) rfl)

@[simp] theorem putBit_HOLD_tenure (s : State) (i b : Nat) (on : Bool) : (s.putBit (SLP.SLOT_STAT.HOLD i) b on).tenure = s.tenure :=
  set_tenure s _ (slotField_offTenure (i := i) (o := 4) (b := 12) rfl)

@[simp] theorem silence_tenure (s : State) (i : Nat) : (s.silence i).tenure = s.tenure :=
  (set_tenure _ _ (slotField_offTenure (i := i) (o := 0x1C) (b := 0) rfl)).trans
    (set_tenure s _ (slotField_offTenure (i := i) (o := 0x1C) (b := 28) rfl))

@[simp] theorem fadeOut_tenure (s : State) (i t : Nat) : (s.fadeOut i t).tenure = s.tenure := by
  unfold State.fadeOut; split <;> rfl

@[simp] theorem hold_tenure (s : State) (b i : Nat) : (s.hold b i).tenure = s.tenure := by
  unfold State.hold State.holdAt; dsimp only; split_ifs <;> simp

@[simp] theorem unhold_tenure (s : State) (b i : Nat) : (s.unhold b i).tenure = s.tenure := by
  unfold State.unhold; dsimp only; split_ifs <;> simp

@[simp] theorem cutRamps_tenure (s : State) : s.cutRamps.tenure = s.tenure := foldl_keeps State.tenure State.cut cut_tenure _ _

@[simp] theorem syncGate_tenure (s : State) : s.syncGate.tenure = s.tenure := by
  have hall (on : Bool) : (s.holdAll hGate on).tenure = s.tenure := foldl_keeps State.tenure _ (fun t i => by cases on <;> simp) _ _
  unfold State.syncGate; dsimp only; split_ifs <;> simp [hall]

@[simp] theorem txOff_tenure (s : State) : s.txOff.tenure = s.tenure := by
  refine (cutRamps_tenure _).trans (foldl_keeps State.tenure _ (fun t i => ?_) _ _)
  dsimp only; split_ifs <;> simp

/-! Records and bits -/

theorem note_own (s : State) (r : Rec) : (s.note r).1.own = s.own := by
  have henter (t : State) (q : Rec) : (t.enter q).own = t.own := by unfold State.enter; dsimp only; split_ifs <;> rfl
  have hplace (t : State) (q : Rec) : (t.place q).1.own = t.own := by
    unfold State.place
    dsimp only
    split_ifs
    · exact henter t q
    · split <;> [exact henter _ q; rfl]
  have hrecord : (s.record r).1.own = s.own := by
    rcases record_cases s r with ⟨q, e⟩ | ⟨q, v, e⟩ | ⟨v, e⟩ <;> rw [e]
    · exact hplace _ q
    · exact hplace _ q
    · rfl
  unfold State.note State.startFlush
  dsimp only
  split_ifs <;> exact hrecord

@[simp] theorem note_tenure (s : State) (r : Rec) : (s.note r).1.tenure = s.tenure := by
  rw [State.tenure, note_get ⟨by simp, by simp⟩, note_get ⟨by simp, by simp⟩, note_own]; rfl

theorem marked_own (s : State) (p b : Nat) : (s.marked p b).own = s.own := by
  have hstatus : (s.status p b).own = s.own := by unfold State.status; dsimp only; split_ifs <;> rfl
  refine Eq.trans ?_ hstatus
  unfold State.marked State.updFirst
  split_ifs <;> rfl

theorem marked_tenure (s : State) (p b : Nat) : (s.marked p b).tenure = s.tenure := by
  rw [State.tenure, marked_get s p b (.inr (by simp)) (by simp), marked_get s p b (.inr (by simp)) (by simp), marked_own]; rfl

/-! Reactions -/

@[simp] theorem startFlush_tenure (s : State) : s.startFlush.tenure = s.tenure := by
  unfold State.startFlush; split_ifs <;> rfl

theorem enterSafe_own (s : State) (c : Nat) : (s.enterSafe c).own = s.own := by
  unfold State.enterSafe State.retargetNow State.startMove; dsimp only; split_ifs <;> simp [State.putBit_eq]

theorem enterSafe_tenure (s : State) (c : Nat) : (s.enterSafe c).tenure = s.tenure := by
  rw [State.tenure, enterSafe_get_below (by simp), enterSafe_get_below (by simp), enterSafe_own]; rfl

@[simp] theorem biasSafe_tenure (s : State) : s.biasSafe.tenure = s.tenure := foldl_keeps State.tenure _ enterSafe_tenure _ _

/-- A write of a field of a page above OWN. -/
theorem set_above_tenure (s : State) {f : Fld} (v : Nat) (h : 32 * 0x2000 ≤ f.key) : (s.set f v).tenure = s.tenure :=
  set_tenure s v (offTenure_above h)

theorem holdCores_tenure (s : State) : s.holdCores.tenure = s.tenure :=
  (tenure_congr (s := ((s.set APC.CORE_STAT.RUN 0).set APC.CORE_STAT.HALTED 0).set SEC.BOOT_STAT.CORES 0) rfl rfl).trans
    ((set_above_tenure _ _ (by simp)).trans ((set_above_tenure _ _ (by simp)).trans (set_above_tenure s _ (by simp))))

@[simp] theorem trapAll_tenure (s : State) (p b : Nat) : (s.trapAll p b).tenure = s.tenure := by
  have hnote (t : State) : (((t.set SEC.TRAP_NOTE.VALID 1).set SEC.TRAP_NOTE.PAGE p).set SEC.TRAP_NOTE.BIT b).tenure = t.tenure :=
    (set_above_tenure _ _ (by simp)).trans ((set_above_tenure _ _ (by simp)).trans (set_above_tenure t _ (by simp)))
  unfold State.trapAll State.trap
  dsimp only
  split_ifs
  · rfl
  · exact (holdCores_tenure _).trans (hnote _)
  · exact hnote _

@[simp] theorem latchTerminal_tenure (s : State) (p b : Nat) (forced : Bool) : (s.latchTerminal p b forced).tenure = s.tenure := by
  unfold State.latchTerminal
  split_ifs
  · rfl
  · rw [set_above_tenure _ _ (by simp), set_above_tenure _ _ (by simp), set_above_tenure _ _ (by simp), State.put_eq, set_above_tenure _ _ (by simp),
      set_above_tenure _ _ (by simp)]

theorem softReact_tenure (s : State) (p b r cls : Nat) (forced : Bool) : (s.softReact p b r cls forced).tenure = s.tenure := by
  unfold State.softReact; dsimp only; split_ifs <;> simp

/-! Block resets of the pages OWN, EVT, SEC and GOV -/

theorem badFrom_tenure (s : State) (p : Nat) : (s.badFrom p).tenure = s.tenure := by
  unfold State.badFrom
  exact foldl_keeps State.tenure _ (fun t i => modSlot_tenure t i _) _ _

theorem restart_sec (s : State) : s.restart 0x08 = (s.badFrom 0x08).restartSec := rfl

theorem dropLoad_tenure (s : State) : s.dropLoad.tenure = s.tenure := by
  unfold State.dropLoad; split_ifs <;> rfl

theorem dropLoad_activity (s : State) : s.dropLoad.activity = s.activity := by
  unfold State.dropLoad; split_ifs <;> rfl

theorem mbxOver_tenure (s : State) (r : Nat) : (s.mbxOver r).tenure = s.tenure :=
  (set_above_tenure _ _ (by simp)).trans ((set_above_tenure _ _ (by simp)).trans (set_above_tenure _ _ (by simp)))

theorem mbxOver_activity (s : State) (r : Nat) : (s.mbxOver r).activity = s.activity := rfl

theorem restartSec_tenure (s : State) : s.restartSec.tenure = s.tenure := by
  have hstat (t : State) (v w : Nat) : ((t.set NVM.STAT.BUSY v).set NVM.STAT.REGION w).tenure = t.tenure :=
    (set_above_tenure _ _ (by simp)).trans (set_above_tenure t _ (by simp))
  unfold State.restartSec
  dsimp only
  split_ifs
  · rw [mbxOver_tenure, dropLoad_tenure]; exact hstat _ _ _
  · exact hstat _ _ _

theorem restartSec_activity (s : State) : s.restartSec.activity = s.activity := by
  unfold State.restartSec
  dsimp only
  split_ifs
  · rw [mbxOver_activity, dropLoad_activity]; rfl
  · rfl

/-- The pages whose sources fire while ownership changes: OWN, and EVT, SEC and GOV for what follows from it. -/
def tenurePage (p : Nat) : Prop := p = 0x01 ∨ p = 0x06 ∨ p = 0x08 ∨ p = 0x23

theorem restart_tenure (s : State) {p : Nat} (hp : tenurePage p) : (s.restart p).tenure = s.tenure ∧ (s.restart p).activity = s.activity := by
  rcases hp with rfl | rfl | rfl | rfl
  · exact ⟨badFrom_tenure s _, badFrom_activity s _⟩
  · exact ⟨badFrom_tenure s _, restart_activity s (.inl rfl)⟩
  · rw [restart_sec]
    exact ⟨(restartSec_tenure _).trans (badFrom_tenure s _), (restartSec_activity _).trans (badFrom_activity s _)⟩
  · exact ⟨badFrom_tenure s _, restart_activity s (.inr (.inl rfl))⟩

theorem blockReset_tenure (s : State) {p : Nat} (hp : tenurePage p) :
    (s.blockReset p).tenure = s.tenure ∧ (s.blockReset p).activity = s.activity := by
  cases h : s.flag (HDR.PAGE_STAT.RESET_ACTIVE p) with
  | true => unfold State.blockReset; rw [h]; exact ⟨rfl, rfl⟩
  | false =>
    obtain ⟨htenure, hactivity⟩ := restart_tenure (s.resetBegun p) hp
    rw [blockReset_begins h]
    refine ⟨htenure.trans ?_, hactivity⟩
    exact (set_tenure (f := HDR.PAGE_CTL.SOFT_RESET p) _ 1 (offTenure_header (by simp; omega))).trans
      (set_tenure (f := HDR.PAGE_STAT.RESET_ACTIVE p) s 1 (offTenure_header (by simp; omega)))

/-! A firing resets the part or leaves the tenure -/

/-- The state is in reset, or has the tenure of before and is as far from reset. -/
def State.serves (s t : State) : Prop := t.inReset = true ∨ t.tenure = s.tenure ∧ t.inReset = s.inReset

theorem inReset_of_activity {s t : State} (h : t.activity = s.activity) : t.inReset = s.inReset := by
  simp only [State.activity, Prod.mk.injEq] at h
  obtain ⟨-, hrst, haon⟩ := h
  simp only [State.inReset, hrst, haon]

theorem serves_of {s t : State} (htenure : t.tenure = s.tenure) (hactivity : t.activity = s.activity) : s.serves t :=
  .inr ⟨htenure, inReset_of_activity hactivity⟩

theorem State.serves.refl (s : State) : s.serves s := serves_of rfl rfl

theorem State.serves.trans {s t u : State} (h : s.serves t) (h' : t.serves u) : s.serves u := by
  rcases h' with h' | ⟨htenure, hreset⟩
  · exact .inl h'
  · rcases h with h | ⟨htenure', hreset'⟩
    · exact .inl (hreset.trans h)
    · exact .inr ⟨htenure.trans htenure', hreset.trans hreset'⟩

theorem reactChip_serves (s : State) (p : Nat) (trip : Bool) : s.serves (s.reactChip p trip) := by
  have hoff (t : State) (ht : t.tenure = s.tenure ∧ t.inReset = s.inReset) :
      s.serves { t.txOff with rst := { t.rst with faultWaits := true, waitPage := p } } := by
    have hactivity := txOff_activity t
    simp only [State.activity, Prod.mk.injEq] at hactivity
    obtain ⟨-, -, haon⟩ := hactivity
    refine .inr ⟨(tenure_congr (s := t.txOff) rfl rfl).trans ((txOff_tenure t).trans ht.1), Eq.trans ?_ ht.2⟩
    simp only [State.inReset, haon]
  unfold State.reactChip
  dsimp only
  split_ifs
  · exact .refl s
  · exact hoff _ ⟨rfl, rfl⟩
  · exact .inl (chipReset_inReset _ _)

theorem reactions_serves (s : State) {p : Nat} (hp : tenurePage p) (b r cls : Nat) (forced : Bool) : s.serves (s.reactions p b r cls forced) := by
  unfold State.reactions
  have hsoft := serves_of (softReact_tenure s p b r cls forced) (softReact_activity s p b r cls forced)
  refine hsoft.trans ?_
  unfold State.hardReact
  split_ifs
  · exact reactChip_serves _ p _
  · obtain ⟨htenure, hactivity⟩ := blockReset_tenure (s.softReact p b r cls forced) hp
    exact serves_of htenure hactivity
  · exact .refl _

theorem note_serves (s : State) (r : Rec) : s.serves (s.note r).1 := serves_of (note_tenure s r) (note_activity s r)

section
variable {log : State → Rec → State} (hlog : ∀ (t : State) (r : Rec), t.serves (log t r))
include hlog

theorem marks_serves (s : State) (p b : Nat) (w : Why) : s.serves (s.marks log p b w).1 := by
  have hmark : s.serves ((s.status p b).updFirst p) := serves_of (marked_tenure s p b) (marked_activity s p b)
  have hcount : s.serves (s.count FLT.SHADOW.COUNT 1) := serves_of (set_above_tenure s _ (by simp)) rfl
  unfold State.marks
  dsimp only
  split_ifs
  · exact .refl s
  · exact hcount.trans (hlog _ _)
  · exact hlog _ _
  all_goals exact hmark.trans (hlog _ _)

theorem occurs_serves (s : State) {p : Nat} (hp : tenurePage p) (b : Nat) (w : Why) : s.serves (s.occurs log p b w) := by
  unfold State.occurs
  dsimp only
  split
  · exact marks_serves hlog s p b w
  · exact (marks_serves hlog s p b w).trans (reactions_serves _ hp _ _ _ _)

end

theorem log_serves (s : State) (r : Rec) : s.serves (s.log r) := by
  unfold State.log
  dsimp only
  split_ifs
  · exact (note_serves s r).trans (occurs_serves note_serves _ (.inr (.inl rfl)) _ _)
  · exact note_serves s r

theorem termPermit_serves (s : State) : s.serves s.termPermit := by
  unfold State.termPermit
  split_ifs
  · have hgate : s.serves ((s.set GOV.PERMIT.PERMIT 0).set GOV.PERMIT.CAUSE 4).syncGate := by
      refine serves_of ?_ (by simp)
      rw [syncGate_tenure, set_above_tenure _ _ (by simp), set_above_tenure _ _ (by simp)]
    exact hgate.trans (occurs_serves log_serves _ (.inr (.inr (.inr rfl))) _ _)
  · exact .refl s

theorem fire_serves (s : State) {p : Nat} (hp : tenurePage p) (b : Nat) (w : Why) : s.serves (s.fire p b w) := by
  unfold State.fire
  dsimp only
  split
  · exact marks_serves log_serves s p b w
  · exact ((marks_serves log_serves s p b w).trans (reactions_serves _ hp _ _ _ _)).trans (termPermit_serves _)

/-- Neither a note about the owner nor the end of a mailbox command moves the tenure of a part that they do not reset. -/
theorem ownNote_serves (s : State) (b m : Nat) : s.serves (s.ownNote b m) := fire_serves s (.inl rfl) b _

theorem mbxEpoch_serves (s : State) : s.serves s.mbxEpoch := by
  unfold State.mbxEpoch
  split_ifs
  · have hover : s.serves (s.dropLoad.mbxOver 0x0E) :=
      serves_of ((mbxOver_tenure _ _).trans (dropLoad_tenure s)) ((mbxOver_activity _ _).trans (dropLoad_activity s))
    exact hover.trans (fire_serves _ (.inr (.inr (.inl rfl))) _ _)
  · exact .refl s

end Sys2Proof.Machine
end

section
/-! SUPPORT. The election's winner (R116). -/
namespace Sys2Proof.Machine
open Sys2Proof

/-- A claim stands against the winner so far: a higher priority alone displaces it. -/
def State.against (s : State) (b : Option (Nat × Nat)) (e : Nat × Nat) : Option (Nat × Nat) :=
  match b with
  | none => some e
  | some x => if s.prio x.1 < s.prio e.1 then some e else b

theorem winner_eq (s : State) : s.winner = s.own.claims.foldl s.against none := rfl

/-- No claim of the list has a higher priority than `y`, and none of its priority a lower number. -/
def State.prevails (s : State) (y : Nat × Nat) (l : List (Nat × Nat)) : Prop :=
  ∀ e ∈ l, s.prio e.1 ≤ s.prio y.1 ∧ (s.prio e.1 = s.prio y.1 → y.1 ≤ e.1)

/-- From a claim on, through claims of higher numbers, the election finds one that prevails. -/
theorem against_prevails (s : State) (l : List (Nat × Nat)) (x y : Nat × Nat) (hrise : (x :: l).Pairwise fun a b => a.1 < b.1)
    (hy : l.foldl s.against (some x) = some y) : y ∈ x :: l ∧ s.prevails y (x :: l) := by
  induction l generalizing x with
  | nil =>
    obtain rfl : x = y := Option.some.inj hy
    refine ⟨List.mem_cons_self, fun e he => ?_⟩
    rw [List.mem_singleton.mp he]
    exact ⟨le_refl _, fun _ => le_refl _⟩
  | cons e l ih =>
    obtain ⟨hx, hl⟩ := List.pairwise_cons.mp hrise
    by_cases hhigher : s.prio x.1 < s.prio e.1
    · rw [List.foldl_cons, State.against, if_pos hhigher] at hy
      obtain ⟨hmem, hbest⟩ := ih e hl hy
      refine ⟨List.mem_cons_of_mem x hmem, fun c hc => ?_⟩
      rcases List.mem_cons.mp hc with rfl | hc
      · have := (hbest e List.mem_cons_self).1
        exact ⟨by omega, fun _ => by omega⟩
      · exact hbest c hc
    · rw [List.foldl_cons, State.against, if_neg hhigher] at hy
      have hdrop : (x :: l).Pairwise fun a b => a.1 < b.1 :=
        List.pairwise_cons.mpr ⟨fun c hc => hx c (List.mem_cons_of_mem e hc), (List.pairwise_cons.mp hl).2⟩
      obtain ⟨hmem, hbest⟩ := ih x hdrop hy
      refine ⟨?_, fun c hc => ?_⟩
      · exact List.mem_cons.mpr ((List.mem_cons.mp hmem).imp_right (List.mem_cons_of_mem e))
      · have hover := hbest x List.mem_cons_self
        have hnum := hx e List.mem_cons_self
        rcases List.mem_cons.mp hc with rfl | hc
        · exact hover
        · rcases List.mem_cons.mp hc with rfl | hc
          · exact ⟨by omega, fun _ => by omega⟩
          · exact hbest c (List.mem_cons_of_mem x hc)

/-- Settles O20, by induction on the claims. -/
theorem electionWinner : Obligations.ElectionWinner := by
  intro s m n hrise hwin
  rw [winner_eq] at hwin
  cases hclaims : s.own.claims with
  | nil => rw [hclaims] at hwin; exact absurd hwin (by simp)
  | cons x l =>
    rw [hclaims] at hrise hwin
    exact against_prevails s l x (m, n) hrise hwin

end Sys2Proof.Machine
end

section
/-! SUPPORT. How ownership changes hands: what each change writes before the mailbox command that it ends and the note that tells of it
(R116 to R124, R370). -/
namespace Sys2Proof.Machine
open Sys2Proof

theorem of_OWN_CLAIM_NONCE (v : Word) : OWN.OWN_CLAIM.NONCE.of v = v.toNat % 65536 := by simp [Fld.of, bits, OWN.OWN_CLAIM.NONCE]
theorem of_ACCEPT_NONCE (v : Word) : OWN.ACCEPT.NONCE.of v = v.toNat % 65536 := by simp [Fld.of, bits, OWN.ACCEPT.NONCE]
theorem of_HANDOVER_TARGET (v : Word) : OWN.HANDOVER.TARGET.of v = v.toNat % 8 := by simp [Fld.of, bits, OWN.HANDOVER.TARGET]
theorem of_BEAT_MAX_MS (v : Word) : OWN.BEAT_MAX.MS.of v = v.toNat % 65536 := by simp [Fld.of, bits, OWN.BEAT_MAX.MS]

theorem master_num_lt (m : Master) : m.num < 8 := by cases m <;> decide

/-- The fields that a change of the owner writes. -/
def ownerKeys : List Nat := [OWN.OWN_STAT.STATE.key, OWN.OWN_STAT.OWNER.key, OWN.OWN_STAT.NONCE.key, OWN.OWN_STAT.EPOCH.key, FLT.INJ.EN.key]

/-! A new owner -/

/-- The new owner's registers and heartbeat, before a mailbox command ends. -/
def State.ownerSet (s : State) (m nonce t : Nat) : State :=
  let s := (((s.set OWN.OWN_STAT.STATE 2).set OWN.OWN_STAT.OWNER m).set OWN.OWN_STAT.NONCE nonce)
  let s := (s.wrap OWN.OWN_STAT.EPOCH).set FLT.INJ.EN 0
  { s with own := { s.own with beatAt := t, claims := [] } }

theorem setOwner_eq (s : State) (m nonce t : Nat) : s.setOwner m nonce t = (s.ownerSet m nonce t).mbxEpoch := rfl

theorem ownerSet_reg (s : State) (m nonce t : Nat) : (s.ownerSet m nonce t).reg =
    (((((s.set OWN.OWN_STAT.STATE 2).set OWN.OWN_STAT.OWNER m).set OWN.OWN_STAT.NONCE nonce).wrap OWN.OWN_STAT.EPOCH).set FLT.INJ.EN 0).reg := rfl

theorem ownerSet_keeps {r s : State} {ks : List Nat} (h : Keeps r s ks) (hk : ownerKeys ⊆ ks) (m nonce t : Nat) :
    Keeps r (s.ownerSet m nonce t) ks := by
  refine Keeps.reg_eq ?_ (ownerSet_reg s m nonce t)
  exact ((((h.set _ (hk (by simp [ownerKeys]))).set _ (hk (by simp [ownerKeys]))).set _ (hk (by simp [ownerKeys]))).set _
    (hk (by simp [ownerKeys]))).set _ (hk (by simp [ownerKeys]))

theorem ownerSet_get (s : State) (m nonce t : Nat) {g : Fld} (h : g.key ∉ ownerKeys) : (s.ownerSet m nonce t).get g = s.get g :=
  ownerSet_keeps (Keeps.refl s ownerKeys) (List.Subset.refl _) m nonce t g h

theorem ownerSet_shows (s : State) (m nonce t : Nat) : (s.ownerSet m nonce t).get OWN.OWN_STAT.STATE = 2 ∧
    (s.ownerSet m nonce t).get OWN.OWN_STAT.OWNER = m % 8 ∧ (s.ownerSet m nonce t).get OWN.OWN_STAT.NONCE = nonce % 65536 ∧
    (s.ownerSet m nonce t).get OWN.OWN_STAT.EPOCH = (s.get OWN.OWN_STAT.EPOCH + 1) % 256 ∧ (s.ownerSet m nonce t).get FLT.INJ.EN = 0 := by
  simp [State.get_of_reg (ownerSet_reg s m nonce t), State.wrap_eq]

theorem ownerSet_rest (s : State) (m nonce t : Nat) : (s.ownerSet m nonce t).own.beatAt = t ∧ (s.ownerSet m nonce t).slots = s.slots ∧
    (s.ownerSet m nonce t).now = s.now := by simp [State.ownerSet, State.wrap_eq]

/-! No owner -/

/-- An offer that is cancelled, where one stands. -/
def State.offerCancelled (s : State) : State :=
  if s.get OWN.OWN_STAT.STATE = 3 then (s.set OWN.HANDOVER.RESULT 4).set OWN.HANDOVER.TARGET 7 else s

/-- Ownership is vacant, before a mailbox command ends. -/
def State.vacated (s : State) : State :=
  ((((s.offerCancelled.set OWN.OWN_STAT.STATE 0).set OWN.OWN_STAT.OWNER 7).set OWN.OWN_STAT.NONCE 0).wrap OWN.OWN_STAT.EPOCH).set FLT.INJ.EN 0

theorem relinquish_eq (s : State) (m : Nat) : s.relinquish m = s.vacated.mbxEpoch.ownNote OWN.src.OWN_CHANGED m := rfl
theorem lapseNow_eq (s : State) : s.lapseNow = s.vacated.mbxEpoch.ownNote OWN.src.LAPSED 7 := rfl

/-- The fields that vacancy writes. -/
def vacancyKeys : List Nat := [OWN.OWN_STAT.STATE.key, OWN.OWN_STAT.OWNER.key, OWN.OWN_STAT.NONCE.key, OWN.OWN_STAT.EPOCH.key, FLT.INJ.EN.key,
  OWN.HANDOVER.RESULT.key, OWN.HANDOVER.TARGET.key]

theorem offerCancelled_keeps (s : State) : Keeps s s.offerCancelled [OWN.HANDOVER.RESULT.key, OWN.HANDOVER.TARGET.key] := by
  unfold State.offerCancelled
  split_ifs
  · exact ((Keeps.refl s _).set _ (by simp)).set _ (by simp)
  · exact Keeps.refl s _

theorem vacated_keeps (s : State) : Keeps s s.vacated vacancyKeys := by
  have h := (offerCancelled_keeps s).mono (ks' := vacancyKeys) (by simp [vacancyKeys])
  exact ((((h.set _ (by simp [vacancyKeys])).set _ (by simp [vacancyKeys])).set _ (by simp [vacancyKeys])).set _
    (by simp [vacancyKeys])).set _ (by simp [vacancyKeys])

theorem offerCancelled_regOnly (s : State) : s.offerCancelled = { s with reg := s.offerCancelled.reg } := by
  unfold State.offerCancelled; split_ifs <;> rfl

theorem vacated_regOnly (s : State) : s.vacated = { s with reg := s.vacated.reg } := by
  have h := offerCancelled_regOnly s
  exact set_regOnly (set_regOnly (set_regOnly (set_regOnly (set_regOnly h _ _) _ _) _ _) _ _) _ _

theorem vacated_shows (s : State) : s.vacated.get OWN.OWN_STAT.STATE = 0 ∧ s.vacated.get OWN.OWN_STAT.OWNER = 7 ∧
    s.vacated.get OWN.OWN_STAT.NONCE = 0 ∧ s.vacated.get OWN.OWN_STAT.EPOCH = (s.get OWN.OWN_STAT.EPOCH + 1) % 256 ∧
    s.vacated.get FLT.INJ.EN = 0 := by
  have hepoch : s.offerCancelled.get OWN.OWN_STAT.EPOCH = s.get OWN.OWN_STAT.EPOCH := offerCancelled_keeps s _ (by simp)
  simp [State.vacated, State.wrap_eq, hepoch]

/-- With ownership in handover, vacancy cancels the offer. -/
theorem vacated_cancels {s : State} (h : s.get OWN.OWN_STAT.STATE = 3) :
    s.vacated.get OWN.HANDOVER.RESULT = 4 ∧ s.vacated.get OWN.HANDOVER.TARGET = 7 := by
  simp [State.vacated, State.wrap_eq, State.offerCancelled, h]

theorem vacated_slots (s : State) : s.vacated.slots = s.slots := by rw [vacated_regOnly]
theorem vacated_now (s : State) : s.vacated.now = s.now := by rw [vacated_regOnly]

/-! An offer that fails -/

/-- The offer has failed, before its source fires. -/
def State.offerFailed (s : State) : State := ((s.set OWN.OWN_STAT.STATE 2).set OWN.HANDOVER.RESULT 2).set OWN.HANDOVER.TARGET 7

theorem offerNow_eq (s : State) : s.offerNow = s.offerFailed.ownNote OWN.src.HANDOVER_FAIL 7 := rfl

theorem offerFailed_shows (s : State) : s.offerFailed.get OWN.OWN_STAT.STATE = 2 ∧ s.offerFailed.get OWN.HANDOVER.RESULT = 2 ∧
    s.offerFailed.get OWN.HANDOVER.TARGET = 7 := by simp [State.offerFailed]

theorem offerFailed_keeps (s : State) : Keeps s s.offerFailed [OWN.OWN_STAT.STATE.key, OWN.HANDOVER.RESULT.key, OWN.HANDOVER.TARGET.key] :=
  (((Keeps.refl s _).set _ (by simp)).set _ (by simp)).set _ (by simp)

/-! The ends of their times -/

section
variable {s : State}

theorem elect_of {m n : Nat} (hreset : s.inReset = false) (hstate : s.get OWN.OWN_STAT.STATE = 1) (hwin : s.winner = some (m, n)) :
    s.elect = ((s.until (s.own.windowAt + ms 10)).ownerSet m n (s.own.windowAt + ms 10)).mbxEpoch.ownNote OWN.src.OWN_CHANGED m := by
  have hwin : (s.until (s.own.windowAt + ms 10)).winner = some (m, n) := hwin
  rw [State.elect, if_neg (by simp [hreset, hstate]), State.electNow, hwin]
  dsimp only
  rw [setOwner_eq, State.until_own]

theorem lapse_of (hreset : s.inReset = false) (hstate : 2 ≤ s.get OWN.OWN_STAT.STATE) :
    s.lapse = (if s.offerFirst then (s.until s.beatEnd).offerNow else s.until s.beatEnd).lapseNow := by
  rw [State.lapse, if_neg (by simp [hreset]; omega)]
  rfl

theorem lapse_after_offer (hreset : s.inReset = false) (hstate : 2 ≤ s.get OWN.OWN_STAT.STATE) (hfirst : s.offerFirst = true) :
    s.lapse = ((s.until s.beatEnd).offerFailed.ownNote OWN.src.HANDOVER_FAIL 7).lapseNow := by
  rw [lapse_of hreset hstate, if_pos hfirst, offerNow_eq]

theorem lapse_vacates (hreset : s.inReset = false) (hstate : 2 ≤ s.get OWN.OWN_STAT.STATE) (hfirst : s.offerFirst = false) :
    s.lapse = (s.until s.beatEnd).vacated.mbxEpoch.ownNote OWN.src.LAPSED 7 := by
  rw [lapse_of hreset hstate, hfirst, if_neg Bool.false_ne_true, lapseNow_eq]

theorem offerEnd_of (hreset : s.inReset = false) (hstate : s.get OWN.OWN_STAT.STATE = 3) :
    s.offerEnd = if s.offerFirst then (s.until (s.own.offerAt + ms 100)).offerNow else (s.until (s.own.offerAt + ms 100)).lapseNow := by
  rw [State.offerEnd, if_neg (by simp [hreset, hstate])]
  rfl

theorem offerEnd_fails (hreset : s.inReset = false) (hstate : s.get OWN.OWN_STAT.STATE = 3) (hfirst : s.offerFirst = true) :
    s.offerEnd = (s.until (s.own.offerAt + ms 100)).offerFailed.ownNote OWN.src.HANDOVER_FAIL 7 := by
  rw [offerEnd_of hreset hstate, if_pos hfirst, offerNow_eq]

theorem offerEnd_vacates (hreset : s.inReset = false) (hstate : s.get OWN.OWN_STAT.STATE = 3) (hfirst : s.offerFirst = false) :
    s.offerEnd = (s.until (s.own.offerAt + ms 100)).vacated.mbxEpoch.ownNote OWN.src.LAPSED 7 := by
  rw [offerEnd_of hreset hstate, hfirst, if_neg Bool.false_ne_true, lapseNow_eq]

end

/-! What is over by now, before a write -/

/-- A clock that has passed an instant does not wait for it. -/
theorem until_past {s : State} {t : Nat} (h : t ≤ s.now) : s.until t = s := by rw [State.until, max_eq_left h]

theorem inReset_of_canAccess {s : State} {m : Master} (h : s.canAccess m = true) : s.inReset = false := by
  simp only [State.canAccess, Bool.and_eq_true, Bool.not_eq_true'] at h
  exact h.1.1

theorem tenure_fields {s t : State} (h : t.tenure = s.tenure) : t.get OWN.OWN_STAT.STATE = s.get OWN.OWN_STAT.STATE ∧
    t.get OWN.BEAT_MAX.MS = s.get OWN.BEAT_MAX.MS ∧ t.own = s.own := by
  simpa only [State.tenure, Prod.mk.injEq] using h

/-- Whether a time of ownership is over is told by the tenure and the clock. -/
theorem over_congr {s t : State} (h : t.tenure = s.tenure) (hnow : t.now = s.now) :
    t.windowOver = s.windowOver ∧ t.offerOver = s.offerOver ∧ t.beatOver = s.beatOver := by
  obtain ⟨hstate, hmax, hown⟩ := tenure_fields h
  refine ⟨?_, ?_, ?_⟩
  · rw [State.windowOver, hstate, hown, hnow]; rfl
  · rw [State.offerOver, hstate, hown, hnow]; rfl
  · rw [State.beatOver, State.beatEnd, hstate, hmax, hown, hnow]; rfl

theorem mbxEpoch_now (s : State) : s.mbxEpoch.now = s.now := by
  unfold State.mbxEpoch State.mbxEnd State.dropLoad
  split_ifs <;> simp

/-- A part that its change of owner does not reset has the tenure and the clock that the change left. -/
theorem noted_serves (u : State) (b m : Nat) : u.serves (u.mbxEpoch.ownNote b m) := (mbxEpoch_serves u).trans (ownNote_serves _ b m)

theorem noted_now (u : State) (b m : Nat) : (u.mbxEpoch.ownNote b m).now = u.now := by
  rw [State.ownNote, State.fire_now, mbxEpoch_now]

end Sys2Proof.Machine
end

section
/-! SUPPORT. What the writes of ownership do where nothing of it is over, and what comes before a write that finds it over (R116 to R124). -/
namespace Sys2Proof.Machine
open Sys2Proof

/-! The end of a time, before a write -/

/-- An offer whose time is not over does not end, nor any in a part that is in reset. -/
theorem offerEnd_idle {s : State} (h : s.inReset = true ∨ s.offerOver = false) : (if s.offerOver then s.offerEnd else s) = s := by
  rcases h with h | h
  · rw [State.offerEnd, h, Bool.true_or, if_pos rfl, ite_self]
  · rw [h]; rfl

theorem lapse_idle {s : State} (h : s.inReset = true ∨ s.beatOver = false) : (if s.beatOver then s.lapse else s) = s := by
  rcases h with h | h
  · rw [State.lapse, h, Bool.true_or, if_pos rfl, ite_self]
  · rw [h]; rfl

/-- After a change of owner that is noted, the part is in reset, or no more is over than the change left. -/
theorem noted_over (u : State) (b m : Nat) : (u.mbxEpoch.ownNote b m).inReset = true ∨
    (u.mbxEpoch.ownNote b m).windowOver = u.windowOver ∧ (u.mbxEpoch.ownNote b m).offerOver = u.offerOver ∧
      (u.mbxEpoch.ownNote b m).beatOver = u.beatOver :=
  (noted_serves u b m).imp_right fun h => over_congr h.1 (noted_now u b m)

/-- A new owner whose heartbeat runs leaves nothing over. -/
theorem ownerSet_calm {s : State} {t : Nat} (m nonce : Nat) (h : s.now < t + ms (s.get OWN.BEAT_MAX.MS)) :
    (s.ownerSet m nonce t).ownCalm = true := by
  obtain ⟨hstate, -⟩ := ownerSet_shows s m nonce t
  have hmax : (s.ownerSet m nonce t).get OWN.BEAT_MAX.MS = s.get OWN.BEAT_MAX.MS := ownerSet_get s m nonce t (by simp [ownerKeys])
  have hend : (s.ownerSet m nonce t).beatEnd = t + ms (s.get OWN.BEAT_MAX.MS) := by
    rw [State.beatEnd, hmax, (ownerSet_rest s m nonce t).1]
  obtain ⟨-, -, hnow⟩ := ownerSet_rest s m nonce t
  simpa [State.ownCalm, State.windowOver, State.offerOver, State.beatOver, hstate, hend, hnow] using h

theorem over_of_calm {s : State} (h : s.ownCalm = true) : s.windowOver = false ∧ s.offerOver = false ∧ s.beatOver = false := by
  simp only [State.ownCalm, Bool.and_eq_true, Bool.not_eq_true'] at h
  exact ⟨h.1.2, h.2, h.1.1⟩

theorem vacant_calm {s : State} (h : s.get OWN.OWN_STAT.STATE = 0) : s.ownCalm = true := by
  simp [State.ownCalm, State.windowOver, State.offerOver, State.beatOver, h]

/-- A change that left a calm ownership is calm once it is noted, but for a part that is in reset. -/
theorem noted_calm {u : State} (h : u.ownCalm = true) (b m : Nat) (hreset : (u.mbxEpoch.ownNote b m).inReset = false) :
    (u.mbxEpoch.ownNote b m).ownCalm = true ∧ (u.mbxEpoch.ownNote b m).get OWN.OWN_STAT.STATE = u.get OWN.OWN_STAT.STATE := by
  rcases noted_serves u b m with hin | ⟨htenure, -⟩
  · exact absurd (hreset.symm.trans hin) (by decide)
  · obtain ⟨hwindow, hoffer, hbeat⟩ := over_congr htenure (noted_now u b m)
    exact ⟨by rw [State.ownCalm, hwindow, hoffer, hbeat]; exact h, (tenure_fields htenure).1⟩

/-- An election window that is over makes its winner owner, whose heartbeat runs on. -/
theorem ownDue_elects {s : State} {m n : Nat} (hreset : s.inReset = false) (hover : s.windowOver = true) (hwin : s.winner = some (m, n))
    (hbeat : s.now < s.own.windowAt + ms 10 + ms (s.get OWN.BEAT_MAX.MS)) :
    s.ownDue = (s.ownerSet m n (s.own.windowAt + ms 10)).mbxEpoch.ownNote OWN.src.OWN_CHANGED m := by
  obtain ⟨hstate, hpast⟩ : s.get OWN.OWN_STAT.STATE = 1 ∧ s.own.windowAt + ms 10 ≤ s.now := by simpa [State.windowOver] using hover
  have helect := elect_of hreset hstate hwin
  rw [until_past hpast] at helect
  obtain ⟨-, hoffer, hlapse⟩ := over_of_calm (ownerSet_calm m n hbeat)
  have hnoted := noted_over (s.ownerSet m n (s.own.windowAt + ms 10)) OWN.src.OWN_CHANGED m
  rw [hoffer, hlapse] at hnoted
  rw [State.ownDue, if_neg (by simp [hreset])]
  dsimp only
  rw [if_pos hover, helect, offerEnd_idle (hnoted.imp_right fun h => h.2.1), lapse_idle (hnoted.imp_right fun h => h.2.2)]

/-- A heartbeat that is over, with no offer over, leaves ownership vacant. -/
theorem ownDue_lapses {s : State} (hreset : s.inReset = false) (hover : s.beatOver = true) (hoffer : s.offerOver = false) :
    s.ownDue = s.vacated.mbxEpoch.ownNote OWN.src.LAPSED 7 := by
  obtain ⟨hstate, hpast⟩ : 2 ≤ s.get OWN.OWN_STAT.STATE ∧ s.beatEnd ≤ s.now := by simpa [State.beatOver] using hover
  have hwindow : s.windowOver = false := by
    have : s.get OWN.OWN_STAT.STATE ≠ 1 := by omega
    simp [State.windowOver, this]
  have hfirst : s.offerFirst = false := by
    simp only [State.offerOver, State.offerFirst, Bool.and_eq_false_iff, decide_eq_false_iff_not] at hoffer ⊢
    exact hoffer.imp_right fun h => by omega
  have hlapse := lapse_vacates hreset hstate hfirst
  rw [until_past hpast] at hlapse
  rw [State.ownDue, if_neg (by simp [hreset]), hwindow]
  simp only [Bool.false_eq_true, if_false, hoffer, hover, if_true, hlapse]

/-- A write that is taken after what was due is made in a part that is out of reset. -/
theorem due_out_of_reset {s : State} {m : Master} {a : Nat} {v : Word} {fs : List Fld} {ok : Bool} (h : s.ownDue.judge m a v fs ok = .take) :
    s.ownDue.inReset = false := inReset_of_canAccess ((judge_take_iff _ _ _ _ _ _).mp h).1

/-! Claims -/

/-- The state with another record of claims and times. -/
def State.setOwn (s : State) (o : Own) : State := { s with own := o }

theorem setOwn_get (s : State) (o : Own) (g : Fld) : (s.setOwn o).get g = s.get g := rfl

/-- A claim stands, and opens the election where ownership is vacant. -/
def State.claimed (s : State) (m nonce : Nat) : State :=
  let o : Own := { s.own with claims := Tab.set 0 s.own.claims m nonce }
  if s.get OWN.OWN_STAT.STATE = 0 then (s.set OWN.OWN_STAT.STATE 1).setOwn { o with windowAt := s.now } else s.setOwn o

section
variable {s : State} {m nonce : Nat}

theorem claim_refused (hcalm : s.ownCalm = true) (h : s.rst.loaded = false ∨ 2 ≤ s.get OWN.OWN_STAT.STATE) :
    s.claim m nonce = s.ownNote OWN.src.CLAIM_REFUSED m := by
  rw [State.claim, ownDue_calm hcalm]
  exact if_pos (by simpa using h)

theorem claim_joins (hcalm : s.ownCalm = true) (hloaded : s.rst.loaded = true) (h : s.get OWN.OWN_STAT.STATE < 2) :
    s.claim m nonce = s.claimed m nonce := by
  rw [State.claim, ownDue_calm hcalm]
  exact if_neg (by simpa [hloaded] using h)

theorem claimed_opens (h : s.get OWN.OWN_STAT.STATE = 0) :
    (s.claimed m nonce).get OWN.OWN_STAT.STATE = 1 ∧ (s.claimed m nonce).own.windowAt = s.now := by
  rw [State.claimed, if_pos h]
  exact ⟨(setOwn_get _ _ _).trans (State.get_set_same _ _ _), rfl⟩

theorem claimed_claims (k : Nat) : Tab.get 0 (s.claimed m nonce).own.claims k = if k = m then nonce else Tab.get 0 s.own.claims k := by
  have hclaims : (s.claimed m nonce).own.claims = Tab.set 0 s.own.claims m nonce := by unfold State.claimed; dsimp only; split_ifs <;> rfl
  rw [hclaims, Tab.get_set]

theorem claimed_keeps : Keeps s (s.claimed m nonce) [OWN.OWN_STAT.STATE.key] := by
  unfold State.claimed
  dsimp only
  split_ifs
  · exact Keeps.reg_eq (t := s.set OWN.OWN_STAT.STATE 1) ((Keeps.refl s _).set 1 (by simp)) rfl
  · exact Keeps.of_reg rfl _

/-! Acceptance -/

theorem accept_refused (hcalm : s.ownCalm = true) (h : s.get OWN.OWN_STAT.STATE ≠ 3 ∨ s.get OWN.HANDOVER.TARGET ≠ m) :
    s.accept m nonce = s.ownNote OWN.src.CLAIM_REFUSED m := by
  rw [State.accept, ownDue_calm hcalm]
  exact if_neg (by rw [not_and_or]; exact h)

/-- The offer is accepted, and the heartbeat counts from now on, before a mailbox command ends. -/
def State.accepted (s : State) (m nonce : Nat) : State := ((s.set OWN.HANDOVER.RESULT 1).set OWN.HANDOVER.TARGET 7).ownerSet m nonce s.now

theorem accept_takes (hcalm : s.ownCalm = true) (hstate : s.get OWN.OWN_STAT.STATE = 3) (htarget : s.get OWN.HANDOVER.TARGET = m) :
    s.accept m nonce = (s.accepted m nonce).mbxEpoch.ownNote OWN.src.OWN_CHANGED m := by
  rw [State.accept, ownDue_calm hcalm]
  rw [if_pos ⟨hstate, htarget⟩, setOwner_eq]
  rfl

theorem accepted_shows : (s.accepted m nonce).get OWN.OWN_STAT.STATE = 2 ∧ (s.accepted m nonce).get OWN.OWN_STAT.OWNER = m % 8 ∧
    (s.accepted m nonce).get OWN.OWN_STAT.NONCE = nonce % 65536 ∧
    (s.accepted m nonce).get OWN.OWN_STAT.EPOCH = (s.get OWN.OWN_STAT.EPOCH + 1) % 256 ∧
    (s.accepted m nonce).get OWN.HANDOVER.RESULT = 1 ∧ (s.accepted m nonce).get OWN.HANDOVER.TARGET = 7 := by
  obtain ⟨hstate, howner, hnonce, hepoch, -⟩ := ownerSet_shows ((s.set OWN.HANDOVER.RESULT 1).set OWN.HANDOVER.TARGET 7) m nonce s.now
  refine ⟨hstate, howner, hnonce, hepoch.trans (by simp), ?_, ?_⟩
  · exact (ownerSet_get _ _ _ _ (by simp [ownerKeys])).trans (by simp)
  · exact (ownerSet_get _ _ _ _ (by simp [ownerKeys])).trans (by simp)

theorem accepted_rest (s : State) (m nonce : Nat) : (s.accepted m nonce).own.beatAt = s.now ∧ (s.accepted m nonce).slots = s.slots := by
  obtain ⟨hbeat, hslots, -⟩ := ownerSet_rest ((s.set OWN.HANDOVER.RESULT 1).set OWN.HANDOVER.TARGET 7) m nonce s.now
  exact ⟨hbeat, hslots.trans (by simp)⟩

theorem accepted_keeps : Keeps s (s.accepted m nonce) vacancyKeys :=
  ownerSet_keeps (((Keeps.refl s _).set 1 (by simp [vacancyKeys])).set 7 (by simp [vacancyKeys])) (by simp [ownerKeys, vacancyKeys]) _ _ _

/-! Offers -/

/-- An offer stands from now on, before its source fires. -/
def State.offered (s : State) (t : Nat) : State :=
  ((s.set OWN.OWN_STAT.STATE 3).set OWN.HANDOVER.TARGET t).setOwn { s.own with offerAt := s.now }

/-- The owner takes its offer back. -/
def State.offerWithdrawn (s : State) : State := ((s.set OWN.OWN_STAT.STATE 2).set OWN.HANDOVER.RESULT 3).set OWN.HANDOVER.TARGET 7

theorem offered_shows (s : State) (t : Nat) : (s.offered t).get OWN.OWN_STAT.STATE = 3 ∧ (s.offered t).get OWN.HANDOVER.TARGET = t % 8 ∧
    Keeps s (s.offered t) [OWN.OWN_STAT.STATE.key, OWN.HANDOVER.TARGET.key] := by
  have hkeeps : Keeps s ((s.set OWN.OWN_STAT.STATE 3).set OWN.HANDOVER.TARGET t) [OWN.OWN_STAT.STATE.key, OWN.HANDOVER.TARGET.key] :=
    ((Keeps.refl s _).set 3 (by simp)).set t (by simp)
  refine ⟨?_, ?_, hkeeps.reg_eq rfl⟩
  · rw [State.offered, setOwn_get]; simp
  · rw [State.offered, setOwn_get]; simp

theorem offerWithdrawn_shows (s : State) : s.offerWithdrawn.get OWN.OWN_STAT.STATE = 2 ∧ s.offerWithdrawn.get OWN.HANDOVER.RESULT = 3 ∧
    s.offerWithdrawn.get OWN.HANDOVER.TARGET = 7 ∧
    Keeps s s.offerWithdrawn [OWN.OWN_STAT.STATE.key, OWN.HANDOVER.RESULT.key, OWN.HANDOVER.TARGET.key] := by
  refine ⟨?_, ?_, ?_, (((Keeps.refl s _).set 2 (by simp)).set 3 (by simp)).set 7 (by simp)⟩ <;> simp [State.offerWithdrawn]

theorem offer_stands {t : Nat} (hcalm : s.ownCalm = true) (ht : t ≠ 7) : s.offer m t = (s.offered t).ownNote OWN.src.OWN_CHANGED m := by
  rw [State.offer, ownDue_calm hcalm]
  exact if_neg ht

theorem offer_withdraws (hcalm : s.ownCalm = true) (hstate : s.get OWN.OWN_STAT.STATE = 3) : s.offer m 7 = s.offerWithdrawn := by
  rw [State.offer, ownDue_calm hcalm]
  exact if_pos hstate

end

/-! The writes that the fabric takes -/

section
variable {s : State} {m : Master} {v : Word}

theorem ownClaimWrite_claims (h : s.takes m 0x1040 v) (hrel : v.getLsbD 16 = false) :
    s.ownClaimWrite m v = (s.outcome m 0).claim m.num (v.toNat % 65536) := by
  rw [State.ownClaimWrite, guarded_of_takes _ h (by decide), hrel, if_neg Bool.false_ne_true, of_OWN_CLAIM_NONCE]

theorem ownClaimWrite_releases (h : s.takes m 0x1040 v) (hrel : v.getLsbD 16 = true) :
    s.ownClaimWrite m v = (s.outcome m 0).vacated.mbxEpoch.ownNote OWN.src.OWN_CHANGED m.num := by
  rw [State.ownClaimWrite, guarded_of_takes _ h (by decide), hrel, if_pos rfl, relinquish_eq]

theorem ownBeatWrite_of_takes (h : s.takes m 0x1048 v) (hstate : 2 ≤ s.get OWN.OWN_STAT.STATE) :
    s.ownBeatWrite m v = (s.outcome m 0).beat := by
  rw [State.ownBeatWrite, guarded_of_takes _ h (by decide)]
  exact if_pos hstate

/-- The heartbeat's limit is the written one, and its timer restarts. -/
def State.beatMaxWritten (s : State) (v : Word) : State := (s.set OWN.BEAT_MAX.MS (v.toNat % 65536)).beat

theorem beatMaxWritten_shows (s : State) (v : Word) : (s.beatMaxWritten v).get OWN.BEAT_MAX.MS = v.toNat % 65536 ∧
    Keeps s (s.beatMaxWritten v) [OWN.BEAT_MAX.MS.key] :=
  ⟨(State.get_set_same s _ _).trans (Nat.mod_mod _ _), ((Keeps.refl s _).set _ (by simp)).reg_eq rfl⟩

theorem writeReg_BEAT_MAX (s : State) (v : Word) : s.writeReg 0x104C v = s.set OWN.BEAT_MAX.MS (v.toNat % 65536) := by
  rw [← of_BEAT_MAX_MS]; rfl

theorem beatMaxWrite_of_takes (h : s.takes m 0x104C v) : s.beatMaxWrite m v = (s.outcome m 0).beatMaxWritten v := by
  rw [State.beatMaxWrite, guarded_of_takes _ h (by decide), writeReg_BEAT_MAX]
  rfl

theorem acceptWrite_of_takes (h : s.takes m 0x1054 v) : s.acceptWrite m v = (s.outcome m 0).accept m.num (v.toNat % 65536) := by
  rw [State.acceptWrite, guarded_of_takes _ h (by decide), of_ACCEPT_NONCE]

theorem handoverWrite_of_takes (h : s.takes m 0x1050 v) (hother : v.toNat % 8 ≠ s.get OWN.OWN_STAT.OWNER) :
    s.handoverWrite m v = (s.outcome m 0).offer m.num (v.toNat % 8) := by
  have hok : (OWN.HANDOVER.TARGET.of v != s.ownDue.get OWN.OWN_STAT.OWNER || OWN.HANDOVER.TARGET.of v == 7) = true := by
    rw [ownDue_calm h.1, of_HANDOVER_TARGET]
    simp [hother]
  rw [State.handoverWrite, hok, guardedBy_of_take _ h (by decide), of_HANDOVER_TARGET]

theorem rfStopWrite_of_takes (h : s.takes m 0x48 v) : s.rfStopWrite m v = (s.outcome m 0).rfWrite m.num v := by
  rw [State.rfStopWrite, guarded_of_takes _ h (by decide)]

theorem rfWrite_sets {k : Nat} (hset : v.getLsbD 8 = true) (hstop : s.flag IDN.RF_STOP.STOP = false) :
    s.rfWrite k v = (((s.set IDN.RF_STOP.STOP 1).set IDN.RF_STOP.SETTER k).syncGate).stopNote k := by
  rw [State.rfWrite, if_pos hset, if_neg (by simp [hstop])]

theorem rfWrite_stands {k : Nat} (hset : v.getLsbD 8 = true) (hstop : s.flag IDN.RF_STOP.STOP = true) : s.rfWrite k v = s := by
  rw [State.rfWrite, if_pos hset, if_pos hstop]

theorem rfWrite_clears {k : Nat} (hset : v.getLsbD 8 = false) (hclear : v.getLsbD 9 = true) (hstop : s.flag IDN.RF_STOP.STOP = true) :
    s.rfWrite k v = ((s.set IDN.RF_STOP.STOP 0).syncGate).stopNote k := by
  rw [State.rfWrite, if_neg (by rw [hset]; decide), if_pos ⟨hclear, hstop⟩]

end

/-! The writes that come after what was due -/

section
variable {s : State} {m : Master} {v : Word}

theorem claim_of_owned {k nonce : Nat} (a : Nat) (ha : pageOf a ≠ 4) (hcalm : s.ownCalm = true) (hstate : 2 ≤ s.get OWN.OWN_STAT.STATE) :
    ((s.outcome m 0).breakKey m a).claim k nonce = ((s.outcome m 0).breakKey m a).ownNote OWN.src.CLAIM_REFUSED k := by
  rw [breakKey_of_page_ne ha]
  exact claim_refused (s := s.outcome m 0) hcalm (.inr hstate)

theorem accept_of_vacant {k nonce : Nat} (a : Nat) (ha : pageOf a ≠ 4) (hstate : s.get OWN.OWN_STAT.STATE = 0) :
    ((s.outcome m 0).breakKey m a).accept k nonce = ((s.outcome m 0).breakKey m a).ownNote OWN.src.CLAIM_REFUSED k := by
  have hstate' : (s.outcome m 0).get OWN.OWN_STAT.STATE = 0 := hstate
  rw [breakKey_of_page_ne ha]
  exact accept_refused (vacant_calm hstate') (.inl (by rw [hstate']; decide))

/-- An overdue election ends before the claim, which its winner's ownership refuses. -/
theorem claim_after_window {w n : Nat} (hjudge : s.ownDue.judge m 0x1040 v (fieldsAt 0x1040) true = .take) (hrel : v.getLsbD 16 = false)
    (hreset : s.inReset = false) (hover : s.windowOver = true) (hwin : s.winner = some (w, n))
    (hbeat : s.now < s.own.windowAt + ms 10 + ms (s.get OWN.BEAT_MAX.MS)) :
    s.ownClaimWrite m v = ((((s.ownerSet w n (s.own.windowAt + ms 10)).mbxEpoch.ownNote OWN.src.OWN_CHANGED w).outcome m 0).breakKey m
      0x1040).ownNote OWN.src.CLAIM_REFUSED m.num := by
  have hout := due_out_of_reset hjudge
  rw [State.ownClaimWrite, State.guarded, guardedBy_take _ hjudge, hrel, if_neg Bool.false_ne_true]
  rw [ownDue_elects hreset hover hwin hbeat] at hout ⊢
  obtain ⟨hcalm, hstate⟩ := noted_calm (ownerSet_calm w n hbeat) OWN.src.OWN_CHANGED w hout
  rw [(ownerSet_shows s w n _).1] at hstate
  exact claim_of_owned 0x1040 (by decide) hcalm (Nat.le_of_eq hstate.symm)

/-- An overdue heartbeat lapses before the acceptance, which vacancy refuses. -/
theorem accept_after_lapse (hjudge : s.ownDue.judge m 0x1054 v (fieldsAt 0x1054) true = .take) (hreset : s.inReset = false)
    (hover : s.beatOver = true) (hoffer : s.offerOver = false) :
    s.acceptWrite m v = (((s.vacated.mbxEpoch.ownNote OWN.src.LAPSED 7).outcome m 0).breakKey m 0x1054).ownNote
      OWN.src.CLAIM_REFUSED m.num := by
  have hout := due_out_of_reset hjudge
  rw [State.acceptWrite, State.guarded, guardedBy_take _ hjudge]
  rw [ownDue_lapses hreset hover hoffer] at hout ⊢
  have hvacant := (vacated_shows s).1
  obtain ⟨-, hstate⟩ := noted_calm (vacant_calm hvacant) OWN.src.LAPSED 7 hout
  rw [hvacant] at hstate
  exact accept_of_vacant 0x1054 (by decide) hstate

end

end Sys2Proof.Machine
end

section
/-! SUPPORT. Ownership (R115 to R124) and RF_STOP (R128, R129). -/
namespace Sys2Proof.Machine
open Sys2Proof

/-- Settles O19: a claim that finds nothing over joins or is refused, and one that finds the window over comes after the winner. -/
theorem ownershipClaims : Obligations.OwnershipClaims := by
  refine ⟨fun s m v ht hrel _ _ _ => ⟨fun hloaded hstate => ?_, fun hno => ?_⟩, fun s m v w n hjudge hrel hreset hover hwin hbeat => ?_⟩
  · exact answersSettled_of rfl ((ownClaimWrite_claims ht hrel).trans (claim_joins ht.1 hloaded hstate))
      ⟨fun h => claimed_opens h, claimed_claims, claimed_keeps⟩
  · exact answersVia_of rfl (congrArg State.settle ((ownClaimWrite_claims ht hrel).trans (claim_refused ht.1 hno)))
      ⟨Keeps.of_reg rfl _, rfl⟩
  · obtain ⟨hstate, howner, hnonce, -⟩ := ownerSet_shows s w n (s.own.windowAt + ms 10)
    obtain ⟨hbeatAt, -, hnow⟩ := ownerSet_rest s w n (s.own.windowAt + ms 10)
    exact answersVia_of rfl (congrArg State.settle (claim_after_window hjudge hrel hreset hover hwin hbeat))
      ⟨hbeatAt, hstate, howner, hnonce, hnow⟩

/-- Settles O21, change by change: each is a new owner's registers or vacancy, and what follows is the mailbox's end and the note. -/
theorem ownershipChanges : Obligations.OwnershipChanges := by
  refine ⟨fun s m n hreset hstate hwin => ?_, fun s m v ht hrel => ?_, fun s hreset hstate hfirst => ?_, fun s hreset hstate hfirst => ?_,
    fun s m v hjudge hreset hover hoffer => ?_, fun s m v ht hstate htarget _ _ => ?_⟩
  · obtain ⟨hnew, howner, hnonce, hepoch, hinj⟩ := ownerSet_shows (s.until (s.own.windowAt + ms 10)) m n (s.own.windowAt + ms 10)
    obtain ⟨hbeat, hslots, hnow⟩ := ownerSet_rest (s.until (s.own.windowAt + ms 10)) m n (s.own.windowAt + ms 10)
    exact answersVia_of rfl (congrArg State.settle (elect_of hreset hstate hwin))
      ⟨hnew, howner, hnonce, hepoch, hinj, hbeat, hnow ▸ le_max_right _ _, hslots, ownerSet_keeps (Keeps.of_reg rfl _) (List.Subset.refl _) _ _ _⟩
  · obtain ⟨hnew, howner, hnonce, hepoch, hinj⟩ := vacated_shows (s.outcome m 0)
    exact answersVia_of rfl (congrArg State.settle (ownClaimWrite_releases ht hrel))
      ⟨hnew, howner, hnonce, hepoch, hinj, fun h => vacated_cancels h, vacated_slots _, vacated_keeps (s.outcome m 0)⟩
  · obtain ⟨-, hresult, htarget⟩ := offerFailed_shows (s.until s.beatEnd)
    exact answersVia_of rfl (congrArg State.settle (lapse_after_offer hreset hstate hfirst))
      ⟨hresult, htarget, le_max_right _ _, offerFailed_keeps (s.until s.beatEnd)⟩
  · obtain ⟨hnew, howner, hnonce, hepoch, -⟩ := vacated_shows (s.until s.beatEnd)
    have hpast : s.own.beatAt + ms (s.get OWN.BEAT_MAX.MS) ≤ (s.until s.beatEnd).vacated.now := by
      rw [vacated_now]; exact le_max_right _ _
    exact answersVia_of rfl (congrArg State.settle (lapse_vacates hreset hstate hfirst))
      ⟨hnew, howner, hnonce, hepoch, hpast, fun h => vacated_cancels h, vacated_slots _, vacated_keeps (s.until s.beatEnd)⟩
  · obtain ⟨hnew, howner, -, hepoch, -⟩ := vacated_shows s
    exact answersVia_of rfl (congrArg State.settle (accept_after_lapse hjudge hreset hover hoffer)) ⟨hnew, howner, hepoch, vacated_now s⟩
  · have hwrite := (acceptWrite_of_takes ht).trans (accept_takes (s := s.outcome m 0) ht.1 hstate htarget)
    obtain ⟨hnew, howner, hnonce, hepoch, hresult, hnobody⟩ := accepted_shows (s := s.outcome m 0) (m := m.num) (nonce := v.toNat % 65536)
    obtain ⟨hbeat, hslots⟩ := accepted_rest (s.outcome m 0) m.num (v.toNat % 65536)
    rw [Nat.mod_eq_of_lt (master_num_lt m)] at howner
    rw [Nat.mod_mod] at hnonce
    exact answersVia_of rfl (congrArg State.settle hwrite)
      ⟨hnew, howner, hnonce, hepoch, hresult, hnobody, hbeat, hslots, accepted_keeps (s := s.outcome m 0)⟩

/-- Settles O22: the beats, the offers and their ends, and RF_STOP. -/
theorem heartbeatAndOffers : Obligations.HeartbeatAndOffers := by
  refine ⟨fun s m v ht hstate => ?_, fun s m v ht => ?_, fun s m v ht hother _ => ⟨fun hto => ?_, fun hto hstate => ?_⟩,
    fun s m v ht hno _ _ _ => ?_, fun s hreset hstate hfirst => ?_, fun s hreset hstate hfirst => ?_,
    fun s m v ht hset => ⟨fun hstop => ?_, fun hstop => ?_⟩, fun s m v ht hset hclear hstop => ?_⟩
  · exact answersSettled_of rfl (ownBeatWrite_of_takes ht hstate) ⟨rfl, Keeps.of_reg rfl _⟩
  · obtain ⟨hmax, hkeeps⟩ := beatMaxWritten_shows (s.outcome m 0) v
    exact answersSettled_of rfl (beatMaxWrite_of_takes ht) ⟨hmax, rfl, hkeeps⟩
  · have hwrite := (handoverWrite_of_takes ht hother).trans (offer_stands (s := s.outcome m 0) ht.1 hto)
    obtain ⟨hoffer, htarget, hkeeps⟩ := offered_shows (s.outcome m 0) (v.toNat % 8)
    rw [Nat.mod_mod] at htarget
    exact answersVia_of rfl (congrArg State.settle hwrite) ⟨hoffer, htarget, rfl, hkeeps⟩
  · have hwrite := handoverWrite_of_takes ht hother
    rw [hto] at hwrite
    exact answersSettled_of rfl (hwrite.trans (offer_withdraws (s := s.outcome m 0) ht.1 hstate)) (offerWithdrawn_shows (s.outcome m 0))
  · exact answersVia_of rfl (congrArg State.settle ((acceptWrite_of_takes ht).trans (accept_refused (s := s.outcome m 0) ht.1 hno)))
      (Keeps.of_reg rfl _)
  · exact answersVia_of rfl (congrArg State.settle (offerEnd_vacates hreset hstate hfirst))
      ⟨(vacated_shows _).1, vacated_cancels (s := s.until (s.own.offerAt + ms 100)) hstate⟩
  · obtain ⟨howned, hresult, htarget⟩ := offerFailed_shows (s.until (s.own.offerAt + ms 100))
    exact answersVia_of rfl (congrArg State.settle (offerEnd_fails hreset hstate hfirst))
      ⟨howned, hresult, htarget, le_max_right _ _, offerFailed_keeps (s.until (s.own.offerAt + ms 100))⟩
  · have hwrite := (rfStopWrite_of_takes ht).trans (rfWrite_sets (s := s.outcome m 0) hset hstop)
    refine answersVia_of rfl (congrArg State.settle hwrite) ⟨?_, ?_, ((Keeps.refl s _).set 1 (by simp)).set m.num (by simp)⟩
    · simp
    · simpa using master_num_lt m
  · exact answersSettled_of rfl ((rfStopWrite_of_takes ht).trans (rfWrite_stands (s := s.outcome m 0) hset hstop)) (Keeps.of_reg rfl _)
  · have hwrite := (rfStopWrite_of_takes ht).trans (rfWrite_clears (s := s.outcome m 0) hset hclear hstop)
    exact answersVia_of rfl (congrArg State.settle hwrite) ⟨State.get_set_same _ _ _, (Keeps.refl s _).set 0 (by simp)⟩

end Sys2Proof.Machine
end

section
/-! SUPPORT. What holds, releases, gains and ramps of the slots leave beside them (R158, R172, R173). -/
namespace Sys2Proof.Machine
open Sys2Proof

/-! Folds -/

/-- What each step of a fold establishes for its own element, and keeps where it holds already, holds of every element in the end. -/
theorem foldl_establishes {α β : Type} {f : β → α → β} {P : β → Prop} {a : α} (h : ∀ b x, a = x ∨ P b → P (f b x)) (l : List α) {b : β}
    (hb : a ∈ l ∨ P b) : P (l.foldl f b) := by
  induction l generalizing b with
  | nil => simpa using hb
  | cons x l ih =>
    rcases hb with ha | hp
    · exact ih ((List.mem_cons.mp ha).symm.imp_right fun e => h b x (.inl e))
    · exact ih (.inr (h b x (.inr hp)))

/-- Where the other steps of a fold leave a projection alone, the fold shows in it what one step does. -/
theorem foldl_shows_step {α β γ : Type} (P : β → γ) (f : β → α → β) {l : List α} (hl : l.Nodup) {a : α} (ha : a ∈ l)
    (h : ∀ b, ∀ x ∈ l, x ≠ a → P (f b x) = P b) (b : β) : ∃ b', P b' = P b ∧ P (l.foldl f b) = P (f b' a) := by
  obtain ⟨before, after, rfl⟩ := List.append_of_mem ha
  obtain ⟨hbefore, hafter⟩ : a ∉ before ∧ a ∉ after := by
    rw [List.nodup_middle, List.nodup_cons, List.mem_append, not_or] at hl; exact hl.1
  refine ⟨before.foldl f b, foldl_keeps_mem P f before (fun c x hx => h c x (by simp [hx]) fun e => hbefore (e ▸ hx)) b, ?_⟩
  rw [List.foldl_append, List.foldl_cons]
  exact foldl_keeps_mem P f after (fun c x hx => h c x (by simp [hx]) fun e => hafter (e ▸ hx)) _

/-! Beside the slots -/

/-- What stands beside the slots: a register field, which slots are enabled, the chiplets, the observation plans and the time. -/
def State.besideSlots (s : State) (g : Fld) : Nat × List Nat × Tab Cnv × Tab (List Nat) × Nat := (s.get g, s.active, s.cnv, s.obsLive, s.now)

theorem besideSlots_iff {s t : State} {g : Fld} : t.besideSlots g = s.besideSlots g ↔
    t.get g = s.get g ∧ t.active = s.active ∧ t.cnv = s.cnv ∧ t.obsLive = s.obsLive ∧ t.now = s.now := by
  simp only [State.besideSlots, Prod.mk.injEq]

@[simp] theorem modSlot_besideSlots (s : State) (i : Nat) (f : Slot → Slot) (g : Fld) : (s.modSlot i f).besideSlots g = s.besideSlots g := rfl
@[simp] theorem modGv_besideSlots (s : State) (i : Nat) (f : Gov → Gov) (g : Fld) : (s.modGv i f).besideSlots g = s.besideSlots g := rfl
@[simp] theorem cut_besideSlots (s : State) (i : Nat) (g : Fld) : (s.cut i).besideSlots g = s.besideSlots g := rfl

@[simp] theorem fadeOut_besideSlots (s : State) (i t : Nat) (g : Fld) : (s.fadeOut i t).besideSlots g = s.besideSlots g := by
  unfold State.fadeOut; split <;> rfl

section
variable {g : Fld} (hg : g.key < 32 * 0x40000)
include hg

theorem set_besideSlots (s : State) {f : Fld} (v : Nat) (hf : 32 * 0x40000 ≤ f.key) : (s.set f v).besideSlots g = s.besideSlots g :=
  besideSlots_iff.mpr ⟨State.get_set_ne s v (by omega), rfl, rfl, rfl, rfl⟩

/-- A write of the register at offset `o` of a slot's block. -/
theorem set_slot_besideSlots (s : State) {f : Fld} {i o b : Nat} (v : Nat) (hf : f.key = 32 * (slotBase i + o) + b) :
    (s.set f v).besideSlots g = s.besideSlots g :=
  set_besideSlots hg s v (by rw [hf, slotBase]; omega)

theorem putHOLD_besideSlots (s : State) (i b : Nat) (on : Bool) :
    (s.putBit (SLP.SLOT_STAT.HOLD i) b on).besideSlots g = s.besideSlots g := set_slot_besideSlots hg s _ rfl

theorem setSTATE_besideSlots (s : State) (i v : Nat) : (s.set (SLP.SLOT_STAT.STATE i) v).besideSlots g = s.besideSlots g :=
  set_slot_besideSlots hg s v rfl

theorem silence_besideSlots (s : State) (i : Nat) : (s.silence i).besideSlots g = s.besideSlots g :=
  (set_slot_besideSlots hg _ _ rfl).trans (set_slot_besideSlots hg s _ rfl)

theorem holdAt_besideSlots (s : State) (b i t : Nat) : (s.holdAt b i t).besideSlots g = s.besideSlots g := by
  unfold State.holdAt
  dsimp only
  split_ifs <;> simp [silence_besideSlots hg, setSTATE_besideSlots hg, putHOLD_besideSlots hg]

theorem unhold_besideSlots (s : State) (b i : Nat) : (s.unhold b i).besideSlots g = s.besideSlots g := by
  unfold State.unhold
  dsimp only
  split_ifs <;> simp [putHOLD_besideSlots hg]

theorem takeGain_besideSlots (s : State) (i : Nat) (a : Nat × Int) : (s.takeGain i a).besideSlots g = s.besideSlots g := by
  refine (set_slot_besideSlots hg _ _ rfl).trans ((set_slot_besideSlots hg _ _ rfl).trans ?_)
  split_ifs <;> rfl

theorem applyGain_besideSlots (s : State) (i : Nat) : (s.applyGain i).besideSlots g = s.besideSlots g := by
  have hput (b : Bool) : (s.put (SLP.GAIN_STAT.BACKOFF i) b).besideSlots g = s.besideSlots g := set_slot_besideSlots hg s _ rfl
  unfold State.applyGain
  dsimp only
  split_ifs <;> simp [takeGain_besideSlots hg, silence_besideSlots hg, hput]

theorem setCap_besideSlots (s : State) (i : Nat) (c : Int) : (s.setCap i c).besideSlots g = s.besideSlots g :=
  (set_besideSlots hg _ _ (by simp; omega)).trans ((set_besideSlots hg _ _ (by simp; omega)).trans (modGv_besideSlots s i _ g))

theorem rampUp_besideSlots (s : State) (i : Nat) : (s.rampUp i).besideSlots g = s.besideSlots g := by
  unfold State.rampUp
  dsimp only
  rw [applyGain_besideSlots hg, setSTATE_besideSlots hg, silence_besideSlots hg]
  split
  · exact setCap_besideSlots hg _ _ _
  · rfl

end

end Sys2Proof.Machine
end

section
/-! SUPPORT. The slots of a chiplet, and HOLD.CHANNEL on them (R140, R141, R158). -/
namespace Sys2Proof.Machine
open Sys2Proof

/-- The channels that a slot names stand in its own registers. -/
theorem onChiplet_congr {s t : State} (h : ∀ g : Fld, 32 * 0x40000 ≤ g.key → t.get g = s.get g) (n i : Nat) :
    t.onChiplet n i = s.onChiplet n i := by
  have hslot {g : Fld} {o b : Nat} (hg : g.key = 32 * (slotBase i + o) + b) : t.get g = s.get g := h g (by rw [hg, slotBase]; omega)
  have hvalid {g : Fld} {o b : Nat} (hg : g.key = 32 * (slotBase i + o) + b) : t.flag g = s.flag g := by rw [State.flag, hslot hg, State.flag]
  simp only [State.onChiplet, State.chiplets, State.rxOf, State.branches, hslot (g := SLP.SLOT_CFG.RX i) rfl,
    hvalid (g := SLP.SLOT_TX.VALID0 i) rfl, hslot (g := SLP.SLOT_TX.TX0 i) rfl, hvalid (g := SLP.SLOT_TX.VALID1 i) rfl,
    hslot (g := SLP.SLOT_TX.TX1 i) rfl, hvalid (g := SLP.SLOT_TX.VALID2 i) rfl, hslot (g := SLP.SLOT_TX.TX2 i) rfl,
    hvalid (g := SLP.SLOT_TX.VALID3 i) rfl, hslot (g := SLP.SLOT_TX.TX3 i) rfl]

theorem enabled_congr {s t : State} (hactive : t.active = s.active) (h : ∀ g : Fld, 32 * 0x40000 ≤ g.key → t.get g = s.get g) :
    t.enabled = s.enabled := by
  have hstate (i : Nat) : t.get (SLP.SLOT_STAT.STATE i) = s.get (SLP.SLOT_STAT.STATE i) := h _ (by simp [slotBase]; omega)
  simp only [State.enabled, hactive, hstate]

/-- The instant at which a hold's ramp begins shows in no register. -/
theorem holdAt_get_eq_hold (s : State) (b i t : Nat) (g : Fld) : (s.holdAt b i t).get g = (s.hold b i).get g := by
  unfold State.hold State.holdAt
  dsimp only
  split_ifs <;> simp only [fadeOut_get]

theorem holdChipAt_besideSlots {g : Fld} (hg : g.key < 32 * 0x40000) (s : State) (n t : Nat) :
    (s.holdChipAt n t).besideSlots g = s.besideSlots g :=
  foldl_keeps (fun u : State => u.besideSlots g) _ (fun u i => holdAt_besideSlots hg u hChannel i t) _ _

/-- HOLD.CHANNEL stands on every enabled slot of the chiplet. -/
theorem holdChipAt_stands {s : State} {n i : Nat} (t : Nat) (hi : i ∈ s.enabled) (hn : s.onChiplet n i = true) :
    tbit ((s.holdChipAt n t).get (SLP.SLOT_STAT.HOLD i)) hChannel = true := by
  refine foldl_establishes (P := fun u : State => tbit (u.get (SLP.SLOT_STAT.HOLD i)) hChannel = true) (fun u j h => ?_) _
    (.inl (List.mem_filter.mpr ⟨hi, hn⟩))
  rw [holdAt_get_eq_hold]
  exact hold_stands (by decide) (by decide) u i j h

end Sys2Proof.Machine
end

section
/-! SUPPORT. The writes of SYN_CTL (R138, R141, R142, R145). -/
namespace Sys2Proof.Machine
open Sys2Proof

theorem of_SYN_CTL_PLAN_lt (n : Nat) (v : Word) : (SYN.SYN_CTL.PLAN n).of v < 4 := Nat.mod_lt _ (Nat.two_pow_pos 2)

theorem chip_modChip_same (s : State) (n : Nat) (f : Cnv → Cnv) : (s.modChip n f).chip n = f (s.chip n) := Tab.get_upd_same ({} : Cnv) s.cnv n f

/-- A cancelled switch of a diversity port clears its PEND alone. -/
theorem divCancel_keeps (s : State) (f : Nat → Bool) : Keeps s (s.divCancel f) ((List.range 8).map fun d => (DIV.STAT.PEND d).key) := by
  intro g hg
  refine foldl_keeps_mem (fun u : State => u.get g) _ _ (fun u d hd => State.get_set_ne u 0 fun e => hg ?_) s
  exact List.mem_map.mpr ⟨d, (List.mem_filter.mp hd).1, e.symm⟩

theorem divCancel_cnv (s : State) (f : Nat → Bool) : (s.divCancel f).cnv = s.cnv :=
  foldl_keeps State.cnv (fun u d => u.set (DIV.STAT.PEND d) 0) (fun _ _ => rfl) _ _

theorem divCancel_get_off {g : Fld} (hg : g.key < 32 * 0x29000 ∨ 32 * 0x2A000 ≤ g.key) (s : State) (f : Nat → Bool) :
    (s.divCancel f).get g = s.get g := by
  refine divCancel_keeps s f g fun h => ?_
  obtain ⟨d, hd, e⟩ := List.mem_map.mp h
  have hd := List.mem_range.mp hd
  simp only [key_DIV_STAT_PEND] at e
  omega

/-! What a write asks for -/

section
variable {s : State} {m n : Nat} {v : Word}

theorem synCtl_asks (hen : (SYN.SYN_CTL.EN n).of v = 1)
    (hask : s.get (SYN.SYN_CTL.EN n) ≠ 1 ∨ (SYN.SYN_CTL.PLAN n).of v ≠ s.get (SYN.SYN_CTL.PLAN n) ∨ v.getLsbD 8 = true) :
    s.synCtl m n v = if s.changeCause n = 0 then s.changeStart n ((SYN.SYN_CTL.PLAN n).of v) else s.changeRefuse m n (s.changeCause n) := by
  have hnew : (s.flag (SYN.SYN_CTL.EN n) && (SYN.SYN_CTL.PLAN n).of v == s.get (SYN.SYN_CTL.PLAN n) && !v.getLsbD 8) = false := by
    rcases hask with h | h | h <;> simp [State.flag, h]
  simp only [State.synCtl, hen, hnew, one_ne_zero, if_false, Bool.false_eq_true]

theorem synCtl_asks_nothing (hen : (SYN.SYN_CTL.EN n).of v = 1) (hwas : s.get (SYN.SYN_CTL.EN n) = 1)
    (hplan : (SYN.SYN_CTL.PLAN n).of v = s.get (SYN.SYN_CTL.PLAN n)) (hrecal : v.getLsbD 8 = false) :
    s.synCtl m n v = if s.flag (SYN.SYN_STAT.BUSY n) then s.changeRefuse m n 1 else s.set (SYN.SYN_CTL.REFUSE n) 0 := by
  have hsame : (s.flag (SYN.SYN_CTL.EN n) && (SYN.SYN_CTL.PLAN n).of v == s.get (SYN.SYN_CTL.PLAN n) && !v.getLsbD 8) = true := by
    rw [hrecal, hplan]; simp [State.flag, hwas]
  simp only [State.synCtl, hen, hsame, one_ne_zero, if_false, if_true]

theorem synCtl_stops (hen : (SYN.SYN_CTL.EN n).of v = 0) (hwas : s.get (SYN.SYN_CTL.EN n) = 1) :
    s.synCtl m n v = if s.stopCause n = 0 then s.changeStop n ((SYN.SYN_CTL.PLAN n).of v) else s.changeRefuse m n (s.stopCause n) := by
  have hflag : s.flag (SYN.SYN_CTL.EN n) = true := by simp [State.flag, hwas]
  simp only [State.synCtl, hen, hflag, if_true, Bool.not_true, if_false, Bool.false_eq_true]

theorem synCtl_off (hen : (SYN.SYN_CTL.EN n).of v = 0) (hwas : s.get (SYN.SYN_CTL.EN n) = 0) :
    s.synCtl m n v = (s.set (SYN.SYN_CTL.PLAN n) ((SYN.SYN_CTL.PLAN n).of v)).set (SYN.SYN_CTL.REFUSE n) 0 := by
  have hflag : s.flag (SYN.SYN_CTL.EN n) = false := by simp [State.flag, hwas]
  simp only [State.synCtl, hen, hflag, if_true, Bool.not_false]

end

/-- The causes of R142 fit the field that names them. -/
theorem changeCause_lt (s : State) (n : Nat) : s.changeCause n < 16 := by
  unfold State.changeCause; split_ifs <;> decide

theorem stopCause_lt (s : State) (n : Nat) : s.stopCause n < 16 := by
  unfold State.stopCause; split_ifs <;> decide

/-- A write of SYN_CTL that the fabric takes comes to what it asks for, whichever of its commands it is. -/
theorem synCtlWrite_of_takes {s : State} {m : Master} {n : Fin 8} {v : Word} (h : s.takes m (0xD040 + 4 * n.val) v) :
    s.synCtlWrite m n v = (s.outcome m 0).synCtl m.num n v :=
  guarded_of_takes _ h (by unfold pageOf; omega)

/-! A change that is accepted -/

/-- SYN_CTL takes the values written. -/
def State.ctlTaken (s : State) (n plan : Nat) : State := ((s.set (SYN.SYN_CTL.EN n) 1).set (SYN.SYN_CTL.PLAN n) plan).set (SYN.SYN_CTL.REFUSE n) 0

/-- The registers show a change in DRAIN. -/
def State.drainShown (s : State) (n plan : Nat) : State :=
  (((s.ctlTaken n plan).set (SYN.SYN_STAT.BUSY n) 1).set (SYN.SYN_STAT.STEP n) yDrain).set (CNV.CAL_STAT.FG_DONE n) 0

/-- The change has begun with DRAIN, and no slot is held for it yet. -/
def State.drainBegun (s : State) (n plan : Nat) : State :=
  (s.drainShown n plan).modChip n fun x => { x with at_ := s.now, retry := false, resume := false }

/-- The slots of the chiplet are held as well, and its diversity ports' switches are cancelled. -/
def State.drainHeld (s : State) (n plan : Nat) : State :=
  ((s.drainBegun n plan).holdChipAt n (s.now + us 20)).divCancel ((s.drainShown n plan).divChip n)

theorem changeStart_eq (s : State) (n plan : Nat) : s.changeStart n plan =
    if s.get PWR.PWR_CMD.STATE = pStandby then (s.ctlTaken n plan).set (SYN.SYN_STAT.PEND n) 1 else s.drainHeld n plan := by
  have hstate : (((s.set (SYN.SYN_CTL.EN n) 1).set (SYN.SYN_CTL.PLAN n) plan).set (SYN.SYN_CTL.REFUSE n) 0).get PWR.PWR_CMD.STATE =
      s.get PWR.PWR_CMD.STATE := by
    rw [State.get_set_of_key_ne _ _ (by simp; omega), State.get_set_of_key_ne _ _ (by simp; omega), State.get_set_of_key_ne _ _ (by simp; omega)]
  simp only [State.changeStart, State.drainHeld, State.drainBegun, State.drainShown, State.ctlTaken, hstate, State.set_now]

theorem drainBegun_active (s : State) (n plan : Nat) : (s.drainBegun n plan).active = s.active := by
  simp only [State.drainBegun, State.drainShown, State.ctlTaken, State.modChip_active, State.set_active]

theorem drainBegun_get_slot (s : State) {n : Nat} (hn : n < 8) (plan : Nat) (g : Fld) (hg : 32 * 0x40000 ≤ g.key) :
    (s.drainBegun n plan).get g = s.get g := by
  have hset (u : State) {f : Fld} (v : Nat) (hf : f.key < 32 * 0x40000) : (u.set f v).get g = u.get g := State.get_set_ne u v (by omega)
  unfold State.drainBegun State.drainShown State.ctlTaken
  rw [State.modChip_get, hset _ _ (by simp; omega), hset _ _ (by simp; omega), hset _ _ (by simp; omega), hset _ _ (by simp; omega),
    hset _ _ (by simp; omega), hset _ _ (by simp; omega)]

/-- Below page DIV and the slot pages, the registers are those of the change that has begun. -/
theorem drainHeld_get (s : State) (n plan : Nat) {g : Fld} (hg : g.key < 32 * 0x29000) : (s.drainHeld n plan).get g = (s.drainBegun n plan).get g :=
  (divCancel_get_off (.inl hg) _ _).trans (besideSlots_iff.mp (holdChipAt_besideSlots (by omega) _ n _)).1

theorem drainHeld_chip (s : State) (n plan : Nat) : ((s.drainHeld n plan).chip n).at_ = s.now := by
  have hcnv : (s.drainHeld n plan).cnv = (s.drainBegun n plan).cnv :=
    (divCancel_cnv _ _).trans (besideSlots_iff.mp (holdChipAt_besideSlots (g := IDN.PROFILE.REQ) (by decide) _ n _)).2.2.1
  rw [State.chip, hcnv]
  exact congrArg Cnv.at_ (chip_modChip_same _ n _)

theorem drainHeld_holds {s : State} {n i : Nat} (plan : Nat) (hn : n < 8) (hi : i ∈ s.enabled) (hon : s.onChiplet n i = true) :
    tbit ((s.drainHeld n plan).get (SLP.SLOT_STAT.HOLD i)) hChannel = true := by
  have hslot := drainBegun_get_slot s hn plan
  have henabled : (s.drainBegun n plan).enabled = s.enabled := enabled_congr (drainBegun_active s n plan) hslot
  have hdiv : (s.drainHeld n plan).get (SLP.SLOT_STAT.HOLD i) = ((s.drainBegun n plan).holdChipAt n (s.now + us 20)).get (SLP.SLOT_STAT.HOLD i) :=
    divCancel_get_off (.inr (by simp only [key_SLP_SLOT_STAT_HOLD, slotBase]; omega)) _ _
  rw [hdiv]
  exact holdChipAt_stands _ (by rwa [henabled]) ((onChiplet_congr hslot n i).trans hon)

theorem drainHeld_shows (s : State) {n plan : Nat} (hn : n < 8) (hplan : plan < 4) :
    (s.drainHeld n plan).get (SYN.SYN_CTL.EN n) = 1 ∧ (s.drainHeld n plan).get (SYN.SYN_CTL.PLAN n) = plan ∧
    (s.drainHeld n plan).get (SYN.SYN_CTL.REFUSE n) = 0 ∧ (s.drainHeld n plan).get (SYN.SYN_STAT.BUSY n) = 1 ∧
    (s.drainHeld n plan).get (SYN.SYN_STAT.STEP n) = yDrain ∧ (s.drainHeld n plan).get (CNV.CAL_STAT.FG_DONE n) = 0 := by
  refine ⟨?_, ?_, ?_, ?_, ?_, ?_⟩ <;> rw [drainHeld_get s n plan (by simp; omega)] <;>
    simp (disch := (simp <;> omega)) [State.drainBegun, State.drainShown, State.ctlTaken, Nat.mod_eq_of_lt hplan]

theorem drainHeld_STEP (s : State) {n k : Nat} (plan : Nat) (hk : k < 8) (h : k ≠ n) :
    (s.drainHeld n plan).get (SYN.SYN_STAT.STEP k) = s.get (SYN.SYN_STAT.STEP k) := by
  rw [drainHeld_get s n plan (by simp; omega)]
  simp (disch := (simp <;> omega)) [State.drainBegun, State.drainShown, State.ctlTaken]

/-- In STANDBY the change is recorded alone. -/
theorem changePended_keeps (s : State) (n plan : Nat) : Keeps s ((s.ctlTaken n plan).set (SYN.SYN_STAT.PEND n) 1)
    [(SYN.SYN_STAT.PEND n).key, (SYN.SYN_CTL.EN n).key, (SYN.SYN_CTL.PLAN n).key, (SYN.SYN_CTL.REFUSE n).key] :=
  Keeps.set (Keeps.set (Keeps.set (Keeps.set (Keeps.refl s _) _ (by simp)) _ (by simp)) _ (by simp)) _ (by simp)

theorem changePended_shows (s : State) (n : Nat) {plan : Nat} (hplan : plan < 4) :
    ((s.ctlTaken n plan).set (SYN.SYN_STAT.PEND n) 1).get (SYN.SYN_STAT.PEND n) = 1 ∧
    ((s.ctlTaken n plan).set (SYN.SYN_STAT.PEND n) 1).get (SYN.SYN_CTL.EN n) = 1 ∧
    ((s.ctlTaken n plan).set (SYN.SYN_STAT.PEND n) 1).get (SYN.SYN_CTL.PLAN n) = plan ∧
    ((s.ctlTaken n plan).set (SYN.SYN_STAT.PEND n) 1).get (SYN.SYN_CTL.REFUSE n) = 0 := by
  simp (disch := (simp <;> omega)) [State.ctlTaken, Nat.mod_eq_of_lt hplan]

/-! A change that is refused, and a stop -/

/-- REFUSE names a cause, and every other register field is as before. -/
theorem refuseNamed (s : State) (n : Nat) {c : Nat} (hc : c < 16) : (s.set (SYN.SYN_CTL.REFUSE n) c).get (SYN.SYN_CTL.REFUSE n) = c ∧
    Keeps s (s.set (SYN.SYN_CTL.REFUSE n) c) [(SYN.SYN_CTL.REFUSE n).key] :=
  ⟨(State.get_set_same s _ c).trans (Nat.mod_eq_of_lt hc), (Keeps.refl s _).set c (by simp)⟩

/-- What an accepted stop writes before the clocks follow. -/
def State.stopShown (s : State) (n plan : Nat) : State :=
  ((((((((s.set (SYN.SYN_CTL.EN n) 0).set (SYN.SYN_CTL.PLAN n) plan).set (SYN.SYN_CTL.REFUSE n) 0).set (SYN.SYN_STAT.PEND n) 0).set
    (SYN.SYN_STAT.STEP n) yOff).set (CNV.CAL_STAT.FG_DONE n) 0).set (SYN.SYN_STAT.READY n) 0).set (SYN.SYN_STAT.LOCK n) 0).set
    (SYN.SYN_STAT.CONV_RDY n) 0

theorem changeStop_eq (s : State) (n plan : Nat) : s.changeStop n plan = (s.stopShown n plan).syncClocks := rfl

theorem changeStop_get (s : State) (n plan : Nat) {g : Fld} (hg : g.key < 32 * 0x10000) :
    (s.changeStop n plan).get g = (s.stopShown n plan).get g := by
  rw [changeStop_eq, syncClocks_get (.inl hg)]

theorem changeStop_shows (s : State) {n plan : Nat} (hn : n < 8) (hplan : plan < 4) :
    (s.changeStop n plan).get (SYN.SYN_CTL.EN n) = 0 ∧ (s.changeStop n plan).get (SYN.SYN_STAT.STEP n) = yOff ∧
    (s.changeStop n plan).get (SYN.SYN_STAT.READY n) = 0 ∧ (s.changeStop n plan).get (SYN.SYN_STAT.LOCK n) = 0 ∧
    (s.changeStop n plan).get (SYN.SYN_STAT.CONV_RDY n) = 0 ∧ (s.changeStop n plan).get (SYN.SYN_STAT.PEND n) = 0 ∧
    (s.changeStop n plan).get (SYN.SYN_CTL.PLAN n) = plan ∧
    (s.changeStop n plan).get (SYN.SYN_STAT.PLAN_NOW n) = s.get (SYN.SYN_STAT.PLAN_NOW n) := by
  refine ⟨?_, ?_, ?_, ?_, ?_, ?_, ?_, ?_⟩ <;> rw [changeStop_get s n plan (by simp; omega)] <;>
    simp (disch := (simp <;> omega)) [State.stopShown, Nat.mod_eq_of_lt hplan]

theorem planOff_shows (s : State) (n : Nat) {plan : Nat} (hplan : plan < 4) :
    ((s.set (SYN.SYN_CTL.PLAN n) plan).set (SYN.SYN_CTL.REFUSE n) 0).get (SYN.SYN_CTL.PLAN n) = plan ∧
    ((s.set (SYN.SYN_CTL.PLAN n) plan).set (SYN.SYN_CTL.REFUSE n) 0).get (SYN.SYN_CTL.REFUSE n) = 0 ∧
    Keeps s ((s.set (SYN.SYN_CTL.PLAN n) plan).set (SYN.SYN_CTL.REFUSE n) 0) [(SYN.SYN_CTL.PLAN n).key, (SYN.SYN_CTL.REFUSE n).key] :=
  ⟨by simp (disch := simp) [Nat.mod_eq_of_lt hplan], by simp, Keeps.set (Keeps.set (Keeps.refl s _) _ (by simp)) _ (by simp)⟩

/-- The causes do not read the status of the ports. -/
theorem outcome_changeCause (s : State) (m : Master) (o n : Nat) : (s.outcome m o).changeCause n = s.changeCause n := rfl
theorem outcome_stopCause (s : State) (m : Master) (o n : Nat) : (s.outcome m o).stopCause n = s.stopCause n := rfl

/-- Settles O29: a write that the fabric takes asks for a change, a stop or nothing new, and a cause of R142 refuses it. -/
theorem channelChangeWrites : Obligations.ChannelChangeWrites := by
  refine ⟨fun s m n v c hc ht hen hask => ?_, fun s m n v ht hen hwas => ?_, fun s m n v ht hen hwas hplan hrecal => ?_,
    fun s m n v ht hen hwas => ?_⟩
  · have hexec : exec c s = ok (s.synCtlWrite m n v) := by rcases hc with rfl | rfl | rfl <;> rfl
    have hplan := of_SYN_CTL_PLAN_lt n v
    have hw := (synCtlWrite_of_takes ht).trans (synCtl_asks (s := s.outcome m 0) hen hask)
    rw [outcome_changeCause, changeStart_eq] at hw
    refine ⟨fun hcause hstate => ?_, fun hcause hstate => ?_, fun hcause => ?_⟩
    · obtain ⟨hEN, hPLAN, hREFUSE, hBUSY, hSTEP, hFG⟩ := drainHeld_shows (s.outcome m 0) n.isLt hplan
      exact answersSettled_of hexec (hw.trans ((if_pos hcause).trans (if_neg hstate))) ⟨hEN, hPLAN, hREFUSE, hBUSY, hSTEP, hFG,
        drainHeld_chip _ _ _, fun i hi hon => drainHeld_holds _ n.isLt hi hon, fun k hk hne => drainHeld_STEP _ _ hk hne⟩
    · obtain ⟨hPEND, hEN, hPLAN, hREFUSE⟩ := changePended_shows (s.outcome m 0) n hplan
      exact answersSettled_of hexec (hw.trans ((if_pos hcause).trans (if_pos hstate)))
        ⟨hPEND, hEN, hPLAN, hREFUSE, changePended_keeps (s.outcome m 0) n _⟩
    · exact answersVia_of hexec (congrArg State.settle (hw.trans (if_neg hcause))) (refuseNamed (s.outcome m 0) n (changeCause_lt s n))
  · have hw := (synCtlWrite_of_takes ht).trans (synCtl_stops (s := s.outcome m 0) hen hwas)
    rw [outcome_stopCause] at hw
    refine ⟨fun hcause => ?_, fun hcause => ?_⟩
    · exact answersSettled_of rfl (hw.trans (if_pos hcause)) (changeStop_shows (s.outcome m 0) n.isLt (of_SYN_CTL_PLAN_lt n v))
    · exact answersVia_of rfl (congrArg State.settle (hw.trans (if_neg hcause))) (refuseNamed (s.outcome m 0) n (stopCause_lt s n))
  · have hw := (synCtlWrite_of_takes ht).trans (synCtl_asks_nothing (s := s.outcome m 0) hen hwas hplan hrecal)
    refine ⟨fun hbusy => ?_, fun hidle => ?_⟩
    · exact answersVia_of rfl (congrArg State.settle (hw.trans (if_pos hbusy))) (refuseNamed (s.outcome m 0) n (by decide))
    · exact answersSettled_of rfl (hw.trans (if_neg (Bool.eq_false_iff.mp hidle))) (refuseNamed (s.outcome m 0) n (by decide))
  · exact answersSettled_of rfl ((synCtlWrite_of_takes ht).trans (synCtl_off (s := s.outcome m 0) hen hwas))
      (planOff_shows (s.outcome m 0) n (of_SYN_CTL_PLAN_lt n v))

end Sys2Proof.Machine
end

section
/-! SUPPORT. The attenuators of the receive channels (R133). -/
namespace Sys2Proof.Machine
open Sys2Proof

theorem Keeps.trans {s t u : State} {ks : List Nat} (h : Keeps s t ks) (h' : Keeps t u ks) : Keeps s u ks :=
  fun g hg => (h' g hg).trans (h g hg)

theorem Keeps.modSlot {s t : State} {ks : List Nat} (h : Keeps s t ks) (i : Nat) (f : Slot → Slot) : Keeps s (t.modSlot i f) ks := h

/-- The gain registers of a slot. -/
def gainKeys (i : Nat) : List Nat := [(SLP.GAIN_STAT.APPLIED i).key, (SLP.GAIN_STAT.LIMIT i).key]

theorem takeGain_keeps (s : State) (i : Nat) (a : Nat × Int) : Keeps s (s.takeGain i a) (gainKeys i) := by
  refine Keeps.set (Keeps.set ?_ _ (by simp [gainKeys])) _ (by simp [gainKeys])
  split
  · exact Keeps.refl s _
  · exact (Keeps.refl s _).modSlot i _

/-- A slot's share of a change of its attenuator by `up`. -/
def State.dsaSlot (s : State) (up : Int) (i : Nat) : State :=
  let old := sext 12 (s.get (SLP.GAIN_STAT.APPLIED i))
  let new := clampInt (-2047) 2047 (old + up)
  let s := s.modSlot i fun x => { x with dsaGain := x.dsaGain + up }
  if old = -2048 then s
  else if (s.regMax i).any fun m => decide (m < 5 * old) then s.takeGain i (s.get (SLP.GAIN_STAT.LIMIT i), new)
  else (s.modSlot i fun x => { x with gainFrom := x.gainFrom * gainAmp up / gainAmp 0 }).set (SLP.GAIN_STAT.APPLIED i) (toField 12 new)

theorem dsaSlot_keeps (s : State) (up : Int) (i : Nat) : Keeps s (s.dsaSlot up i) (gainKeys i) := by
  have hmod (f : Slot → Slot) : Keeps s (s.modSlot i f) (gainKeys i) := (Keeps.refl s _).modSlot i f
  unfold State.dsaSlot
  dsimp only
  split_ifs
  · exact hmod _
  · exact (hmod _).trans (takeGain_keeps _ i _)
  · exact ((hmod _).modSlot i _).set _ (by simp [gainKeys])

theorem dsaSlot_besideSlots {g : Fld} (hg : g.key < 32 * 0x40000) (s : State) (up : Int) (i : Nat) :
    (s.dsaSlot up i).besideSlots g = s.besideSlots g := by
  unfold State.dsaSlot
  dsimp only
  split_ifs
  · rfl
  · exact takeGain_besideSlots hg _ i _
  · exact set_slot_besideSlots hg _ _ rfl

/-- The chiplet's attenuator takes its register's value, and no slot has followed yet. -/
def State.dsaTaken (s : State) (n c : Nat) : State := s.modChip n fun x => { x with dsa := Tab.set 0 x.dsa c (s.get (CNV.RX_CFG.DSA n c)) }

theorem dsaApply_eq (s : State) (n c : Nat) : s.dsaApply n c = if s.get (CNV.RX_CFG.DSA n c) = s.dsaOf (4 * n + c) then s else
    ((s.dsaTaken n c).fedBy (4 * n + c)).foldl (fun t i => t.dsaSlot (20 * ((s.get (CNV.RX_CFG.DSA n c) : Int) - s.dsaOf (4 * n + c))) i)
      (s.dsaTaken n c) := rfl

theorem dsaOf_eq (s : State) (n : Nat) {c : Nat} (hc : c < 4) : s.dsaOf (4 * n + c) = Tab.get 0 (s.chip n).dsa c := by
  rw [State.dsaOf, show (4 * n + c) / 4 = n by omega, show (4 * n + c) % 4 = c by omega]

theorem dsaOf_congr {s t : State} (h : t.cnv = s.cnv) (c : Nat) : t.dsaOf c = s.dsaOf c := by
  rw [State.dsaOf, State.chip, h]; rfl

theorem dsaTaken_dsaOf (s : State) (n : Nat) {c x : Nat} (hc : c < 4) :
    (s.dsaTaken n x).dsaOf (4 * n + c) = if c = x then s.get (CNV.RX_CFG.DSA n x) else s.dsaOf (4 * n + c) := by
  rw [dsaOf_eq _ n hc, dsaOf_eq s n hc, State.dsaTaken, chip_modChip_same]
  exact Tab.get_set 0 _ c x _

/-- Beside the slots, a change of an attenuator leaves all but the attenuator. -/
theorem dsaApply_besideSlots {g : Fld} (hg : g.key < 32 * 0x40000) (s : State) (n c : Nat) : (s.dsaApply n c).besideSlots g =
    if s.get (CNV.RX_CFG.DSA n c) = s.dsaOf (4 * n + c) then s.besideSlots g else (s.dsaTaken n c).besideSlots g := by
  rw [dsaApply_eq]
  split_ifs
  · rfl
  · exact foldl_keeps (fun t : State => t.besideSlots g) _ (fun t i => dsaSlot_besideSlots hg t _ i) _ _

theorem dsaApply_rest {g : Fld} (hg : g.key < 32 * 0x40000) (s : State) (n c : Nat) :
    (s.dsaApply n c).get g = s.get g ∧ (s.dsaApply n c).active = s.active ∧ (s.dsaApply n c).now = s.now := by
  have h := dsaApply_besideSlots hg s n c
  split_ifs at h <;> obtain ⟨hget, hactive, -, -, hnow⟩ := besideSlots_iff.mp h <;> exact ⟨hget, hactive, hnow⟩

theorem dsaApply_dsaOf (s : State) (n : Nat) {c x : Nat} (hc : c < 4) :
    (s.dsaApply n x).dsaOf (4 * n + c) = if c = x then s.get (CNV.RX_CFG.DSA n x) else s.dsaOf (4 * n + c) := by
  have h := dsaApply_besideSlots (g := IDN.PROFILE.REQ) (by decide) s n x
  split_ifs at h with hsame
  · rw [dsaOf_congr (besideSlots_iff.mp h).2.2.1]
    split_ifs with e
    · rw [hsame, e]
    · rfl
  · rw [dsaOf_congr (besideSlots_iff.mp h).2.2.1, dsaTaken_dsaOf s n hc]

theorem dsaApply_keeps (s : State) (n c : Nat) : Keeps s (s.dsaApply n c) (s.active.flatMap gainKeys) := by
  rw [dsaApply_eq]
  split_ifs
  · exact Keeps.refl s _
  · refine List.foldlRecOn _ _ (motive := fun t => Keeps s t (s.active.flatMap gainKeys)) (Keeps.of_reg rfl _) fun t ht i hi =>
      ht.trans ((dsaSlot_keeps t _ i).mono fun k hk => ?_)
    exact List.mem_flatMap.mpr ⟨i, (List.mem_filter.mp hi).1, hk⟩

/-- The attenuators of a chiplet follow their registers. -/
def State.dsaAll (s : State) (n : Nat) : State := (List.range 4).foldl (fun t c => t.dsaApply n c) s

theorem dsaAll_rest {g : Fld} (hg : g.key < 32 * 0x40000) (s : State) (n : Nat) :
    (s.dsaAll n).get g = s.get g ∧ (s.dsaAll n).now = s.now :=
  ⟨foldl_keeps (fun t : State => t.get g) _ (fun t c => (dsaApply_rest hg t n c).1) _ s,
    foldl_keeps State.now (fun t c => t.dsaApply n c) (fun t c => (dsaApply_rest hg t n c).2.2) _ s⟩

theorem dsaAll_dsaOf (s : State) {n c : Nat} (hn : n < 8) (hc : c < 4) : (s.dsaAll n).dsaOf (4 * n + c) = s.get (CNV.RX_CFG.DSA n c) := by
  have hkey : (CNV.RX_CFG.DSA n c).key < 32 * 0x40000 := by simp; omega
  rw [← (dsaAll_rest hkey s n).1]
  refine foldl_establishes (P := fun t : State => t.dsaOf (4 * n + c) = t.get (CNV.RX_CFG.DSA n c)) (fun t x h => ?_) _
    (.inl (List.mem_range.mpr hc))
  rw [dsaApply_dsaOf t n hc, (dsaApply_rest hkey t n x).1]
  split_ifs with e
  · rw [e]
  · exact h.resolve_left e

theorem dsaAll_keeps (s : State) (n : Nat) : Keeps s (s.dsaAll n) (s.active.flatMap gainKeys) := by
  have h : Keeps s (s.dsaAll n) (s.active.flatMap gainKeys) ∧ (s.dsaAll n).active = s.active := by
    refine List.foldlRecOn _ _ (motive := fun t => Keeps s t (s.active.flatMap gainKeys) ∧ t.active = s.active) ⟨Keeps.refl s _, rfl⟩
      fun t ⟨hkeeps, hactive⟩ c _ => ⟨hkeeps.trans ?_, ?_⟩
    · rw [← hactive]; exact dsaApply_keeps t n c
    · exact (dsaApply_rest (g := IDN.PROFILE.REQ) (by decide) t n c).2.1.trans hactive
  exact h.1

end Sys2Proof.Machine
end

section
/-! SUPPORT. The observation plans: a commit, its boundary, a dwell, and the boundary after a channel change (R149 to R152). -/
namespace Sys2Proof.Machine
open Sys2Proof

/-! A commit -/

/-- The slots that the shadow plan of a chiplet leaves uncovered there. -/
def State.shadowUncovered (s : State) (n : Nat) : List Nat := s.uncovered n fun k r => if k = n then s.shadowPlan k r else s.plan k r

theorem planWrite_of_takes {s : State} {m : Master} {n : Fin 8} {v : Word} (h : s.takes m (0x100C0 + 0x1000 * n.val) v)
    (hcommit : v.getLsbD 0 = true) : s.planWrite m n v = (s.outcome m 0).planCommit m.num n :=
  (guarded_of_takes _ h (by unfold pageOf; omega)).trans (if_pos hcommit)

/-- The coverage does not read the status of the ports. -/
theorem outcome_shadowUncovered (s : State) (m : Master) (o n : Nat) : (s.outcome m o).shadowUncovered n = s.shadowUncovered n := rfl

/-- The commit of a chiplet's shadow plan is pending. -/
def State.planPended (s : State) (n : Nat) : State :=
  ((s.set (CNV.OBS_CTL.PENDING n) 1).set (CNV.OBS_CTL.REFUSE n) 0).modChip n fun x => { x with planAt := s.now }

theorem planPended_shows (s : State) (n : Nat) : (s.planPended n).get (CNV.OBS_CTL.PENDING n) = 1 ∧
    (s.planPended n).get (CNV.OBS_CTL.REFUSE n) = 0 ∧
    Keeps s (s.planPended n) [(CNV.OBS_CTL.PENDING n).key, (CNV.OBS_CTL.REFUSE n).key] ∧ (s.planPended n).obsLive = s.obsLive := by
  refine ⟨?_, ?_, Keeps.reg_eq (Keeps.set (Keeps.set (Keeps.refl s _) 1 (by simp)) 0 (by simp)) (State.modChip_reg _ _ _), rfl⟩
  · rw [State.planPended, State.modChip_get, State.get_set_of_key_ne _ _ (by simp), State.get_set_same]; rfl
  · rw [State.planPended, State.modChip_get, State.get_set_same]; rfl

section
variable {s : State} {m n : Nat}

theorem planCommit_busy (h : s.flag (CNV.OBS_CTL.PENDING n) = true) : s.planCommit m n =
    (s.set (CNV.OBS_CTL.REFUSE n) 2).fire (0x10 + n) CNV.src.OBS_REFUSED { master := m } := if_pos h

theorem planCommit_refused {i : Nat} {l : List Nat} (h : s.flag (CNV.OBS_CTL.PENDING n) = false) (hun : s.shadowUncovered n = i :: l) :
    s.planCommit m n = ((s.set (CNV.OBS_CTL.OFFENDER n) i).set (CNV.OBS_CTL.REFUSE n) 1).fire (0x10 + n) CNV.src.OBS_REFUSED { master := m } := by
  unfold State.shadowUncovered at hun
  simp only [State.planCommit, h, hun, Bool.false_eq_true, if_false]

theorem planCommit_pends (h : s.flag (CNV.OBS_CTL.PENDING n) = false) (hun : s.shadowUncovered n = []) :
    s.planCommit m n = s.planPended n := by
  unfold State.shadowUncovered at hun
  simp only [State.planCommit, h, hun, Bool.false_eq_true, if_false, State.planPended]

end

/-! The entries that the receivers dwell on -/

@[simp] theorem key_obsEnt (n r : Nat) : (obsEnt n r).key = 32 * (0x100C4 + 0x1000 * n) + if r = 0 then 8 else 12 := by
  unfold obsEnt; split_ifs <;> rfl

@[simp] theorem w_obsEnt (n r : Nat) : (obsEnt n r).w = 3 := by unfold obsEnt; split_ifs <;> rfl

/-- A dwell that begins leaves the chiplet's other marks. -/
theorem dwellOn_eq (s : State) (n r e : Nat) : s.dwellOn n r e =
    (s.modChip n fun x => { x with dwellAt := Tab.set 0 x.dwellAt r s.now }).set (obsEnt n r) e := rfl

theorem restartPlan_eq (s : State) (n : Nat) :
    s.restartPlan n = (s.dwellOn n 0 (firstEntry (s.plan n 0))).dwellOn n 1 (firstEntry (s.plan n 1)) := rfl

theorem restartPlan_keeps (s : State) (n : Nat) : Keeps s (s.restartPlan n) [(obsEnt n 0).key, (obsEnt n 1).key] := by
  rw [restartPlan_eq, dwellOn_eq, dwellOn_eq]
  exact ((Keeps.set (Keeps.of_reg rfl _) _ (by simp)).trans (Keeps.of_reg rfl _)).set _ (by simp)

theorem restartPlan_shows (s : State) (n : Nat) : (s.restartPlan n).get (CNV.OBS_STAT.ENT_0 n) = firstEntry (s.plan n 0) % 8 ∧
    (s.restartPlan n).get (CNV.OBS_STAT.ENT_1 n) = firstEntry (s.plan n 1) % 8 := by
  rw [restartPlan_eq, dwellOn_eq, dwellOn_eq]
  exact ⟨by simp [obsEnt], State.get_set_same _ _ _⟩

theorem restartPlan_rest (s : State) (n : Nat) : (s.restartPlan n).active = s.active ∧ (s.restartPlan n).obsLive = s.obsLive ∧
    (s.restartPlan n).now = s.now ∧ ((s.restartPlan n).chip n).resume = (s.chip n).resume := by
  have hdwell (t : State) (r e : Nat) : ((t.dwellOn n r e).chip n).resume = (t.chip n).resume := by
    change ((t.modChip n fun x => { x with dwellAt := Tab.set 0 x.dwellAt r t.now }).chip n).resume = _
    rw [chip_modChip_same]
  exact ⟨rfl, rfl, rfl, (hdwell _ _ _).trans (hdwell s _ _)⟩

theorem recover_besideSlots {g : Fld} (hg : g.key < 32 * 0x40000) (s : State) (n : Nat) : (s.recover n).besideSlots g = s.besideSlots g :=
  foldl_keeps (fun t : State => t.besideSlots g) _ (fun t i => unhold_besideSlots hg t hCover i) _ _

theorem plan_congr {s t : State} (h : t.obsLive = s.obsLive) (n r : Nat) : t.plan n r = s.plan n r := by
  simp only [State.plan, h]

/-! The plans go live -/

theorem shadowPlan_not_empty (s : State) (n r : Nat) : (s.shadowPlan n r).isEmpty = false := by
  simp [State.shadowPlan]

/-- A plan that is live is the one in force. -/
theorem plan_of_live {s : State} {n r : Nat} {l : List Nat} (h : Tab.get [] s.obsLive (2 * n + r) = l) (hl : l.isEmpty = false) :
    s.plan n r = l := by
  simp only [State.plan, h, hl, Bool.false_eq_true, if_false]

/-- At the frame boundary the shadow plans of a chiplet are live, and PENDING is over. -/
def State.plansTaken (s : State) (n : Nat) (up : List Nat) : State :=
  State.set { s.until (s.frameAt s.now) with
    obsLive := Tab.set [] (Tab.set [] s.obsLive (2 * n + 0) (s.shadowPlan n 0)) (2 * n + 1) (s.shadowPlan n 1), chanUp := up }
    (CNV.OBS_CTL.PENDING n) 0

theorem planLive_eq {s : State} {n : Nat} (h : s.flag (CNV.OBS_CTL.PENDING n) = true) :
    ∃ up, s.planLive n = (((s.plansTaken n up).restartPlan n).recover n).trimChannels := ⟨_, if_pos h⟩

theorem plansTaken_live (s : State) (n : Nat) (up : List Nat) {r : Nat} (hr : r < 2) :
    Tab.get [] (s.plansTaken n up).obsLive (2 * n + r) = s.shadowPlan n r := by
  have h : Tab.get [] (s.plansTaken n up).obsLive (2 * n + r) = Tab.get []
    (Tab.set [] (Tab.set [] s.obsLive (2 * n + 0) (s.shadowPlan n 0)) (2 * n + 1) (s.shadowPlan n 1)) (2 * n + r) := rfl
  rw [h, Tab.get_set, Tab.get_set]
  obtain rfl | rfl : r = 0 ∨ r = 1 := by omega
  · simp
  · simp

/-- Outside the channel registers of the chiplets, channels that power down leave all beside the slots. -/
theorem trimChannels_besideSlots {g : Fld} (hg : 0x60 ≤ g.key / 32 % 0x1000) (s : State) : s.trimChannels.besideSlots g = s.besideSlots g := by
  have hkey (k : Nat) : ¬g.key = (chanPwr k).key := by
    unfold chanPwr; split_ifs <;> simp only [key_CNV_RX_CFG_PWR, key_CNV_TX_CFG_PWR] <;> omega
  have hpower (t : State) (k : Nat) (down : List Nat) : State.besideSlots { t.power k false with chanDown := down } g = t.besideSlots g := by
    unfold State.power
    split_ifs
    · exact besideSlots_iff.mpr ⟨State.get_set_of_key_ne t _ (hkey k), rfl, rfl, rfl, rfl⟩
    · rfl
  unfold State.trimChannels
  split_ifs
  · rfl
  · exact foldl_keeps (fun t : State => t.besideSlots g) _ (fun t k => hpower t k _) _ _

/-- Once the plans are live, the observation path, the plans and the time stay as the restart left them. -/
theorem planLive_besideSlots {n : Nat} (hn : n < 8) {g : Fld} (hg : g.key / 32 = 0x100C0 + 0x1000 * n ∨ g.key / 32 = 0x100C4 + 0x1000 * n)
    (s : State) : (s.recover n).trimChannels.besideSlots g = s.besideSlots g :=
  (trimChannels_besideSlots (by omega) _).trans (recover_besideSlots (by omega) s n)

theorem planLive_shows {s : State} {n : Nat} (hn : n < 8) (h : s.flag (CNV.OBS_CTL.PENDING n) = true) :
    (s.planLive n).get (CNV.OBS_CTL.PENDING n) = 0 ∧ (s.planLive n).now = max s.now (s.frameAt s.now) ∧
    (s.planLive n).get (CNV.OBS_STAT.ENT_0 n) = firstEntry (s.shadowPlan n 0) % 8 ∧
    (s.planLive n).get (CNV.OBS_STAT.ENT_1 n) = firstEntry (s.shadowPlan n 1) % 8 ∧
    ∀ r < 2, Tab.get [] (s.planLive n).obsLive (2 * n + r) = s.shadowPlan n r := by
  obtain ⟨up, hlive⟩ := planLive_eq h
  obtain ⟨-, hplans, hnow, -⟩ := restartPlan_rest (s.plansTaken n up) n
  obtain ⟨hent0, hent1⟩ := restartPlan_shows (s.plansTaken n up) n
  have hplan {r : Nat} (hr : r < 2) : (s.plansTaken n up).plan n r = s.shadowPlan n r :=
    plan_of_live (plansTaken_live s n up hr) (shadowPlan_not_empty s n r)
  have hrest {g : Fld} (hg : g.key / 32 = 0x100C0 + 0x1000 * n ∨ g.key / 32 = 0x100C4 + 0x1000 * n) :=
    besideSlots_iff.mp (planLive_besideSlots hn hg ((s.plansTaken n up).restartPlan n))
  obtain ⟨hPENDING, -, -, hplans', hnow'⟩ := hrest (g := CNV.OBS_CTL.PENDING n) (.inl (by simp; omega))
  rw [hlive]
  refine ⟨?_, hnow'.trans hnow, ?_, ?_, fun r hr => ?_⟩
  · rw [hPENDING, restartPlan_keeps _ n _ (by simp; omega)]
    exact State.get_set_same _ _ 0
  · rw [(hrest (g := CNV.OBS_STAT.ENT_0 n) (.inr (by simp; omega))).1, hent0, hplan (by decide)]
  · rw [(hrest (g := CNV.OBS_STAT.ENT_1 n) (.inr (by simp; omega))).1, hent1, hplan (by decide)]
  · rw [hplans', hplans, plansTaken_live s n up hr]

/-! A dwell -/

/-- The instant at which the present dwell of a receiver ends. -/
def State.dwellEnd (s : State) (n r : Nat) : Nat :=
  Tab.get 0 (s.chip n).dwellAt r + us (10 * bits ((s.plan n r).getD (s.get (obsEnt n r)) 0) 0 8)

theorem dwellNext_eq {s : State} {n r : Nat} (hclk : s.clkOn (35 + n) = true) (hrst : s.resetting (0x10 + n) = false)
    (hvalid : ((s.plan n r).any fun w => tbit w 31) = true) :
    s.dwellNext n r = (s.until (s.dwellEnd n r)).dwellOn n r (nextEntry (s.plan n r) (s.get (obsEnt n r))) :=
  if_pos ⟨hclk, by rw [hrst]; rfl, hvalid⟩

theorem dwellOn_shows (s : State) (n r e : Nat) : (s.dwellOn n r e).get (obsEnt n r) = e % 8 ∧ Keeps s (s.dwellOn n r e) [(obsEnt n r).key] := by
  rw [dwellOn_eq]
  exact ⟨by simp, Keeps.set (Keeps.of_reg rfl _) _ (by simp)⟩

/-! The boundary after a channel change -/

/-- At its boundary, a slot that ramps up leaves what stands beside the slots, and the time does not go back. -/
theorem resume_rest {g : Fld} (hg : g.key < 32 * 0x40000) (s : State) (i : Nat) :
    (s.resume i).get g = s.get g ∧ (s.resume i).active = s.active ∧ (s.resume i).cnv = s.cnv ∧ s.now ≤ (s.resume i).now := by
  unfold State.resume
  split_ifs
  · split
    · exact ⟨rfl, rfl, rfl, le_rfl⟩
    · next t _ =>
      obtain ⟨hget, hactive, hcnv, -, hnow⟩ := besideSlots_iff.mp (rampUp_besideSlots hg (s.until t) i)
      rw [State.until_get] at hget
      rw [State.until_active] at hactive
      rw [State.until_cnv] at hcnv
      rw [hnow]
      exact ⟨hget, hactive, hcnv, le_max_left _ _⟩
  · exact ⟨rfl, rfl, rfl, le_rfl⟩

theorem foldl_resume_rest {g : Fld} (hg : g.key < 32 * 0x40000) (l : List Nat) (s : State) :
    (l.foldl (fun t i => t.resume i) s).get g = s.get g ∧ (l.foldl (fun t i => t.resume i) s).active = s.active ∧
    (l.foldl (fun t i => t.resume i) s).cnv = s.cnv ∧ s.now ≤ (l.foldl (fun t i => t.resume i) s).now := by
  refine List.foldlRecOn l _ (motive := fun t : State => t.get g = s.get g ∧ t.active = s.active ∧ t.cnv = s.cnv ∧ s.now ≤ t.now)
    ⟨rfl, rfl, rfl, le_rfl⟩ fun t ⟨hget, hactive, hcnv, hnow⟩ i _ => ?_
  obtain ⟨hget', hactive', hcnv', hnow'⟩ := resume_rest hg t i
  exact ⟨hget'.trans hget, hactive'.trans hactive, hcnv'.trans hcnv, hnow.trans hnow'⟩

/-- The frame boundary after the change has come. -/
def State.boundaryReached (s : State) (n : Nat) : State := (s.until (s.frameAt s.now)).modChip n fun x => { x with resume := false }

/-- The slots of a chiplet that the live plans leave uncovered. -/
def State.uncoveredOn (s : State) (n : Nat) : List Nat := s.enabled.filter fun i => s.onChiplet n i && !s.coverOk i (s.liveOf i).txCentre

theorem uncoveredOn_eq_nil {s : State} {n : Nat} (h : ∀ i ∈ s.enabled, s.onChiplet n i = true → s.coverOk i (s.liveOf i).txCentre = true) :
    s.uncoveredOn n = [] :=
  List.filter_eq_nil_iff.mpr fun i hi hbad => by
    simp only [Bool.and_eq_true, Bool.not_eq_true'] at hbad
    exact absurd (h i hi hbad.1) (by simp [hbad.2])

theorem boundaryReached_uncoveredOn (s : State) (n k : Nat) : (s.boundaryReached n).uncoveredOn k = s.uncoveredOn k := rfl

/-- Where every slot is covered, the plan restarts and the slots resume. -/
theorem changeResume_covered {s : State} {n : Nat} (hpf : s.pfRuns = false) (hrst : s.resetting 0x0D = false)
    (hstep : s.get (SYN.SYN_STAT.STEP n) = yRunning) (hresume : (s.chip n).resume = true) (hcover : s.uncoveredOn n = []) :
    ∃ l : List Nat, s.changeResume n = l.foldl (fun t i => t.resume i) (((s.boundaryReached n).recover n).restartPlan n) := by
  have hat : s.atStep n yRunning = true := by simp [State.atStep, State.synStep, hstep, hpf, hrst]
  have hbad := (boundaryReached_uncoveredOn s n n).trans hcover
  unfold State.uncoveredOn State.boundaryReached at hbad
  refine ⟨((((s.boundaryReached n).recover n).restartPlan n).enabled.filter
    ((((s.boundaryReached n).recover n).restartPlan n).onChiplet n)), (if_pos ⟨hresume, hat⟩).trans ?_⟩
  dsimp only
  rw [hbad]
  rfl

end Sys2Proof.Machine
end

section
/-! SUPPORT. Background calibration of a receive pair (R147). -/
namespace Sys2Proof.Machine
open Sys2Proof

/-! A correction field of ten bits -/

theorem sext_ten_range (v : Nat) : -512 ≤ sext 10 v ∧ sext 10 v ≤ 511 := by
  unfold sext; split_ifs <;> omega

theorem sext_toField_ten {z : Int} (hlo : -512 ≤ z) (hhi : z ≤ 511) : sext 10 (toField 10 z % 2 ^ 10) = z := by
  unfold sext toField; split_ifs <;> omega

theorem nudge_get_ne (s : State) {f g : Fld} (goal : Int) (h : ¬g.key = f.key) : (s.nudge f goal).get g = s.get g :=
  State.get_set_of_key_ne s _ h

/-- A correction moves by one step at most, and not beyond its range. -/
theorem nudge_step (s : State) {f : Fld} (goal : Int) (hw : f.w = 10) : (sext 10 ((s.nudge f goal).get f) - sext 10 (s.get f)).natAbs ≤ 1 := by
  obtain ⟨hlo, hhi⟩ := sext_ten_range (s.get f)
  rw [State.nudge, State.get_set_same, hw]
  generalize sext 10 (s.get f) = v at hlo hhi ⊢
  split_ifs <;> rw [sext_toField_ten (by omega) (by omega)] <;> omega

/-! One window of a pair -/

/-- The corrections of a pair have moved towards those of the window. -/
def State.pairNudged (s : State) (n c : Nat) (o : CalObs) : State :=
  ((s.nudge (CNV.ILV.OFFSET n c) o.offset).nudge (CNV.ILV.GAIN n c) o.gain).nudge (CNV.ILV.SKEW n c) o.skew

theorem pairNudged_get (s : State) (n c : Nat) (o : CalObs) {g : Fld} (hg : g.key / 32 ≠ 0x10070 + 0x1000 * n + 4 * c) :
    (s.pairNudged n c o).get g = s.get g := by
  unfold State.pairNudged
  rw [nudge_get_ne _ _ (by simp only [key_CNV_ILV_SKEW]; omega), nudge_get_ne _ _ (by simp only [key_CNV_ILV_GAIN]; omega),
    nudge_get_ne _ _ (by simp only [key_CNV_ILV_OFFSET]; omega)]

theorem pairNudged_gain (s : State) (n c : Nat) (o : CalObs) :
    (sext 10 ((s.pairNudged n c o).get (CNV.ILV.GAIN n c)) - sext 10 (s.get (CNV.ILV.GAIN n c))).natAbs ≤ 1 := by
  have hoffset : (s.nudge (CNV.ILV.OFFSET n c) o.offset).get (CNV.ILV.GAIN n c) = s.get (CNV.ILV.GAIN n c) := nudge_get_ne _ _ (by simp)
  rw [State.pairNudged, nudge_get_ne _ _ (by simp), ← hoffset]
  exact nudge_step _ _ rfl

/-- The fields of CAL_IMG lie in one register. -/
theorem imgFld_addr (n c : Nat) : (imgFld n c).key / 32 = 0x10068 + 0x1000 * n := by
  unfold imgFld; split_ifs <;> simp <;> omega

/-- HOLD of a pair is written. -/
def State.putCalHold (s : State) (n c : Nat) (b : Bool) : State := s.putBit (CNV.CAL_STAT.HOLD n) c b

theorem putCalHold_get (s : State) (n c : Nat) (b : Bool) {g : Fld} (hg : ¬g.key = (CNV.CAL_STAT.HOLD n).key) :
    (s.putCalHold n c b).get g = s.get g := State.get_set_of_key_ne s _ hg

theorem putCalHold_tbit (s : State) (n : Nat) {c x : Nat} (b : Bool) (hc : c < 4) :
    tbit ((s.putCalHold n x b).get (CNV.CAL_STAT.HOLD n)) c = if c = x then b else tbit (s.get (CNV.CAL_STAT.HOLD n)) c := by
  rw [State.putCalHold, State.putBit_eq, State.get_set_same, w_CNV_CAL_STAT_HOLD, tbit_mod hc, tbit_putBit]

section
variable {s : State} {n c : Nat} {o : CalObs}

theorem bgCal_idle (h : tbit (s.get (CNV.CAL_CTL.BG_EN n)) c = false ∨ s.flag (CNV.RX_CFG.PWR n c) = false) : s.bgCal n c o = s :=
  if_pos (by rcases h with h | h <;> simp [h])

theorem bgCal_low (hen : tbit (s.get (CNV.CAL_CTL.BG_EN n)) c = true) (hpwr : s.flag (CNV.RX_CFG.PWR n c) = true) (hlow : o.low = true) :
    s.bgCal n c o = s.putCalHold n c true := by
  simp only [State.bgCal, hen, hpwr, hlow, Bool.not_true, Bool.or_self, Bool.false_eq_true, if_false, if_true, State.putCalHold]

/-- A window with signal moves the corrections, writes the image estimate and ends HOLD; CONV alone may follow. -/
theorem bgCal_open_get (hen : tbit (s.get (CNV.CAL_CTL.BG_EN n)) c = true) (hpwr : s.flag (CNV.RX_CFG.PWR n c) = true) (hlow : o.low = false)
    {g : Fld} (hg : ¬g.key = (CNV.CAL_STAT.CONV n).key) :
    (s.bgCal n c o).get g = (((s.pairNudged n c o).set (imgFld n c) o.image.toNat).putCalHold n c false).get g := by
  have hconv (t : State) (p q : Prop) [Decidable p] [Decidable q] : (if p then t.putBit (CNV.CAL_STAT.CONV n) c true
      else if q then t.putBit (CNV.CAL_STAT.CONV n) c false else t).get g = t.get g := by
    split_ifs
    · exact State.get_set_of_key_ne t _ hg
    · exact State.get_set_of_key_ne t _ hg
    · rfl
  have hmod (t : State) (f : Cnv → Cnv) (v : Nat) : (((t.modChip n f).set (imgFld n c) v).putBit (CNV.CAL_STAT.HOLD n) c false).get g =
      ((t.set (imgFld n c) v).putCalHold n c false).get g := rfl
  simp only [State.bgCal, hen, hpwr, hlow, Bool.not_true, Bool.or_self, Bool.false_eq_true, if_false]
  rw [State.pairNudged]
  exact (hconv _ _ _).trans (hmod _ _ _)

end

/-! What a window shows of a pair -/

/-- What background calibration of a pair reads and shows: its enable and power, its corrections and its HOLD. -/
def State.pairView (s : State) (n c : Nat) : Nat × Bool × Nat × Nat × Nat × Bool :=
  (s.get (CNV.CAL_CTL.BG_EN n), s.flag (CNV.RX_CFG.PWR n c), s.get (CNV.ILV.OFFSET n c), s.get (CNV.ILV.GAIN n c), s.get (CNV.ILV.SKEW n c),
    tbit (s.get (CNV.CAL_STAT.HOLD n)) c)

theorem pairView_congr {s t : State} {n c : Nat} (h : ∀ g : Fld, (g.key = (CNV.CAL_CTL.BG_EN n).key ∨ g.key / 32 = 0x10040 + 0x1000 * n + 4 * c ∨
      g.key / 32 = 0x10070 + 0x1000 * n + 4 * c) → t.get g = s.get g)
    (hhold : tbit (t.get (CNV.CAL_STAT.HOLD n)) c = tbit (s.get (CNV.CAL_STAT.HOLD n)) c) : t.pairView n c = s.pairView n c := by
  have hpwr : t.flag (CNV.RX_CFG.PWR n c) = s.flag (CNV.RX_CFG.PWR n c) := by
    rw [State.flag, h _ (.inr (.inl (by simp only [key_CNV_RX_CFG_PWR]; omega))), State.flag]
  rw [State.pairView, hpwr, hhold, h _ (.inl rfl), h (CNV.ILV.OFFSET n c) (.inr (.inr (by simp only [key_CNV_ILV_OFFSET]; omega))),
    h (CNV.ILV.GAIN n c) (.inr (.inr (by simp only [key_CNV_ILV_GAIN]; omega))),
    h (CNV.ILV.SKEW n c) (.inr (.inr (by simp only [key_CNV_ILV_SKEW]; omega))), State.pairView]

/-- The window of a pair leaves the other pairs. -/
theorem bgCal_other (s : State) (n : Nat) {c x : Nat} (o : CalObs) (hc : c < 4) (hx : x < 4) (hne : x ≠ c) :
    (s.bgCal n x o).pairView n c = s.pairView n c := by
  have hne' : ¬c = x := fun e => hne e.symm
  cases hen : tbit (s.get (CNV.CAL_CTL.BG_EN n)) x with
  | false => rw [bgCal_idle (.inl hen)]
  | true =>
    cases hpwr : s.flag (CNV.RX_CFG.PWR n x) with
    | false => rw [bgCal_idle (.inr hpwr)]
    | true =>
      cases hlow : o.low with
      | true =>
        rw [bgCal_low hen hpwr hlow]
        refine pairView_congr (fun g hg => putCalHold_get _ _ _ _ ?_) (by rw [putCalHold_tbit _ _ _ hc, if_neg hne'])
        simp only [key_CNV_CAL_CTL_BG_EN, key_CNV_CAL_STAT_HOLD] at hg ⊢
        omega
      | false =>
        have himg := imgFld_addr n x
        refine pairView_congr (fun g hg => ?_) ?_
        · simp only [key_CNV_CAL_CTL_BG_EN] at hg
          rw [bgCal_open_get hen hpwr hlow (by simp only [key_CNV_CAL_STAT_CONV]; omega),
            putCalHold_get _ _ _ _ (by simp only [key_CNV_CAL_STAT_HOLD]; omega), State.get_set_of_key_ne _ _ (by omega),
            pairNudged_get _ _ _ _ (by omega)]
        · rw [bgCal_open_get hen hpwr hlow (by simp), putCalHold_tbit _ _ _ hc, if_neg hne',
            State.get_set_of_key_ne _ _ (by rw [key_CNV_CAL_STAT_HOLD]; omega),
            pairNudged_get _ _ _ _ (by rw [key_CNV_CAL_STAT_HOLD]; omega)]

/-- A pair that is off, without power or without signal keeps its corrections. -/
theorem bgCal_holds_corrections {s : State} {n c : Nat} {o : CalObs}
    (h : tbit (s.get (CNV.CAL_CTL.BG_EN n)) c = false ∨ s.flag (CNV.RX_CFG.PWR n c) = false ∨ o.low = true) {g : Fld}
    (hg : g.key / 32 = 0x10070 + 0x1000 * n + 4 * c) : (s.bgCal n c o).get g = s.get g := by
  cases hen : tbit (s.get (CNV.CAL_CTL.BG_EN n)) c with
  | false => rw [bgCal_idle (.inl hen)]
  | true =>
    cases hpwr : s.flag (CNV.RX_CFG.PWR n c) with
    | false => rw [bgCal_idle (.inr hpwr)]
    | true =>
      have hlow : o.low = true := by simpa [hen, hpwr] using h
      rw [bgCal_low hen hpwr hlow, putCalHold_get _ _ _ _ (by simp only [key_CNV_CAL_STAT_HOLD]; omega)]

/-- The window of an enabled, powered pair shows in HOLD whether it had signal, and moves the gain by a step at most. -/
theorem bgCal_window {s : State} {n c : Nat} {o : CalObs} (hc : c < 4) (hen : tbit (s.get (CNV.CAL_CTL.BG_EN n)) c = true)
    (hpwr : s.flag (CNV.RX_CFG.PWR n c) = true) : tbit ((s.bgCal n c o).get (CNV.CAL_STAT.HOLD n)) c = o.low ∧
    (o.low = false → (sext 10 ((s.bgCal n c o).get (CNV.ILV.GAIN n c)) - sext 10 (s.get (CNV.ILV.GAIN n c))).natAbs ≤ 1) := by
  cases hlow : o.low with
  | true => exact ⟨by rw [bgCal_low hen hpwr hlow, putCalHold_tbit _ _ _ hc, if_pos rfl], fun h => by simp at h⟩
  | false =>
    have himg := imgFld_addr n c
    refine ⟨by rw [bgCal_open_get hen hpwr hlow (by simp), putCalHold_tbit _ _ _ hc, if_pos rfl], fun _ => ?_⟩
    rw [bgCal_open_get hen hpwr hlow (by simp only [key_CNV_ILV_GAIN, key_CNV_CAL_STAT_CONV]; omega),
      putCalHold_get _ _ _ _ (by simp only [key_CNV_ILV_GAIN, key_CNV_CAL_STAT_HOLD]; omega),
      State.get_set_of_key_ne _ _ (fun e => by rw [← e, key_CNV_ILV_GAIN] at himg; omega)]
    exact pairNudged_gain s n c o

/-- The windows of the four pairs of a chiplet. -/
def State.bgCals (s : State) (n : Nat) (obs : List CalObs) : State :=
  (List.range 4).foldl (fun t c => t.bgCal n c (obs.getD c ⟨0, 0, 0, 0, true⟩)) s

/-- Of the four windows, a pair shows its own alone. -/
theorem bgCals_pairView (s : State) (n : Nat) {obs : List CalObs} {c : Nat} {o : CalObs} (ho : obs[c]? = some o) (hc : c < 4) :
    ∃ t : State, t.pairView n c = s.pairView n c ∧ (s.bgCals n obs).pairView n c = (t.bgCal n c o).pairView n c := by
  obtain ⟨t, hsame, hshows⟩ := foldl_shows_step (fun u : State => u.pairView n c) (fun u c => u.bgCal n c (obs.getD c ⟨0, 0, 0, 0, true⟩))
    List.nodup_range (List.mem_range.mpr hc) (fun u x hx hne => bgCal_other u n _ hc (List.mem_range.mp hx) hne) s
  rw [List.getD_eq_getElem?_getD, ho] at hshows
  exact ⟨t, hsame, hshows⟩

end Sys2Proof.Machine
end

section
/-! SUPPORT. The observation path and the calibration of a converter chiplet (R133, R147, R149 to R152). -/
namespace Sys2Proof.Machine
open Sys2Proof

/-- What the end of a window shows of each pair of which it has an input. -/
theorem bgCalWindowEnd_shows (s : State) (n : Nat) {obs : List CalObs} {c : Nat} {o : CalObs} (ho : obs[c]? = some o) (hc : c < 4) :
    (tbit (s.get (CNV.CAL_CTL.BG_EN n)) c = false ∨ s.flag (CNV.RX_CFG.PWR n c) = false ∨ o.low = true →
      (s.bgCals n obs).get (CNV.ILV.OFFSET n c) = s.get (CNV.ILV.OFFSET n c) ∧
      (s.bgCals n obs).get (CNV.ILV.GAIN n c) = s.get (CNV.ILV.GAIN n c) ∧
      (s.bgCals n obs).get (CNV.ILV.SKEW n c) = s.get (CNV.ILV.SKEW n c)) ∧
    (tbit (s.get (CNV.CAL_CTL.BG_EN n)) c = true → s.flag (CNV.RX_CFG.PWR n c) = true →
      tbit ((s.bgCals n obs).get (CNV.CAL_STAT.HOLD n)) c = o.low ∧
      (o.low = false → (sext 10 ((s.bgCals n obs).get (CNV.ILV.GAIN n c)) - sext 10 (s.get (CNV.ILV.GAIN n c))).natAbs ≤ 1)) := by
  obtain ⟨t, hsame, hshows⟩ := bgCals_pairView s n ho hc
  simp only [State.pairView, Prod.mk.injEq] at hsame hshows
  obtain ⟨hen, hpwr, hoffset, hgain, hskew, -⟩ := hsame
  obtain ⟨-, -, hoffset', hgain', hskew', hhold'⟩ := hshows
  rw [hoffset', hgain', hskew', hhold', ← hen, ← hpwr, ← hoffset, ← hgain, ← hskew]
  refine ⟨fun h => ⟨?_, ?_, ?_⟩, fun hon hpow => bgCal_window hc hon hpow⟩
  · exact bgCal_holds_corrections h (by simp only [key_CNV_ILV_OFFSET]; omega)
  · exact bgCal_holds_corrections h (by simp only [key_CNV_ILV_GAIN]; omega)
  · exact bgCal_holds_corrections h (by simp only [key_CNV_ILV_SKEW]; omega)

/-- After a channel change whose slots are all covered, the change's mark ends and the plan restarts. -/
theorem changeResume_shows {s : State} {n : Nat} (hn : n < 8) (hpf : s.pfRuns = false) (hrst : s.resetting 0x0D = false)
    (hstep : s.get (SYN.SYN_STAT.STEP n) = yRunning) (hresume : (s.chip n).resume = true) (hcover : s.uncoveredOn n = []) :
    ((s.changeResume n).chip n).resume = false ∧ s.frameAt s.now ≤ (s.changeResume n).now ∧
    (s.changeResume n).get (CNV.OBS_STAT.ENT_0 n) = firstEntry (s.plan n 0) % 8 ∧ (s.changeResume n).active = s.active := by
  have hkey : (CNV.OBS_STAT.ENT_0 n).key < 32 * 0x40000 := by simp; omega
  obtain ⟨l, hchange⟩ := changeResume_covered hpf hrst hstep hresume hcover
  obtain ⟨hent, hactive, hcnv, hnow⟩ := foldl_resume_rest hkey l (((s.boundaryReached n).recover n).restartPlan n)
  obtain ⟨-, hactive', hcnv', hplans, hnow'⟩ := besideSlots_iff.mp (recover_besideSlots hkey (s.boundaryReached n) n)
  obtain ⟨hactive'', -, hnow'', hmark⟩ := restartPlan_rest ((s.boundaryReached n).recover n) n
  have hplan : ((s.boundaryReached n).recover n).plan n 0 = s.plan n 0 := plan_congr hplans n 0
  rw [hchange]
  refine ⟨?_, ?_, ?_, ?_⟩
  · rw [State.chip, hcnv, ← State.chip, hmark, State.chip, hcnv', ← State.chip, State.boundaryReached, chip_modChip_same]
  · rw [hnow'', hnow'] at hnow
    exact (le_max_right s.now _).trans hnow
  · rw [hent, (restartPlan_shows _ n).1, hplan]
  · rw [hactive, hactive'', hactive']; rfl

/-- Settles O31: each clause by what its command makes of the chiplet, once its hypotheses pick the branch. -/
theorem observationAndCalibration : Obligations.ObservationAndCalibration := by
  refine ⟨fun s n hclk => ?_, fun s m n v ht hcommit => ⟨fun hpend => ?_, fun i l hpend hun => ?_, fun hpend hun => ?_⟩,
    fun s n hpend => ?_, fun s n r hclk hrst hvalid => ?_, fun s n hpf hrst hstep hresume hcover => ?_, fun s n obs hclk hrst hrdy => ?_⟩
  · exact answers_of rfl (if_pos hclk) ⟨fun c hc => dsaAll_dsaOf s.toAlign n.isLt hc,
      (dsaAll_rest (g := IDN.PROFILE.REQ) (by decide) s.toAlign n).2, dsaAll_keeps s.toAlign n⟩
  · exact answersVia_of rfl (congrArg State.settle ((planWrite_of_takes ht hcommit).trans (planCommit_busy (s := s.outcome m 0) hpend)))
      ⟨State.get_set_same _ _ _, (Keeps.refl s _).set 2 (by simp), rfl⟩
  · have hrefused := planCommit_refused (s := s.outcome m 0) (m := m.num) hpend ((outcome_shadowUncovered s m 0 n).trans hun)
    exact answersVia_of rfl (congrArg State.settle ((planWrite_of_takes ht hcommit).trans hrefused))
      ⟨State.get_set_same _ _ _, by simp, ((Keeps.refl s _).set i (by simp)).set 1 (by simp), rfl⟩
  · have hpends := planCommit_pends (s := s.outcome m 0) (m := m.num) hpend ((outcome_shadowUncovered s m 0 n).trans hun)
    exact answersSettled_of rfl ((planWrite_of_takes ht hcommit).trans hpends) (planPended_shows (s.outcome m 0) n)
  · exact answersSettled_of rfl rfl (planLive_shows n.isLt hpend)
  · obtain ⟨hent, hkeeps⟩ := dwellOn_shows (s.until (s.dwellEnd n r)) n r (nextEntry (s.plan n r) (s.get (obsEnt n r)))
    exact answers_of rfl (dwellNext_eq hclk hrst hvalid) ⟨hent, hkeeps, le_max_right _ _⟩
  · exact answersSettled_of rfl rfl (changeResume_shows n.isLt hpf hrst hstep hresume (uncoveredOn_eq_nil hcover))
  · exact answers_of rfl (if_pos ⟨hclk, by rw [hrst]; rfl, hrdy⟩) fun c o ho hc => bgCalWindowEnd_shows s.toAlign n ho hc

end Sys2Proof.Machine
end

section
/-! SUPPORT. One slot among the others: what an operation does to the slot it acts on, and that it leaves every other slot as it is
(R158, R172, R173). -/
namespace Sys2Proof.Machine
open Sys2Proof

/-! Another slot -/

/-- A field of the registers of slot `i`. -/
def Fld.ofSlot (f : Fld) (i : Nat) : Prop := ∃ o b, f.key = 32 * (slotBase i + o) + b ∧ o < 0x40 ∧ b < 32

theorem ofSlot_HOLD (i : Nat) : (SLP.SLOT_STAT.HOLD i).ofSlot i := ⟨4, 12, rfl, by decide, by decide⟩
theorem ofSlot_STATE (i : Nat) : (SLP.SLOT_STAT.STATE i).ofSlot i := ⟨4, 20, rfl, by decide, by decide⟩
theorem ofSlot_LIMIT (i : Nat) : (SLP.GAIN_STAT.LIMIT i).ofSlot i := ⟨0x1C, 28, rfl, by decide, by decide⟩
theorem ofSlot_APPLIED (i : Nat) : (SLP.GAIN_STAT.APPLIED i).ofSlot i := ⟨0x1C, 0, rfl, by decide, by decide⟩

theorem key_ne_of_ofSlot {f g : Fld} {i j : Nat} (hg : g.ofSlot i) (hf : f.ofSlot j) (hij : i ≠ j) : g.key ≠ f.key := by
  obtain ⟨o, b, hg, ho, hb⟩ := hg
  obtain ⟨p, c, hf, hp, hc⟩ := hf
  rw [hg, hf, slotBase, slotBase]
  omega

/-- A slot as one of its registers and its running state show it. -/
def State.slotView (s : State) (i : Nat) (g : Fld) : Nat × Slot := (s.get g, s.slot i)

section
variable {i j : Nat} {g : Fld} (hij : i ≠ j) (hg : g.ofSlot i)
include hij

theorem modSlot_slotView (s : State) (f : Slot → Slot) (g : Fld) : (s.modSlot j f).slotView i g = s.slotView i g :=
  Prod.ext rfl ((slot_modSlot s j i f).trans (if_neg hij))

theorem fadeOut_slotView (s : State) (t : Nat) (g : Fld) : (s.fadeOut j t).slotView i g = s.slotView i g := by
  unfold State.fadeOut
  split_ifs <;> exact modSlot_slotView hij s _ g

include hg

theorem set_slotView (s : State) {f : Fld} (v : Nat) (hf : f.ofSlot j) : (s.set f v).slotView i g = s.slotView i g :=
  Prod.ext (State.get_set_ne s v (key_ne_of_ofSlot hg hf hij)) rfl

theorem silence_slotView (s : State) : (s.silence j).slotView i g = s.slotView i g :=
  (set_slotView hij hg _ _ (ofSlot_APPLIED j)).trans (set_slotView hij hg s _ (ofSlot_LIMIT j))

theorem holdAt_slotView (s : State) (b t : Nat) : (s.holdAt b j t).slotView i g = s.slotView i g := by
  have hheld : (s.putBit (SLP.SLOT_STAT.HOLD j) b true).slotView i g = s.slotView i g := set_slotView hij hg s _ (ofSlot_HOLD j)
  have hstate (u : State) (v : Nat) : (u.set (SLP.SLOT_STAT.STATE j) v).slotView i g = u.slotView i g :=
    set_slotView hij hg u v (ofSlot_STATE j)
  unfold State.holdAt
  dsimp only
  split_ifs <;>
    simp only [silence_slotView hij hg, State.cut, State.weigh, modSlot_slotView hij, fadeOut_slotView hij, hstate, hheld]

theorem hold_slotView (s : State) (b : Nat) : (s.hold b j).slotView i g = s.slotView i g := by
  rw [State.hold, holdAt_slotView hij hg]

theorem unhold_slotView (s : State) (b : Nat) : (s.unhold b j).slotView i g = s.slotView i g := by
  have hheld : (s.putBit (SLP.SLOT_STAT.HOLD j) b false).slotView i g = s.slotView i g := set_slotView hij hg s _ (ofSlot_HOLD j)
  unfold State.unhold
  dsimp only
  split_ifs <;> simp only [modSlot_slotView hij, hheld]

end

/-! The slot itself -/

/-- A slot's output is without weight, and no ramp runs. -/
def Slot.quiet (x : Slot) : Prop := x.weight = 0 ∧ x.upAt = none ∧ x.downAt = none

theorem weightNow_of_quiet {s : State} {i : Nat} (h : (s.slot i).quiet) : s.weightNow i = 0 := by
  obtain ⟨hweight, hup, hdown⟩ := h
  simp only [State.weightNow, Slot.weightAt, Slot.rise, hdown, hup, hweight]

theorem slot_modSlot_same (s : State) (i : Nat) (f : Slot → Slot) : (s.modSlot i f).slot i = f (s.slot i) :=
  (slot_modSlot s i i f).trans (if_pos rfl)

theorem slot_modSlot_ne (s : State) {i j : Nat} (f : Slot → Slot) (h : i ≠ j) : (s.modSlot j f).slot i = s.slot i :=
  (slot_modSlot s j i f).trans (if_neg h)

theorem slot_set (s : State) (f : Fld) (v i : Nat) : (s.set f v).slot i = s.slot i := rfl
theorem slot_silence (s : State) (i j : Nat) : (s.silence j).slot i = s.slot i := by
  rw [State.silence, slot_set, slot_set]

theorem cut_quiet (s : State) (i : Nat) : ((s.cut i).slot i).quiet := by
  rw [State.cut, State.weigh, slot_modSlot_same]
  exact ⟨rfl, rfl, rfl⟩

theorem cut_keeps_quiet {s : State} {i : Nat} (j : Nat) (h : (s.slot i).quiet) : ((s.cut j).slot i).quiet := by
  by_cases hij : i = j
  · rw [← hij]; exact cut_quiet s i
  · rw [State.cut, State.weigh, slot_modSlot_ne s _ hij]; exact h

/-- A release that arms the resume shows it in no register. -/
theorem unhold_get_eq (s : State) (b i : Nat) (g : Fld) : (s.unhold b i).get g = (s.putBit (SLP.SLOT_STAT.HOLD i) b false).get g := by
  unfold State.unhold
  dsimp only
  split_ifs <;> rfl

theorem mem_enabled {s : State} {i : Nat} :
    i ∈ s.enabled ↔ i ∈ s.active ∧ 2 ≤ s.get (SLP.SLOT_STAT.STATE i) ∧ s.get (SLP.SLOT_STAT.STATE i) ≤ 5 := by
  simp [State.enabled]

/-! HOLD.GATE -/

/-- Under HOLD.GATE a slot is silent, and neither in RAMP_UP nor in ON. -/
def State.gateStands (s : State) (i : Nat) : Prop :=
  tbit (s.get (SLP.SLOT_STAT.HOLD i)) hGate = true ∧ s.get (SLP.SLOT_STAT.STATE i) ≠ 3 ∧ s.get (SLP.SLOT_STAT.STATE i) ≠ 4 ∧
    (s.slot i).quiet

theorem gateStands_of_view {s t : State} {i : Nat} (h : s.gateStands i) (hview : ∀ g : Fld, g.ofSlot i → t.slotView i g = s.slotView i g) :
    t.gateStands i := by
  have hget (g : Fld) (hg : g.ofSlot i) : t.get g = s.get g := congrArg Prod.fst (hview g hg)
  have hslot : t.slot i = s.slot i := congrArg Prod.snd (hview _ (ofSlot_HOLD i))
  rw [State.gateStands, hget _ (ofSlot_HOLD i), hget _ (ofSlot_STATE i), hslot]
  exact h

/-- What a shut gate makes of a slot: its STATE reads HELD where it was in RAMP_UP or ON. -/
theorem hold_gate (s : State) (i : Nat) : (s.hold hGate i).gateStands i ∧ ((s.hold hGate i).get (SLP.SLOT_STAT.STATE i) =
    if s.get (SLP.SLOT_STAT.STATE i) = 3 ∨ s.get (SLP.SLOT_STAT.STATE i) = 4 then 5 else s.get (SLP.SLOT_STAT.STATE i)) := by
  have hbit : tbit ((s.putBit (SLP.SLOT_STAT.HOLD i) hGate true).get (SLP.SLOT_STAT.HOLD i)) hGate = true := by
    rw [State.putBit_eq, State.get_set_same, w_SLP_SLOT_STAT_HOLD, tbit_mod (by decide), tbit_putBit, if_pos rfl]
  have hstate : (s.putBit (SLP.SLOT_STAT.HOLD i) hGate true).get (SLP.SLOT_STAT.STATE i) = s.get (SLP.SLOT_STAT.STATE i) :=
    State.get_set_ne s _ (by simp)
  have hheld (u : State) : (u.silence i).get (SLP.SLOT_STAT.HOLD i) = u.get (SLP.SLOT_STAT.HOLD i) := by
    rw [State.silence, State.get_set_of_key_ne _ _ (by simp; omega), State.get_set_of_key_ne _ _ (by simp; omega)]
  unfold State.hold State.holdAt
  by_cases h : s.get (SLP.SLOT_STAT.STATE i) = 3 ∨ s.get (SLP.SLOT_STAT.STATE i) = 4
  · have hnow (u : State) : (((u.set (SLP.SLOT_STAT.STATE i) stHeld).cut i).silence i).get (SLP.SLOT_STAT.STATE i) = 5 :=
      (silence_STATE _ i i).trans ((State.modSlot_get _ i _ _).trans (State.get_set_same u _ _))
    simp only [h, if_true]
    refine ⟨⟨?_, by rw [hnow]; decide, by rw [hnow]; decide, ?_⟩, hnow _⟩
    · rw [hheld, State.cut, State.weigh, State.modSlot_get, State.get_set_of_key_ne _ _ (by simp)]; exact hbit
    · rw [slot_silence]; exact cut_quiet _ i
  · simp only [h, ↓reduceIte]
    rw [not_or] at h
    exact ⟨⟨hbit, hstate.trans_ne h.1, hstate.trans_ne h.2, cut_quiet _ i⟩, hstate⟩

/-- A shut gate stands on every enabled slot, which reads HELD where it was in RAMP_UP or ON. -/
theorem holdGate_stands {s : State} {i : Nat} (h : i ∈ s.enabled) :
    (s.holdAll hGate true).gateStands i ∧ ((s.holdAll hGate true).get (SLP.SLOT_STAT.STATE i) = s.get (SLP.SLOT_STAT.STATE i) ∨
      (s.holdAll hGate true).get (SLP.SLOT_STAT.STATE i) = 5) := by
  have hother {u : State} {j : Nat} (hij : i ≠ j) (g : Fld) (hg : g.ofSlot i) := hold_slotView hij hg u hGate
  refine ⟨foldl_establishes (P := fun u : State => u.gateStands i) (fun u j hu => ?_) _ (.inl h),
    List.foldlRecOn (motive := fun u : State => u.get (SLP.SLOT_STAT.STATE i) = s.get (SLP.SLOT_STAT.STATE i) ∨
      u.get (SLP.SLOT_STAT.STATE i) = 5) _ _ (.inl rfl) fun u hu j _ => ?_⟩
  all_goals
    rw [if_pos rfl]
    by_cases hij : i = j
  · rw [← hij]; exact (hold_gate u i).1
  · exact gateStands_of_view (hu.resolve_left hij) (hother hij)
  · rw [← hij, (hold_gate u i).2]
    split_ifs
    · exact .inr rfl
    · exact hu
  · rw [show (u.hold hGate j).get (SLP.SLOT_STAT.STATE i) = u.get (SLP.SLOT_STAT.STATE i) from congrArg Prod.fst (hother hij _ (ofSlot_STATE i))]
    exact hu

/-- An open gate leaves HOLD.GATE on no enabled slot. -/
theorem unholdGate_clears {s : State} {i : Nat} (h : i ∈ s.enabled) :
    tbit ((s.holdAll hGate false).get (SLP.SLOT_STAT.HOLD i)) hGate = false := by
  refine foldl_establishes (P := fun u : State => tbit (u.get (SLP.SLOT_STAT.HOLD i)) hGate = false) (fun u j hu => ?_) _ (.inl h)
  rw [if_neg (by decide)]
  by_cases hij : i = j
  · rw [← hij, unhold_get_eq, State.putBit_eq, State.get_set_same, w_SLP_SLOT_STAT_HOLD, tbit_mod (by decide), tbit_putBit, if_pos rfl]
  · rw [show (u.unhold hGate j).get (SLP.SLOT_STAT.HOLD i) = u.get (SLP.SLOT_STAT.HOLD i) from
      congrArg Prod.fst (unhold_slotView hij (ofSlot_HOLD i) u hGate)]
    exact hu.resolve_left hij

theorem cutRamps_gateStands {s : State} {i : Nat} (h : s.gateStands i) : s.cutRamps.gateStands i := by
  obtain ⟨hbit, hup, hon, hquiet⟩ := h
  rw [State.gateStands, cutRamps_get, cutRamps_get]
  exact ⟨hbit, hup, hon, List.foldlRecOn (motive := fun u : State => (u.slot i).quiet) _ _ hquiet fun u hu j _ => cut_keeps_quiet j hu⟩

/-- Settles O23: each slot's hold or release shows in that slot alone, and a cut leaves a silent slot silent. -/
theorem gateHoldsSlots : Obligations.GateHoldsSlots := by
  intro s i hi
  refine ⟨fun hshut => ?_, fun hopen => ?_⟩
  · obtain ⟨hstands, hstate⟩ := holdGate_stands hi
    have hsync : s.syncGate = (s.holdAll hGate true).cutRamps := by rw [State.syncGate, hshut]; rfl
    obtain ⟨hbit, hup, hon, hquiet⟩ := cutRamps_gateStands hstands
    rw [hsync]
    refine ⟨hbit, fun hwas => ?_, weightNow_of_quiet hquiet⟩
    rw [cutRamps_get] at hup hon ⊢
    omega
  · have hsync : s.syncGate = s.holdAll hGate false := by rw [State.syncGate, hopen]; rfl
    rw [hsync]
    exact unholdGate_clears hi

end Sys2Proof.Machine
end

section
/-! SUPPORT. What an operation on the canceller, the governor or the sums leaves of the slots: every register of the slot pages, the running
state and the live copies of the slots, which of them count, and the time. -/
namespace Sys2Proof.Machine
open Sys2Proof

/-- A field of the slot pages. -/
def Fld.inSlots (f : Fld) : Prop := 32 * 0x40000 ≤ f.key ∧ f.key < 32 * 0x80000

theorem Fld.ofSlot.inSlots {f : Fld} {i : Nat} (h : f.ofSlot i) (hi : i < 512) : f.inSlots := by
  obtain ⟨o, b, hf, ho, hb⟩ := h
  rw [Fld.inSlots, hf, slotBase]
  omega

theorem ofSlot_EN (i : Nat) : (SLP.SLOT_CTL.EN i).ofSlot i := ⟨0, 0, rfl, by decide, by decide⟩
theorem ofSlot_RESULT (i : Nat) : (SLP.SLOT_STAT.RESULT i).ofSlot i := ⟨4, 28, rfl, by decide, by decide⟩
theorem ofSlot_COMMIT_PEND (i : Nat) : (SLP.SLOT_STAT.COMMIT_PEND i).ofSlot i := ⟨4, 24, rfl, by decide, by decide⟩
theorem ofSlot_HIST_VALID (i : Nat) : (SLP.SLOT_STAT.HIST_VALID i).ofSlot i := ⟨4, 11, rfl, by decide, by decide⟩
theorem ofSlot_RATE (i : Nat) : (SLP.SLOT_CFG.RATE i).ofSlot i := ⟨8, 24, rfl, by decide, by decide⟩
theorem ofSlot_RX_CENTRE (i : Nat) : (SLP.RX_CENTRE.FREQ i).ofSlot i := ⟨0x10, 0, rfl, by decide, by decide⟩
theorem ofSlot_TX_CENTRE (i : Nat) : (SLP.TX_CENTRE.FREQ i).ofSlot i := ⟨0x14, 0, rfl, by decide, by decide⟩
theorem ofSlot_SRC (i : Nat) : (SLP.FIR_CTL.SRC i).ofSlot i := ⟨0x20, 31, rfl, by decide, by decide⟩
theorem ofSlot_LEN (i : Nat) : (SLP.FIR_CTL.LEN i).ofSlot i := ⟨0x20, 0, rfl, by decide, by decide⟩
theorem ofSlot_COMMITS (i : Nat) : (SLP.SLOT_CNT.COMMITS i).ofSlot i := ⟨0x38, 16, rfl, by decide, by decide⟩

/-- A state has the slots, and the time, of another. -/
structure State.SlotsAs (s t : State) : Prop where
  get : ∀ g : Fld, g.inSlots → t.get g = s.get g
  slots : t.slots = s.slots
  live : t.live = s.live
  active : t.active = s.active
  now : t.now = s.now

namespace State.SlotsAs
variable {s t u : State}

theorem of_reg (hreg : t.reg = s.reg) (hslots : t.slots = s.slots) (hlive : t.live = s.live) (hactive : t.active = s.active)
    (hnow : t.now = s.now) : s.SlotsAs t := ⟨fun g _ => by rw [State.get, State.get, hreg], hslots, hlive, hactive, hnow⟩

theorem refl (s : State) : s.SlotsAs s := ⟨fun _ _ => rfl, rfl, rfl, rfl, rfl⟩

theorem trans (h : s.SlotsAs t) (h' : t.SlotsAs u) : s.SlotsAs u :=
  ⟨fun g hg => (h'.get g hg).trans (h.get g hg), h'.slots.trans h.slots, h'.live.trans h.live, h'.active.trans h.active, h'.now.trans h.now⟩

theorem ite {c : Prop} [Decidable c] (ht : c → s.SlotsAs t) (hu : ¬c → s.SlotsAs u) : s.SlotsAs (if c then t else u) := by
  split_ifs with h
  exacts [ht h, hu h]

theorem slot (h : s.SlotsAs t) (i : Nat) : t.slot i = s.slot i := by rw [State.slot, State.slot, h.slots]
theorem liveOf (h : s.SlotsAs t) (i : Nat) : t.liveOf i = s.liveOf i := by rw [State.liveOf, State.liveOf, h.live]

/-- The shadow of a slot. -/
theorem shadowOf (h : s.SlotsAs t) {i : Nat} (hi : i < 512) : t.shadowOf i = s.shadowOf i := by
  have hget (g : Fld) (hg : g.ofSlot i) : t.get g = s.get g := h.get g (hg.inSlots hi)
  rw [State.shadowOf, State.shadowOf, hget _ (ofSlot_RX_CENTRE i), hget _ (ofSlot_TX_CENTRE i), hget _ (ofSlot_SRC i), hget _ (ofSlot_LEN i)]

/-- A field outside the slot pages is set. -/
theorem set (h : s.SlotsAs t) {f : Fld} (v : Nat) (hf : f.key < 32 * 0x40000 ∨ 32 * 0x80000 ≤ f.key) : s.SlotsAs (t.set f v) :=
  h.trans ⟨fun g hg => State.get_set_ne t v (by obtain ⟨hlo, hhi⟩ := hg; omega), rfl, rfl, rfl, rfl⟩

/-- The canceller's share changes. -/
theorem setCan (h : s.SlotsAs t) (c : Can) : s.SlotsAs { t with can := c } := ⟨h.get, h.slots, h.live, h.active, h.now⟩

theorem foldl {α : Type} {f : State → α → State} {l : List α} (hf : ∀ u : State, ∀ a ∈ l, u.SlotsAs (f u a)) (s : State) :
    s.SlotsAs (l.foldl f s) :=
  List.foldlRecOn (motive := fun u => s.SlotsAs u) l f (refl s) fun u hu a ha => hu.trans (hf u a ha)

/-- Fields outside the slot pages are cleared. -/
theorem clear {fs : List Fld} (hfs : ∀ f ∈ fs, f.key < 32 * 0x40000 ∨ 32 * 0x80000 ≤ f.key) (s : State) :
    s.SlotsAs (fs.foldl (fun s f => s.set f 0) s) := foldl (fun u f hf => (refl u).set 0 (hfs f hf)) s

end State.SlotsAs

open State.SlotsAs (of_reg ite clear)

/-! The canceller -/

theorem modCs_slotsAs (s : State) (i : Nat) (f : CanSlot → CanSlot) : s.SlotsAs (s.modCs i f) := of_reg rfl rfl rfl rfl rfl
theorem modGv_slotsAs (s : State) (i : Nat) (f : Gov → Gov) : s.SlotsAs (s.modGv i f) := of_reg rfl rfl rfl rfl rfl
theorem flipBank_slotsAs (s : State) (i : Nat) : s.SlotsAs (s.flipBank i) := of_reg rfl rfl rfl rfl rfl
theorem liveToShadow_slotsAs (s : State) (i : Nat) : s.SlotsAs (s.liveToShadow i) := of_reg rfl rfl rfl rfl rfl
theorem zeroExts_slotsAs (s : State) (es : List Nat) : s.SlotsAs (s.zeroExts es) := of_reg rfl rfl rfl rfl rfl
theorem forgetParks_slotsAs (s : State) (i : Nat) : s.SlotsAs (s.forgetParks i) := of_reg rfl rfl rfl rfl rfl
theorem solve_slotsAs (s : State) (i n : Nat) (target : Tab Int) : s.SlotsAs (s.solve i n target) := of_reg rfl rfl rfl rfl rfl

theorem returnExts_slotsAs (s : State) (i : Nat) (es : List Nat) : s.SlotsAs (s.returnExts i es) :=
  ite (fun _ => State.SlotsAs.refl s) fun _ => of_reg rfl rfl rfl rfl rfl

theorem iqOn_slotsAs (s : State) (code i : Nat) : s.SlotsAs (s.iqOn code i) := ite (fun _ => of_reg rfl rfl rfl rfl rfl) fun _ => State.SlotsAs.refl s

theorem soleGroup_slotsAs (s : State) (i : Nat) : s.SlotsAs (s.soleGroup i) :=
  (ite (fun _ => (modCs_slotsAs s i _).set 0 (by simp; omega)) fun _ => State.SlotsAs.refl s).trans (modCs_slotsAs _ i _)

theorem applyResize_slotsAs (s : State) (i : Nat) : s.SlotsAs (s.applyResize i) :=
  (ite (fun _ => State.SlotsAs.refl s) fun _ => soleGroup_slotsAs s i).trans ((modCs_slotsAs _ i _).trans (zeroExts_slotsAs _ _))

theorem swapGroups_slotsAs (s : State) (i : Nat) : s.SlotsAs (s.swapGroups i) :=
  ((ite (fun _ => State.SlotsAs.refl s) fun _ => zeroExts_slotsAs s _).trans (modCs_slotsAs _ i _)).set _ (by simp; omega)

theorem syncSums_slotsAs (s : State) : s.SlotsAs s.syncSums := by
  unfold State.syncSums
  exact ((((State.SlotsAs.refl s).set _ (by simp)).set _ (by simp)).set _ (by simp)).trans
    (State.SlotsAs.foldl (fun u n hn => ((State.SlotsAs.refl u).set _ (by rw [List.mem_range] at hn; simp; omega)).set _
      (by rw [List.mem_range] at hn; simp; omega)) _)

theorem applyParking_slotsAs (s : State) (i : Nat) : s.SlotsAs (s.applyParking i) := by
  unfold State.applyParking
  exact (modCs_slotsAs s i _).trans (syncSums_slotsAs _)

theorem abandonResize_slotsAs (s : State) (i : Nat) : s.SlotsAs (s.abandonResize i) := by
  unfold State.abandonResize
  exact ite (fun _ => State.SlotsAs.refl s) fun _ =>
    (((modCs_slotsAs s i _).trans (returnExts_slotsAs _ i _)).set 0 (by simp)).trans (syncSums_slotsAs _)

theorem warmHead_slotsAs (s : State) : s.SlotsAs s.warmHead := by
  unfold State.warmHead
  split
  · exact State.SlotsAs.refl s
  · exact (State.SlotsAs.refl s).set 1 (by simp; omega)

theorem dropWarm_slotsAs (s : State) (i : Nat) : s.SlotsAs (s.dropWarm i) := by
  unfold State.dropWarm
  exact (((State.SlotsAs.refl s).set (f := CAN.SLOT_INFO.WARM_PEND i) 0 (by simp; omega)).setCan _).trans (warmHead_slotsAs _)

theorem commitWarm_slotsAs (s : State) (i : Nat) : s.SlotsAs (s.commitWarm i) :=
  (((((State.SlotsAs.refl s).set _ (by simp; omega)).trans (modCs_slotsAs _ i _)).trans (modGv_slotsAs _ i _)).set 1
    (by simp; omega)).set _ (by simp; omega)

/-! The governor -/

theorem zeroLoop_slotsAs (s : State) (l : Nat) : s.SlotsAs (s.zeroLoop l) := by
  have hend : s.SlotsAs { s with loops := Tab.upd {} s.loops l fun x => { ({} : Loop) with modeAt := x.modeAt } } := of_reg rfl rfl rfl rfl rfl
  exact (hend.set (f := CLV.LOOP_STAT.OBSV l) 0 (by simp; omega)).trans
    (ite (fun _ => ((State.SlotsAs.refl _).set 0 (by simp; omega)).set 0 (by simp; omega)) fun _ => State.SlotsAs.refl _)

theorem govOff_slotsAs (s : State) (i : Nat) : s.SlotsAs (s.govOff i) := by
  unfold State.govOff
  exact ((modGv_slotsAs s i _).trans (clear (by simp; omega) _)).trans (zeroLoop_slotsAs _ i)

theorem setCap_slotsAs (s : State) (i : Nat) (c : Int) : s.SlotsAs (s.setCap i c) :=
  ((modGv_slotsAs s i _).set 1 (by simp; omega)).set _ (by simp; omega)

theorem coldStart_slotsAs (s : State) (i : Nat) : s.SlotsAs (s.coldStart i) := by
  unfold State.coldStart
  exact ((((setCap_slotsAs s i _).trans (modGv_slotsAs _ i _)).set (f := GOV.SLOT_GOV.WARMR i) 0 (by simp; omega)).set
    (f := GOV.SLOT_GOV.URG i) 3 (by simp; omega)).setCan _

theorem obsReset_slotsAs (s : State) (i : Nat) : s.SlotsAs (s.obsReset i) := by
  unfold State.obsReset
  exact (modGv_slotsAs s i _).trans (clear (by simp; omega) _)

/-! The channels -/

theorem chanPwr_key_lt {k : Nat} (hk : k < 64) : (chanPwr k).key < 32 * 0x40000 := by
  unfold chanPwr
  split_ifs <;> simp <;> omega

theorem power_slotsAs (s : State) (k : Nat) (on : Bool) : s.SlotsAs (s.power k on) :=
  ite (fun hk => (State.SlotsAs.refl s).set _ (.inl (chanPwr_key_lt hk))) fun _ => State.SlotsAs.refl s

theorem trimChannels_slotsAs (s : State) : s.SlotsAs s.trimChannels := by
  have hoff (u : State) (k : Nat) : u.SlotsAs { u.power k false with chanDown := NSet.add u.chanDown k } :=
    (power_slotsAs u k false).trans (of_reg rfl rfl rfl rfl rfl)
  have hup : s.SlotsAs { s with chanUp := s.chanUp.filter s.inUse } := of_reg rfl rfl rfl rfl rfl
  exact ite (fun _ => State.SlotsAs.refl s) fun _ => hup.trans (State.SlotsAs.foldl (fun u k _ => hoff u k) _)

end Sys2Proof.Machine
end

section
/-! SUPPORT. Commit points, crossfades, holds and the channel FIR window (R156, R168 to R171, R173, R176). -/
namespace Sys2Proof.Machine
open Sys2Proof

/-! What takes effect at a commit point -/

/-- A slot commit is due: it is accepted, and at least 10 µs old. -/
def State.commitDue (s : State) (i : Nat) : Bool := s.flag (SLP.SLOT_STAT.COMMIT_PEND i) && s.aged (some (s.slot i).commitAt)

/-- A result of the solver is due. -/
def State.resultDue (s : State) (i : Nat) : Bool := (s.slot i).result && !s.flag (SLP.SLOT_STAT.COMMIT_PEND i)

/-- A result of ADAPT is due. -/
def State.adaptDue (s : State) (i : Nat) : Bool := s.aged (s.cs i).adaptAt && s.get (SLP.CAN_CFG.MODE i) == 1

/-- A change of banks is due. -/
def State.flipDue (s : State) (i : Nat) : Bool :=
  s.adaptDue i || s.aged (s.cs i).warmAt || (s.cs i).zeroDue || (s.commitDue i && (s.cs i).mode == 3)

/-- A parking is due. -/
def State.parkIsDue (s : State) (i : Nat) : Bool := !(s.cs i).parkDue.isEmpty || !(s.cs i).unparkDue.isEmpty

/-- The banks and the warm set that are due take effect. -/
def State.commitBanks (s : State) (i : Nat) : State :=
  let a := s.adaptDue i
  let t := if s.flipDue i then (s.flipBank i).modCs i fun x => { x with adaptAt := if a then none else x.adaptAt, zeroDue := false } else s
  if s.aged (s.cs i).warmAt then t.commitWarm i else t

/-- What a commit point of `r` makes of the layout, the groups, the parking and the mode in `s`. -/
def State.commitLayout (s r : State) (i : Nat) : State :=
  let s := if r.aged (r.cs i).resizeAt then s.applyResize i else s
  let s := if (r.cs i).swapDue then s.swapGroups i else s
  let s := if r.parkIsDue i then s.applyParking i else s
  let s := if r.get (SLP.CAN_CFG.MODE i) ≠ 1 ∧ (s.cs i).adaptAt.isSome then (s.modCs i fun x => { x with adaptAt := none }).liveToShadow i else s
  s.modCs i fun x => { x with mode := r.get (SLP.CAN_CFG.MODE i) }

/-- A commit point of `r` begins a crossfade. -/
def State.fadeDue (r : State) (i : Nat) : Bool :=
  r.commitDue i || r.resultDue i || r.flipDue i || r.aged (r.cs i).resizeAt || (r.cs i).swapDue || r.parkIsDue i
    || (r.cs i).mode != r.get (SLP.CAN_CFG.MODE i)

/-- The crossfade of what took effect at a commit point of `r`, in `s`. -/
def State.commitFade (s r : State) (i : Nat) : State :=
  (s.modSlot i fun x => { x with
    xfade := true, xcommit := r.commitDue i, xEnd := s.sampleAt i s.now + 32 * s.sampleT i, old := some (r.liveSet i) }).iqOn 5 i

theorem commitAll_eq (s : State) (i : Nat) : s.commitAll i =
    let t := if s.commitDue i then (s.commitBanks i).commitShadow i else s.commitBanks i
    let u := (if s.resultDue i then t.commitResult i else t).commitLayout s i
    if s.fadeDue i then u.commitFade s i else u := rfl

theorem commitBanks_slotsAs (s : State) (i : Nat) : s.SlotsAs (s.commitBanks i) := by
  have hflip := State.SlotsAs.ite (c := s.flipDue i = true)
    (fun _ => (flipBank_slotsAs s i).trans
      (modCs_slotsAs _ i fun x => { x with adaptAt := if s.adaptDue i then none else x.adaptAt, zeroDue := false }))
    fun _ => State.SlotsAs.refl s
  unfold State.commitBanks
  exact .ite (fun _ => hflip.trans (commitWarm_slotsAs _ i)) fun _ => hflip

theorem commitLayout_slotsAs (s r : State) (i : Nat) : s.SlotsAs (s.commitLayout r i) := by
  have hstep {c : Prop} [Decidable c] {f : State → State} (hf : ∀ u : State, u.SlotsAs (f u)) {u : State} (hu : s.SlotsAs u) :
      s.SlotsAs (if c then f u else u) := .ite (fun _ => hu.trans (hf u)) fun _ => hu
  unfold State.commitLayout
  exact (hstep (fun u => (modCs_slotsAs u i _).trans (liveToShadow_slotsAs _ i)) (hstep (fun u => applyParking_slotsAs u i)
    (hstep (fun u => swapGroups_slotsAs u i) (hstep (fun u => applyResize_slotsAs u i) (.refl s))))).trans (modCs_slotsAs _ i _)

theorem commitAll_now (s : State) (i : Nat) : (s.commitAll i).now = s.now := by
  have hset (c : Prop) [Decidable c] (t : State) : (if c then t.commitShadow i else t).now = t.now := by split_ifs <;> rfl
  have hresult (c : Prop) [Decidable c] (t : State) : (if c then t.commitResult i else t).now = t.now := by split_ifs <;> rfl
  have hfade (c : Prop) [Decidable c] (t : State) : (if c then t.commitFade s i else t).now = t.now := by
    split_ifs
    · exact (iqOn_slotsAs _ 5 i).now
    · rfl
  rw [commitAll_eq]
  dsimp only
  rw [hfade, (commitLayout_slotsAs _ s i).now, hresult]
  split_ifs <;> exact (commitBanks_slotsAs s i).now

/-- A slot commit that is due makes the shadow live and begins the commit's crossfade. -/
theorem commitAll_commits {s : State} {i : Nat} (hi : i < 512) (hdue : s.commitDue i = true) :
    (s.commitAll i).liveOf i = s.shadowOf i ∧ ((s.commitAll i).slot i).xfade = true ∧ ((s.commitAll i).slot i).xcommit = true ∧
      ((s.commitAll i).slot i).old = some (s.liveSet i) := by
  have hresult : s.resultDue i = false := by
    rw [State.commitDue, Bool.and_eq_true] at hdue
    rw [State.resultDue, hdue.1, Bool.not_true, Bool.and_false]
  have hfade : s.fadeDue i = true := by simp only [State.fadeDue, hdue, Bool.true_or]
  have heq : s.commitAll i = (((s.commitBanks i).commitShadow i).commitLayout s i).commitFade s i := by
    rw [commitAll_eq, hdue, hresult, hfade]
    rfl
  have hlive : ((s.commitBanks i).commitShadow i).liveOf i = (s.commitBanks i).shadowOf i := Tab.get_set_same _ _ _ _
  have hslot := slot_modSlot_same (((s.commitBanks i).commitShadow i).commitLayout s i) i
  rw [heq, State.commitFade, (iqOn_slotsAs _ 5 i).liveOf, (iqOn_slotsAs _ 5 i).slot, hslot]
  exact ⟨((commitLayout_slotsAs _ s i).liveOf i).trans (hlive.trans ((commitBanks_slotsAs s i).shadowOf hi)), rfl, hdue, rfl⟩

/-- With nothing due, a commit point changes no more than the canceller's record of the mode. -/
theorem commitAll_of_nothing {s : State} {i : Nat} (hpend : s.flag (SLP.SLOT_STAT.COMMIT_PEND i) = false) (hresult : (s.slot i).result = false)
    (hadapt : (s.cs i).adaptAt = none) (hwarm : (s.cs i).warmAt = none) (hzero : (s.cs i).zeroDue = false) (hresize : (s.cs i).resizeAt = none)
    (hpark : (s.cs i).parkDue = []) (hunpark : (s.cs i).unparkDue = []) (hswap : (s.cs i).swapDue = false)
    (hmode : (s.cs i).mode = s.get (SLP.CAN_CFG.MODE i)) :
    s.commitAll i = s.modCs i fun x => { x with mode := s.get (SLP.CAN_CFG.MODE i) } := by
  have hcommit : s.commitDue i = false := by rw [State.commitDue, hpend, Bool.false_and]
  have hres : s.resultDue i = false := by rw [State.resultDue, hresult, Bool.false_and]
  have hflip : s.flipDue i = false := by
    rw [State.flipDue, State.adaptDue, hadapt, hwarm, hzero, hcommit]
    rfl
  have hbanks : s.commitBanks i = s := by
    rw [State.commitBanks, hflip, hwarm]
    rfl
  have hparks : s.parkIsDue i = false := by
    rw [State.parkIsDue, hpark, hunpark]
    rfl
  have hfade : s.fadeDue i = false := by
    rw [State.fadeDue, hcommit, hres, hflip, hresize, hswap, hparks, hmode, bne_self_eq_false]
    rfl
  have hlayout : s.commitLayout s i = s.modCs i fun x => { x with mode := s.get (SLP.CAN_CFG.MODE i) } := by
    simp only [State.commitLayout, hresize, hswap, hparks, hadapt, State.aged, Bool.false_eq_true, if_false, Option.isSome_none, and_false]
  rw [commitAll_eq, hcommit, hres, hfade, hbanks]
  exact hlayout

/-- A commit point of a running slot, between its commit point's wait and what follows it. -/
theorem commitPoint_eq {s : State} {i : Nat} (hrun : s.running i = true) (hgated : s.clocksGated = false) (hfade : (s.slot i).xfade = false) :
    s.commitPoint i = ((((s.until (s.commitPointAt i s.now)).commitAll i).releaseClamps i).bandCheck i).syncHold i := by
  obtain ⟨hmem, hreset⟩ : i ∈ s.enabled ∧ (s.slot i).inReset = false := by simpa [State.running] using hrun
  obtain ⟨hactive, hprep, -⟩ := mem_enabled.mp hmem
  have hcommits : s.commits i = true := by
    simp only [State.commits, hreset, List.contains_iff_mem.mpr hactive, Bool.true_and, Bool.not_false, Bool.and_true, bne_iff_ne]
    exact fun h => absurd (h ▸ hprep) (by decide)
  have hend : (s.until (s.commitPointAt i s.now)).xfadeEnd i = s.until (s.commitPointAt i s.now) := if_pos (by
    rw [show (s.until (s.commitPointAt i s.now)).slot i = s.slot i from rfl, hfade]
    rfl)
  rw [State.commitPoint, hcommits, hgated, hend]
  exact if_pos hrun

theorem commitPoint_answers {s : State} {i : Fin 512} (hrun : s.running i = true) (hgated : s.clocksGated = false)
    (hfade : (s.slot i).xfade = false) :
    AnswersVia (.commitPoint i) s (fun u => (((u.releaseClamps i).bandCheck i).syncHold i).settle) fun u =>
      s.commitPointAt i s.now ≤ u.now ∧
      (s.flag (SLP.SLOT_STAT.COMMIT_PEND i) = true → (s.slot i).commitAt + us 10 ≤ max s.now (s.commitPointAt i s.now) →
        u.liveOf i = s.shadowOf i ∧ (u.slot i).xfade = true ∧ (u.slot i).xcommit = true ∧
        ∃ o, (u.slot i).old = some o ∧ o.live = s.liveOf i) ∧
      (s.flag (SLP.SLOT_STAT.COMMIT_PEND i) = false → (s.slot i).result = false → (s.cs i).adaptAt = none → (s.cs i).warmAt = none →
        (s.cs i).zeroDue = false → (s.cs i).resizeAt = none → (s.cs i).parkDue = [] → (s.cs i).unparkDue = [] → (s.cs i).swapDue = false →
        (s.cs i).mode = s.get (SLP.CAN_CFG.MODE i) → u.slot i = s.slot i ∧ u.liveOf i = s.liveOf i ∧ Keeps s u []) := by
  refine answersVia_of rfl (congrArg State.settle (commitPoint_eq hrun hgated hfade)) ⟨?_, fun hpend haged => ?_, ?_⟩
  · rw [commitAll_now]
    exact le_max_right _ _
  · have hdue : (s.until (s.commitPointAt i s.now)).commitDue i = true := Bool.and_eq_true_iff.mpr ⟨hpend, decide_eq_true haged⟩
    obtain ⟨hlive, hx, hc, hold⟩ := commitAll_commits i.isLt hdue
    exact ⟨hlive, hx, hc, _, hold, rfl⟩
  · intro hpend hresult hadapt hwarm hzero hresize hpark hunpark hswap hmode
    rw [commitAll_of_nothing (s := s.until (s.commitPointAt i s.now)) hpend hresult hadapt hwarm hzero hresize hpark hunpark hswap hmode]
    exact ⟨rfl, rfl, Keeps.of_reg rfl _⟩

/-! The end of a crossfade -/

/-- A slot whose crossfade has ended. -/
def Slot.crossed (x : Slot) : Slot := { x with xfade := false, xcommit := false, xfadeProf := false, old := none }

/-- The state in which a crossfade has ended, before COMMIT_DONE. -/
def State.xfadeOver (s : State) (i : Nat) : State :=
  let t := ((s.until (s.slot i).xEnd).modSlot i Slot.crossed).wrap (SLP.SLOT_CNT.COMMITS i)
  (if (s.slot i).xcommit then t.set (SLP.SLOT_STAT.COMMIT_PEND i) 0 else t).latStat i

theorem xfadeOver_cs (s : State) (i : Nat) : (s.xfadeOver i).cs i = s.cs i := by
  unfold State.xfadeOver
  dsimp only
  split_ifs <;> rfl

theorem xfadeDone_eq {s : State} {i : Nat} (hfade : (s.slot i).xfade = true) (hsize : (s.cs i).resized = false) :
    s.xfadeDone i = if (s.slot i).xcommit then (s.xfadeOver i).fire (0x40 + i / 8) SLP.src.COMMIT_DONE { slot := some i } else s.xfadeOver i := by
  have hover : (if (s.xfadeOver i |>.cs i).resized then (s.xfadeOver i).endResize i else s.xfadeOver i) = s.xfadeOver i :=
    if_neg (by rw [xfadeOver_cs, hsize]; decide)
  have hend : (s.until (s.slot i).xEnd).xfadeEnd i = if (s.slot i).xcommit then
      (if (s.xfadeOver i |>.cs i).resized then (s.xfadeOver i).endResize i else s.xfadeOver i).fire (0x40 + i / 8) SLP.src.COMMIT_DONE
        { slot := some i }
      else if (s.xfadeOver i |>.cs i).resized then (s.xfadeOver i).endResize i else s.xfadeOver i :=
    if_neg (by rw [show (s.until (s.slot i).xEnd).slot i = s.slot i from rfl, hfade]; decide)
  rw [State.xfadeDone, if_pos hfade, hend, hover]

theorem until_slot (s : State) (t i : Nat) : (s.until t).slot i = s.slot i := rfl
theorem latStat_slot (s : State) (i j : Nat) : (s.latStat i).slot j = s.slot j := by
  rw [State.latStat, slot_set, slot_set]

theorem xfadeOver_shows (s : State) (i : Nat) : (s.xfadeOver i).get (SLP.SLOT_CNT.COMMITS i) = (s.get (SLP.SLOT_CNT.COMMITS i) + 1) % 65536 ∧
    ((s.xfadeOver i).slot i).xfade = false ∧ ((s.xfadeOver i).slot i).old = none ∧ (s.slot i).xEnd ≤ (s.xfadeOver i).now ∧
    ((s.slot i).xcommit = true → (s.xfadeOver i).get (SLP.SLOT_STAT.COMMIT_PEND i) = 0) ∧
    (s.xfadeOver i).get (SLP.LAT_STAT.FIR_LIVE i) = (s.liveOf i).firLen % 512 := by
  have hlat (u : State) {g : Fld} (hg : g.key < 32 * (slotBase i + 0x34) ∨ 32 * (slotBase i + 0x35) ≤ g.key) : (u.latStat i).get g = u.get g := by
    rw [State.latStat, State.get_set_of_key_ne _ _ (by simp; omega), State.get_set_of_key_ne _ _ (by simp; omega)]
  have hfir (u : State) : (u.latStat i).get (SLP.LAT_STAT.FIR_LIVE i) = (u.liveOf i).firLen % 512 := by
    rw [State.latStat, State.get_set_of_key_ne _ _ (by simp), State.get_set_same, w_SLP_LAT_STAT_FIR_LIVE]
    rfl
  have hslot : (s.xfadeOver i).slot i = (s.slot i).crossed := by
    have hset (c : Prop) [Decidable c] (u : State) (f : Fld) : (if c then u.set f 0 else u).slot i = u.slot i := by split_ifs <;> rfl
    rw [State.xfadeOver, latStat_slot, hset, State.wrap, slot_set, slot_modSlot_same, until_slot]
  have hnow : (s.xfadeOver i).now = max s.now (s.slot i).xEnd := by
    unfold State.xfadeOver
    dsimp only
    split_ifs <;> rfl
  rw [hslot, hnow]
  refine ⟨?_, rfl, rfl, le_max_right _ _, fun hcommit => ?_, ?_⟩
  · rw [State.xfadeOver, hlat _ (by simp; omega)]
    split_ifs
    · rw [State.get_set_of_key_ne _ _ (by simp; omega), State.wrap, State.get_set_same, w_SLP_SLOT_CNT_COMMITS]
      rfl
    · rw [State.wrap, State.get_set_same, w_SLP_SLOT_CNT_COMMITS]
      rfl
  · rw [State.xfadeOver, hlat _ (by simp; omega), if_pos hcommit, State.get_set_same, Nat.zero_mod]
  · rw [State.xfadeOver, hfir]
    split_ifs <;> rfl

theorem crossfadeEnd_answers {s : State} {i : Fin 512} (hfade : (s.slot i).xfade = true) (hsize : (s.cs i).resized = false) :
    AnswersVia (.crossfadeEnd i) s (fun u => (if (s.slot i).xcommit then
        u.fire (0x40 + i / 8) SLP.src.COMMIT_DONE { slot := some i.val } else u).settle) fun u =>
      u.get (SLP.SLOT_CNT.COMMITS i) = (s.get (SLP.SLOT_CNT.COMMITS i) + 1) % 65536 ∧ (u.slot i).xfade = false ∧ (u.slot i).old = none ∧
      (s.slot i).xEnd ≤ u.now ∧
      ((s.slot i).xcommit = true → u.get (SLP.SLOT_STAT.COMMIT_PEND i) = 0) ∧
      u.get (SLP.LAT_STAT.FIR_LIVE i) = (s.liveOf i).firLen % 512 :=
  answersVia_of rfl (congrArg State.settle (xfadeDone_eq hfade hsize)) (xfadeOver_shows s i)

/-! Holds -/

theorem fadeOut_muteGain (s : State) (i t : Nat) : ((s.fadeOut i t).slot i).muteGain = (s.slot i).muteGain := by
  unfold State.fadeOut State.cut State.weigh State.fade
  split_ifs <;> simp only [slot_modSlot_same]

/-- A slot with output fades no later than from the given time's next sample on. -/
theorem fadeOut_downAt {s : State} {i : Nat} (t : Nat) (h : s.weightNow i ≠ 0) :
    ∃ d, ((s.fadeOut i t).slot i).downAt = some d ∧ d ≤ s.sampleAt i t := by
  rw [State.fadeOut, if_neg h, State.fade, slot_modSlot_same]
  refine ⟨_, rfl, ?_⟩
  split
  · exact min_le_right _ _
  · exact le_refl _

/-- A slot that is muted, with its gain at that moment. -/
def Slot.muted (g : Int) (x : Slot) : Slot := { x with resume := false, muteGain := some g }

/-- A hold other than that of the gate, on a slot in RAMP_UP or ON: the slot in HELD, before its output fades. -/
def State.heldFor (s : State) (b i : Nat) : State :=
  ((s.putBit (SLP.SLOT_STAT.HOLD i) b true).modSlot i (Slot.muted (sext 12 (s.get (SLP.GAIN_STAT.APPLIED i))))).set (SLP.SLOT_STAT.STATE i) stHeld

theorem hold_eq_of_sounds {s : State} {b i : Nat} (hb : b ≠ hGate)
    (h : s.get (SLP.SLOT_STAT.STATE i) = stRampUp ∨ s.get (SLP.SLOT_STAT.STATE i) = stOn) :
    s.hold b i = (s.heldFor b i).fadeOut i (if b = hPower then s.now + us 20 else s.now) := by
  have hgain : (s.putBit (SLP.SLOT_STAT.HOLD i) b true).get (SLP.GAIN_STAT.APPLIED i) = s.get (SLP.GAIN_STAT.APPLIED i) :=
    State.get_set_ne s _ (by simp; omega)
  rw [State.hold, State.holdAt, hgain]
  exact (if_pos h).trans (if_neg hb)

theorem heldFor_slot (s : State) (b i : Nat) :
    (s.heldFor b i).slot i = (s.slot i).muted (sext 12 (s.get (SLP.GAIN_STAT.APPLIED i))) :=
  slot_modSlot_same (s.putBit (SLP.SLOT_STAT.HOLD i) b true) i (Slot.muted (sext 12 (s.get (SLP.GAIN_STAT.APPLIED i))))

theorem heldFor_sampleT (s : State) (b i : Nat) : (s.heldFor b i).sampleT i = s.sampleT i := by
  have hrate : (s.heldFor b i).get (SLP.SLOT_CFG.RATE i) = s.get (SLP.SLOT_CFG.RATE i) :=
    (State.get_set_ne _ _ (by simp; omega)).trans (State.get_set_ne s _ (by simp; omega))
  rw [State.sampleT, State.sampleT, State.units, State.units, hrate]

theorem heldFor_weightNow (s : State) (b i : Nat) : (s.heldFor b i).weightNow i = s.weightNow i := by
  rw [State.weightNow, State.weightNow, heldFor_slot, heldFor_sampleT]
  rfl

theorem holdReasonArises_answers {s : State} {i : Fin 512} {b : Fin 8} (hmem : i.val ∈ s.enabled) (hb : b.val ≠ hGate)
    (harises : s.holdArises b i = true) :
    AnswersSettled (.holdReasonArises i b) s fun u => tbit (u.get (SLP.SLOT_STAT.HOLD i)) b = true ∧
      (s.get (SLP.SLOT_STAT.STATE i) = 3 ∨ s.get (SLP.SLOT_STAT.STATE i) = 4 →
        u.get (SLP.SLOT_STAT.STATE i) = 5 ∧ (u.slot i).muteGain = some (sext 12 (s.get (SLP.GAIN_STAT.APPLIED i))) ∧
        (s.weightNow i ≠ 0 → ∃ d, (u.slot i).downAt = some d ∧
          d ≤ s.sampleAt i (if b.val = hPower then s.now + us 20 else s.now))) ∧
      Keeps s u [(SLP.SLOT_STAT.HOLD i).key, (SLP.SLOT_STAT.STATE i).key] := by
  refine answersSettled_of rfl (if_pos ⟨List.contains_iff_mem.mpr hmem, hb, harises⟩)
    ⟨hold_stands hb b.isLt s i i (.inl rfl), fun hstate => ?_, fun g hg => ?_⟩
  · rw [hold_eq_of_sounds hb hstate, fadeOut_get, fadeOut_muteGain, heldFor_slot]
    refine ⟨State.get_set_same _ _ _, rfl, fun hweight => ?_⟩
    have hfade := fadeOut_downAt (if b.val = hPower then s.now + us 20 else s.now) ((heldFor_weightNow s b i).trans_ne hweight)
    rwa [State.sampleAt, heldFor_sampleT] at hfade
  · obtain ⟨hhold, hstate⟩ : g.key ≠ (SLP.SLOT_STAT.HOLD i).key ∧ g.key ≠ (SLP.SLOT_STAT.STATE i).key := by simpa using hg
    rw [hold_get hb s i hstate]
    exact State.get_set_ne s _ hhold

theorem holdCleared_answers {s : State} {i : Fin 512} {b : Fin 8} (hmem : i.val ∈ s.enabled)
    (hbit : tbit (s.get (SLP.SLOT_STAT.HOLD i)) b = true) (hcond : s.holdCond b i = false) :
    AnswersSettled (.holdCleared i b) s fun u => tbit (u.get (SLP.SLOT_STAT.HOLD i)) b = false ∧
      (u.get (SLP.SLOT_STAT.HOLD i) = 0 → s.get (SLP.SLOT_STAT.STATE i) = 5 → (u.slot i).resume = true) ∧
      Keeps s u [(SLP.SLOT_STAT.HOLD i).key] := by
  refine answersSettled_of rfl (if_pos ⟨List.contains_iff_mem.mpr hmem, hbit, by rw [hcond]; rfl⟩) ⟨?_, fun hlast hheld => ?_, fun g hg => ?_⟩
  · rw [unhold_get_eq, State.putBit_eq, State.get_set_same, w_SLP_SLOT_STAT_HOLD, tbit_mod b.isLt, tbit_putBit, if_pos rfl]
  · rw [unhold_get_eq] at hlast
    have hstate : (s.putBit (SLP.SLOT_STAT.HOLD i) b false).get (SLP.SLOT_STAT.STATE i) = stHeld :=
      (State.get_set_ne s _ (by simp)).trans hheld
    rw [State.unhold, if_pos ⟨hlast, hstate⟩, slot_modSlot_same]
  · rw [unhold_get_eq]
    exact State.get_set_ne s _ (by simpa using hg)

/-! The channel FIR window -/

theorem firNext_TAP (s : State) (n : Nat) : (s.firNext n).get (FWD.FIR_SEL.TAP n) = (s.get (FWD.FIR_SEL.TAP n) + 1) % 256 :=
  State.get_set_same s (FWD.FIR_SEL.TAP n) _

theorem firWrite_of_own {s : State} {n : Nat} (m : Nat) (v : Word) (hsrc : s.flag (SLP.FIR_CTL.SRC (s.firSlot n)) = true)
    (hopen : s.flag (SLP.SLOT_STAT.COMMIT_PEND (s.firSlot n)) = false) :
    s.firWrite n m v = { s.firNext n with fir := Tab.set 0 s.fir (256 * s.firSlot n + s.get (FWD.FIR_SEL.TAP n)) v.toNat } := by
  rw [State.firWrite, State.shadowLocked, hsrc, hopen]
  rfl

theorem firWrite_of_synthesised {s : State} {n : Nat} (m : Nat) (v : Word) (hsrc : s.flag (SLP.FIR_CTL.SRC (s.firSlot n)) = false) :
    s.firWrite n m v = (s.firNext n).fwdNote (s.firSlot n) FWD.src.FIR_SRC m := by
  rw [State.firWrite, hsrc]
  rfl

theorem firDataWrite_answers {s : State} {m : Master} {n : Fin 8} {v : Word} (htake : s.takes m (0x18048 + 0x1000 * n.val) v) :
    (s.flag (SLP.FIR_CTL.SRC (s.firSlot n)) = true → s.flag (SLP.SLOT_STAT.COMMIT_PEND (s.firSlot n)) = false →
      AnswersSettled (.firDataAccess m n true v) s fun u =>
        (∀ k, Tab.get 0 u.fir k = if k = 256 * s.firSlot n + s.get (FWD.FIR_SEL.TAP n) then v.toNat else Tab.get 0 s.fir k) ∧
        u.get (FWD.FIR_SEL.TAP n) = (s.get (FWD.FIR_SEL.TAP n) + 1) % 256 ∧ Keeps s u [(FWD.FIR_SEL.TAP n).key]) ∧
    (s.flag (SLP.FIR_CTL.SRC (s.firSlot n)) = false →
      AnswersVia (.firDataAccess m n true v) s (fun u => (u.fwdNote (s.firSlot n) FWD.src.FIR_SRC m.num).settle) fun u =>
        u.fir = s.fir ∧ u.get (FWD.FIR_SEL.TAP n) = (s.get (FWD.FIR_SEL.TAP n) + 1) % 256) := by
  have hpage : pageOf (0x18048 + 0x1000 * n.val) ≠ 4 := by rw [pageOf]; omega
  have hwrite : s.firDataWrite m n v = (s.outcome m 0).firWrite n m.num v := guarded_of_takes (fun t => t.firWrite n m.num v) htake hpage
  refine ⟨fun hsrc hopen => answersSettled_of rfl (hwrite.trans (firWrite_of_own m.num v hsrc hopen)) ⟨fun k => ?_, ?_, ?_⟩, fun hsrc =>
    answersVia_of rfl (congrArg State.settle (hwrite.trans (firWrite_of_synthesised m.num v hsrc))) ⟨rfl, firNext_TAP _ n⟩⟩
  · exact Tab.get_set _ _ _ _ _
  · exact firNext_TAP (s.outcome m 0) n
  · exact ((Keeps.of_reg (State.outcome_reg s m 0) _).set _ (by simp) : Keeps s ((s.outcome m 0).firNext n) _).reg_eq rfl

theorem firDataRead_answers {s : State} {m : Master} {n : Fin 8} (v : Word) (hreach : s.reaches m) (hon : s.pageOff (0x18 + n.val) = false) :
    AnswersSettled (.firDataAccess m n false v) s fun u =>
      u.out = [BitVec.ofNat 32 (Tab.get 0 s.fir (256 * s.firSlot n + s.get (FWD.FIR_SEL.TAP n)))] ∧ u.fir = s.fir ∧
      u.get (FWD.FIR_SEL.TAP n) = if s.readsWithEffect m (0x18 + n.val) then (s.get (FWD.FIR_SEL.TAP n) + 1) % 256
        else s.get (FWD.FIR_SEL.TAP n) := by
  have hpage : pageOf (0x18048 + 0x1000 * n.val) = 0x18 + n.val := by rw [pageOf]; omega
  refine answersSettled_of rfl (ask_readBy_on (fun t => t.firRead n) (fun t => t.firNext n) hreach
    (by rw [hpage]; omega) (by rw [hpage]; exact hon)) ?_
  rw [hpage]
  cases s.readsWithEffect m (0x18 + n.val) with
  | true => exact ⟨rfl, rfl, firNext_TAP s.ask n⟩
  | false => exact ⟨rfl, rfl, rfl⟩

/-- Settles O27: what is due at a commit point takes effect beside the slots but for the live copy and the crossfade, a hold shows in HOLD
and STATE and lets the output fade, and the FIR window steps its index with each access. -/
theorem slotCommitsAndHolds : Obligations.SlotCommitsAndHolds :=
  ⟨fun _ _ hrun hgated hfade => commitPoint_answers hrun hgated hfade, fun _ _ hfade hsize => crossfadeEnd_answers hfade hsize,
    fun _ _ _ hmem hb harises => holdReasonArises_answers hmem hb harises, fun _ _ _ hmem hbit hcond => holdCleared_answers hmem hbit hcond,
    fun _ _ _ _ htake => firDataWrite_answers htake, fun _ _ _ v hreach hon => firDataRead_answers v hreach hon⟩

end Sys2Proof.Machine
end

section
/-! SUPPORT. Enable, commit and disable requests of a slot (R156, R166, R167, R169, R174, R175). -/
namespace Sys2Proof.Machine
open Sys2Proof

/-! SLOT_CTL -/

theorem pageOf_slotBase {i : Nat} (hi : i < 512) : pageOf (slotBase i) ≠ 4 := by
  rw [pageOf, slotBase]
  omega

/-- A write of SLOT_CTL that the fabric takes, while no earlier request's checks are over. -/
theorem slotCtlWrite_of_takes {s : State} {m : Master} {i : Nat} {v : Word} (hi : i < 512) (htake : s.takes m (slotBase i) v)
    (hover : s.checksOver = []) :
    s.slotCtlWrite m i v =
      let t := s.outcome m 0
      let st := t.get (SLP.SLOT_STAT.STATE i)
      if v.getLsbD 0 ∧ st = stOff then t.enableSlot m.num i
      else
        let t := if v.getLsbD 0 ∧ stRampDown ≤ st then t.refuseEnable m.num i 0xC (0, 0) else t
        let t := if v.getLsbD 8 ∧ st ≠ stOff then t.commitRequest m.num i else t
        if v.getLsbD 0 then t else t.disableSlot i := by
  have hdue : (s.outcome m 0).checksDue = s.outcome m 0 := by
    rw [State.checksDue, show (s.outcome m 0).checksOver = s.checksOver from rfl, hover]
    rfl
  rw [State.slotCtlWrite, guarded_of_takes (fun t => t.slotCtl m.num i v) htake (pageOf_slotBase hi), State.slotCtl, hdue]

/-! Enable -/

/-- A slot with a request in its checks. -/
def State.requested (s : State) (m i : Nat) : Slot :=
  { acceptAt := s.now, checkRes := s.enableResult i, checkBy := m, checkRegl := (s.reglCause i).getD (0, 0)
    reserve := if s.enableResult i = 1 then 0 else poolNeed (s.extCfg i) (s.flag (SLP.CAN_CFG.ALT i)) }

/-- What a request that will pass takes of the pool. -/
def State.allocated (s : State) (i : Nat) : State :=
  let t := (s.set (SLP.SLOT_CTL.EN i) 1).set (SLP.SLOT_STAT.STATE i) stCheck
  if s.enableResult i = 1 then t.allocate i else t

/-- The slots with a request of slot `i` in their checks. -/
def State.checking (s : State) (m i : Nat) : State :=
  { s.allocated i with active := NSet.add s.active i, slots := Tab.set {} s.slots i (s.requested m i) }

theorem allocated_slotsAs (s : State) (i : Nat) :
    ((s.set (SLP.SLOT_CTL.EN i) 1).set (SLP.SLOT_STAT.STATE i) stCheck).SlotsAs (s.allocated i) :=
  .ite (fun _ => modCs_slotsAs _ i _) fun _ => .refl _

theorem enableSlot_eq (s : State) (m i : Nat) : s.enableSlot m i = (s.checking m i).syncSums := by
  rw [State.checking, show s.active = (s.allocated i).active from (allocated_slotsAs s i).active.symm,
    show s.slots = (s.allocated i).slots from (allocated_slotsAs s i).slots.symm]
  rfl

theorem slotEnable_answers {s : State} {m : Master} {i : Fin 512} {v : Word} (htake : s.takes m (slotBase i) v) (hen : v.getLsbD 0 = true)
    (hover : s.checksOver = []) (hoff : s.get (SLP.SLOT_STAT.STATE i) = 0) :
    AnswersSettled (.slotEnable m i v) s fun u =>
      u.get (SLP.SLOT_CTL.EN i) = 1 ∧ u.get (SLP.SLOT_STAT.STATE i) = 1 ∧ i.val ∈ u.active ∧ u.live = s.live ∧
      (u.slot i).acceptAt = s.now ∧ (u.slot i).checkRes = s.enableResult i ∧ (u.slot i).checkBy = m.num ∧
      (u.slot i).offInCheck = false ∧ ∀ j, j ≠ i.val → u.slot j = s.slot j := by
  have hwrite : s.slotCtlWrite m i v = (s.outcome m 0).enableSlot m.num i :=
    (slotCtlWrite_of_takes i.isLt htake hover).trans (if_pos ⟨hen, hoff⟩)
  refine answersSettled_of rfl (hwrite.trans (enableSlot_eq _ _ _)) ?_
  have hsums := syncSums_slotsAs ((s.outcome m 0).checking m.num i)
  have halloc := allocated_slotsAs (s.outcome m 0) i
  have hget (g : Fld) (hg : g.ofSlot i) := (hsums.get g (hg.inSlots i.isLt)).trans (halloc.get g (hg.inSlots i.isLt))
  have hown : ((s.outcome m 0).checking m.num i).slot i = (s.outcome m 0).requested m.num i := Tab.get_set_same _ _ _ _
  rw [hget _ (ofSlot_EN i), hget _ (ofSlot_STATE i), hsums.active, hsums.live, hsums.slot i, hown]
  refine ⟨?_, State.get_set_same _ _ _, NSet.mem_add.mpr (.inl rfl), halloc.live, rfl, rfl, rfl, rfl, fun j hj =>
    (hsums.slot j).trans (Tab.get_set_ne _ _ _ _ hj)⟩
  rw [State.get_set_of_key_ne _ _ (by simp; omega), State.get_set_same]
  rfl

/-! The end of the checks -/

/-- Slot `i` of `u` as checks that passed in `s` leave it. -/
structure State.EnabledAs (s u : State) (i : Nat) : Prop where
  result : u.get (SLP.SLOT_STAT.RESULT i) = 1
  state : u.get (SLP.SLOT_STAT.STATE i) = 2
  history : u.get (SLP.SLOT_STAT.HIST_VALID i) = 0
  commits : u.get (SLP.SLOT_CNT.COMMITS i) = 0
  live : u.liveOf i = s.shadowOf i
  active : u.active = s.active
  now : u.now = s.now

theorem State.EnabledAs.of_slots {s u v : State} {i : Nat} (hi : i < 512) (h : s.EnabledAs u i) (hv : u.SlotsAs v) : s.EnabledAs v i where
  result := (hv.get _ ((ofSlot_RESULT i).inSlots hi)).trans h.result
  state := (hv.get _ ((ofSlot_STATE i).inSlots hi)).trans h.state
  history := (hv.get _ ((ofSlot_HIST_VALID i).inSlots hi)).trans h.history
  commits := (hv.get _ ((ofSlot_COMMITS i).inSlots hi)).trans h.commits
  live := (hv.liveOf i).trans h.live
  active := hv.active.trans h.active
  now := hv.now.trans h.now

/-- The descriptor checked is live, and its slot in PREP. -/
def State.prepared (s : State) (i : Nat) : State :=
  let s : State := { s with live := Tab.set {} s.live i (s.shadowOf i) }
  ((s.set (SLP.SLOT_STAT.RESULT i) 1).set (SLP.SLOT_STAT.STATE i) stPrep).put (SLP.SLOT_STAT.DIR i) (s.uplink i)

/-- The channel FIR of an enabled slot, its latency and its estimator start. -/
def State.firStarted (s : State) (i : Nat) : State :=
  let n := s.get (SLP.FIR_CTL.LEN i)
  let s := if s.flag (SLP.FIR_CTL.SRC i) then s.firToLive i else (s.build i n (Config.lowPass n)).modGv i fun g => { g with synthDue := true }
  (s.latStat i).obsReset i

/-- The counts and the history of an enabled slot start anew. -/
def State.countsCleared (s : State) (i : Nat) : State :=
  [SLP.SLOT_CNT.COMMITS i, SLP.SLOT_CNT.INVALID i, SLP.SLOT_STAT.HIST_VALID i, CAN.SLOT_INFO.WARM i, CAN.SLOT_INFO.WARM_PEND i,
    CAN.SLOT_INFO.DIVERGED i, CAN.SLOT_INFO.ALT_ACTIVE i, CAN.SLOT_INFO.DEPTH i].foldl (fun s f => s.set f 0) s

/-- Each HOLD reason of an enabled slot is shown. -/
def State.holdsShown (s : State) (i : Nat) : State :=
  (List.range 6).foldl (fun s b => s.putBit (SLP.SLOT_STAT.HOLD i) b (s.holdCond b i)) s

/-- A slot that a warm set waits for starts warm. -/
def State.warmQueued (s : State) (i : Nat) : State :=
  match s.warmEntry i with
  | some e => (({ s with can := { s.can with warmQ := s.can.warmQ ++ [i] } } : State).modCs i fun x => { x with warm := some e }).warmHead
  | none => s

/-- An enabled slot, before the band comparator's check. -/
def State.enabledSlot (s : State) (i : Nat) : State :=
  ((((((s.prepared i).firStarted i).countsCleared i).holdsShown i).raiseChannels i).coldStart i |>.warmQueued i).syncSums

theorem acceptEnable_eq (s : State) (i : Nat) : s.acceptEnable i =
    let v := ((s.enabledSlot i).bandCheck i).exportBegin i
    if (List.range 4).any (v.aggIdle i) then v.canNote i CAN.src.REACH_IDLE 7 else v := rfl

theorem firStarted_slotsAs (s : State) (i : Nat) : ∃ u : State, s.SlotsAs u ∧ (u.latStat i).SlotsAs (s.firStarted i) := by
  have hfir : s.SlotsAs (if s.flag (SLP.FIR_CTL.SRC i) then s.firToLive i
      else (s.build i (s.get (SLP.FIR_CTL.LEN i)) (Config.lowPass (s.get (SLP.FIR_CTL.LEN i)))).modGv i fun g => { g with synthDue := true }) :=
    .ite (fun _ => .of_reg rfl rfl rfl rfl rfl) fun _ => .of_reg rfl rfl rfl rfl rfl
  exact ⟨_, hfir, obsReset_slotsAs _ i⟩

theorem latStat_get (s : State) (i : Nat) {g : Fld} (hg : ¬g.key / 32 = slotBase i + 0x34) : (s.latStat i).get g = s.get g := by
  rw [State.latStat, State.get_set_of_key_ne _ _ (by simp; omega), State.get_set_of_key_ne _ _ (by simp; omega)]

theorem firStarted_get (s : State) (i : Nat) {g : Fld} (hg : g.inSlots) (hlat : ¬g.key / 32 = slotBase i + 0x34) :
    (s.firStarted i).get g = s.get g := by
  obtain ⟨u, hu, hstart⟩ := firStarted_slotsAs s i
  rw [hstart.get g hg, latStat_get u i hlat, hu.get g hg]

theorem countsCleared_get (s : State) (i : Nat) {g : Fld} (hg : g.inSlots) (hcnt : ¬g.key / 32 = slotBase i + 0x38)
    (hhist : ¬g.key = (SLP.SLOT_STAT.HIST_VALID i).key) : (s.countsCleared i).get g = s.get g := by
  obtain ⟨hlo, hhi⟩ := hg
  rw [key_SLP_SLOT_STAT_HIST_VALID] at hhist
  refine foldl_keeps_mem (fun u : State => u.get g) _ _ (fun u f hf => State.get_set_ne u 0 ?_) s
  simp only [List.mem_cons, List.not_mem_nil, or_false] at hf
  rcases hf with rfl | rfl | rfl | rfl | rfl | rfl | rfl | rfl <;> simp <;> omega

theorem countsCleared_COMMITS (s : State) {i : Nat} (hi : i < 512) : (s.countsCleared i).get (SLP.SLOT_CNT.COMMITS i) = 0 := by
  have hbase : slotBase i < 0x80000 := by rw [slotBase]; omega
  simp only [State.countsCleared, List.foldl_cons, List.foldl_nil]
  iterate 7 rw [State.get_set_of_key_ne _ _ (by simp <;> omega)]
  rw [State.get_set_same, Nat.zero_mod]

theorem countsCleared_HIST_VALID (s : State) {i : Nat} (hi : i < 512) : (s.countsCleared i).get (SLP.SLOT_STAT.HIST_VALID i) = 0 := by
  have hbase : slotBase i < 0x80000 := by rw [slotBase]; omega
  simp only [State.countsCleared, List.foldl_cons, List.foldl_nil]
  iterate 5 rw [State.get_set_of_key_ne _ _ (by simp; omega)]
  rw [State.get_set_same, Nat.zero_mod]

theorem holdsShown_get (s : State) (i : Nat) {g : Fld} (hg : ¬g.key = (SLP.SLOT_STAT.HOLD i).key) : (s.holdsShown i).get g = s.get g :=
  foldl_keeps (fun u : State => u.get g) _ (fun u _ => State.get_set_ne u _ hg) _ _

theorem raiseChannels_get (s : State) (i : Nat) (g : Fld) : (s.raiseChannels i).get g = s.get g := by
  unfold State.raiseChannels
  dsimp only
  split_ifs <;> rfl

/-- The live copies, the counting slots and the time. -/
def State.livePart (s : State) : Tab Live × List Nat × Nat := (s.live, s.active, s.now)

theorem State.SlotsAs.livePart {s t : State} (h : s.SlotsAs t) : t.livePart = s.livePart := by
  rw [State.livePart, State.livePart, h.live, h.active, h.now]

theorem set_livePart (s : State) (f : Fld) (v : Nat) : (s.set f v).livePart = s.livePart := rfl

theorem firStarted_livePart (s : State) (i : Nat) : (s.firStarted i).livePart = s.livePart := by
  obtain ⟨u, hu, hstart⟩ := firStarted_slotsAs s i
  rw [hstart.livePart, State.latStat, set_livePart, set_livePart, hu.livePart]

theorem countsCleared_livePart (s : State) (i : Nat) : (s.countsCleared i).livePart = s.livePart :=
  foldl_keeps State.livePart _ (fun u f => set_livePart u f 0) _ s

theorem holdsShown_livePart (s : State) (i : Nat) : (s.holdsShown i).livePart = s.livePart :=
  foldl_keeps State.livePart _ (fun u _ => set_livePart u _ _) _ s

theorem raiseChannels_livePart (s : State) (i : Nat) : (s.raiseChannels i).livePart = s.livePart := by
  unfold State.raiseChannels
  dsimp only
  split_ifs <;> rfl

theorem warmQueued_slotsAs (s : State) (i : Nat) : s.SlotsAs (s.warmQueued i) := by
  unfold State.warmQueued
  split
  · exact (((State.SlotsAs.refl s).setCan _).trans (modCs_slotsAs _ i _)).trans (warmHead_slotsAs _)
  · exact .refl s

/-- A slot as the checks that passed leave it, before its channels are raised. -/
theorem holdsShown_enabledAs (s : State) {i : Nat} (hi : i < 512) :
    s.EnabledAs ((((s.prepared i).firStarted i).countsCleared i).holdsShown i) i := by
  have hslot (g : Fld) (hg : g.ofSlot i) (hhold : ¬g.key = (SLP.SLOT_STAT.HOLD i).key) (hhist : ¬g.key = (SLP.SLOT_STAT.HIST_VALID i).key)
      (hcnt : ¬g.key / 32 = slotBase i + 0x38) (hlat : ¬g.key / 32 = slotBase i + 0x34) :
      ((((s.prepared i).firStarted i).countsCleared i).holdsShown i).get g = (s.prepared i).get g := by
    rw [holdsShown_get _ i hhold, countsCleared_get _ i (hg.inSlots hi) hcnt hhist, firStarted_get _ i (hg.inSlots hi) hlat]
  have hlive : ((((s.prepared i).firStarted i).countsCleared i).holdsShown i).livePart = (s.prepared i).livePart := by
    rw [holdsShown_livePart, countsCleared_livePart, firStarted_livePart]
  simp only [State.livePart, Prod.mk.injEq] at hlive
  obtain ⟨hcopies, hactive, hnow⟩ := hlive
  refine ⟨?_, ?_, ?_, ?_, ?_, hactive, hnow⟩
  · rw [hslot _ (ofSlot_RESULT i) (by simp) (by simp) (by simp; omega) (by simp; omega), State.prepared, State.put,
      State.get_set_of_key_ne _ _ (by simp), State.get_set_of_key_ne _ _ (by simp), State.get_set_same]
    rfl
  · rw [hslot _ (ofSlot_STATE i) (by simp) (by simp) (by simp; omega) (by simp; omega), State.prepared, State.put,
      State.get_set_of_key_ne _ _ (by simp), State.get_set_same]
    rfl
  · rw [holdsShown_get _ i (by simp), countsCleared_HIST_VALID _ hi]
  · rw [holdsShown_get _ i (by simp; omega), countsCleared_COMMITS _ hi]
  · rw [State.liveOf, hcopies]
    exact Tab.get_set_same _ _ _ _

theorem raiseChannels_enabledAs {s u : State} {i : Nat} (h : s.EnabledAs u i) : s.EnabledAs (u.raiseChannels i) i := by
  obtain ⟨hlive, hactive, hnow⟩ := by simpa only [State.livePart, Prod.mk.injEq] using raiseChannels_livePart u i
  refine ⟨?_, ?_, ?_, ?_, ?_, hactive.trans h.active, hnow.trans h.now⟩
  · rw [raiseChannels_get, h.result]
  · rw [raiseChannels_get, h.state]
  · rw [raiseChannels_get, h.history]
  · rw [raiseChannels_get, h.commits]
  · rw [State.liveOf, hlive]
    exact h.live

theorem enabledSlot_enabledAs (s : State) {i : Nat} (hi : i < 512) : s.EnabledAs (s.enabledSlot i) i :=
  (raiseChannels_enabledAs (holdsShown_enabledAs s hi)).of_slots hi
    (((coldStart_slotsAs _ i).trans (warmQueued_slotsAs _ i)).trans (syncSums_slotsAs _))

theorem syncSums_get_of_le (s : State) {g : Fld} (hg : 32 * 0x40000 ≤ g.key) : s.syncSums.get g = s.get g := by
  unfold State.syncSums
  dsimp only
  rw [foldl_keeps_mem (fun u : State => u.get g) _ _ fun u n hn => ?_]
  · rw [State.get_set_of_key_ne _ _ (by simp; omega), State.get_set_of_key_ne _ _ (by simp; omega), State.get_set_of_key_ne _ _ (by simp; omega)]
  · rw [List.mem_range] at hn
    rw [State.get_set_of_key_ne _ _ (by simp; omega), State.get_set_of_key_ne _ _ (by simp; omega)]

theorem warmHead_get (s : State) {g : Fld} (hg : ∀ j, ¬g.key = (CAN.SLOT_INFO.WARM_PEND j).key) : s.warmHead.get g = s.get g := by
  unfold State.warmHead
  split
  · rfl
  · exact State.get_set_ne s 1 (hg _)

theorem warmQueued_COLD (s : State) (i : Nat) : (s.warmQueued i).get (GOV.SLOT_GOV.COLD i) = s.get (GOV.SLOT_GOV.COLD i) := by
  unfold State.warmQueued
  split
  · exact warmHead_get _ fun j => by simp; omega
  · rfl

theorem setCap_COLD (s : State) (i : Nat) (c : Int) : (s.setCap i c).get (GOV.SLOT_GOV.COLD i) = 1 := by
  rw [State.setCap, State.get_set_of_key_ne _ _ (by simp), State.get_set_same]
  rfl

theorem setCan_get (s : State) (c : Can) (g : Fld) : ({ s with can := c } : State).get g = s.get g := rfl

theorem coldStart_COLD (s : State) (i : Nat) : (s.coldStart i).get (GOV.SLOT_GOV.COLD i) = 1 := by
  unfold State.coldStart
  rw [setCan_get, State.get_set_of_key_ne _ _ (by simp), State.get_set_of_key_ne _ _ (by simp), State.modGv_get, setCap_COLD]

/-- An enabled slot starts cold. -/
theorem enabledSlot_COLD (s : State) (i : Nat) : (s.enabledSlot i).get (GOV.SLOT_GOV.COLD i) = 1 := by
  rw [State.enabledSlot, syncSums_get_of_le _ (by simp; omega), warmQueued_COLD, coldStart_COLD]

theorem checkEnd_of_passed {s : State} {i : Nat} (hstate : s.get (SLP.SLOT_STAT.STATE i) = 1) (hpass : (s.slot i).checkRes = 1)
    (hon : (s.slot i).offInCheck = false) : s.checkEnd i = (s.until ((s.slot i).acceptAt + us 20)).acceptEnable i := by
  rw [State.checkEnd, if_neg (not_not.mpr hstate)]
  exact (if_pos hpass).trans (if_neg (by rw [hon]; decide))

theorem checksPassed_answers {s : State} {i : Fin 512} (hstate : s.get (SLP.SLOT_STAT.STATE i) = 1) (hpass : (s.slot i).checkRes = 1)
    (hon : (s.slot i).offInCheck = false) :
    AnswersVia (.slotHistoryFilled i) s (fun u =>
        let v := (u.bandCheck i).exportBegin i
        ((if (List.range 4).any (v.aggIdle i) then v.canNote i CAN.src.REACH_IDLE 7 else v).historyFilled i).settle) fun u =>
      u.get (SLP.SLOT_STAT.RESULT i) = 1 ∧ u.get (SLP.SLOT_STAT.STATE i) = 2 ∧ u.get (SLP.SLOT_STAT.HIST_VALID i) = 0 ∧
      u.get (SLP.SLOT_CNT.COMMITS i) = 0 ∧ u.get (GOV.SLOT_GOV.COLD i) = 1 ∧ (s.slot i).acceptAt + us 20 ≤ u.now ∧
      u.active = s.active ∧ u.liveOf i = s.shadowOf i := by
  have h := enabledSlot_enabledAs (s.until ((s.slot i).acceptAt + us 20)) i.isLt
  have heq : (s.checkEnd i).historyFilled i = _ :=
    congrArg (State.historyFilled · i) ((checkEnd_of_passed hstate hpass hon).trans (acceptEnable_eq _ _))
  exact answersVia_of rfl (congrArg State.settle heq) ⟨h.result, h.state, h.history, h.commits, enabledSlot_COLD _ i,
    h.now ▸ le_max_right _ _, h.active, h.live⟩

/-! Refused enables -/

theorem NSet.not_mem_rem (l : List Nat) (k : Nat) : k ∉ NSet.rem l k := by simp [NSet.rem]

/-- A slot no longer counts, and nothing of its running state stays. -/
def State.dropSlot (s : State) (i : Nat) : State := { s with active := NSet.rem s.active i, slots := Tab.set {} s.slots i {} }

theorem dropSlot_get (s : State) (i : Nat) (g : Fld) : (s.dropSlot i).get g = s.get g := rfl
theorem dropSlot_slot (s : State) (i : Nat) : (s.dropSlot i).slot i = {} := Tab.get_set_same ({} : Slot) s.slots i {}
theorem dropSlot_active (s : State) (i : Nat) : i ∉ (s.dropSlot i).active := NSet.not_mem_rem s.active i

/-- A slot whose checks failed reads OFF. -/
def State.readsOff (s : State) (i : Nat) : State := (s.set (SLP.SLOT_STAT.STATE i) stOff).set (SLP.SLOT_STAT.COMMIT_PEND i) 0

/-- The slots without one whose checks failed. -/
def State.unchecked (s : State) (i : Nat) : State := (((s.readsOff i).dropSlot i).modCs i fun c => { sgen := c.sgen }).syncSums

theorem unchecked_shows (s : State) {i : Nat} (hi : i < 512) : (s.unchecked i).get (SLP.SLOT_STAT.STATE i) = 0 ∧ i ∉ (s.unchecked i).active ∧
    (s.unchecked i).slot i = {} ∧ (s.unchecked i).now = s.now := by
  have h : ((s.readsOff i).dropSlot i).SlotsAs (s.unchecked i) := (modCs_slotsAs _ i _).trans (syncSums_slotsAs _)
  rw [h.get _ ((ofSlot_STATE i).inSlots hi), h.active, h.slot, h.now, dropSlot_get, dropSlot_slot, State.readsOff,
    State.get_set_of_key_ne _ _ (by simp), State.get_set_same]
  exact ⟨rfl, dropSlot_active _ i, rfl, rfl⟩

/-- RESULT and EN of an enable that is refused. -/
def State.enableRefused (s : State) (i c : Nat) : State := (s.set (SLP.SLOT_STAT.RESULT i) c).set (SLP.SLOT_CTL.EN i) 0

theorem enableRefused_shows (s : State) (i : Nat) {c : Nat} (hc : c < 16) : (s.enableRefused i c).get (SLP.SLOT_STAT.RESULT i) = c ∧
    (s.enableRefused i c).get (SLP.SLOT_CTL.EN i) = 0 ∧
    (s.enableRefused i c).get (SLP.SLOT_STAT.STATE i) = s.get (SLP.SLOT_STAT.STATE i) := by
  refine ⟨?_, ?_, ?_⟩
  · rw [State.enableRefused, State.get_set_of_key_ne _ _ (by simp; omega), State.get_set_same]
    exact Nat.mod_eq_of_lt hc
  · rw [State.enableRefused, State.get_set_same, Nat.zero_mod]
  · rw [State.enableRefused, State.get_set_of_key_ne _ _ (by simp; omega), State.get_set_of_key_ne _ _ (by simp)]

theorem enableRefused_rest (s : State) (i c : Nat) :
    (s.enableRefused i c).active = s.active ∧ (s.enableRefused i c).slot i = s.slot i ∧ (s.enableRefused i c).now = s.now := ⟨rfl, rfl, rfl⟩

theorem checkEnd_of_failed {s : State} {i : Nat} (hstate : s.get (SLP.SLOT_STAT.STATE i) = 1) (hfail : (s.slot i).checkRes ≠ 1) :
    s.checkEnd i = (let x := s.slot i
      let u := ((s.until (x.acceptAt + us 20)).unchecked i).enableRefused i x.checkRes
      (if x.checkRes = 4 then u.reglRefuse i 0 x.checkRegl.1 x.checkRegl.2 else u).fwdNote i FWD.src.ENABLE_REFUSED x.checkBy) := by
  have hgone : s.checkEnd i = ((s.until ((s.slot i).acceptAt + us 20)).unchecked i).refuseEnable (s.slot i).checkBy i (s.slot i).checkRes
      (s.slot i).checkRegl := by
    unfold State.checkEnd
    rw [if_neg (not_not.mpr hstate)]
    dsimp only
    rw [if_neg hfail]
    rfl
  rw [hgone]
  rfl

theorem checksFailed_answers {s : State} {i : Fin 512} (hstate : s.get (SLP.SLOT_STAT.STATE i) = 1) (hfail : (s.slot i).checkRes ≠ 1)
    (hcode : (s.slot i).checkRes < 16) :
    AnswersVia (.slotHistoryFilled i) s (fun u =>
        let x := s.slot i
        (((if x.checkRes = 4 then u.reglRefuse i 0 x.checkRegl.1 x.checkRegl.2 else u).fwdNote i FWD.src.ENABLE_REFUSED x.checkBy).historyFilled
          i).settle) fun u =>
      u.get (SLP.SLOT_STAT.RESULT i) = (s.slot i).checkRes ∧ u.get (SLP.SLOT_CTL.EN i) = 0 ∧ u.get (SLP.SLOT_STAT.STATE i) = 0 ∧
      (s.slot i).acceptAt + us 20 ≤ u.now ∧ i.val ∉ u.active ∧ u.slot i = {} := by
  have heq := congrArg (fun u : State => (u.historyFilled i).settle) (checkEnd_of_failed hstate hfail)
  obtain ⟨hoff, hgone, hslot, hnow⟩ := unchecked_shows (s.until ((s.slot i).acceptAt + us 20)) i.isLt
  obtain ⟨hresult, hen, hkept⟩ := enableRefused_shows ((s.until ((s.slot i).acceptAt + us 20)).unchecked i) i hcode
  obtain ⟨hactive, hslots, htime⟩ := enableRefused_rest ((s.until ((s.slot i).acceptAt + us 20)).unchecked i) i (s.slot i).checkRes
  refine answersVia_of (u := ((s.until ((s.slot i).acceptAt + us 20)).unchecked i).enableRefused i (s.slot i).checkRes) rfl heq
    ⟨hresult, hen, hkept.trans hoff, ?_, ?_, hslots.trans hslot⟩
  · rw [htime, hnow]
    exact le_max_right _ _
  · rw [hactive]
    exact hgone

/-! Commit requests -/

/-- A slot whose commit was accepted at an instant. -/
def Slot.commitsFrom (t : Nat) (x : Slot) : Slot := { x with commitAt := t }

/-- A commit that is accepted, from this moment on pending. -/
def State.commitPends (s : State) (i : Nat) : State := (s.modSlot i (Slot.commitsFrom s.now)).set (SLP.SLOT_STAT.COMMIT_PEND i) 1

theorem commitPends_slot (s : State) (i : Nat) : (s.commitPends i).slot i = (s.slot i).commitsFrom s.now := by
  rw [State.commitPends, slot_set, slot_modSlot_same]

theorem commitRequest_of_accepted {s : State} {i : Nat} (m : Nat) (h : s.commitRefusal i = 0) : s.commitRequest m i = s.commitPends i := if_pos h

theorem commitRefusal_le (s : State) (i : Nat) : s.commitRefusal i ≤ 4 := by
  unfold State.commitRefusal
  dsimp only
  split_ifs <;> decide

/-- A commit that a regulatory rule refuses has its cause. -/
theorem reglCause_of_refused {s : State} {i : Nat} (h : s.commitRefusal i = 2) : (s.reglCause i).isSome = true := by
  unfold State.commitRefusal at h
  dsimp only at h
  split_ifs at h with hlong hregl
  · exact absurd h (by decide)
  · exact (Bool.and_eq_true_iff.mp hregl).2
  · exact absurd h (by decide)
  · exact absurd h (by decide)

theorem commitRequest_of_refused {s : State} {i : Nat} (m : Nat) (h : s.commitRefusal i ≠ 0) :
    s.commitRequest m i = (let x := (s.reglCause i).getD (0, 0)
      let u := s.set (SLP.SLOT_STAT.CREFUSE i) (s.commitRefusal i)
      (if s.commitRefusal i = 2 then u.reglRefuse i 1 x.1 x.2 else u).fwdNote i FWD.src.COMMIT_REFUSED m) := by
  rw [State.commitRequest]
  refine (if_neg h).trans (congrArg (State.fwdNote · i FWD.src.COMMIT_REFUSED m) ?_)
  by_cases h2 : s.commitRefusal i = 2
  · obtain ⟨x, hx⟩ := Option.isSome_iff_exists.mp (reglCause_of_refused h2)
    rw [h2, hx]
    rfl
  · rw [if_neg h2]
    split
    · contradiction
    · rfl

/-- What a refused commit shows, in `s`, of a refusal judged in `r`. -/
def State.commitRefused (s r : State) (m i : Nat) : State :=
  let x := (r.reglCause i).getD (0, 0)
  (if r.commitRefusal i = 2 then s.reglRefuse i 1 x.1 x.2 else s).fwdNote i FWD.src.COMMIT_REFUSED m

theorem slotCommitRequest_answers {s : State} {m : Master} {i : Fin 512} {v : Word} (htake : s.takes m (slotBase i) v)
    (hcommit : v.getLsbD 8 = true) (hover : s.checksOver = []) :
    (v.getLsbD 0 = true → 1 ≤ s.get (SLP.SLOT_STAT.STATE i) → s.get (SLP.SLOT_STAT.STATE i) ≤ 5 → s.commitRefusal i = 0 →
      AnswersSettled (.slotCommitRequest m i v) s fun u => u.get (SLP.SLOT_STAT.COMMIT_PEND i) = 1 ∧ (u.slot i).commitAt = s.now ∧
        Keeps s u [(SLP.SLOT_STAT.COMMIT_PEND i).key]) ∧
    (1 ≤ s.get (SLP.SLOT_STAT.STATE i) → s.get (SLP.SLOT_STAT.STATE i) ≤ 5 → s.commitRefusal i ≠ 0 →
      AnswersVia (.slotCommitRequest m i v) s (fun u =>
          let x := (s.reglCause i).getD (0, 0)
          let w := (if s.commitRefusal i = 2 then u.reglRefuse i 1 x.1 x.2 else u).fwdNote i FWD.src.COMMIT_REFUSED m.num
          (if v.getLsbD 0 then w else w.disableSlot i).settle) fun u =>
        u.get (SLP.SLOT_STAT.CREFUSE i) = s.commitRefusal i ∧ Keeps s u [(SLP.SLOT_STAT.CREFUSE i).key]) := by
  have hwrite (hon : 1 ≤ s.get (SLP.SLOT_STAT.STATE i)) (hheld : s.get (SLP.SLOT_STAT.STATE i) ≤ 5) : s.slotCtlWrite m i v =
      if v.getLsbD 0 then (s.outcome m 0).commitRequest m.num i else ((s.outcome m 0).commitRequest m.num i).disableSlot i := by
    have hnoff : (s.outcome m 0).get (SLP.SLOT_STAT.STATE i) ≠ stOff := Nat.one_le_iff_ne_zero.mp hon
    have hndown : ¬stRampDown ≤ (s.outcome m 0).get (SLP.SLOT_STAT.STATE i) := Nat.not_le.mpr (Nat.lt_succ_of_le hheld)
    rw [slotCtlWrite_of_takes i.isLt htake hover]
    dsimp only
    have htaken : v.getLsbD 8 = true ∧ (s.outcome m 0).get (SLP.SLOT_STAT.STATE i) ≠ stOff := ⟨hcommit, hnoff⟩
    rw [if_neg (not_and_of_not_right _ hnoff), if_neg (not_and_of_not_right _ hndown), if_pos htaken]
  constructor
  · intro hen hon hheld haccept
    have heq := commitRequest_of_accepted (s := s.outcome m 0) m.num haccept
    refine answersSettled_of rfl ((hwrite hon hheld).trans ((if_pos hen).trans heq)) ⟨State.get_set_same _ _ _, ?_, ?_⟩
    · rw [commitPends_slot]
      rfl
    · exact (Keeps.of_reg rfl _ : Keeps s ((s.outcome m 0).modSlot i (Slot.commitsFrom s.now)) _).set 1 (by simp)
  · intro hon hheld hrefuse
    have heq : (s.outcome m 0).commitRequest m.num i =
        ((s.outcome m 0).set (SLP.SLOT_STAT.CREFUSE i) (s.commitRefusal i)).commitRefused s m.num i :=
      commitRequest_of_refused (s := s.outcome m 0) m.num hrefuse
    have hvia := hwrite hon hheld
    rw [heq] at hvia
    refine answersVia_of rfl (congrArg State.settle hvia) ⟨?_, (Keeps.of_reg (State.outcome_reg s m 0) _).set _ (by simp)⟩
    rw [State.get_set_same, w_SLP_SLOT_STAT_CREFUSE]
    exact Nat.mod_eq_of_lt (Nat.lt_of_le_of_lt (commitRefusal_le s i) (by decide))

/-! Disable -/

/-- A slot that nothing waits for any more. -/
def Slot.abandoned (x : Slot) : Slot := { x with xfade := false, xcommit := false, result := false, resume := false, old := none }

/-- A slot disabled at an instant. -/
def Slot.disabled (t : Nat) (x : Slot) : Slot := { x with offAt := t, waitsUp := false }

/-- The set that was live before a commit's crossfade is live again. -/
def State.setBack (s : State) (i : Nat) : State :=
  match (s.slot i).old with
  | some o => if (s.slot i).xcommit then s.putLive i o else s
  | none => s

theorem setBack_rest (s : State) (i : Nat) :
    (s.setBack i).reg = s.reg ∧ (s.setBack i).slots = s.slots ∧ (s.setBack i).active = s.active ∧ (s.setBack i).now = s.now := by
  unfold State.setBack
  split
  · split_ifs <;> exact ⟨rfl, rfl, rfl, rfl⟩
  · exact ⟨rfl, rfl, rfl, rfl⟩

theorem setBack_of_none {s : State} {i : Nat} (h : (s.slot i).old = none) : s.setBack i = s := by
  rw [State.setBack, h]

theorem abandon_slotsAs (s : State) (i : Nat) :
    (((s.setBack i).modSlot i Slot.abandoned).set (SLP.SLOT_STAT.COMMIT_PEND i) 0).SlotsAs (s.abandon i) :=
  ((abandonResize_slotsAs _ i).trans (modCs_slotsAs _ i _)).trans (dropWarm_slotsAs _ i)

theorem abandon_get (s : State) {i : Nat} (hi : i < 512) {g : Fld} (hg : g.ofSlot i) :
    (s.abandon i).get g = (s.set (SLP.SLOT_STAT.COMMIT_PEND i) 0).get g := by
  obtain ⟨hreg, -⟩ := setBack_rest s i
  rw [(abandon_slotsAs s i).get g (hg.inSlots hi), State.get, State.get, State.set, State.set, State.modSlot, hreg]

theorem abandon_slot (s : State) (i : Nat) : (s.abandon i).slot i = (s.slot i).abandoned := by
  obtain ⟨-, hslots, -⟩ := setBack_rest s i
  rw [(abandon_slotsAs s i).slot, slot_set, slot_modSlot_same, State.slot, hslots, State.slot]

theorem abandon_rest (s : State) (i : Nat) : (s.abandon i).active = s.active ∧ (s.abandon i).now = s.now ∧
    ((s.slot i).old = none → (s.abandon i).liveOf i = s.liveOf i) := by
  have h := abandon_slotsAs s i
  obtain ⟨-, -, hactive, hnow⟩ := setBack_rest s i
  refine ⟨h.active.trans hactive, h.now.trans hnow, fun hold => (h.liveOf i).trans ?_⟩
  rw [setBack_of_none hold]
  rfl

/-- A slot that is disabled, before its ramp to zero or its drain begins. -/
def State.abandoned (s : State) (i : Nat) : State :=
  ((s.set (SLP.SLOT_CTL.EN i) 0).abandon i).modSlot i (Slot.disabled s.now)

theorem disableSlot_of_enabled {s : State} {i : Nat} (hprep : 2 ≤ s.get (SLP.SLOT_STAT.STATE i)) (hheld : s.get (SLP.SLOT_STAT.STATE i) ≤ 5) :
    s.disableSlot i = if (s.abandoned i).weightNow i = 0 ∧ s.get (SLP.SLOT_STAT.STATE i) ≠ stRampUp then (s.abandoned i).drainFrom i
      else ((s.abandoned i).fade i ((s.abandoned i).now + us 1)).set (SLP.SLOT_STAT.STATE i) stRampDown := by
  have hcheck : s.get (SLP.SLOT_STAT.STATE i) ≠ stCheck := Nat.ne_of_gt hprep
  have hon : ¬(s.get (SLP.SLOT_STAT.STATE i) < stPrep ∨ stHeld < s.get (SLP.SLOT_STAT.STATE i)) :=
    not_or.mpr ⟨Nat.not_lt.mpr hprep, Nat.not_lt.mpr hheld⟩
  unfold State.disableSlot
  dsimp only
  rw [if_neg hcheck, if_neg hon]
  rfl

theorem abandoned_slot (s : State) (i : Nat) : (s.abandoned i).slot i = (s.slot i).abandoned.disabled s.now := by
  rw [State.abandoned, slot_modSlot_same, abandon_slot, slot_set]

theorem abandoned_get (s : State) {i : Nat} (hi : i < 512) {g : Fld} (hg : g.ofSlot i) :
    (s.abandoned i).get g = ((s.set (SLP.SLOT_CTL.EN i) 0).set (SLP.SLOT_STAT.COMMIT_PEND i) 0).get g := by
  rw [State.abandoned, State.modSlot_get, abandon_get _ hi hg]

theorem abandoned_rest (s : State) (i : Nat) : (s.abandoned i).active = s.active ∧ (s.abandoned i).now = s.now ∧
    ((s.slot i).old = none → (s.abandoned i).liveOf i = s.liveOf i) := abandon_rest (s.set (SLP.SLOT_CTL.EN i) 0) i

theorem abandoned_weightNow (s : State) {i : Nat} (hi : i < 512) : (s.abandoned i).weightNow i = s.weightNow i := by
  obtain ⟨-, hnow, -⟩ := abandoned_rest s i
  have hrate : (s.abandoned i).get (SLP.SLOT_CFG.RATE i) = s.get (SLP.SLOT_CFG.RATE i) := by
    rw [abandoned_get s hi (ofSlot_RATE i), State.get_set_of_key_ne _ _ (by simp), State.get_set_of_key_ne _ _ (by simp; omega)]
  rw [State.weightNow, State.weightNow, abandoned_slot, hnow, State.sampleT, State.sampleT, State.units, State.units, hrate]
  rfl

/-! The drain begins -/

/-- A slot without weight since an instant, that drains till another. -/
def Slot.draining (now till : Nat) (gain : Int) (x : Slot) : Slot :=
  { x with weight := 0, upAt := none, downAt := none, wasTill := now, wasRamp := (x.weight, x.upAt, x.downAt), wasGain := gain
           endAt := some till }

theorem drainFrom_slot (s : State) (i : Nat) : (s.drainFrom i).slot i =
    (s.slot i).draining s.now (s.now + s.drainLat) (sext 12 (s.get (SLP.GAIN_STAT.APPLIED i))) := by
  rw [State.drainFrom, slot_silence, slot_set, slot_modSlot_same, State.cut, State.weigh, slot_modSlot_same]
  rfl

theorem drainFrom_get (s : State) (i : Nat) {g : Fld} (hg : ¬g.key = (SLP.SLOT_STAT.STATE i).key)
    (happlied : ¬g.key = (SLP.GAIN_STAT.APPLIED i).key) (hlimit : ¬g.key = (SLP.GAIN_STAT.LIMIT i).key) : (s.drainFrom i).get g = s.get g := by
  rw [State.drainFrom, State.silence, State.get_set_ne _ _ happlied, State.get_set_ne _ _ hlimit, State.get_set_ne _ _ hg]
  rfl

theorem drainFrom_STATE (s : State) (i : Nat) : (s.drainFrom i).get (SLP.SLOT_STAT.STATE i) = 7 := by
  rw [State.drainFrom, silence_STATE, State.get_set_same]
  rfl

theorem modSlot_livePart (s : State) (i : Nat) (f : Slot → Slot) : (s.modSlot i f).livePart = s.livePart := rfl

theorem drainFrom_livePart (s : State) (i : Nat) : (s.drainFrom i).livePart = s.livePart := by
  rw [State.drainFrom, State.silence, set_livePart, set_livePart, set_livePart, modSlot_livePart, State.cut, State.weigh, modSlot_livePart]

/-- A slot whose ramp to zero begins at an instant. -/
def State.rampsDown (s : State) (i t : Nat) : State := (s.fade i t).set (SLP.SLOT_STAT.STATE i) stRampDown

theorem rampsDown_offAt (s : State) (i t : Nat) : ((s.rampsDown i t).slot i).offAt = (s.slot i).offAt := by
  rw [State.rampsDown, slot_set, State.fade, slot_modSlot_same]

theorem rampsDown_get (s : State) (i t : Nat) {g : Fld} (hg : ¬g.key = (SLP.SLOT_STAT.STATE i).key) : (s.rampsDown i t).get g = s.get g :=
  State.get_set_ne _ _ hg

theorem rampsDown_livePart (s : State) (i t : Nat) : (s.rampsDown i t).livePart = s.livePart := by
  rw [State.rampsDown, set_livePart, State.fade, modSlot_livePart]

/-- A disable from PREP to HELD. -/
theorem disableSlot_shows {s : State} {i : Nat} (hi : i < 512) (hprep : 2 ≤ s.get (SLP.SLOT_STAT.STATE i))
    (hheld : s.get (SLP.SLOT_STAT.STATE i) ≤ 5) :
    (s.disableSlot i).get (SLP.SLOT_CTL.EN i) = 0 ∧ (s.disableSlot i).get (SLP.SLOT_STAT.COMMIT_PEND i) = 0 ∧
      ((s.disableSlot i).slot i).offAt = s.now ∧ (s.disableSlot i).active = s.active ∧
      ((s.slot i).old = none → (s.disableSlot i).liveOf i = s.liveOf i) ∧
      (s.disableSlot i).get (SLP.SLOT_STAT.STATE i) = if s.weightNow i = 0 ∧ s.get (SLP.SLOT_STAT.STATE i) ≠ 3 then 7 else 6 := by
  obtain ⟨hactive, -, hlive⟩ := abandoned_rest s i
  have hen : (s.abandoned i).get (SLP.SLOT_CTL.EN i) = 0 := by
    rw [abandoned_get s hi (ofSlot_EN i), State.get_set_of_key_ne _ _ (by simp; omega), State.get_set_same, Nat.zero_mod]
  have hpend : (s.abandoned i).get (SLP.SLOT_STAT.COMMIT_PEND i) = 0 := by
    rw [abandoned_get s hi (ofSlot_COMMIT_PEND i), State.get_set_same, Nat.zero_mod]
  have hoff : ((s.abandoned i).slot i).offAt = s.now := by rw [abandoned_slot]; rfl
  rw [disableSlot_of_enabled hprep hheld, abandoned_weightNow s hi]
  by_cases h : s.weightNow i = 0 ∧ s.get (SLP.SLOT_STAT.STATE i) ≠ 3
  · obtain ⟨hdlive, hdactive, -⟩ := by simpa only [State.livePart, Prod.mk.injEq] using drainFrom_livePart (s.abandoned i) i
    rw [if_pos h, if_pos h, drainFrom_get _ i (by simp; omega) (by simp) (by simp; omega), drainFrom_get _ i (by simp) (by simp; omega)
      (by simp; omega), drainFrom_STATE, drainFrom_slot, hdactive, State.liveOf, hdlive]
    exact ⟨hen, hpend, hoff, hactive, hlive, rfl⟩
  · obtain ⟨hdlive, hdactive, -⟩ := by
      simpa only [State.livePart, Prod.mk.injEq] using rampsDown_livePart (s.abandoned i) i ((s.abandoned i).now + us 1)
    rw [if_neg h, if_neg h, ← State.rampsDown, rampsDown_get _ i _ (by simp; omega), rampsDown_get _ i _ (by simp), rampsDown_offAt, hdactive,
      State.liveOf, hdlive]
    exact ⟨hen, hpend, hoff, hactive, hlive, State.get_set_same _ _ _⟩

/-- The slot that a disable acts on, after a commit in the same write. -/
theorem commitPends_view (s : State) (i : Nat) : (s.commitPends i).get (SLP.SLOT_STAT.STATE i) = s.get (SLP.SLOT_STAT.STATE i) ∧
    (s.commitPends i).weightNow i = s.weightNow i ∧ ((s.commitPends i).slot i).old = (s.slot i).old ∧
    (s.commitPends i).livePart = s.livePart := by
  refine ⟨State.get_set_ne _ _ (by simp), ?_, by rw [commitPends_slot]; rfl, by rw [State.commitPends, set_livePart, modSlot_livePart]⟩
  have hrate : (s.commitPends i).get (SLP.SLOT_CFG.RATE i) = s.get (SLP.SLOT_CFG.RATE i) := State.get_set_ne _ _ (by simp)
  rw [State.weightNow, State.weightNow, commitPends_slot, State.sampleT, State.sampleT, State.units, State.units, hrate]
  rfl

/-- A disable of a slot during its checks. -/
theorem disableSlot_of_checking {s : State} {i : Nat} (h : s.get (SLP.SLOT_STAT.STATE i) = 1) :
    s.disableSlot i = (s.set (SLP.SLOT_CTL.EN i) 0).modSlot i fun x => { x with offInCheck := true } := if_pos h

theorem slotDisable_answers {s : State} {m : Master} {i : Fin 512} {v : Word} (htake : s.takes m (slotBase i) v) (hen : v.getLsbD 0 = false)
    (hover : s.checksOver = []) (hcommit : v.getLsbD 8 = false ∨ s.commitRefusal i = 0) :
    (2 ≤ s.get (SLP.SLOT_STAT.STATE i) → s.get (SLP.SLOT_STAT.STATE i) ≤ 5 → AnswersSettled (.slotDisable m i v) s fun u =>
      u.get (SLP.SLOT_CTL.EN i) = 0 ∧ u.get (SLP.SLOT_STAT.COMMIT_PEND i) = 0 ∧ (u.slot i).offAt = s.now ∧ u.active = s.active ∧
      ((s.slot i).old = none → u.liveOf i = s.liveOf i) ∧
      u.get (SLP.SLOT_STAT.STATE i) = if s.weightNow i = 0 ∧ s.get (SLP.SLOT_STAT.STATE i) ≠ 3 then 7 else 6) ∧
    (s.get (SLP.SLOT_STAT.STATE i) = 1 → AnswersSettled (.slotDisable m i v) s fun u =>
      u.get (SLP.SLOT_CTL.EN i) = 0 ∧ (u.slot i).offInCheck = true ∧ u.get (SLP.SLOT_STAT.STATE i) = 1) := by
  have hen' : ¬v.getLsbD 0 = true := by rw [hen]; decide
  obtain ⟨u, ⟨hstate, hweight, hold, hpart⟩, hwrite⟩ : ∃ u : State, (u.get (SLP.SLOT_STAT.STATE i) = s.get (SLP.SLOT_STAT.STATE i) ∧
      u.weightNow i = s.weightNow i ∧ (u.slot i).old = (s.slot i).old ∧ u.livePart = s.livePart) ∧
      (s.get (SLP.SLOT_STAT.STATE i) ≠ 0 → s.slotCtlWrite m i v = u.disableSlot i) := by
    rw [slotCtlWrite_of_takes i.isLt htake hover]
    dsimp only
    rw [if_neg (not_and_of_not_left _ hen'), if_neg hen', if_neg (not_and_of_not_left _ hen')]
    cases h8 : v.getLsbD 8 with
    | false => exact ⟨s.outcome m 0, ⟨rfl, rfl, rfl, rfl⟩, fun _ => by rw [if_neg (not_and_of_not_left _ (by decide))]⟩
    | true =>
      have haccept : (s.outcome m 0).commitRefusal i = 0 := hcommit.resolve_left (by rw [h8]; decide)
      exact ⟨(s.outcome m 0).commitPends i, commitPends_view (s.outcome m 0) i, fun hon => by
        rw [if_pos ⟨rfl, hon⟩, commitRequest_of_accepted m.num haccept]⟩
  simp only [State.livePart, Prod.mk.injEq] at hpart
  obtain ⟨hlive, hactive, hnow⟩ := hpart
  constructor
  · intro hprep hheld
    have h := disableSlot_shows i.isLt (hstate.symm ▸ hprep) (hstate.symm ▸ hheld)
    rw [hstate, hweight, hold, hnow, hactive, State.liveOf, State.liveOf, hlive] at h
    exact answersSettled_of rfl (hwrite (by omega)) h
  · intro hcheck
    refine answersSettled_of rfl ((hwrite (by omega)).trans (disableSlot_of_checking (hstate.trans hcheck))) ⟨?_, ?_, ?_⟩
    · rw [State.modSlot_get, State.get_set_same, Nat.zero_mod]
    · rw [slot_modSlot_same]
    · rw [State.modSlot_get, State.get_set_of_key_ne _ _ (by simp; omega), hstate, hcheck]

/-- Settles O25: the request's slot takes the values that the write decides, and what follows it lies beside the slots. -/
theorem slotRequests : Obligations.SlotRequests :=
  ⟨fun _ _ _ _ htake hen hover hoff => slotEnable_answers htake hen hover hoff, fun _ _ hstate hpass hon => checksPassed_answers hstate hpass hon,
    fun _ _ hstate hfail hcode => checksFailed_answers hstate hfail hcode,
    fun _ _ _ _ htake hcommit hover => slotCommitRequest_answers htake hcommit hover,
    fun _ _ _ _ htake hen hover hcommit => slotDisable_answers htake hen hover hcommit⟩

end Sys2Proof.Machine
end

section
/-! SUPPORT. Export writes, changes and frames, and the block lock of a lane (R177 to R181, R187). -/
namespace Sys2Proof.Machine
open Sys2Proof

/-! EXPORT -/

theorem fieldsAt_EXPORT {i : Nat} (hi : i < 512) :
    fieldsAt (slotBase i + 0x24) = [SLP.EXPORT.EN i, SLP.EXPORT.POINT i, SLP.EXPORT.FMT i, SLP.EXPORT.LANE i] := by
  have haddr : slotBase i + 0x24 < 0x80000 := by rw [slotBase]; omega
  have hpage : (slotBase i + 0x24) / 0x1000 = 0x40 + i / 8 := by rw [slotBase]; omega
  have hoff : (slotBase i + 0x24) % 0x1000 = 0x124 + 0x40 * (i % 8) := by rw [slotBase]; omega
  have hslot : 8 * (0x40 + i / 8 - 0x40) + (0x124 + 0x40 * (i % 8) - 0x100) / 0x40 = i := by omega
  have hword : (0x124 + 0x40 * (i % 8)) % 0x40 = 0x24 := by omega
  have hfields : regFields (slotBase i + 0x24) = rowFields (SLP.rows i) 0x24 := by
    rw [regFields, if_pos haddr]
    dsimp only
    rw [hpage, hoff, if_neg (by omega), if_pos (by omega), if_pos (by omega), hslot, hword]
  rw [fieldsAt, hfields]
  simp [SLP.rows, rowFields, RegRow.idx]

/-- EXPORT with a written word. -/
def State.exportFields (s : State) (i : Nat) (v : Nat) : State :=
  (((s.set (SLP.EXPORT.EN i) (bits v 31 1)).set (SLP.EXPORT.POINT i) (bits v 29 2)).set (SLP.EXPORT.FMT i) (bits v 28 1)).set
    (SLP.EXPORT.LANE i) (bits v 24 4)

theorem writeReg_EXPORT (s : State) {i : Nat} (hi : i < 512) (v : Word) : s.writeReg (slotBase i + 0x24) v = s.exportFields i v.toNat := by
  rw [State.writeReg, fieldsAt_EXPORT hi]
  rfl

theorem exportFields_shows (s : State) (i v : Nat) :
    (s.exportFields i v).get (SLP.EXPORT.EN i) = bits v 31 1 ∧ (s.exportFields i v).get (SLP.EXPORT.POINT i) = bits v 29 2 ∧
      (s.exportFields i v).get (SLP.EXPORT.FMT i) = bits v 28 1 ∧ (s.exportFields i v).get (SLP.EXPORT.LANE i) = bits v 24 4 ∧
      Keeps s (s.exportFields i v) [(SLP.EXPORT.EN i).key, (SLP.EXPORT.POINT i).key, (SLP.EXPORT.FMT i).key, (SLP.EXPORT.LANE i).key] := by
  refine ⟨?_, ?_, ?_, ?_, ((((Keeps.refl s _).set _ (by simp)).set _ (by simp)).set _ (by simp)).set _ (by simp)⟩
  · rw [State.exportFields, State.get_set_of_key_ne _ _ (by simp), State.get_set_of_key_ne _ _ (by simp), State.get_set_of_key_ne _ _ (by simp),
      State.get_set_same]
    exact bits_mod v 31 1
  · rw [State.exportFields, State.get_set_of_key_ne _ _ (by simp), State.get_set_of_key_ne _ _ (by simp), State.get_set_same]
    exact bits_mod v 29 2
  · rw [State.exportFields, State.get_set_of_key_ne _ _ (by simp), State.get_set_same]
    exact bits_mod v 28 1
  · rw [State.exportFields, State.get_set_same]
    exact bits_mod v 24 4

theorem exp_modExp (s : State) (i : Nat) (f : Exp → Exp) : (s.modExp i f).exp i = f (s.exp i) := Tab.get_upd_same _ _ _ _

/-- A stream whose change waits since an instant. -/
def Exp.changes (t : Nat) (x : Exp) : Exp := { x with changeAt := some t }

theorem exportWrite_answers {s : State} {m : Master} {i : Fin 512} {v : Word} (htake : s.takes m (slotBase i + 0x24) v) :
    (v.getLsbD 31 = true → 384 < s.laneOthers i (bits v.toNat 24 4) + s.expWeight i v.toNat →
      AnswersVia (.exportWrite m i v) s (fun u => (u.fwdNote i FWD.src.LANE_FULL m.num).settle) fun u => Keeps s u [] ∧ u.exps = s.exps) ∧
    (v.getLsbD 31 = false ∨ s.laneOthers i (bits v.toNat 24 4) + s.expWeight i v.toNat ≤ 384 →
      AnswersSettled (.exportWrite m i v) s fun u =>
        u.get (SLP.EXPORT.EN i) = bits v.toNat 31 1 ∧ u.get (SLP.EXPORT.POINT i) = bits v.toNat 29 2 ∧
        u.get (SLP.EXPORT.FMT i) = bits v.toNat 28 1 ∧ u.get (SLP.EXPORT.LANE i) = bits v.toNat 24 4 ∧
        Keeps s u [(SLP.EXPORT.EN i).key, (SLP.EXPORT.POINT i).key, (SLP.EXPORT.FMT i).key, (SLP.EXPORT.LANE i).key] ∧
        (u.exp i).live = (s.exp i).live ∧ (u.exp i).changeAt = some s.now) := by
  have hpage : pageOf (slotBase i + 0x24) ≠ 4 := by rw [pageOf, slotBase]; omega
  have hen : tbit v.toNat 31 = v.getLsbD 31 := tbit_eq_testBit v.toNat 31
  have hwrite : s.exportWrite m i v = if 384 < s.laneOthers i (bits v.toNat 24 4) + s.expWeight i v.toNat ∧ tbit v.toNat 31 then
      (s.outcome m 0).fwdNote i FWD.src.LANE_FULL m.num
      else ((s.outcome m 0).exportFields i v.toNat).modExp i (Exp.changes s.now) := by
    rw [State.exportWrite, guarded_of_takes (fun t => t.exportCtl m.num i v) htake hpage, State.exportCtl, writeReg_EXPORT _ i.isLt]
    rfl
  constructor
  · intro hon hfull
    exact answersVia_of rfl (congrArg State.settle (hwrite.trans (if_pos ⟨hfull, hen.trans hon⟩)))
      ⟨Keeps.of_reg (State.outcome_reg s m 0) _, rfl⟩
  · intro hfits
    obtain ⟨hEN, hPOINT, hFMT, hLANE, hkeeps⟩ := exportFields_shows (s.outcome m 0) i v.toNat
    have hroom : ¬(384 < s.laneOthers i (bits v.toNat 24 4) + s.expWeight i v.toNat ∧ tbit v.toNat 31 = true) := by
      rintro ⟨hfull, hon⟩
      rw [hen] at hon
      rcases hfits with hoff | hle
      · rw [hoff] at hon; exact absurd hon (by decide)
      · omega
    refine answersSettled_of rfl (hwrite.trans (if_neg hroom)) ⟨hEN, hPOINT, hFMT, hLANE, hkeeps, ?_, ?_⟩
    · rw [exp_modExp]
      rfl
    · rw [exp_modExp]
      rfl

/-! Frames -/

/-- A stream that has sent or lost a frame of `k` samples. -/
def Exp.framed (go : Bool) (k : Nat) (x : Exp) : Exp := { x with seq := (x.seq + 1) % 2 ^ 32, gap := !go, bad := false, first := x.first + k }

/-- The samples of a slot's frame that are there. -/
def State.samplesThere (s : State) (i : Nat) : Nat := min (frameLen (s.exp i).live) (s.now / s.sampleT i - (s.exp i).first)

/-- The state in which a slot's frame has been counted as sent. -/
def State.frameCounted (s : State) (i : Nat) : State :=
  (s.modExp i (Exp.framed true (s.samplesThere i))).wrap (LNK.TX_CNT.SENT (expLane (s.exp i).live))

/-- The state in which a slot's frame has been sent. -/
def State.frameSent (s : State) (i : Nat) (last : Bool) : State :=
  (s.frameCounted i).setLnk { s.lnk with
    sent := Tab.set [] s.lnk.sent (expLane (s.exp i).live) (s.frameBytes i (s.samplesThere i) last) }

/-- The state in which a slot's frame has been discarded. -/
def State.frameLost (s : State) (i : Nat) : State :=
  (s.modExp i (Exp.framed false (s.samplesThere i))).count (LNK.TX_CNT.DISCARDED (expLane (s.exp i).live)) 1

theorem exportSend_of_open {s : State} {i : Nat} {fits : Bool} (last : Bool) (hen : tbit (s.exp i).live 31 = true) (hfits : fits = true)
    (hup : s.laneUp (expLane (s.exp i).live) = true) : s.exportSend i fits last = (s.frameSent i last, false) := by
  unfold State.exportSend
  dsimp only
  rw [hen, hfits, hup]
  rfl

theorem exportSend_of_shut {s : State} {i : Nat} {fits : Bool} (last : Bool) (hen : tbit (s.exp i).live 31 = true)
    (hshut : fits = false ∨ s.laneUp (expLane (s.exp i).live) = false) : s.exportSend i fits last = (s.frameLost i, true) := by
  have hgo : (fits && s.laneUp (expLane (s.exp i).live)) = false := Bool.and_eq_false_iff.mpr hshut
  unfold State.exportSend
  dsimp only
  rw [hen, hgo]
  rfl

theorem frameSent_exp (s : State) (i : Nat) (last : Bool) : (s.frameSent i last).exp i = (s.exp i).framed true (s.samplesThere i) := exp_modExp s i _
theorem frameLost_exp (s : State) (i : Nat) : (s.frameLost i).exp i = (s.exp i).framed false (s.samplesThere i) := exp_modExp s i _

theorem frameSent_now (s : State) (i : Nat) (last : Bool) : (s.frameSent i last).now = s.now := rfl
theorem frameLost_now (s : State) (i : Nat) : (s.frameLost i).now = s.now := rfl

theorem frameSent_keeps (s : State) (i : Nat) (last : Bool) : Keeps s (s.frameSent i last) [(LNK.TX_CNT.SENT (expLane (s.exp i).live)).key] :=
  Keeps.setLnk (Keeps.set (t := s.modExp i _) (Keeps.of_reg rfl _) _ (by simp)) _

theorem frameLost_keeps (s : State) (i : Nat) : Keeps s (s.frameLost i) [(LNK.TX_CNT.DISCARDED (expLane (s.exp i).live)).key] :=
  Keeps.set (t := s.modExp i _) (Keeps.of_reg rfl _) _ (by simp)

theorem frameSent_SENT (s : State) (i : Nat) (last : Bool) : (s.frameSent i last).get (LNK.TX_CNT.SENT (expLane (s.exp i).live)) =
    (s.get (LNK.TX_CNT.SENT (expLane (s.exp i).live)) + 1) % 65536 := by
  rw [State.frameSent, State.setLnk_get, State.frameCounted, State.wrap, State.get_set_same, w_LNK_TX_CNT_SENT]
  rfl

theorem frameSent_sent (s : State) (i : Nat) (last : Bool) : Tab.get [] (s.frameSent i last).lnk.sent (expLane (s.exp i).live) =
    s.frameBytes i (s.samplesThere i) last := Tab.get_set_same [] s.lnk.sent (expLane (s.exp i).live) (s.frameBytes i (s.samplesThere i) last)

theorem count_one_get_16 (s : State) {f : Fld} (hw : f.w = 16) : (s.count f 1).get f = min (s.get f + 1) 65535 := by
  simp only [State.count_eq, State.get_set_same, satAdd, hw]
  omega

theorem frameLost_DISCARDED (s : State) (i : Nat) : (s.frameLost i).get (LNK.TX_CNT.DISCARDED (expLane (s.exp i).live)) =
    min (s.get (LNK.TX_CNT.DISCARDED (expLane (s.exp i).live)) + 1) 65535 := count_one_get_16 _ (w_LNK_TX_CNT_DISCARDED _)

theorem exportFrameSend_answers {s r : State} {i : Fin 512} {fits : Bool} {l : Nat} (hl : l = expLane (s.exp i).live)
    (hr : r = s.until (((s.exp i).first + frameLen (s.exp i).live) * s.sampleT i)) (hactive : s.active.contains i = true)
    (hstate : s.get (SLP.SLOT_STAT.STATE i) ≠ 1) (hreset : (s.slot i).inReset = false) (hgated : s.clocksGated = false)
    (hen : tbit (s.exp i).live 31 = true) :
    (fits = true → s.laneUp l = true → AnswersSettled (.exportFrameSend i fits) s fun u => u.now = r.now ∧
      Tab.get [] u.lnk.sent l = r.frameBytes i (min (frameLen (s.exp i).live) (r.now / s.sampleT i - (s.exp i).first)) false ∧
      u.get (LNK.TX_CNT.SENT l) = (s.get (LNK.TX_CNT.SENT l) + 1) % 65536 ∧ Keeps s u [(LNK.TX_CNT.SENT l).key] ∧
      (u.exp i).seq = ((s.exp i).seq + 1) % 2 ^ 32) ∧
    (fits = false ∨ s.laneUp l = false →
      AnswersVia (.exportFrameSend i fits) s (fun u => (u.fire 0x2B LNK.src.FRAME_DROP { slot := some i.val }).settle) fun u =>
        u.get (LNK.TX_CNT.DISCARDED l) = min (s.get (LNK.TX_CNT.DISCARDED l) + 1) 65535 ∧ Keeps s u [(LNK.TX_CNT.DISCARDED l).key] ∧
        (u.exp i).seq = ((s.exp i).seq + 1) % 2 ^ 32 ∧ (u.exp i).gap = true) := by
  have hstreams : s.streams i = true := by
    rw [State.streams, hactive, hgated, hen, bne_iff_ne.mpr hstate]
    rfl
  have hframe : (if s.streams i ∧ !(s.slot i).inReset then s.exportFrame i fits else s) =
      (r.exportSend i fits false).1.frameDrop i (r.exportSend i fits false).2 := by
    rw [if_pos ⟨hstreams, by rw [hreset]; rfl⟩, State.exportFrame, hen, hr]
    rfl
  have hexp : r.exp i = s.exp i := by rw [hr]; rfl
  have hget (g : Fld) : r.get g = s.get g := by rw [hr]; rfl
  have hlane : r.laneUp (expLane (r.exp i).live) = s.laneUp l := by rw [hexp, hl, hr]; rfl
  have hthere : r.samplesThere i = min (frameLen (s.exp i).live) (r.now / s.sampleT i - (s.exp i).first) := by
    rw [State.samplesThere, hexp, hr]
    rfl
  have hlive : tbit (r.exp i).live 31 = true := by rw [hexp, hen]
  constructor
  · intro hfits hup
    have heq := exportSend_of_open false hlive hfits (hlane.trans hup)
    have hcount := frameSent_SENT r i false
    have hsent := frameSent_sent r i false
    have hkeeps := frameSent_keeps r i false
    rw [hexp, ← hl] at hcount hsent hkeeps
    rw [hget] at hcount
    refine answersSettled_of (u := r.frameSent i false) rfl (hframe.trans (by rw [heq]; rfl))
      ⟨frameSent_now r i false, hsent.trans (by rw [hthere]), hcount, fun g hg => ?_, ?_⟩
    · exact (hkeeps g hg).trans (hget g)
    · rw [frameSent_exp, hexp]
      rfl
  · intro hshut
    have heq := exportSend_of_shut (fits := fits) false hlive (hshut.imp_right hlane.trans)
    have hcount := frameLost_DISCARDED r i
    have hkeeps := frameLost_keeps r i
    rw [hexp, ← hl] at hcount hkeeps
    rw [hget] at hcount
    refine answersVia_of (u := r.frameLost i) rfl (congrArg State.settle (hframe.trans (by rw [heq]; rfl))) ⟨hcount, fun g hg => ?_, ?_⟩
    · exact (hkeeps g hg).trans (hget g)
    · rw [frameLost_exp, hexp]
      exact ⟨rfl, rfl⟩

/-! Changes of EXPORT -/

/-- A word of EXPORT in force, from which a stream counts anew. -/
def State.exportPut (s : State) (i w : Nat) : State := (s.modExp i fun _ => { live := w }).exportBegin i

theorem exportApply_eq {s : State} {i t : Nat} (h : (s.exp i).changeAt = some t) : s.exportApply i =
    ((((s.until (s.frameAt t)).exportLast i).1.exportPut i ((s.until (s.frameAt t)).assemble (fieldsAt (slotBase i + 0x24)))).syncLoad).frameDrop i
      ((s.until (s.frameAt t)).exportLast i).2 := by
  rw [State.exportApply, h]
  rfl

theorem syncLoad_keeps (s : State) : Keeps s s.syncLoad ((List.range 16).map fun l => (LNK.LANE_STAT.LOAD l).key) :=
  List.foldlRecOn (motive := fun u => Keeps s u _) _ _ (Keeps.refl s _) fun _ hu _ hl => hu.set _ (List.mem_map_of_mem hl)

/-- The exports and the time. -/
def State.exportPart (s : State) : Tab Exp × Nat := (s.exps, s.now)

theorem set_exportPart (s : State) (f : Fld) (v : Nat) : (s.set f v).exportPart = s.exportPart := rfl

theorem syncLoad_exportPart (s : State) : s.syncLoad.exportPart = s.exportPart :=
  foldl_keeps State.exportPart _ (fun u _ => set_exportPart u _ _) _ s

theorem exportSend_cases (s : State) (i : Nat) (fits last : Bool) : s.exportSend i fits last = (s, false) ∨
    s.exportSend i fits last = (s.frameSent i last, false) ∨ s.exportSend i fits last = (s.frameLost i, true) := by
  cases hen : tbit (s.exp i).live 31 with
  | false => exact .inl (if_pos (by rw [hen]; rfl))
  | true =>
    by_cases hgo : fits = true ∧ s.laneUp (expLane (s.exp i).live) = true
    · exact .inr (.inl (exportSend_of_open last hen hgo.1 hgo.2))
    · exact .inr (.inr (exportSend_of_shut last hen (by simpa [or_iff_not_imp_left] using hgo)))

/-- The last frame of a stream counts on its lane, and takes no time. -/
theorem exportLast_keeps (s : State) (i : Nat) : (s.exportLast i).1.now = s.now ∧
    Keeps s (s.exportLast i).1 [(LNK.TX_CNT.SENT (expLane (s.exp i).live)).key, (LNK.TX_CNT.DISCARDED (expLane (s.exp i).live)).key] := by
  have hsend (t : State) (fits : Bool) : (t.exportSend i fits true).1.now = t.now ∧ Keeps t (t.exportSend i fits true).1
      [(LNK.TX_CNT.SENT (expLane (t.exp i).live)).key, (LNK.TX_CNT.DISCARDED (expLane (t.exp i).live)).key] := by
    rcases exportSend_cases t i fits true with h | h | h
    · rw [h]
      exact ⟨rfl, Keeps.refl t _⟩
    · rw [h]
      exact ⟨frameSent_now t i true, (frameSent_keeps t i true).mono (by simp)⟩
    · rw [h]
      exact ⟨frameLost_now t i, (frameLost_keeps t i).mono (by simp)⟩
  unfold State.exportLast
  split_ifs
  · exact hsend s.draw.2 _
  · exact ⟨rfl, Keeps.refl s _⟩

theorem exportLast_of_idle {s : State} {i : Nat} (h : s.streams i = false) : s.exportLast i = (s, false) := if_neg (by rw [h]; decide)

theorem exportLast_of_down {s : State} {i : Nat} (h : s.streams i = true) (hdown : s.laneUp (expLane (s.exp i).live) = false) :
    (s.exportLast i).2 = true := by
  have hen : tbit (s.exp i).live 31 = true := (Bool.and_eq_true_iff.mp h).2
  have hlost := exportSend_of_shut (s := s.draw.2) (i := i) (fits := s.draw.1 % 2 == 0) true hen (.inr hdown)
  rw [State.exportLast, if_pos h]
  exact congrArg Prod.snd hlost

theorem exportPut_shows (s : State) (i w : Nat) : ((s.exportPut i w).exp i).live = w ∧ ((s.exportPut i w).exp i).seq = 0 ∧
    ((s.exportPut i w).exp i).changeAt = none := by
  rw [State.exportPut, State.exportBegin, exp_modExp, exp_modExp]
  exact ⟨rfl, rfl, rfl⟩

theorem exportPut_now (s : State) (i w : Nat) : (s.exportPut i w).now = s.now := rfl
theorem exportPut_get (s : State) (i w : Nat) (g : Fld) : (s.exportPut i w).get g = s.get g := rfl

/-- A change of EXPORT in `s` that takes effect at an instant. -/
def State.exportChanged (s : State) (i t : Nat) : State :=
  (((s.until t).exportLast i).1.exportPut i ((s.until t).assemble (fieldsAt (slotBase i + 0x24)))).syncLoad

theorem exportChanged_shows (s : State) (i t : Nat) : (s.exportChanged i t).now = max s.now t ∧
    ((s.exportChanged i t).exp i).live = s.assemble (fieldsAt (slotBase i + 0x24)) ∧ ((s.exportChanged i t).exp i).seq = 0 ∧
    ((s.exportChanged i t).exp i).changeAt = none := by
  have hpart := syncLoad_exportPart (((s.until t).exportLast i).1.exportPut i ((s.until t).assemble (fieldsAt (slotBase i + 0x24))))
  simp only [State.exportPart, Prod.mk.injEq] at hpart
  obtain ⟨hexps, hnow⟩ := hpart
  rw [State.exportChanged, hnow, State.exp, hexps, exportPut_now, (exportLast_keeps _ i).1]
  exact ⟨rfl, exportPut_shows _ i _⟩

theorem exportChanged_keeps (s : State) (i t : Nat) : Keeps s (s.exportChanged i t)
    ((LNK.TX_CNT.SENT (expLane (s.exp i).live)).key :: (LNK.TX_CNT.DISCARDED (expLane (s.exp i).live)).key ::
      (List.range 16).map fun l => (LNK.LANE_STAT.LOAD l).key) := by
  intro g hg
  simp only [List.mem_cons, not_or] at hg
  obtain ⟨hsent, hdropped, hload⟩ := hg
  have hlast : ((s.until t).exportLast i).1.get g = (s.until t).get g := (exportLast_keeps (s.until t) i).2 g (by simpa using ⟨hsent, hdropped⟩)
  rw [State.exportChanged, syncLoad_keeps _ g hload, exportPut_get, hlast, State.until_get]

theorem exportChangeApply_answers {s : State} {i : Fin 512} {t : Nat} {lost : Bool} (hchange : (s.exp i).changeAt = some t)
    (hlost : lost = ((s.until (s.frameAt t)).exportLast i).2) :
    AnswersVia (.exportChangeApply i) s (fun u => (u.frameDrop i lost).settle) fun u => u.now = max s.now (s.frameAt t) ∧
      (s.streams i = false → lost = false) ∧ (s.streams i = true → s.laneUp (expLane (s.exp i).live) = false → lost = true) ∧
      (u.exp i).live = s.assemble (fieldsAt (slotBase i + 0x24)) ∧ (u.exp i).seq = 0 ∧ (u.exp i).changeAt = none ∧
      Keeps s u ((LNK.TX_CNT.SENT (expLane (s.exp i).live)).key :: (LNK.TX_CNT.DISCARDED (expLane (s.exp i).live)).key ::
        (List.range 16).map fun l => (LNK.LANE_STAT.LOAD l).key) := by
  have heq : s.exportApply i = (s.exportChanged i (s.frameAt t)).frameDrop i lost := by
    rw [exportApply_eq hchange, ← hlost, State.exportChanged]
  obtain ⟨hnow, hlive, hseq, hend⟩ := exportChanged_shows s i (s.frameAt t)
  refine answersVia_of rfl (congrArg State.settle heq)
    ⟨hnow, fun hidle => ?_, fun hruns hdown => ?_, hlive, hseq, hend, exportChanged_keeps s i _⟩
  · rw [hlost, exportLast_of_idle (s := s.until (s.frameAt t)) hidle]
  · rw [hlost, exportLast_of_down (s := s.until (s.frameAt t)) hruns hdown]

/-! Block lock -/

/-- The status that a lane shows. -/
def State.laneShown (s : State) (l up lfault rfault : Nat) : State :=
  ((s.set (LNK.LANE_STAT.UP l) up).set (LNK.LANE_STAT.LFAULT l) lfault).set (LNK.LANE_STAT.RFAULT l) rfault

theorem laneShown_shows (s : State) (l : Nat) {up lfault rfault : Nat} (hup : up < 2) (hlfault : lfault < 2) (hrfault : rfault < 2) :
    (s.laneShown l up lfault rfault).get (LNK.LANE_STAT.UP l) = up ∧ (s.laneShown l up lfault rfault).get (LNK.LANE_STAT.LFAULT l) = lfault ∧
      (s.laneShown l up lfault rfault).get (LNK.LANE_STAT.RFAULT l) = rfault ∧
      Keeps s (s.laneShown l up lfault rfault) [(LNK.LANE_STAT.UP l).key, (LNK.LANE_STAT.LFAULT l).key, (LNK.LANE_STAT.RFAULT l).key] ∧
      s.laneShown l up lfault rfault = { s with reg := (s.laneShown l up lfault rfault).reg } := by
  refine ⟨?_, ?_, ?_, (((Keeps.refl s _).set _ (by simp)).set _ (by simp)).set _ (by simp), rfl⟩
  · rw [State.laneShown, State.get_set_of_key_ne _ _ (by simp), State.get_set_of_key_ne _ _ (by simp), State.get_set_same]
    exact Nat.mod_eq_of_lt hup
  · rw [State.laneShown, State.get_set_of_key_ne _ _ (by simp), State.get_set_same]
    exact Nat.mod_eq_of_lt hlfault
  · rw [State.laneShown, State.get_set_same]
    exact Nat.mod_eq_of_lt hrfault

theorem laneBlockLock_answers (s : State) (l : Fin 16) :
    (s.flag (LNK.LANE_STAT.UP l) = true →
      AnswersVia (.laneBlockLockLoss l) s (fun u => (u.fire 0x2B LNK.src.LANE_FAIL {}).settle) fun u =>
        u.get (LNK.LANE_STAT.UP l) = 0 ∧ u.get (LNK.LANE_STAT.LFAULT l) = 1 ∧ u.get (LNK.LANE_STAT.RFAULT l) = 0 ∧
        Keeps s u [(LNK.LANE_STAT.UP l).key, (LNK.LANE_STAT.LFAULT l).key, (LNK.LANE_STAT.RFAULT l).key] ∧ u = { s with reg := u.reg }) ∧
    (∀ remote, s.flag (LNK.LANE_CTL.EN l) = true → s.clkOn 3 = true → s.resetting 0x2B = false →
      Answers (.laneBlockLockGained l remote) s fun u =>
        u.get (LNK.LANE_STAT.UP l) = 1 ∧ u.get (LNK.LANE_STAT.LFAULT l) = 0 ∧ u.get (LNK.LANE_STAT.RFAULT l) = remote.toNat ∧
        Keeps s u [(LNK.LANE_STAT.UP l).key, (LNK.LANE_STAT.LFAULT l).key, (LNK.LANE_STAT.RFAULT l).key] ∧ u = { s with reg := u.reg }) := by
  refine ⟨fun hup => ?_, fun remote hen hclk hreset => ?_⟩
  · have hloss : s.laneLoss l = (s.laneShown l 0 1 0).fire 0x2B LNK.src.LANE_FAIL {} := if_pos hup
    exact answersVia_of rfl (congrArg State.settle hloss) (laneShown_shows s l (by decide) (by decide) (by decide))
  · have hgain : s.laneGain l remote = s.laneShown l 1 0 remote.toNat := if_pos ⟨hen, hclk, by rw [hreset]; rfl⟩
    exact answers_of rfl hgain (laneShown_shows s l (by decide) (by decide) remote.toNat_lt)

/-! External references -/

theorem cascadeRef_in_time {s : State} (l k : Nat) {age : Int} (hlo : -100000 ≤ age) (hhi : age ≤ 100000) :
    s.cascadeRef l k 2 age = s.set (CAN.EXT_REF.LIVE k) 1 := if_pos ⟨rfl, hlo, hhi⟩

theorem cascadeRef_late {s : State} (l k : Nat) {age : Int} (hlate : 100000 < age) :
    s.cascadeRef l k 2 age = ((s.set (CAN.EXT_REF.LIVE k) 0).count (LNK.RX_CNT.LATE l) 1).fire 0x20 CAN.src.EXTREF_LATE {} := by
  rw [State.cascadeRef, if_neg (by omega), if_pos hlate]

theorem cascadeFrameReceive_answers {s : State} {l k : Fin 16} {data : List Byte} {d : List Nat} (hd : d = data.map (·.toNat))
    (hup : s.laneUp l = true) :
    (d.length < 18 ∨ fcsOk d = false → AnswersSettled (.cascadeFrameReceive l data) s fun u =>
      u.get (LNK.RX_CNT.BAD l) = min (s.get (LNK.RX_CNT.BAD l) + 1) 65535 ∧ Keeps s u [(LNK.RX_CNT.BAD l).key]) ∧
    (18 ≤ d.length → fcsOk d = true → beAt d 12 2 ≠ 0x88F7 → beAt d 12 2 = s.get (LNK.LANE_CTL.ETYPE l) → beAt d 14 1 / 16 = 1 →
      s.flag (LNK.LANE_CTL.RX_EN l) = true → s.stopped 0x20 = false → s.extRefs l (beAt d 16 2 % 512) = [k.val] → beAt d 15 1 / 64 = 2 →
      ∀ age : Int, age = s.linkNum / 3072000000000000 - ((beAt d 22 6 * 1000000000 + beAt d 28 4 : Nat) : Int) →
      (-100000 ≤ age → age ≤ 100000 → AnswersSettled (.cascadeFrameReceive l data) s fun u =>
        u.get (CAN.EXT_REF.LIVE k) = 1 ∧ Keeps s u [(CAN.EXT_REF.LIVE k).key]) ∧
      (100000 < age →
        AnswersVia (.cascadeFrameReceive l data) s (fun u => (u.fire 0x20 CAN.src.EXTREF_LATE {}).settle) fun u =>
          u.get (CAN.EXT_REF.LIVE k) = 0 ∧ u.get (LNK.RX_CNT.LATE l) = min (s.get (LNK.RX_CNT.LATE l) + 1) 65535 ∧
          Keeps s u [(CAN.EXT_REF.LIVE k).key, (LNK.RX_CNT.LATE l).key])) := by
  subst hd
  constructor
  · intro hbad
    have hcount : s.cascade l data = s.count (LNK.RX_CNT.BAD l) 1 := by
      unfold State.cascade
      dsimp only
      rw [if_neg (by rw [hup]; decide), if_pos (hbad.imp_right fun h => by rw [h]; rfl)]
    exact answersSettled_of rfl hcount ⟨count_one_get_16 s (w_LNK_RX_CNT_BAD _), (Keeps.refl s _).set _ (by simp)⟩
  · intro hlen hfcs hptp htype hversion hrx hclk hrefs hpoint age hage
    have hserve : s.cascade l data = s.cascadeRef l k 2 age := by
      unfold State.cascade
      dsimp only
      rw [if_neg (by rw [hup]; decide), if_neg (by rw [hfcs]; simpa using hlen), if_neg hptp, if_neg (by simp [htype, hversion]),
        if_neg (by rw [hrx, hclk]; decide), hrefs, hpoint, ← hage]
      rfl
    refine ⟨fun hlo hhi => ?_, fun hlate => ?_⟩
    · exact answersSettled_of rfl (hserve.trans (cascadeRef_in_time l k hlo hhi)) ⟨State.get_set_same _ _ _, (Keeps.refl s _).set _ (by simp)⟩
    · refine answersVia_of rfl (congrArg State.settle (hserve.trans (cascadeRef_late l k hlate))) ⟨?_, ?_,
        ((Keeps.refl s _).set _ (by simp)).set _ (by simp)⟩
      · rw [State.count_eq, State.get_set_of_key_ne _ _ (by simp; omega), State.get_set_same, Nat.zero_mod]
      · rw [count_one_get_16 _ (w_LNK_RX_CNT_LATE _), State.get_set_of_key_ne _ _ (by simp; omega)]

/-- Settles O32, clause by clause: each command is brought to its effect, and what the effect leaves is read off. -/
theorem exportsAndLanes : Obligations.ExportsAndLanes :=
  ⟨fun _ _ _ _ htake => exportWrite_answers htake, fun _ _ _ _ hchange hlost => exportChangeApply_answers hchange hlost,
    fun _ _ _ _ _ hl hr hactive hstate hreset hgated hen => exportFrameSend_answers hl hr hactive hstate hreset hgated hen,
    laneBlockLock_answers, fun _ _ _ _ _ hd hup => cascadeFrameReceive_answers hd hup,
    fun s k => answers_of rfl rfl ⟨State.get_set_same s (CAN.EXT_REF.LIVE k) 0, (Keeps.refl s _).set 0 (by simp), rfl⟩⟩

end Sys2Proof.Machine
end

section
/-! SUPPORT. A slot that has reached OFF stays there, whatever fires and settles after it (R174, R340 to R344). -/
namespace Sys2Proof.Machine
open Sys2Proof

/-! What reactions leave of the slots -/

theorem modCh_slotsAs (s : State) (c : Nat) (f : BiasCh → BiasCh) : s.SlotsAs (s.modCh c f) := .of_reg rfl rfl rfl rfl rfl

theorem bState_key_lt (c : Nat) (hc : c < 64) : (bState c).key < 32 * 0x40000 := by
  simp [bState]
  omega

theorem startMove_slotsAs (s : State) {c : Nat} (hc : c < 64) : s.SlotsAs (s.startMove c) := by
  unfold State.startMove
  exact .ite (fun _ => (((modCh_slotsAs s c _).trans (modCh_slotsAs _ c _)).set _ (.inl (bState_key_lt c hc))))
    fun _ => ((modCh_slotsAs s c _).trans (modCh_slotsAs _ c _)).set _ (.inl (bState_key_lt c hc))

theorem retargetNow_slotsAs (s : State) {c : Nat} (hc : c < 64) : s.SlotsAs (s.retargetNow c) := by
  unfold State.retargetNow
  exact .ite (fun _ => startMove_slotsAs s hc) fun _ => .ite (fun _ => .refl s) fun _ => (State.SlotsAs.refl s).set _ (.inl (bState_key_lt c hc))

theorem enterSafe_slotsAs (s : State) {c : Nat} (hc : c < 64) : s.SlotsAs (s.enterSafe c) := by
  unfold State.enterSafe
  exact .ite (fun _ => modCh_slotsAs s c _) fun _ => .ite (fun _ => .refl s) fun _ =>
    (((State.SlotsAs.refl s).set (f := BIA.SAFE_STAT.SAFE (c / 32)) _ (by simp; omega)).trans (modCh_slotsAs _ c _)).trans (retargetNow_slotsAs _ hc)

theorem biasSafe_slotsAs (s : State) : s.SlotsAs s.biasSafe :=
  .foldl (fun u _ hc => enterSafe_slotsAs u (List.mem_range.mp (List.mem_filter.mp hc).1)) s

theorem holdCores_slotsAs (s : State) : s.SlotsAs s.holdCores := by
  have hset := (((State.SlotsAs.refl s).set (f := APC.CORE_STAT.RUN) 0 (by simp)).set (f := APC.CORE_STAT.HALTED) 0 (by simp)).set
    (f := SEC.BOOT_STAT.CORES) 0 (by simp)
  exact ⟨hset.get, hset.slots, hset.live, hset.active, hset.now⟩

theorem trapAll_slotsAs (s : State) (p b : Nat) : s.SlotsAs (s.trapAll p b) := by
  have hnmi : s.SlotsAs { s with nmi := s.nmi + 1 } := .of_reg rfl rfl rfl rfl rfl
  unfold State.trapAll State.trap
  have hset := ((hnmi.set (f := SEC.TRAP_NOTE.VALID) 1 (by simp)).set (f := SEC.TRAP_NOTE.PAGE) p (by simp)).set
    (f := SEC.TRAP_NOTE.BIT) b (by simp)
  exact .ite (fun _ => hnmi) fun _ => .ite (fun _ => hset.trans (holdCores_slotsAs _)) fun _ => hset

theorem latchTerminal_slotsAs (s : State) (p b : Nat) (forced : Bool) : s.SlotsAs (s.latchTerminal p b forced) := by
  unfold State.latchTerminal
  exact .ite (fun _ => .refl s) fun _ => (((((State.SlotsAs.refl s).set _ (by simp)).set _ (by simp)).set _ (by simp)).set _ (by simp)).set _
    (by simp)

theorem startFlush_slotsAs (s : State) : s.SlotsAs s.startFlush := .ite (fun _ => .refl s) fun _ => .of_reg rfl rfl rfl rfl rfl

theorem softReact_slotsAs (s : State) (p b r cls : Nat) (forced : Bool) : s.SlotsAs (s.softReact p b r cls forced) := by
  have hstep {c : Prop} [Decidable c] {f : State → State} (hf : ∀ u : State, u.SlotsAs (f u)) {u : State} (hu : s.SlotsAs u) :
      s.SlotsAs (if c then f u else u) := .ite (fun _ => hu.trans (hf u)) fun _ => hu
  unfold State.softReact
  exact hstep (fun u => latchTerminal_slotsAs u p b forced) (hstep (fun u => trapAll_slotsAs u p b)
    (hstep (fun u => biasSafe_slotsAs u) (hstep (fun u => startFlush_slotsAs u) (.refl s))))

/-! What an aborted transition leaves of the slots -/

theorem biasFreeze_slotsAs (s : State) : s.SlotsAs s.biasFreeze := by
  have hiced : s.SlotsAs { s with iced := true } := .of_reg rfl rfl rfl rfl rfl
  exact hiced.trans (.foldl (fun u c hc => .ite (fun _ => .refl u) fun _ =>
    (State.SlotsAs.refl u).set _ (.inl (bState_key_lt c (List.mem_range.mp hc)))) _)

theorem biasThaw_slotsAs (s : State) : s.SlotsAs s.biasThaw := by
  have hiced : s.SlotsAs { s with iced := false } := .of_reg rfl rfl rfl rfl rfl
  exact hiced.trans (.foldl (fun u c hc => .ite (fun _ => .ite (fun _ => startMove_slotsAs u (List.mem_range.mp hc)) fun _ =>
    (State.SlotsAs.refl u).set _ (.inl (bState_key_lt c (List.mem_range.mp hc)))) fun _ => .refl u) _)

theorem modChip_slotsAs (s : State) (n : Nat) (f : Cnv → Cnv) : s.SlotsAs (s.modChip n f) := .of_reg rfl rfl rfl rfl rfl

theorem cnvLoad_slotsAs (s : State) {n : Nat} (hn : n < 8) : s.SlotsAs (s.cnvLoad n) := by
  unfold State.cnvLoad
  refine .ite (fun _ => .refl s) fun _ => (modChip_slotsAs s n _).trans (.foldl (fun u c hc => ?_) _)
  have hc := List.mem_range.mp hc
  exact (((((State.SlotsAs.refl u).set (f := CNV.RX_CFG.DSA n c) _ (by simp; omega)).set (f := CNV.RX_CFG.ROLE n c) _ (by simp; omega)).set
    (f := CNV.TX_CFG.FS n c) _ (by simp; omega)).set (f := CNV.TX_CFG.ROLE n c) _ (by simp; omega)).trans (modChip_slotsAs _ n _)

theorem syncLnk_slotsAs (s : State) : s.SlotsAs s.syncLnk := .ite (fun _ => .refl s) fun _ => .of_reg rfl rfl rfl rfl rfl

theorem syncClusters_slotsAs (s : State) : s.SlotsAs s.syncClusters := by
  unfold State.syncClusters
  exact ((State.SlotsAs.refl s).setCan _).trans (.foldl (fun u k hk => (State.SlotsAs.refl u).set _ (by
    rw [List.mem_range] at hk; simp; omega)) _)

theorem syncClocks_slotsAs (s : State) : s.SlotsAs s.syncClocks :=
  (State.SlotsAs.foldl (fun u _ hn => cnvLoad_slotsAs u (List.mem_range.mp hn)) s).trans
    ((syncLnk_slotsAs _).trans (syncClusters_slotsAs _))

theorem convDown_slotsAs (s : State) : s.SlotsAs s.convDown := by
  unfold State.convDown
  exact (State.SlotsAs.foldl (fun u n hn => by
    have hn := List.mem_range.mp hn
    exact (((State.SlotsAs.refl u).set (f := SYN.SYN_STAT.READY n) 0 (by simp; omega)).set (f := SYN.SYN_STAT.LOCK n) 0 (by simp; omega)).set
      (f := SYN.SYN_STAT.CONV_RDY n) 0 (by simp; omega)) s).trans (syncClocks_slotsAs _)

/-! A slot that is OFF -/

/-- A slot is OFF, and does not count. -/
def State.gone (s : State) (i : Nat) : Prop := s.get (SLP.SLOT_STAT.STATE i) = 0 ∧ i ∉ s.active

theorem gone_of_activity {s t : State} {i : Nat} (h : s.gone i) (hstate : t.get (SLP.SLOT_STAT.STATE i) = s.get (SLP.SLOT_STAT.STATE i))
    (hactivity : t.activity = s.activity) : t.gone i := by
  have hactive : t.active = s.active := congrArg Prod.fst hactivity
  exact ⟨hstate.trans h.1, hactive ▸ h.2⟩

theorem gone_of_slots {s t : State} {i : Nat} (hi : i < 512) (h : s.gone i) (ht : s.SlotsAs t) : t.gone i :=
  ⟨(ht.get _ ((ofSlot_STATE i).inSlots hi)).trans h.1, ht.active ▸ h.2⟩

theorem gone_set {s : State} {i : Nat} (h : s.gone i) {f : Fld} (v : Nat) (hf : ¬(SLP.SLOT_STAT.STATE i).key = f.key) : (s.set f v).gone i :=
  gone_of_activity h (State.get_set_ne s v hf) rfl

theorem enabled_ne_of_gone {s : State} {i j : Nat} (h : s.gone i) (hj : j ∈ s.enabled) : i ≠ j :=
  fun hij => h.2 (hij ▸ (mem_enabled.mp hj).1)

/-! Holds -/

theorem holdAll_gone {s : State} {i : Nat} (h : s.gone i) (b : Nat) (on : Bool) : (s.holdAll b on).gone i := by
  refine gone_of_activity h (foldl_keeps_mem (fun u : State => u.get (SLP.SLOT_STAT.STATE i)) _ _ (fun u j hj => ?_) s) (holdAll_activity s b on)
  have hij := enabled_ne_of_gone h hj
  cases on
  · exact congrArg Prod.fst (unhold_slotView hij (ofSlot_STATE i) u b)
  · exact congrArg Prod.fst (hold_slotView hij (ofSlot_STATE i) u b)

theorem cutRamps_gone {s : State} {i : Nat} (h : s.gone i) : s.cutRamps.gone i := gone_of_activity h (cutRamps_get s _) (cutRamps_activity s)

theorem syncGate_gone {s : State} {i : Nat} (h : s.gone i) : s.syncGate.gone i :=
  iteInduction (motive := fun u : State => u.gone i) (fun _ => cutRamps_gone (holdAll_gone h _ _)) fun _ => holdAll_gone h _ _

theorem txOff_gone {s : State} {i : Nat} (h : s.gone i) : s.txOff.gone i := by
  refine gone_of_activity h ?_ (txOff_activity s)
  rw [txOff_eq, cutRamps_get, slotOffs_STATE _ _ fun hi => enabled_ne_of_gone h hi rfl]

/-! Reactions -/

/-- The pages of which a source may fire after a slot has ended: that of the power states, and those of which settling may fire one. -/
def latePage (p : Nat) : Prop := p = 0x02 ∨ settlePage p

theorem restartSlot_STATE (s : State) (i j : Nat) : (s.restartSlot i).get (SLP.SLOT_STAT.STATE j) = s.get (SLP.SLOT_STAT.STATE j) := by
  have hset (u : State) {f : Fld} (v : Nat) (hf : f = SLP.SLOT_STAT.COMMIT_PEND i ∨ f = SLP.SLOT_STAT.HIST_VALID i) :
      (u.set f v).get (SLP.SLOT_STAT.STATE j) = u.get (SLP.SLOT_STAT.STATE j) := by
    refine State.get_set_ne u v ?_
    rcases hf with rfl | rfl <;> simp [slotBase] <;> omega
  unfold State.restartSlot
  dsimp only
  rw [hset _ _ (.inr rfl)]
  split_ifs
  · rw [hset _ _ (.inl rfl), restartObs_STATE, State.modSlot_get, State.cut, State.weigh, State.modSlot_get, State.modSlot_get]
  · rw [restartObs_STATE, State.modSlot_get, State.cut, State.weigh, State.modSlot_get, State.modSlot_get]

theorem badFrom_get (s : State) (p : Nat) (g : Fld) : (s.badFrom p).get g = s.get g := by
  unfold State.badFrom
  exact foldl_keeps (fun u : State => u.get g) _ (fun u i => State.modSlot_get u i _ g) _ _

theorem restart_gone {s : State} {i p : Nat} (hp : latePage p) (h : s.gone i) : (s.restart p).gone i := by
  have hbad : (s.badFrom p).gone i := gone_of_activity h (badFrom_get s p _) (badFrom_activity s p)
  rcases hp with rfl | hp
  · exact ⟨hbad.1, hbad.2⟩
  refine gone_of_activity h ?_ (restart_activity s hp)
  rcases hp with rfl | rfl | hp
  · rw [restart_evt]
    exact badFrom_get s 6 _
  · rw [restart_gov]
    exact badFrom_get s 0x23 _
  · rw [State.restart, if_pos (.inr hp), ← badFrom_get s p]
    exact foldl_keeps (fun u : State => u.get (SLP.SLOT_STAT.STATE i)) _ (fun u j => restartSlot_STATE u j i) _ _

theorem blockReset_gone {s : State} {i p : Nat} (hp : latePage p) (h : s.gone i) : (s.blockReset p).gone i := by
  have hhdr {u : State} (hu : u.gone i) (f : Fld) (v : Nat) (hf : f = HDR.PAGE_STAT.RESET_ACTIVE p ∨ f = HDR.PAGE_CTL.SOFT_RESET p) :
      (u.set f v).gone i := by
    refine gone_set hu v ?_
    rcases hf with rfl | rfl <;> simp [slotBase] <;> omega
  unfold State.blockReset
  dsimp only
  split_ifs
  · exact h
  · refine restart_gone hp ?_
    exact hhdr (hhdr h _ 1 (.inl rfl)) _ 1 (.inr rfl)

theorem chipReset_gone (s : State) (c : Cause) (i : Nat) : (s.chipReset c).gone i := by
  refine ⟨?_, List.not_mem_nil⟩
  rw [chipReset_get, if_neg]
  · rfl
  · simp [keptAddr, slotBase]
    omega

theorem reactChip_gone {s : State} {i : Nat} (h : s.gone i) (p : Nat) (trip : Bool) : (s.reactChip p trip).gone i := by
  have haon : State.gone { s with aon := { s.aon with trip := trip } } i := h
  unfold State.reactChip
  dsimp only
  split_ifs
  · exact h
  · exact txOff_gone haon
  · exact chipReset_gone _ _ i

theorem hardReact_gone {s : State} {i p : Nat} (hp : latePage p) (h : s.gone i) (l : List (Nat × Nat)) :
    (s.hardReact p l).gone i := by
  unfold State.hardReact
  split_ifs
  · exact reactChip_gone h p _
  · exact blockReset_gone hp h
  · exact h

theorem reactions_gone {s : State} {i p : Nat} (hi : i < 512) (hp : latePage p) (h : s.gone i) (b r cls : Nat) (forced : Bool) :
    (s.reactions p b r cls forced).gone i := hardReact_gone hp (gone_of_slots hi h (softReact_slotsAs s p b r cls forced)) _

/-! Firing -/

theorem offRecords_STATE {i : Nat} (hi : i < 512) : (SLP.SLOT_STAT.STATE i).offRecords := by
  rw [Fld.offRecords, key_SLP_SLOT_STAT_STATE, slotBase]
  omega

theorem note_gone {s : State} {i : Nat} (hi : i < 512) (h : s.gone i) (r : Rec) : (s.note r).1.gone i :=
  gone_of_activity h (note_get (offRecords_STATE hi) s r) (note_activity s r)

theorem marks_gone {log : State → Rec → State} {i : Nat} (hlog : ∀ (t : State) (r : Rec), t.gone i → (log t r).gone i)
    {s : State} (h : s.gone i) (p b : Nat) (w : Why) : (s.marks log p b w).1.gone i := by
  have hstatus : ((s.status p b).updFirst p).gone i := by
    refine gone_of_activity h ?_ (by simp)
    rw [updFirst_get _ _ (by simp [slotBase]; omega), status_get _ _ _ (.inr (by rw [key_SLP_SLOT_STAT_STATE, slotBase]; omega))]
  have hcount : (s.count FLT.SHADOW.COUNT 1).gone i := gone_set h _ (by simp [slotBase]; omega)
  unfold State.marks
  dsimp only
  split_ifs
  · exact h
  · exact hlog _ _ hcount
  · exact hlog _ _ h
  all_goals exact hlog _ _ hstatus

theorem occurs_gone {log : State → Rec → State} {i : Nat} (hi : i < 512) (hlog : ∀ (t : State) (r : Rec), t.gone i → (log t r).gone i)
    {s : State} {p : Nat} (hp : latePage p) (h : s.gone i) (b : Nat) (w : Why) : (s.occurs log p b w).gone i := by
  have hmarks := marks_gone hlog h p b w
  unfold State.occurs
  dsimp only
  split
  · exact hmarks
  · exact reactions_gone hi hp hmarks _ _ _ _

theorem log_gone {s : State} {i : Nat} (hi : i < 512) (h : s.gone i) (r : Rec) : (s.log r).gone i := by
  unfold State.log
  dsimp only
  split_ifs
  · exact occurs_gone hi (fun t q ht => note_gone hi ht q) (.inr (.inl rfl)) (note_gone hi h r) _ _
  · exact note_gone hi h r

theorem termPermit_gone {s : State} {i : Nat} (hi : i < 512) (h : s.gone i) : s.termPermit.gone i := by
  unfold State.termPermit
  split_ifs
  · have hshut : ((s.set GOV.PERMIT.PERMIT 0).set GOV.PERMIT.CAUSE 4).gone i :=
      gone_set (gone_set h 0 (by simp [slotBase]; omega)) 4 (by simp [slotBase]; omega)
    exact occurs_gone hi (fun t r ht => log_gone hi ht r) (.inr (.inr (.inl rfl))) (syncGate_gone hshut) _ _
  · exact h

/-- A source that fires leaves a slot that is OFF as it is. -/
theorem fire_gone {s : State} {i p : Nat} (hi : i < 512) (hp : latePage p) (h : s.gone i) (b : Nat) (w : Why) : (s.fire p b w).gone i := by
  have hmarks := marks_gone (fun t r ht => log_gone hi ht r) h p b w
  unfold State.fire
  dsimp only
  split
  · exact hmarks
  · exact termPermit_gone hi (reactions_gone hi hp hmarks _ _ _ _)

/-- Settling leaves a slot that is OFF as it is. -/
theorem settle_gone {s : State} {i : Nat} (hi : i < 512) (h : s.gone i) : s.settle.gone i := by
  refine settle_induction (P := fun u => u.gone i) (fun u j _ b f hu => ?_) h
  rcases follow_cases u j b f with e | e | ⟨k, -, e⟩ <;> rw [e]
  · exact hu
  · exact hu
  · unfold State.condBegin
    split_ifs
    · exact hu
    · have hcond : State.gone { u with flt := { u.flt with conds := NSet.add u.flt.conds (srcKey (0x40 + j) b) } } i :=
        gone_of_activity hu (State.get_of_reg rfl _) rfl
      exact fire_gone hi (.inr (.inr (.inr (Nat.le_add_right _ _)))) hcond b _

/-! An aborted transition -/

theorem pwrBack_gone {s : State} {i : Nat} (hi : i < 512) (h : s.gone i) : s.pwrBack.gone i := by
  unfold State.pwrBack
  split
  · exact h
  next t _ =>
    have hreq : State.gone ((s.set PWR.PWR_CMD.BUSY 0).set PWR.PWR_CMD.REQ t.origin) i :=
      gone_set (gone_set h 0 (by simp [slotBase]; omega)) t.origin (by simp [slotBase]; omega)
    have hclear {u : State} (hu : u.gone i) (tr : Option PwrTr) (aon : Aon) : State.gone { u with tr := tr, aon := aon } i := ⟨hu.1, hu.2⟩
    have hbias {u : State} (hu : u.gone i) : State.gone (if t.origin = pStandby then u.biasFreeze.convDown else u.biasThaw) i :=
      gone_of_slots hi hu (.ite (fun _ => (biasFreeze_slotsAs u).trans (convDown_slotsAs _)) fun _ => biasThaw_slotsAs u)
    have hrest {u : State} (hu : u.gone i) : State.gone (if t.origin = pRun then u.freePower else u) i :=
      iteInduction (motive := fun v : State => v.gone i) (fun _ => holdAll_gone hu hPower false) fun _ => hu
    exact hrest (hbias (hclear hreq none _))

theorem pwrCount_gone {s : State} {i : Nat} (hi : i < 512) (h : s.gone i) (m req code : Nat) (abort : Bool) :
    (s.pwrCount m req code abort).gone i := by
  have hset {u : State} (hu : u.gone i) {f : Fld} (v : Nat) (hf : f.key < 32 * 0x3000) : (u.set f v).gone i :=
    gone_set hu v (by rw [key_SLP_SLOT_STAT_STATE, slotBase]; omega)
  unfold State.pwrCount
  exact fire_gone hi (.inl rfl) (hset (hset (hset (hset h _ (by simp)) _ (by simp)) _ (by simp)) _ (by simp)) _ _

/-- A transition that is aborted leaves a slot that is OFF as it is. -/
theorem pwrAbort_gone {s : State} {i : Nat} (hi : i < 512) (h : s.gone i) (code : Nat) : (s.pwrAbort code).gone i := by
  unfold State.pwrAbort
  split
  · exact h
  · exact pwrCount_gone hi (pwrBack_gone hi h) _ _ _ _

end Sys2Proof.Machine
end

section
/-! SUPPORT. Start, ramp, drain and end of a slot (R167, R173, R174). -/
namespace Sys2Proof.Machine
open Sys2Proof

/-! A running slot -/

theorem running_iff {s : State} {i : Nat} : s.running i = true ↔ i ∈ s.enabled ∧ (s.slot i).inReset = false := by
  simp [State.running]

theorem checkEnd_of_running {s : State} {i : Nat} (h : s.running i = true) : s.checkEnd i = s := by
  obtain ⟨-, hprep, -⟩ := mem_enabled.mp (running_iff.mp h).1
  exact if_pos (Nat.ne_of_gt hprep)

theorem historyFilled_answers {s : State} {i : Fin 512} (hrun : s.running i = true) :
    (s.clocksGated = false → AnswersSettled (.slotHistoryFilled i) s fun u =>
      u.get (SLP.SLOT_STAT.HIST_VALID i) = 1 ∧ Keeps s u [(SLP.SLOT_STAT.HIST_VALID i).key] ∧ u = { s with reg := u.reg, exps := u.exps }) ∧
    (s.clocksGated = true → AnswersSettled (.slotHistoryFilled i) s fun u => u = s) := by
  constructor
  · intro hgated
    refine answersSettled_of rfl ((congrArg (State.historyFilled · i) (checkEnd_of_running hrun)).trans (if_pos ⟨hrun, by rw [hgated]; rfl⟩))
      ⟨State.get_set_same _ _ _, ?_, rfl⟩
    exact Keeps.set (t := s.modExp i _) (Keeps.of_reg rfl _) 1 (by simp)
  · intro hgated
    refine answersSettled_of rfl ((congrArg (State.historyFilled · i) (checkEnd_of_running hrun)).trans (if_neg ?_)) rfl
    rw [hgated]
    exact fun h => absurd h.2 (by decide)

/-! Ramps -/

/-- What tells where the ramps of a slot stand. -/
def Slot.ramp (x : Slot) : Nat × Option Nat × Option Nat × Bool := (x.weight, x.upAt, x.downAt, x.resume)

theorem takeGain_ramp (s : State) (i : Nat) (a : Nat × Int) : ((s.takeGain i a).slot i).ramp = (s.slot i).ramp := by
  unfold State.takeGain
  dsimp only
  rw [slot_set, slot_set]
  split_ifs
  · rfl
  · rw [slot_modSlot_same]
    rfl
  · rw [slot_modSlot_same]
    rfl

theorem applyGain_ramp (s : State) (i : Nat) : ((s.applyGain i).slot i).ramp = (s.slot i).ramp := by
  unfold State.applyGain
  dsimp only
  split_ifs
  · exact takeGain_ramp _ i _
  · rw [slot_silence]
    rfl
  · rfl

theorem applyGain_STATE (s : State) (i : Nat) : (s.applyGain i).get (SLP.SLOT_STAT.STATE i) = s.get (SLP.SLOT_STAT.STATE i) := by
  have hput : (s.put (SLP.GAIN_STAT.BACKOFF i) (0 < s.get THM.STAT.LEVEL)).get (SLP.SLOT_STAT.STATE i) = s.get (SLP.SLOT_STAT.STATE i) :=
    State.get_set_ne s _ (by simp; omega)
  unfold State.applyGain
  dsimp only
  split_ifs
  · exact (takeGain_keeps _ i _ _ (by simp [gainKeys]; omega)).trans hput
  · rw [silence_STATE, hput]
  · exact hput

theorem rampUp_now (s : State) (i : Nat) : (s.rampUp i).now = s.now :=
  (besideSlots_iff.mp (rampUp_besideSlots (g := IDN.PROFILE.ACTIVE) (by simp) s i)).2.2.2.2

/-- A slot that ramps up from an instant on. -/
def Slot.rising (t : Nat) (x : Slot) : Slot := { x with weight := 0, upAt := some t, downAt := none, resume := false, muteGain := none }

theorem rampUp_eq (s : State) (i : Nat) : ∃ u : State, (s.modSlot i (Slot.rising (s.sampleAt i s.now))).SlotsAs u ∧
    s.rampUp i = ((u.silence i).set (SLP.SLOT_STAT.STATE i) stRampUp).applyGain i := by
  unfold State.rampUp
  dsimp only
  cases (s.slot i).muteGain with
  | none => exact ⟨_, .refl _, rfl⟩
  | some g => exact ⟨_, setCap_slotsAs _ i (g - 120), rfl⟩

theorem rampUp_STATE (s : State) (i : Nat) : (s.rampUp i).get (SLP.SLOT_STAT.STATE i) = 3 := by
  obtain ⟨u, -, heq⟩ := rampUp_eq s i
  rw [heq, applyGain_STATE, State.get_set_same]
  rfl

theorem rampUp_ramp (s : State) (i : Nat) : ((s.rampUp i).slot i).ramp = (0, some (s.sampleAt i s.now), none, false) := by
  obtain ⟨u, hu, heq⟩ := rampUp_eq s i
  rw [heq, applyGain_ramp, slot_set, slot_silence, hu.slot, slot_modSlot_same]
  rfl

theorem le_ceilTo {T : Nat} (hT : 0 < T) (t : Nat) : t ≤ ceilTo T t := by
  have hdiv := Nat.div_add_mod (t + T - 1) T
  have hmod := Nat.mod_lt (t + T - 1) hT
  rw [ceilTo, Nat.mul_comm]
  omega

/-- A ramp from zero that begins with the next sample has no weight yet. -/
theorem weightAt_of_ramp {x : Slot} {T t : Nat} (h : x.ramp = (0, some (ceilTo T t), none, false)) : x.weightAt T t = 0 := by
  simp only [Slot.ramp, Prod.mk.injEq] at h
  obtain ⟨hweight, hup, hdown, -⟩ := h
  have hnone : (t - ceilTo T t) / T = 0 := by
    rcases Nat.eq_zero_or_pos T with rfl | hT
    · exact Nat.div_zero _
    · rw [Nat.sub_eq_zero_of_le (le_ceilTo hT t), Nat.zero_div]
  simp only [Slot.weightAt, Slot.rise, hdown, hup, hweight, hnone]
  rfl

theorem applyGain_get (s : State) (i : Nat) {g : Fld} (hg : g.key / 32 ≠ slotBase i + 0x1C) : (s.applyGain i).get g = s.get g := by
  have hput : (s.put (SLP.GAIN_STAT.BACKOFF i) (0 < s.get THM.STAT.LEVEL)).get g = s.get g := State.get_set_ne s _ (by simp; omega)
  unfold State.applyGain
  dsimp only
  split_ifs
  · exact (takeGain_keeps _ i _ _ (by simp [gainKeys]; omega)).trans hput
  · rw [State.silence, State.get_set_of_key_ne _ _ (by simp; omega), State.get_set_of_key_ne _ _ (by simp; omega), hput]
  · exact hput

theorem rampUp_sampleT (s : State) {i : Nat} (hi : i < 512) : (s.rampUp i).sampleT i = s.sampleT i := by
  obtain ⟨u, hu, heq⟩ := rampUp_eq s i
  have hrate : (s.rampUp i).get (SLP.SLOT_CFG.RATE i) = s.get (SLP.SLOT_CFG.RATE i) := by
    rw [heq, applyGain_get _ i (by simp; omega), State.get_set_of_key_ne _ _ (by simp; omega), State.silence,
      State.get_set_of_key_ne _ _ (by simp; omega), State.get_set_of_key_ne _ _ (by simp; omega), hu.get _ ((ofSlot_RATE i).inSlots hi),
      State.modSlot_get]
  rw [State.sampleT, State.sampleT, State.units, State.units, hrate]

theorem rampUp_weightNow (s : State) {i : Nat} (hi : i < 512) : (s.rampUp i).weightNow i = 0 := by
  have hramp := rampUp_ramp s i
  rw [State.weightNow, rampUp_sampleT s hi, rampUp_now]
  exact weightAt_of_ramp hramp

theorem until_sampleAt (s : State) (t i x : Nat) : (s.until t).sampleAt i x = s.sampleAt i x := by
  rw [State.sampleAt, State.sampleAt, State.sampleT, State.sampleT, State.units, State.units, State.until_get]

theorem set_now (s : State) (f : Fld) (v : Nat) : (s.set f v).now = s.now := rfl
theorem silence_now (s : State) (i : Nat) : (s.silence i).now = s.now := by rw [State.silence, set_now, set_now]

/-- What SLOT_START makes of a slot at its boundary. -/
theorem startSlot_eq {s : State} {i t : Nat} (hrun : s.running i = true) (hprep : s.get (SLP.SLOT_STAT.STATE i) = 2)
    (hready : (s.slot i).waitsUp = false) (hat : s.rampAt i (max s.now ((s.slot i).acceptAt + us 200)) = some t) :
    s.startSlot i = if s.get (SLP.SLOT_STAT.HOLD i) = 0 then (s.until t).rampUp i
      else ((s.until t).set (SLP.SLOT_STAT.STATE i) stHeld).silence i := by
  rw [State.startSlot, checkEnd_of_running hrun]
  dsimp only
  rw [if_pos ⟨hrun, hprep, by rw [hready]; rfl⟩, hat]
  rfl

theorem slotStart_answers {s : State} {i : Fin 512} {t : Nat} (hrun : s.running i = true) (hprep : s.get (SLP.SLOT_STAT.STATE i) = 2)
    (hready : (s.slot i).waitsUp = false) (hat : s.rampAt i (max s.now ((s.slot i).acceptAt + us 200)) = some t) :
    AnswersSettled (.slotStart i) s fun u => t ≤ u.now ∧
      (s.get (SLP.SLOT_STAT.HOLD i) = 0 → u.get (SLP.SLOT_STAT.STATE i) = 3 ∧ u.weightNow i = 0 ∧
        (u.slot i).upAt = some (s.sampleAt i u.now)) ∧
      (s.get (SLP.SLOT_STAT.HOLD i) ≠ 0 → u.get (SLP.SLOT_STAT.STATE i) = 5 ∧ u.get (SLP.GAIN_STAT.APPLIED i) = 0x800 ∧
        u.get (SLP.GAIN_STAT.LIMIT i) = if 0 < (s.gv i).pclamp then 4 else 5) := by
  have heq := startSlot_eq hrun hprep hready hat
  by_cases hfree : s.get (SLP.SLOT_STAT.HOLD i) = 0
  · refine answersSettled_of rfl (heq.trans (if_pos hfree)) ⟨?_, fun _ => ⟨rampUp_STATE _ i, rampUp_weightNow _ i.isLt, ?_⟩,
      fun hheld => absurd hfree hheld⟩
    · rw [rampUp_now]
      exact le_max_right _ _
    · have hramp := rampUp_ramp (s.until t) i
      simp only [until_sampleAt, Slot.ramp, Prod.mk.injEq] at hramp
      rw [rampUp_now, hramp.2.1]
  · refine answersSettled_of rfl (heq.trans (if_neg hfree)) ⟨?_, fun hnone => absurd hnone hfree, fun _ => ⟨?_, ?_, ?_⟩⟩
    · rw [silence_now, set_now]
      exact le_max_right s.now t
    · rw [silence_STATE, State.get_set_same]
      rfl
    · rw [State.silence, State.get_set_same]
      rfl
    · rw [State.silence, State.get_set_of_key_ne _ _ (by simp), State.get_set_same,
        show (((s.until t).set (SLP.SLOT_STAT.STATE i) stHeld).gv i) = s.gv i from rfl]
      split_ifs <;> rfl

/-! The end of a ramp -/

/-- A slot at full weight from an instant on. -/
def Slot.full (now : Nat) (gain : Int) (x : Slot) : Slot :=
  { x with weight := 64, upAt := none, downAt := none, wasTill := now, wasGain := gain, wasRamp := (x.weight, x.upAt, x.downAt) }

/-- A slot whose ramp-up has ended, before ENABLED. -/
def State.risen (s : State) (i : Nat) : State :=
  ((s.until ((s.slot i).upAt.getD s.now + 64 * s.sampleT i)).weigh i 64).set (SLP.SLOT_STAT.STATE i) stOn

theorem risen_slot (s : State) (i : Nat) :
    (s.risen i).slot i = (s.slot i).full (s.risen i).now (sext 12 (s.get (SLP.GAIN_STAT.APPLIED i))) := by
  rw [State.risen, slot_set, State.weigh, slot_modSlot_same]
  rfl

theorem slotRampComplete_answers {s : State} {i : Fin 512} (hrun : s.running i = true) (hup : s.get (SLP.SLOT_STAT.STATE i) = 3) :
    AnswersVia (.slotRampComplete i) s (fun u => (u.fire (0x40 + i / 8) SLP.src.ENABLED { slot := some i.val }).settle) fun u =>
      u.get (SLP.SLOT_STAT.STATE i) = 4 ∧ u.slot i = { s.slot i with
        weight := 64, upAt := none, downAt := none, wasTill := u.now, wasGain := sext 12 (s.get (SLP.GAIN_STAT.APPLIED i))
        wasRamp := ((s.slot i).weight, (s.slot i).upAt, (s.slot i).downAt) } ∧
      (∀ t, (s.slot i).upAt = some t → t + 64 * s.sampleT i ≤ u.now) ∧ Keeps s u [(SLP.SLOT_STAT.STATE i).key] := by
  have heq : s.rampDone i = (s.risen i).fire (0x40 + i / 8) SLP.src.ENABLED { slot := some i.val } := if_pos ⟨hrun, hup⟩
  refine answersVia_of rfl (congrArg State.settle heq) ⟨State.get_set_same _ _ _, risen_slot s i, fun t ht => ?_, ?_⟩
  · have hnow : (s.risen i).now = max s.now ((s.slot i).upAt.getD s.now + 64 * s.sampleT i) := rfl
    rw [hnow, ht]
    exact le_max_right _ _
  · exact Keeps.set (t := (s.until _).weigh i 64) (Keeps.of_reg rfl _) _ (by simp)

theorem drainFrom_APPLIED (s : State) (i : Nat) : (s.drainFrom i).get (SLP.GAIN_STAT.APPLIED i) = 0x800 := by
  rw [State.drainFrom, State.silence, State.get_set_same]
  rfl

theorem drainFrom_weightNow (s : State) (i : Nat) : (s.drainFrom i).weightNow i = 0 :=
  weightNow_of_quiet (by rw [drainFrom_slot]; exact ⟨rfl, rfl, rfl⟩)

theorem drainFrom_now (s : State) (i : Nat) : (s.drainFrom i).now = s.now := congrArg (·.2.2) (drainFrom_livePart s i)

theorem slotRampDown_answers {s : State} {i : Fin 512} (hdown : s.get (SLP.SLOT_STAT.STATE i) = 6) :
    (Answers (.slotRampDownBegin i) s fun u => u = { s with now := max s.now ((s.slot i).downAt.getD s.now) }) ∧
    (Answers (.slotDrainStart i) s fun u => u.get (SLP.SLOT_STAT.STATE i) = 7 ∧ u.weightNow i = 0 ∧ s.silentAt i ≤ u.now ∧
      (u.slot i).endAt = some (u.now + s.drainLat) ∧ u.get (SLP.GAIN_STAT.APPLIED i) = 0x800 ∧
      Keeps s u [(SLP.SLOT_STAT.STATE i).key, (SLP.GAIN_STAT.APPLIED i).key, (SLP.GAIN_STAT.LIMIT i).key]) := by
  refine ⟨answers_of rfl (if_pos hdown) rfl, answers_of rfl (if_pos hdown) ⟨drainFrom_STATE _ i, drainFrom_weightNow _ i, ?_, ?_,
    drainFrom_APPLIED _ i, fun g hg => ?_⟩⟩
  · rw [drainFrom_now]
    exact le_max_right _ _
  · rw [drainFrom_slot, drainFrom_now]
    rfl
  · simp only [List.mem_cons, List.not_mem_nil, or_false, not_or] at hg
    obtain ⟨hstate, happlied, hlimit⟩ := hg
    rw [drainFrom_get _ _ hstate happlied hlimit, State.until_get]

theorem slotDrainEnd_answers {s : State} {i : Fin 512} (hdrain : s.get (SLP.SLOT_STAT.STATE i) = 7) (hreset : (s.slot i).inReset = false) :
    AnswersVia (.slotDrainEnd i) s (fun u => ((u.exportEnd i).slotGone i).settle) fun u =>
      u = { s with now := max s.now (min ((s.slot i).endAt.getD s.now) ((s.slot i).offAt + s.drainTicks i)) } :=
  answersVia_of rfl (congrArg State.settle (if_pos ⟨hdrain, by rw [hreset]; rfl⟩)) rfl

theorem slotResume_answers {s : State} {i : Fin 512} {t : Nat} (hheld : s.get (SLP.SLOT_STAT.STATE i) = 5)
    (hfree : s.get (SLP.SLOT_STAT.HOLD i) = 0) (hresume : (s.slot i).resume = true) (hreset : (s.slot i).inReset = false)
    (hchips : ∀ n ∈ s.chiplets i, (s.chip n).resume = false) (hat : s.rampAt i s.now = some t) :
    AnswersSettled (.slotResume i) s fun u => u.get (SLP.SLOT_STAT.STATE i) = 3 ∧ (u.slot i).resume = false ∧ t ≤ u.now := by
  have hidle : (!(s.chiplets i).any fun n => (s.chip n).resume) = true := by simpa using hchips
  have heq : s.resume i = (s.until t).rampUp i := by
    rw [State.resume, if_pos ⟨hheld, hfree, hresume, by rw [hreset]; rfl, hidle⟩, hat]
  have hramp := rampUp_ramp (s.until t) i
  simp only [Slot.ramp, Prod.mk.injEq] at hramp
  refine answersSettled_of rfl heq ⟨rampUp_STATE _ i, hramp.2.2.2, ?_⟩
  rw [rampUp_now]
  exact le_max_right _ _

/-! The end of a slot -/

/-- A slot whose registers read OFF and silent, no longer counting. -/
def State.readsGone (s : State) (i : Nat) : State :=
  let s := ((s.set (SLP.SLOT_STAT.STATE i) stOff).set (SLP.SLOT_STAT.HOLD i) 0).set (SLP.SLOT_STAT.COMMIT_PEND i) 0
  { (s.silence i).dropWarm i with active := NSet.rem s.active i, slots := Tab.set {} s.slots i {} }

/-- The extents of slot `i` of `r` return to the pool, and its governor and its channels end. -/
def State.freed (s r : State) (i : Nat) : State :=
  (((((s.modCs i fun x => { sgen := x.sgen }).returnExts i ((r.cs i).xts.map (·.ext) ++ (r.cs i).add.map (·.ext))).govOff i).forgetParks
    i).syncSums).trimChannels

/-- A slot that has ended, before OFF fires. -/
def State.slotEnded (s : State) (i : Nat) : State := ((s.abandonResize i).readsGone i).freed (s.abandonResize i) i

theorem slotGone_eq (s : State) (i : Nat) : s.slotGone i = (s.slotEnded i).fire (0x40 + i / 8) SLP.src.OFF { slot := some i } := rfl

theorem freed_slotsAs (s r : State) (i : Nat) : s.SlotsAs (s.freed r i) :=
  (((((modCs_slotsAs s i _).trans (returnExts_slotsAs _ i _)).trans (govOff_slotsAs _ i)).trans (forgetParks_slotsAs _ i)).trans
    (syncSums_slotsAs _)).trans (trimChannels_slotsAs _)

theorem slotEnded_slotsAs (s : State) (i : Nat) : ((s.abandonResize i).readsGone i).SlotsAs (s.slotEnded i) :=
  freed_slotsAs ((s.abandonResize i).readsGone i) (s.abandonResize i) i

theorem readsGone_get (s : State) {i : Nat} (hi : i < 512) {g : Fld} (hg : g.ofSlot i) : (s.readsGone i).get g =
    ((((s.set (SLP.SLOT_STAT.STATE i) stOff).set (SLP.SLOT_STAT.HOLD i) 0).set (SLP.SLOT_STAT.COMMIT_PEND i) 0).silence i).get g :=
  (dropWarm_slotsAs _ i).get g (hg.inSlots hi)

theorem readsGone_rest (s : State) (i : Nat) : (s.readsGone i).slot i = {} ∧ i ∉ (s.readsGone i).active ∧ (s.readsGone i).now = s.now := by
  have hslots : (s.readsGone i).slots = Tab.set {} s.slots i {} := rfl
  have hactive : (s.readsGone i).active = NSet.rem s.active i := rfl
  have hnow : (s.readsGone i).now = (((s.set (SLP.SLOT_STAT.STATE i) stOff).set (SLP.SLOT_STAT.HOLD i) 0).set
      (SLP.SLOT_STAT.COMMIT_PEND i) 0).now := (dropWarm_slotsAs _ i).now
  rw [State.slot, hslots, hactive, hnow, Tab.get_set_same]
  exact ⟨rfl, NSet.not_mem_rem s.active i, rfl⟩

theorem slotEnded_shows (s : State) {i : Nat} (hi : i < 512) : (s.slotEnded i).get (SLP.SLOT_STAT.STATE i) = 0 ∧
    (s.slotEnded i).get (SLP.SLOT_STAT.HOLD i) = 0 ∧ (s.slotEnded i).get (SLP.SLOT_STAT.COMMIT_PEND i) = 0 ∧
    (s.slotEnded i).get (SLP.GAIN_STAT.APPLIED i) = 0x800 ∧ (s.slotEnded i).slot i = {} ∧ i ∉ (s.slotEnded i).active ∧
    (s.slotEnded i).now = s.now := by
  have hgone := slotEnded_slotsAs s i
  obtain ⟨hslot, hactive, hnow⟩ := readsGone_rest (s.abandonResize i) i
  have hget {g : Fld} (hg : g.ofSlot i) := (hgone.get g (hg.inSlots hi)).trans (readsGone_get (s.abandonResize i) hi hg)
  have hquiet {v : State} {g : Fld} (hg : ¬g.key / 32 = slotBase i + 0x1C) : (v.silence i).get g = v.get g := by
    rw [State.silence, State.get_set_of_key_ne _ _ (by simp; omega), State.get_set_of_key_ne _ _ (by simp; omega)]
  refine ⟨?_, ?_, ?_, ?_, (hgone.slot i).trans hslot, ?_, hgone.now.trans (hnow.trans (abandonResize_slotsAs s i).now)⟩
  · rw [hget (ofSlot_STATE i), silence_STATE, State.get_set_of_key_ne _ _ (by simp), State.get_set_of_key_ne _ _ (by simp), State.get_set_same]
    rfl
  · rw [hget (ofSlot_HOLD i), hquiet (by simp; omega), State.get_set_of_key_ne _ _ (by simp), State.get_set_same, Nat.zero_mod]
  · rw [hget (ofSlot_COMMIT_PEND i), hquiet (by simp; omega), State.get_set_same, Nat.zero_mod]
  · rw [hget (ofSlot_APPLIED i), State.silence, State.get_set_same]
    rfl
  · rw [hgone.active]
    exact hactive

/-- Once its OFF has fired, a slot is OFF. -/
theorem slotGone_gone (s : State) {i : Nat} (hi : i < 512) : (s.slotGone i).gone i := by
  obtain ⟨hstate, -, -, -, -, hactive, -⟩ := slotEnded_shows s hi
  exact fire_gone hi (.inr (.inr (.inr (Nat.le_add_right _ _)))) ⟨hstate, hactive⟩ _ _

theorem slotDrainLate_answers {s : State} {i : Fin 512} (hstate : s.get (SLP.SLOT_STAT.STATE i) = 6 ∨ s.get (SLP.SLOT_STAT.STATE i) = 7) :
    Answers (.slotDrainLate i) s fun t => t.get (SLP.SLOT_STAT.STATE i) = 0 ∧ i.val ∉ t.active := by
  refine answers_of (u := (s.drainLate i).settle) rfl rfl (settle_gone i.isLt ?_)
  unfold State.drainLate
  rw [if_pos hstate]
  have hoff := slotGone_gone (((s.until ((s.slot i).offAt + s.drainTicks i)).fwdNote i FWD.src.DRAIN_LATE 7).exportEnd i) i.isLt
  exact iteInduction (motive := fun u : State => u.gone i) (fun _ => pwrAbort_gone i.isLt hoff 8) fun _ => hoff

/-- Settles O26: each step of a slot's life is brought to its effect; that a slot which has ended stays OFF is kept by every firing after it. -/
theorem slotLife : Obligations.SlotLife :=
  ⟨fun _ _ hrun => historyFilled_answers hrun, fun _ _ _ hrun hprep hready hat => slotStart_answers hrun hprep hready hat,
    fun _ _ hrun hup => slotRampComplete_answers hrun hup, fun _ _ hdown => slotRampDown_answers hdown,
    fun _ _ hdrain hreset => slotDrainEnd_answers hdrain hreset,
    fun s i => ⟨s.slotEnded i, slotGone_eq s i, slotEnded_shows s i.isLt⟩, fun _ _ hstate => slotDrainLate_answers hstate,
    fun _ _ _ hheld hfree hresume hreset hchips hat => slotResume_answers hheld hfree hresume hreset hchips hat⟩

end Sys2Proof.Machine
end

section
/-! SUPPORT. The coefficient pool, the extent lists and the descriptors as masters see them (R193, R195, R196, R201, R216, R217). -/
namespace Sys2Proof.Machine
open Sys2Proof

/-! A read that steps its selector on -/

/-- A word is returned, and the selector that names it steps on for the owner or a delegate alone. -/
def State.stepRead (s : State) (m : Master) (p : Nat) (f : Fld) (w : Nat) : State :=
  (if s.readsWithEffect m p then s.ask.set f (s.ask.get f + 1) else s.ask).reply w

theorem stepRead_out (s : State) (m : Master) (p : Nat) (f : Fld) (w : Nat) : (s.stepRead m p f w).out = [BitVec.ofNat 32 w] := by
  unfold State.stepRead
  split_ifs <;> rfl

theorem stepRead_can (s : State) (m : Master) (p : Nat) (f : Fld) (w : Nat) : (s.stepRead m p f w).can = s.can := by
  unfold State.stepRead
  split_ifs <;> rfl

theorem stepRead_canS (s : State) (m : Master) (p : Nat) (f : Fld) (w : Nat) : (s.stepRead m p f w).canS = s.canS := by
  unfold State.stepRead
  split_ifs <;> rfl

theorem stepRead_get (s : State) (m : Master) (p : Nat) (f : Fld) (w : Nat) :
    (s.stepRead m p f w).get f = if s.readsWithEffect m p then (s.get f + 1) % 2 ^ f.w else s.get f := by
  unfold State.stepRead
  split_ifs
  · exact State.get_set_same s.ask f _
  · rfl

theorem stepRead_keeps (s : State) (m : Master) (p : Nat) (f : Fld) (w : Nat) : Keeps s (s.stepRead m p f w) [f.key] := by
  unfold State.stepRead
  split_ifs
  · exact ((Keeps.of_reg (State.ask_reg s) _).set _ (List.mem_singleton.mpr rfl)).reg_eq rfl
  · exact Keeps.of_reg rfl _

/-! Entries of the pool -/

theorem poolNext_ENTRY (s : State) : s.poolNext.get CAN.POOL_ADDR.ENTRY = (s.get CAN.POOL_ADDR.ENTRY + 1) % 2 ^ 21 :=
  State.get_set_same _ _ _

theorem poolNext_keeps (s : State) : Keeps s s.poolNext [CAN.POOL_ADDR.ENTRY.key] := (Keeps.refl s _).set _ (List.mem_singleton.mpr rfl)

theorem poolNext_shadowLocked (s : State) (i : Nat) : s.poolNext.shadowLocked i = s.shadowLocked i := by
  unfold State.shadowLocked State.flag State.poolNext
  rw [State.get_set_of_key_ne _ _ (by simp [slotBase]; omega)]

section
variable {s : State} {e i : Nat} (m v : Nat)

theorem poolWrite_taken (howner : s.extOwner (e / 64) = some i) (hmode : (s.cs i).mode = 3) (hlock : s.shadowLocked i = false) :
    s.poolWrite m false e v = s.modPool fun t => Tab.set 0 t (s.poolKey false e) v := by
  simp [State.poolWrite, howner, hmode, hlock]

theorem poolWrite_locked (howner : s.extOwner (e / 64) = some i) (hmode : (s.cs i).mode = 3) (hlock : s.shadowLocked i = true) :
    s.poolWrite m false e v = s.fwdNote i FWD.src.SHADOW_LOCKED m := by
  simp [State.poolWrite, howner, hmode, hlock]

/-- A write is dropped in the live view, for a free extent, and outside OWNER mode. -/
theorem poolWrite_dropped {live : Bool} (h : live = true ∨ s.extOwner (e / 64) = none ∨
    ∃ i, s.extOwner (e / 64) = some i ∧ (s.cs i).mode ≠ 3) : s.poolWrite m live e v = s.poolNote e CAN.src.POOL_WR m := by
  rcases h with rfl | hfree | ⟨i, howner, hmode⟩
  · rfl
  · simp [State.poolWrite, hfree]
  · cases live <;> simp [State.poolWrite, howner, hmode]

end

/-- An entry with a double-bit error is used as zero, and its extent is to be retired. -/
def State.poolLost (s : State) (e : Nat) : State :=
  { s with can := { s.can with pool := Tab.set 0 s.can.pool (s.poolKey true e) 0, bad := NSet.add s.can.bad (e / 64) } }

theorem poolEcc_single (s : State) (e : Nat) : s.poolEcc e false = (s.count CAN.POOL_ERR.CE_CNT 1).poolNote e CAN.src.POOL_CE 7 := rfl
theorem poolEcc_double (s : State) (e : Nat) : s.poolEcc e true = (s.poolLost e).poolNote e CAN.src.POOL_UE 7 := rfl

theorem poolLost_read (s : State) (e : Nat) : (s.poolLost e).poolRead true e = 0 := Tab.get_set_same 0 s.can.pool (s.poolKey true e) 0

theorem poolLost_bad (s : State) (e : Nat) : (s.poolLost e).can.bad.contains (e / 64) = true :=
  List.contains_iff_mem.mpr (NSet.mem_add.mpr (.inl rfl))

/-! Extent lists -/

section
variable {s : State} (m : Nat) (v : Word)

theorem xtWrite_taken {x : Xt} (hnow : s.xtNow = some x) (hmode : (s.cs (s.get CAN.XT_SEL.SLOT)).mode = 3)
    (hfirst : ((s.cs (s.get CAN.XT_SEL.SLOT)).xts.findIdx? fun y => y.agg == x.agg) = some (s.get CAN.XT_SEL.INDEX)) :
    s.xtWrite m v = s.modCs (s.get CAN.XT_SEL.SLOT) fun y => { y with shift := y.shift.set x.agg (CAN.XT_DATA.SHIFT.of v) } := by
  unfold State.xtWrite
  rw [hnow]
  exact if_pos ⟨hmode, hfirst⟩

theorem xtWrite_dropped (h : ∀ x, s.xtNow = some x → (s.cs (s.get CAN.XT_SEL.SLOT)).mode = 3 →
    ((s.cs (s.get CAN.XT_SEL.SLOT)).xts.findIdx? fun y => y.agg == x.agg) ≠ some (s.get CAN.XT_SEL.INDEX)) :
    s.xtWrite m v = s.canNote (s.get CAN.XT_SEL.SLOT) CAN.src.POOL_WR m := by
  unfold State.xtWrite
  dsimp only
  split
  next x hnow => exact if_neg fun ⟨hmode, hfirst⟩ => h x hnow hmode hfirst
  next => rfl

end

theorem modCs_cs_same (s : State) (i : Nat) (f : CanSlot → CanSlot) : (s.modCs i f).cs i = f (s.cs i) := Tab.get_upd_same _ _ _ _

/-! The accesses -/

theorem poolDataWrite_answers {s : State} {m : Master} {v : Word} (ht : s.takes m 0x20074 v) :
    (∀ i, s.flag CAN.POOL_ADDR.BANK = true → s.extOwner (s.get CAN.POOL_ADDR.ENTRY / 64) = some i → (s.cs i).mode = 3 →
      (s.shadowLocked i = false → AnswersSettled (.poolDataAccess m true v) s fun u =>
        (∀ k, Tab.get 0 u.can.pool k = if k = s.poolKey false (s.get CAN.POOL_ADDR.ENTRY) then v.toNat else Tab.get 0 s.can.pool k) ∧
        u.get CAN.POOL_ADDR.ENTRY = (s.get CAN.POOL_ADDR.ENTRY + 1) % 2 ^ 21 ∧ Keeps s u [CAN.POOL_ADDR.ENTRY.key]) ∧
      (s.shadowLocked i = true →
        AnswersVia (.poolDataAccess m true v) s (fun u => (u.fwdNote i FWD.src.SHADOW_LOCKED m.num).settle) fun u =>
          u.can.pool = s.can.pool ∧ Keeps s u [CAN.POOL_ADDR.ENTRY.key])) ∧
    (s.flag CAN.POOL_ADDR.BANK = false ∨ s.extOwner (s.get CAN.POOL_ADDR.ENTRY / 64) = none ∨
        (∃ i, s.extOwner (s.get CAN.POOL_ADDR.ENTRY / 64) = some i ∧ (s.cs i).mode ≠ 3) →
      AnswersVia (.poolDataAccess m true v) s (fun u => (u.poolNote (s.get CAN.POOL_ADDR.ENTRY) CAN.src.POOL_WR m.num).settle) fun u =>
        u.can.pool = s.can.pool ∧ u.get CAN.POOL_ADDR.ENTRY = (s.get CAN.POOL_ADDR.ENTRY + 1) % 2 ^ 21 ∧
        Keeps s u [CAN.POOL_ADDR.ENTRY.key]) := by
  have htake : s.poolWordWrite m v = (s.outcome m 0).poolNext.poolWrite m.num (!s.flag CAN.POOL_ADDR.BANK) (s.get CAN.POOL_ADDR.ENTRY)
      v.toNat := guarded_of_takes (fun t => t.poolDataWrite m.num v) ht (by decide)
  have hkeeps : Keeps s (s.outcome m 0).poolNext [CAN.POOL_ADDR.ENTRY.key] := poolNext_keeps (s.outcome m 0)
  have hentry := poolNext_ENTRY (s.outcome m 0)
  refine ⟨fun i hbank howner hmode => ?_, fun h => ?_⟩
  · rw [hbank] at htake
    refine ⟨fun hlock => ?_, fun hlock => ?_⟩
    · have hwrite := poolWrite_taken (s := (s.outcome m 0).poolNext) m.num v.toNat howner hmode ((poolNext_shadowLocked _ i).trans hlock)
      exact answersSettled_of rfl (htake.trans hwrite) ⟨fun k => Tab.get_set 0 s.can.pool k _ _, hentry, hkeeps.reg_eq rfl⟩
    · have hwrite := poolWrite_locked (s := (s.outcome m 0).poolNext) m.num v.toNat howner hmode ((poolNext_shadowLocked _ i).trans hlock)
      exact answersVia_of rfl (congrArg State.settle (htake.trans hwrite)) ⟨rfl, hkeeps⟩
  · have hwrite := poolWrite_dropped (s := (s.outcome m 0).poolNext) (e := s.get CAN.POOL_ADDR.ENTRY) m.num v.toNat
      (live := !s.flag CAN.POOL_ADDR.BANK) (h.imp_left fun hb => by rw [hb]; rfl)
    exact answersVia_of rfl (congrArg State.settle (htake.trans hwrite)) ⟨rfl, hentry, hkeeps⟩

theorem poolDataRead_answers {s : State} {m : Master} (v : Word) (h : s.reaches m) (hon : s.pageOff 0x20 = false) :
    AnswersSettled (.poolDataAccess m false v) s fun u =>
      u.out = [BitVec.ofNat 32 (s.poolRead (!s.flag CAN.POOL_ADDR.BANK) (s.get CAN.POOL_ADDR.ENTRY))] ∧ u.can = s.can ∧
      u.get CAN.POOL_ADDR.ENTRY = (if s.readsWithEffect m 0x20 then (s.get CAN.POOL_ADDR.ENTRY + 1) % 2 ^ 21 else s.get CAN.POOL_ADDR.ENTRY) ∧
      Keeps s u [CAN.POOL_ADDR.ENTRY.key] :=
  answersSettled_of (u := s.stepRead m 0x20 CAN.POOL_ADDR.ENTRY s.poolData) rfl
    (ask_readBy_on State.poolData State.poolNext h (by decide) hon)
    ⟨stepRead_out _ _ _ _ _, stepRead_can _ _ _ _ _, stepRead_get _ _ _ _ _, stepRead_keeps _ _ _ _ _⟩

theorem xtDataRead_answers {s : State} {m : Master} (v : Word) (h : s.reaches m) (hon : s.pageOff 0x20 = false) :
    AnswersSettled (.xtDataAccess m false v) s fun u => u.out = [BitVec.ofNat 32 s.xtData] ∧ u.canS = s.canS ∧
      u.get CAN.XT_SEL.INDEX = (if s.readsWithEffect m 0x20 then (s.get CAN.XT_SEL.INDEX + 1) % 128 else s.get CAN.XT_SEL.INDEX) ∧
      Keeps s u [CAN.XT_SEL.INDEX.key] :=
  answersSettled_of (u := s.stepRead m 0x20 CAN.XT_SEL.INDEX s.xtData) rfl
    (ask_readBy_on State.xtData State.xtNext h (by decide) hon)
    ⟨stepRead_out _ _ _ _ _, stepRead_canS _ _ _ _ _, stepRead_get _ _ _ _ _, stepRead_keeps _ _ _ _ _⟩

theorem descDataRead_answers {s : State} {m : Master} {k : Fin 16} (h : s.reaches m) (hon : s.pageOff (0x30 + k.val) = false) :
    Answers (.descDataRead m k) s fun u => u.out = [BitVec.ofNat 32 (s.descData k)] ∧ u.can = s.can ∧
      u.get (YCL.DESC_SEL.WORD k) = (if s.readsWithEffect m (0x30 + k.val) then (s.get (YCL.DESC_SEL.WORD k) + 1) % 16
        else s.get (YCL.DESC_SEL.WORD k)) ∧ Keeps s u [(YCL.DESC_SEL.WORD k).key] := by
  have hpage : pageOf (0x30050 + 0x1000 * k.val) = 0x30 + k.val := by unfold pageOf; omega
  have hread := ask_readBy_on (a := 0x30050 + 0x1000 * k.val) (fun t => t.descData k) (fun t => t.descNext k) h (by omega) (by rwa [hpage])
  rw [hpage] at hread
  exact answers_of (u := s.stepRead m (0x30 + k.val) (YCL.DESC_SEL.WORD k) (s.descData k)) rfl hread
    ⟨stepRead_out _ _ _ _ _, stepRead_can _ _ _ _ _, stepRead_get _ _ _ _ _, stepRead_keeps _ _ _ _ _⟩

theorem poolEcc_answers (s : State) (e : BitVec 21) :
    (AnswersVia (.poolEccError e false) s (fun u => (u.poolNote e.toNat CAN.src.POOL_CE 7).settle) fun u =>
      u.get CAN.POOL_ERR.CE_CNT = min (s.get CAN.POOL_ERR.CE_CNT + 1) 255 ∧ Keeps s u [CAN.POOL_ERR.CE_CNT.key] ∧ u.can = s.can) ∧
    AnswersVia (.poolEccError e true) s (fun u => (u.poolNote e.toNat CAN.src.POOL_UE 7).settle) fun u =>
      u.poolRead true e.toNat = 0 ∧ u.can.bad.contains (e.toNat / 64) = true ∧ Keeps s u [] ∧ u.canS = s.canS ∧
      ∀ k, k ≠ s.poolKey true e.toNat → Tab.get 0 u.can.pool k = Tab.get 0 s.can.pool k :=
  ⟨answersVia_of rfl (congrArg State.settle (poolEcc_single s e.toNat))
    ⟨count_one_get_8 s rfl, (Keeps.refl s _).set _ (List.mem_singleton.mpr rfl), rfl⟩,
   answersVia_of rfl (congrArg State.settle (poolEcc_double s e.toNat))
    ⟨poolLost_read s e.toNat, poolLost_bad s e.toNat, Keeps.of_reg rfl _, rfl, fun _ hk => Tab.get_set_ne 0 0 s.can.pool 0 hk⟩⟩

theorem xtDataWrite_answers {s : State} {m : Master} {v : Word} (ht : s.takes m 0x20064 v) :
    (∀ x, s.xtNow = some x → (s.cs (s.get CAN.XT_SEL.SLOT)).mode = 3 →
      ((s.cs (s.get CAN.XT_SEL.SLOT)).xts.findIdx? fun y => y.agg == x.agg) = some (s.get CAN.XT_SEL.INDEX) →
      AnswersSettled (.xtDataAccess m true v) s fun u => Keeps s u [] ∧ u.can = s.can ∧
        (u.cs (s.get CAN.XT_SEL.SLOT)).shift = (s.cs (s.get CAN.XT_SEL.SLOT)).shift.set x.agg (bits v.toNat 18 4)) ∧
    ((∀ x, s.xtNow = some x → (s.cs (s.get CAN.XT_SEL.SLOT)).mode = 3 →
        ((s.cs (s.get CAN.XT_SEL.SLOT)).xts.findIdx? fun y => y.agg == x.agg) ≠ some (s.get CAN.XT_SEL.INDEX)) →
      AnswersVia (.xtDataAccess m true v) s (fun u => (u.canNote (s.get CAN.XT_SEL.SLOT) CAN.src.POOL_WR m.num).settle) fun u =>
        Keeps s u [] ∧ u.canS = s.canS) := by
  have htake : s.xtDataWrite m v = (s.outcome m 0).xtWrite m.num v := guarded_of_takes (fun t => t.xtWrite m.num v) ht (by decide)
  refine ⟨fun x hnow hmode hfirst => ?_, fun h => ?_⟩
  · exact answersSettled_of rfl (htake.trans (xtWrite_taken (s := s.outcome m 0) m.num v hnow hmode hfirst))
      ⟨Keeps.of_reg rfl _, rfl, congrArg CanSlot.shift (modCs_cs_same _ _ _)⟩
  · exact answersVia_of rfl (congrArg State.settle (htake.trans (xtWrite_dropped (s := s.outcome m 0) m.num v h)))
      ⟨Keeps.of_reg rfl _, rfl⟩

/-- Settles O36, access by access: a taken write is brought to its one effect on the pool or the extent list, and a read to the word that it
returns and the selector that it steps on. -/
theorem poolAccess : Obligations.PoolAccess :=
  ⟨fun _ _ _ ht => poolDataWrite_answers ht,
   fun _ _ v h hon => ⟨poolDataRead_answers v h hon, xtDataRead_answers v h hon⟩,
   fun s e => poolEcc_answers s e,
   fun _ _ _ ht => xtDataWrite_answers ht,
   fun _ _ _ h hon => descDataRead_answers h hon⟩

end Sys2Proof.Machine
end

section
/-! SUPPORT. What a written register, the sums of the slots and an abandoned warm load leave of the state (R7, R165, R197, R214). -/
namespace Sys2Proof.Machine
open Sys2Proof

/-- What does not depend on the register file stays where nothing else changes. -/
theorem of_regOnly {α : Type} {s t : State} (h : t = { s with reg := t.reg }) (P : State → α) (hP : ∀ r, P { s with reg := r } = P s) :
    P t = P s := (congrArg P h).trans (hP _)

theorem regOnly_trans {s t u : State} (h : t = { s with reg := t.reg }) (h' : u = { t with reg := u.reg }) : u = { s with reg := u.reg } :=
  h'.trans (by rw [h])

/-! A register takes a word -/

theorem writeFld_eq (s : State) (v : Word) (f : Fld) : s.writeFld v f = s ∨ ∃ n, s.writeFld v f = s.set f n := by
  unfold State.writeFld
  split
  exacts [.inr ⟨_, rfl⟩, .inr ⟨_, rfl⟩, .inr ⟨_, rfl⟩, .inr ⟨_, rfl⟩, .inl rfl]

/-- A write of registers touches nothing but the register file. -/
theorem writeFlds_regOnly (s : State) (fs : List Fld) (v : Word) : s.writeFlds fs v = { s with reg := (s.writeFlds fs v).reg } := by
  refine List.foldlRecOn (motive := fun t : State => t = { s with reg := t.reg }) fs _ rfl fun t ht f _ => ?_
  rcases writeFld_eq t v f with e | ⟨n, e⟩ <;> rw [e]
  · exact ht
  · exact set_regOnly ht f n

theorem writeReg_regOnly (s : State) (a : Nat) (v : Word) : s.writeReg a v = { s with reg := (s.writeReg a v).reg } :=
  writeFlds_regOnly s _ v

/-- A write of registers keeps every field but those that it names. -/
theorem writeFlds_keeps (s : State) (fs : List Fld) (v : Word) : Keeps s (s.writeFlds fs v) (fs.map Fld.key) := by
  refine List.foldlRecOn (motive := fun t : State => Keeps s t (fs.map Fld.key)) fs _ (Keeps.refl s _) fun t ht f hf => ?_
  rcases writeFld_eq t v f with e | ⟨n, e⟩ <;> rw [e]
  · exact ht
  · exact ht.set n (List.mem_map_of_mem hf)

/-- A plain field takes its bits of the word. -/
theorem writeFlds_get {fs : List Fld} (hrw : ∀ f ∈ fs, f.acc = .rw) (hne : fs.Pairwise fun f g => f.key ≠ g.key) (v : Word) {f : Fld}
    (hf : f ∈ fs) (s : State) : (s.writeFlds fs v).get f = f.of v := by
  induction fs generalizing s with
  | nil => exact absurd hf List.not_mem_nil
  | cons g gs ih =>
    obtain ⟨hg, hgs⟩ := List.pairwise_cons.mp hne
    rcases List.mem_cons.mp hf with rfl | hf
    · have hkeep : f.key ∉ gs.map Fld.key := fun hmem => by
        obtain ⟨h, hh, hkey⟩ := List.mem_map.mp hmem
        exact hg h hh hkey.symm
      have hfld : s.writeFld v f = s.set f (f.of v) := by
        unfold State.writeFld
        rw [hrw f List.mem_cons_self]
      calc ((s.writeFld v f).writeFlds gs v).get f = (s.writeFld v f).get f := writeFlds_keeps _ gs v f hkeep
        _ = f.of v % 2 ^ f.w := by rw [hfld, State.get_set_same]
        _ = f.of v := bits_mod _ _ _
    · exact ih (fun h hh => hrw h (List.mem_cons_of_mem g hh)) hgs hf (s.writeFld v g)

/-! The sums of the slots -/

/-- A byte address that shows a sum of the slots: BUDGET and POOL of page CAN, and the pages of the forward-path groups. -/
def showsSum (a : Nat) : Bool := a == 0x20040 || a == 0x20044 || (0x18000 ≤ a && a < 0x20000)

theorem showsSum_of_group {a : Nat} (hlo : 0x18000 ≤ a) (hhi : a < 0x20000) : showsSum a = true := by simp [showsSum, hlo, hhi]

theorem syncSums_regOnly (s : State) : s.syncSums = { s with reg := s.syncSums.reg } :=
  List.foldlRecOn (motive := fun t : State => t = { s with reg := t.reg }) _ _
    (set_regOnly (set_regOnly (set_regOnly rfl _ _) _ _) _ _) fun _ ht _ _ => set_regOnly (set_regOnly ht _ _) _ _

theorem syncSums_can (s : State) : s.syncSums.can = s.can := of_regOnly (syncSums_regOnly s) State.can fun _ => rfl
theorem syncSums_canS (s : State) : s.syncSums.canS = s.canS := of_regOnly (syncSums_regOnly s) State.canS fun _ => rfl
theorem syncSums_active (s : State) : s.syncSums.active = s.active := of_regOnly (syncSums_regOnly s) State.active fun _ => rfl
theorem syncSums_freeCount (s : State) : s.syncSums.freeCount = s.freeCount :=
  of_regOnly (syncSums_regOnly s) State.freeCount fun _ => rfl

theorem syncSums_get (s : State) {g : Fld} (hg : showsSum (g.key / 32) = false) : s.syncSums.get g = s.get g := by
  have hne {f : Fld} (hf : showsSum (f.key / 32) = true) : ¬g.key = f.key := fun e => by rw [e, hf] at hg; exact Bool.noConfusion hg
  unfold State.syncSums
  dsimp only
  rw [foldl_keeps_mem (fun u : State => u.get g) _ _ fun u n hn => ?_]
  · rw [State.get_set_of_key_ne _ _ (hne rfl), State.get_set_of_key_ne _ _ (hne rfl), State.get_set_of_key_ne _ _ (hne rfl)]
  · have hn := List.mem_range.mp hn
    rw [State.get_set_of_key_ne _ _ (hne (showsSum_of_group (by simp; omega) (by simp; omega))),
      State.get_set_of_key_ne _ _ (hne (showsSum_of_group (by simp; omega) (by simp; omega)))]

theorem syncSums_FREE (s : State) : s.syncSums.get CAN.POOL.FREE = s.freeCount % 65536 := by
  unfold State.syncSums
  dsimp only
  rw [foldl_keeps_mem (fun u : State => u.get CAN.POOL.FREE) _ _ fun u n hn => ?_]
  · rw [State.get_set_of_key_ne _ _ (by simp), State.get_set_same]
    rfl
  · have hn := List.mem_range.mp hn
    rw [State.get_set_of_key_ne _ _ (by simp; omega), State.get_set_of_key_ne _ _ (by simp; omega)]

/-! The cancellers -/

theorem cs_of_canS {s t : State} (h : t.canS = s.canS) (i : Nat) : t.cs i = s.cs i := by rw [State.cs, State.cs, h]

/-! A warm load is abandoned -/

/-- The warm load at the head of the queue shows in SLOT_INFO, and in nothing else. -/
theorem warmHead_regOnly (s : State) : s.warmHead = { s with reg := s.warmHead.reg } := by
  unfold State.warmHead
  split <;> rfl

theorem dropWarm_can (s : State) (i : Nat) : (s.dropWarm i).can = { s.can with warmQ := s.can.warmQ.filter (· != i) } :=
  of_regOnly (warmHead_regOnly _) State.can fun _ => rfl
theorem dropWarm_canS (s : State) (i : Nat) : (s.dropWarm i).canS = s.canS := of_regOnly (warmHead_regOnly _) State.canS fun _ => rfl
theorem dropWarm_active (s : State) (i : Nat) : (s.dropWarm i).active = s.active := of_regOnly (warmHead_regOnly _) State.active fun _ => rfl
theorem dropWarm_nvm (s : State) (i : Nat) : (s.dropWarm i).nvm = s.nvm := of_regOnly (warmHead_regOnly _) State.nvm fun _ => rfl

theorem dropWarm_get (s : State) (i : Nat) {g : Fld} (hg : ∀ j, ¬g.key = (CAN.SLOT_INFO.WARM_PEND j).key) : (s.dropWarm i).get g = s.get g :=
  (warmHead_get _ hg).trans (State.get_set_of_key_ne s 0 (hg i))

/-- No load of the slot is pending any more. -/
theorem dropWarm_WARM_PEND (s : State) (i : Nat) : (s.dropWarm i).get (CAN.SLOT_INFO.WARM_PEND i) = 0 := by
  have hzero : (s.set (CAN.SLOT_INFO.WARM_PEND i) 0).get (CAN.SLOT_INFO.WARM_PEND i) = 0 := State.get_set_same _ _ _
  unfold State.dropWarm State.warmHead
  split
  · exact hzero
  next j _ hq =>
    have hj : j ∈ s.can.warmQ.filter (· != i) := by rw [show s.can.warmQ.filter (· != i) = _ from hq]; exact List.mem_cons_self
    have hji : j ≠ i := by simpa using (List.mem_filter.mp hj).2
    exact (State.get_set_of_key_ne _ _ (by simp; omega)).trans hzero

theorem dropWarm_warmQ (s : State) (i : Nat) : (s.dropWarm i).can.warmQ.contains i = false := by
  rw [dropWarm_can]
  simp

end Sys2Proof.Machine
end

section
/-! SUPPORT. Resizes and modes of a slot's canceller, and the return of extents (R190, R194, R196, R198). -/
namespace Sys2Proof.Machine
open Sys2Proof

/-! CAN_CFG -/

theorem fieldsAt_slot {i o : Nat} (hi : i < 512) (ho : o < 0x40) : fieldsAt (slotBase i + o) = (rowFields (SLP.rows i) o).getD [] := by
  have haddr : slotBase i + o < 0x80000 := by rw [slotBase]; omega
  have hpage : (slotBase i + o) / 0x1000 = 0x40 + i / 8 := by rw [slotBase]; omega
  have hoff : (slotBase i + o) % 0x1000 = 0x100 + o + 0x40 * (i % 8) := by rw [slotBase]; omega
  have hslot : 8 * (0x40 + i / 8 - 0x40) + (0x100 + o + 0x40 * (i % 8) - 0x100) / 0x40 = i := by omega
  have hword : (0x100 + o + 0x40 * (i % 8)) % 0x40 = o := by omega
  rw [fieldsAt, regFields, if_pos haddr]
  dsimp only
  rw [hpage, hoff, if_neg (by omega), if_pos (by omega), if_pos (by omega), hslot, hword]

/-- The fields of a slot's CAN_CFG. -/
def canCfgFields (i : Nat) : List Fld := [SLP.CAN_CFG.MODE i, SLP.CAN_CFG.ALT i, SLP.CAN_CFG.WARM i, SLP.CAN_CFG.EXT3 i,
  SLP.CAN_CFG.EXT2 i, SLP.CAN_CFG.EXT1 i, SLP.CAN_CFG.EXT0 i]

theorem fieldsAt_CAN_CFG {i : Nat} (hi : i < 512) : fieldsAt (slotBase i + 0x28) = canCfgFields i := by
  rw [fieldsAt_slot hi (by decide)]
  simp [SLP.rows, rowFields, RegRow.idx, canCfgFields]

theorem canCfgFields_rw (i : Nat) : ∀ f ∈ canCfgFields i, f.acc = .rw := by
  simp only [canCfgFields, List.forall_mem_cons]
  exact ⟨rfl, rfl, rfl, rfl, rfl, rfl, rfl, fun _ h => absurd h List.not_mem_nil⟩

theorem canCfgFields_apart (i : Nat) : (canCfgFields i).Pairwise fun f g => f.key ≠ g.key := by
  simp [canCfgFields]

theorem canCfgFields_key {i : Nat} {f : Fld} (hf : f ∈ canCfgFields i) : f.key / 32 = slotBase i + 0x28 := by
  revert f
  simp only [canCfgFields, List.forall_mem_cons]
  refine ⟨?_, ?_, ?_, ?_, ?_, ?_, ?_, fun _ h => absurd h List.not_mem_nil⟩ <;> simp <;> omega

section
variable (s : State) {i : Nat} (hi : i < 512) (v : Word)
include hi

/-- A field of CAN_CFG takes its bits of the written word. -/
theorem writeCanCfg_get {f : Fld} (hf : f ∈ canCfgFields i) : (s.writeReg (slotBase i + 0x28) v).get f = f.of v := by
  rw [State.writeReg, fieldsAt_CAN_CFG hi]
  exact writeFlds_get (canCfgFields_rw i) (canCfgFields_apart i) v hf s

theorem writeCanCfg_extCfg : (s.writeReg (slotBase i + 0x28) v).extCfg i = canLay i v := by
  unfold State.extCfg canLay
  rw [writeCanCfg_get s hi v (f := SLP.CAN_CFG.EXT0 i) (by simp [canCfgFields]),
    writeCanCfg_get s hi v (f := SLP.CAN_CFG.EXT1 i) (by simp [canCfgFields]),
    writeCanCfg_get s hi v (f := SLP.CAN_CFG.EXT2 i) (by simp [canCfgFields]),
    writeCanCfg_get s hi v (f := SLP.CAN_CFG.EXT3 i) (by simp [canCfgFields])]

theorem writeCanCfg_keeps : Keeps s (s.writeReg (slotBase i + 0x28) v) ((canCfgFields i).map Fld.key) := by
  rw [State.writeReg, fieldsAt_CAN_CFG hi]
  exact writeFlds_keeps s (canCfgFields i) v

end

section
variable {s : State} (m : Nat) {i : Nat} {v : Word}

/-- A write while the slot is OFF, or one that keeps the layout, takes its values. -/
theorem canCfg_taken (h : s.get (SLP.SLOT_STAT.STATE i) = 0 ∨ (s.get (SLP.SLOT_STAT.STATE i) ≠ 1 ∧ canLay i v = s.extCfg i ∧
    v.getLsbD 29 = s.flag (SLP.CAN_CFG.ALT i))) : s.canCfg m i v = s.writeReg (slotBase i + 0x28) v := by
  unfold State.canCfg
  dsimp only
  rcases h with hoff | ⟨hcheck, hlay, halt⟩
  · exact if_pos hoff
  · rw [if_neg hcheck, if_neg (not_or.mpr ⟨not_not.mpr hlay, not_not.mpr halt⟩), ite_self]

theorem canCfg_locked (h : s.get (SLP.SLOT_STAT.STATE i) = 1) : s.canCfg m i v = s.fwdNote i FWD.src.CFG_LOCKED m := by
  simp only [State.canCfg, h]
  rfl

theorem canCfg_resize (h : 2 ≤ s.get (SLP.SLOT_STAT.STATE i)) (hlay : canLay i v ≠ s.extCfg i ∨ v.getLsbD 29 ≠ s.flag (SLP.CAN_CFG.ALT i)) :
    s.canCfg m i v = s.resizeReq m i v := by
  unfold State.canCfg
  dsimp only
  rw [if_neg (lt_of_lt_of_le (by decide : stOff < 2) h).ne', if_neg (lt_of_lt_of_le (by decide : stCheck < 2) h).ne', if_pos hlay]

end

/-! Resize requests -/

/-- CAN.RESIZE shows the result of a request. -/
def State.resizeNoted (s : State) (i c : Nat) : State := (s.set CAN.RESIZE.RESULT c).set CAN.RESIZE.SLOT i

/-- An accepted request in the registers. -/
def State.resizeWritten (s : State) (i : Nat) (v : Word) : State :=
  ((s.resizeNoted i 1).writeReg (slotBase i + 0x28) v).set CAN.RESIZE.PENDING 1

/-- The extents that a request takes from the pool. -/
def State.resizeAdd (s : State) (i : Nat) (lay : List Nat) (alt : Bool) : List Xt :=
  mkXts (openPlaces (places lay alt) (s.cs i).xts) (s.takeFree (s.growth i lay alt))

/-- The canceller of a slot whose growth waits since an instant. -/
def CanSlot.grows (x : CanSlot) (add : List Xt) (t : Nat) : CanSlot := { x with add := add, resizeAt := some t }

/-- An accepted request. -/
def State.resizeTaken (s : State) (i : Nat) (v : Word) : State :=
  (((s.resizeWritten i v).modCs i fun x => x.grows (s.resizeAdd i (canLay i v) (v.getLsbD 29)) (s.resizeWritten i v).now).dropWarm i).syncSums

theorem resizeReq_taken {s : State} (m : Nat) {i : Nat} {v : Word} (h : s.resizeResult i (canLay i v) (v.getLsbD 29) = 1) :
    s.resizeReq m i v = s.resizeTaken i v := by
  unfold State.resizeReq
  dsimp only
  rw [h, if_neg (not_not.mpr rfl)]
  rfl

theorem resizeReq_refused {s : State} (m : Nat) {i : Nat} {v : Word} (h : s.resizeResult i (canLay i v) (v.getLsbD 29) ≠ 1) :
    s.resizeReq m i v = (s.resizeNoted i (s.resizeResult i (canLay i v) (v.getLsbD 29))).canNote i CAN.src.RESIZE_REFUSED m := if_pos h

theorem resizeResult_lt (s : State) (i : Nat) (lay : List Nat) (alt : Bool) : s.resizeResult i lay alt < 16 := by
  unfold State.resizeResult
  dsimp only
  split_ifs <;> decide

theorem resizeNoted_shows (s : State) (i : Fin 512) {c : Nat} (hc : c < 16) :
    (s.resizeNoted i c).get CAN.RESIZE.RESULT = c ∧ (s.resizeNoted i c).get CAN.RESIZE.SLOT = i.val ∧
      Keeps s (s.resizeNoted i c) [CAN.RESIZE.RESULT.key, CAN.RESIZE.SLOT.key] := by
  refine ⟨?_, ?_, ((Keeps.refl s _).set c (by simp)).set i (by simp)⟩
  · rw [State.resizeNoted, State.get_set_of_key_ne _ _ (by simp), State.get_set_same]
    exact Nat.mod_eq_of_lt hc
  · rw [State.resizeNoted, State.get_set_same]
    exact Nat.mod_eq_of_lt i.isLt

/-- A register outside CAN_CFG reads as CAN.RESIZE has it. -/
theorem resizeWritten_get (s : State) {i : Nat} (hi : i < 512) (v : Word) {g : Fld} (hg : g.key < 32 * 0x40000)
    (hpend : ¬g.key = CAN.RESIZE.PENDING.key) : (s.resizeWritten i v).get g = (s.resizeNoted i 1).get g := by
  rw [State.resizeWritten, State.get_set_of_key_ne _ _ hpend]
  refine writeCanCfg_keeps _ hi v g fun hmem => ?_
  simp [canCfgFields, slotBase] at hmem
  omega

theorem resizeWritten_canCfg (s : State) {i : Nat} (hi : i < 512) (v : Word) {f : Fld} (hf : f ∈ canCfgFields i) :
    (s.resizeWritten i v).get f = f.of v := by
  rw [State.resizeWritten, State.get_set_of_key_ne, writeCanCfg_get _ hi v hf]
  revert f
  simp [canCfgFields, slotBase]
  omega

theorem resizeNoted_regOnly (s : State) (i c : Nat) : s.resizeNoted i c = { s with reg := (s.resizeNoted i c).reg } := rfl

theorem resizeWritten_regOnly (s : State) (i : Nat) (v : Word) : s.resizeWritten i v = { s with reg := (s.resizeWritten i v).reg } := by
  have hwrite := regOnly_trans (resizeNoted_regOnly s i 1) (writeReg_regOnly (s.resizeNoted i 1) (slotBase i + 0x28) v)
  exact set_regOnly hwrite CAN.RESIZE.PENDING 1

/-- An accepted request leaves a register that shows neither a sum nor a warm load as the write has it. -/
theorem resizeTaken_get (s : State) (i : Nat) (v : Word) {g : Fld} (hsum : showsSum (g.key / 32) = false)
    (hwarm : ∀ j, ¬g.key = (CAN.SLOT_INFO.WARM_PEND j).key) : (s.resizeTaken i v).get g = (s.resizeWritten i v).get g :=
  (syncSums_get _ hsum).trans ((dropWarm_get _ i hwarm).trans (State.modCs_get _ _ _ g))

/-- What an accepted request leaves of the canceller. -/
theorem resizeTaken_shows (s : State) (i : Nat) (v : Word) :
    (s.resizeTaken i v).cs i = (s.cs i).grows (s.resizeAdd i (canLay i v) (v.getLsbD 29)) s.now ∧
      (s.resizeTaken i v).active = s.active ∧ (s.resizeTaken i v).can.pool = s.can.pool := by
  have hwritten := resizeWritten_regOnly s i v
  have hcanS : (s.resizeTaken i v).canS = _ := (syncSums_canS _).trans (dropWarm_canS _ i)
  refine ⟨?_, ?_, ?_⟩
  · have hcs : (s.resizeWritten i v).cs i = s.cs i := of_regOnly hwritten (fun t => t.cs i) fun _ => rfl
    rw [State.cs, hcanS, ← of_regOnly hwritten State.now fun _ => rfl, ← hcs]
    exact modCs_cs_same _ _ _
  · exact (syncSums_active _).trans ((dropWarm_active _ i).trans ((State.modCs_active _ _ _).trans (of_regOnly hwritten State.active fun _ => rfl)))
  · rw [State.resizeTaken, syncSums_can, dropWarm_can, State.modCs_can, of_regOnly hwritten State.can fun _ => rfl]

/-! The writes -/

section
variable {s : State} {m : Master} {i : Fin 512} {v : Word} (ht : s.takes m (slotBase i + 0x28) v)
include ht

theorem canCfgWrite_of_takes : s.canCfgWrite m i v = (s.outcome m 0).canCfg m.num i v :=
  guarded_of_takes (fun t => t.canCfg m.num i v) ht (by rw [pageOf, slotBase]; omega)

theorem canResize_accepted (hstate : 2 ≤ s.get (SLP.SLOT_STAT.STATE i))
    (hlay : canLay i v ≠ s.extCfg i ∨ v.getLsbD 29 ≠ s.flag (SLP.CAN_CFG.ALT i)) (hok : s.resizeResult i (canLay i v) (v.getLsbD 29) = 1) :
    AnswersSettled (.canResizeRequest m i v) s fun u =>
      u.get CAN.RESIZE.RESULT = 1 ∧ u.get CAN.RESIZE.PENDING = 1 ∧ u.get CAN.RESIZE.SLOT = i.val ∧
      u.get (SLP.CAN_CFG.MODE i) = bits v.toNat 30 2 ∧ u.extCfg i = canLay i v ∧
      (u.cs i).resizeAt = some s.now ∧ (u.cs i).mode = (s.cs i).mode ∧ (u.cs i).xts = (s.cs i).xts ∧
      (u.cs i).lay = (s.cs i).lay ∧ u.active = s.active ∧ u.can.pool = s.can.pool := by
  have hreq := (canCfg_resize (s := s.outcome m 0) m.num hstate hlay).trans (resizeReq_taken m.num hok)
  obtain ⟨hcs, hactive, hpool⟩ := resizeTaken_shows (s.outcome m 0) i v
  obtain ⟨hresult, hslot, -⟩ := resizeNoted_shows (s.outcome m 0) i (by decide : 1 < 16)
  have hget {g : Fld} (hg : g ∈ canCfgFields i) : ((s.outcome m 0).resizeTaken i v).get g = g.of v := by
    have hkey := canCfgFields_key hg
    have haddr : 0x40000 ≤ g.key / 32 ∧ g.key / 32 < 0x80000 := by rw [hkey, slotBase]; omega
    rw [resizeTaken_get _ _ _ (by simp [showsSum]; omega) (fun j => by simp; omega), resizeWritten_canCfg _ i.isLt v hg]
  refine answersSettled_of rfl ((canCfgWrite_of_takes ht).trans hreq) ⟨?_, ?_, ?_, ?_, ?_, ?_, ?_, ?_, ?_, hactive, hpool⟩
  · rw [resizeTaken_get _ _ _ rfl (fun j => by simp; omega), resizeWritten_get _ i.isLt v (by simp) (by simp), hresult]
  · rw [resizeTaken_get _ _ _ rfl (fun j => by simp; omega)]
    exact State.get_set_same _ _ _
  · rw [resizeTaken_get _ _ _ rfl (fun j => by simp; omega), resizeWritten_get _ i.isLt v (by simp) (by simp), hslot]
  · exact hget (by simp [canCfgFields])
  · unfold State.extCfg
    rw [hget (by simp [canCfgFields]), hget (by simp [canCfgFields]), hget (by simp [canCfgFields]), hget (by simp [canCfgFields])]
    rfl
  all_goals rw [hcs]; rfl

theorem canResize_refused (hstate : 2 ≤ s.get (SLP.SLOT_STAT.STATE i))
    (hlay : canLay i v ≠ s.extCfg i ∨ v.getLsbD 29 ≠ s.flag (SLP.CAN_CFG.ALT i)) (hno : s.resizeResult i (canLay i v) (v.getLsbD 29) ≠ 1) :
    AnswersVia (.canResizeRequest m i v) s (fun u => (u.canNote i CAN.src.RESIZE_REFUSED m.num).settle) fun u =>
      u.get CAN.RESIZE.RESULT = s.resizeResult i (canLay i v) (v.getLsbD 29) ∧ u.get CAN.RESIZE.SLOT = i.val ∧
      Keeps s u [CAN.RESIZE.RESULT.key, CAN.RESIZE.SLOT.key] ∧ u.canS = s.canS ∧ u.can = s.can := by
  have hreq := (canCfg_resize (s := s.outcome m 0) m.num hstate hlay).trans (resizeReq_refused m.num hno)
  obtain ⟨hresult, hslot, hkeeps⟩ := resizeNoted_shows (s.outcome m 0) i (resizeResult_lt s i (canLay i v) (v.getLsbD 29))
  exact answersVia_of rfl (congrArg State.settle ((canCfgWrite_of_takes ht).trans hreq)) ⟨hresult, hslot, hkeeps, rfl, rfl⟩

theorem canMode_taken (h : s.get (SLP.SLOT_STAT.STATE i) = 0 ∨ (s.get (SLP.SLOT_STAT.STATE i) ≠ 1 ∧ canLay i v = s.extCfg i ∧
    v.getLsbD 29 = s.flag (SLP.CAN_CFG.ALT i))) :
    AnswersSettled (.canModeWrite m i v) s fun u => u.get (SLP.CAN_CFG.MODE i) = bits v.toNat 30 2 ∧
      u.get (SLP.CAN_CFG.WARM i) = bits v.toNat 28 1 ∧ u.get (SLP.CAN_CFG.ALT i) = bits v.toNat 29 1 ∧ u.extCfg i = canLay i v ∧
      u.canS = s.canS ∧ Keeps s u [(SLP.CAN_CFG.MODE i).key, (SLP.CAN_CFG.WARM i).key, (SLP.CAN_CFG.ALT i).key,
        (SLP.CAN_CFG.EXT0 i).key, (SLP.CAN_CFG.EXT1 i).key, (SLP.CAN_CFG.EXT2 i).key, (SLP.CAN_CFG.EXT3 i).key] := by
  have hget {g : Fld} (hg : g ∈ canCfgFields i) := writeCanCfg_get (s.outcome m 0) i.isLt v hg
  refine answersSettled_of rfl ((canCfgWrite_of_takes ht).trans (canCfg_taken (s := s.outcome m 0) m.num h))
    ⟨hget (by simp [canCfgFields]), hget (by simp [canCfgFields]), hget (by simp [canCfgFields]), writeCanCfg_extCfg _ i.isLt v,
      of_regOnly (writeReg_regOnly (s.outcome m 0) _ v) State.canS fun _ => rfl, (writeCanCfg_keeps (s.outcome m 0) i.isLt v).mono ?_⟩
  simp [canCfgFields]

theorem canMode_locked (h : s.get (SLP.SLOT_STAT.STATE i) = 1) :
    AnswersVia (.canModeWrite m i v) s (fun u => (u.fwdNote i FWD.src.CFG_LOCKED m.num).settle) fun u => Keeps s u [] ∧ u.canS = s.canS :=
  answersVia_of rfl (congrArg State.settle ((canCfgWrite_of_takes ht).trans (canCfg_locked (s := s.outcome m 0) m.num h)))
    ⟨Keeps.of_reg rfl _, rfl⟩

end

/-! Returned extents -/

/-- The zeroing of a slot's extents has ended: those with a double-bit error are retired. -/
def State.zeroed (s : State) (i : Nat) : State :=
  { s with can := { s.can with
      zeroing := Tab.set [] s.can.zeroing i []
      retired := ((Tab.get [] s.can.zeroing i).filter s.can.bad.contains).foldl NSet.add s.can.retired } }

/-- The registers follow. -/
def State.zeroedShown (s : State) (i : Nat) : State := (s.zeroed i).set CAN.POOL_ERR.RETIRED (min 255 (s.zeroed i).can.retired.length)

theorem returned_eq (s : State) (i : Nat) : s.returned i = (s.zeroedShown i).syncSums := rfl

theorem zeroed_retires {s : State} {i e : Nat} (he : e ∈ Tab.get [] s.can.zeroing i) (hbad : s.can.bad.contains e = true) :
    (s.zeroed i).can.retired.contains e = true :=
  List.contains_iff_mem.mpr (NSet.mem_foldl_add.mpr (.inl (List.mem_filter.mpr ⟨he, hbad⟩)))

theorem extentReturn_answers (s : State) (i : Fin 512) : Answers (.extentReturnDone i) s fun u =>
    Tab.get [] u.can.zeroing i = [] ∧
    (∀ e ∈ Tab.get [] s.can.zeroing i, s.can.bad.contains e = true → u.can.retired.contains e = true) ∧
    u.get CAN.POOL_ERR.RETIRED = min 255 u.can.retired.length ∧ u.get CAN.POOL.FREE = u.freeCount % 65536 ∧
    u.can.pool = s.can.pool ∧ u.canS = s.canS ∧ u.active = s.active := by
  have hcan : (s.zeroedShown i).syncSums.can = (s.zeroed i).can := syncSums_can _
  refine answers_of rfl (returned_eq s i) ⟨?_, fun e he hbad => ?_, ?_, ?_, ?_, syncSums_canS _, syncSums_active _⟩
  · rw [hcan]
    exact Tab.get_set_same [] s.can.zeroing i []
  · rw [hcan]
    exact zeroed_retires he hbad
  · rw [hcan, syncSums_get _ rfl, State.zeroedShown, State.get_set_same]
    exact Nat.mod_eq_of_lt (lt_of_le_of_lt (min_le_left _ _) (by decide))
  · rw [syncSums_FREE, syncSums_freeCount]
  · rw [hcan]
    rfl

/-- Settles O35, write by write: the layout and the state of the slot tell which of the canceller's four answers a write of CAN_CFG has. -/
theorem cancellerWrites : Obligations.CancellerWrites :=
  ⟨fun _ _ _ _ ht => ⟨fun hstate hlay hok => canResize_accepted ht hstate hlay hok,
      fun hstate hlay hno => canResize_refused ht hstate hlay hno, fun h => canMode_taken ht h, fun h => canMode_locked ht h⟩,
    fun s i => extentReturn_answers s i⟩

end Sys2Proof.Machine
end

section
/-! SUPPORT. Divergence, warm loads and coupling snapshots (R211, R213 to R215, R396). -/
namespace Sys2Proof.Machine
open Sys2Proof

/-! Entries of the shadow that are cleared -/

theorem Tab.get_clear {α : Type} (d : α) (t : Tab α) (lo n k : Nat) :
    Tab.get d (Tab.clear t lo n) k = if lo ≤ k ∧ k < lo + n then d else Tab.get d t k := by
  refine (Tab.get_filter_key d t (fun k => !(lo ≤ k && k < lo + n)) k).trans ?_
  by_cases h : lo ≤ k ∧ k < lo + n <;> simp [h]

/-- An entry in one of the cleared ranges, or zero before, is zero. -/
theorem Tab.get_foldl_clear (lo : Nat → Nat) (n k : Nat) (es : List Nat) (t : Tab Nat)
    (h : Tab.get 0 t k = 0 ∨ ∃ e ∈ es, lo e ≤ k ∧ k < lo e + n) : Tab.get 0 (es.foldl (fun t e => Tab.clear t (lo e) n) t) k = 0 := by
  induction es generalizing t with
  | nil => exact h.resolve_right fun ⟨_, he, _⟩ => absurd he List.not_mem_nil
  | cons e es ih =>
    refine ih (Tab.clear t (lo e) n) ?_
    rw [Tab.get_clear]
    rcases h with hzero | ⟨e', he', hk⟩
    · exact .inl (by rw [hzero, ite_self])
    · rcases List.mem_cons.mp he' with rfl | he'
      · exact .inl (if_pos hk)
      · exact .inr ⟨e', he', hk⟩

theorem zeroShadow_pool (s : State) (i : Nat) {es : List Nat} {e k : Nat} (he : e ∈ es) (hk : k < 64) :
    Tab.get 0 (s.zeroShadow i es).can.pool (s.bankAt i e false + k) = 0 :=
  Tab.get_foldl_clear (fun e => s.bankAt i e false) 64 _ es s.can.pool (.inr ⟨e, he, by omega, by omega⟩)

/-! Divergence -/

/-- The canceller of a slot whose zeroed shadow waits for its commit. -/
def CanSlot.diverges (x : CanSlot) : CanSlot := { x with divWin := 0, zeroDue := true, adaptAt := none, warm := none, warmAt := none }

/-- The shadow of a divergent slot is zero. -/
def State.divergeZeroed (s : State) (i : Nat) : State := (s.zeroShadow i ((s.cs i).xts.map (·.ext))).modCs i CanSlot.diverges

/-- The registers of a divergent slot: DIVERGED, and a cold start of its governor. -/
def State.divergeShown (s : State) (i : Nat) : State :=
  ((((s.dropWarm i).set (CAN.SLOT_INFO.DIVERGED i) 1).divergeCap i).set (GOV.SLOT_GOV.WARMR i) 0).set (GOV.SLOT_GOV.URG i) 3

/-- An ISOLATION job of a slot is due. -/
def State.wantIsolation (s : State) (i : Nat) : State := { s with can := { s.can with due := NSet.add s.can.due (8 * i + 5) } }

theorem wantIsolation_get (s : State) (i : Nat) (g : Fld) : (s.wantIsolation i).get g = s.get g := rfl
theorem wantIsolation_canS (s : State) (i : Nat) : (s.wantIsolation i).canS = s.canS := rfl
theorem wantIsolation_active (s : State) (i : Nat) : (s.wantIsolation i).active = s.active := rfl
theorem wantIsolation_pool (s : State) (i : Nat) : (s.wantIsolation i).can.pool = s.can.pool := rfl

theorem diverge_eq (s : State) (i : Nat) : s.diverge i = (((s.divergeZeroed i).divergeShown i).wantIsolation i).canNote i CAN.src.DIVERGE 7 := rfl

theorem divergeShown_regs (s : State) (i : Nat) : (s.divergeShown i).get (CAN.SLOT_INFO.DIVERGED i) = 1 ∧
    (s.divergeShown i).get (GOV.SLOT_GOV.COLD i) = 1 ∧ (s.divergeShown i).get (GOV.SLOT_GOV.URG i) = 3 := by
  refine ⟨?_, ?_, State.get_set_same _ _ _⟩
  · rw [State.divergeShown, State.get_set_of_key_ne _ _ (by simp; omega), State.get_set_of_key_ne _ _ (by simp; omega), State.divergeCap,
      State.setCap, State.get_set_of_key_ne _ _ (by simp; omega), State.get_set_of_key_ne _ _ (by simp; omega), State.modGv_get, State.get_set_same]
    rfl
  · rw [State.divergeShown, State.get_set_of_key_ne _ _ (by simp), State.get_set_of_key_ne _ _ (by simp), State.divergeCap, setCap_COLD]

theorem divergeShown_canS (s : State) (i : Nat) : (s.divergeShown i).canS = s.canS := by
  simp only [State.divergeShown, State.divergeCap, State.setCap, State.set_canS, State.modGv_canS, dropWarm_canS]

theorem divergeShown_active (s : State) (i : Nat) : (s.divergeShown i).active = s.active := by
  simp only [State.divergeShown, State.divergeCap, State.setCap, State.set_active, State.modGv_active, dropWarm_active]

theorem divergeShown_pool (s : State) (i : Nat) : (s.divergeShown i).can.pool = s.can.pool := by
  simp only [State.divergeShown, State.divergeCap, State.setCap, State.set_can, State.modGv_can, dropWarm_can]

theorem divergeZeroed_cs (s : State) (i : Nat) : (s.divergeZeroed i).cs i = (s.cs i).diverges := modCs_cs_same _ _ _

/-- The canceller of a slot whose count of divergent windows is another. -/
def CanSlot.divCount (n : Nat) (x : CanSlot) : CanSlot := { x with divWin := n }

section
variable {s : State} {i : Fin 512} {x : Int} (hrun : s.running i = true) (hon : s.stopped 0x20 = false)
include hrun hon

theorem divWindow_within (hx : x ≤ 100 * (s.get CAN.ADAPT_CFG.DIV_DB : Int)) : s.divWindow i x = s.modCs i (CanSlot.divCount 0) := by
  simp only [State.divWindow, hrun, hon, hx, if_true]
  rfl

theorem divWindow_first (hx : 100 * (s.get CAN.ADAPT_CFG.DIV_DB : Int) < x) (hwin : (s.cs i).divWin = 0) :
    s.divWindow i x = s.modCs i (CanSlot.divCount 1) := by
  simp only [State.divWindow, hrun, hon, not_le.mpr hx, hwin]
  rfl

theorem divWindow_second (hx : 100 * (s.get CAN.ADAPT_CFG.DIV_DB : Int) < x) (hwin : 1 ≤ (s.cs i).divWin) :
    s.divWindow i x = s.diverge i := by
  simp only [State.divWindow, hrun, hon, not_le.mpr hx, hwin, if_true]
  rfl

theorem divergence_answers :
    (x ≤ 100 * (s.get CAN.ADAPT_CFG.DIV_DB : Int) → AnswersSettled (.divergenceWindow i x) s fun u => (u.cs i).divWin = 0 ∧ Keeps s u []) ∧
    (100 * (s.get CAN.ADAPT_CFG.DIV_DB : Int) < x → (s.cs i).divWin = 0 → AnswersSettled (.divergenceWindow i x) s fun u =>
      (u.cs i).divWin = 1 ∧ Keeps s u []) ∧
    (100 * (s.get CAN.ADAPT_CFG.DIV_DB : Int) < x → 1 ≤ (s.cs i).divWin →
      AnswersVia (.divergenceWindow i x) s (fun u => (u.canNote i CAN.src.DIVERGE 7).settle) fun u =>
        u.get (CAN.SLOT_INFO.DIVERGED i) = 1 ∧ u.get (GOV.SLOT_GOV.COLD i) = 1 ∧ u.get (GOV.SLOT_GOV.URG i) = 3 ∧
        (u.cs i).zeroDue = true ∧ (u.cs i).adaptAt = none ∧ (u.cs i).xts = (s.cs i).xts ∧ u.active = s.active ∧
        ∀ t ∈ (s.cs i).xts, ∀ k < 64, Tab.get 0 u.can.pool (s.bankAt i t.ext false + k) = 0) := by
  refine ⟨fun hx => ?_, fun hx hwin => ?_, fun hx hwin => ?_⟩
  · exact answersSettled_of rfl (divWindow_within hrun hon hx) ⟨congrArg CanSlot.divWin (modCs_cs_same _ _ _), Keeps.of_reg rfl _⟩
  · exact answersSettled_of rfl (divWindow_first hrun hon hx hwin) ⟨congrArg CanSlot.divWin (modCs_cs_same _ _ _), Keeps.of_reg rfl _⟩
  · obtain ⟨hdiverged, hcold, hurg⟩ := divergeShown_regs (s.divergeZeroed i) i
    have hcs : (((s.divergeZeroed i).divergeShown i).wantIsolation i).cs i = (s.cs i).diverges :=
      (cs_of_canS ((wantIsolation_canS _ i).trans (divergeShown_canS _ i)) i).trans (divergeZeroed_cs s i)
    refine answersVia_of rfl (congrArg State.settle ((divWindow_second hrun hon hx hwin).trans (diverge_eq s i)))
      ⟨(wantIsolation_get _ i _).trans hdiverged, (wantIsolation_get _ i _).trans hcold, (wantIsolation_get _ i _).trans hurg,
        congrArg CanSlot.zeroDue hcs, congrArg CanSlot.adaptAt hcs, by rw [hcs]; rfl,
        (wantIsolation_active _ i).trans (divergeShown_active _ i), fun t ht k hk => ?_⟩
    rw [wantIsolation_pool, divergeShown_pool]
    exact zeroShadow_pool s i (List.mem_map_of_mem ht) hk

end

/-! Warm loads -/

/-- The canceller of a slot whose loaded set waits for its commit since an instant. -/
def CanSlot.warmed (e : SnapSlot) (t : Nat) (x : CanSlot) : CanSlot := { x with shift := e.shift, warmAt := some t }

theorem warmDone_loads {s : State} {i : Nat} {x : SnapSlot} (hhead : s.can.warmQ.head? = some i) (hwarm : (s.cs i).warm = some x)
    (hon : s.stopped 0x20 = false) :
    s.warmDone i = ((s.loadCoeff i x.coeff).modCs i (CanSlot.warmed x s.now)).dropWarm i := by
  unfold State.warmDone
  rw [if_neg (by simp [hhead, hon]), hwarm]
  rfl

theorem warmLoad_answers {s : State} {i : Fin 512} {x : SnapSlot} (hhead : s.can.warmQ.head? = some i.val) (hwarm : (s.cs i).warm = some x)
    (hon : s.stopped 0x20 = false) :
    Answers (.warmLoadDone i) s fun u => u.get (CAN.SLOT_INFO.WARM_PEND i) = 0 ∧ (u.cs i).warmAt = some s.now ∧
      (u.cs i).bank = (s.cs i).bank ∧ u.can.warmQ.contains i.val = false ∧ u.nvm = s.nvm := by
  have hcs : (((s.loadCoeff i x.coeff).modCs i (CanSlot.warmed x s.now)).dropWarm i).cs i = (s.cs i).warmed x s.now :=
    (cs_of_canS (dropWarm_canS _ i) i).trans (modCs_cs_same _ _ _)
  exact answers_of rfl (warmDone_loads hhead hwarm hon)
    ⟨dropWarm_WARM_PEND _ _, by rw [hcs]; rfl, by rw [hcs]; rfl, dropWarm_warmQ _ _, dropWarm_nvm _ _⟩

/-! Snapshot saves -/

/-- The request that a save makes: the site, the time, and the live sets of the slots in use outside BYPASS. -/
def State.snapReq (s : State) : NvmReq :=
  { region := rgSnap
    snap := some { site := s.get CAN.SITE_ID.ID, opSec := s.opSec, slots := (s.enabled.filter fun i => (s.cs i).mode != 0).map s.snapSlot } }

theorem snapSave_busy {s : State} (m : Nat) (h : s.flag CAN.SNAP_STAT.BUSY = true) : s.snapSave m = s := if_pos h

theorem snapSave_queues {s : State} (m : Nat) (h : s.flag CAN.SNAP_STAT.BUSY = false) (hcause : s.nvmCause rgSnap = 0) :
    s.snapSave m = s.queued s.snapReq := by
  unfold State.snapSave
  rw [if_neg (by rw [h]; decide), if_neg (not_not.mpr hcause)]
  exact nvmRequest_queued (r := s.snapReq) m hcause

theorem queued_SNAP_BUSY (s : State) {r : NvmReq} (h : r.region = rgSnap) : (s.queued r).get CAN.SNAP_STAT.BUSY = 1 := by
  have hholds : Nvm.holds { s.nvm with queue := s.nvm.queue ++ [r] } rgSnap = true := by simp [Nvm.holds, h]
  rw [State.queued, syncNvm_eq, State.put, State.get_set_same, State.withNvm_nvm, hholds]
  rfl

theorem queued_length (s : State) (r : NvmReq) : (s.queued r).nvm.queue.length = s.nvm.queue.length + 1 :=
  List.length_append

theorem writeReg_SNAP_CTL (s : State) (v : Word) : s.writeReg 0x2007C v = s.set CAN.SNAP_CTL.AUTO (CAN.SNAP_CTL.AUTO.of v) := rfl

theorem snapshotSave_answers {s : State} {m : Master} {v : Word} (ht : s.takes m 0x2007C v) (hsave : v.getLsbD 0 = true) :
    (s.flag CAN.SNAP_STAT.BUSY = true → AnswersSettled (.snapshotSave m v) s fun u => u.nvm = s.nvm ∧
      u.get CAN.SNAP_CTL.AUTO = bits v.toNat 8 8 ∧ Keeps s u [CAN.SNAP_CTL.AUTO.key]) ∧
    (s.flag CAN.SNAP_STAT.BUSY = false → s.nvmCause rgSnap = 0 → AnswersSettled (.snapshotSave m v) s fun u =>
      u.get CAN.SNAP_STAT.BUSY = 1 ∧ u.get NVM.STAT.BUSY = 1 ∧ u.nvm.queue.length = s.nvm.queue.length + 1 ∧ u.nvm.snap = s.nvm.snap) := by
  have htake : s.snapCtlWrite m v = ((s.outcome m 0).set CAN.SNAP_CTL.AUTO (CAN.SNAP_CTL.AUTO.of v)).snapSave m.num := by
    rw [State.snapCtlWrite, guarded_of_takes (fun t => t.snapCtl m.num v) ht (by decide), State.snapCtl, if_pos hsave, writeReg_SNAP_CTL]
  have hflag : ((s.outcome m 0).set CAN.SNAP_CTL.AUTO (CAN.SNAP_CTL.AUTO.of v)).flag CAN.SNAP_STAT.BUSY = s.flag CAN.SNAP_STAT.BUSY := by
    simp [State.flag]
  refine ⟨fun hbusy => ?_, fun hbusy hcause => ?_⟩
  · refine answersSettled_of rfl (htake.trans (snapSave_busy _ (hflag.trans hbusy)))
      ⟨rfl, (State.get_set_same _ _ _).trans (bits_mod v.toNat 8 8), (Keeps.of_reg rfl _).set _ (List.mem_singleton.mpr rfl)⟩
  · have hnvm := (nvmCause_congr (s := s) (t := (s.outcome m 0).set CAN.SNAP_CTL.AUTO (CAN.SNAP_CTL.AUTO.of v))
      (State.get_set_of_key_ne _ _ (by simp)) rfl rfl rgSnap).trans hcause
    exact answersSettled_of rfl (htake.trans (snapSave_queues _ (hflag.trans hbusy) hnvm))
      ⟨queued_SNAP_BUSY _ rfl, (queued_shows _ _).1, queued_length _ _, rfl⟩

/-- The AUTO interval has expired. -/
def State.autoExpired (s : State) : State :=
  { s.until (s.can.autoAt + s.get CAN.SNAP_CTL.AUTO * ms 360000) with
    can := { s.can with autoAt := (s.until (s.can.autoAt + s.get CAN.SNAP_CTL.AUTO * ms 360000)).now } }

theorem snapAuto_saves {s : State} (hauto : s.get CAN.SNAP_CTL.AUTO ≠ 0) (hreset : s.inReset = false) (hloaded : s.rst.loaded = true) :
    s.snapAuto = s.autoExpired.snapSave 7 := by
  unfold State.snapAuto
  dsimp only
  rw [if_neg (by simp [hauto, hreset, hloaded])]
  rfl

theorem snapshotAuto_answers {s : State} (hauto : s.get CAN.SNAP_CTL.AUTO ≠ 0) (hreset : s.inReset = false) (hloaded : s.rst.loaded = true)
    (hbusy : s.flag CAN.SNAP_STAT.BUSY = false) (hcause : s.nvmCause rgSnap = 0) :
    AnswersSettled .snapshotAuto s fun u => u.get CAN.SNAP_STAT.BUSY = 1 ∧ u.nvm.queue.length = s.nvm.queue.length + 1 ∧
      s.can.autoAt + s.get CAN.SNAP_CTL.AUTO * ms 360000 ≤ u.now ∧ u.can.autoAt = u.now :=
  answersSettled_of rfl ((snapAuto_saves hauto hreset hloaded).trans (snapSave_queues (s := s.autoExpired) 7 hbusy hcause))
    ⟨queued_SNAP_BUSY _ rfl, queued_length _ _, le_max_right s.now _, rfl⟩

/-! The end of a save -/

section
variable {s : State} {q : NvmReq} {l : List NvmReq} (hq : s.nvm.queue = q :: l) (hregion : q.region = rgSnap)
include hq hregion

theorem snapEnd_stored : s.snapEnd true = (((s.dequeued { s.nvm.renew rgSnap with snap := q.snap } l).syncSnap.set CAN.SNAP_STAT.RESULT 1).nvmEnd
    7 rgSnap 1).fire 0x20 CAN.src.SNAP_DONE {} := by
  unfold State.snapEnd
  rw [hq]
  dsimp only
  rw [if_neg (not_not.mpr hregion)]
  rfl

theorem snapEnd_cut : s.snapEnd false = (((s.dequeued s.nvm l).set CAN.SNAP_STAT.RESULT 3).nvmEnd 7 rgSnap 6).fire 0x20 CAN.src.SNAP_FAIL {} := by
  unfold State.snapEnd
  rw [hq]
  dsimp only
  rw [if_neg (not_not.mpr hregion)]
  rfl

theorem snapshotSaveDone_answers :
    (AnswersVia (.snapshotSaveDone true) s (fun u => ((u.nvmEnd 7 rgSnap 1).fire 0x20 CAN.src.SNAP_DONE {}).settle) fun u =>
      u.nvm.snap = q.snap ∧ u.nvm.queue = l ∧ u.get CAN.SNAP_STAT.RESULT = 1) ∧
    AnswersVia (.snapshotSaveDone false) s (fun u => ((u.nvmEnd 7 rgSnap 6).fire 0x20 CAN.src.SNAP_FAIL {}).settle) fun u =>
      u.nvm.snap = s.nvm.snap ∧ u.nvm.queue = l ∧ u.get CAN.SNAP_STAT.RESULT = 3 :=
  ⟨answersVia_of rfl (congrArg State.settle (snapEnd_stored hq hregion)) ⟨rfl, rfl, State.get_set_same _ _ _⟩,
   answersVia_of rfl (congrArg State.settle (snapEnd_cut hq hregion)) ⟨rfl, rfl, State.get_set_same _ _ _⟩⟩

end

/-- Settles O38, event by event: each is brought to the state that it leaves before its notice, and that state is read off. -/
theorem divergenceWarmAndSnapshots : Obligations.DivergenceWarmAndSnapshots :=
  ⟨fun _ _ _ hrun hon => divergence_answers hrun hon, fun _ _ _ hhead hwarm hon => warmLoad_answers hhead hwarm hon,
    fun _ _ _ ht hsave => snapshotSave_answers ht hsave,
    fun _ hauto hreset hloaded hbusy hcause => snapshotAuto_answers hauto hreset hloaded hbusy hcause,
    fun _ _ _ hq hregion => snapshotSaveDone_answers hq hregion⟩

end Sys2Proof.Machine
end

section
/-! SUPPORT. An ADAPT job that completes on a slot number beyond the 512 slots, whose group would be fed by a cluster's island (R69, R206,
R207, R448). -/
namespace Sys2Proof.Machine
open Sys2Proof

/-! Settling where no slot page has a slot -/

theorem slotOf_beyond {s : State} (h : ∀ i ∈ s.active, 512 ≤ i) {j : Nat} (hj : j < 64) (f : Nat → Bool) : s.slotOf j f = none := by
  refine List.find?_eq_none.mpr fun i hi => ?_
  have hpage : i / 8 ≠ j := by have := h i hi; omega
  simp [hpage]

/-- Where every active slot lies beyond the slot pages, settling leaves the cancellers, the slots and the resets. -/
theorem settle_beyond {s : State} (h : ∀ i ∈ s.active, 512 ≤ i) :
    s.settle.canS = s.canS ∧ s.settle.active = s.active ∧ s.settle.inReset = s.inReset := by
  refine settle_induction (P := fun t => t.canS = s.canS ∧ t.active = s.active ∧ t.inReset = s.inReset) (fun t j hj b f ht => ?_) ⟨rfl, rfl, rfl⟩
  unfold State.follow
  rw [slotOf_beyond (by rwa [ht.2.1]) hj f]
  dsimp only
  split_ifs <;> exact ht

/-- A state that settled out of reset with its active slots beyond the slot pages has the cancellers of before. -/
theorem canS_of_settle_beyond {t u : State} (h : u.settle = t) (hreset : t.inReset = false) (hactive : ∀ i ∈ t.active, 512 ≤ i) :
    u.canS = t.canS := by
  rcases settle_ends u with e | ⟨e, -⟩
  · rw [h, hreset] at e
    exact Bool.noConfusion e
  · rw [h] at e
    rw [← h, (settle_beyond (s := u) (by rwa [← e])).1]

/-! What an ADAPT job's result does -/

/-- An ADAPT result on an invalid input writes nothing. -/
theorem result_withheld {s : State} {j : Job} {post live : Int} (iphys : Option Int) (hkind : j.kind = 1) (hpost : post ≤ live + 50)
    (hbad : (s.covTrack j).inputBad j.slot = true) : s.result j post live iphys = s.covTrack j := by
  unfold State.result
  dsimp only
  rw [if_pos hkind, if_neg (not_lt.mpr hpost), if_neg (by simp [hbad])]

/-- The engine is free again, and its job is counted. -/
def State.jobEnded (s : State) (e : Nat) : State := (s.engineIdle e).wrap (YCL.JOB_DONE.COUNT (e / 16))

theorem jobDone_current {s : State} {e : Nat} {r : Run} (post live : Int) (iphys : Option Int) (hrun : s.runOf e = some r)
    (hcur : (s.jobEnded e).current r.job = true) : s.jobDone e post live iphys = (s.jobEnded e).result r.job post live iphys := by
  unfold State.jobDone
  rw [hrun]
  exact if_pos hcur

/-! The counterexample -/

/-- An ADAPT job of a slot 512, in the cluster whose island would feed that slot's group. -/
def strayRun : Run := { job := { typ := 1, slot := 512 } }

/-- Slot 512 is active and ON, the islands that its number leads to run, and engine 0 of the disabled cluster 0 holds its ADAPT job. -/
def strayed : State :=
  ((((((({ State.reset with active := [512], can := { run := [(0, some strayRun)] } } : State).set (SLP.SLOT_STAT.STATE 512) 4).set
    (CLK.ISL_CLK.SRC_NOW 11) 1).set (CLK.PLL_CTL.LOCK 0) 1).set (HDR.PAGE_CTL.CLK_REQ 0x18) 1).set
    (CLK.ISL_CLK.SRC_NOW 19) 1).set (CLK.PLL_CTL.LOCK 2) 1).set (HDR.PAGE_CTL.CLK_REQ 0x30) 1

/-- While the engine runs, nothing that the slot's number leads to stands still. -/
theorem strayed_input : strayed.inputBad 512 = false ∧ strayed.canBad 512 = false := by decide

/-- With its only job ended the disabled cluster is clock-gated, and the input is invalid. -/
theorem strayed_inputEnded : (strayed.jobEnded 0).inputBad 512 = true := by decide

theorem exec_strayed : exec (.jobComplete 0 0 0 none) strayed = .next (strayed.jobEnded 0).settle := by
  have hjob : strayed.jobDone 0 0 0 none = strayed.jobEnded 0 :=
    (jobDone_current (r := strayRun) 0 0 none rfl (by decide)).trans (result_withheld none rfl (by decide) strayed_inputEnded)
  exact congrArg ok hjob

/-- Refutes O37 in the clause about an ADAPT result that is written. The statement lets a job name any slot; with a slot number of 512, which no
run reaches, the slot's group would be fed by the island of cluster 0. Where that cluster is disabled and the job is its last, the end of the
job gates its clock, so that the input that was valid before the command is invalid when the result comes, and nothing is written. -/
theorem not_jobLife : ¬ Obligations.JobLife := by
  unfold Obligations.JobLife
  intro ⟨_, _, _, hcomplete, _⟩
  obtain ⟨_, _, _, hwritten, _⟩ := hcomplete strayed 0 strayRun 0 0 none rfl
  obtain ⟨t, hexec, -, hadapt, -⟩ := hwritten (by decide) rfl (by decide) rfl rfl strayed_input.1 strayed_input.2
  have hbeyond : ∀ i ∈ (strayed.jobEnded 0).active, 512 ≤ i := by decide
  obtain ⟨hcanS, hactive, hreset⟩ := settle_beyond hbeyond
  have hsettle : t.settle = (strayed.jobEnded 0).settle := Host.Outcome.next.inj (hexec.symm.trans exec_strayed)
  have ht : t.canS = (strayed.jobEnded 0).canS :=
    (canS_of_settle_beyond hsettle hreset (by rwa [hactive])).trans hcanS
  have hnone : (t.cs 512).adaptAt = none := by rw [cs_of_canS ht]; rfl
  exact absurd (hadapt.symm.trans hnone) (by decide)

end Sys2Proof.Machine
end
